-- ==== Sys2Proof/Word.lean ====
section
/-! DEFINITION. The words of the CP16 model: bytes, game time, and the sparse table type in which
repeated state (cores, dies, ports, memory cells) is kept. -/

namespace Sys2Proof

/-- A byte of memory, of a register or of a frame. -/
abbrev Byte := BitVec 8

/-- A game-time value: bits [63:8] integer nanoseconds, bits [7:0] fractions of 1/256 ns (R15). -/
abbrev GT := BitVec 64

/-- A sparse table: key and value pairs in strictly rising key order, no value equal to the table's default. -/
abbrev SMap (α : Type) := List (Nat × α)

/-- Ticks of 1/256 ns in one nanosecond (R15). -/
abbrev tickNs : Nat := 256
/-- Ticks in one microsecond. -/
abbrev tickUs : Nat := 256000
/-- Ticks in one millisecond. -/
abbrev tickMs : Nat := 256000000
/-- Ticks in one second. -/
abbrev tickS : Nat := 256000000000

end Sys2Proof
end

