-- ==== Sys2Proof/Syntax.lean ====
section
/-! DEFINITION. The commands of the CP16: one constructor of `Instr` for each row of spec/opcode_table.json, with the
operands that its rule takes from outside State (the table itself gives none; notes/assumptions/6.md). -/

namespace Sys2Proof

/-- A Folequa packet: the 32-byte header of Table 1 of ch.11, field by field, and the payload (R297). -/
structure Packet where
  op : BitVec 8
  cls : BitVec 2
  ord : Bool
  tile : Bool
  tstate : BitVec 2
  hops : BitVec 4
  lines : BitVec 6
  dstModule : BitVec 16
  srcModule : BitVec 16
  dstDie : BitVec 4
  srcDie : BitVec 4
  flow : BitVec 8
  pseq : BitVec 12
  first : Bool
  txn : BitVec 15
  epoch : BitVec 32
  addr : BitVec 44
  hchk : BitVec 16
  opx : BitVec 64
  payload : List Byte
deriving DecidableEq, Repr, Inhabited

/-- A requester of power leave (Table 3 of ch.16). -/
inductive Requester where
  | dieWake (die : Fin 16)
  | spareSlot (die : Fin 16)
  | combStart (l : Fin 8)
  | ringSweep (l : Fin 8)
  | matrixEngine (die : Fin 16) (core : Fin 32)
  | vectorEngine (die : Fin 16) (core : Fin 32)
  | startTest (die : Fin 16)
  | startLanes (die : Fin 25)
deriving DecidableEq, Repr

/-- An agent that reaches registers, in the order of R142 and R146. -/
inductive Agent where
  | matrix | vector | move | tidy | steward | host
deriving DecidableEq, Repr

/-- Where a register write without a row of its own goes (Table 5 of ch.01, Table 3 of ch.05, Table 3 of ch.20). -/
inductive RegAddr where
  | core (die : Fin 16) (core : Fin 32) (off : Fin 0x10000)
  | dieControl (die : Fin 16) (off : Fin 0x100000)
  | arrival (die : Fin 16) (off : Fin 0x8000)
  | bar0 (off : Fin 0x1000000)
  | config (off : Fin 4096)
deriving DecidableEq, Repr

/-- A read of some bytes or a write of the bytes given. -/
inductive Access where
  | read (len : Nat)
  | write (data : List Byte)
deriving DecidableEq, Repr

/-- What the error-correcting code finds at a read (R171, R178). -/
inductive Ecc where
  | clean
  | corrected (off : Fin 4096)
  | uncorrectable (off : Fin 4096)
  | tagUncorrectable
deriving DecidableEq, Repr

/-- A tile of a compute die: in the local store of a core, or in HBM (R175). -/
inductive TileRef where
  | ls (core : Fin 32) (t : Fin 2048)
  | hbm (t : Fin 0x6000000)
deriving DecidableEq, Repr

/-- A row of HBM (R204). -/
structure RowRef where
  stack : Fin 4
  chan : Fin 32
  pc : Fin 2
  sid : Fin 4
  bg : Fin 4
  ba : Fin 4
  row : Fin 24576
deriving DecidableEq, Repr

/-- A lane of an HBM channel (R204): 0 to 73 data, metadata and parity, 32 + 1 + 4 for each pseudo-channel; 74 the lane of the
command and address group that has failed. -/
structure LaneRef where
  stack : Fin 4
  chan : Fin 32
  lane : Fin 75
deriving DecidableEq, Repr

/-- A physical lane of one direction of a bundle (R275, R276); `rev`: from the die an edge names second to the one named first. -/
structure PanelLane where
  edge : Fin 53
  bundle : Fin 16
  rev : Bool
  lane : Fin 68
deriving DecidableEq, Repr

/-- One direction of a bundle of an edge; `rev` as in `PanelLane`. -/
structure BundleDir where
  bundle : Fin 16
  rev : Bool
deriving DecidableEq, Repr

/-- The setting, in MHz of its range, at which the lock loop of a ring holds it, and the one that it is to take (R260). -/
structure RingShift where
  at_ : Nat
  setting : Nat
deriving DecidableEq, Repr

/-- A comb of a light die: the active one or the standby (R252). -/
structure CombRef where
  l : Fin 8
  standby : Bool
deriving DecidableEq, Repr

/-- A lane to be substituted, and the spare line where the partner's link messages have agreed one (R262). -/
structure LaneSpare where
  lane : Fin 32
  agreed : Option (Fin 4)
deriving DecidableEq, Repr

/-- A port that has failed, and whether the fault lies beyond the module (R263). -/
structure PortFault where
  port : Fin 128
  beyond : Bool
deriving DecidableEq, Repr

/-- A whistle as it arrives: on λ0 in place of λS where `l0` (R222, R255). -/
structure Whistle where
  frame : BitVec 256
  l0 : Bool
deriving DecidableEq, Repr

/-- DETAIL of a fault record, and whether the record shows that the site has detected the fault later than its bound (Table 2 of
ch.15). -/
structure FaultDetail where
  value : BitVec 64
  late : Bool
deriving DecidableEq, Repr

/-- An array of a core, at work for the matrix command of that number (R96, R97). -/
structure CmdArray where
  num : BitVec 64
  arr : Fin 16
deriving DecidableEq, Repr

/-- The residues of a fold: predicted from the operands, and computed from the stored result (R97). -/
structure Residues where
  predicted : BitVec 7
  computed : BitVec 7
deriving DecidableEq, Repr

/-- A packet of a collective, and whether the residue check of the reduction unit fails at the first addition that its chunk
sets off (R381). -/
structure CollChunk where
  pkt : Packet
  residue : Bool
deriving DecidableEq, Repr

/-- The agents that a memory controller serves in round-robin (R200). -/
inductive HbmAgent where
  | move | direct | fabric | host | steward
deriving DecidableEq, Repr

/-- An agent at the HBM controllers of a die (R200). -/
structure HbmPort where
  die : Fin 16
  agent : HbmAgent
deriving DecidableEq, Repr

/-- Where parity fails: in queues (Table 26 of ch.05), and in the move engine's datapath or descriptors for a move command in
execution (Table 21 of ch.05, site 0x04 of Table 1 of ch.15). -/
inductive ParitySite where
  | command (eng : Fin 3) (num : BitVec 64)
  | ringPointer (eng : Fin 3)
  | tileQueue (tq : Fin 16)
  | counter (eng : Fin 4) (idx : Fin 8)
  | comparator (eng : Fin 4) (idx : Fin 4)
  | moveData (num : BitVec 64)
  | moveDesc (num : BitVec 64)
deriving DecidableEq, Repr

/-- A rail of Table 2 of ch.16; the steward rail has two halves (R470). -/
inductive Rail where
  | core (die : Fin 16)
  | mesh (die : Fin 16)
  | hbm (die : Fin 16)
  | alwaysOn (die : Fin 16)
  | light (l : Fin 8)
  | photonics (l : Fin 8)
  | stewardA
  | stewardB
deriving DecidableEq, Repr

/-- An event for the error log (Table 3 of ch.15). -/
structure Event where
  site : BitVec 8
  sev : BitVec 4
  source : BitVec 8
  unit : BitVec 8
  cause : BitVec 16
  detail : BitVec 64
  soft : Bool
deriving DecidableEq, Repr

/-- Causes of a die wake, as PWR.DIE_STATE codes them (R450, R456). -/
inductive WakeCause where
  | requestCleared | access | moduleExit
deriving DecidableEq, Repr

/-- The two management controllers (R470). -/
inductive Ctrl where
  | a | b
deriving DecidableEq, Repr

/-- The transports of Mihimel (R486, R491). -/
inductive Transport where
  | service | mailbox
deriving DecidableEq, Repr

/-- What a frame on the service port is (R486). -/
inductive SvcFrame where
  | neighbourDiscovery
  | echo (data : List Byte)
  | udp (port : BitVec 16) (payload : List Byte)
  | other
deriving DecidableEq, Repr

/-- A frame on the service port and the IPv6 address that it is for (R486). -/
structure SvcPacket where
  adr : BitVec 128
  f : SvcFrame
deriving DecidableEq, Repr

/-- A Mihimel request, its header fields and payload (Table 4 of ch.18). -/
structure MReq where
  transport : Transport
  session : BitVec 8
  counter : BitVec 32
  index : BitVec 16
  sub : BitVec 8
  offset : BitVec 32
  more : Bool
  payload : List Byte
deriving DecidableEq, Repr

/-- A credential slot (R501). -/
inductive CredSlot where
  | key (n : Fin 8)
  | password (n : Fin 4)
deriving DecidableEq, Repr

/-- What a credential write changes (R501). -/
inductive CredField where
  | secret | role
deriving DecidableEq, Repr

/-- A PCIe completion for a module read (R526). -/
inductive Cpl where
  | data (bytes : List Byte)
  | ur | ca | ep
deriving DecidableEq, Repr

/-- The queue registers that take a write only while the queue is disabled and empty (R133). -/
inductive QCfgReg where
  | qBase | qSize | cBase | cSize
deriving DecidableEq, Repr

/-- What a start-up step found (Tables 1 and 4 of ch.21): each list names what failed. -/
structure StepResult where
  straps : BitVec 3
  identity : BitVec 3
  badPrints : List (Fin 25)
  badRecords : List (Fin 25)
  configValid : Bool
  stoppedDies : List (Fin 16)
  failedLights : List (Fin 8)
  badSlots : List (Fin 16 × Fin 36)
  badRows : List (Fin 16 × RowRef)
  badLanes : List (Fin 16 × LaneRef)
  checkersOk : Bool
deriving DecidableEq, Repr

/-- The commands: one constructor for each row of spec/opcode_table.json, in the order of the table. -/
inductive Instr where
  /-- DIE_STATE_FRAME (R27): The steward sends a die-state frame on a spoke at least every 10 µs, carrying sleep commands as levels. -/
  | dieStateFrame (d : Fin 24)
  /-- SPOKE_STATUS_FRAME (R27): A die's status frame arrives with its wake, alarm, temperature and leave levels; the wake level beats a sleep command. -/
  | spokeStatusFrame (d : Fin 24) (ok : Bool) (wake alarm : Bool) (dieTemp : Int) (stackTemps : List Int) (leave : List Requester)
  /-- SPOKE_LOST (R28): Three consecutive status frames from a die are missing or bad, so the steward declares the spoke lost and logs it. -/
  | spokeLost (d : Fin 24)
  /-- FAULT_RECORD (R35): The full fault record arrives later over signal bundles and completes the log entry without moving its detection time. -/
  | faultRecord (src : Fin 25) (site unit : BitVec 8) (cause : BitVec 16) (detail : FaultDetail)
  /-- MX_GEMM (R65): Matrix command that runs P passes of stationary load and streamed rows, folding into accumulator entries with INIT, ACC and FIN. -/
  | mxGemm (die : Fin 16) (core : Fin 32)
  /-- MX_CONV (R84): Matrix command that computes an implicit two-dimensional convolution as a sequence of passes. -/
  | mxConv (die : Fin 16) (core : Fin 32)
  /-- MX_MERGE (R43): Matrix command that folds W96 words from local store into accumulator entries. -/
  | mxMerge (die : Fin 16) (core : Fin 32)
  /-- MX_DRAIN (R78): Matrix command that converts accumulator rows to an output format, with scaling, rounding and optional CLEAR. -/
  | mxDrain (die : Fin 16) (core : Fin 32)
  /-- MX_ZERO (R91): Matrix command that resets accumulator rows. -/
  | mxZero (die : Fin 16) (core : Fin 32)
  /-- MX_ELEM (R89): Matrix command that applies one element-wise operation to E elements with a single rounding. -/
  | mxElem (die : Fin 16) (core : Fin 32)
  /-- MX_FLAGS_CLR (R100): Matrix command that clears MX_FLAGS once every earlier command has completed. -/
  | mxFlagsClr (die : Fin 16) (core : Fin 32)
  /-- FOLD_RESIDUE_CHECK (R97): The modulo-127 residue comparison of a fold completes within 512 cycles and, on mismatch, aborts the command and halts the queue. -/
  | foldResidueCheck (die : Fin 16) (core : Fin 32) (arr : CmdArray) (row : Fin 1024) (col : Fin 128) (res : Residues)
  /-- MX_REGISTER_PARITY_ERROR (R96): A parity error in operand, stationary, skew or deskew registers aborts the matrix command with cause 0x04. -/
  | mxRegisterParityError (die : Fin 16) (core : Fin 32) (arr : CmdArray) (row : Fin 1024) (col : Fin 128)
  /-- ACC_WINDOW_READ (R76): An external read of an accumulator entry returns the W96 word, or waits while the entry is owned. -/
  | accWindowRead (die : Fin 16) (core : Fin 32) (off : Fin 0x200000) (len : Fin 17)
  /-- ACC_WINDOW_WRITE (R76): An external write of an accumulator entry sets entry and tag when whole and aligned, or is discarded with ACC_PARTIAL. -/
  | accWindowWrite (die : Fin 16) (core : Fin 32) (off : Fin 0x200000) (data : List Byte)
  /-- ACC_BUSY (R76): An external access still waiting on an owned entry after 4,096 core cycles completes with status ACC_BUSY. -/
  | accBusy (die : Fin 16) (core : Fin 32)
  /-- MX_IDLE_RELEASE (R95): After the idle time without a command, the matrix engine releases its power leave. -/
  | mxIdleRelease (die : Fin 16) (core : Fin 32)
  /-- MX_FLAGS_W1C (R100): Writing 1 to a bit of MX_FLAGS clears it. -/
  | mxFlagsW1c (die : Fin 16) (core : Fin 32) (v : BitVec 32)
  /-- MX_FAULT_CLEAR (R100): Writing zero to CAUSE of MX_FAULT clears the whole fault record. -/
  | mxFaultClear (die : Fin 16) (core : Fin 32)
  /-- VX_DSET (R108): Vector command that latches a descriptor and sets its cursor to chunk 0. -/
  | vxDset (die : Fin 16) (core : Fin 32)
  /-- VX_LD (R111): Vector command that loads one chunk into a register, converting on the way in. -/
  | vxLd (die : Fin 16) (core : Fin 32)
  /-- VX_ST (R111): Vector command that stores one chunk, converting once to the descriptor's format. -/
  | vxSt (die : Fin 16) (core : Fin 32)
  /-- VX_OP (R156): Vector command that performs one ALU operation selected by its OP code over the active lanes. -/
  | vxOp (die : Fin 16) (core : Fin 32)
  /-- VX_CVT (R558): Vector command that converts elements between lane formats, using HALF for widening or narrowing. -/
  | vxCvt (die : Fin 16) (core : Fin 32)
  /-- VX_FN (R120): Vector command that evaluates one function of the FN unit. -/
  | vxFn (die : Fin 16) (core : Fin 32)
  /-- VX_SHUF (R117): Vector command that applies a butterfly or rotate step to a register. -/
  | vxShuf (die : Fin 16) (core : Fin 32)
  /-- VX_SPLAT (R117): Vector command that splats one lane to all lanes or to groups of 2^j lanes. -/
  | vxSplat (die : Fin 16) (core : Fin 32)
  /-- VX_SRED (R117): Vector command that reduces every group of 2^j lanes by butterfly steps. -/
  | vxSred (die : Fin 16) (core : Fin 32)
  /-- VX_RED (R118): Vector command that reduces dimension 0 of every row into a one-dimensional output in a fixed order. -/
  | vxRed (die : Fin 16) (core : Fin 32)
  /-- VX_LOOP (R112): Vector command that repeats the next B commands for an immediate count or CHUNKS of a descriptor, checking nesting at issue. -/
  | vxLoop (die : Fin 16) (core : Fin 32)
  /-- VX_FLAGS_CLR (R122): Vector command that clears VX_FLAGS after every earlier command completes. -/
  | vxFlagsClr (die : Fin 16) (core : Fin 32)
  /-- VX_CHECK_FAULT (R126): An ALU or FN residue, parity, uncorrectable register ECC or control mismatch is detected and aborts the vector command. -/
  | vxCheckFault (die : Fin 16) (core : Fin 32) (cause : BitVec 8) (lane : Fin 512) (vreg : Fin 16)
  /-- VX_IDLE_RELEASE (R124): After the idle time without a command, the vector engine releases its power leave. -/
  | vxIdleRelease (die : Fin 16) (core : Fin 32)
  /-- VX_FLAGS_W1C (R122): Writing 1 to a bit of VX_FLAGS clears it, unless a command sets it in the same cycle. -/
  | vxFlagsW1c (die : Fin 16) (core : Fin 32) (v : BitVec 32)
  /-- VX_FAULT_CLEAR (R127): Writing zero to CAUSE of VX_FAULT clears the whole fault record. -/
  | vxFaultClear (die : Fin 16) (core : Fin 32)
  /-- Q_TAIL_WRITE (R133): A write of Q_TAIL makes new ring slots available to the engine's fetch. -/
  | qTailWrite (die : Fin 16) (core : Fin 32) (eng : Fin 3) (v : BitVec 32)
  /-- COMMAND_FETCH (R133): A ring slot is read and accepted into the queue with its command number, or the queue halts when the slot cannot be read. -/
  | commandFetch (die : Fin 16) (core : Fin 32) (eng : Fin 3)
  /-- QUEUE_CONFIG_WRITE (R133): A write to Q_BASE, Q_SIZE, C_BASE or C_SIZE takes effect only when the queue is disabled and empty and the value is legal. -/
  | queueConfigWrite (die : Fin 16) (core : Fin 32) (eng : Fin 3) (reg : QCfgReg) (v : BitVec 64)
  /-- Q_CTRL_ENABLE (R137): Writing ENABLE of Q_CTRL starts or stops fetch and issue. -/
  | qCtrlEnable (die : Fin 16) (core : Fin 32) (eng : Fin 3) (on : Bool)
  /-- Q_CTRL_RESUME (R151): Writing RESUME resumes a halted queue according to its halt state and fault record. -/
  | qCtrlResume (die : Fin 16) (core : Fin 32) (eng : Fin 3)
  /-- Q_CTRL_DISCARD (R137): Writing DISCARD to a halted or disabled queue discards every accepted command not issued. -/
  | qCtrlDiscard (die : Fin 16) (core : Fin 32) (eng : Fin 3)
  /-- Q_CTRL_HALT (R137): Writing HALT halts the queue before its next issue in state HALT_REQ. -/
  | qCtrlHalt (die : Fin 16) (core : Fin 32) (eng : Fin 3)
  /-- COMMAND_COMPLETION (R149): A command completes: record written, flags ORed, counter add and handle push made visible, interrupt raised. -/
  | commandCompletion (die : Fin 16) (core : Fin 32) (eng : Fin 3) (num : BitVec 64)
  /-- NOP (R152): Common command that does nothing but carry a wait, fence or signal. -/
  | nop (die : Fin 16) (core : Fin 32) (eng : Fin 3)
  /-- CNT_SET (R152): Common command that sets a counter of any engine of the core. -/
  | cntSet (die : Fin 16) (core : Fin 32) (eng : Fin 3)
  /-- CNT_ADD (R152): Common command that adds to a counter modulo 2^32. -/
  | cntAdd (die : Fin 16) (core : Fin 32) (eng : Fin 3)
  /-- CMP_SET (R152): Common command that loads a comparator of the issuing engine. -/
  | cmpSet (die : Fin 16) (core : Fin 32) (eng : Fin 3)
  /-- TQ_PUSH (R152): Common command that reserves a tile-queue slot and writes a given handle, waiting when the queue is full. -/
  | tqPush (die : Fin 16) (core : Fin 32) (eng : Fin 3)
  /-- AWAIT_GT (R159): Common command that waits until local GT reaches its target, or completes late or with GT_LOST. -/
  | awaitGt (die : Fin 16) (core : Fin 32) (eng : Fin 3)
  /-- AWAIT_GT_FIRE (R159): Local GT reaches the target of an AWAIT_GT in execution, which fires within 2 ns and completes. -/
  | awaitGtFire (die : Fin 16) (core : Fin 32) (eng : Fin 3) (num : BitVec 64)
  /-- HALT (R152): Common command that completes and then halts its queue in HALT_REQ. -/
  | halt (die : Fin 16) (core : Fin 32) (eng : Fin 3)
  /-- SIG0 (R306): Common command that sends one class-0 FLAG to a counter of a core or an arrival counter. -/
  | sig0 (die : Fin 16) (core : Fin 32) (eng : Fin 3)
  /-- MV_COPY (R157): Move command that copies ROWS rows of LEN bytes, optionally ordered and with arrival adds. -/
  | mvCopy (die : Fin 16) (core : Fin 32)
  /-- MV_FILL (R157): Move command that fills ROWS rows with a pattern. -/
  | mvFill (die : Fin 16) (core : Fin 32)
  /-- MV_ATOMIC (R350): Move command that performs one atomic operation on an aligned 8-byte word and returns the old value. -/
  | mvAtomic (die : Fin 16) (core : Fin 32)
  /-- MV_INVAL (R345): Move command that invalidates a range of the die's remote line cache. -/
  | mvInval (die : Fin 16) (core : Fin 32)
  /-- MV_FENCE (R157): Move command that completes once every earlier move command has completed. -/
  | mvFence (die : Fin 16) (core : Fin 32)
  /-- MV_COLL (R365): Move command that starts a collective on a group, entering its huddle. -/
  | mvColl (die : Fin 16) (core : Fin 32)
  /-- MV_CLAIM (R356): Move command that sends a CLAIM to a race slot. -/
  | mvClaim (die : Fin 16) (core : Fin 32)
  /-- MV_FAULT_CLEAR (R151): Writing zero to CAUSE of MV_FAULT clears the move engine's fault record. -/
  | mvFaultClear (die : Fin 16) (core : Fin 32)
  /-- TQ_PUSH_WRITE (R140): A write of a handle to TQ_PUSH reserves and writes a slot in one step, or is discarded when the queue is full. -/
  | tqPushWrite (die : Fin 16) (core : Fin 32) (tq : Fin 16) (handle : BitVec 64)
  /-- TQ_POP_READ (R141): A read of TQ_POP pops the written head handle or returns all ones. -/
  | tqPopRead (die : Fin 16) (core : Fin 32) (tq : Fin 16)
  /-- REGISTER_WRITE (R136): A write to a register without a row of its own, such as a counter, comparator, descriptor, operand block or transfer descriptor. -/
  | registerWrite (target : RegAddr) (agent : Agent) (data : List Byte)
  /-- TC_RUN (R163): Writing RUN of TC_CTRL starts the tidy core at address 0 or stops it at the next instruction boundary. -/
  | tcRun (die : Fin 16) (core : Fin 32) (run : Bool)
  /-- TC_STEP (R162): Writing STEP of TC_CTRL steps the tidy core. -/
  | tcStep (die : Fin 16) (core : Fin 32)
  /-- TC_DOORBELL (R162): Writing 1 to TC_DOORBELL sets its pending interrupt bit. -/
  | tcDoorbell (die : Fin 16) (core : Fin 32)
  /-- TC_IRQ_PEND_W1C (R162): Writing 1 to a bit of TC_IRQ_PEND clears that pending interrupt. -/
  | tcIrqPendW1c (die : Fin 16) (core : Fin 32) (v : BitVec 32)
  /-- TC_CRC_SRC (R162): Writing a tile offset to TC_CRC_SRC starts the CRC helper. -/
  | tcCrcSrc (die : Fin 16) (core : Fin 32) (v : BitVec 32)
  /-- TC_CRC_DONE (R162): The CRC helper finishes after 32 cycles and presents the result in TC_CRC. -/
  | tcCrcDone (die : Fin 16) (core : Fin 32)
  /-- TIDY_CORE_INSTRUCTION (R161): The tidy core retires one RV32IMC instruction, taking interrupts and exceptions as its facilities allow. -/
  | tidyCoreInstruction (die : Fin 16) (core : Fin 32)
  /-- TC_LOCKSTEP_MISMATCH (R163): The tidy core's lockstep pair disagrees, which halts it within 100 ns and raises the fault. -/
  | tcLockstepMismatch (die : Fin 16) (core : Fin 32)
  /-- TC_NO_RETIRE (R166): A tidy core retires no instruction for 1 ms outside WFI and is stopped and logged. -/
  | tcNoRetire (die : Fin 16) (core : Fin 32)
  /-- SYNC_DEADLOCK (R165): The sync-monitor conditions hold for 4,096 cycles, so records are written, engines halt in HALT_SYNC and the fault is raised. -/
  | syncDeadlock (die : Fin 16) (core : Fin 32)
  /-- SM_RELEASE (R165): Writing RELEASE of SM_CTRL resumes every engine at the command it waited on. -/
  | smRelease (die : Fin 16) (core : Fin 32)
  /-- HANG_WATCHDOG (R166): A command in execution makes no progress for 1 ms and aborts with status HANG. -/
  | hangWatchdog (die : Fin 16) (core : Fin 32) (eng : Fin 3) (num : BitVec 64)
  /-- QUEUE_PARITY_ERROR (R168): A parity error in a queued command, pointer, tile queue, counter or comparator halts queues with PARITY. -/
  | queueParityError (die : Fin 16) (core : Fin 32) (what : ParitySite)
  /-- TAG_WRITE (R179): An aligned 8-byte write to a tile tag in die control sets the tag and state VALID; a short write is discarded and logged. -/
  | tagWrite (die : Fin 16) (core : Fin 32) (off : Fin 0x4000) (data : List Byte)
  /-- VERIFYING_READ (R183): A verifying read of a tile completes 8 cycles after its last line and passes or fails with a reason. -/
  | verifyingRead (die : Fin 16) (tile : TileRef) (raced : Bool) (ecc : Ecc)
  /-- LS_SCRUB (R187): The local-store scrub timer reads and verifies the next VALID tile. -/
  | lsScrub (die : Fin 16) (core : Fin 32) (raced : Bool) (ecc : Ecc)
  /-- HBM_SCRUB (R187): The HBM scrub timer reads and verifies the next VALID tile of the die. -/
  | hbmScrub (die : Fin 16) (raced : Bool) (ecc : Ecc)
  /-- HBM_ACCESS (R198): A memory controller serves one burst access in its priority order, with ECC and parity retry. -/
  | hbmAccess (req : HbmPort) (addr : Fin 0x6000000000) (write : List Byte) (severity : Fin 3) (parity : List (Fin 74))
  /-- HBM_REFRESH (R209): The per-bank refresh interval expires and one bank is refreshed. -/
  | hbmRefresh (die : Fin 16) (stack : Fin 4) (chan : Fin 32) (pc : Fin 2)
  /-- HBM_SENSOR_SAMPLE (R209): A stack's sensors are sampled every 10 µs and its refresh band moves up or down. -/
  | hbmSensorSample (die : Fin 16) (stack : Fin 4) (temps : List Int)
  /-- HBM_ROW_REPAIR (R205): A row reaches its error threshold or returns severity 2 and is repaired in service by soft post-package repair. -/
  | hbmRowRepair (die : Fin 16) (row : RowRef)
  /-- HBM_LANE_REPAIR (R206): A lane collects 16 parity failures in 1 s and is remapped to a spare after a channel pause. -/
  | hbmLaneRepair (die : Fin 16) (lane : LaneRef)
  /-- REPAIR_RECORD_UPDATE (R391): The steward writes a changed repair record into the older copy with the next generation. -/
  | repairRecordUpdate (rec : Fin 25) (ok : Bool)
  /-- RECORD_WRITE_RETRY (R401): After a failed record write, the steward retries every 10 s. -/
  | recordWriteRetry (rec : Fin 25) (ok : Bool)
  /-- WHISTLE_SEND (R219): Each light die sends a whistle every 1 µs on each port whose link is up. -/
  | whistleSend (port : Fin 128)
  /-- WHISTLE_RECEIVE (R225): A whistle arrives, updating calibration and eligibility and possibly accepting an upstream port under R232. -/
  | whistleReceive (port : Fin 128) (w : Whistle) (stamp : BitVec 64)
  /-- LINK_CALIBRATION_DONE (R225): A port completes 256 exchanges on λS and λ0 at link-up and sets CAL. -/
  | linkCalibrationDone (port : Fin 128)
  /-- GT_LOSS_OF_LOCK (R231): No usable stamp arrives on any eligible port for 10 µs, so the module enters HOLDOVER and cancels STRICT work. -/
  | gtLossOfLock
  /-- HOLDOVER_WAIT_END (R223): The 20 µs wait in HOLDOVER ends, after which new whistles may make a port eligible. -/
  | holdoverWaitEnd
  /-- GT_HOLD_END (R232): A hold of local GT after relock ends and the module becomes LOCKED. -/
  | gtHoldEnd
  /-- REFEREE_TAKEOVER (R224): A candidate hears no LOCKED whistle for its takeover time and becomes referee. -/
  | refereeTakeover
  /-- TIME_FRAME (R230): The time unit sends a time frame every 1 µs to every die, which compensates its path delay. -/
  | timeFrame
  /-- DIE_GT_RESYNC (R230): A woken compute die finishes resynchronising its GT within 5 µs and stops reporting UNSET. -/
  | dieGtResync (die : Fin 16)
  /-- PPS_EDGE (R228): A rising edge of TIME_IN_PPS at the referee corrects phase or applies a pending GT.SET_AT_PPS. -/
  | ppsEdge (widthNs : Nat)
  /-- TEN_MHZ_MONITOR (R228): TIME_IN_10M is absent or out of range for 10 µs and is ignored and logged. -/
  | tenMhzMonitor (present : Bool) (ppm : Int)
  /-- GT_SET (R229): Writing GT.SET at the referee steps GT forward at the write. -/
  | gtSet (v : BitVec 64)
  /-- GT_SET_AT_PPS (R229): Writing GT.SET_AT_PPS at the referee arms a forward GT setting for the next PPS edge. -/
  | gtSetAtPps (v : BitVec 64)
  /-- KICKOFF_ARM (R234): A write of a kickoff top word with ARMED = 1 arms the entry or refuses it. -/
  | kickoffArm (die : Fin 16) (e : Fin 64) (top : BitVec 64)
  /-- KICKOFF_DISARM (R234): A write of a kickoff top word with ARMED = 0 disarms the entry. -/
  | kickoffDisarm (die : Fin 16) (e : Fin 64) (top : BitVec 64)
  /-- KICKOFF_FIRE (R235): Local GT reaches an armed target and the entry fires its action, late, skipped or periodic as R237 lays down. -/
  | kickoffFire (die : Fin 16) (e : Fin 64)
  /-- ROUND_SCHEDULE_VALIDATE (R238): A write of a round-schedule top word with VALID = 1 puts it in force or refuses it. -/
  | roundScheduleValidate (die : Fin 16) (rs : Fin 16) (top : BitVec 64)
  /-- ROUND_SCHEDULE_INVALIDATE (R238): A write of VALID = 0 ends a round schedule. -/
  | roundScheduleInvalidate (die : Fin 16) (rs : Fin 16) (top : BitVec 64)
  /-- SLOT_START (R239): A slot of a schedule begins and its bound class-1 moves may enter the fabric. -/
  | slotStart (die : Fin 16) (rs : Fin 16)
  /-- ADMISSION_CLOSE (R240): A slot's admission close passes and unadmitted packets of bound moves go as class 2, raising OVERRUNS. -/
  | admissionClose (die : Fin 16) (rs : Fin 16)
  /-- ROUND_SCHEDULE_EXPIRE (R238): A schedule's last period ends and the unit clears VALID. -/
  | roundScheduleExpire (die : Fin 16) (rs : Fin 16)
  /-- CODEWORD_RECEIVE (R248): A 288-bit codeword arrives on a line and is decoded by kind, corrected or declared uncorrectable. -/
  | codewordReceive (port : Fin 128) (line : Fin 37) (word : BitVec 288)
  /-- IDENTITY_IDLE_SEND (R250): A lane sends an identity idle when it has no data and at least once in every 2^16 codewords. -/
  | identityIdleSend (port : Fin 128) (line : Fin 37)
  /-- COMB_LOCK (R252): A comb completes start and locks against the ELM reference or etalon. -/
  | combLock (c : CombRef) (pilot : Bool)
  /-- ELM_FEED_LOST (R254): An ELM feed stays below +15 dBm for 1 µs and a selected feed is replaced by the other. -/
  | elmFeedLost (feed : Fin 2)
  /-- ELM_FEED_RETURN (R254): A lost feed has been within limits for 10 ms and counts as present again. -/
  | elmFeedReturn (feed : Fin 2)
  /-- LAMBDA_S_LOST (R255): λS is absent from a port, which moves class 0 to λ0 within 2 µs. -/
  | lambdaSLost (port : Fin 128)
  /-- LAMBDA_S_RETURN (R255): λS has been present for 10 ms and class 0 returns to it at a codeword boundary. -/
  | lambdaSReturn (port : Fin 128)
  /-- TRANSMIT_RING_ASSIGN (R257): A transmit ring is set from the record or swept and locked to the resonance carrying its pilot. -/
  | transmitRingAssign (bank : Fin 136) (ring : Fin 37) (setting : Nat) (pilot : Fin 37)
  /-- RECEIVE_RING_SEARCH (R258): A receive ring finds its line from the record or a full search, and the port enters UP or DEGRADED once all lanes confirm. -/
  | receiveRingSearch (bank : Fin 136) (ring : Fin 37) (setting : Nat) (confirmed : Bool)
  /-- PORT_TRAIN_TIMEOUT (R256): A port has waited in TRAIN for 60 s for its partner and enters PROBE. -/
  | portTrainTimeout (bank : Fin 136)
  /-- RING_FSR_MOVE (R260): A ring heater nears the end of its range and the ring moves one free spectral range. -/
  | ringFsrMove (bank : Fin 136) (tx : Bool) (ring : Fin 37) (shift : RingShift)
  /-- PILOT_CHECK (R261): A pilot check of a transmit ring runs every 250 µs. -/
  | pilotCheck (bank : Fin 136) (ring : Fin 37) (pilot : Fin 37)
  /-- RING_MISLOCK (R261): A ring is found on the wrong line, so its lane leaves service and the ring is searched again. -/
  | ringMislock (bank : Fin 136) (tx : Bool) (ring : Fin 37)
  /-- RING_RESEARCH_DONE (R261): The local search of a mis-locked ring ends and the lane returns or is substituted. -/
  | ringResearchDone (bank : Fin 136) (tx : Bool) (ring : Fin 37) (found : Bool) (setting : Nat)
  /-- LANE_SUBSTITUTION (R262): A lane moves onto a spare line, agreed by link messages, within 20 ms. -/
  | laneSubstitution (port : Fin 128) (tx : Bool) (sub : LaneSpare)
  /-- BANK_SUBSTITUTION (R263): A failed port bank moves to the spare bank, or the port goes to SIGNAL_ONLY or FAILED. -/
  | bankSubstitution (fault : PortFault)
  /-- SPARE_BANK_LIGHT (R263): Light appears on the spare bank's own fibre after a patch and the die trains and maps it. -/
  | spareBankLight (l : Fin 8) (module : BitVec 16) (lport : BitVec 7)
  /-- COMB_MONITOR_SAMPLE (R264): The comb monitor measures every line's power every 10 ms and detects fade crossings and failed lines. -/
  | combMonitorSample (c : CombRef) (powers : List Int)
  /-- PORT_PAUSE (R265): During a changeover a port sends a link-pause notice, stops transmit data and switches to the standby comb. -/
  | portPause (l : Fin 8)
  /-- PORT_RESUME (R265): A paused port has relocked its transmit rings and resumes; after the last port the old comb is retired. -/
  | portResume (l : Fin 8)
  /-- LINK_PAUSE_NOTICE (R304): A link-pause notice arrives and the partner suspends suspicion for the link for the named length plus 10 µs. -/
  | linkPauseNotice (port : Fin 128) (frame : BitVec 256)
  /-- STANDBY_TEST (R267): Every standby-test interval the light die starts its standby comb under leave. -/
  | standbyTest (l : Fin 8)
  /-- STANDBY_TEST_END (R267): After 10 s locked, the standby comb's pilots and powers are checked and it is switched off or retired. -/
  | standbyTestEnd (l : Fin 8) (pass : Bool)
  /-- PARTNER_LOSS (R268): Receive power stays below −25 dBm for 50 µs, so the port darkens within 2 ms and enters PROBE. -/
  | partnerLoss (bank : Fin 136)
  /-- PROBE_PULSE (R268): A port in PROBE emits a 2 ms pulse every 500 ms. -/
  | probePulse (bank : Fin 136)
  /-- PROBE_ANSWER (R268): A port in PROBE receives light for 50 µs, turns its transmitter on and enters TRAIN. -/
  | probeAnswer (bank : Fin 136)
  /-- LINK_FRAME_REPLAY (R270): A link frame fails its check and is replayed from the retry buffer. -/
  | linkFrameReplay (port : Fin 128) (lfseq : BitVec 16)
  /-- PORT_RETRAIN (R270): A frame replayed 8 times makes the port retrain while keeping λS running. -/
  | portRetrain (port : Fin 128)
  /-- PORT_RETRAIN_DONE (R270): A port's retrain ends within 5 ms, dropping failing lanes. -/
  | portRetrainDone (port : Fin 128) (ok : Bool) (badTx badRx : List (Fin 32))
  /-- OPT_COMMISSION (R259): Writing 1 to OPT.COMMISSION writes the ring record with powers and heater settings. -/
  | optCommission (v : BitVec 8)
  /-- RING_RECORD_REFRESH (R259): Once in every 24 hours the steward refreshes the heater settings of the ring record. -/
  | ringRecordRefresh
  /-- FLIT_RECEIVE (R282): A flit arrives on a bundle and is delivered in SEQ order, or discarded and NAKed on parity or CRC failure. -/
  | flitReceive (edge : Fin 53) (bundle : Fin 16) (rev : Bool) (flit : BitVec 2048)
  /-- FLIT_NAK (R282): A NAK arrives and the sender resends from the named flit. -/
  | flitNak (edge : Fin 53) (bundle : Fin 16) (rev : Bool) (seq : BitVec 12)
  /-- BUNDLE_TRAINING (R279): A bundle trains from its lane map, substitutes failing lanes, deskews and enters service. -/
  | bundleTraining (edge : Fin 53) (bundle : Fin 16) (bad : List (Bool × Fin 68))
  /-- BUNDLE_RETRAIN (R282): A flit replayed 8 times makes its bundle retrain while the other bundles carry its role. -/
  | bundleRetrain (edge : Fin 53) (bundle : Fin 16) (rev : Bool)
  /-- PANEL_LANE_FAILED (R283): A lane with 8 parity errors in 2 µs, or failing retraining, is declared failed and replaced by a spare. -/
  | panelLaneFailed (edge : Fin 53) (dir : BundleDir) (lane : Fin 68)
  /-- BUNDLE_HALF_WIDTH (R285): A failed lane in a half without spares retrains the bundle to half width or disables it. -/
  | bundleHalfWidth (edge : Fin 53) (bundle : Fin 16)
  /-- ROLE_REFILL (R288): A lost signal, memory-direct or fabric bundle has its role refilled from the edge's other bundles. -/
  | roleRefill (edge : Fin 53)
  /-- ROUTE_WEIGHT_UPDATE (R287): Spray weights and route weights follow a width change or disabling within 50 µs. -/
  | routeWeightUpdate
  /-- DETOUR_LOAD (R289): A mesh edge goes down and the steward loads detour routes into every mesh router within 50 µs. -/
  | detourLoad
  /-- LANE_TEST_MODE (R292): Writing 1 or 2 to LANE.TEST_MODE starts a chained or per-die lane test. -/
  | laneTestMode (v : BitVec 8)
  /-- LANE_TEST_END (R292): A lane test ends, records failing edges, returns the mode to 0 and retrains the module. -/
  | laneTestEnd (failing : List PanelLane)
  /-- FAB_MODULE_ID (R295): Writing FAB.MODULE_ID assigns the module's flat ID unless a queue is enabled. -/
  | fabModuleId (v : BitVec 16)
  /-- LINK_FRAME_RECEIVE (R300): A link frame arrives and is taken in LFSEQ order, or discarded and NAKed. -/
  | linkFrameReceive (port : Fin 128) (pfx : BitVec 64) (pkt : Packet) (crc : BitVec 32)
  /-- LINK_FRAME_SEND (R318): At a link-frame boundary the port chooses the class of its next frame and sends it. -/
  | linkFrameSend (port : Fin 128)
  /-- PACKET_INGRESS (R296): A packet enters a light die and is checked for epoch and HCHK, merged, relayed or handed to a compute die. -/
  | packetIngress (port : Fin 128) (pkt : Packet)
  /-- RELAY_HOLD_EXPIRE (R329): A relay holding a packet without a usable route for 100 µs discards it. -/
  | relayHoldExpire (l : Fin 8)
  /-- CLASS0_FRAME_RECEIVE (R301): A class-0 frame arrives on λS and is consumed as a link frame or relayed or delivered as a routed frame. -/
  | class0FrameReceive (port : Fin 128) (frame : BitVec 256)
  /-- LINK_STATE_SEND (R303): A port sends a link-state frame after a change, every 250 ns with unacknowledged data, or every 1 µs. -/
  | linkStateSend (port : Fin 128)
  /-- LINK_STATE_RECEIVE (R303): A link-state frame arrives carrying XOFF, ACK, NAK and resend requests as levels. -/
  | linkStateReceive (port : Fin 128) (frame : BitVec 256)
  /-- CLASS0_RESEND (R307): A routed frame requested for resend is sent again, or counted lost when no longer held. -/
  | class0Resend (port : Fin 128) (lseq : BitVec 8)
  /-- FLAG_ADD (R306): A FLAG reaches its target die and adds to an engine counter or arrival counter. -/
  | flagAdd (die : Fin 16) (frame : BitVec 256)
  /-- ROUTE_ENTRY_WRITE (R309): A 64-byte write through the route window replaces a route entry at every light die. -/
  | routeEntryWrite (m : BitVec 16) (entry : BitVec 512)
  /-- ROUTE_GENERATION_ADVANCE (R309): Every light die holds all route writes made so far and FAB.ROUTE_GENERATION rises. -/
  | routeGenerationAdvance
  /-- REORDER_CONTEXT_CLOSE (R315): A reorder context closes after 10 µs without a packet. -/
  | reorderContextClose (die : Fin 16) (srcModule : BitVec 16) (srcDie : BitVec 4) (flow : BitVec 8)
  /-- REORDER_BUSY_RESEND (R316): A packet refused with REORDER_BUSY is sent again 2 µs later in PSEQ order. -/
  | reorderBusyResend (die : Fin 16) (txn : BitVec 15)
  /-- FAB_STALL (R322): A port and class held in XOFF for 1 ms raise FAB_STALL. -/
  | fabStall (port : Fin 128) (cls : Fin 4)
  /-- REMOTE_REQUEST_RECEIVE (R335): A memory packet reaches its home die and enters the line queue, or waits when the queue is full. -/
  | remoteRequestReceive (die : Fin 16) (pkt : Packet)
  /-- LINE_OPERATION (R336): The home die performs one line operation of a read, write, atomic or claim and sends its response. -/
  | lineOperation (die : Fin 16) (idx : Fin 1024)
  /-- RESPONSE_RECEIVE (R339): A response returns to the issuing die, landing data or completing the packet with its status. -/
  | responseReceive (die : Fin 16) (pkt : Packet)
  /-- ACK_TIMEOUT (R341): A request waits MEM.ACK_TIMEOUT_US without response and is abandoned with ACK_TIMEOUT. -/
  | ackTimeout (die : Fin 16) (txn : BitVec 15)
  /-- MERGED_RESPONSE (R346): A merged response returns to the relay light die, which answers each original and frees the entry. -/
  | mergedResponse (l : Fin 8) (pkt : Packet)
  /-- MERGE_ENTRY_TIMEOUT (R346): A merge entry waits MEM.ACK_TIMEOUT_US and is freed without answers. -/
  | mergeEntryTimeout (l : Fin 8) (entry : Fin 512)
  /-- MEM_RLC_ENABLE (R344): Writing MEM.RLC_ENABLE invalidates the remote line cache and sets whether it fills. -/
  | memRlcEnable (v : BitVec 8)
  /-- RACE_SLOT_ARM (R355): A write of a race-slot top word with ARMED = 1 arms its guard or refuses it with BAD. -/
  | raceSlotArm (die : Fin 16) (r : Fin 64) (top : BitVec 64)
  /-- RACE_SLOT_DISARM (R355): A write of a race-slot top word with ARMED = 0 disarms it. -/
  | raceSlotDisarm (die : Fin 16) (r : Fin 64) (top : BitVec 64)
  /-- GROUP_VALIDATE (R362): A write of a group top word with VALID = 1 starts validation, with REFORM compaction when set. -/
  | groupValidate (die : Fin 16) (g : Fin 256) (top : BitVec 64)
  /-- GROUP_VALIDATION_DONE (R362): Validation completes, setting VALID, EPOCH and DIGEST, or refusing with BAD. -/
  | groupValidationDone (die : Fin 16) (g : Fin 256)
  /-- GROUP_END (R362): A write of VALID = 0 ends the group, unless a collective is in progress. -/
  | groupEnd (die : Fin 16) (g : Fin 256) (top : BitVec 64)
  /-- HUDDLE_FRAME_RECEIVE (R371): A HUDDLE_A, HUDDLE_B or HUDDLE_C frame arrives; once all children's frames are in, the member combines and forwards or the root decides. -/
  | huddleFrameReceive (die : Fin 16) (frame : BitVec 256)
  /-- VERDICT_RECEIVE (R383): A VERDICT frame arrives with a huddle or final verdict, which the member passes down and acts on. -/
  | verdictReceive (die : Fin 16) (frame : BitVec 256)
  /-- VERDICT_ACK_RECEIVE (R383): A VERDICT_ACK arrives and stops the resending of the verdict to that child. -/
  | verdictAckReceive (die : Fin 16) (frame : BitVec 256)
  /-- VERDICT_RESEND (R383): An unacknowledged VERDICT is resent every 2 µs under the current epoch. -/
  | verdictResend (die : Fin 16) (g : Fin 256)
  /-- VOTE_RECEIVE (R383): A VOTE arrives; once all children have voted the member votes up or the root decides the final verdict. -/
  | voteReceive (die : Fin 16) (frame : BitVec 256)
  /-- HUDDLE_TIMEOUT (R382): A member's huddle frames from a child have not arrived within T, so it sends its frames with TIMEOUT set. -/
  | huddleTimeout (die : Fin 16) (g : Fin 256)
  /-- DATA_PHASE_TIMEOUT (R382): A member's data phase is not complete within T of GO, so it votes TIMEOUT. -/
  | dataPhaseTimeout (die : Fin 16) (g : Fin 256)
  /-- COLL_DATA_RECEIVE (R379): A COLL_DATA chunk arrives, is verified, staged, reduced or landed, and acknowledged. -/
  | collDataReceive (die : Fin 16) (chunk : CollChunk)
  /-- COLL_ACK_RECEIVE (R379): A COLL_ACK arrives and stops the resend timer of its chunk. -/
  | collAckReceive (die : Fin 16) (pkt : Packet)
  /-- CHUNK_RESEND (R379): A chunk not acknowledged within COL.RESEND_US is resent under the current epoch. -/
  | chunkResend (die : Fin 16) (g : Fin 256)
  /-- ROUND_START (R376): A ROUNDS round reaches its slots and sends its data in class 1, or as class 2 if not ready. -/
  | roundStart (die : Fin 16) (g : Fin 256)
  /-- VERDICT_RETENTION_EXPIRE (R385): A kept verdict reaches 1 s after completion and is dropped. -/
  | verdictRetentionExpire (die : Fin 16) (g : Fin 256)
  /-- CORE_SUBSTITUTION (R395): A core's fault count reaches the limit and its engines are halted for substitution by the nearest spare. -/
  | coreSubstitution (die : Fin 16) (core : Fin 32)
  /-- CORE_SUBSTITUTE (R393): Writing CMP.CORE_SUBSTITUTE requests substitution of a named core. -/
  | coreSubstitute (v : BitVec 16)
  /-- SUBSTITUTION_DRAIN_END (R397): The drain time of a substitution ends and commands still executing are aborted. -/
  | substitutionDrainEnd (die : Fin 16)
  /-- SPARE_SELF_TEST_DONE (R394): A spare slot finishes power-up and self-test; on pass the map switches and the core resumes in reset state, on failure the next spare is tried or the core goes out. -/
  | spareSelfTestDone (die : Fin 16) (pass : Bool)
  /-- CHECKER_SELF_TEST (R405): Every 100 ms each checker is exercised by an injected error; a failure is reported UNMASKED. -/
  | checkerSelfTest (src : Fin 25) (pass : Bool)
  /-- ERROR_LOG_EVENT (R407): An event is stored, coalesced or dropped in the error log and its actions are taken in severity order. -/
  | errorLogEvent (ev : Event)
  /-- LOG_HANDLING_EXPIRE (R408): An entry leaves handling 1 s after creation without acknowledgement. -/
  | logHandlingExpire (pos : Fin 256)
  /-- FLT_LOG_ACK (R408): Writing s to FLT.LOG_ACK acknowledges entry s and every earlier entry. -/
  | fltLogAck (v : BitVec 32)
  /-- FLT_LOG_OVERFLOW (R410): Writing 0 to FLT.LOG_OVERFLOW clears the overflow flag; writing 1 is refused. -/
  | fltLogOverflow (v : BitVec 8)
  /-- PARTNER_SUSPECT (R414): No whistle from a partner for 8.1 µs makes the module suspect it and send ACCUSE, repeated every 10 µs. -/
  | partnerSuspect (m : BitVec 16)
  /-- ACCUSE_RECEIVE (R415): An ACCUSE reaches the umpire or backup, which declares the accused out when the quorum is reached. -/
  | accuseReceive (frame : BitVec 256)
  /-- ROSTER_SEND (R413): A module sends ROSTER on a change of A or region, every 1 ms, and after an umpire change. -/
  | rosterSend
  /-- ROSTER_RECEIVE (R413): A ROSTER reaches the umpire or backup, which records the sender's partner count and region. -/
  | rosterReceive (frame : BitVec 256)
  /-- RECORD_RECEIVE (R416): A RECORD arrives and is adopted, forwarded, held or voided by takeover, fencing the module if it names it out. -/
  | recordReceive (port : Fin 128) (frame : BitVec 256)
  /-- EPOCH_REQ_RECEIVE (R416): An EPOCH_REQ arrives and is answered from the last 64 records or with VIEW frames. -/
  | epochReqReceive (port : Fin 128) (frame : BitVec 256)
  /-- VIEW_RECEIVE (R416): A VIEW frame arrives with a chunk of the out set. -/
  | viewReceive (port : Fin 128) (frame : BitVec 256)
  /-- BEACON_SEND (R420): The umpire floods a BEACON every 10 µs. -/
  | beaconSend
  /-- BEACON_RECEIVE (R420): A BEACON arrives and the first copy of each number is forwarded to every other port. -/
  | beaconReceive (port : Fin 128) (frame : BitVec 256)
  /-- ISOLATION_FENCE (R420): No new BEACON, or no active partner at the umpire, for FLT.ISOLATION_US makes the module fence itself with cause ISOLATED. -/
  | isolationFence
  /-- EPOCH_OPEN (R411): The first listed module, ready and LOCKED, opens epoch 1 as umpire. -/
  | epochOpen
  /-- UMPIRE_START_TIMEOUT (R411): The second listed module hears no beacon within 1 s of its ready and opens epoch 1 itself. -/
  | umpireStartTimeout
  /-- JOIN_SEND (R422): A ready, LOCKED module with an ID becomes JOINING and sends JOIN, resent every 100 µs until answered. -/
  | joinSend
  /-- JOIN_RECEIVE (R422): The umpire answers a JOIN with GRANTED, HELD or REFUSED, or sends the module off with cause RESTART. -/
  | joinReceive (frame : BitVec 256)
  /-- ANSWER_RECEIVE (R422): An ANSWER from the umpire arrives and sets the module IN, WITHDRAWING or degraded. -/
  | answerReceive (frame : BitVec 256)
  /-- WITHDRAW_RECEIVE (R426): A WITHDRAW reaches the umpire, which grants within the cap, answers DEGRADE or declares the module out. -/
  | withdrawReceive (frame : BitVec 256)
  /-- FLT_SEND_OFF (R423): Writing a module ID to FLT.SEND_OFF at the umpire sends it off with cause OPERATOR. -/
  | fltSendOff (v : BitVec 16)
  /-- FLT_ADMIT (R422): Writing FLT.ADMIT at the umpire admits a held module with ACTION IN. -/
  | fltAdmit (v : BitVec 16)
  /-- FLT_WITHDRAWN_CLEAR (R425): Writing FLT.WITHDRAWN_CLEAR at the umpire removes a module from W_r. -/
  | fltWithdrawnClear (v : BitVec 16)
  /-- FLT_WITHDRAW_GO (R426): Writing FLT.WITHDRAW_GO makes a WITHDRAWING module send WITHDRAW with GO. -/
  | fltWithdrawGo (v : BitVec 8)
  /-- SCORE_RECOMPUTE (R424): Every 1 s the steward recomputes the score and requests withdrawal or leaves degraded service. -/
  | scoreRecompute
  /-- WITHDRAW_RETRY (R426): A module in degraded service asks again for withdrawal every 10 s while its score stays low. -/
  | withdrawRetry
  /-- WITHDRAW_WAIT_EXPIRE (R426): FLT.WITHDRAW_WAIT_S passes in WITHDRAWING and the module sends WITHDRAW with GO. -/
  | withdrawWaitExpire
  /-- FORCED_WITHDRAW_TIMEOUT (R428): A forced WITHDRAW has no answer within 1 ms and the module fences itself with cause FORCED. -/
  | forcedWithdrawTimeout
  /-- STEP_COMMIT (R430): A write to STEP_COMMIT commits step n after the previous mirror and starts mirroring its slot to the buddy. -/
  | stepCommit (die : Fin 16) (n : BitVec 64)
  /-- STEP_MIRROR_DONE (R430): The mirror copy of a step completes or fails, setting mirrored or BUDDY_LOST. -/
  | stepMirrorDone (die : Fin 16) (ok : Bool)
  /-- INPUT_MONITOR (R435): The input monitor samples voltage, current and power and acts on limits, under-voltage and over-voltage. -/
  | inputMonitor (mv : Nat) (w1ms w10us w1s : Nat) (amps : Nat)
  /-- INPUT_CLOCK_STEP (R435): While an input limit is exceeded clocks fall by 25 MHz every 10 µs, and later rise every 1 ms. -/
  | inputClockStep
  /-- PHASE_FAILURE (R437): A power phase fails and the remaining phases carry its share within 2 µs. -/
  | phaseFailure (rail : Rail)
  /-- RAIL_OUT_OF_REGULATION (R438): A rail stays more than 5 % from its setting for 2 µs, stopping the die and logging UNMASKED. -/
  | railOutOfRegulation (rail : Rail)
  /-- CORE_CLOCK_STEP (R439): A compute die steps its core clock down when current reaches the limit or up by 25 MHz per 100 µs. -/
  | coreClockStep (die : Fin 16) (milliAmps : Nat)
  /-- LEAVE_REQUEST (R441): A requester asks the governor for leave. -/
  | leaveRequest (r : Requester)
  /-- GOVERNOR_CYCLE (R442): The governor processes releases and grants leave from its priority queues under the budget and floors. -/
  | governorCycle
  /-- LEAVE_RELEASE (R440): A holder releases its leave. -/
  | leaveRelease (r : Requester)
  /-- DIE_IDLE_ENTRY (R446): A compute die meets the idle conditions for 10 µs and gates its core clocks. -/
  | dieIdleEntry (die : Fin 16)
  /-- DIE_IDLE_EXIT (R446): A Q_TAIL write, doorbell or tidy-core interrupt ungates an idle die within 100 ns. -/
  | dieIdleExit (die : Fin 16)
  /-- PWR_DIE_SLEEP_REQ (R447): Writing PWR.DIE_SLEEP_REQ sets or clears die-sleep requests, clearing a bit waking the die. -/
  | pwrDieSleepReq (v : BitVec 16)
  /-- DIE_SLEEP_COMMAND (R447): The sleep command reaches a die, retried every 1 ms, and is refused or starts die-sleep entry. -/
  | dieSleepCommand (die : Fin 16)
  /-- DIE_SLEEP_ENTRY_DONE (R449): Die-sleep entry completes with rails off and state SLEEP, or is aborted by a wake level before the latch. -/
  | dieSleepEntryDone (die : Fin 16)
  /-- DIE_WAKE (R450): A sleeping die wakes on request, access or standby exit and asks for wake leave. -/
  | dieWake (die : Fin 16) (cause : WakeCause)
  /-- DIE_WAKE_DONE (R450): The wake sequence ends, the die is Active and held accesses are released. -/
  | dieWakeDone (die : Fin 16) (saveOk : Bool)
  /-- PWR_PAD_RELEASE (R451): Writing PWR.PAD_RELEASE releases the held pads of a waking die. -/
  | pwrPadRelease (v : BitVec 16)
  /-- PWR_MODULE_STATE (R452): Writing 1 or 2 to PWR.MODULE_STATE requests module standby, which is refused or begins entry. -/
  | pwrModuleState (v : BitVec 8)
  /-- MODULE_STANDBY_DONE (R452): Module standby entry completes within 10 ms with READY low. -/
  | moduleStandbyDone
  /-- PWR_HOST_WAKE (R454): Writing PWR.HOST_WAKE sets or clears the host wake level of module standby. -/
  | pwrHostWake (v : BitVec 8)
  /-- WAKE_N (R454): WAKE_N low as a level or a falling edge ends module standby. -/
  | wakeN (low : Bool)
  /-- THERMAL_SENSOR_SAMPLE (R459): A part's sensors are sampled, failed sensors excluded, and warning, throttle or shut-down thresholds crossed. -/
  | thermalSensorSample (part : Fin 89) (temps : List Int)
  /-- THROTTLE_EVALUATE (R460): Every 1 ms a compute die's always-on controller lowers, raises or holds its thermal factor. -/
  | throttleEvaluate (die : Fin 16)
  /-- THERMAL_SHUTDOWN (R463): A part reaches its shut-down threshold, asserting THERMTRIP_N and taking the module down. -/
  | thermalShutdown (part : Fin 89) (sensor : BitVec 8)
  /-- TRIP_RECORD_WRITE (R464): Within 1 s of a thermal shut-down the steward writes a trip record to flash and logs FATAL. -/
  | tripRecordWrite
  /-- ANALOGUE_TRIP (R463): The steward die reaches 120 °C and an analogue comparator switches off every rail within 10 µs. -/
  | analogueTrip
  /-- THM_TRIP_CLEAR (R465): Writing THM.TRIP_CLEAR, with temperatures and coolant in range, re-enters start-up at the rail step. -/
  | thmTripClear (v : BitVec 8)
  /-- COOLANT_SAMPLE (R467): Coolant sensors are sampled and out-of-range inlet or flow raises ALERT_N or caps the thermal factor. -/
  | coolantSample (inlet outlet : Int) (flow : Nat) (ok : Bool)
  /-- HEARTBEAT (R471): A healthy controller writes its heartbeat to the tie-breaker every 10 ms. -/
  | heartbeat (c : Ctrl)
  /-- BALL_EVALUATE (R472): Every 10 µs the tie-breaker re-evaluates which controller holds the ball. -/
  | ballEvaluate
  /-- BALL_CLAIM (R474): A controller claims the ball and is granted it or refused, and reset when refused. -/
  | ballClaim (c : Ctrl)
  /-- CONTROLLER_WATCHDOG (R470): A controller's 5 ms firmware watchdog expires and it is no longer healthy. -/
  | controllerWatchdog (c : Ctrl)
  /-- CONTROLLER_BOOT_DONE (R475): A controller's boot ends in SYNCING or HOT, or counts toward FAILED. -/
  | controllerBootDone (c : Ctrl)
  /-- MIRROR_SYNC_DONE (R475): A standby finishes copying the holder's mirror and shows HOT. -/
  | mirrorSyncDone (c : Ctrl)
  /-- BALL_UNHELD_FENCE (R477): The ball stays unheld for 1 s, so the tie-breaker asserts FAULT_N and fences the module. -/
  | ballUnheldFence
  /-- SYS_HANDOVER (R478): Writing SYS.HANDOVER moves the ball to a HOT standby without a reset. -/
  | sysHandover (v : BitVec 8)
  /-- SYS_STORE (R483): Writing the store value to SYS.STORE snapshots every saved object and starts its commit. -/
  | sysStore (v : BitVec 32)
  /-- STORE_COMMIT_DONE (R483): The configuration commit to flash completes or fails, and the store's reply follows. -/
  | storeCommitDone (ok : Bool)
  /-- SYS_RESTORE (R485): Writing the restore value to SYS.RESTORE voids the committed configuration record. -/
  | sysRestore (v : BitVec 32)
  /-- SERVICE_PORT_FRAME (R486): A frame arrives on the service port and is answered for neighbour discovery, echo or Mihimel UDP, or discarded. -/
  | servicePortFrame (f : SvcPacket)
  /-- MB_DOORBELL (R491): Writing MB_DOORBELL submits the mailbox request frame, or is ignored while one executes. -/
  | mbDoorbell (v : BitVec 32)
  /-- READ (R492): Mihimel request that reads one object's value. -/
  | read (r : MReq)
  /-- WRITE (R482): Mihimel request that writes one object's value as one step, checked for role, size and range. -/
  | write (r : MReq)
  /-- READ_SEG (R493): Mihimel request that reads up to 1,024 bytes of a large object from OFFSET. -/
  | readSeg (r : MReq)
  /-- WRITE_SEG (R493): Mihimel request that writes one segment of a large object, which takes the whole value at the last segment. -/
  | writeSeg (r : MReq)
  /-- LIST (R492): Mihimel request that returns the descriptor of the first object at or after an index and subindex. -/
  | list (r : MReq)
  /-- HELLO (R502): Session-opening request that returns a nonce for a method and slot. -/
  | hello (r : MReq)
  /-- PROVE_KEY (R505): Session-opening request with a signature over the opening message, deciding the session. -/
  | proveKey (r : MReq)
  /-- PROVE_PASSWORD (R505): Session-opening request with a password, deciding the session. -/
  | provePassword (r : MReq)
  /-- OPEN_LOCAL (R507): Mailbox request that opens a session with role SEC.MAILBOX_ROLE. -/
  | openLocal (r : MReq)
  /-- CLOSE (R502): Request that closes the session it is sent in. -/
  | close (r : MReq)
  /-- QUOTE (R514): Request that returns a module-signed attestation quote over the verifier's nonce. -/
  | quote (r : MReq)
  /-- SESSION_IDLE_EXPIRE (R508): A session closes 300 s after its last request. -/
  | sessionIdleExpire (sess : Fin 4)
  /-- SLOT_LOCKOUT_END (R506): A credential slot locked after five failures unlocks after 60 s. -/
  | slotLockoutEnd (slot : CredSlot)
  /-- SEC_CREDENTIAL_WRITE (R501): A write that changes a slot's key, hash or role closes every session opened through it. -/
  | secCredentialWrite (slot : CredSlot) (field : CredField) (data : List Byte)
  /-- BOOT_IMAGE (R512): The last segment of BOOT.IMAGE is checked and the slot set VALID or INVALID. -/
  | bootImage (image : List Byte)
  /-- BOOT_CTRL_RESTART (R513): Writing BOOT.CTRL_RESTART resets the standby controller, which boots under R511. -/
  | bootCtrlRestart (v : BitVec 8)
  /-- BOOT_COMMIT_SVN (R513): Writing BOOT.COMMIT_SVN sets BOOT.SVN_MIN to the running image's SVN when both controllers run it. -/
  | bootCommitSvn (v : BitVec 8)
  /-- BOOT_RECOVERY (R511): With no valid slot at either controller, the boot ROM of A enters recovery and serves the mailbox alone. -/
  | bootRecovery
  /-- HOST_LINK_TRAIN (R517): The PCIe link trains or retrains at the highest allowed speed and width. -/
  | hostLinkTrain (speed : Fin 7) (width : Fin 17)
  /-- HOST_LINK_DOWN (R527): The PCIe link goes down, resetting host-interface state and failing waiting host moves. -/
  | hostLinkDown
  /-- FUNCTION_LEVEL_RESET (R527): A Function Level Reset resets host-interface state and closes mailbox sessions. -/
  | functionLevelReset
  /-- PERST (R538): PERST_N acts on the PCIe endpoint alone. -/
  | perst (low : Bool)
  /-- CORE_PAGE_ACCESS (R521): An access through a BAR0 core page reaches the core's control window, popping TQ_POP on reads. -/
  | corePageAccess (die : Fin 16) (core : Fin 32) (off : Fin 0x1000) (acc : Access)
  /-- BAR2_ACCESS (R523): An access through a BAR2 window reaches a die's local space and completes at PCIe as R523 lays down. -/
  | bar2Access (off : Fin 0x1000000000) (acc : Access)
  /-- HOST_WINDOW_WRITE (R522): A write to HOST_Wn places a BAR2 window for every later request. -/
  | hostWindowWrite (w : Fin 4) (v : BitVec 64)
  /-- HOST_EVENT_W1C (R520): Writing 1 to a bit of HOST_EVENT clears it. -/
  | hostEventW1c (v : BitVec 32)
  /-- MSIX_UNMASK (R525): Unmasking a vector whose events occurred while masked sends one message. -/
  | msixUnmask (vec : Fin 256)
  /-- HOST_COMPLETION (R526): A PCIe completion for a module read returns, landing data or failing the move with HOST. -/
  | hostCompletion (tag : Nat) (cpl : Cpl)
  /-- HOST_CPL_TIMEOUT (R526): No completion arrives within HOST.CPL_TIMEOUT_MS and the move completes with HOST. -/
  | hostCplTimeout (tag : Nat)
  /-- POWER_APPLIED (R536): Power is applied and the start-up sequence enters at step 0. -/
  | powerApplied
  /-- MOD_RESET_ASSERT (R537): MOD_RESET_N asserted for 1 µs holds controllers in reset, switches rails off and resets fields. -/
  | modResetAssert
  /-- MOD_RESET_RELEASE (R537): MOD_RESET_N is released and the sequence resumes from step 1. -/
  | modResetRelease
  /-- STARTUP_STEP_END (R529): A start-up step ends for every die taking part and the next step begins. -/
  | startupStepEnd (r : StepResult)
  /-- GT_WAIT_EXPIRE (R531): BOOT.GT_WAIT_MS elapses in step 11 and the step ends without lock. -/
  | gtWaitExpire
  /-- STARTUP_STEP_OVERRUN (R541): A step exceeds twice its extended Max, so start-up retries from step 3 once or shows FAILED. -/
  | startupStepOverrun
  /-- PANEL_REFERENCE_LOST (R539): The panel reference stops or departs by 0.1 % for 1 µs, so the steward stops the dies and fences the module. -/
  | panelReferenceLost
  /-- UPSTREAM_PORT_LOST (R223): The upstream port ceases to be eligible when no whistle has arrived on it for 10 µs, so the module changes to another qualifying port or enters HOLDOVER. -/
  | upstreamPortLost
  /-- TIME_IN_10M_RETURN (R228): TIME_IN_10M comes back within ±10 ppm at the referee, which again locks its GT rate to it. -/
  | timeIn10mReturn
  /-- ELM_PREFERRED_RETURN (R254): After a lost preferred feed counts as present again, a further 10 ms of quiet passes and each light die returns to the preferred feed. -/
  | elmPreferredReturn (l : Fin 8)
  /-- PANEL_REFERENCE_RETURN (R539): The 100 MHz panel reference becomes present and within 0.1 % during start-up, which lets the held rail step begin. -/
  | panelReferenceReturn
deriving DecidableEq, Repr

end Sys2Proof
end

