-- ==== Sys2Proof/Config.lean ====
section
/-! DEFINITION. What the spec leaves open: the free values of the model. None has a body, so nothing can be proved about
what they are (notes/assumptions/5.md). -/

namespace Sys2Proof.Config

/-- A fresh value for each draw of the steward's random source: seeds (R51) and nonces (R504). Free. -/
opaque random : Nat → BitVec 256

/-- The element codes of an MX block whose scale is 0xFF: R53 gives the scale and no code. Free, by format code, the
position in the block and the sign of the value. -/
opaque nanElement : Nat → Nat → Bool → Nat

/-- The opcode field of Q_ERR after a halt that no command caused and for which the spec gives no code (R134, Table 26 of
ch.05). Free. -/
opaque haltOpcode : BitVec 8

/-- The rate in ppm at which the servo slews toward an offset of so many 1/256 ns; the model cuts it to 20 (R226). Free. -/
opaque servoPpm : Int → Nat

/-- The rate in ppm, above -10, of TIME_IN_10M when it is back within limits: the row reports the return alone; the model keeps it
within ±10 (R228). Free, by the module time of the return. -/
opaque tenMhzPpm : Nat → Nat

/-- The setting, in MHz of its range, to which the lock loop of a ring has moved by the time at which the steward refreshes the record:
no row reports it; the model cuts it to the range (R259, R260). Free, by module time, bank, direction and ring. -/
opaque ringSetting : Nat → Nat → Bool → Nat → Nat

/-- A counter of the object dictionary stepped past its largest value: the spec gives no result. Free, by object key. -/
opaque counterPast : Nat → Nat

/-- Deviation of an FN result from the exact value, in 2^-20 of the result's FP32 grid, before it is rounded; the model
cuts it to the bound of R56. Free, by function code and FP32 operand codes. -/
opaque fnOffset : Nat → Nat → Nat → Int

/-- What a class-3 link message says that agrees a spare line, by direction, lane and line: R262 gives it no layout. Free. -/
opaque linkMsg : Nat → BitVec 64

/-- Whether VX.SHUF rotates toward higher lanes: R117 gives the count and no direction. Free. -/
opaque rotateUp : Bool

/-- Whether an Ed25519 signature is good: public key, message, signature (R502, R508, R511). Free. -/
opaque edVerify : List Byte → List Byte → List Byte → Bool

/-- The Ed25519 signature of a message under the module key (R508, R513). Free. -/
opaque edSign : List Byte → List Byte

/-- SHA-512 (ch.19). Free. -/
opaque sha512 : List Byte → List Byte

/-- The 792 bytes of the identity record (R499). Free: one value for each module. -/
opaque identity : List Byte

/-- The fingerprint of each of the 25 dies (R500). Free. -/
opaque fingerprint : Nat → BitVec 256

/-- Whether a light die still routes by the old entry of a module at a lookup within 10 µs of its replacement (R309). Free, by
light die, module and the module time of the lookup. -/
opaque routeOld : Nat → Nat → Nat → Bool

/-- The set of the remote line cache that holds a line: module, die, line number (R343). Free. -/
opaque rlcSet : Nat → Nat → Nat → Nat

/-- The way replaced where a set of the remote line cache is full, for each draw (R343). Free. -/
opaque rlcWay : Nat → Nat

/-- The cause of the send-off of a module in play that learns from a VIEW that it is out: a VIEW carries no cause (R416, R421).
Free. -/
opaque viewCause : Nat

/-- The public release key in the boot ROM (ch.19). Free. -/
opaque releaseKey : List Byte

/-- The public half of the module key as the key unit derives it at every start (ch.19). Free. -/
opaque moduleKey : List Byte

/-- The firmware image that both slots hold when the module leaves manufacture: its contents are not given. Free. -/
opaque shippedImage : List Byte

/-- The bytes of the committed configuration record: R483 gives its contents and no layout. Free, by generation. -/
opaque configRecord : Nat → List Byte

/-- The bytes of the repair record of a die: R390 gives its contents and no layout. Free, by die and generation. -/
opaque repairRecord : Nat → Nat → List Byte

/-- The method and slot fields that SEC.SESSION shows for a session opened by OPEN_LOCAL: R516 names methods and slots of the other two
openings only. Free. -/
opaque localSession : BitVec 16

/-- What a read of so many bytes of a die that has stopped in service answers: status and data. R438 does not say. Free. -/
opaque stoppedRead : Nat → BitVec 8 × List Byte

/-- The site code that BOOT.LAST_FAIL shows after a step that overran its time: Table 4 of ch.21 names none. Free. -/
opaque overrunSite : BitVec 8

/-- The pause length that a link-pause notice names; the model cuts it to the limits of a pause (R265, R304). Free. -/
opaque pauseLength : Nat

end Sys2Proof.Config
end

