-- ==== Sys2Proof/Machine/Bits.lean ====
section
/-! DEFINITION. Bit fields, bytes and sparse tables: the helpers that every meaning uses. -/

namespace Sys2Proof.Machine

/-- Bits `hi` down to `lo` of a word, as a number (R8). -/
def bits {w : Nat} (v : BitVec w) (hi lo : Nat) : Nat := (v.toNat >>> lo) % 2 ^ (hi + 1 - lo)

/-- Bit `i` of a word. -/
def bit {w : Nat} (v : BitVec w) (i : Nat) : Bool := v.toNat.testBit i

/-- A word with bits `hi` down to `lo` replaced by `x`. -/
def putBits {w : Nat} (v : BitVec w) (hi lo x : Nat) : BitVec w :=
  BitVec.ofNat w (v.toNat - (bits v hi lo) * 2 ^ lo + (x % 2 ^ (hi + 1 - lo)) * 2 ^ lo)

/-- A word with bit `i` set to `b`. -/
def putBit {w : Nat} (v : BitVec w) (i : Nat) (b : Bool) : BitVec w := putBits v i i b.toNat

/-- One field of a word to be built: its lowest bit and its value. -/
def field (lo x : Nat) : Nat := x * 2 ^ lo

/-- The bytes of a number, least significant first (R9). -/
def toBytes : Nat → Nat → List Byte
  | 0, _ => []
  | n + 1, x => BitVec.ofNat 8 (x % 256) :: toBytes n (x / 256)

/-- The number that bytes spell, least significant first (R9). -/
def ofBytes : List Byte → Nat
  | [] => 0
  | b :: bs => b.toNat + 256 * ofBytes bs

/-- A number of `w` bits read as two's complement. -/
def signed (w x : Nat) : Int := if x % 2 ^ w < 2 ^ (w - 1) then (x % 2 ^ w : Int) else (x % 2 ^ w : Int) - 2 ^ w

/-- Two's complement of an integer in `w` bits. -/
def unsigned (w : Nat) (x : Int) : Nat := (x % (2 ^ w : Int)).toNat

/-- The value a table holds at a key, its default where the key is not listed. -/
def mapGet {α : Type} (d : α) : SMap α → Nat → α
  | [], _ => d
  | (k, v) :: m, i => if k = i then v else mapGet d m i

/-- The table with the value at a key replaced; the canonical form is kept (keys rise, no value is the default). -/
def mapSet {α : Type} [DecidableEq α] (d : α) : SMap α → Nat → α → SMap α
  | [], i, x => if x = d then [] else [(i, x)]
  | (k, v) :: m, i, x =>
    if i < k then (if x = d then (k, v) :: m else (i, x) :: (k, v) :: m)
    else if i = k then (if x = d then m else (i, x) :: m)
    else (k, v) :: mapSet d m i x

/-- Every key of a table lies above `i`, the keys rise strictly, and no value is the default. -/
def mapWfFrom {α : Type} [DecidableEq α] (d : α) : Option Nat → SMap α → Bool
  | _, [] => true
  | lo, (k, v) :: m => (match lo with | none => true | some i => decide (i < k)) && decide (v ≠ d) && mapWfFrom d (some k) m

/-- The canonical form of a table. -/
def mapWf {α : Type} [DecidableEq α] (d : α) (m : SMap α) : Bool := mapWfFrom d none m

/-- The entries whose keys satisfy `p` removed: they read as the default again. -/
def mapErase {α : Type} (p : Nat → Bool) (m : SMap α) : SMap α := m.filter (fun kv => !p kv.1)

/-- A number put into a strictly rising list. -/
def setIns : Nat → List Nat → List Nat
  | x, [] => [x]
  | x, y :: ys => if x < y then x :: y :: ys else if x = y then y :: ys else y :: setIns x ys

/-- A function done for 0, 1, ..., n - 1 in turn. -/
def iter {α : Type} (n : Nat) (f : Nat → α → α) (a : α) : α :=
  (List.range n).foldl (fun a i => f i a) a

/-- Saturating counter of `w` bits. -/
def satAdd (w x y : Nat) : Nat := min (2 ^ w - 1) (x + y)

/-- Division rounded up. -/
def ceilDiv (a b : Nat) : Nat := (a + b - 1) / b

end Sys2Proof.Machine
end

