-- ==== Sys2Proof/Machine/Objects.lean ====
section
/-! DEFINITION. The object dictionary: one row for each line of the spec's object tables (Tables of R54, R102, R129, ...),
with index, subindices, type, access, role, default and saved class (R12 to R14, R480, R481). -/

namespace Sys2Proof.Machine

/-- Object types (ch.18): unsigned of n bytes, BOOL, I32, octets and text of a fixed length. -/
inductive ObjTy where
  | u (bytes : Nat) | bool | i32 | octets (n : Nat) | str (n : Nat)
deriving DecidableEq, Repr

/-- Access of an object. -/
inductive ObjAcc where
  | ro | rw | wo
deriving DecidableEq, Repr

/-- Dictionary roles in increasing authority (R14). -/
inductive Role where
  | observer | operator | expert | owner
deriving DecidableEq, Repr

/-- The code of a role (R501): 0 Observer to 3 Owner. -/
def Role.code : Role → Nat
  | .observer => 0 | .operator => 1 | .expert => 2 | .owner => 3

/-- The Saved column: Y, N or F. -/
inductive Saved where
  | y | n | f
deriving DecidableEq, Repr

/-- A row of an object table: subindices `lo` to `hi` of index `idx`. -/
structure ObjRow where
  idx : Nat
  lo : Nat
  hi : Nat
  ty : ObjTy
  acc : ObjAcc
  role : Role
  dflt : Nat
  saved : Saved
deriving DecidableEq, Repr

def objRows0 : List ObjRow := [
  { idx := 0x1000, lo := 0x00, hi := 0x00, ty := .u 1, acc := .ro, role := .observer, dflt := 3, saved := .n },
  { idx := 0x1000, lo := 0x01, hi := 0x01, ty := .str 8, acc := .ro, role := .observer, dflt := 909201475, saved := .n },
  { idx := 0x1000, lo := 0x02, hi := 0x02, ty := .str 2, acc := .ro, role := .observer, dflt := 12609, saved := .n },
  { idx := 0x1000, lo := 0x03, hi := 0x03, ty := .u 2, acc := .ro, role := .observer, dflt := 256, saved := .n },
  { idx := 0x1010, lo := 0x00, hi := 0x00, ty := .u 1, acc := .ro, role := .observer, dflt := 2, saved := .n },
  { idx := 0x1010, lo := 0x01, hi := 0x01, ty := .u 4, acc := .wo, role := .operator, dflt := 0, saved := .n },
  { idx := 0x1010, lo := 0x02, hi := 0x02, ty := .u 1, acc := .ro, role := .observer, dflt := 0, saved := .n },
  { idx := 0x1011, lo := 0x01, hi := 0x01, ty := .u 4, acc := .wo, role := .owner, dflt := 0, saved := .n },
  { idx := 0x1020, lo := 0x00, hi := 0x00, ty := .u 1, acc := .ro, role := .observer, dflt := 5, saved := .n },
  { idx := 0x1020, lo := 0x01, hi := 0x01, ty := .u 1, acc := .ro, role := .observer, dflt := 255, saved := .n },
  { idx := 0x1020, lo := 0x02, hi := 0x02, ty := .u 2, acc := .ro, role := .observer, dflt := 0, saved := .n },
  { idx := 0x1020, lo := 0x03, hi := 0x03, ty := .u 4, acc := .ro, role := .observer, dflt := 0, saved := .n },
  { idx := 0x1020, lo := 0x04, hi := 0x04, ty := .u 4, acc := .ro, role := .observer, dflt := 0, saved := .n },
  { idx := 0x1020, lo := 0x05, hi := 0x05, ty := .u 4, acc := .ro, role := .observer, dflt := 0, saved := .n },
  { idx := 0x1030, lo := 0x00, hi := 0x00, ty := .u 1, acc := .ro, role := .observer, dflt := 5, saved := .n },
  { idx := 0x1030, lo := 0x01, hi := 0x01, ty := .bool, acc := .rw, role := .owner, dflt := 1, saved := .y },
  { idx := 0x1030, lo := 0x02, hi := 0x02, ty := .u 2, acc := .rw, role := .owner, dflt := 7811, saved := .y },
  { idx := 0x1030, lo := 0x03, hi := 0x03, ty := .u 1, acc := .ro, role := .observer, dflt := 0, saved := .n },
  { idx := 0x1030, lo := 0x04, hi := 0x04, ty := .u 1, acc := .ro, role := .observer, dflt := 0, saved := .n },
  { idx := 0x1030, lo := 0x05, hi := 0x05, ty := .u 4, acc := .ro, role := .observer, dflt := 0, saved := .n },
  { idx := 0x1800, lo := 0x00, hi := 0x00, ty := .u 1, acc := .ro, role := .expert, dflt := 1, saved := .n },
  { idx := 0x1800, lo := 0x01, hi := 0x01, ty := .bool, acc := .wo, role := .owner, dflt := 0, saved := .n },
  { idx := 0x2000, lo := 0x00, hi := 0x00, ty := .u 1, acc := .ro, role := .observer, dflt := 14, saved := .n },
  { idx := 0x2000, lo := 0x01, hi := 0x01, ty := .u 4, acc := .ro, role := .observer, dflt := 0, saved := .n },
  { idx := 0x2000, lo := 0x02, hi := 0x02, ty := .u 4, acc := .ro, role := .observer, dflt := 0, saved := .n },
  { idx := 0x2000, lo := 0x03, hi := 0x03, ty := .u 2, acc := .rw, role := .operator, dflt := 10500, saved := .y },
  { idx := 0x2000, lo := 0x04, hi := 0x04, ty := .u 2, acc := .ro, role := .observer, dflt := 0, saved := .n },
  { idx := 0x2000, lo := 0x05, hi := 0x05, ty := .u 2, acc := .ro, role := .observer, dflt := 0, saved := .n },
  { idx := 0x2000, lo := 0x06, hi := 0x06, ty := .u 2, acc := .rw, role := .operator, dflt := 12000, saved := .y },
  { idx := 0x2000, lo := 0x07, hi := 0x07, ty := .u 1, acc := .rw, role := .operator, dflt := 0, saved := .n },
  { idx := 0x2000, lo := 0x08, hi := 0x08, ty := .bool, acc := .rw, role := .operator, dflt := 0, saved := .n },
  { idx := 0x2000, lo := 0x09, hi := 0x09, ty := .u 1, acc := .rw, role := .operator, dflt := 0, saved := .y },
  { idx := 0x2000, lo := 0x0A, hi := 0x0A, ty := .u 1, acc := .ro, role := .observer, dflt := 0, saved := .n },
  { idx := 0x2000, lo := 0x0B, hi := 0x0B, ty := .u 4, acc := .ro, role := .observer, dflt := 0, saved := .n },
  { idx := 0x2000, lo := 0x0C, hi := 0x0C, ty := .u 4, acc := .ro, role := .observer, dflt := 0, saved := .n },
  { idx := 0x2000, lo := 0x0D, hi := 0x0D, ty := .u 2, acc := .ro, role := .observer, dflt := 0, saved := .n },
  { idx := 0x2000, lo := 0x0E, hi := 0x0E, ty := .u 8, acc := .ro, role := .observer, dflt := 0, saved := .n },
  { idx := 0x2001, lo := 0x00, hi := 0x00, ty := .u 1, acc := .ro, role := .observer, dflt := 16, saved := .n },
  { idx := 0x2001, lo := 0x01, hi := 0x10, ty := .u 1, acc := .ro, role := .observer, dflt := 0, saved := .n },
  { idx := 0x2002, lo := 0x00, hi := 0x00, ty := .u 2, acc := .rw, role := .operator, dflt := 0, saved := .n } ]

def objRows1 : List ObjRow := [
  { idx := 0x2003, lo := 0x01, hi := 0x10, ty := .u 1, acc := .ro, role := .observer, dflt := 0, saved := .n },
  { idx := 0x2004, lo := 0x00, hi := 0x00, ty := .u 1, acc := .ro, role := .observer, dflt := 18, saved := .n },
  { idx := 0x2004, lo := 0x01, hi := 0x12, ty := .u 4, acc := .ro, role := .observer, dflt := 0, saved := .n },
  { idx := 0x2005, lo := 0x01, hi := 0x10, ty := .u 2, acc := .ro, role := .observer, dflt := 1600, saved := .n },
  { idx := 0x2800, lo := 0x00, hi := 0x00, ty := .u 1, acc := .ro, role := .expert, dflt := 4, saved := .n },
  { idx := 0x2800, lo := 0x01, hi := 0x01, ty := .bool, acc := .rw, role := .expert, dflt := 0, saved := .y },
  { idx := 0x2800, lo := 0x02, hi := 0x02, ty := .bool, acc := .rw, role := .expert, dflt := 0, saved := .n },
  { idx := 0x2800, lo := 0x03, hi := 0x03, ty := .u 2, acc := .wo, role := .expert, dflt := 0, saved := .n },
  { idx := 0x2800, lo := 0x04, hi := 0x04, ty := .u 1, acc := .ro, role := .observer, dflt := 150, saved := .n },
  { idx := 0x3000, lo := 0x00, hi := 0x00, ty := .u 1, acc := .ro, role := .observer, dflt := 6, saved := .n },
  { idx := 0x3000, lo := 0x01, hi := 0x01, ty := .i32, acc := .ro, role := .observer, dflt := 0, saved := .n },
  { idx := 0x3000, lo := 0x02, hi := 0x02, ty := .i32, acc := .ro, role := .observer, dflt := 0, saved := .n },
  { idx := 0x3000, lo := 0x03, hi := 0x03, ty := .u 4, acc := .ro, role := .observer, dflt := 0, saved := .n },
  { idx := 0x3000, lo := 0x04, hi := 0x04, ty := .i32, acc := .ro, role := .observer, dflt := 0, saved := .n },
  { idx := 0x3000, lo := 0x05, hi := 0x05, ty := .u 4, acc := .ro, role := .observer, dflt := 0, saved := .f },
  { idx := 0x3000, lo := 0x06, hi := 0x06, ty := .bool, acc := .wo, role := .operator, dflt := 0, saved := .n },
  { idx := 0x3001, lo := 0x01, hi := 0x10, ty := .i32, acc := .ro, role := .observer, dflt := 0, saved := .n },
  { idx := 0x3002, lo := 0x01, hi := 0x40, ty := .i32, acc := .ro, role := .observer, dflt := 0, saved := .n },
  { idx := 0x3003, lo := 0x01, hi := 0x08, ty := .i32, acc := .ro, role := .observer, dflt := 0, saved := .n },
  { idx := 0x3004, lo := 0x01, hi := 0x10, ty := .u 1, acc := .ro, role := .observer, dflt := 100, saved := .n },
  { idx := 0x3005, lo := 0x01, hi := 0x10, ty := .u 4, acc := .ro, role := .observer, dflt := 0, saved := .n },
  { idx := 0x3006, lo := 0x01, hi := 0x10, ty := .octets 64, acc := .ro, role := .observer, dflt := 0, saved := .f },
  { idx := 0x3800, lo := 0x00, hi := 0x00, ty := .u 1, acc := .ro, role := .expert, dflt := 1, saved := .n },
  { idx := 0x3800, lo := 0x01, hi := 0x01, ty := .u 2, acc := .rw, role := .expert, dflt := 950, saved := .y },
  { idx := 0x4100, lo := 0x00, hi := 0x00, ty := .u 1, acc := .ro, role := .observer, dflt := 14, saved := .n },
  { idx := 0x4100, lo := 0x01, hi := 0x01, ty := .u 1, acc := .ro, role := .observer, dflt := 0, saved := .n },
  { idx := 0x4100, lo := 0x02, hi := 0x02, ty := .u 1, acc := .rw, role := .operator, dflt := 0, saved := .y },
  { idx := 0x4100, lo := 0x03, hi := 0x03, ty := .u 1, acc := .ro, role := .observer, dflt := 0, saved := .n },
  { idx := 0x4100, lo := 0x04, hi := 0x04, ty := .i32, acc := .rw, role := .operator, dflt := 4294967146, saved := .y },
  { idx := 0x4100, lo := 0x05, hi := 0x05, ty := .i32, acc := .ro, role := .observer, dflt := 4294966996, saved := .n },
  { idx := 0x4100, lo := 0x06, hi := 0x06, ty := .i32, acc := .ro, role := .observer, dflt := 4294966846, saved := .n },
  { idx := 0x4100, lo := 0x07, hi := 0x07, ty := .u 4, acc := .ro, role := .observer, dflt := 0, saved := .n },
  { idx := 0x4100, lo := 0x08, hi := 0x08, ty := .u 4, acc := .ro, role := .observer, dflt := 0, saved := .n },
  { idx := 0x4100, lo := 0x09, hi := 0x09, ty := .u 4, acc := .ro, role := .observer, dflt := 0, saved := .n },
  { idx := 0x4100, lo := 0x0A, hi := 0x0A, ty := .u 4, acc := .ro, role := .observer, dflt := 0, saved := .n },
  { idx := 0x4100, lo := 0x0B, hi := 0x0B, ty := .u 8, acc := .ro, role := .observer, dflt := 0, saved := .n },
  { idx := 0x4100, lo := 0x0C, hi := 0x0C, ty := .u 8, acc := .ro, role := .observer, dflt := 0, saved := .n },
  { idx := 0x4100, lo := 0x0D, hi := 0x0D, ty := .u 8, acc := .ro, role := .observer, dflt := 0, saved := .n },
  { idx := 0x4100, lo := 0x0E, hi := 0x0E, ty := .u 8, acc := .ro, role := .observer, dflt := 0, saved := .n },
  { idx := 0x4110, lo := 0x00, hi := 0x00, ty := .u 1, acc := .ro, role := .observer, dflt := 8, saved := .n } ]

def objRows2 : List ObjRow := [
  { idx := 0x4110, lo := 0x01, hi := 0x08, ty := .u 1, acc := .ro, role := .observer, dflt := 0, saved := .n },
  { idx := 0x4111, lo := 0x01, hi := 0x08, ty := .i32, acc := .ro, role := .observer, dflt := 0, saved := .n },
  { idx := 0x4112, lo := 0x01, hi := 0x08, ty := .u 1, acc := .ro, role := .observer, dflt := 1, saved := .n },
  { idx := 0x4120, lo := 0x00, hi := 0x00, ty := .u 1, acc := .ro, role := .observer, dflt := 136, saved := .n },
  { idx := 0x4120, lo := 0x01, hi := 0x88, ty := .u 1, acc := .ro, role := .observer, dflt := 0, saved := .n },
  { idx := 0x4121, lo := 0x01, hi := 0x80, ty := .u 1, acc := .ro, role := .observer, dflt := 0, saved := .n },
  { idx := 0x4122, lo := 0x01, hi := 0x80, ty := .u 2, acc := .ro, role := .observer, dflt := 0, saved := .n },
  { idx := 0x4123, lo := 0x01, hi := 0x80, ty := .u 1, acc := .ro, role := .observer, dflt := 68, saved := .n },
  { idx := 0x4124, lo := 0x00, hi := 0x00, ty := .octets 16, acc := .rw, role := .operator, dflt := 0, saved := .y },
  { idx := 0x4900, lo := 0x00, hi := 0x00, ty := .u 1, acc := .ro, role := .expert, dflt := 3, saved := .n },
  { idx := 0x4900, lo := 0x01, hi := 0x01, ty := .u 1, acc := .wo, role := .expert, dflt := 0, saved := .n },
  { idx := 0x4900, lo := 0x02, hi := 0x02, ty := .u 1, acc := .rw, role := .expert, dflt := 1, saved := .y },
  { idx := 0x4900, lo := 0x03, hi := 0x03, ty := .u 1, acc := .rw, role := .expert, dflt := 7, saved := .y },
  { idx := 0x5000, lo := 0x00, hi := 0x00, ty := .u 1, acc := .ro, role := .observer, dflt := 19, saved := .n },
  { idx := 0x5000, lo := 0x01, hi := 0x01, ty := .u 2, acc := .rw, role := .operator, dflt := 65535, saved := .n },
  { idx := 0x5000, lo := 0x02, hi := 0x02, ty := .u 4, acc := .ro, role := .observer, dflt := 0, saved := .n },
  { idx := 0x5000, lo := 0x03, hi := 0x03, ty := .u 1, acc := .rw, role := .operator, dflt := 3, saved := .y },
  { idx := 0x5000, lo := 0x04, hi := 0x04, ty := .u 1, acc := .rw, role := .operator, dflt := 1, saved := .y },
  { idx := 0x5000, lo := 0x05, hi := 0x05, ty := .u 1, acc := .rw, role := .operator, dflt := 8, saved := .y },
  { idx := 0x5000, lo := 0x06, hi := 0x06, ty := .u 4, acc := .ro, role := .observer, dflt := 0, saved := .n },
  { idx := 0x5000, lo := 0x07, hi := 0x07, ty := .u 8, acc := .ro, role := .observer, dflt := 0, saved := .n },
  { idx := 0x5000, lo := 0x08, hi := 0x08, ty := .u 4, acc := .ro, role := .observer, dflt := 0, saved := .n },
  { idx := 0x5000, lo := 0x09, hi := 0x09, ty := .u 4, acc := .ro, role := .observer, dflt := 0, saved := .n },
  { idx := 0x5000, lo := 0x0A, hi := 0x0A, ty := .u 4, acc := .ro, role := .observer, dflt := 0, saved := .n },
  { idx := 0x5000, lo := 0x0B, hi := 0x0B, ty := .u 4, acc := .ro, role := .observer, dflt := 0, saved := .n },
  { idx := 0x5000, lo := 0x0C, hi := 0x0C, ty := .u 4, acc := .ro, role := .observer, dflt := 0, saved := .n },
  { idx := 0x5000, lo := 0x0D, hi := 0x0D, ty := .u 4, acc := .ro, role := .observer, dflt := 0, saved := .n },
  { idx := 0x5000, lo := 0x0E, hi := 0x0E, ty := .u 4, acc := .ro, role := .observer, dflt := 0, saved := .n },
  { idx := 0x5000, lo := 0x0F, hi := 0x0F, ty := .u 4, acc := .ro, role := .observer, dflt := 0, saved := .n },
  { idx := 0x5000, lo := 0x10, hi := 0x10, ty := .u 4, acc := .ro, role := .observer, dflt := 0, saved := .n },
  { idx := 0x5000, lo := 0x11, hi := 0x11, ty := .u 4, acc := .ro, role := .observer, dflt := 0, saved := .n },
  { idx := 0x5000, lo := 0x12, hi := 0x12, ty := .u 8, acc := .ro, role := .observer, dflt := 0, saved := .n },
  { idx := 0x5000, lo := 0x13, hi := 0x13, ty := .u 8, acc := .ro, role := .observer, dflt := 0, saved := .n },
  { idx := 0x5100, lo := 0x00, hi := 0x00, ty := .u 1, acc := .ro, role := .observer, dflt := 9, saved := .n },
  { idx := 0x5100, lo := 0x01, hi := 0x01, ty := .u 1, acc := .ro, role := .observer, dflt := 0, saved := .n },
  { idx := 0x5100, lo := 0x02, hi := 0x02, ty := .u 8, acc := .ro, role := .observer, dflt := 0, saved := .n },
  { idx := 0x5100, lo := 0x03, hi := 0x03, ty := .u 1, acc := .ro, role := .observer, dflt := 255, saved := .n },
  { idx := 0x5100, lo := 0x04, hi := 0x04, ty := .u 2, acc := .ro, role := .observer, dflt := 65535, saved := .n },
  { idx := 0x5100, lo := 0x05, hi := 0x05, ty := .u 1, acc := .ro, role := .observer, dflt := 255, saved := .n },
  { idx := 0x5100, lo := 0x06, hi := 0x06, ty := .u 4, acc := .ro, role := .observer, dflt := 4294967295, saved := .n } ]

def objRows3 : List ObjRow := [
  { idx := 0x5100, lo := 0x07, hi := 0x07, ty := .u 4, acc := .ro, role := .observer, dflt := 0, saved := .n },
  { idx := 0x5100, lo := 0x08, hi := 0x08, ty := .u 4, acc := .ro, role := .observer, dflt := 0, saved := .n },
  { idx := 0x5100, lo := 0x09, hi := 0x09, ty := .u 4, acc := .ro, role := .observer, dflt := 0, saved := .n },
  { idx := 0x5101, lo := 0x00, hi := 0x00, ty := .u 1, acc := .ro, role := .observer, dflt := 4, saved := .n },
  { idx := 0x5101, lo := 0x01, hi := 0x01, ty := .u 1, acc := .rw, role := .operator, dflt := 255, saved := .y },
  { idx := 0x5101, lo := 0x02, hi := 0x02, ty := .bool, acc := .rw, role := .operator, dflt := 0, saved := .y },
  { idx := 0x5101, lo := 0x03, hi := 0x03, ty := .u 8, acc := .wo, role := .operator, dflt := 0, saved := .n },
  { idx := 0x5101, lo := 0x04, hi := 0x04, ty := .u 8, acc := .wo, role := .operator, dflt := 0, saved := .n },
  { idx := 0x5102, lo := 0x00, hi := 0x00, ty := .u 1, acc := .ro, role := .observer, dflt := 128, saved := .n },
  { idx := 0x5102, lo := 0x01, hi := 0x80, ty := .u 4, acc := .ro, role := .observer, dflt := 0, saved := .n },
  { idx := 0x5200, lo := 0x00, hi := 0x00, ty := .u 1, acc := .ro, role := .observer, dflt := 5, saved := .n },
  { idx := 0x5200, lo := 0x01, hi := 0x01, ty := .u 4, acc := .ro, role := .observer, dflt := 0, saved := .n },
  { idx := 0x5200, lo := 0x02, hi := 0x02, ty := .u 4, acc := .ro, role := .observer, dflt := 0, saved := .n },
  { idx := 0x5200, lo := 0x03, hi := 0x03, ty := .u 2, acc := .ro, role := .observer, dflt := 0, saved := .n },
  { idx := 0x5200, lo := 0x04, hi := 0x04, ty := .u 8, acc := .ro, role := .observer, dflt := 0, saved := .n },
  { idx := 0x5200, lo := 0x05, hi := 0x05, ty := .u 1, acc := .rw, role := .operator, dflt := 3, saved := .y },
  { idx := 0x5201, lo := 0x00, hi := 0x00, ty := .u 1, acc := .ro, role := .observer, dflt := 53, saved := .n },
  { idx := 0x5201, lo := 0x01, hi := 0x35, ty := .u 4, acc := .ro, role := .observer, dflt := 0, saved := .n },
  { idx := 0x5202, lo := 0x01, hi := 0x35, ty := .u 1, acc := .ro, role := .observer, dflt := 2, saved := .n },
  { idx := 0x5300, lo := 0x00, hi := 0x00, ty := .u 1, acc := .ro, role := .observer, dflt := 8, saved := .n },
  { idx := 0x5300, lo := 0x01, hi := 0x01, ty := .u 4, acc := .rw, role := .operator, dflt := 100000, saved := .y },
  { idx := 0x5300, lo := 0x02, hi := 0x02, ty := .u 1, acc := .rw, role := .operator, dflt := 1, saved := .y },
  { idx := 0x5300, lo := 0x03, hi := 0x03, ty := .u 4, acc := .rw, role := .operator, dflt := 5000, saved := .y },
  { idx := 0x5300, lo := 0x04, hi := 0x04, ty := .u 8, acc := .ro, role := .observer, dflt := 0, saved := .n },
  { idx := 0x5300, lo := 0x05, hi := 0x05, ty := .u 4, acc := .ro, role := .observer, dflt := 0, saved := .n },
  { idx := 0x5300, lo := 0x06, hi := 0x06, ty := .u 4, acc := .ro, role := .observer, dflt := 0, saved := .n },
  { idx := 0x5300, lo := 0x07, hi := 0x07, ty := .u 4, acc := .ro, role := .observer, dflt := 0, saved := .n },
  { idx := 0x5300, lo := 0x08, hi := 0x08, ty := .u 4, acc := .ro, role := .observer, dflt := 0, saved := .n },
  { idx := 0x5900, lo := 0x00, hi := 0x00, ty := .u 1, acc := .ro, role := .expert, dflt := 1, saved := .n },
  { idx := 0x5900, lo := 0x01, hi := 0x01, ty := .u 2, acc := .rw, role := .expert, dflt := 100, saved := .y },
  { idx := 0x5A00, lo := 0x00, hi := 0x00, ty := .u 1, acc := .ro, role := .expert, dflt := 2, saved := .n },
  { idx := 0x5A00, lo := 0x01, hi := 0x01, ty := .u 1, acc := .rw, role := .expert, dflt := 0, saved := .n },
  { idx := 0x5A00, lo := 0x02, hi := 0x02, ty := .octets 8, acc := .ro, role := .expert, dflt := 0, saved := .n },
  { idx := 0x5B00, lo := 0x00, hi := 0x00, ty := .u 1, acc := .ro, role := .expert, dflt := 1, saved := .n },
  { idx := 0x5B00, lo := 0x01, hi := 0x01, ty := .u 2, acc := .rw, role := .expert, dflt := 20, saved := .y },
  { idx := 0x6010, lo := 0x00, hi := 0x00, ty := .u 1, acc := .ro, role := .observer, dflt := 6, saved := .n },
  { idx := 0x6010, lo := 0x01, hi := 0x01, ty := .u 4, acc := .ro, role := .observer, dflt := 0, saved := .n },
  { idx := 0x6010, lo := 0x02, hi := 0x02, ty := .u 4, acc := .ro, role := .observer, dflt := 0, saved := .n },
  { idx := 0x6010, lo := 0x03, hi := 0x03, ty := .u 4, acc := .ro, role := .observer, dflt := 0, saved := .n },
  { idx := 0x6010, lo := 0x04, hi := 0x04, ty := .u 4, acc := .ro, role := .observer, dflt := 0, saved := .n } ]

def objRows4 : List ObjRow := [
  { idx := 0x6010, lo := 0x05, hi := 0x05, ty := .u 4, acc := .ro, role := .observer, dflt := 0, saved := .n },
  { idx := 0x6010, lo := 0x06, hi := 0x06, ty := .u 1, acc := .ro, role := .observer, dflt := 0, saved := .n },
  { idx := 0x6020, lo := 0x00, hi := 0x00, ty := .u 1, acc := .ro, role := .observer, dflt := 6, saved := .n },
  { idx := 0x6020, lo := 0x01, hi := 0x01, ty := .u 4, acc := .ro, role := .observer, dflt := 0, saved := .n },
  { idx := 0x6020, lo := 0x02, hi := 0x02, ty := .u 4, acc := .ro, role := .observer, dflt := 0, saved := .n },
  { idx := 0x6020, lo := 0x03, hi := 0x03, ty := .u 4, acc := .ro, role := .observer, dflt := 0, saved := .n },
  { idx := 0x6020, lo := 0x04, hi := 0x04, ty := .u 4, acc := .ro, role := .observer, dflt := 0, saved := .n },
  { idx := 0x6020, lo := 0x05, hi := 0x05, ty := .u 1, acc := .ro, role := .observer, dflt := 4, saved := .n },
  { idx := 0x6020, lo := 0x06, hi := 0x06, ty := .u 1, acc := .ro, role := .observer, dflt := 2, saved := .n },
  { idx := 0x6021, lo := 0x00, hi := 0x00, ty := .u 1, acc := .ro, role := .observer, dflt := 64, saved := .n },
  { idx := 0x6021, lo := 0x01, hi := 0x40, ty := .u 1, acc := .ro, role := .observer, dflt := 1, saved := .n },
  { idx := 0x6022, lo := 0x00, hi := 0x00, ty := .u 8, acc := .rw, role := .operator, dflt := 0, saved := .n },
  { idx := 0x6030, lo := 0x00, hi := 0x00, ty := .u 1, acc := .ro, role := .observer, dflt := 10, saved := .n },
  { idx := 0x6030, lo := 0x01, hi := 0x01, ty := .bool, acc := .rw, role := .operator, dflt := 1, saved := .y },
  { idx := 0x6030, lo := 0x02, hi := 0x02, ty := .u 8, acc := .ro, role := .observer, dflt := 0, saved := .n },
  { idx := 0x6030, lo := 0x03, hi := 0x03, ty := .u 8, acc := .ro, role := .observer, dflt := 0, saved := .n },
  { idx := 0x6030, lo := 0x04, hi := 0x04, ty := .u 4, acc := .ro, role := .observer, dflt := 0, saved := .n },
  { idx := 0x6030, lo := 0x05, hi := 0x05, ty := .u 4, acc := .ro, role := .observer, dflt := 0, saved := .n },
  { idx := 0x6030, lo := 0x06, hi := 0x06, ty := .u 8, acc := .ro, role := .observer, dflt := 0, saved := .n },
  { idx := 0x6030, lo := 0x07, hi := 0x07, ty := .u 8, acc := .ro, role := .observer, dflt := 0, saved := .n },
  { idx := 0x6030, lo := 0x08, hi := 0x08, ty := .u 8, acc := .ro, role := .observer, dflt := 0, saved := .n },
  { idx := 0x6030, lo := 0x09, hi := 0x09, ty := .u 4, acc := .ro, role := .observer, dflt := 0, saved := .n },
  { idx := 0x6030, lo := 0x0A, hi := 0x0A, ty := .u 4, acc := .ro, role := .observer, dflt := 0, saved := .n },
  { idx := 0x6810, lo := 0x00, hi := 0x00, ty := .u 1, acc := .ro, role := .expert, dflt := 1, saved := .n },
  { idx := 0x6810, lo := 0x01, hi := 0x01, ty := .u 1, acc := .rw, role := .expert, dflt := 0, saved := .n },
  { idx := 0x6820, lo := 0x00, hi := 0x00, ty := .u 1, acc := .ro, role := .expert, dflt := 2, saved := .n },
  { idx := 0x6820, lo := 0x01, hi := 0x01, ty := .u 2, acc := .rw, role := .expert, dflt := 8, saved := .y },
  { idx := 0x6820, lo := 0x02, hi := 0x02, ty := .bool, acc := .rw, role := .expert, dflt := 1, saved := .y },
  { idx := 0x6830, lo := 0x00, hi := 0x00, ty := .u 1, acc := .ro, role := .expert, dflt := 2, saved := .n },
  { idx := 0x6830, lo := 0x01, hi := 0x01, ty := .u 4, acc := .rw, role := .expert, dflt := 10000, saved := .y },
  { idx := 0x6830, lo := 0x02, hi := 0x02, ty := .bool, acc := .rw, role := .expert, dflt := 1, saved := .y },
  { idx := 0x7000, lo := 0x00, hi := 0x00, ty := .u 1, acc := .ro, role := .observer, dflt := 3, saved := .n },
  { idx := 0x7000, lo := 0x01, hi := 0x01, ty := .u 4, acc := .ro, role := .observer, dflt := 0, saved := .n },
  { idx := 0x7000, lo := 0x02, hi := 0x02, ty := .u 2, acc := .ro, role := .observer, dflt := 0, saved := .n },
  { idx := 0x7000, lo := 0x03, hi := 0x03, ty := .u 1, acc := .ro, role := .observer, dflt := 15, saved := .n },
  { idx := 0x7001, lo := 0x00, hi := 0x00, ty := .u 1, acc := .ro, role := .observer, dflt := 16, saved := .n },
  { idx := 0x7001, lo := 0x01, hi := 0x10, ty := .u 1, acc := .ro, role := .observer, dflt := 4, saved := .n },
  { idx := 0x7002, lo := 0x01, hi := 0x10, ty := .u 4, acc := .ro, role := .observer, dflt := 0, saved := .n },
  { idx := 0x7003, lo := 0x01, hi := 0x10, ty := .octets 32, acc := .ro, role := .observer, dflt := 0, saved := .n },
  { idx := 0x7010, lo := 0x00, hi := 0x00, ty := .u 1, acc := .ro, role := .observer, dflt := 10, saved := .n } ]

def objRows5 : List ObjRow := [
  { idx := 0x7010, lo := 0x01, hi := 0x0A, ty := .u 1, acc := .ro, role := .observer, dflt := 0, saved := .n },
  { idx := 0x7040, lo := 0x00, hi := 0x00, ty := .u 1, acc := .ro, role := .observer, dflt := 3, saved := .n },
  { idx := 0x7040, lo := 0x01, hi := 0x01, ty := .u 1, acc := .rw, role := .expert, dflt := 0, saved := .y },
  { idx := 0x7040, lo := 0x02, hi := 0x02, ty := .u 4, acc := .rw, role := .expert, dflt := 1, saved := .y },
  { idx := 0x7040, lo := 0x03, hi := 0x03, ty := .bool, acc := .rw, role := .operator, dflt := 1, saved := .y },
  { idx := 0x7050, lo := 0x00, hi := 0x00, ty := .u 1, acc := .ro, role := .observer, dflt := 4, saved := .n },
  { idx := 0x7050, lo := 0x01, hi := 0x01, ty := .u 1, acc := .rw, role := .expert, dflt := 2, saved := .y },
  { idx := 0x7050, lo := 0x02, hi := 0x02, ty := .u 2, acc := .rw, role := .expert, dflt := 4, saved := .y },
  { idx := 0x7050, lo := 0x03, hi := 0x03, ty := .u 1, acc := .ro, role := .observer, dflt := 10, saved := .n },
  { idx := 0x7050, lo := 0x04, hi := 0x04, ty := .u 4, acc := .ro, role := .observer, dflt := 0, saved := .n },
  { idx := 0x7060, lo := 0x00, hi := 0x00, ty := .u 1, acc := .ro, role := .observer, dflt := 5, saved := .n },
  { idx := 0x7060, lo := 0x01, hi := 0x01, ty := .u 1, acc := .rw, role := .expert, dflt := 2, saved := .y },
  { idx := 0x7060, lo := 0x02, hi := 0x02, ty := .u 2, acc := .rw, role := .expert, dflt := 4, saved := .y },
  { idx := 0x7060, lo := 0x03, hi := 0x03, ty := .u 1, acc := .ro, role := .observer, dflt := 5, saved := .n },
  { idx := 0x7060, lo := 0x04, hi := 0x04, ty := .u 4, acc := .ro, role := .observer, dflt := 0, saved := .n },
  { idx := 0x7060, lo := 0x05, hi := 0x05, ty := .u 4, acc := .ro, role := .observer, dflt := 0, saved := .n },
  { idx := 0x7070, lo := 0x00, hi := 0x00, ty := .u 1, acc := .ro, role := .observer, dflt := 5, saved := .n },
  { idx := 0x7070, lo := 0x01, hi := 0x01, ty := .u 4, acc := .ro, role := .observer, dflt := 0, saved := .n },
  { idx := 0x7070, lo := 0x02, hi := 0x02, ty := .u 4, acc := .ro, role := .observer, dflt := 0, saved := .n },
  { idx := 0x7070, lo := 0x03, hi := 0x03, ty := .u 4, acc := .ro, role := .observer, dflt := 0, saved := .n },
  { idx := 0x7070, lo := 0x04, hi := 0x04, ty := .u 4, acc := .ro, role := .observer, dflt := 0, saved := .n },
  { idx := 0x7070, lo := 0x05, hi := 0x05, ty := .u 4, acc := .ro, role := .observer, dflt := 0, saved := .n },
  { idx := 0x7800, lo := 0x00, hi := 0x00, ty := .u 1, acc := .ro, role := .expert, dflt := 4, saved := .n },
  { idx := 0x7800, lo := 0x01, hi := 0x01, ty := .u 1, acc := .rw, role := .expert, dflt := 2, saved := .y },
  { idx := 0x7800, lo := 0x02, hi := 0x02, ty := .bool, acc := .rw, role := .expert, dflt := 1, saved := .y },
  { idx := 0x7800, lo := 0x03, hi := 0x03, ty := .u 2, acc := .wo, role := .expert, dflt := 0, saved := .n },
  { idx := 0x7800, lo := 0x04, hi := 0x04, ty := .bool, acc := .rw, role := .owner, dflt := 0, saved := .n },
  { idx := 0x8000, lo := 0x00, hi := 0x00, ty := .u 1, acc := .ro, role := .observer, dflt := 13, saved := .n },
  { idx := 0x8000, lo := 0x01, hi := 0x01, ty := .u 1, acc := .ro, role := .observer, dflt := 0, saved := .n },
  { idx := 0x8000, lo := 0x02, hi := 0x02, ty := .u 1, acc := .ro, role := .observer, dflt := 0, saved := .n },
  { idx := 0x8000, lo := 0x03, hi := 0x03, ty := .u 1, acc := .ro, role := .observer, dflt := 0, saved := .n },
  { idx := 0x8000, lo := 0x04, hi := 0x04, ty := .u 2, acc := .ro, role := .observer, dflt := 1000, saved := .n },
  { idx := 0x8000, lo := 0x05, hi := 0x05, ty := .u 2, acc := .rw, role := .operator, dflt := 600, saved := .y },
  { idx := 0x8000, lo := 0x06, hi := 0x06, ty := .u 2, acc := .rw, role := .operator, dflt := 0, saved := .y },
  { idx := 0x8000, lo := 0x07, hi := 0x07, ty := .u 2, acc := .rw, role := .operator, dflt := 20, saved := .y },
  { idx := 0x8000, lo := 0x08, hi := 0x08, ty := .bool, acc := .wo, role := .operator, dflt := 0, saved := .n },
  { idx := 0x8000, lo := 0x09, hi := 0x09, ty := .u 4, acc := .ro, role := .observer, dflt := 0, saved := .n },
  { idx := 0x8000, lo := 0x0A, hi := 0x0A, ty := .u 4, acc := .wo, role := .operator, dflt := 0, saved := .n },
  { idx := 0x8000, lo := 0x0B, hi := 0x0B, ty := .bool, acc := .rw, role := .operator, dflt := 0, saved := .n },
  { idx := 0x8000, lo := 0x0C, hi := 0x0C, ty := .u 4, acc := .ro, role := .observer, dflt := 0, saved := .n } ]

def objRows6 : List ObjRow := [
  { idx := 0x8000, lo := 0x0D, hi := 0x0D, ty := .u 4, acc := .ro, role := .observer, dflt := 0, saved := .n },
  { idx := 0x8001, lo := 0x00, hi := 0x00, ty := .u 1, acc := .ro, role := .observer, dflt := 4, saved := .n },
  { idx := 0x8001, lo := 0x01, hi := 0x04, ty := .u 2, acc := .rw, role := .owner, dflt := 65535, saved := .y },
  { idx := 0x8002, lo := 0x00, hi := 0x00, ty := .u 1, acc := .ro, role := .observer, dflt := 8, saved := .n },
  { idx := 0x8002, lo := 0x01, hi := 0x01, ty := .u 2, acc := .ro, role := .observer, dflt := 65535, saved := .n },
  { idx := 0x8002, lo := 0x02, hi := 0x02, ty := .u 2, acc := .ro, role := .observer, dflt := 65535, saved := .n },
  { idx := 0x8002, lo := 0x03, hi := 0x03, ty := .u 8, acc := .ro, role := .observer, dflt := 0, saved := .n },
  { idx := 0x8002, lo := 0x04, hi := 0x04, ty := .u 1, acc := .ro, role := .observer, dflt := 0, saved := .n },
  { idx := 0x8002, lo := 0x05, hi := 0x05, ty := .u 2, acc := .wo, role := .owner, dflt := 0, saved := .n },
  { idx := 0x8002, lo := 0x06, hi := 0x06, ty := .u 2, acc := .wo, role := .operator, dflt := 0, saved := .n },
  { idx := 0x8002, lo := 0x07, hi := 0x07, ty := .u 2, acc := .wo, role := .operator, dflt := 0, saved := .n },
  { idx := 0x8002, lo := 0x08, hi := 0x08, ty := .u 4, acc := .ro, role := .observer, dflt := 0, saved := .n },
  { idx := 0x8010, lo := 0x00, hi := 0x00, ty := .u 1, acc := .ro, role := .observer, dflt := 26, saved := .n },
  { idx := 0x8010, lo := 0x01, hi := 0x1A, ty := .u 4, acc := .ro, role := .observer, dflt := 0, saved := .n },
  { idx := 0x8100, lo := 0x01, hi := 0x80, ty := .octets 32, acc := .ro, role := .observer, dflt := 0, saved := .n },
  { idx := 0x8101, lo := 0x01, hi := 0x80, ty := .octets 32, acc := .ro, role := .observer, dflt := 0, saved := .n },
  { idx := 0x8200, lo := 0x00, hi := 0x00, ty := .u 1, acc := .ro, role := .observer, dflt := 5, saved := .n },
  { idx := 0x8200, lo := 0x01, hi := 0x01, ty := .bool, acc := .rw, role := .operator, dflt := 0, saved := .n },
  { idx := 0x8200, lo := 0x02, hi := 0x02, ty := .u 1, acc := .rw, role := .operator, dflt := 2, saved := .n },
  { idx := 0x8200, lo := 0x03, hi := 0x03, ty := .u 2, acc := .rw, role := .operator, dflt := 65535, saved := .n },
  { idx := 0x8200, lo := 0x04, hi := 0x04, ty := .u 4, acc := .rw, role := .operator, dflt := 0, saved := .n },
  { idx := 0x8200, lo := 0x05, hi := 0x05, ty := .u 8, acc := .ro, role := .observer, dflt := 0, saved := .n },
  { idx := 0x8800, lo := 0x00, hi := 0x00, ty := .u 1, acc := .ro, role := .expert, dflt := 3, saved := .n },
  { idx := 0x8800, lo := 0x01, hi := 0x01, ty := .u 4, acc := .rw, role := .expert, dflt := 100, saved := .y },
  { idx := 0x8800, lo := 0x02, hi := 0x02, ty := .u 2, acc := .rw, role := .expert, dflt := 1200, saved := .y },
  { idx := 0x8800, lo := 0x03, hi := 0x03, ty := .u 2, acc := .rw, role := .expert, dflt := 30, saved := .y },
  { idx := 0x9000, lo := 0x00, hi := 0x00, ty := .u 1, acc := .ro, role := .observer, dflt := 5, saved := .n },
  { idx := 0x9000, lo := 0x01, hi := 0x01, ty := .octets 792, acc := .ro, role := .observer, dflt := 0, saved := .n },
  { idx := 0x9000, lo := 0x02, hi := 0x02, ty := .u 1, acc := .ro, role := .observer, dflt := 0, saved := .n },
  { idx := 0x9000, lo := 0x03, hi := 0x03, ty := .octets 32, acc := .ro, role := .observer, dflt := 0, saved := .n },
  { idx := 0x9000, lo := 0x04, hi := 0x04, ty := .u 4, acc := .ro, role := .observer, dflt := 0, saved := .n },
  { idx := 0x9000, lo := 0x05, hi := 0x05, ty := .u 1, acc := .rw, role := .owner, dflt := 3, saved := .y },
  { idx := 0x9010, lo := 0x01, hi := 0x08, ty := .octets 32, acc := .rw, role := .owner, dflt := 0, saved := .y },
  { idx := 0x9011, lo := 0x01, hi := 0x08, ty := .u 1, acc := .rw, role := .owner, dflt := 255, saved := .y },
  { idx := 0x9020, lo := 0x01, hi := 0x04, ty := .octets 80, acc := .wo, role := .owner, dflt := 0, saved := .y },
  { idx := 0x9021, lo := 0x01, hi := 0x04, ty := .u 1, acc := .rw, role := .owner, dflt := 255, saved := .y },
  { idx := 0x9030, lo := 0x01, hi := 0x04, ty := .u 4, acc := .ro, role := .observer, dflt := 0, saved := .n },
  { idx := 0xA000, lo := 0x00, hi := 0x00, ty := .u 1, acc := .ro, role := .observer, dflt := 5, saved := .n },
  { idx := 0xA000, lo := 0x01, hi := 0x01, ty := .u 2, acc := .ro, role := .observer, dflt := 0, saved := .n },
  { idx := 0xA000, lo := 0x02, hi := 0x02, ty := .u 1, acc := .rw, role := .operator, dflt := 6, saved := .y } ]

def objRows7 : List ObjRow := [
  { idx := 0xA000, lo := 0x03, hi := 0x03, ty := .u 8, acc := .ro, role := .observer, dflt := 0, saved := .n },
  { idx := 0xA000, lo := 0x04, hi := 0x04, ty := .u 4, acc := .ro, role := .observer, dflt := 0, saved := .n },
  { idx := 0xA000, lo := 0x05, hi := 0x05, ty := .u 4, acc := .ro, role := .observer, dflt := 0, saved := .n },
  { idx := 0xA800, lo := 0x00, hi := 0x00, ty := .u 1, acc := .ro, role := .expert, dflt := 1, saved := .n },
  { idx := 0xA800, lo := 0x01, hi := 0x01, ty := .u 2, acc := .rw, role := .expert, dflt := 50, saved := .y },
  { idx := 0xB000, lo := 0x00, hi := 0x00, ty := .u 1, acc := .ro, role := .observer, dflt := 5, saved := .n },
  { idx := 0xB000, lo := 0x01, hi := 0x01, ty := .u 1, acc := .ro, role := .observer, dflt := 0, saved := .n },
  { idx := 0xB000, lo := 0x02, hi := 0x02, ty := .u 1, acc := .ro, role := .observer, dflt := 0, saved := .n },
  { idx := 0xB000, lo := 0x03, hi := 0x03, ty := .u 4, acc := .ro, role := .observer, dflt := 0, saved := .f },
  { idx := 0xB000, lo := 0x04, hi := 0x04, ty := .u 4, acc := .ro, role := .observer, dflt := 0, saved := .n },
  { idx := 0xB000, lo := 0x05, hi := 0x05, ty := .u 2, acc := .ro, role := .observer, dflt := 0, saved := .n },
  { idx := 0xB001, lo := 0x00, hi := 0x00, ty := .u 1, acc := .ro, role := .observer, dflt := 13, saved := .n },
  { idx := 0xB001, lo := 0x01, hi := 0x0D, ty := .u 4, acc := .ro, role := .observer, dflt := 0, saved := .n },
  { idx := 0xB100, lo := 0x00, hi := 0x00, ty := .u 1, acc := .ro, role := .observer, dflt := 6, saved := .n },
  { idx := 0xB100, lo := 0x01, hi := 0x01, ty := .u 1, acc := .ro, role := .observer, dflt := 0, saved := .n },
  { idx := 0xB100, lo := 0x02, hi := 0x02, ty := .u 1, acc := .rw, role := .owner, dflt := 0, saved := .y },
  { idx := 0xB100, lo := 0x03, hi := 0x03, ty := .u 2, acc := .ro, role := .observer, dflt := 0, saved := .n },
  { idx := 0xB100, lo := 0x04, hi := 0x04, ty := .u 4, acc := .ro, role := .observer, dflt := 0, saved := .n },
  { idx := 0xB100, lo := 0x05, hi := 0x05, ty := .bool, acc := .wo, role := .owner, dflt := 0, saved := .n },
  { idx := 0xB100, lo := 0x06, hi := 0x06, ty := .bool, acc := .wo, role := .owner, dflt := 0, saved := .n },
  { idx := 0xB101, lo := 0x01, hi := 0x02, ty := .octets 152, acc := .ro, role := .observer, dflt := 0, saved := .n },
  { idx := 0xB102, lo := 0x00, hi := 0x00, ty := .octets 67108864, acc := .wo, role := .owner, dflt := 0, saved := .n },
  { idx := 0xB800, lo := 0x00, hi := 0x00, ty := .u 1, acc := .ro, role := .expert, dflt := 1, saved := .n },
  { idx := 0xB800, lo := 0x01, hi := 0x01, ty := .u 4, acc := .rw, role := .expert, dflt := 2000, saved := .y } ]

/-- Every row of the object tables, in rising order of index and subindex. -/
def objTable : List ObjRow :=
  objRows0 ++ objRows1 ++ objRows2 ++ objRows3 ++ objRows4 ++ objRows5 ++ objRows6 ++ objRows7

/-- The row of an object; none where the dictionary has none (R480). -/
def objRow (idx sub : Nat) : Option ObjRow :=
  objTable.find? (fun r => r.idx == idx && decide (r.lo ≤ sub) && decide (sub ≤ r.hi))

/-- Defaults that differ by subindex: OPT.PORT_PHYS and CMP.BENCH_LEFT; the row's default otherwise. -/
def objDefault (idx sub : Nat) : Nat :=
  if idx = 0x4121 ∧ sub ≠ 0 then 17 * ((sub - 1) / 16) + (sub - 1) % 16
  else if idx = 0x7010 ∧ sub ≠ 0 then (([4, 2, 4, 2, 4, 1, 1, 1, 2, 1] : List Nat)[sub - 1]?).getD 0
  else match objRow idx sub with
    | some r => r.dflt
    | none => 0

/-- Bytes of a value of a type. -/
def objSize : ObjTy → Nat
  | .u n => n | .bool => 1 | .i32 => 4 | .octets n => n | .str n => n

end Sys2Proof.Machine
end

