-- ==== Sys2Proof/Machine/State.lean ====
section
/-! DEFINITION. The state of a CP16 module as plain data: every register, table, buffer, counter, mode and pin that
the spec gives the module, the queue of waiting commands, the two stop types, and the state after reset. A field's
default value is its reset value; where the spec gives none the value is zero, false or empty (DESIGN CHOICE,
notes/assumptions/1.md, unsafe). Repeated parts (cores, dies, ports, ...) are sparse tables in which a missing key holds
the part's reset state. -/

namespace Sys2Proof.Machine

/-! ### Tiles (ch.06) -/

/-- Tile states (Table 4 of ch.06). -/
inductive TState where
  | untagged | open | valid | poison
deriving DecidableEq, Repr

/-- The tag and the state of a tile (R175). -/
structure TileInfo where
  tag : BitVec 64 := 0
  st : TState := .untagged
deriving DecidableEq, Repr

/-! ### Cores: accumulator memory and matrix engine (ch.03) -/

/-- What fed an accumulator entry last (R78: INT32 drains only from INT8 windows, Table 6). -/
inductive Fam where
  | none | float | int
deriving DecidableEq, Repr

/-- One accumulator entry and its tag (R71, Table 5 of ch.03). -/
structure AccEntry where
  mant : BitVec 96 := 0
  res : BitVec 7 := 0
  wexp : BitVec 8 := 0
  terms : BitVec 16 := 0
  cls : BitVec 4 := 0
  trunc : Bool := false
  invalid : Bool := false
  fam : Fam := .none
deriving DecidableEq, Repr

/-- Rows and columns of accumulator memory: rows `r0 .. r0 + rows - 1`, columns `c0 .. c0 + cols - 1`. -/
structure Rect where
  r0 : Nat
  rows : Nat
  c0 : Nat
  cols : Nat
deriving DecidableEq, Repr

/-- An access to the accumulator window that waits on an owned entry (R76): offset, length, the data of a write. -/
structure AccWait where
  off : Nat
  len : Nat
  data : Option (List Byte)
  since : Nat
deriving DecidableEq, Repr

/-- The registers of a matrix engine (R99, Tables 11 to 14 of ch.03). -/
structure MxSt where
  mode : BitVec 2 := 0
  flags : BitVec 32 := 0
  fault : BitVec 64 := 0
  faultAddr : BitVec 64 := 0
  /-- MX_BUSY_CYCLES in 1/256,000 of a core cycle: ticks times MHz -/
  busyCycles : Nat := 0
  products : BitVec 64 := 0
  /-- power leave held (R95) -/
  leave : Bool := false
  /-- when the engine last had a command (R95) -/
  lastCmd : Nat := 0
  /-- the stochastic-rounding generators 0-15 and, at 16, the vector engine's (R51) -/
  gens : SMap (BitVec 32) := []
  waiting : List AccWait := []
deriving DecidableEq, Repr

/-! ### Command queues (ch.05) -/

/-- A command accepted and not issued: its number (R131) and its word (R138). -/
structure Cmd where
  num : BitVec 64
  word : BitVec 128
  /-- a parity error has been found in it (Table 26 of ch.05) -/
  parity : Bool := false
deriving DecidableEq, Repr

/-- Halt states of a queue (Table 6 of ch.05). -/
inductive Halt where
  | cmd | fault | sync | req
deriving DecidableEq, Repr

/-- A part of a move command that waits for an answer from outside the core: a remote request (its TXN), a
host-memory read (its tag), a host-memory write, or nothing but the collective unit. -/
inductive Await where
  | txn (t : BitVec 15)
  | hostRead (tag : Nat)
  | slot (rs : Nat)
  | group (g : Nat)
  /-- local GT of an AWAIT_GT (R159) -/
  | gt
deriving DecidableEq, Repr

/-- One end of a piece of a move: a local address of the issuing die, a remote address, a host address, a fill pattern, or
data on its way between two remote ends. -/
inductive Place where
  | loc (a : Nat)
  | remote (m d a : Nat)
  | host (a : Nat)
  | fill (p : BitVec 64)
  | data (bs : List Byte) (tile : Option TileInfo)
deriving DecidableEq, Repr

/-- A piece of a move: bytes that one packet carries, or would carry (R334). `grp` numbers the packets of R334 in the
move; a piece may be part of one. -/
structure Piece where
  grp : Nat
  src : Place
  dst : Place
  len : Nat
  tile : Bool
deriving DecidableEq, Repr

/-- A command in execution. -/
structure Run where
  num : BitVec 64
  word : BitVec 128
  status : BitVec 8 := 0
  flags : BitVec 32 := 0
  late : Bool := false
  /-- the handle popped at issue (R142) -/
  popped : Option (BitVec 64) := none
  /-- a slot of tile queue STQ is reserved for this command (R141) -/
  slot : Bool := false
  /-- tiles of the core's own local store written by the command, and those verified as its input -/
  tiles : List Nat := []
  ins : List Nat := []
  /-- bytes gathered for output tiles not yet written (R125): tile, FORMAT code, offset and byte -/
  gath : List (Nat × Nat × List (Nat × Byte)) := []
  /-- accumulator entries owned (R76) -/
  owns : List Rect := []
  /-- a command of a VX.LOOP body: collected with its loop (R112); its wait and slot are taken at its first iteration -/
  body : Bool := false
  waited : Bool := true
  /-- a parity error has been found in it (Table 26 of ch.05) -/
  parity : Bool := false
  /-- the work is not done yet: a command of an open loop -/
  busy : Bool := false
  /-- answers still outstanding -/
  awaits : List Await := []
  /-- effective tile-verification level when the command left its queue (R189) -/
  level : BitVec 2 := 0
  /-- time of issue, and of the last progress (R166) -/
  start : Nat := 0
  progress : Nat := 0
  /-- the target of an AWAIT_GT in execution (R159) -/
  target : BitVec 64 := 0
  /-- pieces of a move not yet sent or carried out, and the status of the first packet to fail (R339) -/
  todo : List Piece := []
  fail : BitVec 8 := 0
  failAt : Nat := 0
  /-- traffic class, ordered flow and its next PSEQ, arrival counter (R157, R315, R353) -/
  cls : Nat := 2
  flow : Option Nat := none
  pseq : Nat := 0
  arr : Option Nat := none
  /-- FORMAT of landed tiles that came from the host (R158) -/
  fmt : Nat := 0
  /-- the round schedule and the slot a class-1 move is bound to, and whether the slot has begun (R239) -/
  bound : Option (Nat × Nat) := none
  opened : Bool := true
  /-- packets of R334 of which a part failed; packets that have landed out of the order of their flow (R315, R353) -/
  badGrps : List Nat := []
  landed : List Nat := []
deriving DecidableEq, Repr

/-- A queue of engine 0, 1 or 2 (Tables 4 to 6 of ch.05). -/
structure QueueSt where
  base : BitVec 64 := 0
  size : BitVec 32 := 6
  enable : Bool := false
  tail : BitVec 32 := 0
  head : BitVec 32 := 0
  err : BitVec 32 := 0
  /-- commands accepted since the last reset of the queue (R131) -/
  count : BitVec 64 := 0
  done : BitVec 64 := 0
  cBase : BitVec 64 := 0
  cSize : BitVec 32 := 0
  cHead : BitVec 32 := 0
  cTail : BitVec 32 := 0
  cLost : BitVec 32 := 0
  irq : BitVec 32 := 0
  halt : Option Halt := none
  /-- the halt state a HALT_SYNC replaced -/
  beforeSync : Option Halt := none
  acc : List Cmd := []
  run : List Run := []
  /-- time from which on the commands in execution are not yet counted in the busy cycles -/
  busySince : Nat := 0
deriving DecidableEq, Repr

/-- A slot of a tile queue: reserved for command `num` of engine `eng` until its handle is written (R141). -/
structure TqSlot where
  eng : Nat
  num : BitVec 64
  handle : Option (BitVec 64)
  /-- the slot takes a void handle after a parity error (Table 26 of ch.05) -/
  voided : Bool := false
deriving DecidableEq, Repr

/-- A tile queue (R140, Table 9 of ch.05). -/
structure TileQueue where
  slots : List TqSlot := []
  ext : Bool := false
  lost : BitVec 8 := 0
deriving DecidableEq, Repr

/-! ### Vector engine (ch.04) -/

/-- A latched descriptor and its cursor, the next chunk (R108, R113). -/
structure Latched where
  desc : BitVec 256
  chunk : Nat := 0
  /-- the handle that supplied BASE under USE, for the TOKEN check of R144 -/
  handle : Option (BitVec 64) := none
deriving DecidableEq, Repr

/-- An open loop (R112): the number of its VX.LOOP, of its first body command, its length, iterations left with the
current one, its driving descriptor, and that descriptor's chunk at the start of the iteration. -/
structure LoopFrame where
  loop : BitVec 64
  first : BitVec 64
  len : Nat
  left : Nat
  drv : Option (Fin 32)
  chunk : Nat := 0
  /-- elements in a chunk of the driving descriptor (R112) -/
  csize : Nat := 512
deriving DecidableEq, Repr

/-- The registers of a vector engine (Tables 1, 4, 6 to 8 of ch.04). -/
structure VxSt where
  /-- lane words, keyed 512·v + lane -/
  regs : SMap (BitVec 32) := []
  table : SMap (BitVec 256) := []
  latched : SMap (Option Latched) := []
  /-- open loops, innermost first, and the number of the next command of the innermost body -/
  loops : List LoopFrame := []
  pos : BitVec 64 := 0
  /-- the tiles in the two tile buffers, latest first (R125) -/
  buf : List Nat := []
  flags : BitVec 32 := 0
  fault : BitVec 64 := 0
  faultAddr : BitVec 64 := 0
  /-- VX_BUSY_CYCLES in 1/256,000 of a core cycle -/
  busyCycles : Nat := 0
  laneOps : BitVec 64 := 0
  leave : Bool := false
  lastCmd : Nat := 0
deriving DecidableEq, Repr

/-! ### Tidy core and sync monitor (ch.05) -/

/-- Tidy-core run states (TC_STATUS, Table 24 of ch.05). -/
inductive TcState where
  | stopped | running | wfi | lockstep
deriving DecidableEq, Repr

/-- A tidy core: RV32IMC registers, machine-mode facilities, and the block of Table 24 (R161, R162). -/
structure TcSt where
  runBit : Bool := false
  st : TcState := .stopped
  pc : BitVec 32 := 0
  /-- x1 to x31 -/
  x : SMap (BitVec 32) := []
  mie : Bool := false
  mpie : Bool := false
  meie : Bool := false
  mtvec : BitVec 32 := 0
  mepc : BitVec 32 := 0
  mcause : BitVec 32 := 0
  mtval : BitVec 32 := 0
  mscratch : BitVec 32 := 0
  mcycle : BitVec 64 := 0
  /-- module time up to which mcycle has counted -/
  cycAt : Nat := 0
  minstret : BitVec 64 := 0
  irqEn : BitVec 32 := 0
  irqPend : BitVec 32 := 0
  crc : BitVec 32 := 0
  /-- the tile the CRC helper works on and when it started -/
  crcBusy : Option (Nat × Nat) := none
  /-- instruction-memory bytes as fetched, where a store has changed them and no FENCE.I has run (R161) -/
  stale : List (Nat × Byte) := []
  lastRetire : Nat := 0
  /-- STEP has been written: one instruction is to run while stopped (R162) -/
  stepDue : Bool := false
deriving DecidableEq, Repr

/-- A sync monitor (R164, R165, Table 25 of ch.05). -/
structure SmSt where
  fired : Bool := false
  firings : BitVec 31 := 0
  recs : SMap (BitVec 128) := []
  runBefore : Bool := false
  /-- when an agent last issued, completed, stored or wrote anything that R164 watches -/
  lastAct : Nat := 0
deriving DecidableEq, Repr

/-- A logical core of a compute die. -/
structure CoreSt where
  acc : SMap AccEntry := []
  mx : MxSt := { }
  vx : VxSt := { }
  q0 : QueueSt := { }
  q1 : QueueSt := { }
  q2 : QueueSt := { }
  /-- counters, keyed 8·engine + index (R146) -/
  cnt : SMap (BitVec 32) := []
  /-- comparators, keyed 4·engine + index (R147) -/
  cmp : SMap (BitVec 64) := []
  tq : SMap TileQueue := []
  ob : SMap (BitVec 512) := []
  td : SMap (BitVec 256) := []
  mvFault : BitVec 64 := 0
  mvFaultAddr : BitVec 64 := 0
  mvBytes : BitVec 64 := 0
  tc : TcSt := { }
  sm : SmSt := { }
  /-- local-store scrub cursor (R187) and module time of the last scrub read -/
  scrub : Nat := 0
  scrubAt : Nat := 0
deriving DecidableEq, Repr


/-! ### What leaves the module -/

/-- Something the module has sent or answered: the model's own record, in order. -/
inductive Emission where
  /-- a link frame on a logical port: prefix, packet, CRC-32C (R299), and the codewords dealt with it, each with its lane (R250) -/
  | linkFrame (port : Nat) (pfx : BitVec 64) (pkt : Packet) (crc : BitVec 32) (words : List (Nat × BitVec 288))
  /-- a class-0 link frame on a logical port (R301), whether on λ0, and its codeword (R249, R255) -/
  | frame (port : Nat) (f : BitVec 256) (onL0 : Bool) (word : BitVec 288)
  /-- a routed class-0 frame on a logical port and the module time at which it starts (R305, R326), whether on λ0, and its
  codeword -/
  | routed (port : Nat) (f : BitVec 256) (start : Nat) (onL0 : Bool) (word : BitVec 288)
  /-- an MSI-X message (R525) -/
  | msix (vec : Nat)
  /-- a read of host memory, its tag, address and length (R526) -/
  | dmaRead (tag addr len : Nat)
  /-- a write of host memory (R526) -/
  | dmaWrite (addr : Nat) (data : List Byte)
  /-- the answer to an access of a register, a window or memory: status and data -/
  | reply (status : BitVec 8) (data : List Byte)
  /-- Unsupported Request: the answer to a read through a disabled window (Table 5 of ch.20) -/
  | unsupported
  /-- a Mihimel reply (R488) -/
  | mihimel (t : Transport) (bytes : List Byte)
  /-- a frame on the service port (R486) -/
  | service (bytes : List Byte)
  /-- an idle codeword with the identity of a lane (R250) -/
  | identityIdle (bank line : Nat) (word : BitVec 288)
  /-- a power-up probe of a fibre (R268) -/
  | probe (bank : Nat)
  /-- a flit sent again, a NAK or a retrain request on a bundle: its body (R277, R282) -/
  | flit (edge bundle : Nat) (rev : Bool) (body : BitVec 1984)
deriving DecidableEq, Repr

/-! ### Fabric and remote memory (ch.11, ch.12) -/

/-- What an outstanding request is for. -/
inductive TxnKind where
  | read | write
  /-- an atomic and the local-store offset of its result -/
  | atomic (res : Nat)
  | claim
  /-- a tile of the step log on its way to the buddy module (R430) -/
  | mirror
deriving DecidableEq, Repr

/-- A request outstanding (R334, R341). -/
structure Txn where
  core : Nat
  num : BitVec 64
  kind : TxnKind
  piece : Piece
  pkt : Packet
  sent : Nat
  /-- abandoned by R341; the number is kept until a late response -/
  abandoned : Bool := false
  /-- lines that will fill the remote line cache (R343, R344) -/
  fill : List Nat := []
  /-- when REORDER_BUSY refused it (R316) -/
  busyAt : Option Nat := none
deriving DecidableEq, Repr

/-- A line of the remote line cache: module, die, line number, data (R343). -/
structure RlcLine where
  m : Nat
  d : Nat
  line : Nat
  data : List Byte
deriving DecidableEq, Repr

/-- A packet performed at its home whose acknowledgement waits for its flow (R315): PSEQ, response, arrival counter. -/
structure OrdWait where
  pseq : Nat
  resp : Packet
  arr : Option Nat
deriving DecidableEq, Repr

/-- A reorder context (R315). -/
structure Reorder where
  m : BitVec 16
  d : BitVec 4
  flow : BitVec 8
  next : Nat := 0
  waiting : List OrdWait := []
  last : Nat := 0
deriving DecidableEq, Repr

/-- A packet at its home die: line operations not yet performed, lines read, status (R335, R336). -/
structure HomeOp where
  id : Nat
  pkt : Packet
  todo : List Nat
  got : List (Nat × List Byte) := []
  st : BitVec 8 := 0
  /-- old value of an atomic -/
  old : BitVec 64 := 0
deriving DecidableEq, Repr

/-- An original request of a merge entry (R346, R347). -/
structure MergeOrig where
  op : BitVec 8
  m : BitVec 16
  d : BitVec 4
  txn : BitVec 15
  add : BitVec 64
deriving DecidableEq, Repr

/-- An entry of a merge table (R346). -/
structure MergeEntry where
  origs : List MergeOrig
  since : Nat
deriving DecidableEq, Repr

/-- A packet without a usable route, held by a light die (R329) or, where the module issued it, by its source (R330). -/
structure Held where
  light : Nat
  pkt : Packet
  since : Nat
  own : Bool
deriving DecidableEq, Repr

/-! ### Bench (ch.14) -/

/-- An action aimed at a core that is being substituted, held until it resumes (R398): an add to a counter, a push, an
interrupt bit, an access of a local address; also accesses that wait for a sleeping die (R202, R450). -/
inductive HeldAct where
  | cntAdd (c e i : Nat) (v : BitVec 32)
  | push (c t : Nat) (h : BitVec 64)
  | irq (c b : Nat)
  /-- an access of a local address by an agent; `peek` marks one that has no side effects of a read (R523) -/
  | local_ (a : Nat) (ag : Agent) (peek : Bool) (acc : Access)
deriving DecidableEq, Repr

/-- A substitution in progress (R395): the core, its slot, spares that failed, whether the drain has ended, and since when. -/
structure Subst where
  core : Nat
  slot : Nat
  spare : Nat
  tried : List Nat := []
  drained : Bool := false
  leave : Bool := false
  since : Nat
deriving DecidableEq, Repr


/-! ### Collectives (ch.13) and the step log (ch.15) -/

/-- A chunk sent and not acknowledged (R379). -/
structure ColSent where
  pkt : Packet
  at_ : Nat
deriving DecidableEq, Repr

/-- A vote received (R383, R384): the rank that sent it, its status, HELD, BROKEN. -/
structure Vote where
  rank : Nat
  status : Nat
  held : Bool
  broken : Bool
deriving DecidableEq, Repr

/-- A collective in execution on a die (R365 to R384). -/
structure Coll where
  core : Nat
  num : BitVec 64
  seq : BitVec 32
  desc : BitVec 256
  sig : BitVec 64
  level : BitVec 2 := 0
  /-- 1 huddle, 2 data, 3 vote (Table 1) -/
  phase : Nat := 1
  /-- time of issue, then of GO (R382) -/
  since : Nat
  /-- own check: the cause of Table 5, 0 where it passes -/
  cause : Nat := 0
  sched : BitVec 32 := 0
  balance : BitVec 64 := 0
  /-- huddle frames of the children; the combined ones have been sent -/
  frames : List (BitVec 256) := []
  up : Bool := false
  outcome : Nat := 0
  /-- the module's view has lost a member since the issue (R384) -/
  broken : Bool := false
  /-- the reduction unit's residue check fails at the next addition (R381) -/
  residue : Bool := false
  votes : List Vote := []
  voted : Bool := false
  /-- T_GO of the verdict GO -/
  tgo : BitVec 64 := 0
  /-- chunks received and worked on, and chunks sent: step and byte offset -/
  got : List (Nat × Nat) := []
  put : List (Nat × Nat) := []
  /-- elements that a bad chunk covers: step space, first, end (R381) -/
  bad : List (Nat × Nat × Nat) := []
  /-- what stands in SCRATCH and what has been landed in DST: address, length and CRC-32C of each chunk (R379, R381) -/
  sums : List (Nat × Nat × Nat) := []
  /-- source tiles that have passed or failed verification -/
  checked : List (Nat × Bool) := []
  flight : List ColSent := []
  /-- rounds of ROUNDS that have started, and those that were not ready in time (R376) -/
  rounds : Nat := 0
  late : List Nat := []
deriving DecidableEq, Repr

/-- A VERDICT sent to a child and not acknowledged (R383). -/
structure VerdictOut where
  g : Nat
  seq : BitVec 32
  stage : Nat
  status : Nat
  tgo : BitVec 64
  m : Nat
  d : Nat
  at_ : Nat
deriving DecidableEq, Repr

/-- A verdict kept (R382, R385). -/
structure Kept where
  g : Nat
  seq : BitVec 32
  status : Nat
  at_ : Nat
deriving DecidableEq, Repr

/-- The collective unit of a die. -/
structure ColSt where
  /-- group entries, words of Table 1; validations in progress: since when, and that the top word waits -/
  groups : SMap (BitVec 512) := []
  validating : SMap Nat := []
  active : SMap (Option Coll) := []
  /-- huddle frames and chunks that have come before their collective holds GO here -/
  early : List (BitVec 256) := []
  buf : List Packet := []
  verdicts : List VerdictOut := []
  kept : List Kept := []
deriving DecidableEq, Repr

/-- The step log of a die (R429, R430). -/
structure StepSt where
  base : BitVec 64 := 0
  mirror : BitVec 64 := 0
  last : BitVec 64 := 0
  /-- a step has been committed -/
  any : Bool := false
  /-- a commit that waits for the mirror of the previous step -/
  wait : Option (BitVec 64) := none
  /-- the step being mirrored, what of it is not yet sent, and that a part of it failed -/
  busy : Option (BitVec 64) := none
  todo : List Piece := []
  failed : Bool := false
  mirrored : BitVec 62 := 0
  buddyLost : Bool := false
deriving DecidableEq, Repr

/-- A burst access that waits at a memory controller (R200, R202): the agent, the address, the data of a write, and what the
array and the connections will answer: its severity and the lanes whose parity fails. -/
structure HbmReq where
  agent : HbmAgent
  addr : Nat
  data : List Byte
  sev : Nat
  parity : List (Fin 74)
deriving DecidableEq, Repr

/-- A compute die. -/
structure DieSt where
  /-- power state, Table 5 of ch.16: 0 Active, 1 Idle, 2 entering sleep, 3 Sleep, 4 waking, 5 stopped -/
  pstate : BitVec 8 := 0
  gtResync : Bool := false
  scrub : Nat := 0
  /-- the untag filter: HBM tiles made UNTAGGED most recently, latest first (R196) -/
  untag : List Nat := []
  mhz : Nat := 1600
  /-- arrival counters (R352) -/
  arrival : SMap (BitVec 64) := []
  /-- kickoff table and round schedules, words of Tables 5 and 7 of ch.08 (R233, R238) -/
  ko : SMap (BitVec 256) := []
  rs : SMap (BitVec 256) := []
  /-- requests outstanding by TXN (R334); ordered flows in use: number, core, command (R315) -/
  txns : SMap (Option Txn) := []
  flows : List (Nat × Nat × BitVec 64) := []
  reorder : List Reorder := []
  /-- packets at this home die, the line queue (packet, line) and the last time a line was worked on (R336, R349) -/
  home : List HomeOp := []
  lineq : List (Nat × Nat) := []
  lineAt : SMap Nat := []
  homeNext : Nat := 0
  rlc : SMap (Option RlcLine) := []
  /-- race slots, words of Table 6 of ch.12 (R354) -/
  race : SMap (BitVec 256) := []
  col : ColSt := { }
  step : StepSt := { }
  /-- errors of HBM rows and lanes: times, rows that returned severity 2, and repairs in force (R204 to R206) -/
  rowErrs : SMap (List Nat) := []
  rowBad : List Nat := []
  laneErrs : SMap (List Nat) := []
  rows : List Nat := []
  lanes : List Nat := []
  /-- module time of the last HBM scrub read -/
  scrubAt : Nat := 0
  /-- next bank of each pseudo-channel to refresh, and when it was last refreshed (R209) -/
  refresh : SMap (Nat × Nat) := []
  /-- last readings of the sensors of each stack, hottest, in 0.1 °C (R209); stacks whose controller has had no sample since the
  end of self-refresh (R210) -/
  hotStack : SMap Int := []
  resumed : List Nat := []
  /-- burst accesses that wait for the die, oldest first (R202), and the agent served last on each pseudo-channel (R200) -/
  hbmWait : List HbmReq := []
  hbmTurn : SMap Nat := []
  /-- core map where it differs from core k in slot k (slot + 1, 37 for out), retired slots, times of core-logic faults of
  each slot, substitutions due in order of detection, the one in progress, and actions it holds (R392 to R399) -/
  coreMap : SMap Nat := []
  retired : List Nat := []
  slotFaults : SMap (List Nat) := []
  substDue : List Nat := []
  subst : Option Subst := none
  /-- substitutions that fell due in sleep run before any queue of the die can be enabled (R399) -/
  substFirst : Bool := false
  heldActs : List HeldAct := []
  /-- power (ch.16): when sleep entry was accepted, the next attempt after a refusal, since when an access
  has asked the die to wake, when wake leave was granted, pads still held, why the die wakes -/
  entryAt : Option Nat := none
  retryAt : Nat := 0
  asked : Option Nat := none
  /-- since when its request to sleep has been cleared during entry (R449, R450) -/
  cleared : Option Nat := none
  /-- a wake is due once entry ends -/
  wakeDue : Bool := false
  wakeAt : Option Nat := none
  padsHeld : Bool := false
  cause : Nat := 0
  /-- core-rail current in mA at its last report, at the limit, and since when below 95 % of it (R439) -/
  milliAmps : Nat := 0
  atLimit : Bool := false
  belowSince : Option Nat := none
  stepAt : Nat := 0
  /-- when φ last moved (R460) -/
  phiAt : Nat := 0
  /-- the thermal factor in percent, and thermal steps (R460 to R462) -/
  factor : Nat := 100
  /-- φ has been below 100 % since; earlier such times of the last 60 s, as start and end (R424, R462) -/
  throtSince : Option Nat := none
  throt : List (Nat × Nat) := []
  /-- ticks with φ below 100 % in spans that have ended (THM.THROTTLE_MS) -/
  throtAcc : Nat := 0
  /-- Active at least once since start (R519) -/
  everActive : Bool := false
deriving DecidableEq, Repr

/-- What game time keeps of a logical port (R222, R225). -/
structure GtPort where
  /-- CAL; whistle exchanges made on λS and λ0 since link-up; delays in 1/256 ns, sums of them while CAL is clear -/
  cal : Bool := false
  nS : Nat := 0
  n0 : Nat := 0
  delayS : Int := 0
  delay0 : Int := 0
  /-- partner's GT less local GT, filtered -/
  offset : Int := 0
  /-- the last whistle: its time here, its time in GT, its STATE, CAL, HOPS, RANK, REF_MODULE, REFEREE and T_TX -/
  seen : Bool := false
  at_ : Nat := 0
  stamp : Nat := 0
  st : BitVec 4 := 0
  pcal : Bool := false
  hops : BitVec 8 := 0
  rank : BitVec 8 := 0
  ref : BitVec 16 := 0
  ttx : BitVec 64 := 0
  /-- MODULE of the last whistle: the partner that the port leads to -/
  pmod : BitVec 16 := 0xFFFF
deriving DecidableEq, Repr

/-- Game time of the module: the steward's time unit (R217 to R232). GT is `base` and `frac` at module time `at_` and runs
from there at the rate of the module clock plus `ppm` and `slew`. -/
structure GtSt where
  /-- 0 UNSET, 1 LOCKED, 2 HOLDOVER (Table 1 of ch.08) -/
  st : BitVec 2 := 0
  base : Nat := 0
  at_ : Nat := 0
  /-- the rate accumulator: the fraction at `at_`, in millionths of 1/256 ns (R217) -/
  frac : Nat := 0
  /-- rates on top of the module clock: of the servo or of TIME_IN_10M, and of the slew towards TIME_IN_PPS (R226, R228) -/
  ppm : Int := 0
  slew : Int := 0
  /-- GT is held, until this module time (R232) -/
  hold : Option Nat := none
  referee : Bool := false
  rank : BitVec 8 := 255
  ref : BitVec 16 := 0xFFFF
  hops : BitVec 8 := 0xFF
  up : Option Nat := none
  /-- module time HOLDOVER was entered; the 20 µs wait runs -/
  since : Nat := 0
  waiting : Bool := false
  /-- module time of the last usable stamp, and of the last whistle that carried LOCKED (R224, R231) -/
  lastStamp : Nat := 0
  lastLocked : Nat := 0
  /-- only whistles from this module time on make a port eligible (R223) -/
  notBefore : Nat := 0
  ports : SMap GtPort := []
  /-- TIME_IN_10M drives the rate (R228) -/
  tenMhz : Bool := false
  ppsBad : Nat := 0
  /-- a setting that waits for the next PPS edge (R229) -/
  ppsSet : Option (BitVec 64) := none
deriving DecidableEq, Repr

/-- An event raised, and local GT at its detection (R35, R406). -/
structure Raised where
  ev : Event
  gt : Nat
deriving DecidableEq, Repr

/-- A stored entry of the error log: the word of Table 3 of ch.15, and when it was created. It is in handling until it is
acknowledged or 1 s old (R408). -/
structure LogEntry where
  word : BitVec 256
  handling : Bool := true
  at_ : Nat
deriving DecidableEq, Repr

/-- What a module keeps under the umpire (R411 to R428). -/
structure UmpSt where
  /-- the last 64 records adopted, latest first; records of later epochs held -/
  records : List (BitVec 256) := []
  early : List (BitVec 256) := []
  /-- VIEW chunks received, and the epoch they carry -/
  chunks : SMap (Option (BitVec 200)) := []
  viewEpoch : Nat := 0
  /-- the last beacon number taken, and when it came or went; when the module became ready, and when it became umpire -/
  beacon : Option (BitVec 32) := none
  beaconAt : Nat := 0
  readyAt : Nat := 0
  umpireAt : Nat := 0
  /-- partners suspected: when the last ACCUSE went, plus 1 -/
  suspects : SMap Nat := []
  /-- at the umpire and the backup: accuser, accused and time of each accusation in force; A + 1 and REGION of each module's ROSTER -/
  accused : List (Nat × Nat × Nat) := []
  rosters : SMap (Nat × Nat) := []
  /-- A and REGION of the last ROSTER sent, and when; a record has changed the umpire or the backup since -/
  rosterLast : Nat × Nat := (0, 0)
  rosterAt : Nat := 0
  rosterDue : Bool := false
  /-- at the umpire: REGION + 1 of each module that has joined, of each JOIN held, and of each module counted in W -/
  joined : SMap Nat := []
  heldJoins : SMap Nat := []
  withdrawn : SMap Nat := []
  /-- when the whole view was last asked for, or the JOIN last sent; the JOIN has been answered; the view has come -/
  joinAt : Option Nat := none
  joinDone : Bool := false
  viewHeld : Bool := false
  /-- WITHDRAWING since; WITHDRAW last asked at; GO has been sent -/
  goWait : Option Nat := none
  askedAt : Nat := 0
  goSent : Bool := false
  /-- a digest mismatch has been logged -/
  digestLogged : Bool := false
  /-- a forced withdrawal waits for its answer since (R428) -/
  forced : Option Nat := none
  /-- an UNMASKED entry came while the module was not in play: it is withdrawn on joining (R541) -/
  forceDue : Bool := false
deriving DecidableEq, Repr

/-- Error log, scorecard and membership (ch.15). -/
structure FltSt where
  raised : List Raised := []
  /-- degraded or withdrawing service (R427) -/
  svc : Bool := false
  /-- modules out in the membership view, rising -/
  out : List Nat := []
  /-- the ring of 256 entries -/
  log : SMap (Option LogEntry) := []
  /-- module times of events of severity RECOVERED and ADVISORY without SOFT (R424) -/
  recovered : List Nat := []
  advisory : List Nat := []
  /-- the score has stood at or above the threshold plus 50 since (R427) -/
  calmSince : Option Nat := none
  ump : UmpSt := { }
deriving DecidableEq, Repr

/-- A read of host memory outstanding (R526): its tag, the move that asked, the piece, when it was sent. -/
structure HostRead where
  tag : Nat
  die : Nat
  core : Nat
  num : BitVec 64
  piece : Piece
  sent : Nat
deriving DecidableEq, Repr

/-- The host interface (ch.20). -/
structure HostSt where
  event : BitVec 32 := 0
  eventEn : BitVec 32 := 0
  /-- HOST_W0 to HOST_W3 where they differ from ENABLE 1, DIE 0, LOCAL_HI n -/
  win : SMap (Option (BitVec 64)) := []
  /-- MSI-X vectors unmasked, pending bits, and table words (address and data), keyed 2·vector (R525) -/
  unmasked : List Nat := []
  pend : List Nat := []
  table : SMap (BitVec 64) := []
  /-- mailbox request and reply buffers (R520) -/
  req : SMap Byte := []
  rep : SMap Byte := []
  mbBusy : Bool := false
  mbReady : Bool := false
  mbUnheld : Bool := false
  mbLen : Nat := 0
  up : Bool := false
  speed : Nat := 0
  width : Nat := 0
  perst : Bool := false
  /-- Bus Master Enable of configuration space (R526), and the time from which configuration space answers (R533) -/
  busMaster : Bool := false
  configAt : Nat := 0
  /-- host-memory reads outstanding and the next tag (R526) -/
  nextTag : Nat := 0
  reads : List HostRead := []
  /-- host writes to doorbell registers that wait for an earlier write of the function to reach its target, with their dies,
  oldest first (R135) -/
  ordered : List (Nat × HeldAct) := []
deriving DecidableEq, Repr
/-! ### Light ports (ch.09) and links (ch.11) -/

/-- A ring: its heater setting in MHz of its 4.2 THz range, locked, wrong pilots in a row, failed searches, and the search
of R261 in progress. -/
structure Ring where
  setting : Nat := 0
  locked : Bool := false
  wrong : Nat := 0
  fails : Nat := 0
  searching : Bool := false
  since : Nat := 0
deriving DecidableEq, Repr

/-- A physical port bank (R246, Table 4 of ch.09). -/
structure BankSt where
  /-- 0 OFF, 1 PROBE, 2 TRAIN, 3 UP, 4 DEGRADED, 5 SIGNAL_ONLY, 6 PAUSED, 7 FAILED; the state that a pause or a retrain, in
  which λS keeps running, left (R265, R270) -/
  st : Nat := 0
  before : Nat := 0
  dark : Bool := true
  tx : SMap Ring := []
  rx : SMap Ring := []
  /-- line + 1 that carries a lane, where it is not the line of the lane's own number (R262) -/
  txLine : SMap Nat := []
  rxLine : SMap Nat := []
  txOut : List Nat := []
  rxOut : List Nat := []
  /-- spare lines in use, 32 to 35 (R262) -/
  txSpare : List Nat := []
  rxSpare : List Nat := []
  /-- times of failed retrainings (R270) -/
  failed : List Nat := []
  /-- when TRAIN or PROBE began; when the last probe pulse was sent; light seen since -/
  since : Nat := 0
  pulse : Nat := 0
  light : Option Nat := none
  /-- MODULE and LPORT of the last identity idle of the partner (R263) -/
  partner : Option (BitVec 16 × BitVec 7) := none
  /-- the bank's comb input: 0 or 1 (R265) -/
  comb : Nat := 0
  /-- when each lane last received a valid identity idle (R261) -/
  idle : SMap Nat := []
  /-- payloads of data codewords received on each lane and not yet aligned, oldest first, at most 64 (R250) -/
  deskew : SMap (List (BitVec 270)) := []
deriving DecidableEq, Repr

/-- Bits of a payload stream: how many, and their value, the first bit the most significant (R250). -/
structure Bits where
  len : Nat := 0
  val : Nat := 0
deriving DecidableEq, Repr

/-- A frame sent on the data lanes and not acknowledged (R300). -/
structure Sent where
  seq : BitVec 16
  pkt : Packet
deriving DecidableEq, Repr

/-- A logical port: its link and its class-0 stream (R299 to R307, R318 to R322). -/
structure PortSt where
  /-- class 0 rides λ0, and since when (R255) -/
  onL0 : Bool := false
  l0At : Nat := 0
  /-- bits of the payload stream not yet dealt, and the lane that was dealt last plus 1; bits received and not yet framed (R250,
  R299) -/
  txBits : Bits := { }
  txLane : Nat := 0
  rxBits : Bits := { }
  lfNext : BitVec 16 := 0
  lfGot : BitVec 16 := 0xFFFF
  nak : Bool := false
  /-- LFSEQ last acknowledged to the partner; the frame the partner asks to have replayed -/
  ackSent : BitVec 16 := 0xFFFF
  nakIn : Option (BitVec 16) := none
  retry : List Sent := []
  /-- frames still to be sent again, and replays of one frame in succession (R270) -/
  resend : List Sent := []
  replays : Nat := 0
  replaySeq : BitVec 16 := 0
  voq : List Packet := []
  /-- deficit round-robin between classes 1 and 2 (R318): deficits by class, and whether class 2 has the turn; within each
  class between other and collective packets (R380): deficits keyed 2·class + [collective], the turn by class -/
  deficit : SMap Nat := []
  turn : Bool := false
  vcDeficit : SMap Nat := []
  vcTurn : SMap Bool := []
  /-- frames sent in the last 10 µs: when, their bytes, whether of class 3 (R318) -/
  win : List (Nat × Nat × Bool) := []
  ingress : List Packet := []
  xoffOut : BitVec 4 := 0
  xoffIn : BitVec 4 := 0
  /-- module time + 1 at which each class went into XOFF, until FAB_STALL has been raised (R322) -/
  xoffSince : SMap Nat := []
  lseqNext : BitVec 8 := 0
  lseqWant : BitVec 8 := 0
  /-- the last 64 routed frames sent, latest first (R307) -/
  sent0 : List (BitVec 256) := []
  /-- routed frames found missing, and those the partner asks for (R303, R307) -/
  missing : List (BitVec 8) := []
  ask : List (BitVec 8) := []
  /-- when the last routed frame, and the last of this module's own, started (R305, R326) -/
  start0 : Nat := 0
  own0 : Nat := 0
  /-- routed frames that wait for the partner's XOFF of class 0 to clear, with the port by which each has entered the module (R320) -/
  wait0 : List (BitVec 256 × Option Nat) := []
  lsAt : Nat := 0
  lsDue : Bool := false
  /-- suspicion of the partner is suspended until (R265, R304) -/
  pauseUntil : Nat := 0
deriving DecidableEq, Repr

/-- A changeover in progress (R265): ports still to be taken, the port paused now, when it paused or resumed. -/
structure Changeover where
  todo : List Nat
  now : Option Nat := none
  at_ : Nat := 0
  standbyLocked : Bool := false
deriving DecidableEq, Repr

/-- A light die (R252 to R267, R312, R346). -/
structure LightSt where
  /-- active comb 0 or 1; 0 OFF, 1 LOCKED_ELM, 2 LOCKED_ETALON, 3 CHANGEOVER, 4 NO_COMB -/
  active : Nat := 0
  st : Nat := 0
  standby : Bool := true
  /-- the standby comb runs: since when (R265, R267) -/
  standbyOn : Option Nat := none
  testing : Bool := false
  lastTest : Nat := 0
  change : Option Changeover := none
  /-- feed selected: 0 A, 1 B (R253) -/
  feed : Option Nat := none
  feedSince : Nat := 0
  /-- last fades in 0.01 dB, latest first (R264), and thresholds crossed -/
  fades : List Int := []
  advised : Bool := false
  crossed : Bool := false
  /-- line powers in 0.01 dBm at commissioning, at a comb's first lock where no record gives them, and as last measured, keyed
  36·comb + line (R259) -/
  refs : SMap (Option Int) := []
  firsts : SMap (Option Int) := []
  powers : SMap (Option Int) := []
  /-- the die runs from a valid ring record -/
  record : Bool := false
  failedLines : List Nat := []
  /-- smooth weighted round-robin counters, keyed (destination·4 + class)·128 + port (R312) -/
  cur : SMap Int := []
  merge : SMap (Option MergeEntry) := []
  /-- the last FAB hop log of a source module (R327) -/
  hopLog : SMap Nat := []
deriving DecidableEq, Repr

/-- The ELM inputs (R253, R254). -/
structure ElmSt where
  /-- feeds not present: A and B count as present from start until they are lost -/
  lostA : Bool := false
  lostB : Bool := false
  backA : Option Nat := none
  backB : Option Nat := none
  /-- when the heater settings of the ring records were last refreshed (R259) -/
  refreshAt : Nat := 0
deriving DecidableEq, Repr

/-! ### Panel lanes (ch.10) -/

/-- A flit that its sender keeps until it is acknowledged (R282): SEQ, TYPE and payload (Table 2 of ch.10). -/
structure Flit where
  seq : BitVec 12
  ty : BitVec 8
  pay : BitVec 1920
deriving DecidableEq, Repr

/-- The lane map of one direction of a bundle (R276): physical lanes that have failed, and the physical lane + 1 of each logical
lane that is not on the lane of its own place. -/
structure LaneMap where
  bad : List Nat := []
  map : SMap Nat := []
deriving DecidableEq, Repr

/-- One direction of a bundle: sequence numbers, retry buffer, replays, parity errors, lane map. -/
structure FlitDir where
  sent : BitVec 12 := 0
  got : BitVec 12 := 0xFFF
  nak : Option (BitVec 12) := none
  retry : List Flit := []
  replays : Nat := 0
  replaySeq : BitVec 12 := 0
  /-- payloads delivered, latest last -/
  rx : List (BitVec 8 × BitVec 1920) := []
  /-- times of parity errors of a lane (R283) -/
  errs : SMap (List Nat) := []
  lanes : LaneMap := { }
deriving DecidableEq, Repr

/-- A bundle of an edge (R276, R279 to R286). -/
structure BundleSt where
  /-- 0 untrained or stopped, 1 full, 2 half on H0, 3 half on H1, 4 disabled -/
  width : Nat := 0
  /-- 0 none, 1 signal, 2 memory-direct, 3 fabric -/
  role : Nat := 0
  /-- the width it last had in service since start, 0 for none: it retrains in service (R283, R287) -/
  last : Nat := 0
  fwd : FlitDir := { }
  rev : FlitDir := { }
deriving DecidableEq, Repr

/-- Panel-lane state of the module. -/
structure LaneSt where
  bundles : SMap BundleSt := []
  /-- down edges that the mesh routers know (R289) -/
  detours : List Nat := []
  /-- the lane test in progress and when it began (R292) -/
  test : Nat := 0
  testAt : Nat := 0
  ringDown : Bool := false
  /-- counters by which a role's packets are sprayed over its bundles, keyed ((2·edge + reverse)·4 + role)·16 + bundle (R281), and
  the half-width bundles as the routers' spray weights know them, keyed 16·edge + bundle (R287) -/
  cur : SMap Int := []
  halves : List Nat := []
  /-- LANE.MD_BUNDLES as the start in force took it (R280) -/
  md : Nat := 3
deriving DecidableEq, Repr

/-- A packet that a down edge keeps from crossing the panel (R289): the node it stands at, the node it is to reach (0-15 compute
dies, 16-23 light dies) and, where it is to leave by a port there, since when it has been held and whether it is the module's own. -/
structure MeshHeld where
  src : Nat
  dst : Nat
  pkt : Packet
  out : Option (Nat × Bool)
deriving DecidableEq, Repr

/-- Fabric state of the module (ch.11). -/
structure FabSt where
  routes : SMap (BitVec 512) := []
  /-- entries replaced in the last 10 µs: when, and the old entry (R309) -/
  old : SMap (Nat × BitVec 512) := []
  genDue : Bool := false
  /-- transmit lanes of each port as spraying follows them, 0 where not eligible (R310) -/
  eff : SMap Nat := []
  /-- share counters of compute dies, keyed (die·65,536 + destination)·8 + light die (R311) -/
  curLight : SMap Int := []
  /-- packets inside the module for a compute die d (key d) or a light die l (key 16 + l) -/
  inner : List (Nat × Packet) := []
  /-- routed class-0 frames inside the module for compute die d, or 24 for the steward -/
  frames : List (Nat × BitVec 256) := []
  held : List Held := []
  stuck : List MeshHeld := []
deriving DecidableEq, Repr

/-! ### Spokes (ch.01) and power (ch.16) -/

/-- A spoke: what the die's last status frame said, and what the steward sends (R27, R28, R35). -/
structure SpokeSt where
  wake : Bool := false
  wakeAt : Nat := 0
  alarm : Bool := false
  /-- GT at which the alarm level was seen: the detection time of the fault whose record is still to come (R35) -/
  alarmGt : Option Nat := none
  dieTemp : Int := 0
  stackTemps : List Int := []
  leave : List Requester := []
  sleepCmd : Bool := false
  missed : Nat := 0
  lost : Bool := false
  frameAt : Nat := 0
deriving DecidableEq, Repr

/-- A request for leave that waits (R442). -/
structure LeaveWait where
  req : Requester
  watts : Nat
  prio : Nat
  since : Nat
deriving DecidableEq, Repr

/-- Leave held. -/
structure LeaveHeld where
  req : Requester
  watts : Nat
deriving DecidableEq, Repr

/-- A grant of the last 100 µs (R442). -/
structure Grant where
  at_ : Nat
  prio : Nat
  watts : Nat
deriving DecidableEq, Repr

/-- The power governor and the module's power state (R434 to R454). -/
structure PwrSt where
  /-- requests of the present governor cycle; requests that wait, oldest first -/
  arrivals : List LeaveWait := []
  waiting : List LeaveWait := []
  held : List LeaveHeld := []
  grants : List Grant := []
  /-- input over a limit of R435, below 54 V, below 50 V since, 5 % below the limit since -/
  overLimit : Bool := false
  low : Bool := false
  high : Bool := false
  lowSince : Option Nat := none
  calmSince : Option Nat := none
  /-- cap of R435 on every core clock, in MHz, and when it last moved -/
  cap : Nat := 1600
  capAt : Nat := 0
  /-- phases lost, by rail -/
  phases : SMap Nat := []
  /-- standby entry in progress: 1 normal, 2 recovery, and since when -/
  entering : Nat := 0
  enterAt : Nat := 0
  /-- WAKE_N is low; a falling edge has been captured, and when (R454) -/
  wakeLow : Bool := false
  wakeEdge : Option Nat := none
  /-- SIDs kept in self-refresh through the standby in force: bit 4·die + SID (R214) -/
  kept : Nat := 0
  /-- the input stayed below 50 V: dies stopped (R435) -/
  brown : Bool := false
deriving DecidableEq, Repr

/-! ### Thermal (ch.17) -/

/-- A thermal shut-down (R463): GT and values of the tripping sample; the record has been written. -/
structure Trip where
  gt : Nat
  part : Nat
  sensor : Nat
  temp : Int
  at_ : Nat
  written : Bool := false
deriving DecidableEq, Repr

/-- What the sensors have shown (R457 to R467). Parts are numbered as in Table 4 of ch.17. -/
structure ThmSt where
  /-- hottest valid sensor of each part and the sensor's number; none where every sensor has failed or none has reported -/
  hot : SMap (Option (Int × Nat)) := []
  /-- sensors that differ from their part's median: since when, plus 1; failed sensors; both keyed 32·part + sensor -/
  apart : SMap Nat := []
  failed : List Nat := []
  /-- parts over their warning and their throttle threshold -/
  warn : List Nat := []
  hotParts : List Nat := []
  /-- dies with a crossing of a throttle threshold that φ has not answered yet -/
  fresh : List Nat := []
  /-- coolant: inlet or flow out of range since, flow below 8 L/min since, flow at or above 10 L/min since; the cap on φ; a
  sensor has failed; the two conditions have been logged -/
  badSince : Option Nat := none
  lowSince : Option Nat := none
  okSince : Option Nat := none
  cap : Bool := false
  coolFailed : Bool := false
  badLogged : Bool := false
  trip : Option Trip := none
deriving DecidableEq, Repr

/-! ### Start-up (ch.21) -/

/-- The start-up sequence (R529 to R541); its step code is BOOT.STEP. -/
structure BootSt where
  /-- when the step in progress began; the retry of R541 has been used; a light die lacks a valid ring record -/
  stepAt : Nat := 0
  retried : Bool := false
  noRings : Bool := false
  /-- dies whose fingerprint differed from the identity record in step 2 (R500) -/
  badPrints : List Nat := []
  /-- MOD_RESET_N is low; the panel reference is out; firmware recovery (R511) -/
  inReset : Bool := false
  /-- every rail is off, the steward's included, until power is applied (R463) -/
  off : Bool := false
  refLost : Bool := false
  /-- start-up is held before step 3 because the reference is absent (R539) -/
  refHold : Bool := false
  recovery : Bool := false
  /-- bytes of BOOT.IMAGE written in recovery so far -/
  recSeg : List Byte := []
  /-- module-address straps (R486); the UDP port applied at the last start -/
  straps : BitVec 3 := 0
  svcPort : Nat := 7811
deriving DecidableEq, Repr
/-! ### Steward (ch.18) -/

/-- A management controller (R470 to R475). -/
structure CtrlSt where
  /-- 0 OFF, 1 BOOTING, 2 SYNCING, 3 HOT, 4 HOLDING, 5 FAILED -/
  st : Nat := 0
  healthy : Bool := true
  /-- when its heartbeat was last written -/
  hb : Option Nat := none
  /-- boots in a row that have not reached HOT -/
  failed : Nat := 0
  claim : Bool := false
  /-- it resets by then (R474) -/
  resetDue : Option Nat := none
  bootAt : Nat := 0
  /-- firmware slot it runs: 0 A, 1 B (R511) -/
  slot : Nat := 0
deriving DecidableEq, Repr

/-- A Mihimel session (R489 to R493). -/
structure Session where
  transport : Transport
  role : Nat
  /-- 1 key, 2 password, 3 local (R502 to R505), and the credential slot -/
  method : Nat
  slot : Nat
  counter : BitVec 32 := 0
  lastAt : Nat
  reply : List Byte := []
  /-- segmented write in progress: index, subindex, bytes so far -/
  seg : Option (Nat × Nat × List Byte) := none
deriving DecidableEq, Repr

/-- The steward (ch.18). -/
structure SysSt where
  ball : Option Ctrl := none
  last : Option Ctrl := none
  a : CtrlSt := { }
  b : CtrlSt := { }
  /-- since when the ball has been unheld, after it was first held (R477) -/
  unheld : Option Nat := none
  /-- the unheld ball has fenced the module: FAULT_N is asserted until a controller takes the ball (R477) -/
  fenceDue : Bool := false
  sessions : SMap (Option Session) := []
  /-- a store in progress: the snapshot; when it began (R483) -/
  snap : Option (SMap Nat) := none
  snapAt : Nat := 0
  /-- the last store failed; a restore is pending (Table 10) -/
  storeFailed : Bool := false
  /-- a handover waits for a store to commit; requests, with their TYPE, whose replies follow the commit or the handover (R478, R483) -/
  handover : Bool := false
  waitStore : Option (Nat × MReq) := none
  waitHand : Option (Nat × MReq) := none
  /-- status of the last write to an object (Table 7 of ch.18) -/
  lastStatus : Nat := 0
deriving DecidableEq, Repr

/-- A nonce given by HELLO (R504). -/
structure Nonce where
  value : BitVec 256
  method : Nat
  slot : Nat
  at_ : Nat
deriving DecidableEq, Repr

/-- Sessions being opened (R504 to R506): slots 0-7 are key slots, 8-11 password slots. -/
structure SecSt where
  nonces : List Nonce := []
  fails : SMap (List Nat) := []
  /-- locked out until, plus 1 -/
  locked : SMap Nat := []
  quoteAt : Option Nat := none
deriving DecidableEq, Repr

/-- A firmware slot (R510, R512): 0 EMPTY, 1 VALID, 2 INVALID. -/
structure FwSlot where
  st : Nat := 0
  image : List Byte := []
deriving DecidableEq, Repr

/-- The ring record of a bank (R259): heater settings, the lines that carry lanes, lanes out. -/
structure RingRec where
  tx : SMap Nat := []
  rx : SMap Nat := []
  txLine : SMap Nat := []
  rxLine : SMap Nat := []
  txOut : List Nat := []
  rxOut : List Nat := []
deriving DecidableEq, Repr

/-- What the repair record of a die holds (Table 2 of ch.14); each die uses its own part. -/
structure RecBody where
  coreMap : SMap Nat := []
  retired : List Nat := []
  slotFaults : SMap (List Nat) := []
  rows : List Nat := []
  lanes : List Nat := []
  /-- lane maps of the bundles of the edges the die names first, keyed 2·(16·edge + bundle) + direction -/
  laneMaps : SMap LaneMap := []
  rings : SMap RingRec := []
  portBanks : SMap Nat := []
  /-- the active comb, whether the other comb is retired, and line powers at commissioning -/
  comb : Nat := 0
  retiredComb : Bool := false
  refs : SMap (Option Int) := []
  /-- GT of the last commissioning (OPT.COMMISSIONED_GT) -/
  commGt : Nat := 0
  phases : SMap Nat := []
  healthA : Bool := true
  healthB : Bool := true
deriving DecidableEq, Repr

/-- One copy of a repair record (R391). -/
structure RecCopy where
  gen : BitVec 32 := 0
  valid : Bool := false
  body : RecBody := { }
deriving DecidableEq, Repr

/-- The two copies of a repair record, and when a failed write is tried again. -/
structure RepairRec where
  a : RecCopy := { }
  b : RecCopy := { }
  retryAt : Option Nat := none
deriving DecidableEq, Repr

/-- What flash holds, kept over power-off: the configuration record, Saved = F values, logs, repair records. -/
structure FlashSt where
  /-- committed values of saved objects that differ from their defaults -/
  config : SMap Nat := []
  configValid : Bool := true
  configVoid : Bool := false
  configGen : Nat := 0
  /-- values of objects marked F -/
  fixed : SMap Nat := []
  /-- the last 4,096 error-log entries of severity DEGRADED or above, latest first (R407) -/
  log : List (BitVec 256) := []
  /-- repair records by die: 0-15 compute, 16-23 light, 24 steward (R390) -/
  recs : SMap RepairRec := []
  /-- trip records, newest first (R464) -/
  trips : List (BitVec 512) := []
  /-- firmware slots A and B, both as they leave manufacture, and the minimum security version (R510 to R513) -/
  fwA : FwSlot := { st := 1, image := Config.shippedImage }
  fwB : FwSlot := { st := 1, image := Config.shippedImage }
  svnMin : Nat := 0
  /-- CMP.SLOT_RETEST has been written with 1 since the last start that tested slots (R400) -/
  retest : Bool := false
deriving DecidableEq, Repr


/-! ### Stops -/

/-- Why a step may stop with a fault. No meaning of this model faults: every command and event of the spec leaves a next
state, and where its conditions do not hold the state does not change (safe). -/
inductive Fault where
  /-- raised by nothing -/
  | none
deriving DecidableEq, Repr

/-- Why a step may be refused. -/
inductive Refusal where
  /-- a command that has no meaning in this model yet, by its mnemonic; raised by Dispatch only (safe) -/
  | notModelled (mnemonic : String)
deriving DecidableEq, Repr

/-! ### The module -/

/-- The state of a module. -/
structure State where
  /-- module time in 1/256 ns -/
  time : Nat := 0
  /-- free values drawn so far (notes/assumptions/5.md) -/
  draw : Nat := 0
  /-- memory: die · 2^44 + LOCAL, in canonical form; an unlisted byte reads 0 (notes/assumptions/3.md) -/
  mem : List Host.Cell := []
  /-- tags and states of tiles, keyed die · 2^32 + LOCAL / 4,096 -/
  tiles : SMap TileInfo := []
  /-- uncorrectable 16-byte words of local store, keyed (die · 2^44 + LOCAL) / 16, and tiles whose tag entry is -/
  badWords : List Nat := []
  badTags : List Nat := []
  /-- poisoned 32-byte bursts of HBM, keyed (die · 2^44 + LOCAL) / 32 (R203) -/
  badBursts : List Nat := []
  /-- tiles (keyed as `tiles`) whose verifying read in progress a write has met (R183) -/
  races : List Nat := []
  /-- logical cores, keyed 32 · die + core -/
  cores : SMap CoreSt := []
  dies : SMap DieSt := []
  /-- light dies, port banks (136), logical ports (128) -/
  lights : SMap LightSt := []
  banks : SMap BankSt := []
  ports : SMap PortSt := []
  elm : ElmSt := { }
  lane : LaneSt := { }
  /-- spokes: 0-15 compute dies, 16-23 light dies -/
  spokes : SMap SpokeSt := []
  pwr : PwrSt := { }
  thm : ThmSt := { }
  boot : BootSt := { }
  sys : SysSt := { }
  sec : SecSt := { }
  flash : FlashSt := { }
  fab : FabSt := { }
  gt : GtSt := { }
  flt : FltSt := { }
  host : HostSt := { }
  /-- live values of dictionary objects that differ from their defaults, keyed 256 · index + subindex -/
  dict : SMap Nat := []
  out : List Emission := []
  /-- commands that wait, the first one first -/
  pending : List Instr := []
deriving DecidableEq, Repr

/-- Right after reset: power is just applied, step 0 of start-up has not ended (notes/assumptions/4.md). -/
def State.reset : State := { }

end Sys2Proof.Machine
end

