-- ==== Sys2Proof/Machine/Ops.lean ====
section
/-! DEFINITION. The named operations over the state that meanings share: memory and tiles, dictionary objects, events for
the error log, interrupts, game time, cores. -/

namespace Sys2Proof.Machine

/-! ### Cores -/

/-- The key of core c of die d. -/
def coreKey (d c : Nat) : Nat := 32 * d + c

/-- The state of core c of die d. -/
def State.core (s : State) (d c : Nat) : CoreSt := mapGet { } s.cores (coreKey d c)

/-- A core replaced. -/
def State.setCore (s : State) (d c : Nat) (x : CoreSt) : State :=
  { s with cores := mapSet { } s.cores (coreKey d c) x }

/-- A core changed. -/
def State.modCore (s : State) (d c : Nat) (f : CoreSt → CoreSt) : State := s.setCore d c (f (s.core d c))

/-- The queue of engine e (0 matrix, 1 vector, 2 move). -/
def CoreSt.q (x : CoreSt) (e : Nat) : QueueSt :=
  match e with
  | 0 => x.q0
  | 1 => x.q1
  | _ => x.q2

/-- The queue of engine e replaced. -/
def CoreSt.setQ (x : CoreSt) (e : Nat) (q : QueueSt) : CoreSt :=
  match e with
  | 0 => { x with q0 := q }
  | 1 => { x with q1 := q }
  | _ => { x with q2 := q }

/-- A queue changed. -/
def CoreSt.modQ (x : CoreSt) (e : Nat) (f : QueueSt → QueueSt) : CoreSt := x.setQ e (f (x.q e))

/-- The state of compute die d. -/
def State.die (s : State) (d : Nat) : DieSt := mapGet { } s.dies d

/-- A die replaced. -/
def State.setDie (s : State) (d : Nat) (x : DieSt) : State := { s with dies := mapSet { } s.dies d x }

/-- A die changed. -/
def State.modDie (s : State) (d : Nat) (f : DieSt → DieSt) : State := s.setDie d (f (s.die d))

/-- The die's core rail is on and its engines may run: it has become Active since start, and is Active or Idle (R519, Table 5
of ch.16). -/
def State.dieRuns (s : State) (d : Nat) : Bool := (s.die d).everActive && decide ((s.die d).pstate.toNat ≤ 1)

/-- The core-domain clocks of the die's engines and tidy cores run: the die is Active, not Idle (R446). -/
def State.dieClocked (s : State) (d : Nat) : Bool := s.dieRuns d && (s.die d).pstate == 0

/-- Ticks of n core cycles of die d at its core clock (R29, R30). -/
def State.cycles (s : State) (d n : Nat) : Nat := n * 256000 / (s.die d).mhz

/-! ### What leaves the module -/

/-- Something leaves the module. -/
def State.emit (s : State) (e : Emission) : State := { s with out := s.out ++ [e] }

/-- An MSI-X vector raised: a message, or the pending bit where the vector is masked (R525). -/
def State.raiseVec (s : State) (v : Nat) : State :=
  if v ∈ s.host.unmasked then s.emit (.msix v)
  else { s with host := { s.host with pend := setIns v s.host.pend } }

/-- Bits of HOST_EVENT set; vector 2 is raised where one of them is enabled (Table 4 of ch.20). -/
def State.hostEvent (s : State) (b : Nat) : State :=
  let s1 := { s with host := { s.host with event := s.host.event ||| BitVec.ofNat 32 b } }
  if s.host.eventEn &&& BitVec.ofNat 32 b ≠ 0 then s1.raiseVec 2 else s1

/-! ### Dictionary objects -/

/-- The key of an object. -/
def objKey (idx sub : Nat) : Nat := 256 * idx + sub

/-- The live value of an object kept in the dictionary table. -/
def State.obj (s : State) (idx sub : Nat) : Nat := mapGet (objDefault idx sub) s.dict (objKey idx sub)

/-- An object's live value replaced. -/
def State.setObj (s : State) (idx sub v : Nat) : State :=
  { s with dict := mapSet (objDefault idx sub) s.dict (objKey idx sub) v }

/-- A statistics object raised by n; past its largest value the result is free (Config.counterPast). -/
def State.bump (s : State) (idx sub : Nat) (n : Nat := 1) : State :=
  let w := match objRow idx sub with | some r => 8 * objSize r.ty | none => 64
  let v := s.obj idx sub + n
  s.setObj idx sub (if v < 2 ^ w then v else Config.counterPast (objKey idx sub) % 2 ^ w)

/-! ### Game time and events -/

/-- GT with its rate accumulator (R217), in millionths of 1/256 ns: it stands in a hold (R232), else it runs at the disciplined
rate. -/
def State.gtFine (s : State) : Nat :=
  let dt := if s.gt.hold.isSome then 0 else s.time - s.gt.at_
  ((s.gt.base * 1000000 + s.gt.frac : Int) + dt * (1000000 + s.gt.ppm + s.gt.slew)).toNat

/-- GT of the time unit (R217): 0 in UNSET (Table 1 of ch.08). -/
def State.gtNow (s : State) : Nat := if s.gt.st = 0 then 0 else s.gtFine / 1000000 % 2 ^ 64

/-- Time state as a compute die reports it (R218): UNSET while it resynchronises after a wake. -/
def State.gtState (s : State) (d : Nat) : BitVec 2 := if (s.die d).gtResync then 0 else s.gt.st

/-- Local GT of a compute die, in steps of 0.5 ns (R217): it reads 0 while the die reports UNSET (R218). -/
def State.localGt (s : State) (d : Nat) : BitVec 64 :=
  if s.gtState d = 0 then 0 else BitVec.ofNat 64 (s.gtNow / 128 * 128)

/-- Local GT of a die is valid in the sense of R159: only in LOCKED (R218). -/
def State.gtValid (s : State) (d : Nat) : Bool := s.gtState d == 1

/-- An event raised on a die or in the steward: it stands until the steward takes it into the error log (R35, R406). -/
def State.raise (s : State) (ev : Event) : State :=
  { s with flt := { s.flt with raised := s.flt.raised ++ [{ ev := ev, gt := s.gtNow }] } }

/-- An event of severity `sev` at site `site`. -/
def mkEvent (site sev source unit cause detail : Nat) (soft : Bool := false) : Event :=
  { site := BitVec.ofNat 8 site, sev := BitVec.ofNat 4 sev, source := BitVec.ofNat 8 source, unit := BitVec.ofNat 8 unit,
    cause := BitVec.ofNat 16 cause, detail := BitVec.ofNat 64 detail, soft := soft }

/-- Severities of Table 2 of ch.15. -/
def sevNote : Nat := 0
def sevAdvisory : Nat := 1
def sevRecovered : Nat := 2
def sevDegraded : Nat := 3
def sevUnmasked : Nat := 4
def sevFatal : Nat := 5

/-- An event caused by software: site 0x17, NOTE, with the SOFT flag (R406). -/
def softEvent (source unit cause detail : Nat) : Event := mkEvent 0x17 sevNote source unit cause detail true

/-! ### Local address map (Table 5 of ch.01) -/

/-- Regions of a compute die's LOCAL space. -/
inductive Region where
  | hbm | store (core off : Nat) | accum (core off : Nat) | imem (core off : Nat) | coreCtl (core off : Nat)
  | dieCtl (off : Nat) | arrival (off : Nat) | hole
deriving DecidableEq, Repr

/-- The region of a local address (R33, R34). -/
def regionOf (a : Nat) : Region :=
  if a < 0x6000000000 then .hbm
  else if 0x080000000000 ≤ a ∧ a < 0x080010000000 then .store ((a - 0x080000000000) / 0x800000) (a % 0x800000)
  else if 0x080100000000 ≤ a ∧ a < 0x080104000000 then .accum ((a - 0x080100000000) / 0x200000) (a % 0x200000)
  else if 0x080200000000 ≤ a ∧ a < 0x080200800000 then .imem ((a - 0x080200000000) / 0x40000) (a % 0x40000)
  else if 0x080300000000 ≤ a ∧ a < 0x080300200000 then .coreCtl ((a - 0x080300000000) / 0x10000) (a % 0x10000)
  else if 0x080400000000 ≤ a ∧ a < 0x080400100000 then .dieCtl (a - 0x080400000000)
  else if 0x080500000000 ≤ a ∧ a < 0x080500008000 then .arrival (a - 0x080500000000)
  else .hole

/-- The first and last byte of an access lie in one region (R34: an access that leaves its range meets a hole, DEDUCED). -/
def regionSpan (a n : Nat) : Region :=
  match regionOf a, regionOf (a + (n - 1)) with
  | .hbm, .hbm => .hbm
  | .store c o, .store _ _ => .store c o
  | .accum c o, .accum _ _ => .accum c o
  | .imem c o, .imem _ _ => .imem c o
  | .coreCtl c o, .coreCtl c' _ => if c = c' then .coreCtl c o else .hole
  | .dieCtl o, .dieCtl _ => .dieCtl o
  | .arrival o, .arrival _ => .arrival o
  | _, _ => .hole

/-- Local address of byte `off` of the local store of core c (R33). -/
def lsAddr (c off : Nat) : Nat := 0x080000000000 + c * 0x800000 + off

/-- Local address of byte `off` of the instruction memory of the tidy core of core c (R33). -/
def imemAddr (c off : Nat) : Nat := 0x080200000000 + c * 0x40000 + off

/-! ### Bytes of memory -/

/-- The key of a byte of memory. -/
def memKey (d a : Nat) : Nat := d * 2 ^ 44 + a

/-- A byte of HBM, local store or instruction memory; a byte that nothing has written reads 0. -/
def State.byte (s : State) (d a : Nat) : Byte := mapGet 0 s.mem (memKey d a)

/-- n bytes from local address a of die d. -/
def State.bytes (s : State) (d a n : Nat) : List Byte := (List.range n).map (fun i => s.byte d (a + i))

/-- Bytes stored from key k up. -/
def memPut : List Host.Cell → Nat → List Byte → List Host.Cell
  | m, _, [] => m
  | m, k, b :: bs => memPut (mapSet 0 m k b) (k + 1) bs

/-- Bytes stored at local address a of die d; nothing else changes. -/
def State.putBytes (s : State) (d a : Nat) (bs : List Byte) : State :=
  { s with mem := memPut s.mem (memKey d a) bs }

/-- The canonical form of memory: addresses rise strictly and no listed byte is 0. -/
abbrev Memory.wf (m : List Host.Cell) : Bool := mapWf (0 : Byte) m

/-! ### Tiles (ch.06) -/

/-- The key of the tile that holds local address a of die d. -/
def tileKey (d a : Nat) : Nat := d * 2 ^ 32 + a / 4096

/-- Tag and state of the tile that holds local address a. -/
def State.tile (s : State) (d a : Nat) : TileInfo := mapGet { } s.tiles (tileKey d a)

/-- Tag and state of a tile replaced. -/
def State.setTile (s : State) (d a : Nat) (t : TileInfo) : State :=
  { s with tiles := mapSet { } s.tiles (tileKey d a) t }

/-- The state of a tile replaced, its tag kept. -/
def State.setTileSt (s : State) (d a : Nat) (x : TState) : State := s.setTile d a { s.tile d a with st := x }

/-- The tag word of a sequence number, a FORMAT code and a CRC (Table 2 of ch.06). -/
def tagWord (seq fmt crc : Nat) : BitVec 64 := BitVec.ofNat 64 (field 48 (seq % 2 ^ 16) + field 32 (fmt % 2 ^ 16) + crc % 2 ^ 32)

/-- One bit of the CRC-32C of R176. -/
def crcBit (c : Nat) : Nat := if c % 2 = 1 then (c >>> 1) ^^^ 0x82F63B78 else c >>> 1

/-- One byte of the CRC-32C. -/
def crcByte (c : Nat) (b : Byte) : Nat := crcBit (crcBit (crcBit (crcBit (crcBit (crcBit (crcBit (crcBit (c ^^^ b.toNat))))))))

/-- CRC-32C (Castagnoli) of a string of bytes (R176). -/
def crc32c (bs : List Byte) : Nat := (bs.foldl crcByte 0xFFFFFFFF) ^^^ 0xFFFFFFFF

/-- Tiles (by local address of their first byte) that n bytes from a touch. -/
def tilesOf (a n : Nat) : List Nat :=
  if n = 0 then [] else (List.range ((a + (n - 1)) / 4096 + 1 - a / 4096)).map (fun i => (a / 4096 + i) * 4096)

/-! ### HBM addresses (R193) -/

/-- Fields of Table 2 of ch.07 for an HBM address. -/
structure HbmAddr where
  stack : Nat
  chan : Nat
  pc : Nat
  sid : Nat
  bg : Nat
  ba : Nat
  row : Nat
  col : Nat
deriving DecidableEq, Repr

/-- The decode of Table 2 (R193). -/
def hbmDecode (a : Nat) : HbmAddr :=
  let w : BitVec 44 := BitVec.ofNat 44 a
  let p := bits w 15 8 ^^^ bits w 27 20
  let o : BitVec 23 := BitVec.ofNat 23 (bits w 38 16)
  { stack := p % 4, chan := p / 4 % 32, pc := p / 128, sid := bits o 7 6, bg := bits o 3 2 ^^^ bits o 9 8,
    ba := bits o 5 4 ^^^ bits o 11 10, row := bits o 22 8, col := bits o 1 0 * 256 + a % 256 }

/-- A bank of a die as a number. -/
def bankKey (stack chan pc sid bg ba : Nat) : Nat := ((((stack * 32 + chan) * 2 + pc) * 4 + sid) * 4 + bg) * 4 + ba

/-- A row of a die as a number. -/
def rowKey (bank row : Nat) : Nat := bank * 24576 + row

/-- The row of an address. -/
def HbmAddr.key (h : HbmAddr) : Nat := rowKey (bankKey h.stack h.chan h.pc h.sid h.bg h.ba) h.row

/-- The row that an operand names. -/
def rowRefKey (r : RowRef) : Nat := rowKey (bankKey r.stack r.chan r.pc r.sid r.bg r.ba) r.row

/-- A lane of a die as a number: 75 to a channel. -/
def laneKey (stack chan lane : Nat) : Nat := (stack * 32 + chan) * 75 + lane

/-- The decoded address that the log shows for a poisoned burst (R203, notes/assumptions/11.md). -/
def HbmAddr.detail (h : HbmAddr) : Nat :=
  field 0 h.stack + field 2 h.chan + field 7 h.pc + field 8 h.sid + field 10 h.bg + field 12 h.ba + field 14 h.row + field 29 h.col

/-! ### Writes of payload -/

/-- A tile made UNTAGGED by a write that is no whole-tile producer; its tag stays (R180). An HBM tile enters the untag
filter of its die (R196). -/
def State.untag (s : State) (d a : Nat) : State :=
  let s1 := s.setTileSt d a .untagged
  if regionOf a = .hbm then
    s1.modDie d (fun x => { x with untag := ((a / 4096) :: x.untag.filter (· != a / 4096)).take 4096 })
  else s1

/-- Words of local store or bursts of HBM that n bytes from a cover whole lose their uncorrectable marks: they now hold
fresh data with fresh check bits. -/
def State.freshen (s : State) (d a n : Nat) : State :=
  let k := memKey d a
  { s with badWords := s.badWords.filter (fun w => !(decide (k ≤ 16 * w) && decide (16 * w + 16 ≤ k + n)))
           badBursts := s.badBursts.filter (fun w => !(decide (k ≤ 32 * w) && decide (32 * w + 32 ≤ k + n))) }

/-- A raw write of bytes to HBM or local store: payload changed, tiles UNTAGGED (R180). -/
def State.rawWrite (s : State) (d a : Nat) (bs : List Byte) : State :=
  (tilesOf a bs.length).foldl (fun s t => s.untag d t) ((s.freshen d a bs.length).putBytes d a bs)

/-- A whole tile written by a producer: payload, tag and state (R180). It leaves the untag filter (R196). -/
def State.putTile (s : State) (d a : Nat) (bs : List Byte) (tag : BitVec 64) (st : TState) : State :=
  let s1 := ((s.freshen d a 4096).putBytes d a bs).setTile d a { tag := tag, st := st }
  let s2 := { s1 with badTags := s1.badTags.filter (· != tileKey d a), races := s1.races.filter (· != tileKey d a) }
  if regionOf a = .hbm then s2.modDie d (fun x => { x with untag := x.untag.filter (· != a / 4096) }) else s2

/-- Some of n bytes from a lie in an uncorrectable word of local store or a poisoned burst of HBM. -/
def State.badIn (s : State) (d a n : Nat) : Bool :=
  let k := memKey d a
  s.badWords.any (fun w => decide (16 * w < k + n) && decide (k < 16 * w + 16))
  || s.badBursts.any (fun w => decide (32 * w < k + n) && decide (k < 32 * w + 32))

/-- Verification failure reasons (Table 6 of ch.06). -/
def reasonCrc : Nat := 0
def reasonUntagged : Nat := 1
def reasonOpen : Nat := 2
def reasonPoison : Nat := 3
def reasonRace : Nat := 4
def reasonEcc : Nat := 5
def reasonTagEcc : Nat := 6

/-- The effective verification level (R189): 1 in degraded service, else MEM.TILE_VERIFY. -/
def State.verifyLevel (s : State) : Nat := if s.flt.svc then 1 else s.obj 0x6810 1

/-- A verifying read of the tile at a: none where it passes, else the reason (R183, R184, R189). A write meets the read where the
reader says so, or where the tile stands among those raced. -/
def State.verify (s : State) (d a level : Nat) (raced : Bool := false) : Option Nat :=
  let t := s.tile d a
  if tileKey d a ∈ s.badTags then some reasonTagEcc
  else if t.st = .poison then some reasonPoison
  else if s.badIn d a 4096 then some reasonEcc
  else if level = 2 then none
  else if raced ∨ tileKey d a ∈ s.races then some reasonRace
  else if t.st = .untagged then some reasonUntagged
  else if t.st = .open then some reasonOpen
  else if crc32c (s.bytes d a 4096) ≠ t.tag.toNat % 2 ^ 32 then some reasonCrc
  else none

/-- DETAIL of an event about the tile at a: FORMAT in [63:48] (R177), and its local address, or for an uncorrectable error in HBM
the decoded address of the first poisoned burst of the tile (R203, Table 2 of ch.07; DESIGN CHOICE, notes/assumptions/99.md). -/
def State.tileDetail (s : State) (d a reason : Nat) : Nat :=
  let at_ := if regionOf a = .hbm ∧ reason = reasonEcc then
      (match s.badBursts.find? (fun w => 32 * w / 4096 == memKey d a / 4096) with
        | some w => (hbmDecode (32 * w % 2 ^ 44)).detail
        | none => (hbmDecode a).detail)
    else a
  field 48 (bits (s.tile d a).tag 47 32) + at_

/-- Site of an event about a tile (Table 1 of ch.15). -/
def tileSite (a reason : Nat) : Nat :=
  if reason = reasonEcc ∨ reason = reasonTagEcc then (if regionOf a = .hbm then 0x07 else 0x06) else 0x05

/-- The tag entry of a tile rewritten with a fresh check, and no race outstanding (R184). -/
def State.tagFresh (s : State) (d a : Nat) : State :=
  { s with badTags := s.badTags.filter (· != tileKey d a), races := s.races.filter (· != tileKey d a) }

/-- What a failed verification does, whoever made it: POISON for CRC, ECC and TAG_ECC, counters, and the event
(R184, R186). -/
def State.verifyFailed (s : State) (d a unit reason : Nat) : State :=
  let hard := reason = reasonCrc ∨ reason = reasonEcc ∨ reason = reasonTagEcc
  let s1 := if hard then s.setTileSt d a .poison else s
  let s2 := s1.tagFresh d a
  let s3 := if hard then s2.bump 0x6010 1 else s2.bump 0x6010 2
  s3.raise (mkEvent (tileSite a reason) sevRecovered d unit reason (s.tileDetail d a reason))

/-- An uncorrectable error met by a read that is no verifying read: the tile becomes POISON and the event is logged; a read of
HBM counts as one of severity 2, and its event names no core (R186, R203). -/
def State.poisonRead (s : State) (d a unit : Nat) : State :=
  let ev := mkEvent (tileSite a reasonEcc) sevRecovered d (if regionOf a = .hbm then 0xFF else unit) reasonEcc (s.tileDetail d a reasonEcc)
  let s1 := s.setTileSt d a .poison
  (if regionOf a = .hbm then s1.bump 0x6020 2 else s1).raise ev

/-- An uncorrectable tag met by a read: in HBM a verification failure with reason TAG_ECC (R195); in a tag store, POISON and an entry
with that reason, where the read is no verifying read (R186). -/
def State.tagPoison (s : State) (d a unit : Nat) : State :=
  if regionOf a = .hbm then s.verifyFailed d a unit reasonTagEcc
  else ((s.setTileSt d a .poison).tagFresh d a).raise
    (mkEvent (tileSite a reasonTagEcc) sevRecovered d unit reasonTagEcc (s.tileDetail d a reasonTagEcc))

/-- A change of the effective level of verification is logged (R189): `s` as it was, `t` as it is now. -/
def State.levelNote (s t : State) : State :=
  if s.verifyLevel = t.verifyLevel then t else t.raise (mkEvent 0x05 sevNote 24 0xFF (0x10 + t.verifyLevel) 0)

/-! ### Writes of objects -/

/-- Reply statuses of Table 7 of ch.18. -/
def rpOk : Nat := 0x00
def rpNoObject : Nat := 0x01
def rpNoSub : Nat := 0x02
def rpReadOnly : Nat := 0x03
def rpWriteOnly : Nat := 0x04
def rpRole : Nat := 0x05
def rpRange : Nat := 0x06
def rpLength : Nat := 0x07
def rpState : Nat := 0x08
def rpBusy : Nat := 0x09
def rpSession : Nat := 0x0A
def rpCounter : Nat := 0x0B
def rpSegOrder : Nat := 0x0C
def rpFrame : Nat := 0x0D
def rpFull : Nat := 0x0E
def rpAuth : Nat := 0x0F

/-- The write of an object as a row of its own, its access checks passed: its effect, and the status its reply carries kept in
State. Nothing answers while the ball is unheld (R477); until step 2 of start-up ends every write is refused (R534). -/
def State.objRowDone (s : State) (r : Nat × State) : State :=
  if s.sys.ball.isNone then s
  else if s.obj 0xB000 1 ≤ 2 then { s with sys := { s.sys with lastStatus := rpState } }
  else { r.2 with sys := { r.2.sys with lastStatus := r.1 } }

/-- An accepted write to an expert-level object is logged with the object and the session, 0 where a row names none (R479). -/
def State.expertNote (s : State) (sess idx sub : Nat) : State :=
  if 0x800 ≤ idx % 0x1000 then s.raise (softEvent 24 0xFF idx (field 32 sess + field 8 idx + sub)) else s

/-- The outcome of a row that writes an expert-level object. -/
def State.expertRowDone (s : State) (idx sub : Nat) (r : Nat × State) : State :=
  s.objRowDone (if r.1 = rpOk then (r.1, r.2.expertNote 0 idx sub) else r)

/-! ### Bench and leave -/

/-- The slot of a logical core; none where the core is out (R392, R399). -/
def State.slotOf (s : State) (d c : Nat) : Option Nat :=
  match mapGet 0 (s.die d).coreMap c with
  | 0 => some c
  | n + 1 => if n = 36 then none else some n

/-- A logical core is out (R399). -/
def State.coreOut (s : State) (d c : Nat) : Bool := (s.slotOf d c).isNone

/-- A substitution of the core runs (R395, R398). -/
def State.substituting (s : State) (d c : Nat) : Bool :=
  match (s.die d).subst with
  | some x => x.core == c
  | none => false

/-- An access asks a die that does not run to wake; the level stands until the die is Active (R202, R450). -/
def State.askWake (s : State) (d : Nat) : State :=
  s.modDie d (fun x => { x with asked := match x.asked with | some t => some t | none => some s.time })

/-- An action aimed at a core that is being substituted is held (R398). -/
def State.holdAct (s : State) (d : Nat) (a : HeldAct) : State :=
  s.modDie d (fun x => { x with heldActs := x.heldActs ++ [a] })

/-- Bytes of Q_TAIL, of a counter, of a comparator or of a tile-queue push register (R135, Tables 4 and 9 of ch.05). -/
def doorbellOff (off : Nat) : Bool :=
  let o := off % 0x100
  (decide (off < 0x400) && ((decide (off < 0x300) && decide (0x10 ≤ o) && decide (o < 0x14)) || (decide (0x50 ≤ o) && decide (o < 0x90))))
  || (decide (0x400 ≤ off) && decide (off < 0x500) && decide (off % 16 < 8))

/-- A host write that R135 orders: it touches such a register. -/
def isDoorbell (a : Nat) (ag : Agent) (acc : Access) : Bool :=
  match ag, acc, regionOf a with
  | .host, .write bs, .coreCtl _ off => (List.range bs.length).any (fun i => doorbellOff (off + i))
  | _, _, _ => false

/-- A host write has not reached its target: it waits for a die or a core, for an accumulator entry, or behind another (R135). -/
def State.hostWriteHeld (s : State) : Bool :=
  s.dies.any (fun kv => kv.2.heldActs.any (fun h => match h with | .local_ _ .host _ (.write _) => true | _ => false))
  || s.cores.any (fun kv => kv.2.mx.waiting.any (fun w => w.data.isSome)) || !s.host.ordered.isEmpty

/-- An access of local address a of die d, in the regions of core c where one is named, made from outside that core: with
its effect where the die runs; held, with the die asked to wake, where it sleeps (R202, R450); held while the core is
substituted (R398), or while the die runs the substitutions that fell due in its sleep (R399); answered with ADDR_HOLE where the core is out, but for its control window, whose
queues read OFF (R399; DEDUCED, log 85). A host write to Q_TAIL, a counter, a comparator or a tile-queue push register waits for
every earlier host write (R135). Until the die first becomes Active, reads answer with all
bytes 0xFF and writes are discarded (R519). A die that has stopped since (R438) takes no write, and what a read of it answers is free. -/
def State.reach (s : State) (d : Nat) (c : Option Nat) (a : Nat) (ag : Agent) (acc : Access) (eff : State)
    (peek : Bool := false) : State :=
  let hold := s.holdAct d (.local_ a ag peek acc)
  if isDoorbell a ag acc && s.hostWriteHeld then
    { s with host := { s.host with ordered := s.host.ordered ++ [(d, .local_ a ag peek acc)] } }
  else if !(s.die d).everActive then
    (match acc with | .read n => s.emit (.reply 0 (List.replicate n 0xFF)) | .write _ => s)
  else if (s.die d).pstate = 5 then
    (match acc with | .read n => s.emit (.reply (Config.stoppedRead n).1 (Config.stoppedRead n).2) | .write _ => s)
  else if !s.dieRuns d then hold.askWake d
  else match c with
  | none => eff
  | some k =>
    if s.coreOut d k && !(decide (0x080300000000 ≤ a) && decide (a < 0x080300200000)) then s.emit (.reply 0x09 [])
    else if s.substituting d k || (s.die d).substFirst then hold else eff

/-- Local address of byte `off` of the control window of core c (R33). -/
def ctlAddr (c off : Nat) : Nat := 0x080300000000 + c * 0x10000 + off

/-- A write of a register of the control window of a core (R136), as a row of its own. -/
def State.regWrite (s : State) (d c off : Nat) (bs : List Byte) (eff : State) : State :=
  s.reach d (some c) (ctlAddr c off) .host (.write bs) eff

/-- A core-logic fault counted against the core's slot; at the limit the core is due for substitution (R393, R399). -/
def State.coreFault (s : State) (d c : Nat) : State :=
  match s.slotOf d c with
  | none => s
  | some k =>
    let old := (mapGet [] (s.die d).slotFaults k).filter (fun t => decide (s.time < t + 86400 * tickS))
    let now := old ++ [s.time]
    let s1 := s.modDie d (fun x => { x with slotFaults := mapSet [] x.slotFaults k now })
    if s.obj 0x7800 1 ≤ now.length ∧ s.obj 0x7800 2 = 1 ∧ ¬ s.substituting d c ∧ c ∉ (s.die d).substDue then
      s1.modDie d (fun x => { x with substDue := x.substDue ++ [c] })
    else s1

/-- A requester's engine no longer holds, or now holds, its leave. -/
def State.leaveFlag (s : State) (r : Requester) (on : Bool) : State :=
  match r with
  | .matrixEngine d c => s.modCore d c (fun x => { x with mx := { x.mx with leave := on, lastCmd := s.time } })
  | .vectorEngine d c => s.modCore d c (fun x => { x with vx := { x.vx with leave := on, lastCmd := s.time } })
  | _ => s

/-- The module is fenced (R421). -/
def State.fenced (s : State) : Bool := s.obj 0x8000 1 == 3

/-- Watts of leave held in all. -/
def PwrSt.heldWatts (p : PwrSt) : Nat := p.held.foldl (fun n h => n + h.watts) 0

/-- Leave released (R440); PWR.LEAVE_HELD_W follows. -/
def State.releaseLeave (s : State) (r : Requester) : State :=
  let s1 := s.leaveFlag r false
  let s2 : State := { s1 with pwr := { s1.pwr with held := s1.pwr.held.filter (fun h => h.req != r) } }
  s2.setObj 0x2000 4 s2.pwr.heldWatts

end Sys2Proof.Machine
end

