-- ==== Sys2Proof/Machine/Code.lean ====
section
/-! DEFINITION. The code of the optical lines: codewords (R248), the check of class-0 frames (R249), and the dealing of a port's data
to its lanes (R250, R299). -/

namespace Sys2Proof.Machine

/-! ### The code of a line (R248)

The generator of the narrow-sense code of designed distance 5 is the product of the minimal polynomials of α and α^3,
x^9 + x^4 + 1 and x^9 + x^6 + x^4 + x^3 + 1. -/

/-- The generator polynomial: the product of 0x211 and 0x259 over GF(2). -/
def bchGen : Nat := (List.range 10).foldl (fun n i => if (0x211 : Nat).testBit i then n ^^^ (0x259 <<< i) else n) 0

/-- Remainder by the generator of a polynomial of at most 288 bits. -/
def bchRem (v : Nat) : Nat :=
  (List.range 270).foldl (fun n i => if n.testBit (287 - i) then n ^^^ (bchGen <<< (269 - i)) else n) v

/-- The codeword of a payload: 18 check bits below it. -/
def bchEncode (pay : BitVec 270) : BitVec 288 := BitVec.ofNat 288 (pay.toNat * 2 ^ 18 + bchRem (pay.toNat * 2 ^ 18))

/-- Kinds of codeword, by what they complement in the check bits: data, identity idle, class 0 on λ0. -/
def kindMask : Nat → Nat
  | 0 => 0
  | 1 => 0x3FFFF
  | _ => 0x1FF

/-- One bit of the CRC-14 of R249: generator x^14 + x^13 + x^11 + x^2 + 1. -/
def crc14Bit (c : Nat) (b : Bool) : Nat :=
  let t := c.testBit 13 != b
  let c1 := (2 * c) % 16384
  if t then c1 ^^^ 0x2805 else c1

/-- CRC-14 of a class-0 frame, most significant bit first. -/
def crc14 (f : BitVec 256) : Nat := (List.range 256).foldl (fun c i => crc14Bit c (bit f (255 - i))) 0x3FFF

/-- Payload of a codeword that carries a class-0 frame. -/
def framePayload (f : BitVec 256) : BitVec 270 := BitVec.ofNat 270 (f.toNat * 2 ^ 14 + crc14 f)

/-- The codeword that carries a class-0 frame: on λS as data, on λ0 marked as class 0 (R248, R249, R255). -/
def frameWord (onL0 : Bool) (f : BitVec 256) : BitVec 288 :=
  BitVec.ofNat 288 ((bchEncode (framePayload f)).toNat ^^^ kindMask (if onL0 then 2 else 0))

/-! ### The payload stream of a port (R250, R299)

Bytes enter the stream in order, each most significant bit first. -/

/-- Bits that wait in a stream: how many, and their value, the first bit the most significant. -/
def Bits.addBytes (b : Bits) (bs : List Byte) : Bits :=
  { len := b.len + 8 * bs.length, val := bs.foldl (fun n x => 256 * n + x.toNat) b.val }

/-- A unit of 270 bits joined to a stream. -/
def Bits.addUnit (b : Bits) (u : BitVec 270) : Bits := { len := b.len + 270, val := b.val * 2 ^ 270 + u.toNat }

/-- The first n bits of a stream as a number, and the stream without its first n bits. -/
def Bits.head (b : Bits) (n : Nat) : Nat := b.val / 2 ^ (b.len - n)
def Bits.drop (b : Bits) (n : Nat) : Bits := { len := b.len - n, val := b.val % 2 ^ (b.len - n) }

/-- The whole units of a stream, and what is left of it. -/
def Bits.units (b : Bits) : List (BitVec 270) × Bits :=
  let n := b.len / 270
  ((List.range n).map (fun i => BitVec.ofNat 270 (b.val / 2 ^ (b.len - 270 * (i + 1)))), b.drop (270 * n))

/-- Zeros that fill the last unit once no frame follows: a unit more where fewer than the 64 bits of a prefix are free (DESIGN CHOICE,
log 109). -/
def Bits.fill (b : Bits) : Bits :=
  let free := (270 - b.len % 270) % 270
  let n := if free = 0 then 0 else if free < 64 then free + 270 else free
  { len := b.len + n, val := b.val * 2 ^ n }

/-- The next lane of a list, in increasing order and round again (R250). -/
def nextLane (on : List Nat) (last : Nat) : Nat := ((on.find? (fun n => decide (last < n))).orElse (fun _ => on.head?)).getD 0

end Sys2Proof.Machine
end

