-- ==== Sys2Proof/Machine/Ports.lean ====
section
/-! DEFINITION. Ports, banks, light dies and bundles: the accessors that game time, light ports, panel lanes and the fabric
share. -/

namespace Sys2Proof.Machine

/-- Physical bank b of the module (R246). -/
def State.bank (s : State) (b : Nat) : BankSt := mapGet { } s.banks b

/-- A bank changed. -/
def State.modBank (s : State) (b : Nat) (f : BankSt → BankSt) : State := { s with banks := mapSet { } s.banks b (f (s.bank b)) }

/-- Logical port p of the module. -/
def State.port (s : State) (p : Nat) : PortSt := mapGet { } s.ports p

/-- A logical port changed. -/
def State.modPort (s : State) (p : Nat) (f : PortSt → PortSt) : State := { s with ports := mapSet { } s.ports p (f (s.port p)) }

/-- Light die l. -/
def State.light (s : State) (l : Nat) : LightSt := mapGet { } s.lights l

/-- A light die changed. -/
def State.modLight (s : State) (l : Nat) (f : LightSt → LightSt) : State := { s with lights := mapSet { } s.lights l (f (s.light l)) }

/-- Bundle b of edge e. -/
def State.bundle (s : State) (e b : Nat) : BundleSt := mapGet { } s.lane.bundles (16 * e + b)

/-- A bundle changed. -/
def State.modBundle (s : State) (e b : Nat) (f : BundleSt → BundleSt) : State :=
  { s with lane := { s.lane with bundles := mapSet { } s.lane.bundles (16 * e + b) (f (s.bundle e b)) } }

/-- Compute dies that a light die serves (Table 1 of ch.01). -/
def servedBy (l : Nat) : Nat × Nat :=
  (([(0, 1), (2, 3), (3, 7), (11, 15), (15, 14), (13, 12), (12, 8), (4, 0)] : List (Nat × Nat))[l]?).getD (0, 0)

/-- The two dies that an edge joins (Table 1 of ch.10): 0-15 compute dies, 16-23 light dies, 24 the steward. -/
def edgeEnds (e : Nat) : Nat × Nat :=
  let node (i : Nat) : Nat := if i = 0 ∨ i = 9 then 24 else 15 + i
  if e < 12 then (4 * (e / 3) + e % 3, 4 * (e / 3) + e % 3 + 1)
  else if e < 24 then (e - 12, e - 8)
  else if e < 40 then (16 + (e - 24) / 2, if e % 2 = 0 then (servedBy ((e - 24) / 2)).1 else (servedBy ((e - 24) / 2)).2)
  else if e < 49 then (node (e - 40), node (e - 39))
  else (16 + (e - 49), 20 + (e - 49))

/-- An edge touches a die. -/
def edgeAt (e d : Nat) : Bool := (edgeEnds e).1 == d || (edgeEnds e).2 == d

/-- Working lanes of a half of one direction: 34 less those that have failed (R276). -/
def LaneMap.goodIn (m : LaneMap) (h : Nat) : Nat := 34 - (m.bad.filter (fun n => n / 34 == h)).length

/-- The physical lane of a logical lane: the lane of its own place in its half, or the spare that replaces it (R276). -/
def LaneMap.physOf (m : LaneMap) (i : Nat) : Nat :=
  match mapGet 0 m.map i with
  | 0 => i % 32 + 34 * (i / 32)
  | n + 1 => n

/-- A failed lane leaves service: the logical lane it carried, if any, moves to the lowest-numbered spare of its half that works and
carries none (R276, R284). -/
def LaneMap.replace (m : LaneMap) (p : Nat) : LaneMap :=
  if m.bad.contains p then m
  else
    let m1 : LaneMap := { m with bad := setIns p m.bad }
    let used (q : Nat) : Bool := (List.range 64).any (fun i => m.physOf i == q)
    match (List.range 64).find? (fun i => m.physOf i == p), [32, 33].find? (fun x => !m1.bad.contains (34 * (p / 34) + x) && !used (34 * (p / 34) + x)) with
    | some i, some x => { m1 with map := mapSet 0 m1.map i (34 * (p / 34) + x + 1) }
    | _, _ => m1

/-- Working lanes of a half of a bundle, in the direction that has fewer. -/
def BundleSt.goodIn (b : BundleSt) (h : Nat) : Nat := min (b.fwd.lanes.goodIn h) (b.rev.lanes.goodIn h)

/-- The widest width that the working lanes allow (R279, R285): 1 full, 2 half on H0, 3 half on H1, 4 disabled. -/
def BundleSt.widest (b : BundleSt) : Nat :=
  if 32 ≤ b.goodIn 0 then (if 32 ≤ b.goodIn 1 then 1 else 2) else if 32 ≤ b.goodIn 1 then 3 else 4

/-- A bundle out of service until it trains again; its lane map and its role stay. -/
def BundleSt.stop (b : BundleSt) : BundleSt :=
  { b with width := if b.width = 4 then 4 else 0, fwd := { lanes := b.fwd.lanes }, rev := { lanes := b.rev.lanes } }

/-- Bundles of the edges of a die stop: the die sleeps or is off (R279). Lane maps and roles stay. -/
def State.stopBundles (s : State) (d : Nat) : State :=
  { s with lane := { s.lane with bundles := s.lane.bundles.map (fun kv => (kv.1, if edgeAt (kv.1 / 16) d then kv.2.stop else kv.2)) } }

/-- What the record of higher generation that is valid holds (R391). -/
def RepairRec.best (r : RepairRec) : Option RecBody :=
  if r.a.valid && (!r.b.valid || decide (0 < (r.a.gen - r.b.gen).toInt)) then some r.a.body
  else if r.b.valid then some r.b.body else none

/-- Every bundle as it stands before the training of a start: no role, no width, its lane map from the records (R276, R279, R280);
LANE.MD_BUNDLES is taken for this start. -/
def State.bundlesAnew (s : State) : State :=
  let maps := (List.range 25).flatMap (fun r => match (mapGet { } s.flash.recs r).best with | some b => b.laneMaps | none => [])
  let s1 : State := { s with lane := { s.lane with bundles := [], halves := [], cur := [], md := s.obj 0x5200 5 } }
  maps.foldl (fun s kv => s.modBundle (kv.1 / 32) (kv.1 / 2 % 16) (fun x =>
    if kv.1 % 2 = 0 then { x with fwd := { x.fwd with lanes := kv.2 } } else { x with rev := { x.rev with lanes := kv.2 } })) s1

/-- The spoke of die k: 0-15 compute dies, 16-23 light dies. -/
def State.spoke (s : State) (k : Nat) : SpokeSt := mapGet { } s.spokes k

/-- A spoke changed. -/
def State.modSpoke (s : State) (k : Nat) (f : SpokeSt → SpokeSt) : State := { s with spokes := mapSet { } s.spokes k (f (s.spoke k)) }

/-- What game time keeps of a logical port. -/
def State.gtPort (s : State) (p : Nat) : GtPort := mapGet { } s.gt.ports p

/-- What game time keeps of a port changed. -/
def State.modGtPort (s : State) (p : Nat) (f : GtPort → GtPort) : State :=
  { s with gt := { s.gt with ports := mapSet { } s.gt.ports p (f (s.gtPort p)) } }

/-- The bank that serves logical port p: OPT.PORT_PHYS (R263). -/
def State.bankOf (s : State) (p : Nat) : Nat := s.obj 0x4121 (p + 1)

/-- The logical port a bank serves, where it serves one. -/
def State.portOfBank (s : State) (b : Nat) : Option Nat := (List.range 128).find? (fun p => s.bankOf p == b)

/-- The state of logical port p (Table 4 of ch.09): that of its bank. -/
def State.portSt (s : State) (p : Nat) : Nat := (s.bank (s.bankOf p)).st

/-- The light die of a logical port (R246). -/
def lightOf (p : Nat) : Nat := p / 16

/-- The link of a port is up, so that class 0 runs on it: UP, DEGRADED, SIGNAL_ONLY or PAUSED, or in a retrain, which keeps λS
running (R270). -/
def State.linkUp (s : State) (p : Nat) : Bool :=
  let b := s.bank (s.bankOf p)
  (decide (3 ≤ b.st) && decide (b.st ≤ 6)) || (b.st == 2 && b.before != 0)

/-- The port is eligible for a class (R310): UP or DEGRADED; for class 0 also SIGNAL_ONLY and, on λS, PAUSED, whose λS traffic
continues (R265). -/
def State.eligible (s : State) (p cls : Nat) : Bool :=
  s.portSt p == 3 || s.portSt p == 4 || (cls == 0 && (s.portSt p == 5 || (s.portSt p == 6 && !(s.port p).onL0)))

/-- Transmit and receive lanes in service of a bank (R251): 32 less those out, none unless it carries data. -/
def BankSt.lanesTx (b : BankSt) : Nat := if b.st = 3 ∨ b.st = 4 ∨ b.st = 6 then 32 - b.txOut.length else 0
def BankSt.lanesRx (b : BankSt) : Nat := if b.st = 3 ∨ b.st = 4 ∨ b.st = 6 then 32 - b.rxOut.length else 0

/-- The module's ID, epoch and whether an ID is assigned (R295, R296). -/
def State.moduleId (s : State) : Nat := s.obj 0x5000 1
def State.epoch (s : State) : Nat := s.obj 0x5000 2
def State.hasId (s : State) : Bool := s.moduleId != 0xFFFF

/-- An event on the module as a whole: source 0xFF, unit 0xFF. -/
def moduleEvent (site sev cause detail : Nat) : Event := mkEvent site sev 0xFF 0xFF cause detail

/-- A class-0 link frame sent on a port over λS or λ0, as a codeword of its own (R249, R255). On λ0 it goes before the data of lane w0
that has not been dealt. -/
def State.sendOn (s : State) (p : Nat) (f : BitVec 256) (onL0 : Bool) : State := s.emit (.frame p f onL0 (frameWord onL0 f))

/-- A class-0 link frame sent on the carrier of the port's class 0. -/
def State.sendFrame (s : State) (p : Nat) (f : BitVec 256) : State := s.sendOn p f (s.port p).onL0

/-- A routed frame sent on the carrier of the port's class 0. -/
def State.sendRoutedAt (s : State) (p : Nat) (f : BitVec 256) (start : Nat) : State :=
  s.emit (.routed p f start (s.port p).onL0 (frameWord (s.port p).onL0 f))

/-- The alarm level of the die that an event comes from is its time of detection, where that level has been seen and no event has
taken it yet; an event of software and the steward's own finding that a spoke is lost are no faults of the die (R35). Answers the
event so dated and the state in which the level is used up. -/
def State.alarmDate (s : State) (r : Raised) : Raised × State :=
  let k := r.ev.source.toNat
  if 24 ≤ k ∨ r.ev.soft = true ∨ r.ev.site = 0x13 then (r, s)
  else match (s.spoke k).alarmGt with
    | some g => ({ r with gt := g }, s.modSpoke k (fun x => { x with alarmGt := none }))
    | none => (r, s)

end Sys2Proof.Machine
end

