-- ==== Sys2Proof/Machine/Groups.lean ====
section
/-! DEFINITION. Group entries of a compute die (R360 to R364): their words, validation, digest and end. -/

namespace Sys2Proof.Machine

/-- The collective unit of a die changed. -/
def State.modCol (s : State) (d : Nat) (f : ColSt → ColSt) : State := s.modDie d (fun x => { x with col := f x.col })

/-- Group entry g of die d (Table 1 of ch.13). -/
def State.group (s : State) (d g : Nat) : BitVec 512 := mapGet 0 (s.die d).col.groups g

/-- A group entry replaced. -/
def State.setGroup (s : State) (d g : Nat) (w : BitVec 512) : State :=
  s.modCol d (fun c => { c with groups := mapSet 0 c.groups g w })

def gValid (w : BitVec 512) : Bool := bit w 511
def gPhase (w : BitVec 512) : Nat := bits w 508 507
def gRank (w : BitVec 512) : Nat := bits w 495 480
def gSize (w : BitVec 512) : Nat := bits w 479 463
def gGid (w : BitVec 512) : Nat := bits w 447 416
def gList (w : BitVec 512) : Nat := bits w 415 372
def gTimeout (w : BitVec 512) : Nat := bits w 371 352
def gEpoch (w : BitVec 512) : Nat := bits w 351 320
def gDigest (w : BitVec 512) : Nat := bits w 319 256
def gSeq (w : BitVec 512) : BitVec 32 := BitVec.ofNat 32 (bits w 255 224)

/-- The mixing function of R361. -/
def mix64 (x : BitVec 64) : BitVec 64 :=
  let a := (x ^^^ (x >>> 33)) * 0xFF51AFD7ED558CCD
  let b := (a ^^^ (a >>> 33)) * 0xC4CEB9FE1A85EC53
  b ^^^ (b >>> 33)

/-- The digest of a list of 4-byte entries under a GID (R361). -/
def listDigest (gid : Nat) (entries : List Nat) : BitVec 64 :=
  (entries.zipIdx).foldl (fun h p => h + mix64 (BitVec.ofNat 64 (p.2 * 2 ^ 32 + p.1))) (mix64 (BitVec.ofNat 64 gid))

/-- Entry r of the member list of a group: MODULE and DIE with the reserved bits (R361). -/
def State.member (s : State) (d : Nat) (w : BitVec 512) (r : Nat) : Nat := ofBytes (s.bytes d (gList w + 4 * r) 4)

/-- MODULE and DIE of an entry. -/
def memberModule (e : Nat) : Nat := e / 65536 % 65536
def memberDie (e : Nat) : Nat := e / 4096 % 16

/-- The member list of a group. -/
def State.members (s : State) (d : Nat) (w : BitVec 512) : List Nat := (List.range (gSize w)).map (s.member d w)

/-- No number occurs twice. -/
def noTwice : List Nat → Bool
  | [] => true
  | x :: xs => !xs.contains x && noTwice xs

/-- A list of members within the die's HBM. -/
def listInHbm (w : BitVec 512) : Bool := decide (gList w + 4 * gSize w ≤ 0x6000000000)

/-- R363: entries whose module is out are removed, the list compacted in place, SIZE and RANK follow. -/
def State.reform (s : State) (d g : Nat) : State :=
  let w := s.group d g
  let l := s.members d w
  let keep := l.filter (fun e => !s.flt.out.contains (memberModule e))
  let own := s.moduleId * 16 + d
  let rank := (keep.findIdx? (fun e => memberModule e * 16 + memberDie e == own)).getD (gRank w)
  let s1 := s.rawWrite d (gList w) (keep.flatMap (toBytes 4))
  s1.setGroup d g (putBits (putBits w 495 480 rank) 479 463 keep.length)

/-- Why validation refuses a group (R362). -/
def State.groupBad (s : State) (d : Nat) (w : BitVec 512) : Bool :=
  let n := gSize w
  n == 0 || decide (65536 < n) || decide (n ≤ gRank w) || !listInHbm w || !s.hasId
  || (let e := s.member d w (gRank w); memberModule e != s.moduleId || memberDie e != d)
  || !noTwice ((s.members d w).map (fun e => memberModule e * 16 + memberDie e))

/-- The end of a validation (R362, R363). -/
def State.groupCheck (s : State) (d g : Nat) : State :=
  let s0 := s.modCol d (fun c => { c with validating := mapSet 0 c.validating g 0 })
  let ownOut := bit (s.group d g) 510 && s.flt.out.contains s.moduleId
  let ok0 := decide (1 ≤ gSize (s.group d g) ∧ gSize (s.group d g) ≤ 65536) && listInHbm (s.group d g)
  let s1 := if bit (s.group d g) 510 && !ownOut && ok0 then s0.reform d g else s0
  let w := s1.group d g
  if ownOut || s1.groupBad d w then s1.setGroup d g (putBit (putBit w 509 true) 511 false)
  else
    let dg := listDigest (gGid w) (s1.members d w)
    s1.setGroup d g (putBit (putBit (putBits (putBits (putBits w 351 320 s1.epoch) 319 256 dg.toNat) 255 208 0) 509 false) 511 true)

/-- The discarded write of a group entry, logged (R362). -/
def State.groupLog (s : State) (d g : Nat) : State := s.raise (softEvent d 0xFF 0 (memKey d (0x080400020000 + 0x40 * g)))

/-- The RW bits of the top word: REFORM, RANK and SIZE (Table 1, R10). -/
def groupTop (w : BitVec 512) (top : BitVec 64) : BitVec 512 := putBits (putBit w 510 (bit top 62)) 495 463 (bits top 47 15)

/-- A write of the top word of a group entry with VALID = 1 (R362): validation starts. -/
def State.groupStart (s : State) (d g : Nat) (top : BitVec 64) : State :=
  let w := s.group d g
  if gValid w then (s.setGroup d g (putBit w 510 (bit top 62))).groupLog d g
  else (s.setGroup d g (groupTop w top)).modCol d (fun c => { c with validating := mapSet 0 c.validating g (s.time + 1) })

/-- A write of the top word with VALID = 0 (R362): the group ends, with frames and chunks that wait for it, or the write is
discarded while a collective runs. -/
def State.groupStop (s : State) (d g : Nat) (top : BitVec 64) : State :=
  let w := s.group d g
  if gValid w then
    if gPhase w ≠ 0 then s.groupLog d g
    else (s.setGroup d g (putBit (putBit w 510 (bit top 62)) 511 false)).modCol d (fun c => { c with
      early := c.early.filter (fun f => bits f 191 184 != g), buf := c.buf.filter (fun k => k.flow.toNat != g) })
  else (s.setGroup d g (groupTop w top)).modCol d (fun c => { c with validating := mapSet 0 c.validating g 0 })

/-- A write of word k of a group entry, k < 7: GID, LIST and TIMEOUT_US are written, the rest is read only or reserved;
discarded and logged while VALID (R362). -/
def State.groupWord (s : State) (d g k : Nat) (v : BitVec 64) : State :=
  let w := s.group d g
  if gValid w then s.groupLog d g
  else if k = 6 then s.setGroup d g (putBits w 447 384 v.toNat)
  else if k = 5 then s.setGroup d g (putBits w 383 352 (bits v 63 32))
  else s

/-- GROUP_VALIDATE. -/
def execGroupValidate (die : Fin 16) (g : Fin 256) (top : BitVec 64) (s : State) : Host.Outcome State Fault Refusal :=
  .next (if bit top 63 then s.groupStart die g top else s)

/-- GROUP_VALIDATION_DONE. -/
def execGroupValidationDone (die : Fin 16) (g : Fin 256) (s : State) : Host.Outcome State Fault Refusal :=
  .next (if mapGet 0 (s.die die).col.validating g ≠ 0 then s.groupCheck die g else s)

/-- GROUP_END. -/
def execGroupEnd (die : Fin 16) (g : Fin 256) (top : BitVec 64) (s : State) : Host.Outcome State Fault Refusal :=
  .next (if bit top 63 then s else s.groupStop die g top)

end Sys2Proof.Machine
end

