-- ==== Sys2Proof/Machine/Race.lean ====
section
/-! DEFINITION. Race slots (R354 to R357): arming, disarming, claims, and the guard that a home die applies. -/

namespace Sys2Proof.Machine

/-- Race slot r of die d, the word of Table 6 of ch.12. -/
def State.race (s : State) (d r : Nat) : BitVec 256 := mapGet 0 (s.die d).race r

/-- A race slot replaced. -/
def State.setRace (s : State) (d r : Nat) (w : BitVec 256) : State := s.modDie d (fun x => { x with race := mapSet 0 x.race r w })

def raceArmed (w : BitVec 256) : Bool := bit w 255
def raceClaimed (w : BitVec 256) : Bool := bit w 254
def raceModule (w : BitVec 256) : Nat := bits w 247 232
def raceDie (w : BitVec 256) : Nat := bits w 231 228
def raceBase (w : BitVec 256) : Nat := bits w 127 84
def raceLen (w : BitVec 256) : Nat := bits w 83 52

/-- A range of local addresses lies in one region that admits remote access (Table 5 of ch.01). -/
def remoteRange (a n : Nat) : Bool :=
  match regionSpan a n with
  | .hbm | .store _ _ | .arrival _ => true
  | _ => false

/-- Why an arming is refused (R355): the bounds of Table 6, the region, an overlap with another armed slot. -/
def State.raceBad (s : State) (d r : Nat) (w : BitVec 256) : Bool :=
  let a := raceBase w
  let n := raceLen w
  a % 128 != 0 || n % 128 != 0 || n == 0 || !remoteRange a n
  || (s.die d).race.any (fun kv => kv.1 != r && raceArmed kv.2
      && decide (a < raceBase kv.2 + raceLen kv.2) && decide (raceBase kv.2 < a + n))

/-- ARMED of the top word put in place; the other bits are read only or reserved (Table 6, R10). -/
def raceTop (w : BitVec 256) (top : BitVec 64) : BitVec 256 := putBit w 255 (bit top 63)

/-- A write of the top word with ARMED = 1 (R355). -/
def State.raceArm (s : State) (d r : Nat) (top : BitVec 64) : State :=
  let w := raceTop (s.race d r) top
  if s.raceBad d r w then s.setRace d r (putBit (putBit w 255 false) 253 true)
  else s.setRace d r (putBits (putBits (putBits (putBits (putBit (putBit w 254 false) 253 false) 247 228 0) 223 192 0) 191 128 0) 255 255 1)

/-- A write of the top word with ARMED = 0 (R355). -/
def State.raceDisarm (s : State) (d r : Nat) (top : BitVec 64) : State := s.setRace d r (putBit (raceTop (s.race d r) top) 255 false)

/-- A write of word k of a slot, k < 3 (R355): CLAIM_GT is read only; while armed the write is discarded and logged. -/
def State.raceWord (s : State) (d r k : Nat) (v : BitVec 64) : State :=
  let w := s.race d r
  if raceArmed w then s.raise (softEvent d 0xFF 0 (memKey d (0x080400012000 + 0x20 * r)))
  else if k = 2 then s
  else s.setRace d r (putBits (putBits w (64 * k + 63) (64 * k) v.toNat) 51 0 0)

/-- RACE_SLOT_ARM. -/
def execRaceSlotArm (die : Fin 16) (r : Fin 64) (top : BitVec 64) (s : State) : Host.Outcome State Fault Refusal :=
  .next (if bit top 63 then s.raceArm die r top else s)

/-- RACE_SLOT_DISARM. -/
def execRaceSlotDisarm (die : Fin 16) (r : Fin 64) (top : BitVec 64) (s : State) : Host.Outcome State Fault Refusal :=
  .next (if bit top 63 then s else s.raceDisarm die r top)

/-- A CLAIM of a range at local address a by module m, die k (R356): status and state. -/
def State.claim (s : State) (d a m k : Nat) : Nat × State :=
  match (List.range 64).find? (fun r => raceArmed (s.race d r) && raceBase (s.race d r) == a) with
  | none => (0x4C, s)
  | some r =>
    let w := s.race d r
    if !raceClaimed w then
      (0, s.setRace d r (putBits (putBits (putBits (putBit w 254 true) 247 232 m) 231 228 k) 191 128 (s.localGt d).toNat))
    else if raceModule w = m ∧ raceDie w = k then (0, s)
    else (0x4B, s.bump 0x6030 0x0A)

/-- The armed slot that guards the line at local address a. -/
def State.guardOf (s : State) (d a : Nat) : Option Nat :=
  (List.range 64).find? (fun r => let w := s.race d r
    raceArmed w && decide (raceBase w ≤ a) && decide (a < raceBase w + raceLen w))

/-- A write or atomic of (module, die) on the line at a is refused (R357): none where it is allowed. `merged` marks an
ATOMIC_M, which no claim admits. -/
def State.guarded (s : State) (d a m k : Nat) (merged : Bool) : Option State :=
  match s.guardOf d a with
  | none => none
  | some r =>
    let w := s.race d r
    if raceClaimed w && raceModule w == m && raceDie w == k && !merged then none
    else some ((s.setRace d r (putBits w 223 192 (satAdd 32 (bits w 223 192) 1))).bump 0x6030 9)

end Sys2Proof.Machine
end

