-- ==== Sys2Proof/Machine/Packet.lean ====
section
/-! DEFINITION. Packets, link frames and class-0 frames as bits: the header of Table 1 of ch.11, its check, the prefix of
Table 3 and the CRC of a link frame, the routed frame of Table 5. -/

namespace Sys2Proof
open Machine

/-! ### Packets (R297, R298) -/

/-- The header of a packet as the 256-bit value of Table 1. -/
def Packet.header (p : Packet) : Nat :=
  field 248 p.op.toNat + field 246 p.cls.toNat + field 245 p.ord.toNat + field 244 p.tile.toNat + field 242 p.tstate.toNat
  + field 238 p.hops.toNat + field 232 p.lines.toNat + field 216 p.dstModule.toNat + field 200 p.srcModule.toNat
  + field 196 p.dstDie.toNat + field 192 p.srcDie.toNat + field 184 p.flow.toNat + field 172 p.pseq.toNat
  + field 171 p.first.toNat + field 156 p.txn.toNat + field 124 p.epoch.toNat + field 80 p.addr.toNat
  + field 64 p.hchk.toNat + p.opx.toNat

/-- One bit of the CRC-16 of R298: generator 0x1021, no reflection. -/
def crc16Bit (c : Nat) (b : Bool) : Nat :=
  let t := c.testBit 15 != b
  let c1 := (2 * c) % 65536
  if t then c1 ^^^ 0x1021 else c1

/-- HCHK of a header: over its 256 bits, most significant first, HOPS and HCHK taken as zero (R298). -/
def Packet.check (p : Packet) : BitVec 16 :=
  let q : Packet := { p with hops := 0, hchk := 0 }
  let h := q.header
  BitVec.ofNat 16 ((List.range 256).foldl (fun c i => crc16Bit c (h.testBit (255 - i))) 0xFFFF)

/-- A packet with its header check computed, as its source does (R298). -/
def Packet.seal (p : Packet) : Packet := { p with hchk := p.check }

/-- The bytes of a packet, header first (R297). -/
def Packet.bytes (p : Packet) : List Byte := toBytes 32 p.header ++ p.payload

/-- The packet that bytes spell, header first. -/
def Packet.ofList (bs : List Byte) : Packet :=
  let h := BitVec.ofNat 256 (Machine.ofBytes (bs.take 32))
  { op := BitVec.ofNat _ (bits h 255 248), cls := BitVec.ofNat _ (bits h 247 246), ord := bit h 245, tile := bit h 244
    tstate := BitVec.ofNat _ (bits h 243 242), hops := BitVec.ofNat _ (bits h 241 238), lines := BitVec.ofNat _ (bits h 237 232)
    dstModule := BitVec.ofNat _ (bits h 231 216), srcModule := BitVec.ofNat _ (bits h 215 200)
    dstDie := BitVec.ofNat _ (bits h 199 196), srcDie := BitVec.ofNat _ (bits h 195 192), flow := BitVec.ofNat _ (bits h 191 184)
    pseq := BitVec.ofNat _ (bits h 183 172), first := bit h 171, txn := BitVec.ofNat _ (bits h 170 156)
    epoch := BitVec.ofNat _ (bits h 155 124), addr := BitVec.ofNat _ (bits h 123 80), hchk := BitVec.ofNat _ (bits h 79 64)
    opx := BitVec.ofNat _ (bits h 63 0), payload := bs.drop 32 }

/-- Length of a packet in units of 32 bytes (LEN of Table 3). -/
def Packet.len32 (p : Packet) : Nat := 1 + p.payload.length / 32

/-- Bytes of a packet in a buffer. -/
def Packet.size (p : Packet) : Nat := 32 + p.payload.length

end Sys2Proof

namespace Sys2Proof.Machine

/-! ### Link frames (R299) -/

/-- The prefix of a link frame (Table 3). -/
def framePrefix (seq ack : BitVec 16) (nak : Bool) (p : Packet) : BitVec 64 :=
  BitVec.ofNat 64 (field 48 seq.toNat + field 32 ack.toNat + field 31 nak.toNat + field 16 p.len32)

/-- CRC-32C of a link frame, over prefix and packet (R299). -/
def frameCrc (pfx : BitVec 64) (p : Packet) : BitVec 32 := BitVec.ofNat 32 (crc32c (toBytes 8 pfx.toNat ++ p.bytes))

/-- Bytes of a link frame: prefix, packet and CRC. -/
def frameSize (p : Packet) : Nat := 12 + p.size

/-- The bytes of a link frame (R299). -/
def linkBytes (pfx : BitVec 64) (k : Packet) : List Byte := toBytes 8 pfx.toNat ++ k.bytes ++ toBytes 4 (frameCrc pfx k).toNat

/-- Units dealt to the lanes of a port, one codeword per lane in turn, in increasing lane number over the lanes in service (R250). -/
def State.dealUnits (s : State) (p : Nat) (us : List (BitVec 270)) : List (Nat × BitVec 288) × Nat :=
  let out := (s.bank (s.bankOf p)).txOut
  let on := (List.range 32).filter (fun n => !out.contains n)
  us.foldl (fun r u =>
    let n := match r.2 with | 0 => on.headD 0 | l + 1 => nextLane on l
    (r.1 ++ [(n, bchEncode u)], n + 1)) ([], (s.port p).txLane)

/-- A frame on the data lanes of port p (R299, R300): it joins the payload stream, whose whole units are dealt (R250). Where the port has
no other frame to send, the last unit is filled. -/
def State.emitLink (s : State) (p : Nat) (f : Sent) : State :=
  let q := s.port p
  let pfx := framePrefix f.seq q.lfGot q.nak f.pkt
  let b := q.txBits.addBytes (linkBytes pfx f.pkt)
  let u := (if q.voq.isEmpty && q.resend.isEmpty then b.fill else b).units
  let w := s.dealUnits p u.1
  (s.modPort p (fun x => { x with txBits := u.2, txLane := w.2 })).emit (.linkFrame p pfx f.pkt (frameCrc pfx f.pkt) w.1)

/-! ### Routed class-0 frames (R302, Table 5) -/

def fKind (f : BitVec 256) : Nat := bits f 255 248
def fLseq (f : BitVec 256) : Nat := bits f 247 240
def fHops (f : BitVec 256) : Nat := bits f 239 236
def fDst (f : BitVec 256) : Nat := bits f 231 216
def fSrc (f : BitVec 256) : Nat := bits f 215 200
def fDie (f : BitVec 256) : Nat := bits f 199 196
def fEpoch (f : BitVec 256) : Nat := bits f 159 128

/-- A FLAG frame (Table 5): destination, die, core, TARGET, ENGINE, CNT, ARR, ADDEND, as the body of SIG0 gives them. -/
def flagFrame (src epoch dst die core : Nat) (target : Bool) (eng cnt arr addend : Nat) : BitVec 256 :=
  BitVec.ofNat 256 (field 248 0x04 + field 216 dst + field 200 src + field 196 die + field 191 core + field 190 target.toNat
    + field 188 eng + field 185 cnt + field 173 arr + field 128 epoch + field 96 addend)

/-- The kinds that are routed (Table 4): FLAG, collective signals, and the umpire traffic that ch.15 routes. -/
def kindRouted (k : Nat) : Bool :=
  k == 0x04 || decide (0x20 ≤ k ∧ k ≤ 0x25) || k == 0x10 || k == 0x11 || k == 0x14 || k == 0x15 || k == 0x16

/-- The kinds that travel one link (Table 4). -/
def kindLink (k : Nat) : Bool :=
  k == 0x01 || k == 0x02 || k == 0x03 || k == 0x12 || k == 0x13 || k == 0x17 || k == 0x18

/-! ### Age of an epoch (R296) -/

/-- The receiving module's epoch is newer than `e`: the signed difference is positive (R296). -/
def State.staleEpoch (s : State) (e : Nat) : Bool := decide (0 < (BitVec.ofNat 32 s.epoch - BitVec.ofNat 32 e).toInt)

end Sys2Proof.Machine
end

