-- ==== Sys2Proof/Machine/Mesh.lean ====
section
/-! DEFINITION. Paths across the panel: bundles and their lane maps (R275, R276), flits as their sender builds and keeps them (R277,
R282), the paths of packets (R24, R289, R311, R313, R327) and of class-0 frames (R25, R323), and the choice of bundle on each edge
(R207, R281, R287). What crosses does so at once, in the command that sends it (notes/assumptions/13.md, 102.md). -/

namespace Sys2Proof.Machine

/-! ### Bundles and edges -/

/-- A bundle works: at full or half width (R285). -/
def State.bundleWorks (s : State) (e b : Nat) : Bool := decide (1 ≤ (s.bundle e b).width ∧ (s.bundle e b).width ≤ 3)

/-- Bundles of an edge (Table 1 of ch.10). -/
def bundlesOf (e : Nat) : Nat := if e < 24 then 16 else if e < 40 then 12 else 1

/-- An edge with no working bundle is down. -/
def State.edgeDown (s : State) (e : Nat) : Bool := !(List.range (bundlesOf e)).any (fun b => s.bundleWorks e b)

/-- Every bundle of an edge is disabled: it is down until service. -/
def State.edgeLost (s : State) (e : Nat) : Bool := (List.range (bundlesOf e)).all (fun b => (s.bundle e b).width == 4)

/-- One pick of smooth weighted round-robin (R311, R312): counters raised by their weights, the first highest one lowered
by the total. Candidates are (key, weight). Answers the key picked. -/
def smoothPick (cur : SMap Int) (base : Nat) (c : List (Nat × Nat)) : Option Nat × SMap Int :=
  let cur1 := c.foldl (fun m kw => mapSet 0 m (base + kw.1) (mapGet 0 m (base + kw.1) + (kw.2 : Int))) cur
  let total : Int := c.foldl (fun (t : Int) kw => t + (kw.2 : Int)) 0
  let best := c.foldl (fun b kw => match b with
    | none => some kw.1
    | some k => if mapGet 0 cur1 (base + k) < mapGet 0 cur1 (base + kw.1) then some kw.1 else some k) none
  match best with
  | none => (none, cur1)
  | some k => (some k, mapSet 0 cur1 (base + k) (mapGet 0 cur1 (base + k) - total))

/-! ### Spares and width (R279, R285 to R287, R402) -/

/-- Spares left in any active half of the working bundles of an edge (LANE.EDGE_SPARES). -/
def State.edgeSpares (s : State) (e : Nat) : Nat :=
  (List.range (bundlesOf e)).foldl (fun m b =>
    let x := s.bundle e b
    let left (h : Nat) : Nat := x.goodIn h - 32
    match x.width with
    | 1 => min m (min (left 0) (left 1))
    | 2 => min m (left 0)
    | 3 => min m (left 1)
    | _ => m) 2

/-- CMP.BENCH_LEFT for panel lanes (R402). -/
def State.laneBench (s : State) : State := s.setObj 0x7010 2 ((List.range 53).foldl (fun m e => min m (s.edgeSpares e)) 2)

/-- An event of site 0x08 at an edge. -/
def State.edgeEvent (s : State) (e sev cause detail : Nat) : State := s.raise (mkEvent 0x08 sev (edgeEnds e).1 e cause detail)

/-- A bundle enters service at the widest width its lanes allow. A width it has not had before, and its disabling, raise events; a change
in service to half width is counted (R279, R285 to R287). -/
def State.enterWidth (s : State) (e b : Nat) : State :=
  let x := s.bundle e b
  let w := x.widest
  let s1 := s.modBundle e b (fun y => { y with width := w, last := w })
  if w = x.last ∨ w = 1 then s1
  else if w < 4 then (if x.last = 0 then s1 else s1.bump 0x5200 2).edgeEvent e sevDegraded 1 b
  else s1.edgeEvent e sevDegraded 2 b

/-! ### Flits as they are sent (R277, R282) -/

/-- The direction that a flit travels in. -/
def BundleSt.dir (b : BundleSt) (rev : Bool) : FlitDir := if rev then b.rev else b.fwd

def BundleSt.setDir (b : BundleSt) (rev : Bool) (d : FlitDir) : BundleSt := if rev then { b with rev := d } else { b with fwd := d }

/-- The body of a flit (Table 2 of ch.10): payload, TYPE, SEQ, ACK, and the CRC-32C over the bits above it. -/
def flitBodyOf (pay : BitVec 1920) (ty : BitVec 8) (seq ack : BitVec 12) : BitVec 1984 :=
  let top := field 32 pay.toNat + field 24 ty.toNat + field 12 seq.toNat + ack.toNat
  BitVec.ofNat 1984 (field 32 top + crc32c (toBytes 244 top))

/-- A flit leaves on a bundle: ACK acknowledges the last good flit of the other direction. -/
def State.emitFlit (s : State) (e b : Nat) (rev : Bool) (f : Flit) : State :=
  s.emit (.flit e b rev (flitBodyOf f.pay f.ty f.seq ((s.bundle e b).dir (!rev)).got))

/-- A payload sent with the next SEQ. Its sender keeps it until it is acknowledged, the last 256 of them (R282). -/
def FlitDir.push (d : FlitDir) (ty : Nat) (pay : BitVec 1920) : FlitDir :=
  let f : Flit := { seq := d.sent + 1, ty := BitVec.ofNat 8 ty, pay := pay }
  { d with sent := d.sent + 1, retry := (d.retry ++ [f]).drop (d.retry.length + 1 - 256) }

/-- The bundle of an edge that the next packet of a role takes: its working bundles in proportion to their widths as the routers know
them (R281, R287); none where no bundle of the role works now. -/
def State.pickBundle (s : State) (e : Nat) (rev : Bool) (role : Nat) : Option Nat × State :=
  let c := ((List.range (bundlesOf e)).filter (fun b => s.bundleWorks e b && (s.bundle e b).role == role)).map
    (fun b => (b, if s.lane.halves.contains (16 * e + b) then 1 else 2))
  let r := smoothPick s.lane.cur (((2 * e + rev.toNat) * 4 + role) * 16) c
  (r.1, if r.1.isSome then { s with lane := { s.lane with cur := r.2 } } else s)

/-- One step along the panel: an edge, and `rev` where it is crossed from the die it names second to the one it names first. -/
structure EdgeHop where
  edge : Nat
  rev : Bool
deriving DecidableEq, Repr

/-- Payloads sent over one edge, all on one bundle of the role. -/
def State.sendOver (s : State) (role ty : Nat) (pays : List (BitVec 1920)) (h : EdgeHop) : State :=
  match s.pickBundle h.edge h.rev role with
  | (some b, s1) => s1.modBundle h.edge b (fun x => x.setDir h.rev (pays.foldl (fun d p => d.push ty p) (x.dir h.rev)))
  | (none, s1) => s1

/-- Bytes as payloads of 240 bytes, the last one filled up with zeros. -/
def payloads (bs : List Byte) : List (BitVec 1920) :=
  (List.range (ceilDiv bs.length 240)).map (fun i => BitVec.ofNat 1920 (ofBytes ((bs.drop (240 * i)).take 240)))

/-! ### Paths across the mesh (R24, R289) -/

/-- West or east along a row from column c to column c'. -/
def rowHops (r c c' : Nat) : List EdgeHop :=
  if c ≤ c' then (List.range (c' - c)).map (fun i => { edge := 3 * r + c + i, rev := false })
  else (List.range (c - c')).map (fun i => { edge := 3 * r + c - 1 - i, rev := true })

/-- North or south along a column from row r to row r'. -/
def columnHops (c r r' : Nat) : List EdgeHop :=
  if r ≤ r' then (List.range (r' - r)).map (fun i => { edge := 12 + 4 * (r + i) + c, rev := false })
  else (List.range (r - r')).map (fun i => { edge := 12 + 4 * (r - 1 - i) + c, rev := true })

/-- Dimension order between two compute dies: first along the row, then along the column (R24). -/
def dimensionOrder (a b : Nat) : List EdgeHop := rowHops (a / 4) (a % 4) (b % 4) ++ columnHops (b % 4) (a / 4) (b / 4)

/-- Mesh edges between two compute dies. -/
def meshDist (a b : Nat) : Nat := (dimensionOrder a b).length

/-- Where a hop ends. -/
def EdgeHop.ending (h : EdgeHop) : Nat := if h.rev then (edgeEnds h.edge).1 else (edgeEnds h.edge).2

/-- Edges out of a node among those given, with the nodes they lead to. -/
def hopsFrom (edges : List Nat) (n : Nat) : List EdgeHop :=
  edges.filterMap (fun e => if (edgeEnds e).1 = n then some { edge := e, rev := false } else if (edgeEnds e).2 = n then some { edge := e, rev := true }
    else none)

/-- A shortest path over the edges given, found outwards from its start: paths by where they end, newest hop first, and the nodes seen.
Among shortest paths the one over lower edge numbers is taken (DESIGN CHOICE, notes/assumptions/103.md). -/
def searchPath (edges : List Nat) (goal : Nat) : Nat → List (Nat × List EdgeHop) → List Nat → Option (List EdgeHop)
  | 0, _, _ => none
  | fuel + 1, front, seen =>
    match front.find? (fun x => x.1 == goal) with
    | some x => some x.2.reverse
    | none =>
      let r := front.foldl (fun (acc : List (Nat × List EdgeHop) × List Nat) x =>
        (hopsFrom edges x.1).foldl (fun acc h => if acc.2.contains h.ending then acc else (acc.1 ++ [(h.ending, h :: x.2)], h.ending :: acc.2)) acc) ([], seen)
      searchPath edges goal fuel r.1 r.2

/-- The shortest path between two nodes over the edges given. -/
def shortestPath (edges : List Nat) (a b : Nat) : Option (List EdgeHop) := searchPath edges b 26 [(a, [])] [a]

/-- The path between two compute dies: dimension order, or the detour that the routers hold where an edge of it is down (R24, R289).
None where the down edges cut the dies apart. -/
def State.meshPath (s : State) (a b : Nat) : Option (List EdgeHop) :=
  let p := dimensionOrder a b
  if p.any (fun h => s.lane.detours.contains h.edge) then
    shortestPath ((List.range 24).filter (fun e => !s.lane.detours.contains e)) a b
  else some p

/-- Number of the edge between light die l and the j-th compute die it serves, and that die (Table 1 of ch.10). -/
def lightEdge (l j : Nat) : Nat × Nat := (24 + 2 * l + j, if j = 0 then (servedBy l).1 else (servedBy l).2)

/-- The compute–light edge of light die l by which a path to or from compute die d goes: that of the die fewer mesh edges away, the
lower-numbered one on a tie; the other where that edge is down (R289, R311, R313). -/
def State.lightSide (s : State) (l d : Nat) : Option (Nat × Nat) :=
  let c := [lightEdge l 0, lightEdge l 1].filter (fun x => !s.edgeLost x.1)
  c.foldl (fun b x => match b with
    | none => some x
    | some y => if meshDist x.2 d < meshDist y.2 d ∨ (meshDist x.2 d = meshDist y.2 d ∧ x.2 < y.2) then some x else some y) none

/-- The path of a packet between nodes of the panel, 0-15 compute dies and 16-23 light dies (R24, R289, R311, R313, R327). None where
down edges leave no way. -/
def State.packetPath (s : State) (x y : Nat) : Option (List EdgeHop) :=
  if x = y then some []
  else if x < 16 then
    if y < 16 then s.meshPath x y
    else match s.lightSide (y - 16) x with
      | some o => (s.meshPath x o.2).map (fun p => p ++ [{ edge := o.1, rev := true }])
      | none => none
  else
    let far := if y < 16 then y else (servedBy (y - 16)).1
    match s.lightSide (x - 16) far with
    | none => none
    | some i =>
      if y < 16 then (s.meshPath i.2 y).map (fun p => { edge := i.1, rev := false } :: p)
      else match s.lightSide (y - 16) i.2 with
        | some o => (s.meshPath i.2 o.2).map (fun p => { edge := i.1, rev := false } :: (p ++ [{ edge := o.1, rev := true }]))
        | none => none

/-- A packet on a path cannot pass now: an edge of it is down, or a die it would cross, short of its end, is asleep or stopped, so that
its mesh is off (R289, R445). It waits under flow control until detours are loaded. -/
def State.pathShut (s : State) (p : List EdgeHop) : Bool :=
  p.any (fun h => s.edgeLost h.edge)
  || p.dropLast.any (fun h => decide (h.ending < 16) && decide (3 ≤ (s.die h.ending).pstate.toNat))

/-! ### Roles (R207, R208, R281) -/

/-- Some bundle of an edge works in a role. -/
def State.roleWorks (s : State) (e role : Nat) : Bool :=
  (List.range (bundlesOf e)).any (fun b => s.bundleWorks e b && (s.bundle e b).role == role)

/-- The role of the bundles that carry a packet over a path: memory-direct for a read of the HBM of a neighbouring die of the module, or
its response, where the edge has such a bundle in service; fabric for all else (R207, R208, R288). -/
def State.packetRole (s : State) (p : List EdgeHop) (k : Packet) : Nat :=
  match p with
  | [h] => if h.edge < 24 ∧ (k.op = 0x01 ∨ k.op = 0x11) ∧ k.srcModule = k.dstModule ∧ regionOf k.addr.toNat = .hbm ∧ s.roleWorks h.edge 2 then 2
    else 3
  | _ => 3

/-- A packet carried over a path: flits of packet data on a bundle of its role on each edge. -/
def State.carryPacket (s : State) (p : List EdgeHop) (k : Packet) : State :=
  p.foldl (fun s h => s.sendOver (s.packetRole p k) 0x01 (payloads k.bytes) h) s

/-! ### Class-0 frames (R25, R281, R323) -/

/-- The home light die of a compute die (R323), and the die served by it through which an inner die reaches it. -/
def homeLight (d : Nat) : Nat := [0, 0, 1, 1, 7, 0, 1, 2, 6, 6, 3, 3, 5, 5, 4, 3].getD d 0
def homeVia (d : Nat) : Nat := if d = 5 then 1 else if d = 6 then 2 else if d = 9 then 8 else if d = 10 then 11 else d

/-- Ring neighbours over edges in service: node 0 is the steward, node 1 + l light die l (Table 1 of ch.10). -/
def State.ringNext (s : State) (n : Nat) : List Nat :=
  let seg := (List.range 9).flatMap (fun i => if s.edgeDown (40 + i) then [] else if i = n then [(i + 1) % 9] else if (i + 1) % 9 = n then [i] else [])
  let chord := (List.range 4).flatMap (fun i => if s.edgeDown (49 + i) then [] else if i + 1 = n then [i + 5] else if i + 5 = n then [i + 1] else [])
  seg ++ chord

/-- Nodes within k segments of a node. -/
def State.ringReach (s : State) : Nat → Nat → List Nat
  | 0, n => [n]
  | k + 1, n => let r := s.ringReach k n; r.foldl (fun acc x => (s.ringNext x).foldl (fun a y => setIns y a) acc) r

/-- The die of a ring node. -/
def ringDie (n : Nat) : Nat := if n = 0 then 24 else 15 + n

/-- The hops over the ring and its chords between two ring nodes, by the fewest segments (R323); none where the ring does not join
them. -/
def State.ringHops (s : State) (n m : Nat) : List EdgeHop :=
  (shortestPath ((List.range 13).filterMap (fun i => if s.edgeDown (40 + i) then none else some (40 + i))) (ringDie n) (ringDie m)).getD []

/-- Signal hops from a compute die to its home light die (R323), and back. -/
def State.homeHops (s : State) (d : Nat) : List EdgeHop :=
  let l := homeLight d
  let v := homeVia d
  let e := if (servedBy l).1 = v then 24 + 2 * l else 25 + 2 * l
  (s.meshPath d v).getD [] ++ [{ edge := e, rev := true }]

def EdgeHop.back (h : EdgeHop) : EdgeHop := { h with rev := !h.rev }

/-- A class-0 frame carried over signal bundles: one message to a flit of TYPE 0x02. -/
def State.carryFrame (s : State) (p : List EdgeHop) (f : BitVec 256) : State :=
  p.foldl (fun s h => s.sendOver 1 0x02 [BitVec.ofNat 1920 f.toNat] h) s

/-- The signal path of a frame from ring node n to compute die d, or for d = 24 to the steward. -/
def State.framePath (s : State) (n d : Nat) : List EdgeHop :=
  if d = 24 then s.ringHops n 0
  else s.ringHops n (homeLight d + 1) ++ ((s.homeHops d).reverse.map EdgeHop.back)

end Sys2Proof.Machine
end

