-- ==== Sys2Proof/Machine/Queue.lean ====
section
/-! DEFINITION. The parts of command streams that every engine shares: header fields, tile queues, counters, comparators,
waits, issue, refusal and completion (R130 to R151). -/

namespace Sys2Proof.Machine

/-! ### Statuses (Table 12 of ch.05) -/

def stOk : Nat := 0x00
def stDesc : Nat := 0x01
def stVxRange : Nat := 0x02
def stVxShape : Nat := 0x03
def stTqBare : Nat := 0x04
def stTqVoid : Nat := 0x05
def stToken : Nat := 0x06
def stFault : Nat := 0x07
def stRing : Nat := 0x08
def stAddrHole : Nat := 0x09
def stAddrRemote : Nat := 0x0A
def stOpcode : Nat := 0x0B
def stHang : Nat := 0x0C
def stParity : Nat := 0x0D
def stGtLate : Nat := 0x0E
def stGtLost : Nat := 0x0F
def stHost : Nat := 0x10
def stTqShort : Nat := 0x11

/-! ### The header (Table 7 of ch.05) -/

def cmdOp (w : BitVec 128) : Nat := bits w 127 120
def cmdFence (w : BitVec 128) : Bool := bit w 119
def cmdIrq (w : BitVec 128) : Bool := bit w 118
def cmdWait (w : BitVec 128) : Nat := bits w 117 116
def cmdWsel (w : BitVec 128) : Nat := bits w 115 112
def cmdUse (w : BitVec 128) : Bool := bit w 111
def cmdSigTq (w : BitVec 128) : Bool := bit w 110
def cmdStq (w : BitVec 128) : Nat := bits w 109 106
def cmdSigCnt (w : BitVec 128) : Bool := bit w 105
def cmdSeng (w : BitVec 128) : Nat := bits w 104 103
def cmdScnt (w : BitVec 128) : Nat := bits w 102 100

/-- Opcodes of an engine (Tables 13, 14, 18, 19 of ch.05, R306). -/
def opcodeKnown (e op : Nat) : Bool :=
  decide (op ≤ 0x07)
  || (e == 0 && decide (0x10 ≤ op) && decide (op ≤ 0x16))
  || (e == 1 && decide (0x20 ≤ op) && decide (op ≤ 0x2B))
  || (e == 2 && decide (0x40 ≤ op) && decide (op ≤ 0x46))

/-- R139: the header rules whose breach is refused with OPCODE. -/
def headerOk (e : Nat) (w : BitVec 128) : Bool :=
  opcodeKnown e (cmdOp w) && cmdWait w != 3 && (!cmdUse w || cmdWait w == 1)

/-- Commands in execution at most (Table 1 of ch.05). -/
def runLimit (e : Nat) : Nat :=
  match e with
  | 0 => 2
  | 1 => 16
  | _ => 32

/-- Queue depth (Table 1 of ch.05). -/
def queueDepth (e : Nat) : Nat := if e = 2 then 2048 else 1024

/-! ### Handles (Table 8 of ch.05) -/

def handleToken (h : BitVec 64) : Nat := bits h 63 48
def handleCount (h : BitVec 64) : Nat := bits h 43 32
def handleVoid (h : BitVec 64) : Bool := bit h 31
def handleTile (h : BitVec 64) : Nat := bits h 10 0

/-- A handle built from its fields. -/
def mkHandle (token producer count tile : Nat) (void : Bool) : BitVec 64 :=
  BitVec.ofNat 64 (field 48 (token % 2 ^ 16) + field 44 producer + field 32 count + field 31 void.toNat + tile)

/-- The handle of a command that wrote the tiles given: from the lowest to the highest, bare where it wrote none (R143). -/
def tilesHandle (token producer : Nat) (tiles : List Nat) : BitVec 64 :=
  match tiles with
  | [] => mkHandle token producer 0 0 false
  | t :: ts =>
    let lo := ts.foldl min t
    let hi := ts.foldl max t
    mkHandle token producer (hi + 1 - lo) lo false

/-! ### Counters, comparators and tile queues -/

/-- Counter i of engine e (R146). -/
def CoreSt.counter (x : CoreSt) (e i : Nat) : BitVec 32 := mapGet 0 x.cnt (8 * e + i)

/-- A counter set. -/
def CoreSt.setCounter (x : CoreSt) (e i : Nat) (v : BitVec 32) : CoreSt := { x with cnt := mapSet 0 x.cnt (8 * e + i) v }

/-- Comparator i of engine e (R147). -/
def CoreSt.comparator (x : CoreSt) (e i : Nat) : BitVec 64 := mapGet 0 x.cmp (4 * e + i)

/-- A comparator set. -/
def CoreSt.setComparator (x : CoreSt) (e i : Nat) (v : BitVec 64) : CoreSt := { x with cmp := mapSet 0 x.cmp (4 * e + i) v }

/-- Tile queue t (R140). -/
def CoreSt.tileQueue (x : CoreSt) (t : Nat) : TileQueue := mapGet { } x.tq t

/-- A tile queue replaced. -/
def CoreSt.setTileQueue (x : CoreSt) (t : Nat) (q : TileQueue) : CoreSt := { x with tq := mapSet { } x.tq t q }

/-- The value a comparator looks at: a counter of its engine, or the low half of an arrival counter (Table 10). -/
def State.cmpSource (s : State) (d c e : Nat) (v : BitVec 64) : BitVec 32 :=
  if bit v 63 then ((mapGet 0 (s.die d).arrival (bits v 43 32)).setWidth 32) else (s.core d c).counter e (bits v 34 32)

/-- A comparator is true (R147): GE on the signed difference, EQ, NE; REL 3 never. -/
def cmpTrue (source : BitVec 32) (v : BitVec 64) : Bool :=
  let ref := v.setWidth 32
  match bits v 62 61 with
  | 0 => decide (0 ≤ (source - ref).toInt)
  | 1 => source == ref
  | 2 => source != ref
  | _ => false

/-- Comparator i of engine e is true. -/
def State.cmpHolds (s : State) (d c e i : Nat) : Bool :=
  let v := (s.core d c).comparator e i
  cmpTrue (s.cmpSource d c e v) v

/-- A satisfied wait moves REF on by STEP (R147). -/
def cmpStep (v : BitVec 64) : BitVec 64 := putBits v 31 0 (bits v 31 0 + bits v 59 52)

/-- A tile queue holds 64 handles and reserved slots together (R141). -/
def tqFull (q : TileQueue) : Bool := decide (64 ≤ q.slots.length)

/-- A handle pushed in one step, its reserved bits clear (R10), or a discarded push counted (Table 9 of ch.05). -/
def tqPush (q : TileQueue) (h : BitVec 64) : TileQueue :=
  if tqFull q then { q with lost := BitVec.ofNat 8 (satAdd 8 q.lost.toNat 1) }
  else { q with slots := q.slots ++ [{ eng := 4, num := 0, handle := some (putBits h 30 11 0) }] }

/-- A slot reserved for command `num` of engine `e` (R141). -/
def tqReserve (q : TileQueue) (e : Nat) (num : BitVec 64) : TileQueue :=
  { q with slots := q.slots ++ [{ eng := e, num := num, handle := none }] }

/-- The handle at the head of a tile queue, where it has been written (R141, R142). -/
def tqHead (q : TileQueue) : Option (BitVec 64) :=
  match q.slots with
  | t :: _ => t.handle
  | [] => none

/-- The head handle popped, or nothing where the head is unwritten or the queue empty. -/
def tqPop (q : TileQueue) : Option (BitVec 64) × TileQueue :=
  match tqHead q with
  | some h => (some h, { q with slots := q.slots.tail })
  | none => (none, q)

/-- A reserved slot written with its handle; a slot voided by a parity error takes a void handle (Table 26 of ch.05). -/
def tqFill (q : TileQueue) (e : Nat) (num : BitVec 64) (h : BitVec 64) : TileQueue :=
  { q with slots := q.slots.map (fun t =>
      if t.eng = e ∧ t.num = num ∧ t.handle = none then
        { t with handle := some (if t.voided then putBit (putBits h 43 32 0) 31 true else h) } else t) }

/-! ### Interrupts and halts -/

/-- A bit of TC_IRQ_PEND set (Table 24 of ch.05). -/
def CoreSt.tcPend (x : CoreSt) (i : Nat) : CoreSt :=
  { x with tc := { x.tc with irqPend := x.tc.irqPend ||| BitVec.ofNat 32 (2 ^ i) } }

/-- The completion interrupt of queue e, routed by Q_IRQ (R137): to the host, to the tidy core, to both or to neither. -/
def State.queueIrq (s : State) (d c e : Nat) : State :=
  let v := ((s.core d c).q e).irq
  let s1 := if bit v 30 then s.modCore d c (fun x => x.tcPend e) else s
  if bit v 31 then s1.raiseVec (bits v 7 0) else s1

/-- A halt of a queue taken into its state: HALT_FAULT stands against a lesser halt, and a halt under HALT_SYNC is kept for
its release (DEDUCED, notes/assumptions/8.md). -/
def QueueSt.halted (q : QueueSt) (h : Halt) (err : BitVec 32) : QueueSt :=
  match q.halt with
  | some .sync => { q with beforeSync := some h, err := err }
  | some .fault => if h = .fault then { q with err := err } else q
  | _ => { q with halt := some h, err := err }

/-- Command number of the next command to issue (Table 4 of ch.05). -/
def QueueSt.pc (q : QueueSt) : BitVec 64 := match q.acc with | k :: _ => k.num | [] => q.count

/-- Queue e halts (R151): its state, Q_ERR, TC_IRQ_PEND[9] and the completion interrupt; a PARITY halt is counted
(R169). -/
def State.haltQueue (s : State) (d c e : Nat) (h : Halt) (status op : Nat) : State :=
  let s1 := s.modCore d c (fun x => (x.modQ e (fun q => q.halted h (BitVec.ofNat 32 (field 24 status + field 16 op)))).tcPend 9)
  (if status = stParity then s1.bump 0x7070 3 else s1).queueIrq d c e

/-- The halt state of a status (R151). -/
def haltOf (status : Nat) : Halt := if status = stFault ∨ status = stHang then .fault else .cmd

/-- An agent has done something on a core after which the conditions of its sync monitor must hold anew (R164). -/
def State.act (s : State) (d c : Nat) : State :=
  s.modCore d c (fun x => { x with sm := { x.sm with lastAct := s.time } })

/-- TC_IRQ_PEND[6:3]: a comparator of the tidy core that was false in `s` and is true in `t` sets its bit (Table 24 of ch.05; the
bits are latched, DEDUCED from their W1C access, notes/assumptions/96.md). -/
def State.latchFrom (s t : State) (d c : Nat) : State :=
  let new := (List.range 4).foldl (fun v i =>
    if !s.cmpHolds d c 3 i && t.cmpHolds d c 3 i then v ||| BitVec.ofNat 32 (2 ^ (3 + i)) else v) (0 : BitVec 32)
  if new = 0 then t else t.modCore d c (fun x => { x with tc := { x.tc with irqPend := x.tc.irqPend ||| new } })

/-- A counter of a core set (R146). -/
def State.putCounter (s : State) (d c e i : Nat) (v : BitVec 32) : State :=
  s.latchFrom (s.modCore d c (fun x => x.setCounter e i v)) d c

/-! ### Issue (R132, R139, R141, R142) -/

/-- A command whose end holds back every later one: an aborted or refused command, HALT, MV.INVAL, and an AWAIT_GT that
has not fired (R151, R152, R159, R345). -/
def runBlocks (r : Run) : Bool :=
  r.status != 0 || cmdOp r.word == 0x07 || cmdOp r.word == 0x43 || r.awaits.contains .gt

/-- Commands in execution, a loop with its body counted once (R112, R130). -/
def runCount (q : QueueSt) : Nat := (q.run.filter (fun r => !r.body)).length

/-- What a command's wait says now. -/
inductive Waiting where
  | no
  | on (kind sel : Nat)
deriving DecidableEq, Repr

/-- The wait of a command and the slots it must find (R132, R141, R142, R152): WKIND and WSEL where it must wait. -/
def State.waitOf (s : State) (d c e : Nat) (w : BitVec 128) : Waiting :=
  let x := s.core d c
  let pop := cmdWait w == 1
  let room (t : Nat) (n : Nat := 1) : Bool :=
    decide ((x.tileQueue t).slots.length + n ≤ 64 + (if pop && cmdWsel w == t then 1 else 0))
  if !headerOk e w then .no
  else if pop && (tqHead (x.tileQueue (cmdWsel w))).isNone then .on 1 (cmdWsel w)
  else if cmdWait w == 2 && !s.cmpHolds d c e (cmdWsel w % 4) then .on 3 (cmdWsel w % 4)
  else if cmdSigTq w && !room (cmdStq w) then .on 2 (cmdStq w)
  else if cmdOp w == 0x04 && !room (bits w 95 92) (if cmdSigTq w && cmdStq w == bits w 95 92 then 2 else 1) then
    .on 2 (bits w 95 92)
  else .no

/-- A command needs power leave to start: every MX and VX command (R95, R124). -/
def needsLeave (op : Nat) : Bool := (decide (0x10 ≤ op) && decide (op ≤ 0x16)) || (decide (0x20 ≤ op) && decide (op ≤ 0x2B))

/-- The engine holds the leave that a command needs. -/
def CoreSt.hasLeave (x : CoreSt) (e op : Nat) : Bool :=
  !needsLeave op || (if e = 0 then x.mx.leave else x.vx.leave)

/-- The split mode a command names, where it names one (R63, R153). -/
def cmdMode (w : BitVec 128) : Option Nat :=
  match cmdOp w with
  | 0x10 => some (bits w 83 82)
  | 0x11 => some (bits w 79 78)
  | _ => none

/-- Queue e may issue command `k` as far as R132, R63 and R137 go, power leave apart. -/
def State.readyBut (s : State) (d c e : Nat) (k : Cmd) : Bool :=
  let x := s.core d c
  let q := x.q e
  s.dieRuns d && q.enable && q.halt.isNone && !q.run.any runBlocks && decide (runCount q < runLimit e)
  && (k.parity || ((!cmdFence k.word || q.run.isEmpty)
  && (match cmdMode k.word with | some m => m == x.mx.mode.toNat || q.run.isEmpty | none => true)
  && s.waitOf d c e k.word == .no))
  && (e != 1 || x.vx.loops.isEmpty)

/-- Queue e may issue command `k` now (R63, R132, R137): it is ready, and its engine holds the leave it needs. A command with a
parity error is refused and needs none. -/
def State.mayIssue (s : State) (d c e : Nat) (k : Cmd) : Bool :=
  s.readyBut d c e k && (k.parity || (s.core d c).hasLeave e (cmdOp k.word))

/-- The next command of queue e waits for power leave and for nothing else: leave is requested then (R132, Table 6 of ch.05). -/
def State.wantsLeave (s : State) (d c e : Nat) : Bool :=
  match (s.core d c).q e |>.acc with
  | k :: _ => s.readyBut d c e k && !k.parity && !(s.core d c).hasLeave e (cmdOp k.word)
  | [] => false

/-- The wait of a command taken: a handle popped, a comparator stepped, a slot reserved. Answers the handle. -/
def CoreSt.takeWait (x : CoreSt) (e : Nat) (k : Cmd) : CoreSt × Option (BitVec 64) :=
  let w := k.word
  if k.parity || !headerOk e w then (x, none)
  else
    let p := if cmdWait w = 1 then tqPop (x.tileQueue (cmdWsel w)) else (none, x.tileQueue (cmdWsel w))
    let x1 := if cmdWait w = 1 then x.setTileQueue (cmdWsel w) p.2 else x
    let x2 := if cmdWait w = 2 then x1.setComparator e (cmdWsel w % 4) (cmpStep (x1.comparator e (cmdWsel w % 4))) else x1
    let x3 := if cmdSigTq w then x2.setTileQueue (cmdStq w) (tqReserve (x2.tileQueue (cmdStq w)) e k.num) else x2
    (x3, p.1)

/-- The status a command has before its own checks (R139, R144): OPCODE, TQ_VOID, TQ_BARE, or OK. -/
def preStatus (e : Nat) (w : BitVec 128) (h : Option (BitVec 64)) : Nat :=
  if !headerOk e w then stOpcode
  else match h with
    | some h => if handleVoid h then stTqVoid else if cmdUse w && handleCount h == 0 then stTqBare else stOk
    | none => stOk

/-- The next command to issue of queue e. -/
def CoreSt.next (x : CoreSt) (e : Nat) : Option Cmd := (x.q e).acc.head?

/-- The next command of queue e issues: its wait is taken and it stands in execution, refused where `preStatus` says so. -/
def State.issue (s : State) (d c e : Nat) (k : Cmd) : State × Run :=
  let x := s.core d c
  let t := x.takeWait e k
  let r : Run :=
    { num := k.num, word := k.word, status := BitVec.ofNat 8 (if k.parity then stParity else preStatus e k.word t.2), popped := t.2,
      slot := cmdSigTq k.word && headerOk e k.word && !k.parity, level := BitVec.ofNat 2 s.verifyLevel, start := s.time, progress := s.time }
  let x1 := t.1.modQ e (fun q =>
    { q with acc := q.acc.tail, run := q.run ++ [r], busySince := if q.run.isEmpty then s.time else q.busySince })
  let x2 := if e = 0 then { x1 with mx := { x1.mx with lastCmd := s.time } }
            else if e = 1 then { x1 with vx := { x1.vx with lastCmd := s.time } } else x1
  ((s.setCore d c x2).act d c, r)

/-- A command in execution changed. -/
def CoreSt.modRun (x : CoreSt) (e : Nat) (num : BitVec 64) (f : Run → Run) : CoreSt :=
  x.modQ e (fun q => { q with run := q.run.map (fun r => if r.num = num then f r else r) })

/-- A command in execution changed. -/
def State.modRun (s : State) (d c e : Nat) (num : BitVec 64) (f : Run → Run) : State :=
  s.modCore d c (fun x => x.modRun e num f)

/-- A command in execution ends with a status that is not OK; its work is over (R139, R151). -/
def State.failRun (s : State) (d c e : Nat) (num : BitVec 64) (status : Nat) : State :=
  s.modRun d c e num (fun r => { r with status := BitVec.ofNat 8 status, busy := false, awaits := [], todo := [] })

/-- The row of an opcode: where the next command of queue e is that opcode and may issue, it issues, and its effect
follows unless it was refused at issue. Otherwise nothing happens. -/
def State.runOp (s : State) (d c e op : Nat) (effect : State → Run → State) : State :=
  match (s.core d c).next e with
  | none => s
  | some k =>
    if cmdOp k.word = op ∧ !k.parity ∧ s.mayIssue d c e k then
      let p := s.issue d c e k
      if p.2.status = 0 then effect p.1 p.2 else p.1
    else s

/-! ### Completion (R143, R149 to R151) -/

/-- A completion record (Table 11 of ch.05). -/
def complRecord (r : Run) (e gtNs : Nat) (voided : Bool) : Nat :=
  field 96 (r.num.toNat % 2 ^ 32) + field 88 r.status.toNat + field 80 (cmdOp r.word) + field 78 e + field 77 r.late.toNat
    + field 76 voided.toNat + field 40 r.flags.toNat + gtNs % 2 ^ 40

/-- R149 step 2: the flags of a completed command ORed into MX_FLAGS or VX_FLAGS. A VX.FLAGS_CLR of a loop's body that ended OK
clears VX_FLAGS (R122). -/
def CoreSt.orFlags (x : CoreSt) (e : Nat) (r : Run) : CoreSt :=
  match e with
  | 0 => { x with mx := { x.mx with flags := x.mx.flags ||| r.flags } }
  | 1 => { x with vx := { x.vx with flags := if r.body ∧ cmdOp r.word = 0x2B ∧ r.status = 0 then 0 else x.vx.flags ||| r.flags } }
  | _ => x

/-- R149 step 3: the counter add of a command that ended OK, and the handle or the void handle of its slot (R143). -/
def CoreSt.signal (x : CoreSt) (e : Nat) (r : Run) : CoreSt :=
  let x1 := if r.status = 0 ∧ cmdSigCnt r.word then
      x.setCounter (cmdSeng r.word) (cmdScnt r.word) (x.counter (cmdSeng r.word) (cmdScnt r.word) + 1) else x
  if r.slot then
    let h := if r.status = 0 then tilesHandle r.num.toNat e r.tiles else mkHandle r.num.toNat e 0 0 true
    x1.setTileQueue (cmdStq r.word) (tqFill (x1.tileQueue (cmdStq r.word)) e r.num h)
  else x1

/-- Core cycles between two times at the clock of the die. -/
def State.cyclesIn (s : State) (d t0 t1 : Nat) : Nat := (t1 - t0) * (s.die d).mhz / 256000

/-- Core cycles that a tidy core has counted up to now (mcycle, Table 23 of ch.05). -/
def State.tcCycle (s : State) (d c : Nat) : BitVec 64 :=
  let t := (s.core d c).tc
  t.mcycle + BitVec.ofNat 64 (s.cyclesIn d t.cycAt s.time)

/-- Ticks times MHz since the busy cycles of engine e were last counted, while a command is in execution (R99, R127). -/
def State.busyGain (s : State) (d c e : Nat) : Nat :=
  let q := (s.core d c).q e
  if q.run.isEmpty then 0 else (s.time - q.busySince) * (s.die d).mhz

/-- The busy cycles of engine e counted up to now: done whenever a command leaves and whenever the clock changes (R99, R127). -/
def State.addBusy (s : State) (d c e : Nat) : State :=
  let n := s.busyGain d c e
  if n = 0 then s
  else s.modCore d c (fun x => match e with
    | 0 => { x with mx := { x.mx with busyCycles := x.mx.busyCycles + n }, q0 := { x.q0 with busySince := s.time } }
    | 1 => { x with vx := { x.vx with busyCycles := x.vx.busyCycles + n }, q1 := { x.q1 with busySince := s.time } }
    | _ => x)

/-- When the last command in execution has left, the engine is idle from now on (R95, R124). -/
def State.noteIdle (s : State) (d c e : Nat) : State :=
  if ((s.core d c).q e).run.isEmpty then
    s.modCore d c (fun x => match e with
      | 0 => { x with mx := { x.mx with lastCmd := s.time } }
      | 1 => { x with vx := { x.vx with lastCmd := s.time } }
      | _ => x)
  else s

/-- Statuses of commands that software caused to be refused: descriptor, token and opcode refusals (site 0x17 of Table 1 of
ch.15). Address refusals are logged where they are met (R34). -/
def softStatus (st : Nat) : Bool := (decide (1 ≤ st) && decide (st ≤ 6)) || st == stOpcode || st == stTqShort

/-- R149, R151: a command leaves execution once its record is written. Flags, counter and handle, interrupt; a status that is not OK,
and HALT, halt the queue. -/
def State.leave (s : State) (d c e : Nat) (r : Run) : State :=
  let s1 := s.addBusy d c e
  let s2 := s1.latchFrom (s1.modCore d c (fun x => ((x.orFlags e r).signal e r).modQ e (fun q =>
    { q with run := q.run.filter (fun t => t.num != r.num), done := q.done + 1 }))) d c
  let s2b := (s2.noteIdle d c e).act d c
  let s3 := if softStatus r.status.toNat then s2b.raise (softEvent d c r.status.toNat r.num.toNat) else s2b
  if r.status ≠ 0 then s3.haltQueue d c e (haltOf r.status.toNat) r.status.toNat (cmdOp r.word)
  else if cmdOp r.word = 0x07 then s3.haltQueue d c e .req 0 0x07
  else if cmdIrq r.word then s3.queueIrq d c e
  else s3

/-- A command in execution may complete now: its work is done, no answer is outstanding, and it is the oldest where its
engine completes in issue order (Table 1 of ch.05) or where it is MV.FENCE (Table 19). -/
def mayComplete (q : QueueSt) (e : Nat) (r : Run) : Bool :=
  !r.busy && r.awaits.isEmpty && r.todo.isEmpty
  && ((e == 2 && cmdOp r.word != 0x44) || (match q.run with | o :: _ => o.num == r.num | [] => false))

/-- The command `num` of queue e in execution. -/
def CoreSt.findRun (x : CoreSt) (e : Nat) (num : BitVec 64) : Option Run := (x.q e).run.find? (fun r => r.num == num)

/-- Q_STATUS.STATE, WKIND and WSEL (Table 6 of ch.05): read from what the queue holds. -/
def State.queueState (s : State) (d c e : Nat) : Nat × Nat × Nat :=
  let x := s.core d c
  let q := x.q e
  match q.halt with
  | some .cmd => (4, 0, 0)
  | some .fault => (5, 0, 0)
  | some .sync => (6, 0, 0)
  | some .req => (7, 0, 0)
  | none =>
    if !q.enable then (0, 0, 0)
    else match q.acc with
      | [] => (if q.run.isEmpty then 1 else 2, 0, 0)
      | k :: _ => match s.waitOf d c e k.word with
        | .on kind sel => (3, kind, sel)
        | .no => (2, 0, 0)

end Sys2Proof.Machine
end

