-- ==== Sys2Proof/Machine/Operands.lean ====
section
/-! DEFINITION. Number formats (ch.02) and the operand forms of the engines: values, encodings, format codes, operand
blocks (Table 15 of ch.05), tensor descriptors (Table 1 of ch.04) and transfer descriptors (Table 20 of ch.05). -/

namespace Sys2Proof.Machine

/-! ### Values and formats -/

/-- An exact value: NaN, an infinity, or (-1)^neg · m · 2^e. -/
inductive Fp where
  | nan
  | inf (neg : Bool)
  | fin (neg : Bool) (m : Nat) (e : Int)
deriving DecidableEq, Repr

/-- How a format uses its top exponent (Table 1 of ch.02). -/
inductive FpKind where
  | ieee | e4m3 | finite
deriving DecidableEq, Repr

/-- A floating format: exponent bits, mantissa bits, bias (Table 1 of ch.02). -/
structure FpFmt where
  eb : Nat
  mb : Nat
  bias : Int
  kind : FpKind
deriving DecidableEq, Repr

def fp32 : FpFmt := { eb := 8, mb := 23, bias := 127, kind := .ieee }
def fp16 : FpFmt := { eb := 5, mb := 10, bias := 15, kind := .ieee }
def bf16 : FpFmt := { eb := 8, mb := 7, bias := 127, kind := .ieee }
def e4m3 : FpFmt := { eb := 4, mb := 3, bias := 7, kind := .e4m3 }
def e5m2 : FpFmt := { eb := 5, mb := 2, bias := 15, kind := .ieee }
def e3m2 : FpFmt := { eb := 3, mb := 2, bias := 3, kind := .finite }
def e2m3 : FpFmt := { eb := 2, mb := 3, bias := 1, kind := .finite }
def e2m1 : FpFmt := { eb := 2, mb := 1, bias := 1, kind := .finite }

/-- The value of a code (Table 1 of ch.02); subnormals count in full (R39). -/
def fpDecode (f : FpFmt) (code : Nat) : Fp :=
  let m := code % 2 ^ f.mb
  let x := (code >>> f.mb) % 2 ^ f.eb
  let neg := code.testBit (f.eb + f.mb)
  if f.kind = .ieee ∧ x = 2 ^ f.eb - 1 then (if m = 0 then .inf neg else .nan)
  else if f.kind = .e4m3 ∧ x = 2 ^ f.eb - 1 ∧ m = 2 ^ f.mb - 1 then .nan
  else if x = 0 then .fin neg m (1 - f.bias - f.mb)
  else .fin neg (2 ^ f.mb + m) (x - f.bias - f.mb)

/-- The canonical NaN of a format that has one (R40). -/
def canonNaN (f : FpFmt) : Nat :=
  match f.kind with
  | .ieee => (2 ^ f.eb - 1) * 2 ^ f.mb + 2 ^ (f.mb - 1)
  | _ => 2 ^ (f.eb + f.mb) - 1

/-- The largest finite value as grid count and exponent (Table 1 of ch.02). -/
def maxFinite (f : FpFmt) : Nat × Int :=
  match f.kind with
  | .ieee => (2 ^ (f.mb + 1) - 1, (2 ^ f.eb - 2 : Int) - f.bias - f.mb)
  | .e4m3 => (2 ^ (f.mb + 1) - 2, (2 ^ f.eb - 1 : Int) - f.bias - f.mb)
  | .finite => (2 ^ (f.mb + 1) - 1, (2 ^ f.eb - 1 : Int) - f.bias - f.mb)

/-- The code of the largest finite value, sign bit apart. -/
def maxCode (f : FpFmt) : Nat :=
  match f.kind with
  | .ieee => (2 ^ f.eb - 1) * 2 ^ f.mb - 1
  | .e4m3 => 2 ^ (f.eb + f.mb) - 2
  | .finite => 2 ^ (f.eb + f.mb) - 1

/-- n · 2^e over d as a fraction of naturals. -/
def scale2 (n d : Nat) (e : Int) : Nat × Nat :=
  if 0 ≤ e then (n * 2 ^ e.toNat, d) else (n, d * 2 ^ (-e).toNat)

/-- Whether n/d · 2^e exceeds q · 2^g. -/
def magGt (n d : Nat) (e : Int) (q : Nat) (g : Int) : Bool :=
  let p := scale2 n d (e - g)
  decide (q * p.2 < p.1)

/-- floor_log2 of n/d · 2^e, for n and d not zero. -/
def floorLog2 (n d : Nat) (e : Int) : Int :=
  let k : Int := (n.log2 : Int) - d.log2
  let p := scale2 n d (-k)
  (if p.2 ≤ p.1 then k else k - 1) + e

/-- Rounding of one conversion (R49): to nearest even, or stochastic with rand16 (R50). -/
inductive Rnd where
  | rn
  | sr (rand16 : Nat)
deriving DecidableEq, Repr

/-- A fraction p/q rounded to an integer, and whether it was rounded (R49, R50). -/
def roundInt (r : Rnd) (p q : Nat) : Nat × Bool :=
  let lo := p / q
  let rem := p % q
  let up := match r with
    | .rn => decide (q < 2 * rem) || (decide (2 * rem = q) && lo % 2 == 1)
    | .sr x => decide (65536 ≤ rem * 65536 / q + x)
  (if up then lo + 1 else lo, rem != 0)

/-- n/d · 2^e rounded to the grid of a format without its upper limit: grid count, grid exponent, inexact. -/
def roundGrid (f : FpFmt) (r : Rnd) (n d : Nat) (e : Int) : Nat × Int × Bool :=
  let emin := 1 - f.bias
  if n = 0 then (0, emin - f.mb, false)
  else
    let g := max (floorLog2 n d e) emin - f.mb
    let p := scale2 n d (e - g)
    let x := roundInt r p.1 p.2
    (x.1, g, x.2)

/-- The code of q · 2^g, a grid value within the format, sign bit apart. -/
def gridCode (f : FpFmt) (q : Nat) (g : Int) : Nat :=
  if q < 2 ^ f.mb then q
  else if q = 2 ^ (f.mb + 1) then (g + f.mb + 1 + f.bias).toNat * 2 ^ f.mb
  else (g + f.mb + f.bias).toNat * 2 ^ f.mb + (q - 2 ^ f.mb)

/-- The sign bit of a code. -/
def signBit (f : FpFmt) (neg : Bool) : Nat := if neg then 2 ^ (f.eb + f.mb) else 0

/-! ### Exact arithmetic on values -/

/-- The signed integer m over the exponent `g`, for `g` not above the value's own exponent. -/
def fpInt (neg : Bool) (m : Nat) (e g : Int) : Int :=
  let x : Int := (m * 2 ^ (e - g).toNat : Nat)
  if neg then -x else x

/-- x + y, exact; the flag is INVALID (Inf - Inf). The sign of an exact zero is that of IEEE 754-2019 under RN (R41). -/
def fpAdd (x y : Fp) : Fp × Bool :=
  match x, y with
  | .nan, _ => (.nan, false)
  | _, .nan => (.nan, false)
  | .inf a, .inf b => if a = b then (.inf a, false) else (.nan, true)
  | .inf a, _ => (.inf a, false)
  | _, .inf b => (.inf b, false)
  | .fin a m e, .fin b n k =>
    let g := min e k
    let z := fpInt a m e g + fpInt b n k g
    if z = 0 then (.fin (a && b) 0 0, false) else (.fin (decide (z < 0)) z.natAbs g, false)

/-- A zero as +0, any other value as it is (R41). -/
def plusZero (x : Fp) : Fp := match x with | .fin _ 0 e => .fin false 0 e | x => x

/-- -x. -/
def fpNeg : Fp → Fp
  | .nan => .nan
  | .inf a => .inf (!a)
  | .fin a m e => .fin (!a) m e

/-- x · y, exact; the flag is INVALID (0 × Inf). -/
def fpMul (x y : Fp) : Fp × Bool :=
  match x, y with
  | .nan, _ => (.nan, false)
  | _, .nan => (.nan, false)
  | .inf a, .inf b => (.inf (a != b), false)
  | .inf a, .fin b n _ => if n = 0 then (.nan, true) else (.inf (a != b), false)
  | .fin a m _, .inf b => if m = 0 then (.nan, true) else (.inf (a != b), false)
  | .fin a m e, .fin b n k => (.fin (a != b) (m * n) (e + k), false)

/-- x < y; false where either is NaN. -/
def fpLt (x y : Fp) : Bool :=
  match x, y with
  | .nan, _ => false
  | _, .nan => false
  | .inf a, .inf b => a && !b
  | .inf a, _ => a
  | _, .inf b => !b
  | .fin a m e, .fin b n k => let g := min e k; decide (fpInt a m e g < fpInt b n k g)

/-- x = y as numbers; false where either is NaN. -/
def fpEq (x y : Fp) : Bool :=
  match x, y with
  | .nan, _ => false
  | _, .nan => false
  | .inf a, .inf b => a == b
  | .inf _, _ => false
  | _, .inf _ => false
  | .fin a m e, .fin b n k => let g := min e k; decide (fpInt a m e g = fpInt b n k g)

/-- max (`hi`) or min of two values: NaN if either is NaN, and the first for +0 against -0 (Table 8 of ch.03, R156). -/
def fpMinMax (hi : Bool) (x y : Fp) : Fp :=
  match x, y with
  | .nan, _ => .nan
  | _, .nan => .nan
  | x, y => if (if hi then fpLt x y else fpLt y x) then y else x

/-- x · 2^k. -/
def fpShift (x : Fp) (k : Int) : Fp :=
  match x with
  | .fin a m e => .fin a m (e + k)
  | x => x

/-- An integer as a value. -/
def fpOfInt (z : Int) : Fp := .fin (decide (z < 0)) z.natAbs 0

/-- A value that is zero. -/
def fpIsZero : Fp → Bool
  | .fin _ m _ => m == 0
  | _ => false

/-- R38: a scale is positive, finite and normal. -/
def scaleOk (code : Nat) : Bool :=
  code < 2 ^ 31 && decide (0 < code >>> 23) && decide (code >>> 23 < 255)

/-! ### Format codes (Table 2 of ch.04) -/

/-- What a format code names. -/
inductive Elem where
  | fp (f : FpFmt)          -- FP32, BF16, FP16
  | fp8 (f : FpFmt)         -- per-tensor scale
  | int (w : Nat)           -- INT8, INT32, INT64
  | mx (f : FpFmt)          -- MX element with block scales
  | w96
deriving DecidableEq, Repr

/-- The format of a code; none where it is reserved. -/
def elemOf : Nat → Option Elem
  | 0x01 => some (.fp fp32)
  | 0x02 => some (.fp bf16)
  | 0x03 => some (.fp fp16)
  | 0x04 => some (.fp8 e4m3)
  | 0x05 => some (.fp8 e5m2)
  | 0x06 => some (.int 8)
  | 0x07 => some (.int 32)
  | 0x08 => some (.int 64)
  | 0x09 => some .w96
  | 0x10 => some (.mx e4m3)
  | 0x11 => some (.mx e5m2)
  | 0x12 => some (.mx e2m3)
  | 0x13 => some (.mx e3m2)
  | 0x14 => some (.mx e2m1)
  | _ => none

/-- Bits of one element. -/
def elemBits : Elem → Nat
  | .fp f => 1 + f.eb + f.mb
  | .fp8 f => 1 + f.eb + f.mb
  | .int w => w
  | .mx f => 1 + f.eb + f.mb
  | .w96 => 128

/-- Bytes that n elements of one row occupy, packed densely (R107). -/
def rowBytes (e : Elem) (n : Nat) : Nat := ceilDiv (n * elemBits e) 8

/-- The alignment of BASE and strides: the element size, and bytes for the packed formats (R107). -/
def elemAlign (e : Elem) : Nat := max 1 (elemBits e / 8)

/-- E0 meets the multiples of R107 for MXFP6 and MXFP4. -/
def packOk (e : Elem) (n : Nat) : Bool :=
  match elemBits e with
  | 6 => n % 4 == 0
  | 4 => n % 2 == 0
  | _ => true

/-- Bytes of local store of a core (R170). -/
def lsBytes : Nat := 0x800000

/-! ### Operand blocks (Table 15 of ch.05) -/

/-- The fields of an operand block. -/
structure Block where
  elem : Elem
  fmt : Nat
  nk : Bool
  scale : Nat
  e0 : Nat
  e1 : Nat
  e2 : Nat
  e3 : Nat
  s1 : Nat
  s2 : Nat
  s3 : Nat
  mstride : Nat
  wrap : Nat
  base : Nat
deriving DecidableEq, Repr

/-- An operand block decoded; none where it is empty, of another kind, or its format is reserved. -/
def blockOf (v : BitVec 512) : Option Block :=
  if bits v 502 500 ≠ 0 then none
  else match elemOf (bits v 511 504) with
    | none => none
    | some e => some
      { elem := e, fmt := bits v 511 504, nk := bit v 503,
        scale := match e with | .mx _ => bits v 470 448 | _ => bits v 479 448,
        e0 := bits v 447 416, e1 := bits v 415 384, e2 := bits v 383 368, e3 := bits v 367 352,
        s1 := bits v 351 320, s2 := bits v 319 288, s3 := bits v 287 256, mstride := bits v 255 224,
        wrap := bits v 223 212, base := bits v 22 0 }

/-- A scale array moved as far as its elements, from `old` to `new` (R154). Below 0 it lies outside local store, as it does
at the end of it: both are refused by the checks of the block or descriptor. -/
def moveScale (scale old new : Nat) : Nat := if scale + new < old then lsBytes else scale + new - old

/-- A block with its base replaced by a handle's first tile; MX scales move with it (R154). -/
def blockRebase (b : Block) (base : Nat) : Block :=
  match b.elem with
  | .mx _ => { b with base := base, scale := moveScale b.scale b.base base }
  | _ => { b with base := base }

/-- Byte offset of what lies `off` bytes after BASE: the offset modulo WRAP·4,096 where WRAP is not zero (R154). -/
def blockAt (b : Block) (off : Nat) : Nat := b.base + (if b.wrap = 0 then off else off % (b.wrap * 4096))

/-- Byte offset of row m of an operand: BASE + m·S1 in the wrap ring (R154). -/
def blockRow (b : Block) (m : Nat) : Nat := blockAt b (m * b.s1)

/-- The row of the scale array that serves row m: n_w = WRAP·4,096 / S1 of them repeat in a wrap ring (R154). -/
def scaleRow (b : Block) (m : Nat) : Nat := if b.wrap = 0 then m else m % (b.wrap * 4096 / b.s1)

/-- Number of MX scales of a row of n elements. -/
def scaleCount (n : Nat) : Nat := ceilDiv n 32

/-- Byte offset of the first scale of row m, for scales in rows of `per` bytes (R154). -/
def blockScaleRow (b : Block) (per m : Nat) : Nat :=
  b.scale + scaleRow b m * per

/-- Alignment and wrap rules of R107 and R154 that every block obeys, whatever its role. -/
def blockAligned (b : Block) : Bool :=
  let a := elemAlign b.elem
  b.base % a == 0 && b.s1 % a == 0 && b.s2 % a == 0 && b.s3 % a == 0 && b.mstride % a == 0 && packOk b.elem b.e0
  && (b.wrap == 0 || (b.s1 != 0 && (b.wrap * 4096) % b.s1 == 0 && decide (b.base + b.wrap * 4096 ≤ lsBytes)))
  && (match b.elem with | .fp8 _ => scaleOk b.scale | _ => true)

/-- The rows 0 .. rows-1 of n elements lie inside local store, MX scales included (R154). -/
def blockFits (b : Block) (rows n : Nat) : Bool :=
  let kept := if b.wrap = 0 then rows else b.wrap * 4096 / max 1 b.s1
  let sc := match b.elem with
    | .mx _ => b.scale + kept * scaleCount n
    | _ => 0
  decide (b.base + (min rows kept - 1) * b.s1 + rowBytes b.elem n ≤ lsBytes) && decide (sc ≤ lsBytes)

/-! ### Tensor descriptors (Table 1 of ch.04) -/

/-- The fields of a tensor descriptor. -/
structure Desc where
  elem : Elem
  fmt : Nat
  dims : Nat
  pack : Bool
  scale : Nat
  e0 : Nat
  e1 : Nat
  e2 : Nat
  e3 : Nat
  s1 : Nat
  s2 : Nat
  s3 : Nat
  base : Nat
deriving DecidableEq, Repr

/-- Rows of a descriptor: all index triples of dimensions 1 to 3. -/
def descRows (d : Desc) : Nat := d.e1 * d.e2 * d.e3

/-- Byte offset of row r, dimension 1 fastest (R109). -/
def descRow (d : Desc) (r : Nat) : Nat :=
  d.base + (r % d.e1) * d.s1 + (r / d.e1 % d.e2) * d.s2 + (r / d.e1 / d.e2) * d.s3

/-- A descriptor word with its reserved bits clear (R10): bits [242:224] and [31:23], and of SCALE what its format does not use
(Table 1 of ch.04: all 32 bits for per-tensor FP8, 23 for MX, none for the others). -/
def descClean (v : BitVec 256) : BitVec 256 :=
  let v := putBits (putBits v 242 224 0) 31 23 0
  match elemOf (bits v 255 248) with
  | some (.fp8 _) => v
  | some (.mx _) => putBits v 223 215 0
  | _ => putBits v 223 192 0

/-- A descriptor, its reserved bits clear, decoded and checked by R107 and R38; none is a descriptor error. Extents beyond DIMS
count as 1 (Table 1 of ch.04; notes/assumptions/86.md). -/
def descOf (v : BitVec 256) : Option Desc :=
  let dims := bits v 247 244
  match elemOf (bits v 255 248) with
  | none => none
  | some .w96 => none
  | some e =>
    let d : Desc :=
      { elem := e, fmt := bits v 255 248, dims := dims, pack := bit v 243, scale := bits v 223 192,
        e0 := bits v 191 176, e1 := if dims < 2 then 1 else bits v 175 160, e2 := if dims < 3 then 1 else bits v 159 144,
        e3 := if dims < 4 then 1 else bits v 143 128, s1 := bits v 127 96, s2 := bits v 95 64, s3 := bits v 63 32,
        base := bits v 22 0 }
    let a := elemAlign e
    let last := d.base + (d.e1 - 1) * d.s1 + (d.e2 - 1) * d.s2 + (d.e3 - 1) * d.s3 + rowBytes e d.e0
    let sc := match e with | .mx _ => d.scale + descRows d * scaleCount d.e0 | _ => 0
    if dims = 0 ∨ 4 < dims then none
    else if d.e0 = 0 ∨ d.e1 = 0 ∨ d.e2 = 0 ∨ d.e3 = 0 then none
    else if d.base % a ≠ 0 ∨ d.s1 % a ≠ 0 ∨ d.s2 % a ≠ 0 ∨ d.s3 % a ≠ 0 then none
    else if !packOk e d.e0 then none
    else if lsBytes < last ∨ lsBytes < sc then none
    else match e with
      | .fp8 _ => if scaleOk d.scale then some d else none
      | _ => some d

/-- A descriptor word, its reserved bits clear, with BASE replaced and MX scales moved by the same amount (R154). -/
def descRebase (v : BitVec 256) (base : Nat) : BitVec 256 :=
  let v' := putBits v 22 0 base
  match elemOf (bits v 255 248) with
  | some (.mx _) => putBits v' 223 192 (moveScale (bits v 223 192) (bits v 22 0) base)
  | _ => v'

/-! ### Elements in bytes -/

/-- Element i of a row given as bytes: bits b·i + b - 1 down to b·i of the little-endian bit string (R107). -/
def elemCode (e : Elem) (row : List Byte) (i : Nat) : Nat :=
  let b := elemBits e
  let lo := b * i
  (ofBytes ((row.drop (lo / 8)).take (b / 8 + 2)) >>> (lo % 8)) % 2 ^ b

/-- The value of an element code under its scale: s·q per-tensor, 2^(E - 127)·q for MX, q otherwise (R37, R38). -/
def elemVal (e : Elem) (scale : Nat) (code : Nat) : Fp :=
  match e with
  | .fp f => fpDecode f code
  | .fp8 f => (fpMul (fpDecode fp32 scale) (fpDecode f code)).1
  | .int w => fpOfInt (signed w code)
  | .mx f => if scale = 0xFF then .nan else fpShift (fpDecode f code) ((scale : Int) - 127)
  | .w96 => .nan

end Sys2Proof.Machine
end

