-- ==== Sys2Proof/Machine/Flags.lean ====
section
/-! DEFINITION. Conversions with the flags they set (R48 to R53), the stochastic-rounding generators (R50, R51), and the
flag words of the matrix and vector engines (Table 13 of ch.03, Table 4 of ch.04). -/

namespace Sys2Proof.Machine

/-! Flag bits; 0 to 6 have one place in MX_FLAGS and VX_FLAGS. -/
def fInexact : Nat := 0x1
def fOverflow : Nat := 0x2
def fSaturate : Nat := 0x4
def fInvalid : Nat := 0x8
def fNanOut : Nat := 0x10
def fInfOut : Nat := 0x20
def fScaleNan : Nat := 0x40
/-- VX_FLAGS only. -/
def fUnderflow : Nat := 0x80
def fDivZero : Nat := 0x100
def fIntOvf : Nat := 0x200
/-- MX_FLAGS only. -/
def fTrunc : Nat := 0x80
def fTermsSat : Nat := 0x100
def fWindowOvf : Nat := 0x200

/-- A converted element: its code and the flags it sets. -/
structure Conv where
  code : Nat
  flags : Nat
deriving DecidableEq, Repr

/-- A finite value (-1)^neg · n/d · 2^e converted to a floating format (R41, R48 to R50, R52). -/
def cvtFin (f : FpFmt) (sat : Bool) (r : Rnd) (neg : Bool) (n d : Nat) (e : Int) : Conv :=
  let s := signBit f neg
  if n = 0 then { code := s, flags := 0 }
  else
    let g := roundGrid f r n d e
    let q := g.1
    let inex := if g.2.2 then fInexact else 0
    let mx := maxFinite f
    if magGt q 1 g.2.1 mx.1 mx.2 then
      if sat || f.kind = .finite then { code := s + maxCode f, flags := inex ||| fSaturate }
      else if f.kind = .e4m3 then { code := canonNaN f, flags := inex ||| fOverflow ||| fNanOut }
      else { code := s + (2 ^ f.eb - 1) * 2 ^ f.mb, flags := inex ||| fOverflow ||| fInfOut }
    else
      let small := q < 2 ^ f.mb
      { code := s + gridCode f q g.2.1, flags := inex ||| (if small && g.2.2 then fUnderflow else 0) }

/-- A value over 1, or over the scale `d`, converted to a floating format (R40, R52). -/
def cvtFp (f : FpFmt) (sat : Bool) (r : Rnd) (x : Fp) (d : Fp := .fin false 1 0) : Conv :=
  match x, d with
  | .fin a m e, .fin _ n k => cvtFin f sat r a m n (e - k)
  | .fin a m e, _ => cvtFin f sat r a m 1 e
  | .nan, _ => { code := canonNaN f, flags := fNanOut }
  | .inf a, _ =>
    if f.kind = .ieee then { code := signBit f a + (2 ^ f.eb - 1) * 2 ^ f.mb, flags := fInfOut }
    else if sat then { code := signBit f a + maxCode f, flags := fSaturate }
    else { code := canonNaN f, flags := fInvalid ||| fNanOut }

/-- A value converted to a two's-complement integer of w bits (R52). -/
def cvtInt (w : Nat) (r : Rnd) (x : Fp) : Conv :=
  let top : Int := 2 ^ (w - 1) - 1
  let bottom : Int := -(2 ^ (w - 1) : Int)
  match x with
  | .nan => { code := 0, flags := fInvalid }
  | .inf a => { code := unsigned w (if a then bottom else top), flags := fSaturate }
  | .fin a m e =>
    let p := scale2 m 1 e
    let q := roundInt r p.1 p.2
    let z : Int := if a then -(q.1 : Int) else q.1
    if top < z then { code := unsigned w top, flags := fSaturate }
    else if z < bottom then { code := unsigned w bottom, flags := fSaturate }
    else { code := unsigned w z, flags := if q.2 then fInexact else 0 }

/-- A value converted to an element that is not an MX element; `scale` is the per-tensor scale code. -/
def cvtElem (e : Elem) (sat : Bool) (r : Rnd) (scale : Nat) (x : Fp) : Conv :=
  match e with
  | .fp f => cvtFp f sat r x
  | .fp8 f => cvtFp f sat r x (fpDecode fp32 scale)
  | .int w => cvtInt w r x
  | .mx f => cvtFp f sat r x
  | .w96 => { code := 0, flags := 0 }

/-- The magnitude of a finite value is at most q · 2^g. -/
def fpMagLe (x : Fp) (q : Nat) (g : Int) : Bool :=
  match x with
  | .fin _ m e => !magGt m 1 e q g
  | _ => false

/-- Every value is finite. -/
def allFinite (xs : List Fp) : Bool := xs.all (fun x => match x with | .fin _ _ _ => true | _ => false)

/-- The smallest E8M0 scale code X in 0 .. 254 for which every magnitude is at most Fmax · 2^(X - 127) (R53): the search
starts at the code `x` and has `fuel` codes left. -/
def scaleSearch (f : FpFmt) (xs : List Fp) : Nat → Nat → Option Nat
  | 0, _ => none
  | fuel + 1, x =>
    let mx := maxFinite f
    if xs.all (fun v => fpMagLe v mx.1 (mx.2 + (x : Int) - 127)) then some x else scaleSearch f xs fuel (x + 1)

/-- The block scale of R53 for a block of values; none where the block is NaN. -/
def mxScale (f : FpFmt) (xs : List Fp) : Option Nat :=
  if allFinite xs then scaleSearch f xs 255 0 else none

/-- The element code of a block whose scale is 0xFF: free (Config.nanElement), within the width of the format. -/
def nanElem (f : FpFmt) (i : Nat) (x : Fp) : Nat :=
  Config.nanElement (f.eb * 8 + f.mb) i (match x with | .fin a _ _ => a | .inf a => a | .nan => false)
    % 2 ^ (1 + f.eb + f.mb)

/-- An MX block: its scale code, its element codes, its flags (R53). Each value comes with its rounding. -/
def cvtBlock (f : FpFmt) (xs : List (Fp × Rnd)) : Nat × List Nat × Nat :=
  let vs := xs.map Prod.fst
  match mxScale f vs with
  | none => (0xFF, (xs.zipIdx).map (fun p => nanElem f p.2 p.1.1),
      if allFinite vs then fInvalid ||| fNanOut else fNanOut)
  | some x =>
    if vs.all fpIsZero then (0, xs.map (fun _ => 0), 0)
    else
      let cs := xs.map (fun p => cvtFp f true p.2 (fpShift p.1 (127 - (x : Int))))
      (x, cs.map Conv.code, cs.foldl (fun a c => a ||| c.flags) 0)

/-- One step of the 32-bit xorshift generator of R51. -/
def xorshift (x : BitVec 32) : BitVec 32 :=
  let a := x ^^^ (x <<< 13)
  let b := a ^^^ (a >>> 17)
  b ^^^ (b <<< 5)

/-- The next generator value and its rounding: RN leaves the generator alone (R51). -/
def drawRnd (sr : Bool) (gen : BitVec 32) : Rnd × BitVec 32 :=
  if sr then let g := xorshift gen; (.sr (g.toNat % 65536), g) else (.rn, gen)

/-- Roundings for n elements converted in order. -/
def drawRnds (sr : Bool) : Nat → BitVec 32 → List Rnd × BitVec 32
  | 0, g => ([], g)
  | n + 1, g =>
    let a := drawRnd sr g
    let b := drawRnds sr n a.2
    (a.1 :: b.1, b.2)

/-- Values with their roundings converted to one row of MX elements in blocks of 32: scales, codes, flags. -/
def cvtMxRow (f : FpFmt) : Nat → List (Fp × Rnd) → List Nat × List Nat × Nat
  | 0, _ => ([], [], 0)
  | n + 1, xs =>
    if xs.isEmpty then ([], [], 0)
    else
      let b := cvtBlock f (xs.take 32)
      let rest := cvtMxRow f n (xs.drop 32)
      (b.1 :: rest.1, b.2.1 ++ rest.2.1, b.2.2 ||| rest.2.2)

/-- Element codes packed into the bytes of one row (R107). -/
def packRow (e : Elem) (codes : List Nat) : List Byte :=
  let b := elemBits e
  let n := (codes.zipIdx).foldl (fun a p => a + (p.1 % 2 ^ b) * 2 ^ (b * p.2)) 0
  toBytes (rowBytes e codes.length) n

/-- The saturation choice of a command: 0 default, 1 SAT, 2 IEEE (R52, R153); `fp8Sat` is CMP.FP8_SAT. -/
def satOf (fp8Sat : Bool) (e : Elem) (sel : Nat) : Bool :=
  match sel with
  | 1 => true
  | 2 => false
  | _ => match e with | .fp8 _ => fp8Sat | _ => false

/-- A row of output: bytes, scale bytes (MX only), flags. -/
def cvtRow (e : Elem) (sat : Bool) (scale : Nat) (xs : List (Fp × Rnd)) : List Byte × List Byte × Nat :=
  match e with
  | .mx f =>
    let r := cvtMxRow f xs.length xs
    (packRow e r.2.1, r.1.map (fun s => BitVec.ofNat 8 s), r.2.2)
  | _ =>
    let cs := xs.map (fun p => cvtElem e sat p.2 scale p.1)
    (packRow e (cs.map Conv.code), [], cs.foldl (fun a c => a ||| c.flags) 0)

end Sys2Proof.Machine
end

