-- ==== Sys2Proof/Machine/Wide.lean ====
section
/-! DEFINITION. The W96 wide partial and the accumulation window (R42 to R45), and accumulator entries (R71, R73). -/

namespace Sys2Proof.Machine

/-- A window or W96 value: CLASS, signed MANT, signed WEXP, TERMS and the two sticky flags. -/
structure Win where
  cls : Nat := 0
  mant : Int := 0
  wexp : Int := -128
  terms : Nat := 0
  trunc : Bool := false
  invalid : Bool := false
deriving DecidableEq, Repr

/-- The reference exponent t seen from the window: floor_div(t - 88, 4) (R45). -/
def winRef (t : Int) : Int := (t - 88) / 4

/-- floor_log2 |mant · 2^(4·w)|, none for zero. -/
def winLead (mant w : Int) : Option Int :=
  if mant = 0 then none else some ((mant.natAbs.log2 : Int) + 4 * w)

/-- A magnitude over a grid 2^k coarser, toward zero, and whether a bit was dropped. -/
def dropBits (z : Int) (k : Nat) : Int × Bool :=
  let q := z.natAbs / 2 ^ k
  (if z < 0 then -(q : Int) else q, z.natAbs % 2 ^ k != 0)

/-- The window at w' raised from w. -/
def winRaise (mant w w' : Int) : Int × Bool := dropBits mant (4 * (w' - w)).toNat

/-- A value m · 2^e put on the grid 2^(4·w). -/
def toGrid (neg : Bool) (m : Nat) (e w : Int) : Int × Bool :=
  if 4 * w ≤ e then (fpInt neg m e (4 * w), false) else dropBits (if neg then -(m : Int) else m) (4 * w - e).toNat

/-- The larger of a window exponent and the reference of a leading bit. -/
def winMax (w : Int) (t : Option Int) : Int :=
  match t with
  | none => w
  | some t => max w (winRef t)

/-- A non-finite window: MANT and WEXP are zero (R43). -/
def winClass (a : Win) (c : Nat) : Win := { a with cls := c, mant := 0, wexp := 0 }

/-- R45 for one finite product or partial m · 2^e on a finite window. The flag is WINDOW_OVF. With `int`, WEXP stays. -/
def foldFinite (int : Bool) (a : Win) (neg : Bool) (m : Nat) (e : Int) : Win × Bool :=
  let tp : Option Int := if m = 0 then none else some ((m.log2 : Int) + e)
  let ts := (winLead a.mant a.wexp).map (fun t => t - 2)
  let w1 := if int then max a.wexp 0 else winMax (winMax a.wexp tp) ts
  let x := winRaise a.mant a.wexp w1
  let y := toGrid neg m e w1
  let sum := x.1 + y.1
  let w2 := if int then w1 else winMax w1 ((winLead sum w1).map (fun t => t - 2))
  let z := winRaise sum w1 w2
  if 127 < w2 then
    let g := min (4 * a.wexp) e
    let exact := fpInt (decide (a.mant < 0)) a.mant.natAbs (4 * a.wexp) g + fpInt neg m e g
    if exact = 0 then ({ winClass a 3 with invalid := true }, true)
    else (winClass a (if exact < 0 then 2 else 1), true)
  else ({ a with mant := z.1, wexp := w2, trunc := a.trunc || x.2 || y.2 || z.2 }, false)

/-- A product or partial of any class folded by R43 and R45: the value, the TERMS and sticky flags it brings. The flag is
WINDOW_OVF. -/
def foldValue (int : Bool) (a : Win) (x : Fp) (terms : Nat) (trunc invalid : Bool) : Win × Bool :=
  let a := { a with terms := min 0xFFFF (a.terms + terms), trunc := a.trunc || trunc, invalid := a.invalid || invalid }
  match x with
  | .nan => (winClass a 3, false)
  | .inf n =>
    if a.cls = 3 then (winClass a 3, false)
    else if a.cls = (if n then 1 else 2) then ({ winClass a 3 with invalid := true }, false)
    else (winClass a (if n then 2 else 1), false)
  | .fin neg m e => if a.cls ≠ 0 then (a, false) else foldFinite int a neg m e

/-- Folding the value turned a window that was no NaN into one, though the value is none: Inf - Inf, or a sum past the window
whose exact value is zero (R43, R45). -/
def foldInvalid (a r : Win) (x : Fp) : Bool := r.cls == 3 && a.cls != 3 && x != .nan

/-- The exact value of a window. -/
def winVal (a : Win) : Fp :=
  if a.cls = 0 then .fin (decide (a.mant < 0)) a.mant.natAbs (4 * a.wexp)
  else if a.cls = 1 then .inf false
  else if a.cls = 2 then .inf true
  else .nan

/-- A value converted into W96, exactly, with TERMS 1 (R43). -/
def winOfFp (int : Bool) (x : Fp) : Win :=
  match x with
  | .nan => { cls := 3, wexp := 0, terms := 1 }
  | .inf n => { cls := if n then 2 else 1, wexp := 0, terms := 1 }
  | .fin neg m e =>
    if int then { mant := (toGrid neg m e 0).1, wexp := 0, terms := 1 }
    else
      let w : Int := if m = 0 then -128 else max (-128) (winRef ((m.log2 : Int) + e))
      { mant := (toGrid neg m e w).1, wexp := w, terms := 1 }

/-- RES: the residue of MANT modulo 127 (R71, R97; MANT taken as the signed number it stands for, DEDUCED). -/
def residue (mant : Int) : BitVec 7 := BitVec.ofNat 7 (mant % 127).toNat

/-- The window an accumulator entry holds. -/
def entryWin (e : AccEntry) : Win :=
  { cls := e.cls.toNat, mant := e.mant.toInt, wexp := e.wexp.toInt, terms := e.terms.toNat, trunc := e.trunc,
    invalid := e.invalid }

/-- An accumulator entry for a window. -/
def winEntry (fam : Fam) (a : Win) : AccEntry :=
  { mant := BitVec.ofInt 96 a.mant, res := residue a.mant, wexp := BitVec.ofInt 8 a.wexp, terms := BitVec.ofNat 16 a.terms,
    cls := BitVec.ofNat 4 a.cls, trunc := a.trunc, invalid := a.invalid, fam := fam }

/-- The stored entry passes the check of R97. -/
def entryOk (e : AccEntry) : Bool := e.res == residue e.mant.toInt

/-- The W96 word of a window (Table 2 of ch.02). -/
def winWord (a : Win) : BitVec 128 :=
  BitVec.ofNat 128 (field 112 a.terms + field 108 a.cls + field 107 a.trunc.toNat + field 106 a.invalid.toNat
    + field 96 (unsigned 8 a.wexp) + unsigned 96 a.mant)

/-- The window of a W96 word; a reserved CLASS counts as NaN with INVALID (R43). -/
def wordWin (w : BitVec 128) : Win :=
  let c := bits w 111 108
  let t := bits w 127 112
  let tr := bit w 107
  let inv := bit w 106
  if c = 0 then { cls := 0, mant := signed 96 (bits w 95 0), wexp := signed 8 (bits w 103 96), terms := t, trunc := tr, invalid := inv }
  else { cls := min c 3, mant := 0, wexp := 0, terms := t, trunc := tr, invalid := inv || decide (3 < c) }

/-- A W96 partial merged into a window (R43, R45). -/
def mergeWin (int : Bool) (a b : Win) : Win × Bool := foldValue int a (winVal b) b.terms b.trunc b.invalid

end Sys2Proof.Machine
end

