-- ==== Sys2Proof/Machine/Engine.lean ====
section
/-! DEFINITION. What the matrix and vector engines share while a command runs: reading input tiles with verification (R98,
R125, R144, R183), gathering output bytes into whole tiles (R83, R125, R181), and the end of an aborted command (R101,
R128). -/

namespace Sys2Proof.Machine

/-- Why a command is aborted: a tile that failed verification (its offset and reason), a stale handle, a refusal with a
status, or an engine check with the cause and the fields of the fault record. -/
inductive Fail where
  | tile (off reason : Nat)
  | token
  | status (n : Nat)
  | check (cause : Nat) (array row col : Nat)
deriving DecidableEq, Repr

/-- An engine at work on one command. -/
structure Work where
  s : State
  d : Nat
  c : Nat
  /-- sequence number of the command (R131) -/
  seq : Nat
  level : Nat
  /-- tiles of the handle popped with USE: first, count, TOKEN (R144) -/
  use : Option (Nat × Nat × Nat) := none
  seen : List Nat := []
  flags : Nat := 0
  gath : List (Nat × Nat × List (Nat × Byte)) := []
  tiles : List Nat := []
  /-- local-store offsets that the command has written output to, latest first -/
  wrote : List Nat := []
  fail : Option Fail := none

/-- The work stops with a failure; the first one stands. -/
def Work.stop (w : Work) (f : Fail) : Work := if w.fail.isSome then w else { w with fail := some f }

/-- Flags set. -/
def Work.orF (w : Work) (f : Nat) : Work := { w with flags := w.flags ||| f }

/-- The tile is one of a handle popped with USE and its SEQ differs from TOKEN (R144). -/
def Work.stale (w : Work) (t : Nat) : Bool :=
  match w.use with
  | some (lo, n, token) =>
    decide (lo ≤ t) && decide (t < lo + n) && bits (w.s.tile w.d (lsAddr w.c (4096 * t))).tag 63 48 != token
  | none => false

/-- First use of a tile of the core's local store by the command: verified once (R98), and its SEQ compared with TOKEN
where a handle popped with USE names it (R144). `off` is a byte offset. -/
def Work.useTile (w : Work) (off : Nat) : Work :=
  let t := off / 4096
  if w.fail.isSome || w.seen.contains t then w
  else
    let a := lsAddr w.c (4096 * t)
    match w.s.verify w.d a w.level with
    | some r => w.stop (.tile (4096 * t) r)
    | none => if w.stale t then w.stop .token else { w with seen := t :: w.seen }

/-- Every tile that n bytes from `off` touch is used. -/
def Work.useTiles (w : Work) (off n : Nat) : Work := (tilesOf off n).foldl (fun w t => w.useTile t) w

/-- A byte as the command sees it: gathered output first, then local store. -/
def Work.byteAt (w : Work) (off : Nat) : Byte :=
  match w.gath.findSome? (fun g => if g.1 = off / 4096 then g.2.2.find? (fun b => b.1 == off % 4096) else none) with
  | some b => b.2
  | none => w.s.byte w.d (lsAddr w.c off)

/-- n bytes of input from `off`, after verification of their tiles. -/
def Work.read (w : Work) (off n : Nat) : List Byte × Work :=
  let w1 := w.useTiles off n
  ((List.range n).map (fun i => w1.byteAt (off + i)), w1)

/-- One output byte gathered. -/
def gatherByte (fmt : Nat) (g : List (Nat × Nat × List (Nat × Byte))) (off : Nat) (b : Byte) :
    List (Nat × Nat × List (Nat × Byte)) :=
  let t := off / 4096
  if g.any (fun x => x.1 == t) then
    g.map (fun x => if x.1 = t then (t, fmt, (off % 4096, b) :: x.2.2.filter (fun y => y.1 != off % 4096)) else x)
  else g ++ [(t, fmt, [(off % 4096, b)])]

/-- Output bytes gathered from `off` up, under a FORMAT code. -/
def Work.write (w : Work) (fmt off : Nat) (bs : List Byte) : Work :=
  if w.fail.isSome then w
  else { w with gath := (bs.zipIdx).foldl (fun g p => gatherByte fmt g (off + p.2) p.1) w.gath
                wrote := (List.range bs.length).foldl (fun l i => (off + i) :: l) w.wrote }

/-- Gathered output without the bytes at the offsets given. -/
def ungather (offs : List Nat) (g : List (Nat × Nat × List (Nat × Byte))) : List (Nat × Nat × List (Nat × Byte)) :=
  (g.map (fun x => (x.1, x.2.1, x.2.2.filter (fun b => !offs.contains (4096 * x.1 + b.1))))).filter (fun x => !x.2.2.isEmpty)

/-- Bytes of a tile whose words hold none of the gathered bytes' offsets: an uncorrectable word among them aborts (R181). -/
def Work.uncoveredBad (w : Work) (t : Nat) (bs : List (Nat × Byte)) : Bool :=
  (List.range 256).any (fun i => w.s.badIn w.d (lsAddr w.c (4096 * t + 16 * i)) 16
    && (List.range 16).any (fun j => !bs.any (fun b => b.1 == 16 * i + j)))

/-- One gathered tile written whole: merged by R181 where it is not wholly covered, its tag computed (R83, R180). At level 1 the tile
stays OPEN until the second reads of the command's inputs have passed (R189). -/
def Work.flushTile (w : Work) (g : Nat × Nat × List (Nat × Byte)) : Work :=
  if w.fail.isSome then w
  else
    let t := g.1
    let a := lsAddr w.c (4096 * t)
    let st := (w.s.tile w.d a).st
    let whole := decide (4096 ≤ g.2.2.length)
    let bad : Option Nat :=
      if whole then none
      else if tileKey w.d a ∈ w.s.badTags then some reasonTagEcc
      else match st with
        | .poison => some reasonPoison
        | .valid => w.s.verify w.d a w.level
        | _ => if w.uncoveredBad t g.2.2 then some reasonEcc else none
    match bad with
    | some r => w.stop (.tile (4096 * t) r)
    | none =>
      if !whole && st == .valid && !w.seen.contains t && w.stale t then w.stop .token
      else
        let old := w.s.bytes w.d a 4096
        let new := (old.zipIdx).map (fun p => match g.2.2.find? (fun b => b.1 == p.2) with | some b => b.2 | none => p.1)
        { w with s := w.s.putTile w.d a new (tagWord w.seq g.2.1 (crc32c new)) (if w.level = 1 then .open else .valid), tiles := w.tiles ++ [t] }

/-- Every gathered tile written. -/
def Work.flush (w : Work) : Work := { w.gath.foldl Work.flushTile w with gath := [] }

/-- The output of a command at its end. A command without a failure writes every tile; one that an engine check stops has
written the tiles already whole (R83, R101, R128); any other stop lets no output out (R98, R101). -/
def Work.finish (w : Work) : Work :=
  match w.fail with
  | none => w.flush
  | some (.check _ _ _ _) =>
    let whole := { w with gath := w.gath.filter (fun g => decide (4096 ≤ g.2.2.length)), fail := none }.flush
    { whole with fail := w.fail }
  | some _ => w

/-- Output tiles already written by an aborted command: CRC complemented, state POISON (R101, R128, R180). -/
def State.spoil (s : State) (d c : Nat) (tiles : List Nat) : State :=
  tiles.foldl (fun s t =>
    let a := lsAddr c (4096 * t)
    let i := s.tile d a
    s.setTile d a { tag := putBits i.tag 31 0 (2 ^ 32 - 1 - bits i.tag 31 0), st := .poison }) s

/-- The work of a command with the tiles of a popped handle (R144). -/
def mkWork (s : State) (d c : Nat) (r : Run) : Work :=
  { s := s, d := d, c := c, seq := r.num.toNat % 2 ^ 16, level := r.level.toNat,
    use := if cmdUse r.word then r.popped.map (fun h => (handleTile h, handleCount h, handleToken h)) else none,
    gath := r.gath, tiles := r.tiles, flags := r.flags.toNat }

end Sys2Proof.Machine
end

