-- ==== Sys2Proof/Machine/Loop.lean ====
section
/-! DEFINITION. Hardware loops of the vector queue (R112, R113) and the row of a command of any queue: at the head of its
queue, or at the place an open loop has reached. -/

namespace Sys2Proof.Machine

/-- VX_FAULT (Table 8 of ch.04): the first fault is kept until CAUSE is cleared (R151). -/
def CoreSt.vxFault (x : CoreSt) (cause lane vreg addr : Nat) (num : BitVec 64) : CoreSt :=
  if bits x.vx.fault 63 56 ≠ 0 then x
  else { x with vx := { x.vx with
    fault := BitVec.ofNat 64 (field 56 cause + field 47 lane + field 43 vreg + num.toNat % 2 ^ 32),
    faultAddr := BitVec.ofNat 64 addr } }

/-- The commands of the open loop: the outermost VX.LOOP and every command it collected. -/
def CoreSt.loopFirst (x : CoreSt) : Option (BitVec 64) := (x.vx.loops.getLast?).map LoopFrame.loop

/-- A command of the open loop has failed (R113): no iteration starts, and the loop and every command of its body end with
that status. -/
def State.loopFail (s : State) (d c : Nat) (status : BitVec 8) : State :=
  s.modCore d c (fun x =>
    let x1 := x.modQ 1 (fun q => { q with run := q.run.map (fun r =>
      if r.busy then { r with status := status, busy := false, awaits := [], gath := [], slot := r.slot } else r) })
    { x1 with vx := { x1.vx with loops := [], buf := [] } })

/-- The end of an aborted or refused vector command: the fault record and the log for a check or a tile; outside a loop the
command's own output tiles are spoilt (R128), inside one they keep their tags (R113). -/
def State.vxEnd (s : State) (d c : Nat) (num : BitVec 64) (tiles : List Nat) (f : Fail) : State :=
  let inLoop := !(s.core d c).vx.loops.isEmpty
  let s0 := if inLoop then s else s.spoil d c tiles
  match f with
  | .status n => s.failRun d c 1 num n
  | .token => s0.failRun d c 1 num stToken
  | .check cause _ lane vreg =>
    let s1 := s0.modCore d c (fun x => x.vxFault cause lane vreg 0 num)
    let s2 := (s1.bump 0x7060 4).raise (mkEvent 0x02 sevRecovered d c cause num.toNat)
    (s2.coreFault d c).failRun d c 1 num stFault
  | .tile off reason =>
    let s1 := (s0.verifyFailed d (lsAddr c off) c reason).modCore d c (fun x => x.vxFault 0x03 0 0 (lsAddr c off) num)
    s1.failRun d c 1 num stFault

/-- A command in execution after its work: what it has gathered and read. Output bytes of another command of its loop at offsets
it wrote itself are superseded, since values are those of executing the commands one after another (R104). -/
def Run.worked (r : Run) (w : Work) (num : BitVec 64) : Run :=
  if r.num = num then
    { r with flags := BitVec.ofNat 32 w.flags, tiles := w.tiles, ins := w.seen ++ r.ins.filter (fun t => !w.seen.contains t),
             gath := w.gath }
  else if w.wrote.isEmpty then r
  else { r with gath := ungather w.wrote r.gath }

/-- The work of a vector command done. -/
def Work.endVx (w : Work) (num : BitVec 64) : State :=
  let s := w.s.modCore w.d w.c (fun x => x.modQ 1 (fun q => { q with run := q.run.map (fun r => r.worked w num) }))
  match w.fail with
  | none => s
  | some f => s.vxEnd w.d w.c num w.tiles f

/-- Output still gathered when a command's last iteration is done: written tile by tile, merged where not wholly covered
(R125, R181). -/
def State.flushRun (s : State) (d c : Nat) (r : Run) : State :=
  if r.gath.isEmpty then s
  else
    let w := { mkWork s d c r with seen := [] }.flush
    w.endVx r.num

/-- The outermost loop has ended: its commands write what they still gather and may complete; the first that fails makes all
fail. -/
def State.loopDone (s : State) (d c : Nat) : State :=
  let rs := ((s.core d c).q 1).run.filter (fun r => r.busy)
  let s1 := rs.foldl (fun s r =>
    if ((s.core d c).q 1).run.any (fun t => t.busy == false && t.status != 0) then s else s.flushRun d c r) s
  match ((s1.core d c).q 1).run.find? (fun t => t.status != 0) with
  | some t => s1.loopFail d c t.status
  | none => s1.modCore d c (fun x =>
      let x1 := x.modQ 1 (fun q => { q with run := q.run.map (fun r => { r with busy := false }) })
      { x1 with vx := { x1.vx with loops := [], buf := [] } })

/-- Loops that end where the next command would be number `pos`: an iteration begins again at its first command, and a loop
whose iterations are spent is left. `cur` gives the cursor of a descriptor. -/
def closeLoops (cur : Fin 32 → Nat) (pos : BitVec 64) : List LoopFrame → List LoopFrame × BitVec 64
  | [] => ([], pos)
  | f :: fs =>
    if pos = f.first + BitVec.ofNat 64 f.len then
      if f.left ≤ 1 then closeLoops cur pos fs
      else ({ f with left := f.left - 1, chunk := match f.drv with | some dx => cur dx | none => 0 } :: fs, f.first)
    else (f :: fs, pos)

/-- The cursor of a latched descriptor. -/
def CoreSt.cursor (x : CoreSt) (dx : Fin 32) : Nat :=
  match mapGet none x.vx.latched dx.val with
  | some l => l.chunk
  | none => 0

/-- The command an open loop stood at is done for this iteration: the loop goes on, or ends. -/
def State.loopAdvance (s : State) (d c : Nat) : State :=
  let x := s.core d c
  let r := closeLoops x.cursor (x.vx.pos + 1) x.vx.loops
  if r.1.isEmpty then s.loopDone d c
  else s.modCore d c (fun x =>
    let x1 := x.modQ 1 (fun q => { q with run := q.run.map (fun t => if t.busy then { t with progress := s.time } else t) })
    { x1 with vx := { x1.vx with loops := r.1, pos := r.2 } })

/-- The first time an open loop reaches a command of its body, its wait is taken and its slot reserved (R132, R141). -/
def State.loopTake (s : State) (d c : Nat) (r : Run) : State × Run :=
  if r.waited then (s, r)
  else
    let t := (s.core d c).takeWait 1 { num := r.num, word := r.word, parity := r.parity }
    let r1 := { r with waited := true, popped := t.2, slot := cmdSigTq r.word && headerOk 1 r.word && !r.parity,
                       status := BitVec.ofNat 8 (if r.parity then stParity else preStatus 1 r.word t.2), start := s.time, progress := s.time }
    ((s.setCore d c (t.1.modRun 1 r.num (fun _ => r1))).act d c, r1)

/-- The row of an opcode at the place an open loop has reached. -/
def State.loopOp (s : State) (d c op : Nat) (effect : State → Run → State) : State :=
  let x := s.core d c
  match x.findRun 1 x.vx.pos with
  | none => s
  | some r =>
    if cmdOp r.word = op ∧ s.dieRuns d ∧ x.q1.enable ∧ x.q1.halt.isNone ∧ ¬ r.awaits.contains .gt
        ∧ x.hasLeave 1 op ∧ (r.waited ∨ r.parity ∨ s.waitOf d c 1 r.word = .no) then
      let p := s.loopTake d c r
      if p.2.status ≠ 0 then p.1.loopFail d c p.2.status
      else
        let s1 := effect p.1 p.2
        match (s1.core d c).findRun 1 r.num with
        | some r1 =>
          if r1.status ≠ 0 then s1.loopFail d c r1.status
          else if r1.awaits.contains .gt then s1
          else s1.loopAdvance d c
        | none => s1
    else s

/-- The row of an opcode of queue e: the next command of the queue, or the command an open loop has reached. -/
def State.rowOp (s : State) (d c e op : Nat) (effect : State → Run → State) : State :=
  if e = 1 ∧ !(s.core d c).vx.loops.isEmpty then s.loopOp d c op effect else s.runOp d c e op effect

end Sys2Proof.Machine
end

