-- ==== Sys2Proof/Machine/Matrix.lean ====
section
/-! DEFINITION. The matrix engine (ch.03): the MX commands, the accumulator window, the checks, the registers written to
clear. A command's whole effect happens in its own row; COMMAND_COMPLETION completes it. -/

namespace Sys2Proof.Machine

/-! ### Split modes (Table 2 of ch.03) -/

/-- Arrays of a mode. -/
def modeArrays (m : Nat) : Nat := 4 ^ m
/-- Side of an array, which is N per pass. -/
def modeSide (m : Nat) : Nat := 128 / 2 ^ m
/-- Rows of the accumulator share of an array. -/
def modeShare (m : Nat) : Nat := 1024 / 2 ^ m
/-- First row of the share of array a. -/
def modeRow0 (m a : Nat) : Nat := modeShare m * (a / 2 ^ m)
/-- First column of the share of array a. -/
def modeCol0 (m a : Nat) : Nat := modeSide m * (a % 2 ^ m)
/-- The array whose share holds an entry (R81). -/
def modeArrayOf (m row col : Nat) : Nat := (row / modeShare m) * 2 ^ m + col / modeSide m
/-- K per pass: twice the side for MXFP4 and MXFP6. -/
def kPerPass (m : Nat) (e : Elem) : Nat := if elemBits e < 8 then 2 * modeSide m else modeSide m

/-- The operand pairs of R44. -/
def pairOk (a b : Elem) : Bool :=
  match a, b with
  | .mx f, .mx g => f.eb + f.mb == g.eb + g.mb
  | .fp8 _, .fp8 _ => true
  | .int x, .int y => x == 8 && y == 8
  | .fp f, .fp g => f == g && f != fp32
  | _, _ => false

/-- The output formats a window of a family may drain to (Table 6 of ch.03). -/
def outOk (int : Bool) (o : Elem) : Bool :=
  match o with
  | .fp _ => true
  | .fp8 _ => !int
  | .mx _ => !int
  | .int w => int && w == 32
  | .w96 => true

/-- FORMAT of an output tile of elements (Table 3 of ch.06). -/
def outFormat (b : Block) : Nat := match b.elem with | .w96 => 0x2000 | _ => b.fmt

/-! ### Operands in local store -/

/-- An operand element: its value, and whether its block scale is 0xFF. -/
abbrev Elt := Fp × Bool

/-- The code of 1.0 in FP32. -/
def one32 : Nat := 0x3F800000

/-- Elements k0 .. k0 + n - 1 of a row at `off`; MX scales in a row at `soff`, one for 32 elements from the row's start;
per-tensor scale `pt`. -/
def Work.elems (w : Work) (e : Elem) (off soff pt k0 n : Nat) : List Elt × Work :=
  let b := elemBits e
  let lo := k0 * b
  let r := w.read (off + lo / 8) (((k0 + n) * b + 7) / 8 - lo / 8)
  let z := ofBytes r.1 >>> (lo % 8)
  let sc := match e with
    | .mx _ => r.2.read (soff + k0 / 32) ((k0 + n + 31) / 32 - k0 / 32)
    | _ => ([], r.2)
  ((List.range n).map (fun i =>
    let code := (z >>> (b * i)) % 2 ^ b
    let s := match e with
      | .mx _ => ((sc.1[(k0 + i) / 32 - k0 / 32]?).getD 0).toNat
      | _ => pt
    (elemVal e s code, (match e with | .mx _ => s == 0xFF | _ => false))), sc.2)

/-- Rows 0 .. n - 1 read one after another. -/
def Work.mapRows {α : Type} (w : Work) (n : Nat) (f : Nat → Work → α × Work) : List α × Work :=
  (List.range n).foldl (fun p i => let q := f i p.2; (p.1 ++ [q.1], q.2)) ([], w)

/-- A list of rows turned into a list of columns. -/
def columns (n : Nat) (rows : List (List Elt)) : List (List Elt) :=
  (List.range n).map (fun j => rows.map (fun r => (r[j]?).getD (.fin false 0 0, false)))

/-- The stationary block B[k0 .. k0+kk-1, n0 .. n0+nn-1] as one list for each column (R66): KN rows are k, NK rows are n. -/
def Work.stationary (w : Work) (b : Block) (kTotal k0 kk n0 nn : Nat) : List (List Elt) × Work :=
  if b.nk then
    w.mapRows nn (fun j w => w.elems b.elem (blockRow b (n0 + j)) (blockScaleRow b (scaleCount kTotal) (n0 + j)) one32 k0 kk)
  else
    let p := w.mapRows kk (fun i w =>
      let k := k0 + i
      match b.elem with
      | .mx f =>
        let lo := n0 * elemBits b.elem
        let r := w.read (blockRow b k + lo / 8) (((n0 + nn) * elemBits b.elem + 7) / 8 - lo / 8)
        let z := ofBytes r.1 >>> (lo % 8)
        let sc := r.2.read (b.scale + (scaleRow b k / 32) * b.e0 + n0) nn
        ((List.range nn).map (fun j =>
          let s := ((sc.1[j]?).getD 0).toNat
          (elemVal (.mx f) s ((z >>> (elemBits b.elem * j)) % 2 ^ elemBits b.elem), s == 0xFF)), sc.2)
      | e => w.elems e (blockRow b k) 0 one32 n0 nn)
    (columns nn p.1, p.2)

/-! ### Accumulator entries -/

/-- Key of entry (row, column). -/
def accKey (row col : Nat) : Nat := row * 128 + col

/-- Entry (row, column) of a core. -/
def CoreSt.entry (x : CoreSt) (row col : Nat) : AccEntry := mapGet { } x.acc (accKey row col)

/-- An entry replaced. -/
def CoreSt.setEntry (x : CoreSt) (row col : Nat) (e : AccEntry) : CoreSt := { x with acc := mapSet { } x.acc (accKey row col) e }

def Work.entry (w : Work) (row col : Nat) : AccEntry := (w.s.core w.d w.c).entry row col

def Work.setEntry (w : Work) (row col : Nat) (e : AccEntry) : Work :=
  { w with s := w.s.modCore w.d w.c (fun x => x.setEntry row col e) }

/-- The exact product of two operand elements, and whether it is an invalid operation: 0 × Inf or a NaN scale (R44, Table 2
of ch.02). -/
def product (x y : Elt) : Fp × Bool :=
  let p := fpMul x.1 y.1
  (p.1, p.2 || x.2 || y.2)

/-- Products folded in increasing k into a window (R45, R67): the window and the flags set. -/
def foldProducts (int : Bool) (a : Win) (ps : List (Elt × Elt)) : Win × Nat :=
  ps.foldl (fun st p =>
    let x := product p.1 p.2
    let r := foldValue int st.1 x.1 1 false x.2
    (r.1, st.2 ||| (if r.2 then fWindowOvf else 0) ||| (if x.2 || foldInvalid st.1 r.1 x.1 then fInvalid else 0)
      ||| (if p.1.2 || p.2.2 then fScaleNan else 0) ||| (if r.1.terms = 0xFFFF ∧ st.1.terms = 0xFFFF then fTermsSat else 0)))
    (a, 0)

/-- One row of a pass: products folded into entries (row, col0 + j), afresh where `init` (R73), checked by R97. MX_PRODUCTS counts
the products folded, padding zeros among them; the columns of the array that the stationary leaves unused, loaded as zero
(R68), fold nothing and are not counted (R99; DEDUCED, notes/assumptions/87.md). -/
def Work.foldRow (w : Work) (int init : Bool) (array row col0 : Nat) (a : List Elt) (cols : List (List Elt)) : Work :=
  (cols.zipIdx).foldl (fun w p =>
    if w.fail.isSome then w
    else
      let col := col0 + p.2
      let e := w.entry row col
      if !init && !entryOk e then w.stop (.check 0x02 array row col)
      else
        let start : Win := if init then { wexp := if int then 0 else -128 } else entryWin e
        let r := foldProducts int start (a.zip p.1)
        let n := BitVec.ofNat 64 p.1.length
        { (w.setEntry row col (winEntry (if int then .int else .float) r.1)).orF r.2 with
          s := (w.setEntry row col (winEntry (if int then .int else .float) r.1)).s.modCore w.d w.c
            (fun x => { x with mx := { x.mx with products := x.mx.products + n } }) }) w

/-- The flags of an entry drained: TRUNC and INVALID (Table 13 of ch.03). -/
def drainFlags (a : Win) : Nat := (if a.trunc then fTrunc else 0) ||| (if a.invalid then fInvalid else 0)

/-- A generator of the core (R51): 0-15 the arrays, 16 the vector engine. -/
def CoreSt.gen (x : CoreSt) (i : Nat) : BitVec 32 := mapGet 1 x.mx.gens i

def CoreSt.setGen (x : CoreSt) (i : Nat) (g : BitVec 32) : CoreSt :=
  { x with mx := { x.mx with gens := mapSet 1 x.mx.gens i g } }

/-- The rounding of one element converted under generator i, which advances for SR (R51, R80). -/
def Work.draw (w : Work) (sr : Bool) (i : Nat) : Rnd × Work :=
  if sr then
    let p := drawRnd true ((w.s.core w.d w.c).gen i)
    (p.1, { w with s := w.s.modCore w.d w.c (fun x => x.setGen i p.2) })
  else (.rn, w)

/-- How output is converted: the output block, saturation, SR, the scale multiplied in (R79), the mode whose arrays' generators
are used (R81), the clearing of converted entries (R82). -/
structure OutCfg where
  blk : Block
  sat : Bool
  sr : Bool
  mul : Fp
  mode : Nat
  clear : Bool

/-- Elements packed in `bs` written from bit `bit` of byte `off` on: the bits of that byte below them are kept. -/
def Work.writeBits (w : Work) (fmt off bit len : Nat) (bs : List Byte) : Work :=
  if bit = 0 then w.write fmt off bs
  else w.write fmt off (toBytes ((bit + len + 7) / 8) ((w.byteAt off).toNat % 2 ^ bit + ofBytes bs * 2 ^ bit))

/-- Entries (row, c0 .. c0+n-1) converted and gathered from bit `dst` of local store on, MX scales at byte `sdst` (R78 to R80,
R82). A W96 output converts nothing, so with SR it draws no generator value (R51, R80; DEDUCED, notes/assumptions/88.md). -/
def Work.drainRow (w : Work) (o : OutCfg) (row c0 n dst sdst : Nat) : Work :=
  let bad := (List.range n).find? (fun j => !entryOk (w.entry row (c0 + j)))
  match bad with
  | some j => w.stop (.check 0x02 (modeArrayOf o.mode row (c0 + j)) row (c0 + j))
  | none =>
    if w.fail.isSome then w
    else
      let wins := (List.range n).map (fun j => entryWin (w.entry row (c0 + j)))
      let w1 := w.orF (wins.foldl (fun f a => f ||| drainFlags a) 0)
      let w2 := match o.blk.elem with
        | .w96 =>
          (w1.orF (wins.foldl (fun f a => f ||| (if a.cls = 0 then 0 else if a.cls < 3 then fInfOut else fNanOut)) 0)).write
            (outFormat o.blk) (dst / 8) (wins.flatMap (fun a => toBytes 16 (winWord a).toNat))
        | e =>
          let p := w1.mapRows n (fun j w =>
            let q := w.draw o.sr (modeArrayOf o.mode row (c0 + j))
            let v := (fpMul (winVal ((wins[j]?).getD { })) o.mul).1
            ((plusZero v, q.1), q.2))
          let r := cvtRow e o.sat o.blk.scale p.1
          ((p.2.orF (r.2.2 % 128)).writeBits (outFormat o.blk) (dst / 8) (dst % 8) (n * elemBits e) r.1).write 0x1000 sdst r.2.1
      if o.clear then (List.range n).foldl (fun w j => w.setEntry row (c0 + j) { }) w2 else w2

/-! ### The end of a command -/

/-- MX_FAULT (Table 14 of ch.03): the first fault is kept until CAUSE is cleared (R151). -/
def CoreSt.mxFault (x : CoreSt) (cause array row col addr : Nat) (num : BitVec 64) : CoreSt :=
  if bits x.mx.fault 63 56 ≠ 0 then x
  else { x with mx := { x.mx with
    fault := BitVec.ofNat 64 (field 56 cause + field 52 (array % 16) + field 42 (row % 1024) + field 35 (col % 128)
      + num.toNat % 2 ^ 32),
    faultAddr := BitVec.ofNat 64 addr } }

/-- A matrix command aborted by an engine check (Table 15 of ch.03): its output tiles are spoilt, the record and the log
take the fault, and the command ends with FAULT. -/
def State.mxAbort (s : State) (d c : Nat) (num : BitVec 64) (tiles : List Nat) (cause array row col : Nat) : State :=
  let s1 := (s.spoil d c tiles).modCore d c (fun x => x.mxFault cause array row col 0 num)
  let s2 := (s1.bump 0x7050 4).raise (mkEvent 0x01 sevRecovered d c cause num.toNat)
  ((if cause = 1 ∨ cause = 2 ∨ cause = 4 then s2.coreFault d c else s2)).failRun d c 0 num stFault

/-- The work of a matrix command done: its results stay with the command until it completes, or the command fails. -/
def Work.endMx (w : Work) (num : BitVec 64) : State :=
  let s := w.s.modRun w.d w.c 0 num (fun r => { r with flags := BitVec.ofNat 32 w.flags, tiles := w.tiles, ins := w.seen })
  match w.fail with
  | none => s
  | some (.status n) => s.failRun w.d w.c 0 num n
  | some .token => (s.spoil w.d w.c w.tiles).failRun w.d w.c 0 num stToken
  | some (.check cause a r c) => s.mxAbort w.d w.c num w.tiles cause a r c
  | some (.tile off reason) =>
    let s1 := (s.spoil w.d w.c w.tiles).verifyFailed w.d (lsAddr w.c off) w.c reason
    let s2 := s1.modCore w.d w.c (fun x => x.mxFault 0x03 0 0 0 (lsAddr w.c off) num)
    s2.failRun w.d w.c 0 num stFault

/-- Rows of accumulator memory that a command owns while it executes (R76). -/
def State.ownRows (s : State) (d c : Nat) (num : BitVec 64) (rs : List Rect) : State :=
  s.modRun d c 0 num (fun r => { r with owns := rs })

/-- An operand block of the core. -/
def CoreSt.block (x : CoreSt) (i : Nat) : Option Block := blockOf (mapGet 0 x.ob i)

/-- The base of the block that USE replaces (R140, R153): the handle's first tile. -/
def useBase (b : Block) (r : Run) : Block :=
  match cmdUse r.word, r.popped with
  | true, some h => blockRebase b (4096 * handleTile h)
  | _, _ => b

/-- TQ_SHORT (R144): an operand of `n` bytes from the handle's first tile lies within the handle's tiles. -/
def useFits (r : Run) (n : Nat) : Bool :=
  match cmdUse r.word, r.popped with
  | true, some h => decide (n ≤ 4096 * handleCount h)
  | _, _ => true

/-- The scale that FIN applies: sA·sB where both operands are per-tensor FP8, else 1 (R79). -/
def finScale (a b : Block) : Fp :=
  match a.elem, b.elem with
  | .fp8 _, .fp8 _ => (fpMul (fpDecode fp32 a.scale) (fpDecode fp32 b.scale)).1
  | _, _ => .fin false 1 0

/-- sA or sB of MX.DRAIN: zero stands for 1 (R79). -/
def drainScale (code : Nat) : Fp := if code = 0 then .fin false 1 0 else fpDecode fp32 code

/-! ### MX.GEMM (R65, R72 to R74, R92, R153) -/

/-- The fields of MX.GEMM (Table 14 of ch.05). -/
structure Gemm where
  oba : Nat
  obb : Nat
  obc : Nat
  mode : Nat
  accBase : Nat
  m : Nat
  init : Bool
  fin : Bool
  sr : Bool
  sat : Nat
  members : Nat
deriving DecidableEq, Repr

def gemmOf (w : BitVec 128) : Gemm :=
  { oba := bits w 95 92, obb := bits w 91 88, obc := bits w 87 84, mode := bits w 83 82, accBase := bits w 81 72,
    m := bits w 71 40, init := bit w 39, fin := bit w 38, sr := bit w 37, sat := bits w 36 35, members := bits w 34 25 + 1 }

/-- N and K of the stationary block (Table 16 of ch.05). -/
def statN (b : Block) : Nat := if b.nk then b.e1 else b.e0
def statK (b : Block) : Nat := if b.nk then b.e0 else b.e1

/-- A block moved to batched member j (R92, R154). -/
def member (b : Block) (j : Nat) : Block := { b with base := b.base + j * b.mstride, scale := match b.elem with
  | .mx _ => b.scale + j * b.mstride
  | _ => b.scale }

/-- MX scales of a stationary block lie inside local store. -/
def statScalesFit (b : Block) : Bool :=
  match b.elem with
  | .mx _ =>
    let rows := if b.wrap = 0 then b.e1 else min b.e1 (b.wrap * 4096 / b.s1)
    decide (b.scale + (if b.nk then rows * scaleCount b.e0 else scaleCount rows * b.e0) ≤ lsBytes)
  | _ => true

/-- The checks of MX.GEMM at issue (R38, R44, R73, R78, R153, R154). -/
def gemmOk (g : Gemm) (a b c : Block) : Bool :=
  let n := statN b
  let last (x : Block) := member x (g.members - 1)
  decide (g.mode < 3) && pairOk a.elem b.elem && !a.nk && a.e0 == statK b && decide (1 ≤ a.e0) && decide (1 ≤ n) && decide (1 ≤ g.m)
  && decide (g.sat < 3)
  && blockAligned a && blockAligned b && blockFits (last a) g.m a.e0
  && blockFits { last b with elem := match b.elem with | .mx f => .fp8 f | e => e } b.e1 b.e0 && statScalesFit (last b)
  && (g.fin && decide (a.e0 ≤ kPerPass g.mode a.elem) || decide (g.m ≤ modeShare g.mode))
  && (!g.fin || (outOk (a.elem == .int 8) c.elem && !c.nk && blockAligned c && blockFits (last c) g.m n))

/-- One pass (R65): the stationary block loaded, M rows streamed, each folded and, with `fin`, converted and freed. -/
def Work.pass (w : Work) (g : Gemm) (a b : Block) (o : OutCfg) (array base0 n0 k0 : Nat) (init fin : Bool) : Work :=
  let n := statN b
  let nn := min (modeSide g.mode) (n - n0)
  let kk := min (kPerPass g.mode a.elem) (a.e0 - k0)
  let st := w.stationary b a.e0 k0 kk n0 nn
  iter g.m (fun m w =>
    if w.fail.isSome then w
    else
      let row := modeRow0 g.mode array + (base0 + m) % modeShare g.mode
      let col := modeCol0 g.mode array
      let r := w.elems a.elem (blockRow a m) (blockScaleRow a (scaleCount a.e0) m) one32 k0 kk
      if r.2.fail.isSome then r.2
      else
        let w1 := r.2.foldRow (a.elem == .int 8) init array row col r.1 st.1
        if fin then
          w1.drainRow o row col nn (8 * blockRow o.blk m + n0 * elemBits o.blk.elem)
            (blockScaleRow o.blk (scaleCount n) m + n0 / 32)
        else w1) st.2

/-- The rows of the share of array `a` from `base` on, as at most two rectangles: they wrap through the share (R72). -/
def shareRects (mode a base rows cols : Nat) : List Rect :=
  let share := modeShare mode
  let b := base % share
  let n := min rows share
  { r0 := modeRow0 mode a + b, rows := min n (share - b), c0 := modeCol0 mode a, cols := cols }
    :: (if b + n ≤ share then [] else [{ r0 := modeRow0 mode a, rows := b + n - share, c0 := modeCol0 mode a, cols := cols }])

/-- MX.GEMM places alternate n-blocks in two row ranges (R74). -/
def gemmAlternates (g : Gemm) (n : Nat) : Bool := decide (modeSide g.mode < n) && decide (2 * g.m ≤ modeShare g.mode)

/-- The passes of one member: n-blocks outermost, k-blocks innermost (R67), n-blocks in alternate row ranges (R74). -/
def Work.memberPasses (w : Work) (g : Gemm) (a b : Block) (o : OutCfg) (array : Nat) : Work :=
  let npp := modeSide g.mode
  let kpp := kPerPass g.mode a.elem
  let nb := ceilDiv (statN b) npp
  let kb := ceilDiv a.e0 kpp
  let alt := gemmAlternates g (statN b)
  iter nb (fun i w => iter kb (fun k w =>
    w.pass g a b o array (g.accBase + (if alt && i % 2 == 1 then g.m else 0)) (i * npp) (k * kpp)
      (g.init && k == 0) (g.fin && k + 1 == kb)) w) w

/-- MX.GEMM at work: every member in turn, member j on array j mod the number of arrays (R92). -/
def gemmWork (s : State) (d c : Nat) (r : Run) (g : Gemm) (a b cc : Block) : Work :=
  iter g.members (fun j w =>
    let o : OutCfg := { blk := member cc j, sat := satOf (s.obj 0x7040 3 == 1) cc.elem g.sat, sr := g.sr,
                        mul := finScale a b, mode := g.mode, clear := true }
    w.memberPasses g (member a j) (member b j) o (j % modeArrays g.mode)) (mkWork s d c r)

/-- Entries that MX.GEMM targets: M rows from ACC_BASE on, 2M where n-blocks alternate, in the columns its widest n-block uses. -/
def gemmRects (g : Gemm) (n : Nat) : List Rect :=
  (List.range (min g.members (modeArrays g.mode))).flatMap (fun a =>
    shareRects g.mode a g.accBase (if gemmAlternates g n then 2 * g.m else g.m) (min n (modeSide g.mode)))

/-- A mode named by MX.GEMM or MX.CONV becomes MX_STATUS.MODE (R81). -/
def State.setMode (s : State) (d c m : Nat) : State :=
  s.modCore d c (fun x => { x with mx := { x.mx with mode := BitVec.ofNat 2 m } })

/-- The bytes from BASE that the streamed operand of MX.GEMM reaches. -/
def gemmSpan (g : Gemm) (a : Block) : Nat :=
  if a.wrap = 0 then (g.m - 1) * a.s1 + rowBytes a.elem a.e0 + (g.members - 1) * a.mstride else a.wrap * 4096

/-- The effect of MX.GEMM once issued. -/
def gemmEffect (d c : Nat) (s : State) (r : Run) : State :=
  let g := gemmOf r.word
  let x := s.core d c
  match x.block g.oba, x.block g.obb with
  | some a0, some b =>
    let a := useBase a0 r
    let cc := (x.block g.obc).getD { b with elem := .w96 }
    if !gemmOk g a b cc || (g.fin && (x.block g.obc).isNone) then s.failRun d c 0 r.num stDesc
    else if !useFits r (gemmSpan g a) then s.failRun d c 0 r.num stTqShort
    else
      let w := gemmWork (s.setMode d c g.mode) d c r g a b cc
      (w.finish.endMx r.num).ownRows d c r.num (gemmRects g (statN b))
  | _, _ => s.failRun d c 0 r.num stDesc

/-- MX_GEMM (R65, R153). -/
def execMxGemm (d : Fin 16) (c : Fin 32) (s : State) : Host.Outcome State Fault Refusal :=
  .next (s.runOp d c 0 0x10 (gemmEffect d c))

/-! ### MX.CONV (R84 to R88, R155) -/

/-- The fields of MX.CONV (Table 14 of ch.05). -/
structure Conv2 where
  obi : Nat
  obf : Nat
  obo : Nat
  obg : Nat
  mode : Nat
  accBase : Nat
  m0 : Nat
  m : Nat
  sr : Bool
  sat : Nat
deriving DecidableEq, Repr

def convOf (w : BitVec 128) : Conv2 :=
  { obi := bits w 95 92, obf := bits w 91 88, obo := bits w 87 84, obg := bits w 83 80, mode := bits w 79 78,
    accBase := bits w 77 68, m0 := bits w 67 36, m := bits w 35 4, sr := bit w 3, sat := bits w 2 1 }

/-- The fields of a geometry block (Table 17 of ch.05). -/
structure Geom where
  r : Nat
  s : Nat
  sh : Nat
  sw : Nat
  dh : Nat
  dw : Nat
  pt : Nat
  pb : Nat
  pl : Nat
  pr : Nat
  g : Nat
  kout : Nat
deriving DecidableEq, Repr

/-- A geometry block decoded; none where KIND is not 1. -/
def geomOf (v : BitVec 512) : Option Geom :=
  if bits v 502 500 ≠ 1 then none
  else some
    { r := bits v 499 496, s := bits v 495 492, sh := bits v 491 488, sw := bits v 487 484, dh := bits v 483 480,
      dw := bits v 479 476, pt := bits v 475 468, pb := bits v 467 460, pl := bits v 459 452, pr := bits v 451 444,
      g := bits v 443 428, kout := bits v 427 412 }

/-- Output extent of R84 along one axis; zero where the filter does not fit. -/
def convExtent (h p0 p1 r dh sh : Nat) : Nat :=
  if h + p0 + p1 < (r - 1) * dh + 1 then 0 else (h + p0 + p1 - (r - 1) * dh - 1) / sh + 1

def inRange (lo hi x : Nat) : Bool := decide (lo ≤ x) && decide (x ≤ hi)

/-- An MX.CONV with what its blocks say. -/
structure ConvJob where
  k : Conv2
  q : Geom
  inp : Block
  fil : Block
  out : Block
deriving DecidableEq, Repr

def ConvJob.h (j : ConvJob) : Nat := j.inp.e2
def ConvJob.w (j : ConvJob) : Nat := j.inp.e1
def ConvJob.p (j : ConvJob) : Nat := convExtent j.h j.q.pt j.q.pb j.q.r j.q.dh j.q.sh
def ConvJob.qq (j : ConvJob) : Nat := convExtent j.w j.q.pl j.q.pr j.q.s j.q.dw j.q.sw
def ConvJob.cg (j : ConvJob) : Nat := j.inp.e0 / j.q.g
def ConvJob.kg (j : ConvJob) : Nat := j.q.kout / j.q.g
/-- Passes of one group and one output-channel block: channel slices × R × S (R85). -/
def ConvJob.slices (j : ConvJob) : Nat := ceilDiv j.cg (kPerPass j.k.mode j.inp.elem)

/-- Last byte after an array of pixels along three dimensions; in a wrap ring, after a pixel at its end (R154). -/
def pixelsEnd (b : Block) (e1 e2 e3 n : Nat) : Nat :=
  if b.wrap = 0 then b.base + (e1 - 1) * b.s1 + (e2 - 1) * b.s2 + (e3 - 1) * b.s3 + rowBytes b.elem n
  else b.base + b.wrap * 4096 - b.s1 + max b.s1 (rowBytes b.elem n)

/-- Rows of the scale array of so many pixels: n_w where they wrap (R154). -/
def scaleRows (b : Block) (pixels : Nat) : Nat := if b.wrap = 0 then pixels else b.wrap * 4096 / b.s1

/-- MX scales of one output pixel: those of each group follow those of the group before it, since every group starts blocks of
its own (Table 6 of ch.03; DEDUCED, notes/assumptions/89.md). -/
def ConvJob.outScales (j : ConvJob) : Nat := j.q.g * scaleCount j.kg

/-- The checks of MX.CONV: Table 7 of ch.03, the pairs of R44, the extents of Table 16 of ch.05, R154. -/
def convOk (j : ConvJob) : Bool :=
  let q := j.q
  decide (j.k.mode < 3) && decide (j.k.sat < 3) && pairOk j.inp.elem j.fil.elem && !j.inp.nk && !j.fil.nk && !j.out.nk
  && inRange 1 65535 j.inp.e0 && inRange 1 65535 j.inp.e1 && inRange 1 65535 j.inp.e2 && inRange 1 65535 j.inp.e3
  && inRange 1 65535 q.kout && inRange 1 15 q.r && inRange 1 15 q.s && inRange 1 15 q.sh && inRange 1 15 q.sw
  && inRange 1 15 q.dh && inRange 1 15 q.dw && decide (q.pt ≤ (q.r - 1) * q.dh) && decide (q.pb ≤ (q.r - 1) * q.dh)
  && decide (q.pl ≤ (q.s - 1) * q.dw) && decide (q.pr ≤ (q.s - 1) * q.dw) && inRange 1 65535 q.g
  && j.inp.e0 % q.g == 0 && q.kout % q.g == 0
  && j.fil.e0 == j.kg && j.fil.e1 == j.cg && j.fil.e2 == q.s && j.fil.e3 == q.r
  && j.out.e0 == q.kout && j.out.e1 == j.qq && j.out.e2 == j.p && j.out.e3 == j.inp.e3
  && decide (1 ≤ j.p) && decide (1 ≤ j.qq) && decide (1 ≤ j.k.m)
  && decide (j.k.m0 + j.k.m ≤ j.inp.e3 * j.p * j.qq)
  && (decide (j.k.m ≤ modeShare j.k.mode) || (j.slices == 1 && q.r == 1 && q.s == 1))
  && blockAligned j.inp && blockAligned j.fil && blockAligned j.out && outOk (j.inp.elem == .int 8) j.out.elem
  && decide (pixelsEnd j.inp j.w j.h j.inp.e3 j.inp.e0 ≤ lsBytes)
  && decide (pixelsEnd j.fil j.cg q.s q.r j.kg + (q.g - 1) * j.fil.mstride ≤ lsBytes)
  && decide (pixelsEnd j.out j.qq j.p j.inp.e3 q.kout ≤ lsBytes)
  && (match j.inp.elem with
      | .mx _ => decide (j.inp.scale + scaleRows j.inp (j.inp.e3 * j.h * j.w) * scaleCount j.inp.e0 ≤ lsBytes)
          && decide (j.fil.scale + (q.g - 1) * j.fil.mstride + q.r * q.s * scaleCount j.cg * j.kg ≤ lsBytes)
      | _ => true)
  && (match j.out.elem with
      | .mx _ => decide (j.out.scale + scaleRows j.out (j.inp.e3 * j.p * j.qq) * j.outScales ≤ lsBytes)
      | _ => true)

/-- The input position (b, y, x) of output pixel `m` at tap (r, s); none where it lies in the padding (R84, R86). -/
def ConvJob.inputAt (j : ConvJob) (m r s : Nat) : Option (Nat × Nat × Nat) :=
  let y := m / j.qq % j.p * j.q.sh + r * j.q.dh
  let x := m % j.qq * j.q.sw + s * j.q.dw
  if y < j.q.pt ∨ x < j.q.pl ∨ j.h ≤ y - j.q.pt ∨ j.w ≤ x - j.q.pl then none
  else some (m / j.qq / j.p, y - j.q.pt, x - j.q.pl)

/-- An element of a row or column of zero products. -/
def zeroElt : Elt := (.fin false 0 0, false)

/-- The streamed row of output pixel `m` at tap (r, s), channels chan0 .. chan0+cc-1, and the columns it meets. In the padding
nothing is fetched and every product is zero, whatever the filter holds (R84, R86). -/
def Work.convRow (w : Work) (j : ConvJob) (m r s chan0 cc : Nat) (cols : List (List Elt)) :
    (List Elt × List (List Elt)) × Work :=
  match j.inputAt m r s with
  | none => ((List.replicate cc zeroElt, cols.map (fun col => col.map (fun _ => zeroElt))), w)
  | some (b, y, x) =>
    let p := w.elems j.inp.elem (blockAt j.inp (x * j.inp.s1 + y * j.inp.s2 + b * j.inp.s3))
      (blockScaleRow j.inp (scaleCount j.inp.e0) ((b * j.h + y) * j.w + x)) one32 chan0 cc
    ((p.1, cols), p.2)

/-- The filter block of tap (r, s), channels c0 .. c0+cc-1 of the group, outputs n0 .. n0+nn-1: a KN stationary whose row c
is f[r, s, c, ·] (R84). MX scales of a tap follow those of the tap before it (DEDUCED). -/
def ConvJob.tap (j : ConvJob) (grp r s : Nat) : Block :=
  let b := member j.fil grp
  { b with base := b.base + s * b.s2 + r * b.s3, e0 := j.kg, e1 := j.cg,
           scale := match b.elem with
             | .mx _ => b.scale + (r * j.q.s + s) * scaleCount j.cg * j.kg
             | _ => b.scale }

/-- Group g and output-channel block nb of MX.CONV on one array: slices, then r, then s; INIT first, FIN last (R85). -/
def Work.convBlock (w : Work) (j : ConvJob) (o : OutCfg) (grp nb array : Nat) : Work :=
  let npp := modeSide j.k.mode
  let kpp := kPerPass j.k.mode j.inp.elem
  let n0 := nb * npp
  let nn := min npp (j.kg - n0)
  let taps := j.q.r * j.q.s
  iter (j.slices * taps) (fun t w =>
    let slice := t / taps
    let r := t % taps / j.q.s
    let s := t % j.q.s
    let c0 := slice * kpp
    let cc := min kpp (j.cg - c0)
    let st := w.stationary (j.tap grp r s) j.cg c0 cc n0 nn
    iter j.k.m (fun i w =>
      if w.fail.isSome then w
      else
        let m := j.k.m0 + i
        let row := modeRow0 j.k.mode array + (j.k.accBase + i) % modeShare j.k.mode
        let col := modeCol0 j.k.mode array
        let a := w.convRow j m r s (grp * j.cg + c0) cc st.1
        if a.2.fail.isSome then a.2
        else
          let w1 := a.2.foldRow (j.inp.elem == .int 8) (t == 0) array row col a.1.1 a.1.2
          if t + 1 = j.slices * taps then
            w1.drainRow o row col nn
              (8 * blockAt j.out ((m % j.qq) * j.out.s1 + (m / j.qq % j.p) * j.out.s2 + (m / j.qq / j.p) * j.out.s3)
                + (grp * j.kg + n0) * elemBits j.out.elem)
              (blockScaleRow j.out j.outScales m + grp * scaleCount j.kg + n0 / 32)
          else w1) st.2) w

/-- MX.CONV at work: groups in turn, round-robin over the arrays of the mode (R87). -/
def convWork (s : State) (d c : Nat) (r : Run) (j : ConvJob) : Work :=
  let o : OutCfg := { blk := j.out, sat := satOf (s.obj 0x7040 3 == 1) j.out.elem j.k.sat, sr := j.k.sr,
                      mul := finScale j.inp j.fil, mode := j.k.mode, clear := true }
  iter j.q.g (fun grp w => iter (ceilDiv j.kg (modeSide j.k.mode)) (fun nb w =>
    w.convBlock j o grp nb (grp % modeArrays j.k.mode)) w) (mkWork s d c r)

/-- The bytes from BASE that the input of MX.CONV reaches. -/
def convSpan (j : ConvJob) : Nat :=
  if j.inp.wrap = 0 then pixelsEnd j.inp j.w j.h j.inp.e3 j.inp.e0 - j.inp.base else j.inp.wrap * 4096

/-- The effect of MX.CONV once issued. -/
def convEffect (d c : Nat) (s : State) (r : Run) : State :=
  let k := convOf r.word
  let x := s.core d c
  match x.block k.obi, x.block k.obf, x.block k.obo, geomOf (mapGet 0 x.ob k.obg) with
  | some i, some f, some o, some q =>
    let j : ConvJob := { k := k, q := q, inp := useBase i r, fil := f, out := o }
    if !convOk j then s.failRun d c 0 r.num stDesc
    else if !useFits r (convSpan j) then s.failRun d c 0 r.num stTqShort
    else
      ((convWork (s.setMode d c k.mode) d c r j).finish.endMx r.num).ownRows d c r.num
        ((List.range (min q.g (modeArrays k.mode))).flatMap (fun a =>
          shareRects k.mode a k.accBase k.m (min j.kg (modeSide k.mode))))
  | _, _, _, _ => s.failRun d c 0 r.num stDesc

/-- MX_CONV (R84, R153). -/
def execMxConv (d : Fin 16) (c : Fin 32) (s : State) : Host.Outcome State Fault Refusal :=
  .next (s.runOp d c 0 0x11 (convEffect d c))

/-! ### MX.MERGE, MX.DRAIN, MX.ZERO -/

/-- One W96 word folded into an entry (R43, R45), the entry checked first (R97). INVALID is set by an invalid operation of the merge
and by a partial that carries INVALID, as one of a reserved CLASS does (R43, R52; notes/assumptions/90.md). -/
def Work.mergeEntry (w : Work) (row col : Nat) (word : BitVec 128) : Work :=
  if w.fail.isSome then w
  else
    let e := w.entry row col
    if !entryOk e then w.stop (.check 0x02 (modeArrayOf (w.s.core w.d w.c).mx.mode.toNat row col) row col)
    else
      let a := entryWin e
      let b := wordWin word
      let r := mergeWin false a b
      (w.setEntry row col (winEntry e.fam r.1)).orF
        ((if r.2 then fWindowOvf else 0) ||| (if b.invalid || foldInvalid a r.1 (winVal b) then fInvalid else 0)
          ||| (if 0xFFFF < a.terms + b.terms then fTermsSat else 0))

/-- Accumulator row i of a command that names rows from `row0` on: they wrap, as those of a pass do (R72, DEDUCED). -/
def rowAt (row0 i : Nat) : Nat := (row0 + i) % 1024

/-- Row m is one of the `rows` rows from `row0` on. -/
def rowNamed (row0 rows m : Nat) : Bool := decide ((m + 1024 - row0) % 1024 < rows)

/-- The source block of MX.MERGE with its row stride: 2,048 where S1 is 0. -/
def mergeBlock (b : Block) : Block := { b with s1 := if b.s1 = 0 then 2048 else b.s1 }

/-- The checks of MX.MERGE at issue (R43, R153, R154). -/
def mergeOk (b : Block) (rows : Nat) : Bool :=
  b.elem == .w96 && !b.nk && decide (2048 ≤ (mergeBlock b).s1) && blockAligned (mergeBlock b) && blockFits (mergeBlock b) rows 128

/-- The bytes from BASE that the source of MX.MERGE reaches. -/
def mergeSpan (b : Block) (rows : Nat) : Nat := if b.wrap = 0 then (rows - 1) * (mergeBlock b).s1 + 2048 else b.wrap * 4096

/-- Rows ROW0 .. ROW0 + ROWS - 1 merged from the source block. -/
def mergeWork (s : State) (d c : Nat) (r : Run) (b : Block) (row0 rows : Nat) : Work :=
  let b := mergeBlock b
  iter rows (fun i w =>
    if w.fail.isSome then w
    else
      let p := w.read (blockRow b i) 2048
      (List.range 128).foldl (fun w col =>
        w.mergeEntry (rowAt row0 i) col (BitVec.ofNat 128 (ofBytes ((p.1.drop (16 * col)).take 16)))) p.2) (mkWork s d c r)

/-- The effect of MX.MERGE once issued (R153). -/
def mergeEffect (d c : Nat) (s : State) (r : Run) : State :=
  let row0 := bits r.word 91 82
  let rows := bits r.word 81 71 + 1
  match (s.core d c).block (bits r.word 95 92) with
  | some b0 =>
    let b := useBase b0 r
    if !mergeOk b rows then s.failRun d c 0 r.num stDesc
    else if !useFits r (mergeSpan b rows) then s.failRun d c 0 r.num stTqShort
    else ((mergeWork s d c r b row0 rows).finish.endMx r.num).ownRows d c r.num (shareRects 0 0 row0 rows 128)
  | none => s.failRun d c 0 r.num stDesc

/-- MX_MERGE (R43, R153). -/
def execMxMerge (d : Fin 16) (c : Fin 32) (s : State) : Host.Outcome State Fault Refusal :=
  .next (s.runOp d c 0 0x12 (mergeEffect d c))

/-- A drain scale field: zero, or a scale of R38 (R79). -/
def drainFieldOk (v : Nat) : Bool := v == 0 || scaleOk v

/-- Rows that MX.DRAIN names. -/
def drainRows (w : BitVec 128) : Nat := bits w 21 11 + 1

/-- The checks of MX.DRAIN at issue, on its output block (R38, R78, R79, Table 6 of ch.03, R154). -/
def drainOk (x : CoreSt) (b : Block) (w : BitVec 128) : Bool :=
  let sa := bits w 95 64
  let sb := bits w 63 32
  let fams := (List.range (drainRows w)).flatMap (fun i => (List.range b.e0).map (fun j => (x.entry (rowAt (bits w 31 22) i) j).fam))
  inRange 1 128 b.e0 && decide (bits w 4 3 < 3) && !b.nk && blockAligned b && blockFits b (drainRows w) b.e0
    && (match b.elem with
        | .w96 => true
        | .int 32 => (sa == 0 || sa == one32) && (sb == 0 || sb == one32) && fams.all (· != .float)
        | .int _ => false
        | .fp _ => drainFieldOk sa && drainFieldOk sb
        | _ => drainFieldOk sa && drainFieldOk sb && fams.all (· != .int))

/-- The bytes from BASE that rows of a block reach: its ring where they wrap. -/
def rowsSpan (b : Block) (rows n : Nat) : Nat := if b.wrap = 0 then (rows - 1) * b.s1 + rowBytes b.elem n else b.wrap * 4096

/-- The effect of MX.DRAIN once issued (R78 to R82). -/
def drainEffect (d c : Nat) (s : State) (r : Run) : State :=
  let sa := bits r.word 95 64
  let sb := bits r.word 63 32
  let x := s.core d c
  match x.block (bits r.word 10 7) with
  | some b0 =>
    let b := useBase b0 r
    let n := b.e0
    if !drainOk x b r.word then s.failRun d c 0 r.num stDesc
    else if !useFits r (rowsSpan b (drainRows r.word) n) then s.failRun d c 0 r.num stTqShort
    else
      let o : OutCfg := { blk := b, sat := satOf (s.obj 0x7040 3 == 1) b.elem (bits r.word 4 3), sr := bit r.word 5,
                          mul := (fpMul (drainScale sa) (drainScale sb)).1, mode := x.mx.mode.toNat, clear := bit r.word 6 }
      (iter (drainRows r.word) (fun i w =>
        w.drainRow o (rowAt (bits r.word 31 22) i) 0 n (8 * blockRow b i) (blockScaleRow b (scaleCount n) i)) (mkWork s d c r)).finish.endMx r.num
  | none => s.failRun d c 0 r.num stDesc

/-- MX_DRAIN (R78, R153). -/
def execMxDrain (d : Fin 16) (c : Fin 32) (s : State) : Host.Outcome State Fault Refusal :=
  .next (s.runOp d c 0 0x13 (drainEffect d c))

/-- The effect of MX.ZERO once issued: rows ROW0 .. reset (Table 9 of ch.03). -/
def zeroEffect (d c : Nat) (s : State) (r : Run) : State :=
  let row0 := bits r.word 91 82
  let rows := bits r.word 81 71 + 1
  s.modCore d c (fun x => { x with acc := mapErase (fun k => rowNamed row0 rows (k / 128)) x.acc })

/-- MX_ZERO (R91, R153). -/
def execMxZero (d : Fin 16) (c : Fin 32) (s : State) : Host.Outcome State Fault Refusal :=
  .next (s.runOp d c 0 0x14 (zeroEffect d c))

/-! ### MX.ELEM (R89) -/

/-- Element i of an element-wise operand: rows of E0 elements, S1 apart (DEDUCED from Tables 15 and 16 of ch.05). -/
def Work.elemAt (w : Work) (b : Block) (i : Nat) : Fp × Work :=
  let p := w.elems b.elem (blockRow b (i / b.e0)) 0 (match b.elem with | .fp8 _ => b.scale | _ => one32) (i % b.e0) 1
  (((p.1[0]?).getD (.fin false 0 0, false)).1, p.2)

/-- One operation of Table 8 of ch.03, exact: the value and whether it is invalid. -/
def elemOp (op : Nat) (a b c : Fp) : Fp × Bool :=
  match op with
  | 0 => fpAdd a b
  | 1 => fpMul a b
  | 2 | 3 => let p := fpMul a b; let q := fpAdd p.1 c; (q.1, p.2 || q.2)
  | 4 => (fpMinMax true a b, false)
  | 5 => (fpMinMax false a b, false)
  | _ => (a, false)

/-- The result of an element-wise operation on a and b: a zero is +0 (R41, R89), except that MAX and MIN of +0 against -0 return
a (Table 8 of ch.03). -/
def elemZero (op : Nat) (a b x : Fp) : Fp :=
  match a, b with
  | .fin na 0 _, .fin nb 0 _ => if (op = 4 ∨ op = 5) ∧ na ≠ nb then x else plusZero x
  | _, _ => plusZero x

/-- An operand format of the element-wise unit (R89). -/
def elemInOk (b : Block) : Bool :=
  match b.elem with
  | .fp _ => true
  | .fp8 _ => true
  | _ => false

/-- The checks that an element-wise operand of n elements obeys. -/
def elemBlockOk (b : Block) (n : Nat) : Bool :=
  !b.nk && blockAligned b && decide (1 ≤ b.e0) && blockFits b (ceilDiv n b.e0) b.e0

/-- What stands for an operand that an operation of MX.ELEM does not have. -/
def noBlock : Block :=
  { elem := .fp fp32, fmt := 1, nk := false, scale := 0, e0 := 1, e1 := 0, e2 := 0, e3 := 0, s1 := 4, s2 := 0, s3 := 0, mstride := 0,
    wrap := 0, base := 0 }

/-- MX.ELEM has a second operand, and a third; for AFFINE_CH they are tables of 128 FP32 values (Table 8 of ch.03). -/
def elemNeedsB (op : Nat) : Bool := op != 6
def elemNeedsC (op : Nat) : Bool := op == 2 || op == 3

/-- A table of 128 FP32 values. -/
def tableOk (t : Block) : Bool := t.elem == .fp fp32 && decide (t.base + 512 ≤ lsBytes) && t.base % 4 == 0

/-- The checks of MX.ELEM at issue: operands a, b, c, output o (R89, R153, R154). -/
def elemOk (w : BitVec 128) (a : Block) (b c : Option Block) (o : Block) : Bool :=
  let op := bits w 79 76
  let n := bits w 63 32
  let src (t : Option Block) : Bool := t.any (fun t => if op = 3 then tableOk t else elemInOk t && elemBlockOk t n)
  decide (op ≤ 6) && decide (bits w 74 73 < 3) && elemInOk a && elemBlockOk a n && (!elemNeedsB op || src b) && (!elemNeedsC op || src c)
    && elemBlockOk o n && (match o.elem with | .fp _ => true | .fp8 _ => true | .mx _ => true | _ => false)

/-- Element i of a second or third operand: of its rows, or of its table (Table 8 of ch.03). -/
def Work.elemOperand (w : Work) (needed : Bool) (op : Nat) (b : Block) (i : Nat) : Fp × Work :=
  if !needed then (.fin false 0 0, w)
  else if op = 3 then
    let p := w.elems b.elem b.base 0 one32 (i % 128) 1
    (((p.1[0]?).getD (.fin false 0 0, false)).1, p.2)
  else w.elemAt b i

/-- The effect of MX.ELEM once issued (R89, R153). -/
def elemEffect (d c : Nat) (s : State) (r : Run) : State :=
  let w0 := r.word
  let op := bits w0 79 76
  let n := bits w0 63 32
  let x := s.core d c
  let b := (x.block (bits w0 91 88)).getD noBlock
  let cc := (x.block (bits w0 87 84)).getD noBlock
  match x.block (bits w0 95 92), x.block (bits w0 83 80) with
  | some a0, some o =>
    let a := useBase a0 r
    if !elemOk w0 a (x.block (bits w0 91 88)) (x.block (bits w0 87 84)) o then s.failRun d c 0 r.num stDesc
    else if !useFits r (rowsSpan a (ceilDiv n a.e0) a.e0) then s.failRun d c 0 r.num stTqShort
    else
      let sat := satOf (s.obj 0x7040 3 == 1) o.elem (bits w0 74 73)
      let w := iter (ceilDiv n o.e0) (fun row w =>
        if w.fail.isSome then w
        else
          let len := min o.e0 (n - row * o.e0)
          let p := w.mapRows len (fun j w =>
            let i := row * o.e0 + j
            let va := w.elemAt a i
            let vb := va.2.elemOperand (elemNeedsB op) op b i
            let vc := vb.2.elemOperand (elemNeedsC op) op cc i
            let e := elemOp op va.1 vb.1 vc.1
            let v := elemZero op va.1 vb.1 e.1
            let q := (vc.2.orF (if e.2 then fInvalid else 0)).draw (bit w0 75) 0
            ((v, q.1), q.2))
          let z := cvtRow o.elem sat o.scale p.1
          ((p.2.orF (z.2.2 % 128)).write (outFormat o) (blockRow o row) z.1).write 0x1000
            (blockScaleRow o (scaleCount o.e0) row) z.2.1) (mkWork s d c r)
      w.finish.endMx r.num
  | _, _ => s.failRun d c 0 r.num stDesc

/-- MX_ELEM (R89, R153). -/
def execMxElem (d : Fin 16) (c : Fin 32) (s : State) : Host.Outcome State Fault Refusal :=
  .next (s.runOp d c 0 0x15 (elemEffect d c))

/-- MX_FLAGS_CLR (R100, R153): MX_FLAGS cleared once every earlier command has completed. -/
def execMxFlagsClr (d : Fin 16) (c : Fin 32) (s : State) : Host.Outcome State Fault Refusal :=
  .next (if ((s.core d c).q 0).run.isEmpty then
      s.runOp d c 0 0x16 (fun s _ => s.modCore d c (fun x => { x with mx := { x.mx with flags := 0 } }))
    else s)

/-! ### Checks (R96, R97) -/

/-- The entry lies in a rectangle that a command owns. -/
def Rect.has (o : Rect) (row col : Nat) : Bool :=
  decide (o.r0 ≤ row) && decide (row < o.r0 + o.rows) && decide (o.c0 ≤ col) && decide (col < o.c0 + o.cols)

/-- The matrix command of a number, in execution. -/
def CoreSt.mxRunning (x : CoreSt) (num : BitVec 64) : Option Run := x.q0.run.find? (fun r => r.status == 0 && r.num == num)

/-- The check of one fold of command `num` into an entry it owns (R97): the residue predicted from the operands is compared with
the one computed from the stored result, and the command aborts with cause 0x01 where they differ. The two residues are those
of that fold, whichever fold of the command it is. -/
def execFoldResidueCheck (d : Fin 16) (c : Fin 32) (arr : CmdArray) (row : Fin 1024) (col : Fin 128) (res : Residues) (s : State) :
    Host.Outcome State Fault Refusal :=
  .next (match (s.core d c).mxRunning arr.num with
    | some r =>
      if r.owns.any (fun o => o.has row col) && res.predicted != res.computed then s.mxAbort d c r.num r.tiles 0x01 arr.arr row col
      else s
    | none => s)

/-- MX_REGISTER_PARITY_ERROR (R96): the command in execution whose operands the register held aborts with cause 0x04. -/
def execMxRegisterParityError (d : Fin 16) (c : Fin 32) (arr : CmdArray) (row : Fin 1024) (col : Fin 128) (s : State) :
    Host.Outcome State Fault Refusal :=
  .next (match (s.core d c).mxRunning arr.num with
    | some r => s.mxAbort d c r.num r.tiles 0x04 arr.arr row col
    | none => s)

/-! ### The accumulator window (R76) -/

/-- Statuses of accumulator-window accesses; the spec names them and gives no codes (notes/assumptions/7.md). -/
def accPartial : BitVec 8 := 0xF0
def accBusy : BitVec 8 := 0xF1
def accFault : BitVec 8 := 0xF2

/-- Entry (row, column) at an offset of the window. -/
def accRow (off : Nat) : Nat := off / 16 / 128
def accCol (off : Nat) : Nat := off / 16 % 128

/-- The entry is owned by a matrix command in execution. -/
def CoreSt.owned (x : CoreSt) (row col : Nat) : Bool :=
  x.q0.run.any (fun r => r.owns.any (fun o => o.has row col))

/-- A read of an entry that is not owned: the addressed bytes of its W96 word, or ACC_FAULT where its residue is wrong, with the
record of cause 0x02 at the command next to issue and the queue halted (R76, R97, Table 15 of ch.03; DEDUCED, log 85). -/
def State.accRead (s : State) (d c off len : Nat) : (BitVec 8 × List Byte) × State :=
  let e := (s.core d c).entry (accRow off) (accCol off)
  if !entryOk e then
    let num := (s.core d c).q0.pc
    let s1 := s.modCore d c (fun x => x.mxFault 0x02 (modeArrayOf x.mx.mode.toNat (accRow off) (accCol off)) (accRow off)
      (accCol off) 0 num)
    ((accFault, []), (((s1.bump 0x7050 4).raise (mkEvent 0x01 sevRecovered d c 0x02 num.toNat)).coreFault d c).haltQueue d c 0 .fault
      stFault Config.haltOpcode.toNat)
  else ((0, ((toBytes 16 (winWord (entryWin e)).toNat).drop (off % 16)).take len), s)

/-- A write of fewer than 16 bytes or not aligned to 16 (R76). -/
def accShort (off : Nat) (data : List Byte) : Bool := off % 16 != 0 || data.length != 16

/-- A write to an entry that is not owned: whole and aligned, or discarded with ACC_PARTIAL (R76). -/
def State.accWrite (s : State) (d c off : Nat) (data : List Byte) : BitVec 8 × State :=
  if accShort off data then (accPartial, s)
  else
    let w := wordWin (BitVec.ofNat 128 (ofBytes data))
    (0, s.modCore d c (fun x => x.setEntry (accRow off) (accCol off) (winEntry .none w)))

/-- Local address of byte `off` of the accumulator window of core c (R33). -/
def accAddr (c off : Nat) : Nat := 0x080100000000 + c * 0x200000 + off

/-- A refused access of the window answers its status and is logged once with the SOFT flag (R76, R523; notes/assumptions/7.md). -/
def State.accRefuse (s : State) (d c off : Nat) (st : BitVec 8) : State :=
  (s.raise (softEvent d c st.toNat (memKey d (accAddr c off)))).emit (.reply st [])

/-- An access of the window: it waits while its entry is owned, else it is served and answered. A short or unaligned write is
discarded at the access, whether the entry is owned or not (Table 15 of ch.03; DEDUCED, notes/assumptions/91.md). -/
def State.accAccess (s : State) (d c off len : Nat) (data : Option (List Byte)) : State :=
  if (s.core d c).owned (accRow off) (accCol off) && !(data.any (accShort off)) then
    s.modCore d c (fun x => { x with mx := { x.mx with
      waiting := x.mx.waiting ++ [{ off := off, len := len, data := data, since := s.time }] } })
  else match data with
    | none => let p := s.accRead d c off len; p.2.emit (.reply p.1.1 p.1.2)
    | some bs =>
      let p := s.accWrite d c off bs
      if p.1 = 0 then p.2.emit (.reply 0 []) else p.2.accRefuse d c off p.1

/-- Waiting accesses whose entries are no longer owned are served in their order (R76). -/
def State.accServe (s : State) (d c : Nat) : State :=
  let ws := (s.core d c).mx.waiting
  let s0 := s.modCore d c (fun x => { x with mx := { x.mx with waiting := [] } })
  ws.foldl (fun s w =>
    if (s.core d c).owned (accRow w.off) (accCol w.off) then
      s.modCore d c (fun x => { x with mx := { x.mx with waiting := x.mx.waiting ++ [w] } })
    else s.accAccess d c w.off w.len w.data) s0

/-- ACC_WINDOW_READ (R76). The read stays within one entry. -/
def execAccWindowRead (d : Fin 16) (c : Fin 32) (off : Fin 0x200000) (len : Fin 17) (s : State) :
    Host.Outcome State Fault Refusal :=
  .next (s.reach d (some c.val) (accAddr c off) .host (.read len) (s.accAccess d c off (min len.val (16 - off.val % 16)) none))

/-- ACC_WINDOW_WRITE (R76). -/
def execAccWindowWrite (d : Fin 16) (c : Fin 32) (off : Fin 0x200000) (data : List Byte) (s : State) :
    Host.Outcome State Fault Refusal :=
  .next (s.reach d (some c.val) (accAddr c off) .host (.write data) (s.accAccess d c off data.length (some data)))

/-- The oldest access that has waited 4,096 core cycles ends with ACC_BUSY, a read with no data; it is logged (R76, R523). -/
def State.accBusyOut (s : State) (d c : Nat) : State :=
  match (s.core d c).mx.waiting with
  | w :: ws =>
    if w.since + s.cycles d 4096 ≤ s.time then
      (s.modCore d c (fun x => { x with mx := { x.mx with waiting := ws } })).accRefuse d c w.off accBusy
    else s
  | [] => s

/-! ### Leave and registers (R95, R100) -/

/-- MX_IDLE_RELEASE (R95): CMP.MX_IDLE_RELEASE microseconds without a command release the leave. -/
def execMxIdleRelease (d : Fin 16) (c : Fin 32) (s : State) : Host.Outcome State Fault Refusal :=
  .next (let x := s.core d c
    if x.mx.leave && x.q0.run.isEmpty && decide (x.mx.lastCmd + s.obj 0x7050 2 * tickUs ≤ s.time) then
      s.releaseLeave (.matrixEngine d c)
    else s)

/-- MX_FLAGS_W1C (R100): a bit written 1 is cleared; bits 31 to 10 are reserved. -/
def execMxFlagsW1c (d : Fin 16) (c : Fin 32) (v : BitVec 32) (s : State) : Host.Outcome State Fault Refusal :=
  .next (s.regWrite d c 0x4004 (toBytes 4 v.toNat)
    (s.modCore d c (fun x => { x with mx := { x.mx with flags := x.mx.flags &&& ~~~v } })))

/-- MX_FAULT_CLEAR (R100): zero written to CAUSE clears the whole record. -/
def execMxFaultClear (d : Fin 16) (c : Fin 32) (s : State) : Host.Outcome State Fault Refusal :=
  .next (s.regWrite d c 0x4008 (toBytes 8 0) (s.modCore d c (fun x => { x with mx := { x.mx with fault := 0, faultAddr := 0 } })))

end Sys2Proof.Machine
end

