-- ==== Sys2Proof/Machine/Stream.lean ====
section
/-! DEFINITION. The rows of command streams: rings and fetch, queue control, completion, the common commands but SIG0, tile
queues, the sync monitor, the hang watchdog and parity (R130 to R168). -/

namespace Sys2Proof.Machine

/-! ### Rings and fetch (R133, R134) -/

/-- R134: Q_TAIL is more than the ring ahead of Q_HEAD. -/
def QueueSt.overrun (q : QueueSt) : Bool := decide (2 ^ q.size.toNat < (q.tail - q.head).toNat)

/-- R134: a queue whose ring is overrun halts with RING, unless it is halted already. -/
def State.ringCheck (s : State) (d c e : Nat) : State :=
  let q := (s.core d c).q e
  if q.overrun && q.halt.isNone then s.haltQueue d c e .cmd stRing Config.haltOpcode.toNat else s

/-- A write of Q_TAIL (R133, R134). -/
def State.tailWrite (s : State) (d c e : Nat) (v : BitVec 32) : State :=
  ((s.modCore d c (fun x => x.modQ e (fun q => { q with tail := v }))).act d c).ringCheck d c e

/-- Q_TAIL_WRITE. -/
def execQTailWrite (die : Fin 16) (core : Fin 32) (eng : Fin 3) (v : BitVec 32) (s : State) :
    Host.Outcome State Fault Refusal :=
  .next (s.regWrite die core (0x100 * eng + 0x10) (toBytes 4 v.toNat) (s.tailWrite die core eng v))

/-- Commands accepted and not complete (Table 6 of ch.05). -/
def QueueSt.accepted (q : QueueSt) : Nat := q.acc.length + q.run.length

/-- Local address of ring slot i (R133). -/
def QueueSt.slotAddr (q : QueueSt) (i : Nat) : Nat := q.base.toNat % 2 ^ 44 + 16 * (i % 2 ^ q.size.toNat)

/-- Queue e may fetch: its clock runs (R446), it is enabled, not halted, has room, and the ring holds a command (R133, Table 5 of
ch.05). -/
def State.mayFetch (s : State) (d c e : Nat) : Bool :=
  let q := (s.core d c).q e
  s.dieClocked d && q.enable && q.halt.isNone && decide (q.head ≠ q.tail) && decide (q.accepted < queueDepth e)

/-- A command accepted: it takes the next command number, and Q_HEAD moves on (R131, R133). -/
def QueueSt.accept (q : QueueSt) (w : BitVec 128) : QueueSt :=
  { q with acc := q.acc ++ [{ num := q.count, word := w }], count := q.count + 1, head := q.head + 1 }

/-- A ring slot is read and its command accepted, or the queue halts at the slot (R133). -/
def execCommandFetch (die : Fin 16) (core : Fin 32) (eng : Fin 3) (s : State) : Host.Outcome State Fault Refusal :=
  let q := (s.core die core).q eng
  if !s.mayFetch die core eng then .next s
  else if q.overrun then .next (s.ringCheck die core eng)
  else
    let a := q.slotAddr q.head.toNat
    match regionSpan a 16 with
    | .hbm | .store _ _ =>
      if s.badIn die a 16 then
        .next ((s.poisonRead die (a / 4096 * 4096) core).haltQueue die core eng .cmd stParity 0xFF)
      else
        let w := BitVec.ofNat 128 (ofBytes (s.bytes die a 16))
        .next ((s.modCore die core (fun x => x.modQ eng (fun q => q.accept w))).act die core)
    | _ => .next ((s.raise (softEvent die core stAddrHole a)).haltQueue die core eng .cmd stAddrHole 0xFF)

/-- A command-ring base: aligned, in HBM or in a local store (R133). -/
def ringBaseOk (v : Nat) : Bool :=
  v % 4096 == 0 && (match regionOf v with | .hbm | .store _ _ => true | _ => false)

/-- A completion-ring base: aligned, any local address of the die that lies in no reserved range (Table 4 of ch.05, R34). -/
def complBaseOk (v : Nat) : Bool := v % 4096 == 0 && regionOf v != .hole

/-- The value is legal for the register (R133, Table 4 of ch.05). -/
def cfgOk (reg : QCfgReg) (v : Nat) : Bool :=
  match reg with
  | .qBase => ringBaseOk (v % 2 ^ 44)
  | .cBase => complBaseOk (v % 2 ^ 44)
  | .qSize => decide (6 ≤ v) && decide (v ≤ 16)
  | .cSize => v == 0 || (decide (6 ≤ v) && decide (v ≤ 16))

/-- A configuration register of a queue written. -/
def QueueSt.setCfg (q : QueueSt) (reg : QCfgReg) (v : BitVec 64) : QueueSt :=
  match reg with
  | .qBase => { q with base := BitVec.ofNat 64 (v.toNat % 2 ^ 44) }
  | .qSize => { q with size := v.setWidth 32 }
  | .cBase => { q with cBase := BitVec.ofNat 64 (v.toNat % 2 ^ 44) }
  | .cSize => { q with cSize := v.setWidth 32 }

/-- A write to Q_BASE, Q_SIZE, C_BASE or C_SIZE (R133): an illegal value is ignored and logged; a legal one is ignored while
the queue is enabled or holds a command. -/
def State.cfgWrite (s : State) (d c e : Nat) (reg : QCfgReg) (v : BitVec 64) : State :=
  let q := (s.core d c).q e
  let x := match reg with | .qSize | .cSize => v.toNat % 2 ^ 32 | _ => v.toNat
  if !cfgOk reg x then s.raise (softEvent d c 0 x)
  else if q.enable || q.accepted != 0 then s
  else s.modCore d c (fun c => c.modQ e (fun q => q.setCfg reg v))

/-- Offset and bytes of a configuration register in its queue block (Table 4 of ch.05). -/
def cfgPlace (reg : QCfgReg) : Nat × Nat :=
  match reg with
  | .qBase => (0x00, 8)
  | .qSize => (0x08, 4)
  | .cBase => (0x30, 8)
  | .cSize => (0x38, 4)

/-- QUEUE_CONFIG_WRITE. -/
def execQueueConfigWrite (die : Fin 16) (core : Fin 32) (eng : Fin 3) (reg : QCfgReg) (v : BitVec 64) (s : State) :
    Host.Outcome State Fault Refusal :=
  .next (s.regWrite die core (0x100 * eng + (cfgPlace reg).1) (toBytes (cfgPlace reg).2 v.toNat) (s.cfgWrite die core eng reg v))

/-! ### Queue control (Table 5 of ch.05, R151) -/

/-- ENABLE written: fetch and issue start or stop; ignored on a core that is out (R399). -/
def State.qEnable (s : State) (d c e : Nat) (on : Bool) : State :=
  if s.coreOut d c then s else (s.modCore d c (fun x => x.modQ e (fun q => { q with enable := on }))).act d c

/-- CAUSE of the fault record of an engine. -/
def CoreSt.faultCause (x : CoreSt) (e : Nat) : Nat :=
  match e with
  | 0 => bits x.mx.fault 63 56
  | 1 => bits x.vx.fault 63 56
  | _ => bits x.mvFault 63 56

/-- R151: RESUME of a queue that is halted by a command or a request, or by a fault whose record is clear. -/
def CoreSt.resume (x : CoreSt) (e : Nat) : CoreSt :=
  match (x.q e).halt with
  | some .cmd | some .req => x.modQ e (fun q => { q with halt := none })
  | some .fault => if x.faultCause e = 0 then x.modQ e (fun q => { q with halt := none }) else x
  | _ => x

/-- RESUME written. -/
def State.qResume (s : State) (d c e : Nat) : State := (s.modCore d c (fun x => x.resume e)).act d c

/-- DISCARD written to a halted or disabled queue: every command not issued is discarded, and Q_HEAD becomes Q_TAIL. -/
def State.qDiscard (s : State) (d c e : Nat) : State :=
  let q := (s.core d c).q e
  if q.halt.isSome || !q.enable then
    (s.modCore d c (fun x => x.modQ e (fun q => { q with acc := [], head := q.tail }))).act d c
  else s

/-- HALT written: the queue halts before its next issue in HALT_REQ. A halted queue stays as it is. -/
def State.qHalt (s : State) (d c e : Nat) : State :=
  if ((s.core d c).q e).halt.isSome then s
  else (s.modCore d c (fun x => (x.modQ e (fun q => { q with halt := some .req })).tcPend 9)).queueIrq d c e

/-- A whole write of Q_CTRL (R557): HALT, then DISCARD, then ENABLE, then RESUME. -/
def State.qCtrl (s : State) (d c e : Nat) (v : BitVec 32) : State :=
  let s1 := if bit v 28 then s.qHalt d c e else s
  let s2 := if bit v 29 then s1.qDiscard d c e else s1
  let s3 := s2.qEnable d c e (bit v 31)
  if bit v 30 then s3.qResume d c e else s3

/-- A write of Q_CTRL as a row of its own: the bits written and their effect. -/
def State.qCtrlRow (s : State) (d c e : Nat) (v : BitVec 32) (eff : State) : State :=
  s.regWrite d c (0x100 * e + 0x0C) (toBytes 4 v.toNat) eff

/-- The written bits of Q_CTRL that keep ENABLE as it stands and set bit i. -/
def State.qCtrlBits (s : State) (d c e i : Nat) : BitVec 32 :=
  BitVec.ofNat 32 (field 31 ((s.core d c).q e).enable.toNat + 2 ^ i)

/-- Q_CTRL_ENABLE. -/
def execQCtrlEnable (die : Fin 16) (core : Fin 32) (eng : Fin 3) (on : Bool) (s : State) : Host.Outcome State Fault Refusal :=
  .next (s.qCtrlRow die core eng (BitVec.ofNat 32 (field 31 on.toNat)) (s.qEnable die core eng on))

/-- Q_CTRL_RESUME (R151). -/
def execQCtrlResume (die : Fin 16) (core : Fin 32) (eng : Fin 3) (s : State) : Host.Outcome State Fault Refusal :=
  .next (s.qCtrlRow die core eng (s.qCtrlBits die core eng 30) (s.qResume die core eng))

/-- Q_CTRL_DISCARD. -/
def execQCtrlDiscard (die : Fin 16) (core : Fin 32) (eng : Fin 3) (s : State) : Host.Outcome State Fault Refusal :=
  .next (s.qCtrlRow die core eng (s.qCtrlBits die core eng 29) (s.qDiscard die core eng))

/-- Q_CTRL_HALT. -/
def execQCtrlHalt (die : Fin 16) (core : Fin 32) (eng : Fin 3) (s : State) : Host.Outcome State Fault Refusal :=
  .next (s.qCtrlRow die core eng (s.qCtrlBits die core eng 28) (s.qHalt die core eng))

/-! ### Commands that no row of an opcode takes -/

/-- The next command of a queue that no opcode's row takes: its opcode is undefined, or parity has failed in it. -/
def deadHead (e : Nat) (k : Cmd) : Bool := k.parity || !opcodeKnown e (cmdOp k.word)

/-- A command whose opcode is undefined, or that is found with a parity error, issues and is refused (R139, Table 26). -/
def State.issueDead (s : State) (d c e : Nat) (num : BitVec 64) : State :=
  let x := s.core d c
  if e = 1 ∧ !x.vx.loops.isEmpty then
    match x.findRun 1 x.vx.pos with
    | some r => if r.num = num ∧ deadHead 1 { num := num, word := r.word, parity := r.parity } then
        s.loopOp d c (cmdOp r.word) (fun s _ => s) else s
    | none => s
  else match x.next e with
    | some k => if k.num = num ∧ deadHead e k ∧ s.mayIssue d c e k then (s.issue d c e k).1 else s
    | none => s

/-! ### Common commands (Table 13 of ch.05) -/

/-- NOP carries its wait, fence and signal. -/
def execNop (die : Fin 16) (core : Fin 32) (eng : Fin 3) (s : State) : Host.Outcome State Fault Refusal :=
  .next (s.rowOp die core eng 0x00 (fun s _ => s))

/-- CNT.SET sets a counter of any engine of the core. -/
def execCntSet (die : Fin 16) (core : Fin 32) (eng : Fin 3) (s : State) : Host.Outcome State Fault Refusal :=
  .next (s.rowOp die core eng 0x01 (fun s r =>
    s.putCounter die core (bits r.word 95 94) (bits r.word 93 91) (r.word.setWidth 32)))

/-- CNT.ADD adds modulo 2^32. -/
def execCntAdd (die : Fin 16) (core : Fin 32) (eng : Fin 3) (s : State) : Host.Outcome State Fault Refusal :=
  .next (s.rowOp die core eng 0x02 (fun s r =>
    s.putCounter die core (bits r.word 95 94) (bits r.word 93 91)
      ((s.core die core).counter (bits r.word 95 94) (bits r.word 93 91) + r.word.setWidth 32)))

/-- The bits of a comparator that hold something; [51:44] are reserved (Table 10 of ch.05). -/
def cmpMask (v : BitVec 64) : BitVec 64 := putBits v 51 44 0

/-- CMP.SET loads a comparator of the issuing engine. -/
def execCmpSet (die : Fin 16) (core : Fin 32) (eng : Fin 3) (s : State) : Host.Outcome State Fault Refusal :=
  .next (s.rowOp die core eng 0x03 (fun s r =>
    s.modCore die core (fun x => x.setComparator eng (bits r.word 95 94) (cmpMask (r.word.setWidth 64)))))

/-- A handle pushed into a tile queue of a core in one step (Table 9 of ch.05). -/
def CoreSt.push (x : CoreSt) (t : Nat) (h : BitVec 64) : CoreSt := x.setTileQueue t (tqPush (x.tileQueue t) h)

/-- The fields of a handle lie in the ranges of Table 8 of ch.05 (R139). -/
def handleOk (h : BitVec 64) : Bool :=
  decide (bits h 47 44 ≤ 4) && decide (handleCount h ≤ 2048) && decide (handleTile h + handleCount h ≤ 2048)

/-- TQ.PUSH reserves a slot and writes the given handle; it has waited for room. A field of the handle outside its range is a
descriptor error (R139). -/
def execTqPush (die : Fin 16) (core : Fin 32) (eng : Fin 3) (s : State) : Host.Outcome State Fault Refusal :=
  .next (s.rowOp die core eng 0x04 (fun s r =>
    if handleOk (r.word.setWidth 64) then s.modCore die core (fun x => x.push (bits r.word 95 92) (r.word.setWidth 64))
    else s.failRun die core eng r.num stDesc))

/-- STRICT and LATE_FAIL of an AWAIT_GT. -/
def awaitStrict (w : BitVec 128) : Bool := bit w 94
def awaitLateFail (w : BitVec 128) : Bool := bit w 93

/-- An AWAIT_GT whose target has passed (R159): LATE, or status GT_LATE. -/
def State.awaitLate (s : State) (d c e : Nat) (r : Run) : State :=
  if awaitLateFail r.word then s.failRun d c e r.num stGtLate
  else s.modRun d c e r.num (fun r => { r with late := true, awaits := r.awaits.filter (· != .gt) })

/-- R159, R218: an AWAIT_GT fails with GT_LOST where local GT is UNSET, or not valid under STRICT. -/
def State.awaitLost (s : State) (d : Nat) (w : BitVec 128) : Bool :=
  s.gtState d == 0 || (awaitStrict w && !s.gtValid d)

/-- AWAIT_GT: GT_LOST, late, or waiting for its target (R159). -/
def execAwaitGt (die : Fin 16) (core : Fin 32) (eng : Fin 3) (s : State) : Host.Outcome State Fault Refusal :=
  .next (s.rowOp die core eng 0x05 (fun s r =>
    let now := s.localGt die
    let target : BitVec 64 := if bit r.word 95 then now + r.word.setWidth 64 else r.word.setWidth 64
    if s.awaitLost die r.word then s.failRun die core eng r.num stGtLost
    else if target < now then s.awaitLate die core eng r
    else s.modRun die core eng r.num (fun r => { r with target := target, awaits := .gt :: r.awaits })))

/-- A command of an open loop is done for this iteration: the loop goes on or fails. -/
def State.loopSettle (s : State) (d c e : Nat) (num : BitVec 64) : State :=
  let x := s.core d c
  if e = 1 ∧ !x.vx.loops.isEmpty ∧ x.vx.pos = num then
    match x.findRun 1 num with
    | some r => if r.status ≠ 0 then s.loopFail d c r.status else s.loopAdvance d c
    | none => s
  else s

/-- An AWAIT_GT in execution ends: fired, late, or lost (R159). -/
def State.awaitEnd (s : State) (d c e : Nat) (r : Run) (late : Bool) : State :=
  let s1 := if s.awaitLost d r.word then s.failRun d c e r.num stGtLost
    else if late then s.awaitLate d c e r
    else s.modRun d c e r.num (fun r => { r with awaits := r.awaits.filter (· != .gt) })
  s1.loopSettle d c e r.num

/-- Local GT reaches the target of an AWAIT_GT, or its STRICT condition fails (R159). -/
def execAwaitGtFire (die : Fin 16) (core : Fin 32) (eng : Fin 3) (num : BitVec 64) (s : State) :
    Host.Outcome State Fault Refusal :=
  match (s.core die core).findRun eng num with
  | some r =>
    if r.awaits.contains .gt && (s.awaitLost die r.word || (s.gt.hold.isNone && decide (r.target ≤ s.localGt die))) then
      .next (s.awaitEnd die core eng r false)
    else .next s
  | none => .next s

/-- HALT: the queue halts when it completes (R152). -/
def execHalt (die : Fin 16) (core : Fin 32) (eng : Fin 3) (s : State) : Host.Outcome State Fault Refusal :=
  .next (s.rowOp die core eng 0x07 (fun s _ => s))

/-! ### Tile-queue registers and fault records -/

/-- A write of TQ_PUSH (Table 9 of ch.05). -/
def execTqPushWrite (die : Fin 16) (core : Fin 32) (tq : Fin 16) (handle : BitVec 64) (s : State) :
    Host.Outcome State Fault Refusal :=
  .next (s.regWrite die core (0x400 + 0x10 * tq) (toBytes 8 handle.toNat) ((s.modCore die core (fun x => x.push tq handle)).act die core))

/-- A read of TQ_POP: the value and the state after it (R141, Table 9 of ch.05). -/
def State.tqPopRead (s : State) (d c t : Nat) : BitVec 64 × State :=
  let p := tqPop ((s.core d c).tileQueue t)
  (p.1.getD (BitVec.allOnes 64), s.modCore d c (fun x => x.setTileQueue t p.2))

/-- A read of TQ_POP, answered. -/
def execTqPopRead (die : Fin 16) (core : Fin 32) (tq : Fin 16) (s : State) : Host.Outcome State Fault Refusal :=
  let p := s.tqPopRead die core tq
  .next (s.reach die (some core.val) (ctlAddr core (0x408 + 0x10 * tq)) .host (.read 8) (p.2.emit (.reply 0 (toBytes 8 p.1.toNat))))

/-- Zero written to CAUSE of MV_FAULT clears the record (R151, Table 21 of ch.05). -/
def execMvFaultClear (die : Fin 16) (core : Fin 32) (s : State) : Host.Outcome State Fault Refusal :=
  .next (s.regWrite die core 0x6000 (toBytes 8 0) (s.modCore die core (fun x => { x with mvFault := 0, mvFaultAddr := 0 })))

/-! ### Sync monitor (R164, R165) -/

/-- What a queue waits for is external (R148). -/
def State.waitExternal (s : State) (d c e : Nat) (kind sel : Nat) : Bool :=
  let x := s.core d c
  if kind = 3 then bit (x.comparator e sel) 63 || bit (x.comparator e sel) 60 else (x.tileQueue sel).ext

/-- MV.COLL waits at issue while a collective of its group is in execution on the die (R365). -/
def State.collWaits (s : State) (d c : Nat) : Bool :=
  match (s.core d c).next 2 with
  | some k => cmdOp k.word == 0x45 && (mapGet none (s.die d).col.active (bits k.word 95 88)).isSome
  | none => false

/-- Queue e waits on an internal token, or on an external one; the wait of R365 is external. -/
def State.waitsOn (s : State) (d c e : Nat) (external : Bool) : Bool :=
  let q := s.queueState d c e
  if q.1 == 3 then s.waitExternal d c e q.2.1 q.2.2 == external else external && e == 2 && s.collWaits d c

/-- A kickoff of the die is armed with an action on the core (R164). -/
def State.kickoffOn (s : State) (d c : Nat) : Bool :=
  (s.die d).ko.any (fun kv => bit kv.2 255 && decide (bits kv.2 251 248 ≤ 2) && bits kv.2 247 243 == c)

/-- R164: the six conditions have held for 4,096 core cycles. -/
def State.syncDead (s : State) (d c : Nat) : Bool :=
  let x := s.core d c
  s.dieRuns d
  && (s.waitsOn d c 0 false || s.waitsOn d c 1 false || s.waitsOn d c 2 false)
  && !(s.waitsOn d c 0 true || s.waitsOn d c 1 true || s.waitsOn d c 2 true)
  && x.q0.run.isEmpty && x.q1.run.isEmpty && x.q2.run.isEmpty
  && !s.kickoffOn d c
  && decide (4096 ≤ s.cyclesIn d x.sm.lastAct s.time)

/-- Handles written and reserved slots unwritten of a tile queue. -/
def TileQueue.written (q : TileQueue) : Nat := (q.slots.filter (fun t => t.handle.isSome)).length
def TileQueue.reserved (q : TileQueue) : Nat := (q.slots.filter (fun t => t.handle.isNone)).length

/-- The sync monitor's record of engine e (Table 25 of ch.05). -/
def State.smRecord (s : State) (d c e : Nat) : BitVec 128 :=
  let x := s.core d c
  if e = 3 then
    BitVec.ofNat 128 (field 96 x.tc.pc.toNat + field 93 (if x.tc.st = .wfi then 2 else 3))
  else
    let q := s.queueState d c e
    let waits := q.1 = 3
    let sel := q.2.2
    let hi := if !waits then 0 else if q.2.1 = 3 then bits (x.comparator e sel) 31 0 else (x.tileQueue sel).written
    let lo := if !waits then 0 else if q.2.1 = 3 then (s.cmpSource d c e (x.comparator e sel)).toNat else (x.tileQueue sel).reserved
    BitVec.ofNat 128 (field 96 ((x.q e).pc.toNat % 2 ^ 32) + field 93 (if waits then 1 else 0) + field 91 q.2.1 + field 87 sel
      + field 32 hi + lo)

/-- The tidy core stops (R163, R165); a lockstep halt stays. -/
def TcSt.stop (t : TcSt) : TcSt := { t with runBit := false, st := if t.st = .lockstep then .lockstep else .stopped }

/-- A queue in HALT_SYNC, the halt it had kept for the release. -/
def QueueSt.syncHalt (q : QueueSt) : QueueSt := { q with halt := some .sync, beforeSync := q.halt }

/-- The sync monitor's exception (R165). -/
def State.syncFire (s : State) (d c : Nat) : State :=
  let recs := (List.range 4).foldl (fun m e => mapSet 0 m e (s.smRecord d c e)) []
  let s1 := s.modCore d c (fun x => ({ x with
    q0 := x.q0.syncHalt, q1 := x.q1.syncHalt, q2 := x.q2.syncHalt, tc := x.tc.stop,
    sm := { x.sm with fired := true, firings := BitVec.ofNat 31 (satAdd 31 x.sm.firings.toNat 1), recs := recs,
                      runBefore := x.tc.runBit } }).tcPend 9)
  let s2 := (s1.bump 0x7070 1).raise (softEvent d c 0 0)
  ((s2.queueIrq d c 0).queueIrq d c 1).queueIrq d c 2

/-- SYNC_DEADLOCK: where the conditions of R164 hold, the monitor fires. -/
def execSyncDeadlock (die : Fin 16) (core : Fin 32) (s : State) : Host.Outcome State Fault Refusal :=
  .next (if s.syncDead die core then s.syncFire die core else s)

/-- A queue in HALT_SYNC goes on as it was. -/
def QueueSt.syncRelease (q : QueueSt) : QueueSt :=
  if q.halt = some .sync then { q with halt := q.beforeSync, beforeSync := none } else q

/-- The tidy core starts at address 0 (R163). -/
def TcSt.start (t : TcSt) (now : Nat) : TcSt :=
  if t.runBit ∨ t.st = .lockstep then { t with runBit := true }
  else { t with runBit := true, st := .running, pc := 0, stale := [], lastRetire := now }

/-- RELEASE written to SM_CTRL: every engine goes on at the command it waited on, RUN is set if it was (R165). -/
def State.smRelease (s : State) (d c : Nat) : State :=
  if (s.core d c).sm.fired then
    (s.modCore d c (fun x => { x with
      q0 := x.q0.syncRelease, q1 := x.q1.syncRelease, q2 := x.q2.syncRelease,
      tc := if x.sm.runBefore then x.tc.start s.time else x.tc, sm := { x.sm with fired := false } })).act d c
  else s

/-- SM_RELEASE. -/
def execSmRelease (die : Fin 16) (core : Fin 32) (s : State) : Host.Outcome State Fault Refusal :=
  .next (s.regWrite die core 0x800 (toBytes 4 0x80000000) (s.smRelease die core))

/-! ### Hang watchdog and parity (R166, Table 26 of ch.05) -/

/-- The watchdog may fault the command: in execution 1 ms without progress, no AWAIT_GT, and no move that awaits a remote
acknowledgement (R166). -/
def hangs (now : Nat) (r : Run) : Bool :=
  r.status == 0 && cmdOp r.word != 0x05 && decide (tickMs ≤ now - r.progress)
  && !r.awaits.any (fun a => match a with | .txn _ | .group _ => true | _ => false)

/-- HANG_WATCHDOG: the command aborts with HANG; the output of the matrix and vector engines is spoilt as in every abort
(R101, R128, R180). -/
def execHangWatchdog (die : Fin 16) (core : Fin 32) (eng : Fin 3) (num : BitVec 64) (s : State) :
    Host.Outcome State Fault Refusal :=
  match (s.core die core).findRun eng num with
  | some r =>
    if hangs s.time r then
      let s1 := ((s.bump 0x7070 2).raise (mkEvent 0x04 sevRecovered die core stHang num.toNat)).coreFault die core
      if r.busy then .next (s1.loopFail die core (BitVec.ofNat 8 stHang))
      else .next ((if eng.val = 2 then s1 else s1.spoil die core r.tiles).failRun die core eng num stHang)
    else .next s
  | none => .next s

/-- A tile queue whose parity failed: every handle is void, every reserved slot will be (Table 26 of ch.05). -/
def TileQueue.void (q : TileQueue) : TileQueue :=
  let f (t : TqSlot) : TqSlot := { t with voided := true, handle := t.handle.map (fun h => putBit (putBits h 43 32 0) 31 true) }
  { q with slots := q.slots.map f }

/-- Every queue of a core halts with PARITY. -/
def State.haltAllParity (s : State) (d c : Nat) : State :=
  [0, 1, 2].foldl (fun s e => s.haltQueue d c e .cmd stParity Config.haltOpcode.toNat) s

/-- MV_FAULT (Table 21 of ch.05): the first fault is kept until CAUSE is cleared (R151). -/
def CoreSt.moveFault (x : CoreSt) (cause : Nat) (num : BitVec 64) (addr : Nat) : CoreSt :=
  if bits x.mvFault 63 56 ≠ 0 then x
  else { x with mvFault := BitVec.ofNat 64 (field 56 cause + num.toNat % 2 ^ 32), mvFaultAddr := BitVec.ofNat 64 addr }

/-- Parity fails in the move engine's datapath (cause 0x02) or in the descriptor of a move (cause 0x03): the command is aborted with
FAULT, and the slot takes a core-logic fault (Table 21 of ch.05, site 0x04 of Table 1 of ch.15, R393). -/
def State.moveCheck (s : State) (d c : Nat) (num : BitVec 64) (cause : Nat) : State :=
  match (s.core d c).findRun 2 num with
  | some r =>
    if r.status = 0 then
      (((s.modCore d c (fun x => x.moveFault cause num 0)).raise (mkEvent 0x04 sevRecovered d c cause num.toNat)).coreFault d c).failRun
        d c 2 num stFault
    else s
  | none => s

/-- QUEUE_PARITY_ERROR (Table 26 of ch.05; MV_FAULT causes 0x02 and 0x03). -/
def execQueueParityError (die : Fin 16) (core : Fin 32) (what : ParitySite) (s : State) : Host.Outcome State Fault Refusal :=
  let s1 := (s.raise (mkEvent 0x04 sevRecovered die core stParity 0)).coreFault die core
  match what with
  | .command e num =>
    let fa (k : Cmd) : Cmd := if k.num = num then { k with parity := true } else k
    let fr (r : Run) : Run := if r.num = num ∧ !r.waited then { r with parity := true } else r
    .next (s1.modCore die core (fun x => x.modQ e (fun q => { q with acc := q.acc.map fa, run := q.run.map fr })))
  | .ringPointer e => .next (s1.haltQueue die core e .cmd stParity Config.haltOpcode.toNat)
  | .tileQueue t =>
    .next ((s1.modCore die core (fun x => x.setTileQueue t (x.tileQueue t).void)).haltAllParity die core)
  | .counter _ _ => .next (s1.haltAllParity die core)
  | .comparator _ _ => .next (s1.haltAllParity die core)
  | .moveData num => .next (s.moveCheck die core num 0x02)
  | .moveDesc num => .next (s.moveCheck die core num 0x03)

end Sys2Proof.Machine
end

