-- ==== Sys2Proof/Machine/Time.lean ====
section
/-! DEFINITION. Game time (ch.08): whistles, calibration, the choice of an upstream port, loss and relock, the external
reference, the kickoff table and round schedules. -/

namespace Sys2Proof.Machine

/-! ### Kickoffs (R233 to R237) -/

/-- Fields of a kickoff entry (Table 5 of ch.08). -/
def koArmed (w : BitVec 256) : Bool := bit w 255
def koStrict (w : BitVec 256) : Bool := bit w 254
def koLateSkip (w : BitVec 256) : Bool := bit w 253
def koPeriodic (w : BitVec 256) : Bool := bit w 252
def koAction (w : BitVec 256) : Nat := bits w 251 248
def koCore (w : BitVec 256) : Nat := bits w 247 243
def koTarget (w : BitVec 256) : Nat := bits w 127 64
def koPeriod (w : BitVec 256) : Nat := bits w 63 32
def koCount (w : BitVec 256) : Nat := bits w 31 16

/-- STATUS of a kickoff entry set. -/
def koStatus (w : BitVec 256) (st : Nat) : BitVec 256 := putBits w 195 192 st

/-- Statuses of a kickoff entry. -/
def koIdle : Nat := 0
def koStArmed : Nat := 1
def koFired : Nat := 2
def koFiredLate : Nat := 3
def koSkipped : Nat := 4
def koLost : Nat := 5
def koRefused : Nat := 6

/-- Entry e of the kickoff table of die d. -/
def State.ko (s : State) (d e : Nat) : BitVec 256 := mapGet 0 (s.die d).ko e

/-- An entry of a kickoff table replaced. -/
def State.setKo (s : State) (d e : Nat) (w : BitVec 256) : State := s.modDie d (fun x => { x with ko := mapSet 0 x.ko e w })

/-- An arrival counter (R352). -/
def State.arrival (s : State) (d i : Nat) : BitVec 64 := mapGet 0 (s.die d).arrival i

/-- An arrival counter set. -/
def State.setArrival (s : State) (d i : Nat) (v : BitVec 64) : State :=
  ((List.range 32).filter (fun c => (List.range 4).any (fun j => bit ((s.core d c).comparator 3 j) 63))).foldl
    (fun t c => s.latchFrom t d c) (s.modDie d (fun x => { x with arrival := mapSet 0 x.arrival i v }))

/-- An add to a counter of a core made from outside the core (R146, R306): held while the core is substituted (R398), without
effect on a core that is out (R399). -/
def State.addCounter (s : State) (d c e i : Nat) (v : BitVec 32) : State :=
  if s.coreOut d c then s
  else if s.substituting d c then s.holdAct d (.cntAdd c e i v)
  else (s.putCounter d c e i ((s.core d c).counter e i + v)).act d c

/-- A handle pushed into a tile queue of a core from outside the core. -/
def State.pushOutside (s : State) (d c t : Nat) (h : BitVec 64) : State :=
  if s.coreOut d c then s
  else if s.substituting d c then s.holdAct d (.push c t h)
  else (s.modCore d c (fun x => x.push t h)).act d c

/-- A pending bit of a tidy core set from outside the core. -/
def State.irqOutside (s : State) (d c b : Nat) : State :=
  if s.coreOut d c then s
  else if s.substituting d c then s.holdAct d (.irq c b)
  else s.modCore d c (fun x => x.tcPend b)

/-- The action of a kickoff (Table 6 of ch.08). -/
def State.koAct (s : State) (d : Nat) (w : BitVec 256) : State :=
  let op : BitVec 64 := BitVec.ofNat 64 (bits w 191 128)
  match koAction w with
  | 0 => s.addCounter d (koCore w) (bits w 242 241) (bits w 240 238) (op.setWidth 32)
  | 1 => s.pushOutside d (koCore w) (bits w 237 234) op
  | 2 => s.irqOutside d (koCore w) 8
  | 3 => s.setArrival d (bits w 233 222) (s.arrival d (bits w 233 222) + op)
  | _ => s

/-- The entry after a target fired or skipped (R237): one-shot entries clear ARMED; periodic ones step TARGET past `now` and
count every target stepped past. -/
def koNext (w : BitVec 256) (now : Nat) (st : Nat) (fired : Bool) : BitVec 256 :=
  let w1 := koStatus (if fired then putBits w 15 0 (satAdd 16 (bits w 15 0) 1) else w) st
  if !koPeriodic w then putBit w1 255 false
  else
    let per := 256 * koPeriod w
    let n := if now < koTarget w then 1 else (now - koTarget w) / per + 1
    let w2 := putBits w1 127 64 (koTarget w + n * per)
    if koCount w = 0 then w2
    else
      let left := koCount w - n
      let w3 := putBits w2 31 16 left
      if left = 0 then putBit w3 255 false else w3

/-- A target that local GT has reached: fired in time, fired late, or skipped (R235, R237). An action aimed at a core under
substitution makes the firing late (R398). -/
def State.koHit (s : State) (d e : Nat) (late : Bool) : State :=
  let w := s.ko d e
  let now := (s.localGt d).toNat
  if late && koLateSkip w then (s.setKo d e (koNext w now koSkipped false)).bump 0x5100 8
  else
    let held := decide (koAction w ≤ 2) && s.substituting d (koCore w)
    let s1 := (s.koAct d w).setKo d e (koNext w now (if late || held then koFiredLate else koFired) true)
    if late || held then s1.bump 0x5100 8 else s1

/-- Armed entries of a die whose target lies at or below `now`, in the order of R236. -/
def State.koDue (s : State) (d now : Nat) : List Nat :=
  let l := (List.range 64).filter (fun e => koArmed (s.ko d e) && decide (koTarget (s.ko d e) ≤ now))
  (l.mergeSort (fun a b => decide (koTarget (s.ko d a) < koTarget (s.ko d b) ∨
    (koTarget (s.ko d a) = koTarget (s.ko d b) ∧ a ≤ b))))

/-- Local GT of the die runs: it is set and not held (R218, R232). -/
def State.gtRuns (s : State) (d : Nat) : Bool := s.gtState d != 0 && s.gt.hold.isNone

/-- A write of a kickoff top word with ARMED = 1 (R234). -/
def State.koArm (s : State) (d e : Nat) (top : BitVec 64) : State :=
  let w0 := s.ko d e
  if koArmed w0 then s.raise (softEvent d e 0 (memKey d (0x080400010000 + 0x20 * e)))
  else
    let w := putBits (putBits w0 255 196 (bits top 63 4)) 221 196 0
    let core := koCore w
    if 4 ≤ koAction w ∨ (koPeriodic w ∧ koPeriod w < 100) ∨ (koAction w ≤ 2 ∧ s.coreOut d core) then
      s.setKo d e (putBit (koStatus w koRefused) 255 false)
    else
      let w1 := putBits (koStatus w koStArmed) 15 0 0
      if koStrict w ∧ s.gtState d = 2 then s.setKo d e (putBit (koStatus w koLost) 255 false)
      else
        let s1 := s.setKo d e w1
        if s.gtRuns d ∧ koTarget w < (s.localGt d).toNat then s1.koHit d e true else s1

/-- KICKOFF_ARM. -/
def execKickoffArm (die : Fin 16) (e : Fin 64) (top : BitVec 64) (s : State) : Host.Outcome State Fault Refusal :=
  .next (if bit top 63 then s.koArm die e top else s)

/-- A write of a kickoff top word with ARMED = 0 disarms the entry and sets STATUS IDLE (R234). A target reached in the same
cycle has fired first (R236). -/
def State.koDisarm (s : State) (d e : Nat) (top : BitVec 64) : State :=
  let w0 := s.ko d e
  let s1 := if koArmed w0 ∧ s.gtRuns d ∧ koTarget w0 ≤ (s.localGt d).toNat then s.koHit d e false else s
  if koArmed w0 ∧ s.gtRuns d ∧ koTarget w0 ≤ (s.localGt d).toNat then s1
  else s1.setKo d e (koStatus (putBits (putBits w0 255 196 (bits top 63 4)) 221 196 0) koIdle)

/-- KICKOFF_DISARM. -/
def execKickoffDisarm (die : Fin 16) (e : Fin 64) (top : BitVec 64) (s : State) : Host.Outcome State Fault Refusal :=
  .next (if bit top 63 then s else s.koDisarm die e top)

/-- KICKOFF_FIRE: local GT has reached the target of an armed entry, and no entry comes before it (R235, R236). -/
def execKickoffFire (die : Fin 16) (e : Fin 64) (s : State) : Host.Outcome State Fault Refusal :=
  if s.gtRuns die ∧ (s.koDue die (s.localGt die).toNat).head? = some e.val then .next (s.koHit die e false) else .next s

/-! ### Steps and losses of game time (R159, R231, R232, R237) -/

/-- Every AWAIT_GT in execution, as (die, core, engine, command). -/
def State.awaiting (s : State) : List (Nat × Nat × Nat × Run) :=
  s.cores.flatMap (fun kv => [0, 1, 2].flatMap (fun e =>
    ((kv.2.q e).run.filter (fun r => r.awaits.contains .gt)).map (fun r => (kv.1 / 32, kv.1 % 32, e, r))))

/-- Armed kickoffs of a die whose target its local GT has passed fire late, or skip (R237). -/
def State.koPassed (s : State) (d : Nat) : State :=
  let now := (s.localGt d).toNat
  if s.gtRuns d && now != 0 then (s.koDue d (now - 1)).foldl (fun s e => s.koHit d e true) s else s

/-- Local GT has stepped: kickoffs and AWAIT_GTs whose targets it passed fire late (R232). -/
def State.gtStepped (s : State) : State :=
  let s1 := (List.range 16).foldl State.koPassed s
  s1.awaiting.foldl (fun s t => if t.2.2.2.target < s.localGt t.1 then s.awaitEnd t.1 t.2.1 t.2.2.1 t.2.2.2 true else s) s1

/-- The module has left LOCKED: STRICT kickoffs are cancelled with LOST, STRICT AWAIT_GTs fail with GT_LOST (R231). Moves
bound by a STRICT schedule are released by `State.gtMoves`. -/
def State.gtUnlocked (s : State) : State :=
  let s1 := (List.range 16).foldl (fun s d => (List.range 64).foldl (fun s e =>
    let w := s.ko d e
    if koArmed w && koStrict w then s.setKo d e (putBit (koStatus w koLost) 255 false) else s) s) s
  s1.awaiting.foldl (fun s t => if s.awaitLost t.1 t.2.2.2.word then s.awaitEnd t.1 t.2.1 t.2.2.1 t.2.2.2 false else s) s1

/-- GT set to a value that runs on from now. -/
def State.gtSetTo (s : State) (v : Nat) : State :=
  { s with gt := { s.gt with base := v % 2 ^ 64, frac := 0, at_ := s.time, hold := none } }

/-- The rates changed from now on; GT itself does not jump, its fraction included (R217). -/
def State.gtRates (s : State) (ppm slew : Int) : State :=
  { s with gt := { s.gt with base := s.gtNow, frac := if s.gt.st = 0 then 0 else s.gtFine % 1000000, at_ := s.time, ppm := ppm,
                             slew := slew } }

/-- The one rate of a module that follows no external reference. -/
def State.gtRate (s : State) (ppm : Int) : State := s.gtRates ppm 0

/-- Local GT has jumped by `n`: the offsets of the ports' partners fall by as much (R225). -/
def State.offsetsBy (s : State) (n : Int) : State :=
  { s with gt := { s.gt with ports := s.gt.ports.map (fun kv => (kv.1, { kv.2 with offset := kv.2.offset - n })) } }

/-- GT stepped forward to a value (R229, R232): the module is LOCKED. -/
def State.gtForward (s : State) (v : Nat) : State :=
  let s1 := (s.offsetsBy ((v : Int) - s.gtNow)).gtSetTo v
  { s1 with gt := { s1.gt with st := 1 } }.gtStepped

/-- R226: the servo's rate toward an offset, within ±20 ppm; within it the rate is free. -/
def servoRate (off : Int) : Int :=
  if off = 0 then 0 else if 0 < off then min (Config.servoPpm off) 20 else -(min (Config.servoPpm off) 20 : Int)

/-- R232: GT moved toward an upstream that stands `delta` ahead: slewed within 2 ns, stepped forward, or held. -/
def State.gtRelock (s : State) (delta : Int) (upGt : Nat) : State :=
  if s.gt.st = 0 then (s.gtRate 0).gtForward upGt
  else if -512 ≤ delta ∧ delta ≤ 512 then
    let s1 := s.gtRate (servoRate delta)
    { s1 with gt := { s1.gt with st := 1 } }
  else if 0 < delta then s.gtForward (s.gtNow + delta.toNat)
  else
    let s1 := (s.offsetsBy delta).gtRates s.gt.ppm s.gt.slew
    { s1 with gt := { s1.gt with hold := some (s.time + delta.natAbs), st := 2, since := s.time, waiting := false } }.gtUnlocked

/-! ### Upstream ports (R221 to R224) -/

/-- A port is eligible as an upstream port (R222, R223). -/
def State.gtEligible (s : State) (p : Nat) : Bool :=
  let g := s.gtPort p
  s.linkUp p && g.cal && g.seen && g.pcal && decide (s.time ≤ g.at_ + 10 * tickUs) && g.st == 1 && decide (g.hops.toNat < 63)
    && !s.gt.waiting && decide (s.gt.notBefore ≤ g.at_)

/-- Referee `a` (rank, module) is better than `b` (R221). -/
def refBetter (a b : Nat × Nat) : Bool := decide (a.1 < b.1) || (a.1 == b.1 && decide (a.2 < b.2))

/-- The order of R222 among ports: referee, hops, port. -/
def State.portBetter (s : State) (p q : Nat) : Bool :=
  let a := s.gtPort p
  let b := s.gtPort q
  let ra := (a.rank.toNat, a.ref.toNat)
  let rb := (b.rank.toNat, b.ref.toNat)
  refBetter ra rb || (ra == rb && (decide (a.hops.toNat < b.hops.toNat) || (a.hops == b.hops && decide (p < q))))

/-- The best of the ports that satisfy a condition. -/
def State.bestPort (s : State) (ok : Nat → Bool) : Option Nat :=
  ((List.range 128).filter ok).foldl (fun b p => match b with | none => some p | some q => some (if s.portBetter p q then p else q)) none

/-- The module follows a port: its referee, rank and hops (R222). -/
def State.follow (s : State) (p : Nat) : State :=
  let g := s.gtPort p
  { s with gt := { s.gt with up := some p, ref := g.ref, rank := g.rank, hops := g.hops + 1, referee := false,
                             lastStamp := s.time, waiting := false } }

/-- HOLDOVER entered after loss of lock (R223, R231). -/
def State.gtHoldover (s : State) : State :=
  let s1 := s.gtRate s.gt.ppm
  let s2 : State := { s1 with gt := { s1.gt with st := 2, up := none, since := s.time, waiting := true } }
  ((s2.bump 0x5100 7).raise (moduleEvent 0x0F sevAdvisory 0 0)).gtUnlocked

/-- GT of the partner on port p now: at its last whistle, by the delay of the carrier in use, and the time since (R225, R232). -/
def State.upstreamGt (s : State) (p : Nat) : Nat :=
  let g := s.gtPort p
  ((g.ttx.toNat : Int) + (if (s.port p).onL0 then g.delay0 else g.delayS) + (s.time - g.at_ : Nat)).toNat

/-- An upstream port accepted from HOLDOVER or UNSET, or by a referee that gives up its role (R224, R232). -/
def State.accept (s : State) (p : Nat) : State :=
  (s.follow p).gtRelock ((s.upstreamGt p : Int) - s.gtNow) (s.upstreamGt p)

/-- R226, R229: a LOCKED module after a whistle of its upstream port: the servo slews by the filtered offset; a partner found more than
2 ns ahead has stepped forward, and is followed as a relock (DEDUCED, log 107). -/
def State.steer (s : State) (p : Nat) : State :=
  let s1 := s.follow p
  let delta := (s.upstreamGt p : Int) - s.gtNow
  if 512 < delta then s1.gtRelock delta (s.upstreamGt p) else s1.gtRate (servoRate (s.gtPort p).offset)

/-- The port to which a LOCKED module may move without leaving LOCKED (R223). -/
def State.sameTree (s : State) (hops : Nat) : Option Nat :=
  s.bestPort (fun p => s.gtEligible p && (s.gtPort p).ref == s.gt.ref && decide ((s.gtPort p).hops.toNat ≤ hops))

/-- R223: the old upstream port is no longer eligible: another of the same tree, or HOLDOVER. -/
def State.leavePort (s : State) : State :=
  match s.sameTree (s.gt.hops.toNat - 1) with
  | some p => s.follow p
  | none => s.gtHoldover

/-! ### Whistles (R219, R220, R225) -/

/-- The whistle a port sends now (Table 2 of ch.08). -/
def State.whistleFrame (s : State) (p : Nat) : BitVec 256 :=
  let g := s.gtPort p
  let now := s.gtNow
  BitVec.ofNat 256 (field 248 0x01 + field 244 s.gt.st.toNat + field 243 s.gt.referee.toNat + field 242 g.cal.toNat
    + field 232 s.gt.rank.toNat + field 224 s.gt.hops.toNat + field 208 s.gt.ref.toNat + field 192 s.moduleId
    + field 128 now + field 64 g.ttx.toNat + field 32 (if g.seen then (now - g.stamp) % 2 ^ 32 else 0) + s.epoch)

/-- The carrier of a port's whistles: that of its class 0; while the port calibrates, λ0 once 256 exchanges have been made on λS
(R225). -/
def State.whistleL0 (s : State) (p : Nat) : Bool := (s.port p).onL0 || (!(s.gtPort p).cal && (s.gtPort p).nS == 256)

/-- WHISTLE_SEND: on a port whose link is up; a port without λS sends none during a pause, and a fenced module none at all
(R219, R266, R421). -/
def execWhistleSend (port : Fin 128) (s : State) : Host.Outcome State Fault Refusal :=
  if s.linkUp port && !s.fenced && !(s.portSt port == 6 && (s.port port).onL0) then
    .next (s.sendOn port (s.whistleFrame port) (s.whistleL0 port))
  else .next s

/-- One exchange taken into the calibration of a port (R225): summed while CAL is clear, 256 on λS and then 256 on λ0;
filtered with a time constant of 64 whistles from then on. -/
def GtPort.exchange (g : GtPort) (onL0 : Bool) (delay offset : Int) : GtPort :=
  if !g.cal then
    if !onL0 && decide (g.nS < 256) then { g with nS := g.nS + 1, delayS := g.delayS + delay, offset := offset }
    else if onL0 && decide (g.n0 < 256) then { g with n0 := g.n0 + 1, delay0 := g.delay0 + delay, offset := offset }
    else { g with offset := offset }
  else if onL0 then { g with delay0 := g.delay0 + (delay - g.delay0) / 64, offset := g.offset + (offset - g.offset) / 64 }
  else { g with delayS := g.delayS + (delay - g.delayS) / 64, offset := g.offset + (offset - g.offset) / 64 }

/-- What a whistle says, taken into the port (R220, R225). One that echoes no whistle, T_ECHO and TURN
both 0, is no exchange (DEDUCED, log 106). -/
def GtPort.hear (g : GtPort) (f : BitVec 256) (stamp : BitVec 64) (now : Nat) (onL0 : Bool) : GtPort :=
  let t1 : Int := bits f 127 64
  let t3 : Int := bits f 191 128
  let t4 : Int := stamp.toNat
  let delay := ((t4 - t1) - (bits f 63 32 : Int)) / 2
  let g1 := if bits f 127 64 = 0 ∧ bits f 63 32 = 0 then g else g.exchange onL0 delay (t3 + delay - t4)
  { g1 with seen := true, at_ := now, stamp := stamp.toNat, st := BitVec.ofNat 4 (bits f 247 244), pcal := bit f 242,
            hops := BitVec.ofNat 8 (bits f 231 224), rank := BitVec.ofNat 8 (bits f 239 232),
            ref := BitVec.ofNat 16 (bits f 223 208), ttx := BitVec.ofNat 64 (bits f 191 128),
            pmod := BitVec.ofNat 16 (bits f 207 192) }

/-- Two referees advertise one rank (R221): the module's own source of GT, or a port other than p heard within 10 µs, names another
LOCKED referee of this rank. -/
def State.rankClash (s : State) (p : Nat) (rank ref : Nat) : Bool :=
  (s.gt.st == 1 && s.gt.rank.toNat == rank && s.gt.ref.toNat != ref)
  || (List.range 128).any (fun q => let g := s.gtPort q
      q != p && g.seen && decide (s.time ≤ g.at_ + 10 * tickUs) && g.st == 1 && g.rank.toNat == rank && g.ref.toNat != ref)

/-- The event of R221, where a port comes to name a referee whose rank another advertises too. -/
def State.noteRanks (s : State) (p : Nat) (old : GtPort) : State :=
  let g := s.gtPort p
  if g.st = 1 ∧ ¬(old.seen ∧ old.st = 1 ∧ old.rank = g.rank ∧ old.ref = g.ref) ∧ s.rankClash p g.rank.toNat g.ref.toNat then
    s.raise (moduleEvent 0x0F sevNote 0 g.ref.toNat)
  else s

/-- What the time unit does after a whistle on port p (R221 to R224, R226, R232). -/
def State.gtDecide (s : State) (p : Nat) : State :=
  let g := s.gtPort p
  if s.gt.referee then
    if g.st = 1 ∧ g.ref ≠ s.gt.ref ∧ refBetter (g.rank.toNat, g.ref.toNat) (s.gt.rank.toNat, s.gt.ref.toNat) then
      let s1 : State := { s with gt := { s.gt with referee := false, up := none, ref := g.ref, rank := g.rank } }
      if s1.gtEligible p then s1.accept p else s1
    else s
  else if s.gt.st = 1 then
    match s.gt.up with
    | some u =>
      if u = p then
        if s.gtEligible p then s.steer p else s.leavePort
      else match s.sameTree (s.gt.hops.toNat - 1) with
        | some q => if q = p ∧ s.portBetter p u then s.follow p else s
        | none => s
    | none => if s.gtEligible p then s.accept p else s
  else if s.gt.hold.isSome ∨ s.gt.waiting then s
  else match s.bestPort s.gtEligible with
    | some q => s.accept q
    | none => s

/-- A whistle received on λS or λ0 (R219 to R226, R232). -/
def State.whistle (s : State) (p : Nat) (f : BitVec 256) (stamp : BitVec 64) (onL0 : Bool) : State :=
  if !s.linkUp p || bits f 255 248 != 0x01 then s
  else
    let s1 := (s.modGtPort p (fun g => g.hear f stamp s.time onL0)).noteRanks p (s.gtPort p)
    let g := s1.gtPort p
    let s2 : State := { s1 with gt := { s1.gt with
      lastStamp := if s1.gtEligible p then s.time else s1.gt.lastStamp
      lastLocked := if g.st = 1 then s.time else s1.gt.lastLocked } }
    s2.gtDecide p

/-- LINK_CALIBRATION_DONE: 256 exchanges on λS and 256 on λ0 are averaged and CAL is set (R225). -/
def execLinkCalibrationDone (port : Fin 128) (s : State) : Host.Outcome State Fault Refusal :=
  let g := s.gtPort port
  if s.linkUp port && !g.cal && g.nS == 256 && g.n0 == 256 then
    .next (s.modGtPort port (fun g => { g with cal := true, delayS := g.delayS / 256, delay0 := g.delay0 / 256 }))
  else .next s

/-- 10 µs without a usable stamp (R231). -/
def State.lossOfLock (s : State) : State :=
  if s.gt.st = 1 ∧ s.gt.referee = false ∧ s.gt.lastStamp + 10 * tickUs ≤ s.time then s.gtHoldover else s

/-- HOLDOVER_WAIT_END: from 20 µs in HOLDOVER on, new whistles may make a port eligible (R223). -/
def execHoldoverWaitEnd (s : State) : Host.Outcome State Fault Refusal :=
  if s.gt.st = 2 ∧ s.gt.waiting ∧ s.gt.since + 20 * tickUs ≤ s.time then
    .next { s with gt := { s.gt with waiting := false, notBefore := s.time } }
  else .next s

/-- GT_HOLD_END: the hold after relock ends and the module is LOCKED (R232). A kickoff armed in the hold with its target passed
proceeds as a late one (R237). -/
def execGtHoldEnd (s : State) : Host.Outcome State Fault Refusal :=
  match s.gt.hold with
  | some t =>
    if t ≤ s.time then
      .next { s with gt := { s.gt with at_ := s.time, hold := none, st := 1, lastStamp := s.time } }.gtStepped
    else .next s
  | none => .next s

/-- The time from which a candidate counts (R224): the last LOCKED whistle; in UNSET, the start of step 11 of start-up where that is
later. -/
def State.takeoverFrom (s : State) : Nat := if s.gt.st = 0 then max s.gt.lastLocked s.gt.since else s.gt.lastLocked

/-- REFEREE_TAKEOVER: a candidate in HOLDOVER or UNSET that has heard no LOCKED whistle for its time (R224). It continues from its own
holdover GT, a hold ended, or begins at 0. -/
def execRefereeTakeover (s : State) : Host.Outcome State Fault Refusal :=
  let rank := s.obj 0x5101 1
  let wait := (s.obj 0x5900 1 + 20 * rank) * tickUs
  if (s.gt.st = 2 ∨ (s.gt.st = 0 ∧ (s.obj 0xB000 1 = 11 ∨ s.obj 0xB000 1 = 12))) ∧ s.gt.referee = false ∧ rank < 255
      ∧ s.takeoverFrom + wait ≤ s.time then
    let s0 := s.gtRate 0
    .next ({ s0 with gt := { s0.gt with
      st := 1, hold := none, referee := true, rank := BitVec.ofNat 8 rank, ref := BitVec.ofNat 16 s.moduleId, hops := 0,
      up := none, waiting := false } } : State).gtStepped
  else .next s

/-- TIME_FRAME: the time unit sends GT to every die; each die's local GT already is the module's GT, with path delays
compensated (R230). -/
def execTimeFrame (s : State) : Host.Outcome State Fault Refusal := .next s

/-- DIE_GT_RESYNC: a woken die has resynchronised (R230); kickoffs armed meanwhile whose targets have passed are late (R237). -/
def execDieGtResync (die : Fin 16) (s : State) : Host.Outcome State Fault Refusal :=
  .next (if s.dieRuns die && (s.die die).gtResync then (s.modDie die (fun x => { x with gtResync := false })).koPassed die else s)

/-! ### External reference (R228, R229) -/

/-- The nearest whole second of GT, in 1/256 ns. -/
def nearestSecond (gt : Nat) : Nat := (gt + tickS / 2) / tickS * tickS

/-- A PPS edge at the referee (R228, R229): a pending GT.SET_AT_PPS, else the phase error to the nearest second is slewed away at
1 ppm at most, on top of the rate of TIME_IN_10M; above 1 µs on three edges running it is logged and removed by a step or a
hold. -/
def State.ppsEdge (s : State) (widthNs : Nat) : State :=
  if !s.gt.referee then s
  else match s.gt.ppsSet with
    | some v =>
      let target := v.toNat * 256 + s.gtNow % 256
      let s1 : State := { s with gt := { s.gt with ppsSet := none } }
      if s.gtNow ≤ target then s1.gtForward target else s1
    | none =>
      if s.obj 0x5101 2 ≠ 1 ∨ widthNs < 1000 ∨ 500000000 < widthNs then s
      else
        let err : Int := (nearestSecond s.gtNow : Int) - s.gtNow
        if err.natAbs ≤ 256000 then
          let rate : Int := if err = 0 then 0 else if 0 < err then min (Config.servoPpm err) 1 else -(min (Config.servoPpm err) 1 : Int)
          let s1 := s.gtRates s.gt.ppm rate
          { s1 with gt := { s1.gt with ppsBad := 0 } }
        else if s.gt.ppsBad < 2 then { s with gt := { s.gt with ppsBad := s.gt.ppsBad + 1 } }
        else
          let s1 : State := { s with gt := { s.gt with ppsBad := 0, slew := 0 } }
          (s1.raise (moduleEvent 0x0F sevNote 0 err.natAbs)).gtRelock err (nearestSecond s.gtNow)

/-- The referee's rate follows TIME_IN_10M within ±10 ppm of nominal, else the panel reference (R228). -/
def State.tenMhzRate (s : State) (ppm : Option Int) : State :=
  let s1 := s.gtRates (ppm.getD 0) s.gt.slew
  { s1 with gt := { s1.gt with tenMhz := ppm.isSome } }

/-- A rate within ±10 ppm of nominal. -/
def tenMhzOk (ppm : Int) : Bool := decide (-10 ≤ ppm) && decide (ppm ≤ 10)

/-- TEN_MHZ_MONITOR at the referee: an input out of ±10 ppm or absent for 10 µs is ignored and logged; one within drives the
rate (R228). -/
def execTenMhzMonitor (present : Bool) (ppm : Int) (s : State) : Host.Outcome State Fault Refusal :=
  if !s.gt.referee || s.obj 0x5101 2 != 1 then .next s
  else if present && tenMhzOk ppm then .next (s.tenMhzRate (some ppm))
  else .next ((s.tenMhzRate none).raise (moduleEvent 0x0F sevNote 0 0))

/-- The rate of TIME_IN_10M as it returns within limits: any rate within ±10 ppm (R228). -/
def tenMhzBack (time : Nat) : Int := ((Config.tenMhzPpm time % 21 : Nat) : Int) - 10

/-- TIME_IN_10M is back within limits: the referee locks its rate to it again (R228). -/
def execTimeIn10mReturn (s : State) : Host.Outcome State Fault Refusal :=
  .next (if s.gt.referee && s.obj 0x5101 2 == 1 then s.tenMhzRate (some (tenMhzBack s.time)) else s)

/-- A value that GT bits [63:8] cannot take (R229): one below the current GT, or of more than 56 bits (DESIGN CHOICE, log 105). -/
def State.gtSetBad (s : State) (v : Nat) : Bool := decide (v * 256 + s.gtNow % 256 < s.gtNow) || decide (2 ^ 56 ≤ v)

/-- A write of GT.SET (R229): status, and GT stepped forward at the referee. -/
def State.gtSet (s : State) (v : Nat) : Nat × State :=
  if !s.gt.referee then (rpState, s)
  else if s.gtSetBad v then (rpRange, s.raise (moduleEvent 0x0F sevNote 0 v))
  else (rpOk, s.gtForward (v * 256 + s.gtNow % 256))

/-- GT_SET. -/
def execGtSet (v : BitVec 64) (s : State) : Host.Outcome State Fault Refusal := .next (s.objRowDone (s.gtSet v.toNat))

/-- A write of GT.SET_AT_PPS (R229). -/
def State.gtSetAtPps (s : State) (v : Nat) : Nat × State :=
  if !s.gt.referee then (rpState, s)
  else if s.gtSetBad v then (rpRange, s.raise (moduleEvent 0x0F sevNote 0 v))
  else (rpOk, { s with gt := { s.gt with ppsSet := some (BitVec.ofNat 64 v) } })

/-- GT_SET_AT_PPS. -/
def execGtSetAtPps (v : BitVec 64) (s : State) : Host.Outcome State Fault Refusal :=
  .next (s.objRowDone (s.gtSetAtPps v.toNat))

/-! ### Round schedules (R238 to R242) -/

/-- A round schedule at reset: GUARD_NS 0x0020, all else 0 (Table 7 of ch.08). -/
def rsReset : BitVec 256 := BitVec.ofNat 256 (field 144 0x0020)

/-- Round schedule i of die d. The table holds its word with the reset word taken off bit by bit. -/
def State.rs (s : State) (d i : Nat) : BitVec 256 := mapGet 0 (s.die d).rs i ^^^ rsReset

/-- A round schedule replaced. -/
def State.setRs (s : State) (d i : Nat) (w : BitVec 256) : State :=
  s.modDie d (fun x => { x with rs := mapSet 0 x.rs i (w ^^^ rsReset) })

/-- Fields of a round schedule. -/
def rsValid (w : BitVec 256) : Bool := bit w 255
def rsStrict (w : BitVec 256) : Bool := bit w 254
def rsSlots (w : BitVec 256) : Nat := bits w 239 224
def rsSlotNs (w : BitVec 256) : Nat := bits w 223 192
def rsMask (w : BitVec 256) : Nat := bits w 191 160
def rsGuard (w : BitVec 256) : Nat := bits w 159 144
def rsStart (w : BitVec 256) : Nat := bits w 127 64
def rsPeriods (w : BitVec 256) : Nat := bits w 63 32

/-- A schedule may be put in force (R238). -/
def State.rsOk (s : State) (d i : Nat) (w : BitVec 256) : Bool :=
  decide (1 ≤ rsSlots w) && decide (200 ≤ rsSlotNs w) && decide (rsGuard w + 100 ≤ rsSlotNs w)
  && !(List.range 16).any (fun j => j != i && rsValid (s.rs d j) && (rsMask (s.rs d j) &&& rsMask w) != 0)

/-- A write of a schedule's top word with VALID = 1 (R238): in force, refused and logged, or, while in force, discarded and
logged (R234). -/
def State.rsValidate (s : State) (d i : Nat) (top : BitVec 64) : State :=
  let w0 := s.rs d i
  let w := putBits (putBits w0 255 192 top.toNat) 253 240 0
  if rsValid w0 || !s.rsOk d i w then s.raise (softEvent d i 0 (memKey d (0x080400010800 + 0x20 * i))) else s.setRs d i w

/-- ROUND_SCHEDULE_VALIDATE. -/
def execRoundScheduleValidate (die : Fin 16) (rs : Fin 16) (top : BitVec 64) (s : State) : Host.Outcome State Fault Refusal :=
  .next (if bit top 63 then s.rsValidate die rs top else s)

/-- A write of VALID = 0 ends a schedule. -/
def State.rsInvalidate (s : State) (d i : Nat) (top : BitVec 64) : State :=
  s.setRs d i (putBits (putBits (s.rs d i) 255 192 top.toNat) 253 240 0)

/-- ROUND_SCHEDULE_INVALIDATE. -/
def execRoundScheduleInvalidate (die : Fin 16) (rs : Fin 16) (top : BitVec 64) (s : State) :
    Host.Outcome State Fault Refusal :=
  .next (if bit top 63 then s else s.rsInvalidate die rs top)

/-- The slot, counted from slot 0 of period 0, that GT `now` lies in, and whether its admission close has passed. -/
def rsNow (w : BitVec 256) (now : Nat) : Nat × Bool :=
  let len := 256 * rsSlotNs w
  ((now - rsStart w) / len, decide (len - 256 * rsGuard w ≤ (now - rsStart w) % len))

/-- GT at which slot n begins, and its admission close. -/
def rsSlotStart (w : BitVec 256) (n : Nat) : Nat := rsStart w + n * (256 * rsSlotNs w)
def rsSlotClose (w : BitVec 256) (n : Nat) : Nat := rsSlotStart w (n + 1) - 256 * rsGuard w

/-- Slots of a schedule in all; none where PERIODS is 0, unlimited. -/
def rsTotal (w : BitVec 256) : Option Nat := if rsPeriods w = 0 then none else some (rsPeriods w * rsSlots w)

/-- R239: the slot a class-1 move binds to at GT `now`; none once the last period is over. -/
def rsBind (w : BitVec 256) (now : Nat) : Option Nat :=
  let n := if now < rsStart w then 0 else (let p := rsNow w now; if p.2 then p.1 + 1 else p.1)
  match rsTotal w with
  | some t => if n < t then some n else none
  | none => some n

/-- The valid schedule that names core c (R238). -/
def State.rsOf (s : State) (d c : Nat) : Option Nat :=
  (List.range 16).find? (fun i => rsValid (s.rs d i) && (rsMask (s.rs d i)).testBit c)

/-- ROUND_SCHEDULE_EXPIRE: the last period is over and the unit clears VALID (R238). -/
def execRoundScheduleExpire (die : Fin 16) (rs : Fin 16) (s : State) : Host.Outcome State Fault Refusal :=
  let w := s.rs die rs
  match rsTotal w with
  | some t =>
    if rsValid w && s.gtRuns die && decide (rsSlotStart w t ≤ (s.localGt die).toNat) then
      .next (s.setRs die rs (putBit w 255 false))
    else .next s
  | none => .next s

end Sys2Proof.Machine
end

