-- ==== Sys2Proof/Machine/Fabric.lean ====
section
/-! DEFINITION. The Folequa fabric (ch.11) and the merging of requests at light dies (R346 to R348): routes, spraying,
queues, link frames, flow control, class-0 frames and flags. -/

namespace Sys2Proof.Machine

/-- Sources of events: 0-15 compute dies, 16-23 light dies, 24 the steward. -/
def lightSource (l : Nat) : Nat := 16 + l

/-- An event of the fabric at the light die of a port. -/
def State.portEvent (s : State) (p site sev cause detail : Nat) : State :=
  s.raise (mkEvent site sev (lightSource (lightOf p)) p cause detail)

/-! ### Routes (R308 to R310) -/

/-- Route entry of a module as the steward holds it. -/
def State.route (s : State) (m : Nat) : BitVec 512 := mapGet 0 s.fab.routes m

/-- Route entry as light die l holds it at a lookup now (R309). -/
def State.routeAt (s : State) (l m : Nat) : BitVec 512 :=
  match mapGet (0, 0) s.fab.old m with
  | (t, e) => if t ≠ 0 ∧ s.time < t - 1 + 10 * tickUs ∧ Config.routeOld l m s.time then e else s.route m

/-- VALID and MASK of an entry, and the weight of port p (Table 6). -/
def routeValid (e : BitVec 512) : Bool := bit e 127
def routeMask (e : BitVec 512) (p : Nat) : Bool := bit e (384 + p)
def routeWeight (e : BitVec 512) (p : Nat) : Nat := 2 ^ bits e (129 + 2 * p) (128 + 2 * p)

/-- Effective weight of a port (R310): W(p)·L(p), L as spraying follows it. -/
def State.effWeight (s : State) (e : BitVec 512) (p : Nat) : Nat := routeWeight e p * mapGet 0 s.fab.eff p

/-- The logical ports of a light die. -/
def portsOf (l : Nat) : List Nat := (List.range 16).map (fun i => 16 * l + i)

/-- The partner of a port has set XOFF for a class. -/
def State.xoff (s : State) (p cls : Nat) : Bool := bit (s.port p).xoffIn cls

/-- What a light die can do with a packet. -/
inductive Egress where
  | port (p : Nat)
  /-- every eligible port is held in XOFF (R312) -/
  | wait
  /-- no usable route (R329, R330) -/
  | none
deriving DecidableEq, Repr

/-- Ports of the entry on light die l that are eligible for the class. -/
def State.usable (s : State) (l : Nat) (e : BitVec 512) (cls : Nat) : List Nat :=
  if routeValid e then (portsOf l).filter (fun p => routeMask e p && s.eligible p cls) else []

/-- The egress port of a packet at light die l (R312). -/
def State.egress (s : State) (l : Nat) (k : Packet) : Egress × State :=
  let e := s.routeAt l k.dstModule.toNat
  let u := s.usable l e k.cls.toNat
  let c := (u.filter (fun p => !s.xoff p k.cls.toNat)).map (fun p => (p, s.effWeight e p))
  let r := smoothPick (s.light l).cur ((k.dstModule.toNat * 4 + k.cls.toNat) * 128) c
  match r.1 with
  | some p => (.port p, s.modLight l (fun x => { x with cur := r.2 }))
  | none => (if u.isEmpty then .none else .wait, s)

/-- Share of light die l for a destination: the summed effective weights of its ports in MASK (R311). -/
def State.share (s : State) (e : BitVec 512) (l : Nat) : Nat :=
  if routeValid e then (portsOf l).foldl (fun t p => if routeMask e p then t + s.effWeight e p else t) 0 else 0

/-- The light die a packet goes to (R311): `src` is 0-15 for a compute die, 16 + l for a light die that relays. -/
def State.pickLight (s : State) (src m : Nat) : Option Nat × State :=
  let e := s.route m
  let c := ((List.range 8).map (fun l => (l, s.share e l))).filter (fun x => decide (0 < x.2))
  let r := smoothPick s.fab.curLight ((src * 65536 + m) * 8) c
  (r.1, if r.1.isSome then { s with fab := { s.fab with curLight := r.2 } } else s)

/-! ### Merging (R346 to R348) -/

/-- The source whose stores may collapse: ORIG of a WRITE_M, else the source (R348). -/
def writeSource (k : Packet) : Nat × Nat :=
  if k.op = 0x0A then (bits k.opx 63 48, bits k.opx 47 44) else (k.srcModule.toNat, k.srcDie.toNat)

/-- The operation two requests have in common, where each may be merged: 1 read, 2 write, 4 atomic (R347, R348). -/
def mergeKind (k : Packet) : Nat :=
  if k.ord || k.tile then 0
  else if k.op = 0x01 ∨ k.op = 0x09 then 1
  else if k.op = 0x02 ∨ k.op = 0x0A then (if k.addr.toNat % 128 = 0 ∧ bits k.opx 6 0 = 127 then 2 else 0)
  else if k.op = 0x04 ∨ k.op = 0x0C then (if bits k.opx 2 0 = 0 then 4 else 0)
  else 0

/-- Two requests are alike (R347) or their stores collapse (R348). -/
def alike (a b : Packet) : Bool :=
  mergeKind a != 0 && mergeKind a == mergeKind b && a.dstModule == b.dstModule && a.dstDie == b.dstDie && a.addr == b.addr
  && a.lines == b.lines && a.cls == b.cls
  && (if mergeKind a = 2 then writeSource a == writeSource b else a.opx == b.opx)

/-- First operand of an atomic packet. -/
def addend (k : Packet) : BitVec 64 := BitVec.ofNat 64 (ofBytes (k.payload.take 8))

/-- A request as an original of a merge entry. -/
def mergeOrig (k : Packet) : MergeOrig :=
  { op := k.op, m := k.srcModule, d := k.srcDie, txn := k.txn, add := if mergeKind k = 4 then addend k else 0 }

/-- The request that the survivor becomes: the waiting packet's place, the newer store's data, the sum of two adds. -/
def merged (w n : Packet) (m epoch l e : Nat) : Packet :=
  let sum : BitVec 64 := addend w + addend n
  let orig := writeSource w
  let k : Packet := match mergeKind w with
    | 1 => { w with op := 0x09 }
    | 2 => { w with op := 0x0A, payload := n.payload, opx := BitVec.ofNat 64 (field 48 orig.1 + field 44 orig.2 + 127) }
    | _ => { w with op := 0x0C, payload := toBytes 8 sum.toNat ++ w.payload.drop 8 }
  let k1 : Packet := { k with srcModule := BitVec.ofNat 16 m, srcDie := BitVec.ofNat 4 l, txn := BitVec.ofNat 15 e,
                              epoch := BitVec.ofNat 32 epoch }
  k1.seal

/-- The merge counter of a kind (Table 8 of ch.12). -/
def mergeCounter (k : Packet) : Nat := match mergeKind k with
  | 1 => 6
  | 2 => 8
  | _ => 7

/-- A packet placed in the queue of port p of light die l, merged into a waiting one where the rules allow (R346). -/
def State.place (s : State) (l p : Nat) (k : Packet) : State :=
  let q := (s.port p).voq
  let plain := s.modPort p (fun x => { x with voq := x.voq ++ [k] })
  if s.obj 0x6830 2 = 0 ∨ !s.hasId then plain
  else match q.find? (fun w => alike w k) with
  | none => plain
  | some w =>
    let own := w.srcModule.toNat == s.moduleId && w.srcDie.toNat == l && (w.op == 0x09 || w.op == 0x0A || w.op == 0x0C)
    let ent := if own then mapGet none (s.light l).merge w.txn.toNat else none
    let put (e : Nat) (x : MergeEntry) : State :=
      let k1 := merged w k s.moduleId s.epoch l e
      let q1 := q.map (fun y => if y = w then k1 else y)
      ((s.modLight l (fun z => { z with merge := mapSet none z.merge e (some x) })).modPort p
        (fun z => { z with voq := q1 })).bump 0x6030 (mergeCounter k)
    match ent with
    | some x =>
      if x.origs.length < 8 then put w.txn.toNat { x with origs := x.origs ++ [mergeOrig k] }
      else match (List.range 512).find? (fun e => (mapGet none (s.light l).merge e).isNone) with
        | some e => put e { origs := [mergeOrig w, mergeOrig k], since := s.time }
        | none => plain
    | none => match (List.range 512).find? (fun e => (mapGet none (s.light l).merge e).isNone) with
      | some e => put e { origs := [mergeOrig w, mergeOrig k], since := s.time }
      | none => plain

/-! ### Packets on their way out (R311, R312, R327, R329, R330) -/

/-- A packet that cannot leave now is held; `l` is 8 where no light die has been chosen. -/
def State.holdPacket (s : State) (l : Nat) (k : Packet) (since : Nat) (own : Bool) : State :=
  { s with fab := { s.fab with held := s.fab.held ++ [{ light := l, pkt := k, since := since, own := own }] } }

/-- A packet at a light die that is to leave by one of its ports; a relayed one is counted (Table 13). -/
def State.leaveBy (s : State) (l : Nat) (k : Packet) (since : Nat) (own : Bool) : State :=
  match s.egress l k with
  | (.port p, s1) => let s2 := s1.place l p k; if own then s2 else s2.bump 0x5000 0x12
  | (.wait, s1) => s1.holdPacket l k s1.time own
  | (.none, s1) => s1.holdPacket l k since own

/-- A packet handed to a compute die (key d) or a light die (key 16 + l) of this module (R313, R346). -/
def State.deliver (s : State) (key : Nat) (k : Packet) : State :=
  { s with fab := { s.fab with inner := s.fab.inner ++ [(key, k)] } }

/-- A packet has crossed the panel: it is handed over there, or leaves by a port of the light die. -/
def State.arrive (s : State) (h : MeshHeld) : State :=
  match h.out with
  | none => s.deliver h.dst h.pkt
  | some (since, own) => s.leaveBy (h.dst - 16) h.pkt since own

/-- A packet crosses the panel by its path, or is held under flow control where a down edge keeps it (R24, R289). -/
def State.travel (s : State) (h : MeshHeld) : State :=
  match s.packetPath h.src h.dst with
  | some p =>
    if s.pathShut p then { s with fab := { s.fab with stuck := s.fab.stuck ++ [h] } } else (s.carryPacket p h.pkt).arrive h
  | none => { s with fab := { s.fab with stuck := s.fab.stuck ++ [h] } }

/-- Packets that down edges have held are tried again: detours or bundles have changed (R289). -/
def State.retryStuck (s : State) : State := s.fab.stuck.foldl State.travel { s with fab := { s.fab with stuck := [] } }

/-- The module's own packet from compute die d. -/
def State.sendOut (s : State) (d : Nat) (k : Packet) (since : Nat) : State :=
  match s.pickLight d k.dstModule.toNat with
  | (some l, s1) => s1.travel { src := d, dst := 16 + l, pkt := k, out := some (since, true) }
  | (none, s1) => s1.holdPacket 8 k since true

/-- A packet at light die l that is to leave the module, relayed or the module's own: it leaves by a port of that die where one is
usable, else by another light die across the mesh (R327, DEDUCED). -/
def State.relay (s : State) (l : Nat) (k : Packet) (since : Nat) (own : Bool := false) : State :=
  let e := s.routeAt l k.dstModule.toNat
  if !(s.usable l e k.cls.toNat).isEmpty then s.leaveBy l k since own
  else match s.pickLight (16 + l) k.dstModule.toNat with
    | (some l', s1) =>
      if l' = l then s1.leaveBy l k since own else s1.travel { src := 16 + l, dst := 16 + l', pkt := k, out := some (since, own) }
    | (none, s1) => s1.holdPacket l k since own

/-- Responses to merged requests, which a light die takes itself (R346). -/
def opMergedResp (op : Nat) : Bool := op == 0x19 || op == 0x1A || op == 0x1C

/-- The key in this module of a packet that has reached its destination module. -/
def innerKey (k : Packet) : Nat := if opMergedResp k.op.toNat then 16 + k.dstDie.toNat % 8 else k.dstDie.toNat

/-- The module named is this one (R32). -/
def State.ownModule (s : State) (m : Nat) : Bool := m == 0xFFFF || m == s.moduleId

/-- A packet originated by compute die d (or, for answers, by a light die): inside the module, or out of it. A fenced module
originates none (R421), one without an ID none that leaves it (R295). -/
def State.originate (s : State) (d : Nat) (k : Packet) : State :=
  let k1 := { k with epoch := BitVec.ofNat 32 s.epoch }.seal
  if s.fenced then s
  else if s.ownModule k.dstModule.toNat then s.travel { src := d, dst := innerKey k1, pkt := k1, out := none }
  else if !s.hasId then s
  else s.sendOut d k1 s.time

/-- Every held packet is looked up again: routes, weights or flow control have changed. -/
def State.retryHeld (s : State) : State :=
  let h := s.fab.held
  h.foldl (fun s x => if x.light = 8 then s.sendOut x.pkt.srcDie.toNat x.pkt x.since else s.relay x.light x.pkt x.since x.own)
    { s with fab := { s.fab with held := [] } }

/-! ### Route writes and weights (R287, R309, R310) -/

/-- A write of a route entry through the route window (R309). Its reserved bits [126:0] read as zero (Table 6 of ch.11, R10). -/
def State.writeRoute (s : State) (m : Nat) (e : BitVec 512) : State :=
  { s with fab := { s.fab with routes := mapSet 0 s.fab.routes m (putBits e 126 0 0)
                               old := mapSet (0, 0) s.fab.old m (s.time + 1, s.route m), genDue := true } }.retryHeld

/-- ROUTE_ENTRY_WRITE. -/
def execRouteEntryWrite (m : BitVec 16) (entry : BitVec 512) (s : State) : Host.Outcome State Fault Refusal :=
  .next (s.writeRoute m.toNat entry)

/-- ROUTE_GENERATION_ADVANCE: every light die holds all writes made so far (R309). -/
def execRouteGenerationAdvance (s : State) : Host.Outcome State Fault Refusal :=
  if s.fab.genDue then
    let s1 : State := { s with fab := { s.fab with old := [], genDue := false } }
    .next (s1.setObj 0x5000 6 ((s1.obj 0x5000 6 + 1) % 2 ^ 32))
  else .next s

/-- Both compute–light edges of light die l are down (R289). -/
def State.cutOff (s : State) (l : Nat) : Bool := s.edgeDown (24 + 2 * l) && s.edgeDown (25 + 2 * l)

/-- L(p) as spraying is to follow it: transmit lanes in service of an eligible port whose light die is not cut off. -/
def State.lanesFor (s : State) (p : Nat) : Nat :=
  if s.eligible p 1 && !s.cutOff (lightOf p) then (s.bank (s.bankOf p)).lanesTx else 0

/-- Half-width bundles, as the mesh routers weigh them when they spray (R281, R287). -/
def State.halfBundles (s : State) : List Nat := (s.lane.bundles.filter (fun kv => kv.2.width == 2 || kv.2.width == 3)).map (·.1)

/-- ROUTE_WEIGHT_UPDATE: effective weights follow port states, lane counts and panel-lane changes, and the mesh routers' spray weights
follow the widths of bundles (R287, R310). -/
def execRouteWeightUpdate (s : State) : Host.Outcome State Fault Refusal :=
  let eff := (List.range 128).foldl (fun m p => mapSet 0 m p (s.lanesFor p)) []
  .next ({ s with fab := { s.fab with eff := eff }, lane := { s.lane with halves := s.halfBundles } } : State).retryHeld

/-! ### Link frames (R299, R300, R318 to R321) -/

/-- Bytes of a class in the ingress buffer of a port. -/
def occupancy (q : PortSt) (cls : Nat) : Nat :=
  q.ingress.foldl (fun n k => if k.cls.toNat = cls then n + k.size else n) 0

/-- XOFF of a class as the thresholds of Table 8 set and clear it; a change makes a link-state frame due (R303, R320). -/
def PortSt.flow (q : PortSt) (cls : Nat) : PortSt :=
  let n := occupancy q cls
  let was := bit q.xoffOut cls
  let now := if 114688 ≤ n then true else if n < 65536 then false else was
  { q with xoffOut := putBit q.xoffOut cls now, lsDue := q.lsDue || now != was }

/-- Frames up to `ack` leave the retry buffer (R300). -/
def PortSt.acked (q : PortSt) (ack : BitVec 16) : PortSt :=
  let gone (f : Sent) : Bool := decide ((ack - f.seq).toNat < 0x8000)
  { q with retry := q.retry.filter (fun f => !gone f), resend := q.resend.filter (fun f => !gone f)
           replays := if q.replays ≠ 0 ∧ (ack - q.replaySeq).toNat < 0x8000 then 0 else q.replays }

/-- ACK and NAK of the partner, from a prefix or a link-state frame (Table 3, R303). -/
def PortSt.heard (q : PortSt) (ack : BitVec 16) (nak : Bool) : PortSt :=
  { q.acked ack with nakIn := if nak then some (ack + 1) else none }

/-- A port takes data frames: its link is up and carries data, or is paused (R265). -/
def State.takesData (s : State) (p : Nat) : Bool := s.portSt p == 3 || s.portSt p == 4 || s.portSt p == 6

/-- A frame in order and good: taken into its class buffer, or discarded where the buffer is full (R321) or the module is
fenced (R421). -/
def State.takeFrame (s : State) (p : Nat) (seq : BitVec 16) (k : Packet) : State :=
  if s.fenced then (s.modPort p (fun x => { x with lfGot := seq, nak := false })).bump 0x5000 7
  else if 262144 < occupancy (s.port p) k.cls.toNat + k.size then
    (s.modPort p (fun x => { x with nak := true, lsDue := true })).bump 0x5000 0x0B
  else s.modPort p (fun x => { x with lfGot := seq, nak := false, ingress := x.ingress ++ [k] }.flow k.cls.toNat)

/-- A link frame received: the check, the order of LFSEQ, NAK (R300). -/
def State.linkFrameIn (s : State) (p : Nat) (pfx : BitVec 64) (pkt : Packet) (crc : BitVec 32) : State :=
  let seq : BitVec 16 := BitVec.ofNat 16 (bits pfx 63 48)
  if !s.takesData p then s
  else if crc ≠ frameCrc pfx pkt ∨ bits pfx 23 16 ≠ pkt.len32 then
    (s.modPort p (fun x => { x with nak := true, lsDue := true })).portEvent p 0x10 sevNote 0 seq.toNat
  else
    let s1 := s.modPort p (fun x => x.heard (BitVec.ofNat 16 (bits pfx 47 32)) (bit pfx 31))
    let want := (s.port p).lfGot + 1
    if seq = want then s1.takeFrame p seq pkt
    else if (seq - want).toNat < 0x8000 then s1.modPort p (fun x => { x with nak := true, lsDue := true })
    else s1

/-- LINK_FRAME_RECEIVE. -/
def execLinkFrameReceive (port : Fin 128) (pfx : BitVec 64) (pkt : Packet) (crc : BitVec 32) (s : State) :
    Host.Outcome State Fault Refusal :=
  .next (s.linkFrameIn port pfx pkt crc)

/-- The link frames that stand whole in the stream a port has received are taken, at most `n` (R299). A prefix whose LEN is 0 is the
filling of the last unit. -/
def State.frameStream (p : Nat) : Nat → State → State
  | 0, s => s
  | n + 1, s =>
    let b := (s.port p).rxBits
    let len := b.head 64 / 2 ^ 16 % 256
    let put (s : State) (k : Nat) : State := s.modPort p (fun x => { x with rxBits := b.drop k })
    if b.len < 64 then s
    else if len = 0 ∨ 129 < len then State.frameStream p n (put s (if b.len % 270 = 0 then 270 else b.len % 270))
    else
      let size := 96 + 256 * len
      if b.len < size then s
      else
        let v := b.head size
        let bytes : List Byte := (List.range (size / 8)).map (fun i => BitVec.ofNat 8 (v / 2 ^ (size - 8 * (i + 1))))
        State.frameStream p n ((put s size).linkFrameIn p (BitVec.ofNat 64 (ofBytes (bytes.take 8)))
          (Packet.ofList ((bytes.drop 8).take (32 * len))) (BitVec.ofNat 32 (ofBytes (bytes.drop (8 + 32 * len)))))

/-- Units that leave the deskew buffer join the port's stream, and the frames they complete are taken (R250, R299). -/
def State.unitsIn (s : State) (p : Nat) (us : List (BitVec 270)) : State :=
  State.frameStream p (us.length + 1) (s.modPort p (fun x => { x with rxBits := us.foldl Bits.addUnit x.rxBits }))

/-- Deficit round-robin between two flows: sizes of their first frames, deficits, whether the second has the turn, quanta.
Answers the flow that sends, the deficits and the turn. -/
def drr (a b : Option Nat) (da db : Nat) (turn : Bool) (qa qb : Nat) : Option (Bool × Nat × Nat × Bool) :=
  match a, b with
  | none, none => none
  | some x, none => some (false, (if x ≤ da ∧ !turn then da else da + qa) - x, 0, false)
  | none, some y => some (true, 0, (if y ≤ db ∧ turn then db else db + qb) - y, true)
  | some x, some y =>
    if turn then
      if y ≤ db then some (true, da, db - y, true) else some (false, da + qa - x, db, false)
    else if x ≤ da then some (false, da - x, db, false) else some (true, da, db + qb - y, true)

/-- Collective packets (R380). -/
def collective (k : Packet) : Bool := decide (0x20 ≤ k.op.toNat ∧ k.op.toNat ≤ 0x3F)

/-- The next packet of a class of a port, and the port with the deficits of R380. -/
def State.nextOfClass (s : State) (p cls : Nat) : Option (Packet × PortSt) :=
  let q := s.port p
  let first (c : Bool) := q.voq.find? (fun k => k.cls.toNat == cls && collective k == c)
  if cls = 3 then (q.voq.find? (fun k => k.cls.toNat == 3)).map (fun k => (k, q))
  else
    match drr ((first false).map frameSize) ((first true).map frameSize) (mapGet 0 q.vcDeficit (2 * cls))
        (mapGet 0 q.vcDeficit (2 * cls + 1)) (mapGet false q.vcTurn cls) 4140 (4140 * s.obj 0x5300 2) with
    | none => none
    | some (c, da, db, t) => (first c).map (fun k => (k, { q with
        vcDeficit := mapSet 0 (mapSet 0 q.vcDeficit (2 * cls) da) (2 * cls + 1) db, vcTurn := mapSet false q.vcTurn cls t }))

/-- The class of the next frame of a port and the port with its deficits (R318). -/
def State.chooseFrame (s : State) (p : Nat) : Option (Packet × PortSt) :=
  let q := s.port p
  let head (cls : Nat) := if s.xoff p cls then none else s.nextOfClass p cls
  let sum (l : List (Nat × Nat × Bool)) : Nat := l.foldl (fun n x => n + x.2.1) 0
  let guaranteed := decide (100 * sum (q.win.filter (·.2.2)) < sum q.win) || q.win.isEmpty
  match head 3, guaranteed with
  | some r, true => some r
  | h3, _ =>
    match drr ((head 1).map (fun r => frameSize r.1)) ((head 2).map (fun r => frameSize r.1)) (mapGet 0 q.deficit 1)
        (mapGet 0 q.deficit 2) q.turn (4140 * s.obj 0x5000 3) (4140 * s.obj 0x5000 4) with
    | none => h3
    | some (c, da, db, t) => (head (if c then 2 else 1)).map (fun r =>
        (r.1, { r.2 with deficit := mapSet 0 (mapSet 0 q.deficit 1 da) 2 db, turn := t }))

/-- The frames of the last 10 µs (R318). -/
def PortSt.window (q : PortSt) (now : Nat) : PortSt :=
  { q with win := q.win.filter (fun x => decide (now < x.1 + 10 * tickUs)) }

/-- Bytes of frames sent and not acknowledged. -/
def retryBytes (q : PortSt) : Nat := q.retry.foldl (fun n f => n + frameSize f.pkt) 0

/-- LINK_FRAME_SEND: replays first; else the next frame, where the retry buffer of 256 KiB has room (R300, R318). -/
def execLinkFrameSend (port : Fin 128) (s : State) : Host.Outcome State Fault Refusal :=
  let p := port.val
  if s.portSt p ≠ 3 ∧ s.portSt p ≠ 4 then .next s
  else match (s.port p).resend with
  | f :: fs => .next ((s.modPort p (fun x => { x with resend := fs, ackSent := x.lfGot })).emitLink p f)
  | [] =>
    let s1 := s.modPort p (fun x => x.window s.time)
    if s.fenced then .next s
    else match s1.chooseFrame p with
    | none => .next s
    | some (k, q) =>
      if 262144 < retryBytes q + frameSize k then .next s
      else
        let f : Sent := { seq := q.lfNext, pkt := k }
        let n := frameSize k
        let q1 : PortSt := { q with voq := q.voq.erase k, lfNext := q.lfNext + 1, retry := q.retry ++ [f], ackSent := q.lfGot,
                                    win := q.win ++ [(s.time, n, k.cls == 3)] }
        .next ((s1.modPort p (fun _ => q1)).emitLink p f)

/-- LINK_FRAME_REPLAY: the partner has NAKed the frame; it and every later one are sent again from the retry buffer, and the
replays of one frame in succession are counted (R270, R300). -/
def execLinkFrameReplay (port : Fin 128) (lfseq : BitVec 16) (s : State) : Host.Outcome State Fault Refusal :=
  let q := s.port port
  if q.nakIn = some lfseq ∧ q.retry.any (fun f => f.seq == lfseq) then
    let later := q.retry.filter (fun f => decide ((f.seq - lfseq).toNat < 0x8000))
    let n := if q.replaySeq = lfseq then q.replays + 1 else 1
    .next (((s.modPort port (fun x => { x with resend := later, nakIn := none, replays := n, replaySeq := lfseq })).bump
      0x4100 0x0D later.length).portEvent port 0x09 sevNote 0 lfseq.toNat)
  else .next s

/-! ### Packets at ingress (R296, R298, R313, R327) -/

/-- Operations of Table 2 that are not reserved (Table 1 of ch.12 for memory; COLL_DATA and COLL_ACK of ch.13). -/
def opDefined (op : Nat) : Bool :=
  (decide (1 ≤ op) && decide (op ≤ 5)) || op == 0x09 || op == 0x0A || op == 0x0C || (decide (0x11 ≤ op) && decide (op ≤ 0x15))
  || opMergedResp op || op == 0x20 || op == 0x21 || op == 0x40 || (decide (0x41 ≤ op) && decide (op ≤ 0x4F))

/-- A memory request, which enters a line queue. -/
def opRequest (op : Nat) : Bool :=
  (decide (1 ≤ op) && decide (op ≤ 5)) || op == 0x09 || op == 0x0A || op == 0x0C

/-- The hop limit met at a relay: counted, and logged at most once per second per source module (R327). -/
def State.hopDiscard (s : State) (l src : Nat) : State :=
  let s1 := s.bump 0x5000 9
  let last := mapGet 0 (s.light l).hopLog src
  if last = 0 ∨ last - 1 + tickS ≤ s.time then
    (s1.modLight l (fun x => { x with hopLog := mapSet 0 x.hopLog src (s.time + 1) })).raise
      (mkEvent 0x10 sevNote (lightSource l) 0xFF 0 src)
  else s1

/-- A packet taken from an ingress buffer. -/
def State.ingest (s : State) (p : Nat) (k : Packet) : State :=
  let l := lightOf p
  if s.fenced then s.bump 0x5000 7
  else if k.op = 0x40 then s
  else if k.hchk ≠ k.check then (s.bump 0x5000 8).portEvent p 0x10 sevRecovered 0 k.srcModule.toNat
  else if s.staleEpoch k.epoch.toNat then s.bump 0x5000 7
  else if s.hasId && k.dstModule.toNat == s.moduleId then
    if opDefined k.op.toNat then s.travel { src := 16 + l, dst := innerKey k, pkt := k, out := none }
    else s.raise (mkEvent 0x10 sevNote k.dstDie.toNat 0xFF 1 k.op.toNat)
  else if s.obj 0x5000 5 < k.hops.toNat + 1 then s.hopDiscard l k.srcModule.toNat
  else
    let k1 := { k with hops := k.hops + 1 }
    s.relay l k1 s.time

/-- The line queue of a packet's home die is full: the die takes no further request, nor any packet of the classes that wait in its
queue (R349). -/
def State.homeFull (s : State) (k : Packet) : Bool :=
  let x := s.die k.dstDie.toNat
  s.hasId && k.dstModule.toNat == s.moduleId && !opMergedResp k.op.toNat && decide (1024 ≤ x.lineq.length)
  && (opRequest k.op.toNat || x.home.any (fun h => !h.todo.isEmpty && h.pkt.cls == k.cls))

/-- PACKET_INGRESS: the first packet of its class in the ingress buffer of the port is worked on. -/
def execPacketIngress (port : Fin 128) (pkt : Packet) (s : State) : Host.Outcome State Fault Refusal :=
  let q := s.port port
  if q.ingress.find? (fun k => k.cls == pkt.cls) = some pkt ∧ !s.homeFull pkt then
    .next ((s.modPort port (fun x => { x with ingress := x.ingress.erase pkt }.flow pkt.cls.toNat)).ingest port pkt)
  else .next s

/-! ### Class 0 (R301 to R307, R323 to R326) -/

/-- Segments between a ring node and light die l by the fewest (R323), none where the ring does not join them. -/
def State.ringDist (s : State) (n l : Nat) : Option Nat := (List.range 9).find? (fun k => (s.ringReach k n).contains (l + 1))

/-- The port by which a routed frame leaves that enters the ring at node n, 0 for the steward and 1 + l for light die l: fewest
segments, then the higher weight, then the lower port (R324). -/
def State.port0 (s : State) (e : BitVec 512) (n : Nat) : Option Nat :=
  let c := (List.range 128).filterMap (fun p =>
    if routeMask e p && s.eligible p 0 then (s.ringDist n (lightOf p)).map (fun k => (p, k, routeWeight e p)) else none)
  (c.foldl (fun b x => match b with
    | none => some x
    | some y => if x.2.1 < y.2.1 ∨ (x.2.1 = y.2.1 ∧ y.2.2 < x.2.2) then some x else some y) none).map (·.1)

/-- A routed frame starts on port p: LSEQ, the start of R305 and R326, the store of the last 64 frames (R307). An own frame
waits until 32 ns after the previous own one; one that meets another within 32 ns is counted. -/
def State.startFrame (s : State) (p : Nat) (f : BitVec 256) : State :=
  let q := s.port p
  let own := fSrc f == s.moduleId
  let t := if own && decide (0 < q.own0) then max s.time (q.own0 + 32 * tickNs) else s.time
  let meets := decide (0 < q.start0) && decide (t < q.start0 + 32 * tickNs)
  let t1 := if meets then max t (q.start0 + 1152) else t
  let f1 := putBits f 247 240 q.lseqNext.toNat
  let s1 := s.modPort p (fun x => { x with lseqNext := x.lseqNext + 1, start0 := t1, own0 := if own then t1 else x.own0
                                           sent0 := (f1 :: x.sent0).take 64 })
  (if meets then s1.bump 0x5000 0x10 else s1).sendRoutedAt p f1 t1

/-- Bytes of routed frames that have entered by port p and still hold its class-0 buffer. -/
def State.held0 (s : State) (p : Nat) : Nat :=
  32 * s.ports.foldl (fun n kv => n + (kv.2.wait0.filter (fun w => w.2 == some p)).length) 0

/-- XOFF of class 0 at ingress port p, set at 40 KiB and cleared below 16 KiB (Table 8, R320). -/
def State.flow0 (s : State) (p : Nat) : State :=
  let n := s.held0 p
  s.modPort p (fun q =>
    let was := bit q.xoffOut 0
    let now := if 40960 ≤ n then true else if n < 16384 then false else was
    { q with xoffOut := putBit q.xoffOut 0 now, lsDue := q.lsDue || now != was })

/-- A routed frame sent on port p, or kept while the partner holds class 0 in XOFF, in the class-0 buffer of the port by which it has
entered. -/
def State.sendRouted (s : State) (p : Nat) (f : BitVec 256) (entry : Option Nat := none) : State :=
  if s.xoff p 0 then
    let s1 := s.modPort p (fun x => { x with wait0 := x.wait0 ++ [(f, entry)] })
    match entry with | some e => s1.flow0 e | none => s1
  else s.startFrame p f

/-- Where a routed frame goes inside its destination module: a die, or 24 for the steward's umpire traffic. -/
def frameKey (f : BitVec 256) : Nat := if decide (0x10 ≤ fKind f) && decide (fKind f ≤ 0x1F) then 24 else fDie f

/-- A routed frame handed to a die or the steward of this module. -/
def State.deliverFrame (s : State) (f : BitVec 256) : State :=
  { s with fab := { s.fab with frames := s.fab.frames ++ [(frameKey f, f)] } }

/-- A routed frame of this module that enters the ring at node n over the hops given, looked up at light die l: inside the module, by
the hops `home` where they are given, or out by R324; where no port is eligible it is discarded and counted (R329). Without a module ID
none leaves the module (R295). -/
def State.sendNode (s : State) (n l : Nat) (f : BitVec 256) (entry : List EdgeHop := []) (home : Option (List EdgeHop) := none) : State :=
  let f1 := putBits (putBits f 215 200 s.moduleId) 159 128 s.epoch
  if s.fenced then s
  else if s.ownModule (fDst f) then (s.carryFrame (home.getD (entry ++ s.framePath n (frameKey f))) f1).deliverFrame f1
  else if !s.hasId then s
  else
    let e := s.routeAt l (fDst f)
    match (if routeValid e then s.port0 e n else none) with
    | some p => (s.carryFrame (entry ++ s.ringHops n (lightOf p + 1)) f1).sendRouted p f1
    | none => s.bump 0x5000 0x0F

/-- A routed frame of compute die d: inside the module in dimension order to another die (R323), else by its home light die. -/
def State.sendFlag (s : State) (d : Nat) (f : BitVec 256) : State :=
  s.sendNode (homeLight d + 1) (homeLight d) f (s.homeHops d) (if frameKey f < 16 then s.meshPath d (frameKey f) else none)

/-- LSEQ of a routed frame that arrives: frames found missing are asked for (R307). None: already received. -/
def PortSt.sequence (q : PortSt) (n : BitVec 8) : Option PortSt :=
  let ahead := (n - q.lseqWant).toNat
  if ahead = 0 then some { q with lseqWant := n + 1 }
  else if ahead < 128 then
    some { q with lseqWant := n + 1, missing := q.missing ++ (List.range ahead).map (fun i => q.lseqWant + BitVec.ofNat 8 i), lsDue := true }
  else if q.missing.contains n then some { q with missing := q.missing.filter (· != n) }
  else none

/-- A routed frame received on port p: order, epoch, delivery or relay (R296, R307, R324, R327, R329). One that finds the class-0 buffer
of 64 KiB full is discarded and found missing later (R321). -/
def State.routedIn (s : State) (p : Nat) (f : BitVec 256) : State :=
  if 65536 < s.held0 p + 32 then s.bump 0x5000 0x0B
  else match (s.port p).sequence (BitVec.ofNat 8 (fLseq f)) with
  | none => s
  | some q =>
    let s1 := s.modPort p (fun _ => q)
    let l := lightOf p
    if s.fenced then s1.bump 0x5000 7
    else if s.staleEpoch (fEpoch f) then s1.bump 0x5000 7
    else if s.hasId && fDst f == s.moduleId then (s1.carryFrame (s1.framePath (l + 1) (frameKey f)) f).deliverFrame f
    else if s.obj 0x5000 5 < fHops f + 1 then s1.hopDiscard l (fSrc f)
    else
      let e := s.routeAt l (fDst f)
      match (if routeValid e then s.port0 e (l + 1) else none) with
      | some o =>
        let f1 := putBits f 239 236 (fHops f + 1)
        ((s1.bump 0x5000 0x13).carryFrame (s1.ringHops (l + 1) (lightOf o + 1)) f1).sendRouted o f1 (some p)
      | none => s1.bump 0x5000 0x0F

/-- The link-state frame a port sends now (R303). -/
def State.linkState (s : State) (p : Nat) : BitVec 256 :=
  let q := s.port p
  let first := q.missing.headD 0
  let run := if q.missing.isEmpty then 0 else ((List.range 15).takeWhile (fun i => q.missing.contains (first + BitVec.ofNat 8 i))).length
  BitVec.ofNat 256 (field 248 0x02 + field 244 (s.portSt p) + field 240 q.xoffOut.toNat + field 224 q.lfGot.toNat
    + field 223 q.nak.toNat + field 200 s.moduleId + field 192 (q.lseqNext - 1).toNat + field 184 first.toNat
    + field 180 run + s.epoch)

/-- LINK_STATE_SEND: after a change, 250 ns after the last one with unacknowledged data, or 1 µs after it (R303). -/
def execLinkStateSend (port : Fin 128) (s : State) : Host.Outcome State Fault Refusal :=
  let q := s.port port
  let due := q.lsDue || (q.lfGot != q.ackSent && decide (q.lsAt + 250 * tickNs ≤ s.time)) || decide (q.lsAt + tickUs ≤ s.time)
  if s.linkUp port && due then
    .next ((s.modPort port (fun x => { x with lsAt := s.time, lsDue := false, ackSent := x.lfGot })).sendFrame port (s.linkState port))
  else .next s

/-- XOFF as the partner states it, and since when each class has been held (R303, R322). -/
def PortSt.heardXoff (q : PortSt) (x : BitVec 4) (now : Nat) : PortSt :=
  let since := (List.range 4).foldl (fun m c =>
    if bit x c then (if bit q.xoffIn c then m else mapSet 0 m c (now + 1)) else mapSet 0 m c 0) q.xoffSince
  { q with xoffIn := x, xoffSince := since }

/-- LSEQs the partner asks for, and frames it has sent that have not arrived (R303, R307). -/
def PortSt.heardC0 (q : PortSt) (last n : BitVec 8) (count : Nat) : PortSt :=
  let gap := (last + 1 - q.lseqWant).toNat
  let q1 : PortSt := if 0 < gap ∧ gap < 128 then
      { q with missing := q.missing ++ (List.range gap).map (fun i => q.lseqWant + BitVec.ofNat 8 i), lseqWant := last + 1, lsDue := true }
    else q
  { q1 with ask := (List.range count).map (fun i => n + BitVec.ofNat 8 i) }

/-- Frames that waited for class 0 start once XOFF has cleared. -/
def State.release0 (s : State) (p : Nat) : State :=
  if s.xoff p 0 then s
  else (s.port p).wait0.foldl (fun s w => match w.2 with
    | some e => (s.startFrame p w.1).flow0 e
    | none => s.startFrame p w.1) (s.modPort p (fun x => { x with wait0 := [] }))

/-- A link-state frame taken in (R303): every field is a level. -/
def State.linkStateIn (s : State) (p : Nat) (f : BitVec 256) : State :=
  let s1 := s.modPort p (fun x =>
    ((x.heardXoff (BitVec.ofNat 4 (bits f 243 240)) s.time).heard (BitVec.ofNat 16 (bits f 239 224)) (bit f 223)).heardC0
      (BitVec.ofNat 8 (bits f 199 192)) (BitVec.ofNat 8 (bits f 191 184)) (bits f 183 180))
  (s1.release0 p).retryHeld

/-- LINK_STATE_RECEIVE. -/
def execLinkStateReceive (port : Fin 128) (frame : BitVec 256) (s : State) : Host.Outcome State Fault Refusal :=
  .next (if fKind frame = 0x02 ∧ s.linkUp port then s.linkStateIn port frame else s)

/-- CLASS0_RESEND: a routed frame the partner asks for is sent again, or counted lost and logged (R307). -/
def execClass0Resend (port : Fin 128) (lseq : BitVec 8) (s : State) : Host.Outcome State Fault Refusal :=
  let q := s.port port
  if q.ask.contains lseq then
    let s1 := s.modPort port (fun x => { x with ask := x.ask.filter (· != lseq) })
    match q.sent0.find? (fun f => fLseq f == lseq.toNat) with
    | some f => .next (((s1.sendRoutedAt port f s.time).bump 0x5000 0x0E).portEvent port 0x10 sevNote 2 lseq.toNat)
    | none => .next ((s1.bump 0x5000 0x0F).portEvent port 0x10 sevRecovered 2 lseq.toNat)
  else .next s

/-- FAB_STALL: a port and class held in XOFF continuously for 1 ms (R322). -/
def execFabStall (port : Fin 128) (cls : Fin 4) (s : State) : Host.Outcome State Fault Refusal :=
  let t := mapGet 0 (s.port port).xoffSince cls
  if s.xoff port cls && t != 0 && decide (t - 1 + tickMs ≤ s.time) then
    .next (((s.modPort port (fun x => { x with xoffSince := mapSet 0 x.xoffSince cls 0 })).bump 0x5000 0x0C).portEvent port 0x10
      sevAdvisory 3 cls)
  else .next s

/-! ### Flags (R306) -/

/-- The frame that SIG0 sends. -/
def State.sig0Frame (s : State) (w : BitVec 128) : BitVec 256 :=
  flagFrame s.moduleId s.epoch (bits w 95 80) (bits w 79 76) (bits w 75 71) (bit w 70) (bits w 69 68) (bits w 67 65)
    (bits w 64 53) (bits w 31 0)

/-- The effect of SIG0 on die d. -/
def State.sig0 (s : State) (d c e : Nat) (r : Run) : State :=
  let m := bits r.word 95 80
  if s.ownModule m then s.sendFlag d (s.sig0Frame r.word)
  else if !s.hasId then s.failRun d c e r.num 0x42
  else if !routeValid (s.routeAt (homeLight d) m) then s.failRun d c e r.num 0x40
  else s.sendFlag d (s.sig0Frame r.word)

/-- SIG0. -/
def execSig0 (die : Fin 16) (core : Fin 32) (eng : Fin 3) (s : State) : Host.Outcome State Fault Refusal :=
  .next (s.rowOp die core eng 0x06 (fun s r => s.sig0 die core eng r))

/-- A FLAG takes effect on die d: an add to a counter of a core or to an arrival counter (R306). -/
def State.flagEffect (s : State) (d : Nat) (f : BitVec 256) : State :=
  if bit f 190 then s.setArrival d (bits f 184 173) (s.arrival d (bits f 184 173) + BitVec.ofNat 64 (bits f 127 96))
  else s.addCounter d (bits f 195 191) (bits f 189 188) (bits f 187 185) (BitVec.ofNat 32 (bits f 127 96))

/-- A FLAG that stands at a die is taken; a die that does not run is asked to wake, and the FLAG waits (R450). -/
def State.takeFlag (s : State) (d : Nat) (f : BitVec 256) : State :=
  if s.dieRuns d then { s with fab := { s.fab with frames := s.fab.frames.erase (d, f) } }.flagEffect d f
  else s.askWake d

/-- FLAG_ADD. -/
def execFlagAdd (die : Fin 16) (frame : BitVec 256) (s : State) : Host.Outcome State Fault Refusal :=
  .next (if fKind frame = 0x04 ∧ s.fab.frames.contains (die.val, frame) then s.takeFlag die frame else s)

end Sys2Proof.Machine
end

