-- ==== Sys2Proof/Machine/Request.lean ====
section
/-! DEFINITION. Requests that a die issues to remote memory: transaction numbers, packets (R334, R338), the remote line cache
(R343, R344), and the mirror of the step log (R430), which travels as such requests. -/

namespace Sys2Proof.Machine

/-! ### The remote line cache -/

/-- The cached line of a module, die and line number. -/
def State.rlcFind (s : State) (d m k line : Nat) : Option RlcLine :=
  ((s.die d).rlc.filterMap (fun kv => kv.2)).find? (fun l => l.m == m && l.d == k && l.line == line)

/-- Lines that satisfy a condition are invalidated. -/
def State.rlcDrop (s : State) (d : Nat) (p : RlcLine → Bool) : State :=
  s.modDie d (fun x => { x with rlc := x.rlc.filter (fun kv => match kv.2 with | some l => !p l | none => false) })

/-- Lines invalidated: those cached, and those that reads outstanding would fill (R344). -/
def State.rlcInvalidate (s : State) (d : Nat) (p : RlcLine → Bool) : State :=
  (s.rlcDrop d p).modDie d (fun x => { x with txns := x.txns.map (fun kv => (kv.1, kv.2.map (fun t => match t.piece.src with
    | .remote m k _ => { t with fill := t.fill.filter (fun line => !p { m := m, d := k, line := line, data := [] }) }
    | _ => t))) })

/-- A line fills the cache: a free way of its set, else one the model leaves open (R343). -/
def State.rlcFill (s : State) (d : Nat) (l : RlcLine) : State :=
  let set := Config.rlcSet l.m l.d l.line % 8192
  let s1 := s.rlcDrop d (fun x => x.m == l.m && x.d == l.d && x.line == l.line)
  let way := match (List.range 16).find? (fun w => (mapGet none (s1.die d).rlc (16 * set + w)).isNone) with
    | some w => w
    | none => Config.rlcWay s.draw % 16
  { s1 with draw := s1.draw + 1 }.modDie d (fun x => { x with rlc := mapSet none x.rlc (16 * set + way) (some l) })

/-- Every remote line cache of the module is emptied (R344). -/
def State.rlcClear (s : State) : State := (List.range 16).foldl (fun s d => s.rlcInvalidate d (fun _ => true)) s

/-! ### Packets -/

/-- Lines that n bytes from a touch. -/
def linesOf (a n : Nat) : Nat := if n = 0 then 0 else (a + n - 1) / 128 + 1 - a / 128

/-- The payload of a line write: the bytes in their place in whole lines. -/
def linePayload (a : Nat) (bs : List Byte) : List Byte :=
  let lead := List.replicate (a % 128) (0 : Byte)
  let body := lead ++ bs
  body ++ List.replicate (128 * linesOf a bs.length - body.length) 0

/-- A request header with the fields that every request shares. -/
def State.header (s : State) (d op cls m k a lines : Nat) : Packet :=
  { op := BitVec.ofNat 8 op, cls := BitVec.ofNat 2 cls, ord := false, tile := false, tstate := 0, hops := 0,
    lines := BitVec.ofNat 6 lines, dstModule := BitVec.ofNat 16 m, srcModule := BitVec.ofNat 16 s.moduleId,
    dstDie := BitVec.ofNat 4 k, srcDie := BitVec.ofNat 4 d, flow := 0, pseq := 0, first := false, txn := 0,
    epoch := BitVec.ofNat 32 s.epoch, addr := BitVec.ofNat 44 a, hchk := 0, opx := 0, payload := [] }

/-- The code of a tile state (Table 4 of ch.06). -/
def tstateCode : TState → Nat
  | .untagged => 0 | .open => 1 | .valid => 2 | .poison => 3

/-- The tile state of a code. -/
def tstateOf (n : Nat) : TState :=
  match n with
  | 0 => .untagged
  | 1 => .open
  | 2 => .valid
  | _ => .poison

/-- A WRITE or WRITE_ARR of bytes (Table 2 of ch.12). -/
def State.writePacket (s : State) (d cls m k a : Nat) (bs : List Byte) (arr : Option Nat) : Packet :=
  let last := (a + bs.length - 1) % 128
  { s.header d (if arr.isSome then 0x03 else 0x02) cls m k a (linesOf a bs.length) with
    opx := BitVec.ofNat 64 (field 16 (arr.getD 0) + last), payload := linePayload a bs }

/-- A WRITE or WRITE_ARR of a whole tile. -/
def State.tilePacket (s : State) (d cls m k a : Nat) (bs : List Byte) (t : TileInfo) (arr : Option Nat) : Packet :=
  { s.header d (if arr.isSome then 0x03 else 0x02) cls m k (a + arr.getD 0) 32 with
    tile := true, tstate := BitVec.ofNat 2 (tstateCode t.st), opx := t.tag, payload := bs }

/-- A READ of n bytes, or of a tile with its tag. LINES is the number of lines wanted (DEDUCED). -/
def State.readPacket (s : State) (d cls m k a n : Nat) (tile : Bool) : Packet :=
  { s.header d 0x01 cls m k a (linesOf a n) with opx := BitVec.ofNat 64 (field 8 tile.toNat) }

/-! ### Transactions (R334) -/

/-- A TXN number of the die that is free: the lowest. -/
def State.freeTxn (s : State) (d : Nat) : Option Nat :=
  let used := (s.die d).txns.map (·.1)
  (List.range 32768).find? (fun n => !used.contains n)

/-- A transaction of a die. -/
def State.txn (s : State) (d n : Nat) : Option Txn := mapGet none (s.die d).txns n

/-- A transaction replaced, or freed. -/
def State.setTxn (s : State) (d n : Nat) (t : Option Txn) : State :=
  s.modDie d (fun x => { x with txns := mapSet none x.txns n t })

/-- A request with an effect on memory invalidates each line it touches, at issue (R344). -/
def State.rlcIssue (s : State) (d : Nat) (k : Packet) : State :=
  if k.op = 0x01 then s
  else
    let lo := (if k.tile then k.addr.toNat / 4096 * 4096 else k.addr.toNat) / 128
    let n := if k.op = 0x04 ∨ k.op = 0x05 then 1 else k.lines.toNat
    s.rlcInvalidate d (fun l => l.m == k.dstModule.toNat && l.d == k.dstDie.toNat && decide (lo ≤ l.line) && decide (l.line < lo + n))

/-- A request sent under transaction n: stored, the cache seen to, the packet on its way. -/
def State.sendTxn (s : State) (d n : Nat) (t : Txn) : State :=
  let k := { t.pkt with txn := BitVec.ofNat 15 n, epoch := BitVec.ofNat 32 s.epoch }.seal
  let t1 := { t with pkt := k, sent := s.time }
  ((s.rlcIssue d k).setTxn d n (some t1)).originate d k

/-! ### The step log (R429, R430) -/

/-- The step log of a die changed. -/
def State.modStep (s : State) (d : Nat) (f : StepSt → StepSt) : State := s.modDie d (fun x => { x with step := f x.step })

/-- FLT.STEP_BUDDY is set and in play. -/
def State.buddyIn (s : State) : Bool :=
  let b := s.obj 0x8200 3
  b != 0xFFFF && b != s.moduleId && !s.flt.out.contains b && s.hasId && routeValid (s.route b)

/-- Tiles of the mirror that may go are sent: one WRITE of a whole tile each, class 2. A buddy that cannot be reached fails
the copy. -/
def State.mirrorPump (s : State) (d : Nat) : State :=
  (s.die d).step.todo.foldl (fun s p =>
    if !s.buddyIn then s.modStep d (fun x => { x with todo := x.todo.erase p, failed := true })
    else match s.freeTxn d, p.src, p.dst with
      | some n, .loc a, .remote m k b =>
        let t : Txn := { core := 0, num := 0, kind := .mirror, piece := p, sent := s.time,
                         pkt := s.tilePacket d 2 m k b (s.bytes d a 4096) (s.tile d a) none }
        (s.modStep d (fun x => { x with todo := x.todo.erase p })).sendTxn d n t
      | _, _, _ => s) s

/-- The tiles of step n (R429, R430): from its slot to its place under STEP_MIRROR on the same die of the buddy. -/
def State.mirrorPieces (s : State) (d n : Nat) : List Piece :=
  let size := s.obj 0x8200 4
  let off := (n % s.obj 0x8200 2) * size
  (List.range (size / 4096)).map (fun i =>
    { grp := i, src := .loc ((s.die d).step.base.toNat + off + 4096 * i), len := 4096, tile := true
      dst := .remote (s.obj 0x8200 3) d ((s.die d).step.mirror.toNat + off + 4096 * i) })

/-- Step n is committed on the die and its mirror begins (R430). -/
def State.stepBegin (s : State) (d : Nat) (n : BitVec 64) : State :=
  (s.modStep d (fun x => { x with
    last := n, any := true, wait := none, busy := some n, failed := false, todo := s.mirrorPieces d n.toNat })).mirrorPump d

/-- A write of n to STEP_COMMIT (R430). -/
def State.stepCommit (s : State) (d : Nat) (n : BitVec 64) : State :=
  let x := (s.die d).step
  if s.obj 0x8200 1 = 0 then s
  else if x.any ∧ n ≠ x.last + 1 then s.raise (softEvent d 0xFF 0 n.toNat)
  else if x.busy.isSome then s.modStep d (fun x => { x with wait := some n })
  else s.stepBegin d n

/-- STEP_COMMIT. -/
def execStepCommit (die : Fin 16) (n : BitVec 64) (s : State) : Host.Outcome State Fault Refusal :=
  .next (s.reach die none (0x080400013010) .host (.write (toBytes 8 n.toNat)) (s.stepCommit die n))

/-- Mirror requests of the die still unanswered. -/
def State.mirrorOpen (s : State) (d : Nat) : Bool :=
  !(s.die d).step.todo.isEmpty
  || (s.die d).txns.any (fun kv => match kv.2 with | some t => t.kind == .mirror && !t.abandoned | none => false)

/-- The mirror of a step ends: it shows as mirrored, or BUDDY_LOST is set and an ADVISORY entry raised; a commit that waited
goes on (R430). -/
def State.mirrorEnd (s : State) (d : Nat) (n : BitVec 64) (ok : Bool) : State :=
  let s1 := s.modStep d (fun x => { x with busy := none, failed := false, buddyLost := !ok
                                           mirrored := if ok then n.setWidth 62 else x.mirrored })
  let s2 := if ok then s1 else s1.raise (mkEvent 0x11 sevAdvisory d 0xFF 0 n.toNat)
  match (s2.die d).step.wait with
  | some m => s2.stepBegin d m
  | none => s2

/-- STEP_MIRROR_DONE: every part of the mirror has been answered, and `ok` says how. -/
def execStepMirrorDone (die : Fin 16) (ok : Bool) (s : State) : Host.Outcome State Fault Refusal :=
  let x := (s.die die).step
  match x.busy with
  | some n => .next (if !s.mirrorOpen die && ok == !x.failed then s.mirrorEnd die n ok else s)
  | none => .next s

end Sys2Proof.Machine
end

