-- ==== Sys2Proof/Machine/Bus.lean ====
section
/-! DEFINITION. Accesses of a die's local space (R33, R34): memory, the core-control window and its registers (R136, R137),
die control, arrival counters, the tidy-core block (R162), and the rows that write registers. -/

namespace Sys2Proof.Machine

/-! ### The tidy-core block (R162, R163) -/

/-- The tidy core of a core changed. -/
def State.modTc (s : State) (d c : Nat) (f : TcSt → TcSt) : State := s.modCore d c (fun x => { x with tc := f x.tc })

/-- TC_IRQ_PEND (Table 24 of ch.05): its bits are latched, those of the tidy core's comparators too (notes/assumptions/96.md). -/
def State.tcPending (s : State) (d c : Nat) : BitVec 32 := (s.core d c).tc.irqPend

/-- RUN written (R163): the tidy core starts at address 0 or stops at the next instruction boundary; ignored on a core that is out
(R399). -/
def State.tcRun (s : State) (d c : Nat) (run : Bool) : State :=
  if s.coreOut d c then s else s.modTc d c (fun t => if run then t.start s.time else t.stop)

/-- STEP written: one instruction is due while the tidy core is stopped. -/
def State.tcStepWrite (s : State) (d c : Nat) : State :=
  s.modTc d c (fun t => { t with stepDue := t.stepDue || t.st == .stopped })

/-- TC_RUN. -/
def execTcRun (die : Fin 16) (core : Fin 32) (run : Bool) (s : State) : Host.Outcome State Fault Refusal :=
  .next (s.regWrite die core 0x300 (toBytes 4 (field 31 run.toNat)) (s.tcRun die core run))

/-- TC_STEP. -/
def execTcStep (die : Fin 16) (core : Fin 32) (s : State) : Host.Outcome State Fault Refusal :=
  .next (s.regWrite die core 0x300 (toBytes 4 (field 31 (s.core die core).tc.runBit.toNat + field 30 1)) (s.tcStepWrite die core))

/-- TC_DOORBELL: its pending bit is set (R162). -/
def execTcDoorbell (die : Fin 16) (core : Fin 32) (s : State) : Host.Outcome State Fault Refusal :=
  .next (s.regWrite die core 0x30C (toBytes 4 1) (s.modCore die core (fun x => x.tcPend 7)))

/-- Latched pending bits cleared. -/
def State.tcIrqClear (s : State) (d c : Nat) (v : BitVec 32) : State :=
  s.modTc d c (fun t => { t with irqPend := t.irqPend &&& ~~~v })

/-- TC_IRQ_PEND_W1C. -/
def execTcIrqPendW1c (die : Fin 16) (core : Fin 32) (v : BitVec 32) (s : State) : Host.Outcome State Fault Refusal :=
  .next (s.regWrite die core 0x314 (toBytes 4 v.toNat) (s.tcIrqClear die core v))

/-- TC_CRC_SRC written: the helper starts on the tile at that offset (R162). The spec says nothing of an offset that is no multiple
of 4,096 or lies beyond the local store: it is taken modulo 8 MiB and down to its tile (DESIGN CHOICE, notes/assumptions/97.md). -/
def State.tcCrcStart (s : State) (d c : Nat) (v : Nat) : State :=
  s.modTc d c (fun t => { t with crcBusy := some (v % lsBytes / 4096, s.time) })

/-- TC_CRC_SRC. -/
def execTcCrcSrc (die : Fin 16) (core : Fin 32) (v : BitVec 32) (s : State) : Host.Outcome State Fault Refusal :=
  .next (s.regWrite die core 0x318 (toBytes 4 v.toNat) (s.tcCrcStart die core v.toNat))

/-- TC_CRC_DONE: 32 cycles after its start the helper presents the CRC-32C of the payload (R162). Its read is no verifying read: an
uncorrectable word makes the tile POISON and is logged (R186). -/
def execTcCrcDone (die : Fin 16) (core : Fin 32) (s : State) : Host.Outcome State Fault Refusal :=
  match (s.core die core).tc.crcBusy with
  | some (t, at_) =>
    if at_ + s.cycles die 32 ≤ s.time then
      let a := lsAddr core (4096 * t)
      let s1 := if s.badIn die a 4096 then s.poisonRead die a core else s
      .next (s1.modTc die core (fun x => { x with crcBusy := none, crc := BitVec.ofNat 32 (crc32c (s.bytes die a 4096)) }))
    else .next s
  | none => .next s

/-! ### Registers of the core-control window (Table 3 of ch.05) -/

/-- First byte and length of the register that holds byte `o` of a queue block, or of the counters and comparators of the
tidy-core block (Table 4 of ch.05). -/
def queueReg (o : Nat) : Option (Nat × Nat) :=
  if o < 0x08 then some (0x00, 8)
  else if o < 0x20 then some (o / 4 * 4, 4)
  else if o < 0x38 then some (o / 8 * 8, 8)
  else if o < 0x4C then some (o / 4 * 4, 4)
  else if o < 0x50 then none
  else if o < 0x70 then some (o / 4 * 4, 4)
  else if o < 0x90 then some (o / 8 * 8, 8)
  else none

/-- First byte and length of the register that holds byte `off` of the window; none where nothing is listed. -/
def coreReg (off : Nat) : Option (Nat × Nat) :=
  if off < 0x300 then (queueReg (off % 0x100)).map (fun r => (off / 0x100 * 0x100 + r.1, r.2))
  else if off < 0x320 then some (off / 4 * 4, 4)
  else if off < 0x350 then none
  else if off < 0x390 then (queueReg (off - 0x300)).map (fun r => (0x300 + r.1, r.2))
  else if off < 0x400 then none
  else if off < 0x500 then
    (if off % 16 < 8 then some (off / 8 * 8, 8) else if off % 16 < 12 then some (off / 4 * 4, 4) else some (off / 4 * 4, 4))
  else if 0x800 ≤ off ∧ off < 0x808 then some (off / 4 * 4, 4)
  else if 0x810 ≤ off ∧ off < 0x850 then some (off / 16 * 16, 16)
  else if (0x4000 ≤ off ∧ off < 0x4008) ∨ (0x5000 ≤ off ∧ off < 0x5008) then some (off / 4 * 4, 4)
  else if (0x4008 ≤ off ∧ off < 0x4028) ∨ (0x5008 ≤ off ∧ off < 0x5028) then some (off / 8 * 8, 8)
  else if (0x4400 ≤ off ∧ off < 0x4800) ∨ (0x5400 ≤ off ∧ off < 0x5800) then some (off / 8 * 8, 8)
  else if (0x6000 ≤ off ∧ off < 0x6018) ∨ (0x6400 ≤ off ∧ off < 0x6C00) then some (off / 8 * 8, 8)
  else none

/-- Q_STATUS (Table 6 of ch.05). -/
def State.qStatus (s : State) (d c e : Nat) : Nat :=
  let q := (s.core d c).q e
  let st := s.queueState d c e
  if s.coreOut d c then 0
  else field 29 st.1 + field 27 st.2.1 + field 23 st.2.2 + field 22 (s.wantsLeave d c e).toNat + q.accepted

/-- A register of a queue block read (Table 4 of ch.05). -/
def State.queueRead (s : State) (d c e o : Nat) : Nat :=
  let q := (s.core d c).q e
  if o = 0x00 then q.base.toNat
  else if o = 0x08 then q.size.toNat
  else if o = 0x0C then field 31 q.enable.toNat
  else if o = 0x10 then q.tail.toNat
  else if o = 0x14 then q.head.toNat
  else if o = 0x18 then s.qStatus d c e
  else if o = 0x1C then q.err.toNat
  else if o = 0x20 then q.pc.toNat
  else if o = 0x28 then q.done.toNat
  else if o = 0x30 then q.cBase.toNat
  else if o = 0x38 then q.cSize.toNat
  else if o = 0x3C then q.cHead.toNat
  else if o = 0x40 then q.cTail.toNat
  else if o = 0x44 then q.cLost.toNat
  else if o = 0x48 then q.irq.toNat
  else if o < 0x70 then ((s.core d c).counter e ((o - 0x50) / 4)).toNat
  else ((s.core d c).comparator e ((o - 0x70) / 8)).toNat

/-- TQ_STATE (Table 9 of ch.05). -/
def tqState (q : TileQueue) : Nat := field 31 q.ext.toNat + field 16 q.lost.toNat + field 8 q.reserved + q.written

/-- MX_STATUS or VX_STATUS (Table 12 of ch.03, Table 7 of ch.04). `fault` is bit 31. -/
def engineStatus (q : QueueSt) (fault : Bool) (mode : Nat) : Nat :=
  field 31 fault.toNat + field 30 (!q.run.isEmpty).toNat + field 28 mode + q.accepted

/-- An operand block as it reads: reserved fields zero (Tables 15 and 17 of ch.05, R10). -/
def obRead (w : BitVec 512) : BitVec 512 :=
  if bits w 502 500 = 0 then putBits (putBits w 499 480 0) 211 23 0
  else if bits w 502 500 = 1 then putBits (putBits w 511 503 0) 411 0 0
  else w

/-- MX_STATUS.FAULT: aborted by an engine check, halted; a hang is no engine check (R100, R151). -/
def QueueSt.checkFault (q : QueueSt) : Bool := q.halt == some .fault && bits q.err 31 24 == stFault

/-- TC_STATUS (Table 24 of ch.05). -/
def tcStatus (t : TcSt) : Nat := field 30 (match t.st with | .stopped => 0 | .running => 1 | .wfi => 2 | .lockstep => 3)

/-- The register at offset `o` of the window, as a read sees it without side effects. -/
def State.coreRead (s : State) (d c o : Nat) : Nat :=
  let x := s.core d c
  if o < 0x300 then s.queueRead d c (o / 0x100) (o % 0x100)
  else if o = 0x300 then field 31 x.tc.runBit.toNat
  else if o = 0x304 then tcStatus x.tc
  else if o = 0x308 then x.tc.pc.toNat
  else if o = 0x310 then x.tc.irqEn.toNat
  else if o = 0x314 then (s.tcPending d c).toNat
  else if o = 0x31C then (if x.tc.crcBusy.isSome then 0xFFFFFFFF else x.tc.crc.toNat)
  else if o < 0x350 then 0
  else if o < 0x370 then (x.counter 3 ((o - 0x350) / 4)).toNat
  else if o < 0x390 then (x.comparator 3 ((o - 0x370) / 8)).toNat
  else if o < 0x500 then
    let q := x.tileQueue ((o - 0x400) / 16)
    let h := ((tqHead q).getD (BitVec.allOnes 64)).toNat
    if o % 16 = 8 then h % 2 ^ 32 else if o % 16 = 12 then tqState q else 0
  else if o = 0x804 then field 31 x.sm.fired.toNat + x.sm.firings.toNat
  else if 0x810 ≤ o ∧ o < 0x850 then (mapGet 0 x.sm.recs ((o - 0x810) / 16)).toNat
  else if o = 0x4000 then engineStatus x.q0 x.q0.checkFault x.mx.mode.toNat
  else if o = 0x4004 then x.mx.flags.toNat
  else if o = 0x4008 then x.mx.fault.toNat
  else if o = 0x4010 then x.mx.faultAddr.toNat
  else if o = 0x4018 then (x.mx.busyCycles + s.busyGain d c 0) / 256000 % 2 ^ 64
  else if o = 0x4020 then x.mx.products.toNat
  else if o < 0x4800 then bits (obRead (mapGet 0 x.ob ((o - 0x4400) / 64))) (o % 64 * 8 + 63) (o % 64 * 8)
  else if o = 0x5000 then engineStatus x.q1 (x.q1.halt == some .fault) x.vx.loops.length
  else if o = 0x5004 then x.vx.flags.toNat
  else if o = 0x5008 then x.vx.fault.toNat
  else if o = 0x5010 then x.vx.faultAddr.toNat
  else if o = 0x5018 then (x.vx.busyCycles + s.busyGain d c 1) / 256000 % 2 ^ 64
  else if o = 0x5020 then x.vx.laneOps.toNat
  else if o < 0x5800 then bits (descClean (mapGet 0 x.vx.table ((o - 0x5400) / 32))) (o % 32 * 8 + 63) (o % 32 * 8)
  else if o = 0x6000 then x.mvFault.toNat
  else if o = 0x6008 then x.mvFaultAddr.toNat
  else if o = 0x6010 then x.mvBytes.toNat
  else bits (mapGet 0 x.td ((o - 0x6400) / 32)) (o % 32 * 8 + 63) (o % 32 * 8)

/-- A byte of the window without side effects. -/
def State.coreByte (s : State) (d c off : Nat) : Byte :=
  match coreReg off with
  | some (b, _) => BitVec.ofNat 8 (s.coreRead d c b >>> (8 * (off - b)))
  | none => 0

/-- n bytes of the window from `off` (R136): a 64-bit read of a TQ_POP pops (Table 9 of ch.05); so does one of at most 4 bytes, the
widest read a tidy core makes, which may pop too (R142; DEDUCED, notes/assumptions/98.md). One marked `peek` shows the head
(R523). -/
def State.coreReadAt (s : State) (d c off n : Nat) (peek : Bool) : List Byte × State :=
  let pop := decide (0x400 ≤ off) && decide (off < 0x500) && off % 16 == 8 && (n == 8 || decide (n ≤ 4))
  let plain := (List.range n).map (fun i => s.coreByte d c (off + i))
  if !pop then (plain, s)
  else
    let p := s.tqPopRead d c ((off - 0x400) / 16)
    (toBytes n p.1.toNat, if peek then s else p.2)

/-- A field of 64 bits of a table word replaced. -/
def putWord {w : Nat} (v : BitVec w) (o x : Nat) : BitVec w := putBits v (8 * o + 63) (8 * o) x

/-- An operand block, transfer descriptor or tensor descriptor word written. -/
def CoreSt.tableWrite (x : CoreSt) (o v : Nat) : CoreSt :=
  if 0x4400 ≤ o ∧ o < 0x4800 then
    let i := (o - 0x4400) / 64
    { x with ob := mapSet 0 x.ob i (putWord (mapGet 0 x.ob i) (o % 64) v) }
  else if 0x5400 ≤ o ∧ o < 0x5800 then
    let i := (o - 0x5400) / 32
    { x with vx := { x.vx with table := mapSet 0 x.vx.table i (putWord (mapGet 0 x.vx.table i) (o % 32) v) } }
  else
    let i := (o - 0x6400) / 32
    { x with td := mapSet 0 x.td i (putBits (putWord (mapGet 0 x.td i) (o % 32) v) 4 0 0) }

/-- A counter written (R146, R164). -/
def State.counterWrite (s : State) (d c e i : Nat) (v : BitVec 32) : State := (s.putCounter d c e i v).act d c

/-- A comparator written (R147). One of the tidy core's that is true then sets its bit of TC_IRQ_PEND (notes/assumptions/96.md). -/
def State.cmpWrite (s : State) (d c e i : Nat) (v : BitVec 64) : State :=
  let s1 := (s.modCore d c (fun x => x.setComparator e i (cmpMask v))).act d c
  if e = 3 ∧ s1.cmpHolds d c 3 i then s1.modCore d c (fun x => x.tcPend (3 + i)) else s1

/-- A write of the whole register at offset `o` of a queue block (Table 4 of ch.05). -/
def State.queueRegWrite (s : State) (d c e o v : Nat) : State :=
  let setQ (f : QueueSt → QueueSt) : State := s.modCore d c (fun x => x.modQ e f)
  if o = 0x00 then s.cfgWrite d c e .qBase (BitVec.ofNat 64 v)
  else if o = 0x08 then s.cfgWrite d c e .qSize (BitVec.ofNat 64 v)
  else if o = 0x0C then s.qCtrl d c e (BitVec.ofNat 32 v)
  else if o = 0x10 then s.tailWrite d c e (BitVec.ofNat 32 v)
  else if o = 0x30 then s.cfgWrite d c e .cBase (BitVec.ofNat 64 v)
  else if o = 0x38 then s.cfgWrite d c e .cSize (BitVec.ofNat 64 v)
  else if o = 0x3C then setQ (fun q => { q with cHead := BitVec.ofNat 32 v })
  else if o = 0x48 then setQ (fun q => { q with irq := putBits (BitVec.ofNat 32 v) 29 8 0 })
  else if 0x50 ≤ o ∧ o < 0x70 then
    s.counterWrite d c e ((o - 0x50) / 4) (BitVec.ofNat 32 v)
  else if 0x70 ≤ o ∧ o < 0x90 then s.cmpWrite d c e ((o - 0x70) / 8) (BitVec.ofNat 64 v)
  else s

/-- CAUSE of a fault record written: zero clears the record and its address; a cause that the register defines stands in the field,
and a reserved one is ignored (Table 14 of ch.03, Table 6 of ch.04, Table 21 of ch.05; the spec gives a non-zero write no further
effect: DESIGN CHOICE, notes/assumptions/95.md). -/
def causeWrite (top : Nat) (v : Nat) (fault addr : BitVec 64) : BitVec 64 × BitVec 64 :=
  let cause := v / 2 ^ 56 % 256
  if cause = 0 then (0, 0) else if cause ≤ top then (putBits fault 63 56 cause, addr) else (fault, addr)

/-- A write of the whole register at offset `o` of the window; read-only registers ignore it. -/
def State.coreWrite (s : State) (d c o v : Nat) : State :=
  let w32 : BitVec 32 := BitVec.ofNat 32 v
  if o < 0x300 then s.queueRegWrite d c (o / 0x100) (o % 0x100) v
  else if o = 0x300 then
    let s1 := s.tcRun d c (bit w32 31)
    if bit w32 30 then s1.tcStepWrite d c else s1
  else if o = 0x30C then (if bit w32 0 then s.modCore d c (fun x => x.tcPend 7) else s)
  else if o = 0x310 then s.modTc d c (fun t => { t with irqEn := putBits w32 31 10 0 })
  else if o = 0x314 then s.tcIrqClear d c w32
  else if o = 0x318 then s.tcCrcStart d c v
  else if 0x350 ≤ o ∧ o < 0x390 then s.queueRegWrite d c 3 (o - 0x300) v
  else if 0x400 ≤ o ∧ o < 0x500 then
    let t := (o - 0x400) / 16
    if o % 16 = 0 then (s.modCore d c (fun x => x.push t (BitVec.ofNat 64 v))).act d c
    else if o % 16 = 12 then
      (s.modCore d c (fun x => let q := x.tileQueue t; x.setTileQueue t { q with ext := bit w32 31 })).act d c
    else s
  else if o = 0x800 then (if bit w32 31 then s.smRelease d c else s)
  else if o = 0x4004 then s.modCore d c (fun x => { x with mx := { x.mx with flags := x.mx.flags &&& ~~~w32 } })
  else if o = 0x5004 then s.modCore d c (fun x => { x with vx := { x.vx with flags := x.vx.flags &&& ~~~w32 } })
  else if o = 0x4008 then
    s.modCore d c (fun x => let p := causeWrite 4 v x.mx.fault x.mx.faultAddr; { x with mx := { x.mx with fault := p.1, faultAddr := p.2 } })
  else if o = 0x5008 then
    s.modCore d c (fun x => let p := causeWrite 6 v x.vx.fault x.vx.faultAddr; { x with vx := { x.vx with fault := p.1, faultAddr := p.2 } })
  else if o = 0x6000 then
    s.modCore d c (fun x => let p := causeWrite 3 v x.mvFault x.mvFaultAddr; { x with mvFault := p.1, mvFaultAddr := p.2 })
  else if (0x4400 ≤ o ∧ o < 0x4800) ∨ (0x5400 ≤ o ∧ o < 0x5800) ∨ (0x6400 ≤ o ∧ o < 0x6C00) then
    s.modCore d c (fun x => x.tableWrite o v)
  else s

/-- Registers in which 1 bits act: bytes that a shorter write does not cover count as zero there. -/
def actsOnOnes (o : Nat) : Bool :=
  o == 0x30C || o == 0x314 || o == 0x318 || o == 0x800 || o == 0x4004 || o == 0x5004
  || (decide (0x400 ≤ o) && decide (o < 0x500) && o % 16 == 0)

/-- Writes bytes into registers of a window: each register touched takes its covered bytes, the rest as it reads (DESIGN
CHOICE, notes/assumptions/9.md). `fuel` bounds the registers. -/
def State.coreWriteAt (d c : Nat) : Nat → State → Nat → List Byte → State
  | 0, s, _, _ => s
  | _, s, _, [] => s
  | fuel + 1, s, off, bs =>
    match coreReg off with
    | none => State.coreWriteAt d c fuel s (off + 1) (bs.drop 1)
    | some (b, w) =>
      let n := min (b + w - off) bs.length
      let base := if actsOnOnes b then 0 else s.coreRead d c b
      let old := toBytes w base
      let new := old.take (off - b) ++ bs.take n ++ old.drop (off - b + n)
      State.coreWriteAt d c fuel (s.coreWrite d c b (ofBytes new)) (off + n) (bs.drop n)

/-! ### Die control -/

/-- The words of the step log (Table 7 of ch.15). -/
def State.stepWord (s : State) (d k : Nat) : Nat :=
  let x := (s.die d).step
  match k with
  | 0 => x.base.toNat
  | 1 => x.mirror.toNat
  | 3 => x.last.toNat
  | 4 => field 62 (if s.obj 0x8200 1 = 0 then 0 else if x.busy.isSome then 2 else if x.buddyLost then 3 else 1) + x.mirrored.toNat
  | _ => 0

/-- GT_STATUS (Table 9 of ch.08): the state, HOLD, HOPS, and the kickoff entries armed. -/
def State.gtStatus (s : State) (d : Nat) : Nat :=
  field 30 (s.gtState d).toNat + field 29 s.gt.hold.isSome.toNat
    + field 16 (if s.gtState d = 0 then 0xFF else s.gt.hops.toNat) + ((s.die d).ko.filter (fun kv => koArmed kv.2)).length

/-- The aligned 8-byte word of die control at offset `o`, as it reads (ch.06 R179, ch.08 R233, R238, R243, ch.12 R354, ch.13
R360, ch.15 R429). -/
def State.dieWord (s : State) (d o : Nat) : Nat :=
  if 0x10000 ≤ o ∧ o < 0x10800 then bits (s.ko d ((o - 0x10000) / 32)) (o % 32 * 8 + 63) (o % 32 * 8)
  else if 0x10800 ≤ o ∧ o < 0x10A00 then bits (s.rs d ((o - 0x10800) / 32)) (o % 32 * 8 + 63) (o % 32 * 8)
  else if o = 0x11000 then (s.localGt d).toNat
  else if o = 0x11008 then s.gtStatus d
  else if 0x12000 ≤ o ∧ o < 0x12800 then bits (s.race d ((o - 0x12000) / 32)) (o % 32 * 8 + 63) (o % 32 * 8)
  else if 0x13000 ≤ o ∧ o < 0x13028 then s.stepWord d ((o - 0x13000) / 8)
  else if 0x20000 ≤ o ∧ o < 0x24000 then bits (s.group d ((o - 0x20000) / 64)) (o % 64 * 8 + 63) (o % 64 * 8)
  else if 0x7C000 ≤ o ∧ o < 0x80000 then
    ofBytes ((List.range 8).map (fun i =>
      let b := o - 0x7C000 + i
      BitVec.ofNat 8 ((List.range 4).foldl (fun v j =>
        v + tstateCode (s.tile d (lsAddr (b / 0x200) (4096 * (4 * (b % 0x200) + j)))).st * 4 ^ j) 0)))
  else if 0x80000 ≤ o then (s.tile d (lsAddr ((o - 0x80000) / 0x4000) (4096 * ((o - 0x80000) % 0x4000 / 8)))).tag.toNat
  else 0

/-- A byte of die control. -/
def State.dieByte (s : State) (d off : Nat) : Byte := BitVec.ofNat 8 (s.dieWord d (off / 8 * 8) >>> (8 * (off % 8)))

/-- A whole tag written: the tag and state VALID (R179). Bits [43:40] are reserved (Table 3 of ch.06). -/
def State.tagWrite (s : State) (d c t : Nat) (v : Nat) : State :=
  let a := lsAddr c (4096 * t)
  (s.tagFresh d a).setTile d a { tag := putBits (BitVec.ofNat 64 v) 43 40 0, st := .valid }

/-- A word of a kickoff entry below its top word: discarded and logged while ARMED (R234). FIRES is read only. -/
def State.koWord (s : State) (d e k : Nat) (v : Nat) : State :=
  let w := s.ko d e
  if koArmed w then s.raise (softEvent d e 0 (memKey d (0x080400010000 + 0x20 * e)))
  else s.setKo d e (if k = 0 then putBits w 63 16 (v / 2 ^ 16) else putWord w (8 * k) v)

/-- A word of a round schedule below its top word (R234, R238). OVERRUNS is read only. -/
def State.rsWord (s : State) (d i k : Nat) (v : Nat) : State :=
  let w := s.rs d i
  if rsValid w then s.raise (softEvent d i 0 (memKey d (0x080400010800 + 0x20 * i)))
  else s.setRs d i (if k = 0 then putBits w 63 32 (v / 2 ^ 32) else if k = 2 then putBits w 191 144 (v / 2 ^ 16) else putWord w (8 * k) v)

/-- The local-store tiles whose tags or states n bytes of die control from `off` show (R179). -/
def tagTiles (off n : Nat) : List Nat :=
  if off < 0x7C000 then []
  else if off < 0x80000 then
    (List.range n).flatMap (fun i => (List.range 4).map (fun j => lsAddr ((off - 0x7C000 + i) / 0x200) (4096 * (4 * ((off - 0x7C000 + i) % 0x200) + j))))
  else (List.range ((off % 8 + n + 7) / 8)).map (fun i =>
    let o := off / 8 * 8 - 0x80000 + 8 * i
    lsAddr (o / 0x4000) (4096 * (o % 0x4000 / 8)))

/-- A read of die control: an uncorrectable tag entry makes its tile POISON and the data poisoned (R186). -/
def State.dieRead (s : State) (d off n : Nat) : Nat × List Byte × State :=
  let bad := (tagTiles off n).filter (fun a => s.badTags.contains (tileKey d a))
  let bs := (List.range n).map (fun i => s.dieByte d (off + i))
  if bad.isEmpty then (0, bs, s) else (0x49, bs, bad.foldl (fun s a => s.tagPoison d a 0xFF) s)

/-- An aligned 8-byte write of die control at offset `o`. -/
def State.dieWordWrite (s : State) (d o v : Nat) : State :=
  let w64 : BitVec 64 := BitVec.ofNat 64 v
  if 0x10000 ≤ o ∧ o < 0x10800 then
    let e := (o - 0x10000) / 32
    if o % 32 = 24 then (if bit w64 63 then s.koArm d e w64 else s.koDisarm d e w64) else s.koWord d e (o % 32 / 8) v
  else if 0x10800 ≤ o ∧ o < 0x10A00 then
    let i := (o - 0x10800) / 32
    if o % 32 = 24 then (if bit w64 63 then s.rsValidate d i w64 else s.rsInvalidate d i w64) else s.rsWord d i (o % 32 / 8) v
  else if 0x12000 ≤ o ∧ o < 0x12800 then
    let r := (o - 0x12000) / 32
    if o % 32 = 24 then (if bit w64 63 then s.raceArm d r w64 else s.raceDisarm d r w64) else s.raceWord d r (o % 32 / 8) w64
  else if o = 0x13000 then s.modStep d (fun x => { x with base := putBits w64 63 44 0 })
  else if o = 0x13008 then s.modStep d (fun x => { x with mirror := putBits w64 63 44 0 })
  else if o = 0x13010 then s.stepCommit d w64
  else if 0x20000 ≤ o ∧ o < 0x24000 then
    let g := (o - 0x20000) / 64
    if o % 64 = 56 then (if bit w64 63 then s.groupStart d g w64 else s.groupStop d g w64) else s.groupWord d g (o % 64 / 8) w64
  else if 0x80000 ≤ o then s.tagWrite d ((o - 0x80000) / 0x4000) ((o - 0x80000) % 0x4000 / 8) v
  else s

/-- Bytes written into die control word by word. A short or unaligned write of a tag is discarded and logged (R179); a
shorter write of another word takes its other bytes as they read (notes/assumptions/9.md). -/
def State.dieWriteAt (d : Nat) : Nat → State → Nat → List Byte → State
  | 0, s, _, _ => s
  | _, s, _, [] => s
  | fuel + 1, s, off, bs =>
    let n := min (8 - off % 8) bs.length
    let o := off / 8 * 8
    let old := toBytes 8 (s.dieWord d o)
    let new := old.take (off % 8) ++ bs.take n ++ old.drop (off % 8 + n)
    let s1 := if 0x80000 ≤ o ∧ n ≠ 8 then s.raise (softEvent d 0xFF 0 (memKey d (0x080400000000 + off)))
      else s.dieWordWrite d o (ofBytes new)
    State.dieWriteAt d fuel s1 (off + n) (bs.drop n)

/-! ### Memory -/

/-- The byte at key k lies in one of the words listed. -/
def inWords (ws : List Nat) (k : Nat) : Bool := ws.any (fun w => w == k / 16)

/-- A write of bytes to HBM or local store that is no whole-tile producer's (R180): status and state. A local-store word
written in part is read first; where it is uncorrectable its write is discarded, the word stands as it was, the tile becomes
POISON, and the status is POISONED (R171, R186). -/
def State.storeBytes (s : State) (d a : Nat) (bs : List Byte) : Nat × State :=
  let k := memKey d a
  let torn := s.badWords.filter (fun w => decide (16 * w < k + bs.length) && decide (k < 16 * w + 16)
    && !(decide (k ≤ 16 * w) && decide (16 * w + 16 ≤ k + bs.length)))
  if torn.isEmpty then (0, s.rawWrite d a bs)
  else
    let kept := (List.range bs.length).map (fun i => if inWords torn (k + i) then s.byte d (a + i) else bs.getD i 0)
    (0x49, torn.foldl (fun s w => s.poisonRead d (16 * w % 2 ^ 44 / 4096 * 4096) 0xFF) (s.rawWrite d a kept))

/-- A read of bytes of HBM or local store that is no verifying read: status POISONED where a word or burst is bad, the tile
then POISON (R186, R203). -/
def State.loadBytes (s : State) (d a n : Nat) : Nat × List Byte × State :=
  if s.badIn d a n then
    (0x49, s.bytes d a n, (tilesOf a n).foldl (fun s t => if s.badIn d t 4096 then s.poisonRead d t 0xFF else s) s)
  else (0, s.bytes d a n, s)

/-- Bytes of instruction memory as fetched are kept where a store changes them before a FENCE.I (R161). A host write while RUN is 1
is discarded and logged (R163). -/
def State.imemWrite (s : State) (d c off : Nat) (bs : List Byte) (ag : Agent) : State :=
  let t := (s.core d c).tc
  if t.runBit ∧ ag = .host then s.raise (softEvent d c 0 (memKey d (imemAddr c off)))
  else
    let fresh := (List.range bs.length).filterMap (fun i =>
      if t.stale.any (fun b => b.1 == off + i) then none else some (off + i, s.byte d (imemAddr c (off + i))))
    (s.modTc d c (fun t => { t with stale := t.stale ++ fresh })).putBytes d (imemAddr c off) bs

/-- A write of arrival counters: aligned, 8 bytes, or discarded with ALIGN (R352). -/
def State.arrivalWrite (s : State) (d off : Nat) (bs : List Byte) : Nat × State :=
  if off % 8 ≠ 0 ∨ bs.length ≠ 8 then (0x4A, s) else (0, s.setArrival d (off / 8) (BitVec.ofNat 64 (ofBytes bs)))

/-- A byte of the arrival counters. -/
def State.arrivalByte (s : State) (d off : Nat) : Byte := BitVec.ofNat 8 ((s.arrival d (off / 8)).toNat >>> (8 * (off % 8)))

/-! ### Local accesses -/

/-- A write of die control. One of tags that does not begin at a tag is discarded whole and logged once (R179). -/
def State.dieWriteTop (s : State) (d off : Nat) (bs : List Byte) : State :=
  if 0x80000 ≤ off ∧ off % 8 ≠ 0 then s.raise (softEvent d 0xFF 0 (memKey d (0x080400000000 + off)))
  else State.dieWriteAt d bs.length s off bs

/-- What a local access answers: it must wait, or a status, the data read and the state after it. -/
inductive LocalRes where
  | wait
  | done (st : Nat) (bs : List Byte) (s : State)
deriving DecidableEq, Repr

/-- The core whose region an access meets. -/
def regionCore : Region → Option Nat
  | .store c _ => some c
  | .accum c _ => some c
  | .imem c _ => some c
  | .coreCtl c _ => some c
  | _ => none

/-- The event of an address refusal (R34), with its issuer: an engine or a tidy core of core `by_` on the die itself, or the
steward or the host through it, as SOURCE and UNIT. DETAIL holds the issuing module, this one, in [63:48] and the address refused,
die and LOCAL, in [47:0] (DESIGN CHOICE, notes/assumptions/101.md). -/
def State.holeEvent (s : State) (d a : Nat) (by_ : Option Nat) : State :=
  s.raise (softEvent (if by_.isSome then d else 24) (by_.getD 0xFF) 0x09 (field 48 s.moduleId + memKey d a))

/-- An access that cannot be served now waits; one to a core that is out meets ADDR_HOLE, but for its control window (R398,
R399). -/
def State.barred (s : State) (d : Nat) (r : Region) (a : Nat) (by_ : Option Nat := none) : Option LocalRes :=
  if !s.dieRuns d then some .wait
  else match regionCore r with
  | some c =>
    if s.coreOut d c && !(match r with | .coreCtl _ _ => true | _ => false) then some (.done 0x09 [] (s.holeEvent d a by_)) 
    else if s.substituting d c then some .wait else none
  | none => none

/-- A hole: status ADDR_HOLE, logged (R34). -/
def State.hole (s : State) (d a : Nat) (by_ : Option Nat) : LocalRes := .done 0x09 [] (s.holeEvent d a by_)

/-- Accumulator entries read one after another (R76). -/
def State.accReadAll (d c : Nat) : Nat → State → Nat → Nat → LocalRes
  | 0, s, _, _ => .done 0 [] s
  | fuel + 1, s, off, n =>
    if n = 0 then .done 0 [] s
    else if (s.core d c).owned (accRow off) (accCol off) then .wait
    else
      let k := min n (16 - off % 16)
      let p := s.accRead d c off k
      if p.1.1 ≠ 0 then .done p.1.1.toNat [] p.2
      else match State.accReadAll d c fuel p.2 (off + k) (n - k) with
        | .wait => .wait
        | .done st bs s1 => .done st (p.1.2 ++ bs) s1

/-- Accumulator entries written one after another (R76). -/
def State.accWriteAll (d c : Nat) : Nat → State → Nat → List Byte → LocalRes
  | 0, s, _, _ => .done 0 [] s
  | _, s, _, [] => .done 0 [] s
  | fuel + 1, s, off, bs =>
    if (s.core d c).owned (accRow off) (accCol off) then .wait
    else
      let k := min bs.length (16 - off % 16)
      let p := s.accWrite d c off (bs.take k)
      if p.1 ≠ 0 then .done p.1.toNat [] p.2 else State.accWriteAll d c fuel p.2 (off + k) (bs.drop k)

/-- n bytes read from local address a of die d; `by_` is the core that issues the access, none for the steward and the host. -/
def State.localRead (s : State) (d a n : Nat) (peek : Bool := false) (by_ : Option Nat := none) : LocalRes :=
  let r := regionSpan a n
  match s.barred d r a by_ with
  | some x => x
  | none =>
    match r with
    | .hbm | .store _ _ | .imem _ _ => let p := s.loadBytes d a n; .done p.1 p.2.1 p.2.2
    | .accum c off => State.accReadAll d c n s off n
    | .coreCtl c off => let p := s.coreReadAt d c off n peek; .done 0 p.1 p.2
    | .dieCtl off => let p := s.dieRead d off n; .done p.1 p.2.1 p.2.2
    | .arrival off => .done 0 ((List.range n).map (fun i => s.arrivalByte d (off + i))) s
    | .hole => s.hole d a by_

/-- Bytes written to local address a of die d by an agent, of core `by_` where the access is a core's. -/
def State.localWrite (s : State) (d a : Nat) (bs : List Byte) (ag : Agent) (by_ : Option Nat := none) : LocalRes :=
  let r := regionSpan a bs.length
  match s.barred d r a by_ with
  | some x => x
  | none =>
    match r with
    | .hbm | .store _ _ => let p := s.storeBytes d a bs; .done p.1 [] p.2
    | .imem c off => .done 0 [] (s.imemWrite d c off bs ag)
    | .accum c off => State.accWriteAll d c bs.length s off bs
    | .coreCtl c off => .done 0 [] (State.coreWriteAt d c bs.length s off bs)
    | .dieCtl off => .done 0 [] (s.dieWriteTop d off bs)
    | .arrival off => let p := s.arrivalWrite d off bs; .done p.1 [] p.2
    | .hole => s.hole d a by_

/-- An access made from outside: its answer leaves the module. A read of bad data carries status POISONED and the data. -/
def State.answer (s : State) (d a : Nat) (ag : Agent) (acc : Access) (peek : Bool) : State :=
  match acc with
  | .read n => match s.localRead d a n peek with
    | .done st bs s1 => s1.emit (.reply (BitVec.ofNat 8 st) bs)
    | .wait => s
  | .write bs => match s.localWrite d a bs ag with
    | .done st _ s1 => if st = 0 then s1 else s1.emit (.reply (BitVec.ofNat 8 st) [])
    | .wait => s

/-- An access of local space from outside the die: in the accumulator window it may wait for its entry (R76); elsewhere it is
answered, or held under R398 and R450. -/
def State.access (s : State) (d a : Nat) (ag : Agent) (acc : Access) (peek : Bool := false) : State :=
  let n := match acc with | .read n => n | .write bs => bs.length
  let r := regionSpan a n
  s.reach d (regionCore r) a ag acc (match r, acc with
    | .accum c off, .read n => s.accAccess d c off (min n (16 - off % 16)) none
    | .accum c off, .write bs => s.accAccess d c off bs.length (some bs)
    | _, _ => s.answer d a ag acc peek) peek

/-- An action held for a core or a die takes effect (R398, R450). -/
def State.doHeld (s : State) (d : Nat) (h : HeldAct) : State :=
  match h with
  | .cntAdd c e i v => s.addCounter d c e i v
  | .push c t v => s.pushOutside d c t v
  | .irq c b => s.irqOutside d c b
  | .local_ a ag peek acc => s.access d a ag acc peek

/-- Host writes that waited for earlier ones are tried in their order; the first that must wait still holds back the rest (R135). -/
def State.serveOrdered (s : State) : State :=
  let hs := s.host.ordered
  hs.foldl (fun s x => s.doHeld x.1 x.2) { s with host := { s.host with ordered := [] } }

/-- Every held action of a die takes effect in its order; those that must still wait are held again. -/
def State.serveHeld (s : State) (d : Nat) : State :=
  let hs := (s.die d).heldActs
  (hs.foldl (fun s h => s.doHeld d h) (s.modDie d (fun x => { x with heldActs := [] }))).serveOrdered

/-! ### Rows -/

/-- TAG_WRITE (R179): a whole aligned tag, or discarded and logged. -/
def execTagWrite (die : Fin 16) (core : Fin 32) (off : Fin 0x4000) (data : List Byte) (s : State) :
    Host.Outcome State Fault Refusal :=
  let a := 0x080400080000 + 0x4000 * core.val + off.val
  .next (s.reach die (some core.val) a .host (.write data)
    (if off.val % 8 = 0 ∧ data.length = 8 then s.tagWrite die core (off.val / 8) (ofBytes data)
     else s.raise (softEvent die core 0 (memKey die a))))

/-- Local address of a register. -/
def regAddrLocal : RegAddr → Option (Nat × Nat)
  | .core d c off => some (d.val, ctlAddr c off)
  | .dieControl d off => some (d.val, 0x080400000000 + off.val)
  | .arrival d off => some (d.val, 0x080500000000 + off.val)
  | .bar0 _ | .config _ => none

end Sys2Proof.Machine
end

