-- ==== Sys2Proof/Machine/Complete.lean ====
section
/-! DEFINITION. Completion of commands (R149 to R151): the record in the completion ring, and the row that completes. -/

namespace Sys2Proof.Machine

/-- A completion record of core c0 on its way to local address `a` of die d. It goes where any write of the core goes; a core that is being
substituted takes it when it resumes (R398), and an entry of accumulator memory that is owned when it is free (R76). -/
def State.recordWrite (s : State) (d c0 a : Nat) (bs : List Byte) : State :=
  match s.localWrite d a bs .move (some c0), regionSpan a bs.length with
  | .done _ _ s1, _ => s1
  | .wait, .accum c off => if s.substituting d c then s.holdAct d (.local_ a .move false (.write bs)) else s.accAccess d c off bs.length (some bs)
  | .wait, _ => s.holdAct d (.local_ a .move false (.write bs))

/-- R150: the record of a completed command written to the completion ring, or dropped and counted. C_LOST is a 32-bit count and
wraps as C_TAIL does (DESIGN CHOICE, notes/assumptions/14.md). -/
def State.putRecord (s : State) (d c e : Nat) (r : Run) : State :=
  let q := (s.core d c).q e
  if q.cSize = 0 then s
  else if q.cTail - q.cHead = BitVec.ofNat 32 (2 ^ q.cSize.toNat) then
    (s.modCore d c (fun x => x.modQ e (fun q => { q with cLost := q.cLost + 1 }))).bump 0x7070 5
  else
    let a := q.cBase.toNat % 2 ^ 44 + 16 * (q.cTail.toNat % 2 ^ q.cSize.toNat)
    let rec' := complRecord r e (bits (s.localGt d) 47 8) (r.slot && r.status != 0)
    (s.recordWrite d c a (toBytes 16 rec')).modCore d c (fun x => x.modQ e (fun q => { q with cTail := q.cTail + 1 }))

/-- R149: a command completes. Its record is written, then it leaves execution. -/
def State.complete (s : State) (d c e : Nat) (r : Run) : State := (s.putRecord d c e r).leave d c e r

/-- A command in execution that may complete does. -/
def State.completeRow (s : State) (d c e : Nat) (num : BitVec 64) : State :=
  let q := (s.core d c).q e
  match (s.core d c).findRun e num with
  | some r => if mayComplete q e r then s.complete d c e r else s
  | none => s

/-- Output tiles that a command of level 1 has held OPEN are released (R189). -/
def State.releaseTiles (s : State) (d c : Nat) (r : Run) : State :=
  r.tiles.foldl (fun s t =>
    let i := s.tile d (lsAddr c (4096 * t))
    if i.st = .open ∧ bits i.tag 63 48 = r.num.toNat % 2 ^ 16 then s.setTileSt d (lsAddr c (4096 * t)) .valid else s) s

/-- The second verifying read of every input tile of a matrix or vector command of level 1, after its last use and before its output
is released (R189). Tiles that the command itself has written since are not read again. -/
def State.secondReads (s : State) (d c e : Nat) (num : BitVec 64) : State :=
  match (s.core d c).findRun e num with
  | some r =>
    if r.status = 0 ∧ r.level = 1 ∧ e < 2 ∧ mayComplete ((s.core d c).q e) e r then
      match r.ins.findSome? (fun t => if r.tiles.contains t then none else
          (s.verify d (lsAddr c (4096 * t)) 1).map (fun why => (t, why))) with
      | some x =>
        let w : Work := { mkWork s d c r with seen := r.ins, fail := some (.tile (4096 * x.1) x.2) }
        if e = 0 then w.endMx num else w.endVx num
      | none => s.releaseTiles d c r
    else s
  | none => s

/-- A command completes: record, flags, counter, handle, interrupt, halt (R149, R151). -/
def State.completion (s : State) (d c e : Nat) (num : BitVec 64) : State := ((s.issueDead d c e num).secondReads d c e num).completeRow d c e num

end Sys2Proof.Machine
end

