-- ==== Sys2Proof/Machine/Memory.lean ====
section
/-! DEFINITION. Remote memory at the home die (R335 to R338, R349 to R357), ordered flows at their destination (R315, R316), and
the answers to merged requests at light dies (R346, R347). -/

namespace Sys2Proof.Machine

/-! ### Requests -/

/-- The operation of a request, merged or not: 1 READ, 2 WRITE, 3 WRITE_ARR, 4 ATOMIC, 5 CLAIM (Table 1 of ch.12). -/
def reqKind (k : Packet) : Nat := k.op.toNat % 8

/-- The first address of a request: with TILE set, the tile (Table 2 of ch.12). -/
def reqBase (k : Packet) : Nat := if k.tile then k.addr.toNat / 4096 * 4096 else k.addr.toNat

/-- The arrival counter of a WRITE_ARR. -/
def reqArr (k : Packet) : Option Nat :=
  if reqKind k = 3 then some (if k.tile then k.addr.toNat % 4096 else bits k.opx 27 16) else none

/-- Line numbers that a request touches. -/
def reqLines (k : Packet) : List Nat :=
  (List.range (if reqKind k = 4 ∨ reqKind k = 5 then 1 else k.lines.toNat)).map (fun i => reqBase k / 128 + i)

/-- WANT_TILE of a READ. -/
def wantTile (k : Packet) : Bool := reqKind k == 1 && bit k.opx 8

/-- First address and bytes that a write puts into a line (Table 2 of ch.12). -/
def lineWrite (k : Packet) (line : Nat) : Nat × List Byte :=
  if k.tile then (128 * line, (k.payload.drop (128 * line - reqBase k)).take 128)
  else
    let i := line - k.addr.toNat / 128
    let lo := if i = 0 then k.addr.toNat % 128 else 0
    let hi := if i + 1 = k.lines.toNat then bits k.opx 6 0 else 127
    (128 * line + lo, (k.payload.drop (128 * i + lo)).take (hi + 1 - lo))

/-- Every line that a request touches lies in one region that admits remote access. -/
def reqRemote (k : Packet) : Bool :=
  match reqLines k with
  | [] => true
  | l :: ls => remoteRange (128 * l) (128 * (ls.length + 1))

/-- The region of the first line of a request. -/
def reqRegion (k : Packet) : Region := regionOf (reqBase k / 128 * 128)

/-- The status with which a home die refuses a request before any line operation (R34, R350, R352, R399); 0 for none. -/
def State.reqStatus (s : State) (d : Nat) (k : Packet) : Nat :=
  if !reqRemote k then (if reqRegion k = .hole then 0x09 else 0x0A)
  else if reqKind k = 4 ∧ k.addr.toNat % 8 ≠ 0 then 0x4A
  else match reqRegion k with
    | .store c _ => if s.coreOut d c then 0x09 else 0
    | .arrival _ =>
      if (reqKind k = 2 ∨ reqKind k = 3) ∧ (k.tile ∨ k.lines ≠ 1 ∨ k.addr.toNat % 8 ≠ 0 ∨ bits k.opx 6 0 ≠ k.addr.toNat % 128 + 7)
      then 0x4A else 0
    | _ => 0

/-! ### Responses -/

/-- The header of a response to a request from die d (R337, R346). -/
def State.responseTo (s : State) (d : Nat) (k : Packet) (st : Nat) : Packet :=
  { k with op := k.op + 0x10, ord := false, tile := false, tstate := 0, hops := 0, lines := 0, dstModule := k.srcModule
           srcModule := BitVec.ofNat 16 s.moduleId, dstDie := k.srcDie, srcDie := BitVec.ofNat 4 d, first := false
           opx := BitVec.ofNat 64 st, payload := [] }

/-- The response to a request whose line operations are done (Table 2 of ch.12). A tile whose payload a write has changed since its
lines were read leaves as UNTAGGED (R197). -/
def State.homeResponse (s : State) (d : Nat) (h : HomeOp) : Packet :=
  let r := s.responseTo d h.pkt h.st.toNat
  let data := h.got.flatMap (fun p => p.2)
  if h.st ≠ 0 then r
  else match reqKind h.pkt with
  | 1 =>
    if wantTile h.pkt then
      let t0 := s.tile d (reqBase h.pkt)
      let t : TileInfo := if t0.st = .valid ∧ data ≠ s.bytes d (reqBase h.pkt) 4096 then { t0 with st := .untagged } else t0
      { r with tile := true, tstate := BitVec.ofNat 2 (tstateCode t.st), lines := 32, opx := t.tag, payload := data }
    else { r with lines := h.pkt.lines, payload := data }
  | 4 => { r with lines := 1, payload := toBytes 8 h.old.toNat ++ List.replicate 120 0 }
  | _ => r

/-! ### Ordered flows at the destination (R315, R316) -/

/-- A packet belongs to a reorder context. -/
def Reorder.of (r : Reorder) (k : Packet) : Bool := r.m == k.srcModule && r.d == k.srcDie && r.flow == k.flow

/-- Whether an ordered packet finds or opens its context: the contexts after it, or none where it is refused. -/
def admitOrdered (rs : List Reorder) (k : Packet) (now : Nat) : Option (List Reorder) :=
  if k.first then
    let others := rs.filter (fun r => !r.of k)
    if others.length < 256 then some (others ++ [{ m := k.srcModule, d := k.srcDie, flow := k.flow, last := now }]) else none
  else if rs.any (fun r => r.of k) then some (rs.map (fun r => if r.of k then { r with last := now } else r))
  else none

/-- One arrival-counter add (R353). -/
def State.arrivalAdd (s : State) (d : Nat) (i : Option Nat) : State :=
  match i with
  | some n => s.setArrival d n (s.arrival d n + 1)
  | none => s

/-- Acknowledgements of a flow that are due leave in PSEQ order, each after its arrival add. -/
def State.flowPump (d : Nat) : Nat → State → Reorder → State × Reorder
  | 0, s, r => (s, r)
  | fuel + 1, s, r =>
    match r.waiting.find? (fun w => w.pseq == r.next % 4096) with
    | none => (s, r)
    | some w => State.flowPump d fuel ((s.arrivalAdd d w.arr).originate d w.resp)
        { r with next := r.next + 1, waiting := r.waiting.filter (fun v => v.pseq != w.pseq) }

/-- An ordered packet has been written: it waits in its context for every packet of lower PSEQ. Where the context has closed
meanwhile nothing is acknowledged. -/
def State.flowDone (s : State) (d : Nat) (k resp : Packet) (arr : Option Nat) : State :=
  match (s.die d).reorder.find? (fun r => r.of k) with
  | none => s
  | some r =>
    let w : OrdWait := { pseq := k.pseq.toNat, resp := resp, arr := arr }
    let p := State.flowPump d (r.waiting.length + 1) s { r with waiting := r.waiting.filter (fun v => v.pseq != w.pseq) ++ [w] }
    p.1.modDie d (fun x => { x with reorder := x.reorder.map (fun y => if y.of k then p.2 else y) })

/-! ### Line operations (R335, R336) -/

/-- The first status that is not OK stays (R339). -/
def HomeOp.fail (h : HomeOp) (st : Nat) : HomeOp := if h.st = 0 then { h with st := BitVec.ofNat 8 st } else h

/-- Bytes of a line, of memory or of arrival counters. -/
def State.lineBytes (s : State) (d line : Nat) : List Byte :=
  match regionOf (128 * line) with
  | .arrival off => (List.range 128).map (fun i => s.arrivalByte d (off + i))
  | _ => s.bytes d (128 * line) 128

/-- A line read (R335, R203, R186): poisoned data fail the packet, or make the tile POISON where the tile is wanted. -/
def State.lineRead (s : State) (d : Nat) (h : HomeOp) (line : Nat) : HomeOp × State :=
  let h1 := { h with got := h.got ++ [(line, s.lineBytes d line)] }
  if s.badIn d (128 * line) 128 then
    ((if wantTile h.pkt then h1 else h1.fail 0x49), s.poisonRead d (128 * line / 4096 * 4096) 0xFF)
  else (h1, s)

/-- A line written: a store, an arrival counter set, or a line of a tile that stays OPEN until its tag is written (R180). -/
def State.lineStore (s : State) (d : Nat) (h : HomeOp) (line : Nat) : HomeOp × State :=
  let w := lineWrite h.pkt line
  match s.guarded d (128 * line) (writeSource h.pkt).1 (writeSource h.pkt).2 false with
  | some s1 => (h.fail 0x4D, s1)
  | none =>
    match regionOf w.1 with
    | .arrival off => (h, s.setArrival d (off / 8) (BitVec.ofNat 64 (ofBytes w.2)))
    | _ =>
      if h.pkt.tile then (h, ((s.freshen d w.1 w.2.length).putBytes d w.1 w.2).setTileSt d (reqBase h.pkt) .open)
      else
        let p := s.storeBytes d w.1 w.2
        (if p.1 = 0 then h else h.fail p.1, p.2)

/-- The new value of an atomic (Table 5 of ch.12). -/
def atomicNew (op : Nat) (w a b : BitVec 64) : BitVec 64 :=
  match op with
  | 0 => w + a
  | 1 => a
  | 2 => if w = a then b else w
  | 3 => if w.toInt ≤ a.toInt then w else a
  | 4 => if w.toInt ≤ a.toInt then a else w
  | 5 => w &&& a
  | 6 => w ||| a
  | _ => w ^^^ a

/-- An atomic on its word (R350, R351). -/
def State.lineAtomic (s : State) (d : Nat) (h : HomeOp) (line : Nat) : HomeOp × State :=
  let a := h.pkt.addr.toNat
  let x : BitVec 64 := BitVec.ofNat 64 (ofBytes (h.pkt.payload.take 8))
  let y : BitVec 64 := BitVec.ofNat 64 (ofBytes ((h.pkt.payload.drop 8).take 8))
  match s.guarded d (128 * line) h.pkt.srcModule.toNat h.pkt.srcDie.toNat (h.pkt.op == 0x0C) with
  | some s1 => (h.fail 0x4D, s1)
  | none =>
    match regionOf a with
    | .arrival off =>
      let w := s.arrival d (off / 8)
      ({ h with old := w }, s.setArrival d (off / 8) (atomicNew (bits h.pkt.opx 2 0) w x y))
    | _ =>
      if s.badIn d a 8 then (h.fail 0x49, s.poisonRead d (a / 4096 * 4096) 0xFF)
      else
        let w : BitVec 64 := BitVec.ofNat 64 (ofBytes (s.bytes d a 8))
        ({ h with old := w }, s.rawWrite d a (toBytes 8 (atomicNew (bits h.pkt.opx 2 0) w x y).toNat))

/-- One line operation. -/
def State.lineDo (s : State) (d : Nat) (h : HomeOp) (line : Nat) : HomeOp × State :=
  let p := match reqKind h.pkt with
    | 1 => s.lineRead d h line
    | 4 => s.lineAtomic d h line
    | 5 =>
      let c := s.claim d h.pkt.addr.toNat h.pkt.srcModule.toNat h.pkt.srcDie.toNat
      (h.fail c.1, c.2)
    | _ => s.lineStore d h line
  ({ p.1 with todo := p.1.todo.filter (· != line) }, p.2)

/-- A tile whose lines have all been written takes its tag and state (R180); where a line was refused it is UNTAGGED. -/
def State.tileDone (s : State) (d : Nat) (h : HomeOp) : State :=
  let a := reqBase h.pkt
  if h.st = 0 then
    let s1 := s.setTile d a { tag := h.pkt.opx, st := tstateOf h.pkt.tstate.toNat }
    let s2 := s1.tagFresh d a
    if regionOf a = .hbm then s2.modDie d (fun x => { x with untag := x.untag.filter (· != a / 4096) }) else s2
  else s.untag d a

/-- The tag read with a tile that is wanted: an uncorrectable tag makes the tile POISON (R184, R195). -/
def State.tagRead (s : State) (d : Nat) (k : Packet) : State :=
  if wantTile k ∧ tileKey d (reqBase k) ∈ s.badTags then s.tagPoison d (reqBase k) 0xFF else s

/-- A request whose line operations are done: its tile, its arrival add, its response. -/
def State.homeFinish (s : State) (d : Nat) (h : HomeOp) : State :=
  let s0 := s.modDie d (fun x => { x with home := x.home.filter (fun y => y.id != h.id) })
  let s1 := if h.pkt.tile ∧ (reqKind h.pkt = 2 ∨ reqKind h.pkt = 3) then s0.tileDone d h else s0.tagRead d h.pkt
  let resp := s1.homeResponse d h
  let arr := if h.st = 0 then reqArr h.pkt else none
  if h.pkt.ord then s1.flowDone d h.pkt resp arr else (s1.arrivalAdd d arr).originate d resp

/-- The core that issued a request, as a log entry names it: known where the request is this module's own, whose dies hold what is
outstanding; a packet names no core (Table 3 of ch.11), so for another module's it is 0xFF (notes/assumptions/101.md). -/
def State.issuer (s : State) (k : Packet) : Nat :=
  if k.srcModule.toNat = s.moduleId then
    (match mapGet none (s.die k.srcDie.toNat).txns k.txn.toNat with
      | some t => t.core
      | none => 0xFF)
  else 0xFF

/-- A request taken into the line queue of its home die, or answered at once where it is refused; a refusal for its address is
logged with the issuing module, die and core (R34). -/
def State.homeEnter (s : State) (d : Nat) (k : Packet) : State :=
  let st := s.reqStatus d k
  let ls := if st = 0 then reqLines k else []
  let n := (s.die d).homeNext
  let h : HomeOp := { id := n, pkt := k, todo := ls, st := BitVec.ofNat 8 st }
  let s1 := if st = 0x09 ∨ st = 0x0A then
      s.raise (softEvent d (s.issuer k) st (field 48 k.srcModule.toNat + field 44 k.srcDie.toNat + k.addr.toNat)) else s
  let s2 := s1.modDie d (fun x => { x with homeNext := n + 1, home := x.home ++ [h], lineq := x.lineq ++ ls.map (fun l => (n, l)) })
  if ls.isEmpty then s2.homeFinish d h else s2

/-- REMOTE_REQUEST_RECEIVE: a request that stands at its home die. A sleeping die is asked to wake and the request waits
(R202); so it does while the line queue has no room (R349). -/
def execRemoteRequestReceive (die : Fin 16) (pkt : Packet) (s : State) : Host.Outcome State Fault Refusal :=
  if !s.fab.inner.contains (die.val, pkt) || !opRequest pkt.op.toNat then .next s
  else if !s.dieRuns die then .next (s.askWake die)
  else if 1024 < (s.die die).lineq.length + (reqLines pkt).length then .next s
  else
    let s1 : State := { s with fab := { s.fab with inner := s.fab.inner.erase (die.val, pkt) } }
    if pkt.hchk ≠ pkt.check then .next ((s1.bump 0x5000 8).raise (mkEvent 0x10 sevRecovered die 0xFF 0 pkt.srcModule.toNat))
    else if pkt.ord then
      match admitOrdered (s.die die).reorder pkt s.time with
      | some rs => .next ((s1.modDie die (fun x => { x with reorder := rs })).homeEnter die pkt)
      | none => .next ((s1.bump 0x5000 0x0D).originate die (s1.responseTo die pkt 0x4E))
    else .next (s1.homeEnter die pkt)

/-- A line operation may be performed now: it is the first of its line in the queue, 2.5 ns have passed since the last one on
the line, the die runs, and no substitution holds the store it lies in (R336, R398). -/
def State.lineReady (s : State) (d : Nat) (e : Nat × Nat) : Bool :=
  s.dieRuns d
  && (match (s.die d).lineq.find? (fun x => x.2 == e.2) with | some x => x == e | none => false)
  && (let t := mapGet 0 (s.die d).lineAt e.2; t == 0 || decide (t - 1 + 640 ≤ s.time))
  && (match regionOf (128 * e.2) with | .store c _ => !s.substituting d c | _ => true)

/-- One line operation is performed; after its last one the packet is answered. -/
def State.linePerform (s : State) (d : Nat) (e : Nat × Nat) : State :=
  let s1 := s.modDie d (fun x => { x with lineq := x.lineq.erase e, lineAt := mapSet 0 x.lineAt e.2 (s.time + 1) })
  match (s1.die d).home.find? (fun h => h.id == e.1) with
  | none => s1
  | some h =>
    let p := s1.lineDo d h e.2
    if p.1.todo.isEmpty then p.2.homeFinish d p.1
    else p.2.modDie d (fun x => { x with home := x.home.map (fun y => if y.id = h.id then p.1 else y) })

/-- LINE_OPERATION: the operation at place `idx` of the line queue of the die. -/
def execLineOperation (die : Fin 16) (idx : Fin 1024) (s : State) : Host.Outcome State Fault Refusal :=
  match ((s.die die).lineq)[idx.val]? with
  | some e => .next (if s.lineReady die e then s.linePerform die e else s)
  | none => .next s

/-- REORDER_CONTEXT_CLOSE: 10 µs without a packet (R315). -/
def execReorderContextClose (die : Fin 16) (srcModule : BitVec 16) (srcDie : BitVec 4) (flow : BitVec 8) (s : State) :
    Host.Outcome State Fault Refusal :=
  .next (s.modDie die (fun x => { x with reorder := x.reorder.filter (fun r =>
    !(r.m == srcModule && r.d == srcDie && r.flow == flow && decide (r.last + 10 * tickUs ≤ s.time))) }))

/-! ### Merged requests at a light die (R346, R347) -/

/-- The response to original `o` of a merged request: the home as source, the data of all, for an add the old value after
those before it. -/
def originalResponse (k : Packet) (o : MergeOrig) (before : BitVec 64) : Packet :=
  let v : BitVec 64 := BitVec.ofNat 64 (ofBytes (k.payload.take 8)) + before
  { k with op := o.op + 0x10, dstModule := o.m, dstDie := o.d, txn := o.txn, hops := 0
           payload := if (o.op = 0x04 ∨ o.op = 0x0C) ∧ !k.payload.isEmpty then toBytes 8 v.toNat ++ k.payload.drop 8 else k.payload }

/-- A response that a light die sends: inside the module, or out by a port. -/
def State.lightSend (s : State) (l : Nat) (k : Packet) : State :=
  let k1 := { k with epoch := BitVec.ofNat 32 s.epoch }.seal
  if s.fenced then s
  else if s.ownModule k1.dstModule.toNat then s.travel { src := 16 + l, dst := innerKey k1, pkt := k1, out := none }
  else s.leaveBy l k1 s.time true

/-- Every original answered in its order of arrival. -/
def State.answerAll (l : Nat) (k : Packet) : List MergeOrig → BitVec 64 → State → State
  | [], _, s => s
  | o :: os, sum, s => State.answerAll l k os (sum + o.add) (s.lightSend l (originalResponse k o sum))

/-- MERGED_RESPONSE: a response to a merge entry of light die l; an entry already freed makes it a late one. -/
def execMergedResponse (l : Fin 8) (pkt : Packet) (s : State) : Host.Outcome State Fault Refusal :=
  if !s.fab.inner.contains (16 + l.val, pkt) then .next s
  else
    let s1 : State := { s with fab := { s.fab with inner := s.fab.inner.erase (16 + l.val, pkt) } }
    match mapGet none (s.light l).merge pkt.txn.toNat with
    | none => .next (s1.bump 0x6030 5)
    | some e => .next (State.answerAll l pkt e.origs 0
        (s1.modLight l (fun x => { x with merge := mapSet none x.merge pkt.txn.toNat none })))

/-- The response timeout in ticks (R341). -/
def State.ackTicks (s : State) : Nat := s.obj 0x6830 1 * tickUs

/-- MERGE_ENTRY_TIMEOUT: an entry is freed without answers (R346). -/
def execMergeEntryTimeout (l : Fin 8) (entry : Fin 512) (s : State) : Host.Outcome State Fault Refusal :=
  match mapGet none (s.light l).merge entry.val with
  | some e => .next (if e.since + s.ackTicks ≤ s.time then
      s.modLight l (fun x => { x with merge := mapSet none x.merge entry.val none }) else s)
  | none => .next s

/-! ### The remote line cache as an object (R344) -/

/-- A write of MEM.RLC_ENABLE: the caches are emptied. -/
def State.rlcEnable (s : State) (v : Nat) : Nat × State :=
  if 1 < v then (rpRange, s) else (rpOk, s.rlcClear.setObj 0x6030 1 v)

/-- MEM_RLC_ENABLE. -/
def execMemRlcEnable (v : BitVec 8) (s : State) : Host.Outcome State Fault Refusal := .next (s.objRowDone (s.rlcEnable v.toNat))

end Sys2Proof.Machine
end

