-- ==== Sys2Proof/Machine/Move.lean ====
section
/-! DEFINITION. The move engine (R157, R158): its commands, the pieces they are cut into (R334), how each piece is read, sent
and landed, responses and timeouts at the issuing die (R339 to R345), ordered flows at their source (R315, R316), and slots
of round schedules (R239 to R242). -/

namespace Sys2Proof.Machine

/-! ### Transfer descriptors (Table 20 of ch.05) -/

def tdSrc (w : BitVec 256) : Nat := bits w 255 192
def tdDst (w : BitVec 256) : Nat := bits w 191 128
def tdLen (w : BitVec 256) : Nat := bits w 127 96
def tdSStride (w : BitVec 256) : Nat := bits w 95 64
def tdDStride (w : BitVec 256) : Nat := bits w 63 32
def tdRows (w : BitVec 256) : Nat := bits w 31 16
def tdSrcHost (w : BitVec 256) : Bool := bit w 15
def tdDstHost (w : BitVec 256) : Bool := bit w 14
def tdTile (w : BitVec 256) : Bool := bit w 13
def tdFmt (w : BitVec 256) : Nat := bits w 12 5

/-- Transfer descriptor t of a core. -/
def State.td (s : State) (d c t : Nat) : BitVec 256 := mapGet 0 (s.core d c).td t

/-- Where a global address lies, as die d sees it (R31, R32). -/
def State.placeOf (s : State) (d ga : Nat) : Place :=
  let m := ga / 2 ^ 48 % 65536
  let k := ga / 2 ^ 44 % 16
  let a := ga % 2 ^ 44
  if s.ownModule m then (if k = d then .loc a else .remote s.moduleId k a) else .remote m k a

/-- A place n bytes further on; the pattern of a fill turns with it. -/
def Place.skip (p : Place) (n : Nat) : Place :=
  match p with
  | .loc a => .loc (a + n)
  | .remote m k a => .remote m k (a + n)
  | .host a => .host (a + n)
  | .fill v => .fill (BitVec.ofNat 64 (ofBytes ((toBytes 8 v.toNat).drop (n % 8) ++ (toBytes 8 v.toNat).take (n % 8))))
  | .data bs t => .data (bs.drop n) t

/-- A copy or fill as issued: row bases come from it. -/
structure MoveSpec where
  src : Nat → Place
  dst : Nat → Place
  dstAddr : Nat → Nat
  len : Nat
  rows : Nat
  tile : Bool

/-- Pieces of one row: cut at every 4,096-byte boundary of the destination address (R334). -/
def rowPieces (m : MoveSpec) (r g : Nat) : List Piece :=
  let a := m.dstAddr r
  let n := if m.len = 0 then 0 else (a + m.len - 1) / 4096 + 1 - a / 4096
  (List.range n).map (fun i =>
    let off := if i = 0 then 0 else (a / 4096 + i) * 4096 - a
    let stop := min m.len ((a / 4096 + i + 1) * 4096 - a)
    { grp := g + i, src := (m.src r).skip off, dst := (m.dst r).skip off, len := stop - off, tile := m.tile })

/-- Pieces of every row, numbered through (R334). -/
def movePieces (m : MoveSpec) : List Piece :=
  ((List.range m.rows).foldl (fun (acc : List Piece) r => acc ++ rowPieces m r acc.length) [])

/-- Spans of bytes, from and to, united with one more: spans that meet become one. -/
def spanAdd (x : Nat × Nat) (l : List (Nat × Nat)) : List (Nat × Nat) :=
  let near := fun (y : Nat × Nat) => decide (y.1 ≤ x.2) && decide (x.1 ≤ y.2)
  (l.filter near).foldl (fun a y => (min a.1 y.1, max a.2 y.2)) x :: l.filter (fun y => !near y)

/-- The tiles that spans of local-store bytes cover whole. -/
def spanTiles (l : List (Nat × Nat)) : List Nat :=
  l.flatMap (fun x => (List.range (x.2 / 4096)).drop ((x.1 + 4095) / 4096))

/-- The whole tiles that pieces write in the local store of core c: those the handle names (R143). -/
def ownTiles (c : Nat) (ps : List Piece) : List Nat :=
  spanTiles (ps.foldl (fun l p =>
    match p.dst with
    | .loc a => match regionOf a with
      | .store c' off => if c' = c then spanAdd (off, off + p.len) l else l
      | _ => l
    | _ => l) [])

/-! ### The command in execution -/

/-- The move `num` of core c of die d in execution. -/
def State.moveRun (s : State) (d c : Nat) (num : BitVec 64) : Option Run := (s.core d c).findRun 2 num

/-- A packet of a move fails; the first status stands (R339). -/
def State.moveFail (s : State) (d c : Nat) (num : BitVec 64) (g st : Nat) : State :=
  s.modRun d c 2 num (fun r => { r with badGrps := setIns g r.badGrps
                                        fail := if r.fail = 0 then BitVec.ofNat 8 st else r.fail })

/-- Progress of a move (R166), and bytes moved (Table 21 of ch.05). -/
def State.moved (s : State) (d c : Nat) (num : BitVec 64) (n : Nat) : State :=
  (s.modRun d c 2 num (fun r => { r with progress := s.time })).modCore d c (fun x => { x with mvBytes := x.mvBytes + BitVec.ofNat 64 n })

/-- The move's work has ended: where a packet failed, the move fails with the first status (R339). -/
def State.moveSettle (s : State) (d c : Nat) (num : BitVec 64) : State :=
  match s.moveRun d c num with
  | some r => if r.todo.isEmpty && r.awaits.isEmpty && r.fail != 0 && r.status == 0 then s.failRun d c 2 num r.fail.toNat else s
  | none => s

/-- The move is aborted with status FAULT, MV_FAULT cause 0x01 and the global address of the tile (R158, R184). -/
def State.moveAbort (s : State) (d c : Nat) (num : BitVec 64) (ga : Nat) : State :=
  (s.modCore d c (fun x => x.moveFault 0x01 num ga)).failRun d c 2 num stFault

/-- Global address of local address a of die d. -/
def State.globalOf (s : State) (d a : Nat) : Nat := field 48 s.moduleId + field 44 d + a

/-- Parts of packet g of a move that are still to come. -/
def State.grpOpen (s : State) (d c : Nat) (num : BitVec 64) (g : Nat) : Bool :=
  (match s.moveRun d c num with | some r => r.todo.any (fun p => p.grp == g) | none => false)
  || (s.die d).txns.any (fun kv => match kv.2 with
      | some t => !t.abandoned && t.core == c && t.num == num && t.piece.grp == g && t.kind != .mirror
      | none => false)
  || s.host.reads.any (fun h => h.die == d && h.core == c && h.num == num && h.piece.grp == g)

/-- Arrival adds of an ordered move whose packets land on its own die, in their order (R315). -/
def State.landPump (d c : Nat) (num : BitVec 64) : Nat → State → State
  | 0, s => s
  | fuel + 1, s =>
    match s.moveRun d c num with
    | some r =>
      if r.landed.contains r.pseq then
        State.landPump d c num fuel ((s.arrivalAdd d r.arr).modRun d c 2 num (fun r =>
          { r with pseq := r.pseq + 1, landed := r.landed.filter (· != r.pseq) }))
      else s
    | none => s

/-- Packet g, whose destination is `dst`, may have landed whole: the issuing die then makes its arrival add (R353). -/
def State.grpLanded (s : State) (d c : Nat) (num : BitVec 64) (g : Nat) (dst : Place) : State :=
  match s.moveRun d c num, dst with
  | some r, .loc _ =>
    if s.grpOpen d c num g || r.badGrps.contains g || r.arr.isNone then s
    else if r.flow.isSome then
      State.landPump d c num (r.landed.length + 1) (s.modRun d c 2 num (fun r => { r with landed := setIns g r.landed }))
    else s.arrivalAdd d r.arr
  | _, _ => s

/-! ### Tiles on the move (R145, R158, R180, R203) -/

/-- A tag with the sequence number of the move (R145). -/
def tagSeq (t : BitVec 64) (num : BitVec 64) : BitVec 64 := putBits t 63 48 (num.toNat % 2 ^ 16)

/-- A tile of the die read with its tag: uncorrectable data or an uncorrectable tag make it POISON (R203, R186). -/
def State.tileLoad (s : State) (d c a : Nat) : TileInfo × List Byte × State :=
  let s0 := if tileKey d a ∈ s.badTags then s.tagPoison d a c else s
  let s1 := if s0.badIn d a 4096 then s0.poisonRead d a c else s0
  (s1.tile d a, s1.bytes d a 4096, s1)

/-- Whether a region keeps tags. -/
def taggable : Region → Bool
  | .hbm => true
  | .store _ _ => true
  | _ => false

/-- A tile with its data in hand passes a verifying read at a level (R183, R189); POISON stands for uncorrectable data too. -/
def dataFails (t : TileInfo) (bs : List Byte) (level : Nat) : Option Nat :=
  if t.st = .poison then some reasonPoison
  else if level = 2 then none
  else if t.st = .untagged then some reasonUntagged
  else if t.st = .open then some reasonOpen
  else if crc32c bs ≠ t.tag.toNat % 2 ^ 32 then some reasonCrc
  else none

/-- A tile from another die that fails verification: counters, the event, and where the CRC has failed the state POISON of the tile
it was read from, if that lies in this module (R184, R186). DETAIL carries FORMAT and the die and local address of the tile
(R177, notes/assumptions/99.md). -/
def State.dataFailed (s : State) (d c ga reason : Nat) (t : TileInfo) : State :=
  let s1 := if reason = reasonCrc ∧ s.ownModule (ga / 2 ^ 48) then s.setTileSt (ga / 2 ^ 44 % 16) (ga % 2 ^ 44) .poison else s
  (s1.bump 0x6010 (if reason = reasonCrc then 1 else 2)).raise
    (mkEvent 0x05 sevRecovered d c reason (field 48 (bits t.tag 47 32) + ga % 2 ^ 48))

/-- The handle of a move with USE: its tiles, as numbers from its first, and TOKEN. -/
def Run.useTiles (r : Run) : Option (Nat × Nat × Nat) :=
  if cmdUse r.word then r.popped.map (fun h => (handleTile h, handleCount h, handleToken h)) else none

/-- A tile of the core's own store that the handle popped with USE names carries another sequence than TOKEN (R144). -/
def State.staleTile (s : State) (d c : Nat) (r : Run) (a : Nat) : Bool :=
  match r.useTiles, regionOf a with
  | some (lo, n, token), .store c' off =>
    c' == c && decide (lo ≤ off / 4096) && decide (off / 4096 < lo + n) && bits (s.tile d a).tag 63 48 != token
  | _, _ => false

/-! ### Landing -/

/-- A tile landed at local address a with the tag and state given (R180). -/
def State.landTile (s : State) (d c : Nat) (num : BitVec 64) (g a : Nat) (bs : List Byte) (t : TileInfo) : Option State :=
  let r := regionSpan a 4096
  if taggable r then
    match s.barred d r a (some c) with
    | some (.done st _ s1) => some (s1.moveFail d c num g st)
    | some .wait => none
    | none => some ((s.putTile d a bs (tagSeq t.tag num) t.st).moved d c num 4096)
  else match s.localWrite d a bs .move (some c) with
    | .wait => none
    | .done st _ s1 => some (if st = 0 then s1.moved d c num 4096 else s1.moveFail d c num g st)

/-- A request for host memory can be issued: the link is up and Bus Master Enable is set (R526). -/
def State.hostReached (s : State) : Bool := s.host.up && s.host.busMaster

/-- Data of a piece put where the piece goes; none where it must wait. -/
def State.landData (s : State) (d c : Nat) (num : BitVec 64) (p : Piece) (bs : List Byte) (t : Option TileInfo) : Option State :=
  match p.dst with
  | .loc a => match t with
    | some i => s.landTile d c num p.grp a bs i
    | none => match s.localWrite d a bs .move (some c) with
      | .wait => none
      | .done st _ s1 => some (if st = 0 then s1.moved d c num bs.length else s1.moveFail d c num p.grp st)
  | .host a =>
    if s.hostReached then some ((s.emit (.dmaWrite a bs)).moved d c num bs.length)
    else some ((s.bump 0xA000 4).moveFail d c num p.grp stHost)
  | .remote _ _ _ => some (s.modRun d c 2 num (fun r => { r with todo := r.todo ++ [{ p with src := .data bs t }] }))
  | _ => some s

/-- A tile on its way to the host is verified first; a failure aborts the move (R158). `ga` is its global address. -/
def State.hostTile (s : State) (d c : Nat) (r : Run) (p : Piece) (ga : Nat) (t : TileInfo) (bs : List Byte) : Option State :=
  match dataFails t bs r.level.toNat with
  | some reason => some ((s.dataFailed d c ga reason t).moveAbort d c r.num ga)
  | none => s.landData d c r.num p bs none

/-! ### Sending -/

/-- A request of a move may enter the fabric: its slot has begun, a TXN is free, and an ordered flow has at most 4,096 packets
unacknowledged (R239, R315, R334). -/
def State.maySend (s : State) (d c : Nat) (r : Run) : Option Nat :=
  let mine := (s.die d).txns.filter (fun kv => match kv.2 with | some t => t.core == c && t.num == r.num && !t.abandoned | none => false)
  if !r.opened || (r.flow.isSome && decide (4096 ≤ mine.length)) then none else s.freeTxn d

/-- A request of a move sent under transaction n. -/
def State.moveSend (s : State) (d c : Nat) (num : BitVec 64) (n : Nat) (kind : TxnKind) (p : Piece) (k : Packet) (fill : List Nat := []) :
    State :=
  let t : Txn := { core := c, num := num, kind := kind, piece := p, pkt := k, sent := s.time, fill := fill }
  (s.modRun d c 2 num (fun r => { r with awaits := r.awaits ++ [.txn (BitVec.ofNat 15 n)], progress := s.time })).sendTxn d n t

/-- A write to a remote place sent: WRITE or WRITE_ARR, with the flow of an ordered move (R315, R338, R353). -/
def State.sendWrite (s : State) (d c : Nat) (r : Run) (n : Nat) (p : Piece) (bs : List Byte) (t : Option TileInfo) : State :=
  match p.dst with
  | .remote m k a =>
    let k0 := match t with
      | some i => s.tilePacket d r.cls m k a bs { i with tag := tagSeq i.tag r.num } r.arr
      | none => s.writePacket d r.cls m k a bs r.arr
    let k1 := match r.flow with
      | some f => { k0 with ord := true, flow := BitVec.ofNat 8 f, pseq := BitVec.ofNat 12 r.pseq, first := r.pseq == 0 }
      | none => k0
    (s.modRun d c 2 r.num (fun r => { r with pseq := r.pseq + 1 })).moveSend d c r.num n .write p k1
  | _ => s

/-- A line of a remote place may come from the cache (R343). -/
def State.cacheable (s : State) (m a : Nat) : Bool := !s.ownModule m && s.obj 0x6030 1 == 1 && regionOf a == .hbm

/-- A raw read of a remote piece, line by line: lines that hit land at once, runs of at most 32 others are requested (R343).
What cannot go now is kept. -/
def State.readRemote (d c : Nat) (num : BitVec 64) : Nat → State → Piece → State
  | 0, s, _ => s
  | fuel + 1, s, p =>
    let keep : State := s.modRun d c 2 num (fun r => { r with todo := r.todo ++ [p] })
    match p.src, s.moveRun d c num with
    | .remote m k a, some r =>
      if p.len = 0 then s
      else
        let ca := s.cacheable m a
        match (if ca then s.rlcFind d m k (a / 128) else none) with
        | some l =>
          let n := min p.len (128 - a % 128)
          match (s.bump 0x6030 2).landData d c num { p with len := n } ((l.data.drop (a % 128)).take n) none with
          | some s1 => State.readRemote d c num fuel s1 { p with src := p.src.skip n, dst := p.dst.skip n, len := p.len - n }
          | none => keep
        | none =>
          let lines := (List.range 32).takeWhile (fun i => i == 0
            || (decide (128 * (a / 128 + i) < a + p.len) && !(ca && (s.rlcFind d m k (a / 128 + i)).isSome)))
          let n := min p.len (128 * (a / 128 + lines.length) - a)
          match s.maySend d c r with
          | some t =>
            let s1 := if ca then s.bump 0x6030 3 lines.length else s
            let fill := if ca then lines.map (fun i => a / 128 + i) else []
            let s2 := s1.moveSend d c num t .read { p with len := n } (s.readPacket d r.cls m k a n false) fill
            State.readRemote d c num fuel s2 { p with src := p.src.skip n, dst := p.dst.skip n, len := p.len - n }
          | none => keep
    | _, _ => s

/-- The bytes of a fill pattern (R157). -/
def fillBytes (v : BitVec 64) (n : Nat) : List Byte :=
  let b := toBytes 8 v.toNat
  (List.range n).map (fun i => b.getD (i % 8) 0)

/-- The tag of a tile that a move computes itself (R158, R180). -/
def newTile (num : BitVec 64) (fmt : Nat) (bs : List Byte) : TileInfo :=
  { tag := tagWord (num.toNat % 2 ^ 16) fmt (crc32c bs), st := .valid }

/-- FORMAT of tiles that come from the host: KIND 0 with FMT, or opaque (R158). -/
def hostFormat (fmt : Nat) : Nat := if fmt = 0 then 0x4000 else fmt

/-- The parts of packet g whose data the engine holds, put together in the order of their addresses; none while a part is
still to come. -/
def State.joined (s : State) (d c : Nat) (r : Run) (p : Piece) : Option (List Byte × Option TileInfo) :=
  let parts := r.todo.filter (fun q => q.grp == p.grp)
  let coming := parts.any (fun q => match q.src with | .data _ _ => false | _ => true)
    || (s.die d).txns.any (fun kv => match kv.2 with
        | some t => !t.abandoned && t.core == c && t.num == r.num && t.piece.grp == p.grp
        | none => false)
    || s.host.reads.any (fun h => h.die == d && h.core == c && h.num == r.num && h.piece.grp == p.grp)
  if coming then none
  else
    let at_ (q : Piece) : Nat := match q.dst with | .remote _ _ a => a | _ => 0
    let sorted := parts.foldl (fun acc q => acc.takeWhile (fun x => decide (at_ x ≤ at_ q)) ++ [q]
      ++ acc.dropWhile (fun x => decide (at_ x ≤ at_ q))) []
    let data (q : Piece) : List Byte := match q.src with | .data bs _ => bs | _ => []
    some (sorted.flatMap data, match p.src with | .data _ t => t | _ => none)

/-- One piece of a move worked on; none where it must wait. The piece leaves the list first. -/
def State.movePiece (s : State) (d c : Nat) (r : Run) (p : Piece) : Option State :=
  let s0 := s.modRun d c 2 r.num (fun r => { r with todo := r.todo.erase p })
  let num := r.num
  match p.src, p.dst with
  | .loc a, .remote _ _ _ =>
    match s.maySend d c r with
    | none => none
    | some n =>
      if p.tile ∧ taggable (regionSpan a 4096) then
        match s.barred d (regionSpan a 4096) a (some c) with
        | some .wait => none
        | some (.done st _ s1) => some ((s1.modRun d c 2 num (fun r => { r with todo := r.todo.erase p })).moveFail d c num p.grp st)
        | none => let t := s0.tileLoad d c a; some (t.2.2.sendWrite d c r n p t.2.1 (some t.1))
      else match s0.localRead d a p.len false (some c) with
        | .wait => none
        | .done st bs s1 =>
          if st ≠ 0 then some (s1.moveFail d c num p.grp st)
          else some (s1.sendWrite d c r n p bs (if p.tile then some { } else none))
  | .loc a, _ =>
    if p.tile ∧ taggable (regionSpan a 4096) then
      match s.barred d (regionSpan a 4096) a (some c) with
      | some .wait => none
      | some (.done st _ s1) => some ((s1.modRun d c 2 num (fun r => { r with todo := r.todo.erase p })).moveFail d c num p.grp st)
      | none => match p.dst with
        | .host _ =>
          match s0.verify d a r.level.toNat with
          | some reason => some ((s0.verifyFailed d a c reason).moveAbort d c num (s.globalOf d a))
          | none => if s.staleTile d c r a then some (s0.failRun d c 2 num stToken) else s0.landData d c num p (s0.bytes d a 4096) none
        | _ => let t := s0.tileLoad d c a; t.2.2.landData d c num p t.2.1 (some t.1)
    else match s0.localRead d a p.len false (some c) with
      | .wait => none
      | .done st bs s1 =>
        if st ≠ 0 then some (s1.moveFail d c num p.grp st) else s1.landData d c num p bs (if p.tile then some { } else none)
  | .fill v, .remote _ _ _ =>
    match s.maySend d c r with
    | none => none
    | some n =>
      let bs := fillBytes v p.len
      some (s0.sendWrite d c r n p bs (if p.tile then some (newTile num 0x4000 bs) else none))
  | .fill v, _ =>
    let bs := fillBytes v p.len
    s0.landData d c num p bs (if p.tile then some (newTile num 0x4000 bs) else none)
  | .host a, _ =>
    if !s.hostReached then some ((s0.bump 0xA000 4).moveFail d c num p.grp stHost)
    else if 4096 ≤ s.host.reads.length then none
    else
      let t := s.host.nextTag
      let h : HostRead := { tag := t, die := d, core := c, num := num, piece := p, sent := s.time }
      let s1 : State := { s0 with host := { s0.host with nextTag := t + 1, reads := s0.host.reads ++ [h] } }
      some ((s1.emit (.dmaRead t a p.len)).modRun d c 2 num (fun r => { r with awaits := r.awaits ++ [.hostRead t] }))
  | .remote m k a, _ =>
    if p.tile then
      match s.maySend d c r with
      | none => none
      | some n => some (s0.moveSend d c num n .read p (s.readPacket d r.cls m k a 4096 true))
    else some (State.readRemote d c num 34 s0 p)
  | .data _ _, .remote _ _ _ =>
    match s.joined d c r p, s.maySend d c r with
    | some (all, info), some n =>
      some ((s.modRun d c 2 num (fun r => { r with todo := r.todo.filter (fun q => q.grp != p.grp) })).sendWrite d c r n
        { p with dst := (r.todo.filter (fun q => q.grp == p.grp)).foldl (fun b q => match b, q.dst with
            | .remote _ _ x, .remote m k y => if y < x then .remote m k y else b
            | _, _ => b) p.dst, len := all.length } all info)
    | _, _ => none
  | .data bs t, _ => s0.landData d c num p bs t

/-- The piece stands in the command's list still. -/
def State.standing (s : State) (d c : Nat) (num : BitVec 64) (p : Piece) : Option Run :=
  match s.moveRun d c num with
  | some r => if r.todo.contains p ∧ r.status = 0 then some r else none
  | none => none

/-- Every piece of a move that can go goes. -/
def State.movePump (s : State) (d c : Nat) (num : BitVec 64) : State :=
  match s.moveRun d c num with
  | none => s
  | some r0 =>
    (r0.todo.foldl (fun s p =>
      match s.standing d c num p with
      | none => s
      | some r => match s.movePiece d c r p with
        | some s1 => s1.grpLanded d c num p.grp p.dst
        | none => s) s).moveSettle d c num

/-- Moves in execution of a die with their cores, in issue order. -/
def State.movesOf (s : State) (d : Nat) : List (Nat × Run) :=
  ((List.range 32).flatMap (fun c => ((s.core d c).q 2).run.map (fun r => (c, r)))).mergeSort (fun a b => decide (a.2.start ≤ b.2.start))

/-- Every move of a die, and the mirror of its step log, goes on: a transaction number, a slot or a place has come free. -/
def State.dieMoves (s : State) (d : Nat) : State :=
  ((s.movesOf d).foldl (fun s x => if x.2.todo.isEmpty then s else s.movePump d x.1 x.2.num) s).mirrorPump d

/-- The local addresses of a piece that lie in accumulator memory of core c, as offsets of its window. -/
def Piece.accOffs (p : Piece) (c : Nat) : List Nat :=
  [p.src, p.dst].filterMap (fun e => match e with
    | .loc a => (match regionOf a with | .accum c' off => if c' = c then some off else none | _ => none)
    | _ => none)

/-- A piece of a move waits on an entry of core c that a matrix command owns. -/
def State.accBlocked (s : State) (d c : Nat) (p : Piece) : Bool :=
  (p.accOffs c).any (fun off => (List.range ((off % 16 + p.len + 15) / 16)).any (fun i =>
    (s.core d c).owned (accRow (off + 16 * i)) (accCol (off + 16 * i))))

/-- A move of the die, with its core and its piece, that has made no progress for 4,096 core cycles and waits on an owned entry of
core c. -/
def State.accStuck (s : State) (d c : Nat) : Option (Nat × Run × Piece) :=
  (List.range 32).findSome? (fun k => ((s.core d k).q 2).run.findSome? (fun r =>
    if r.status = 0 ∧ r.progress + s.cycles d 4096 ≤ s.time then
      (r.todo.find? (s.accBlocked d c)).map (fun p => (k, r, p)) else none))

/-- ACC_BUSY (R76): the oldest access that has waited 4,096 core cycles ends with ACC_BUSY; so does the packet of a move, whose
status the move then takes (notes/assumptions/7.md). -/
def execAccBusy (d : Fin 16) (c : Fin 32) (s : State) : Host.Outcome State Fault Refusal :=
  .next (if !(s.core d c).mx.waiting.isEmpty then (s.accBusyOut d c).serveOrdered
    else match s.accStuck d c with
    | some x =>
      let s1 := (s.modRun d x.1 2 x.2.1.num (fun r => { r with todo := r.todo.erase x.2.2 })).moveFail d x.1 x.2.1.num x.2.2.grp accBusy.toNat
      s1.moveSettle d x.1 x.2.1.num
    | none => s)

/-- A FLOW number is free again once the move that held it has completed (R315). -/
def State.flowFree (s : State) (d c e : Nat) (num : BitVec 64) : State :=
  if e = 2 ∧ (s.moveRun d c num).isNone then
    s.modDie d (fun x => { x with flows := x.flows.filter (fun f => f.2.1 != c || f.2.2 != num) })
  else s

/-- COMMAND_COMPLETION; accesses of accumulator memory that waited for the command's entries are then served (R76), and moves
of the die that waited go on. -/
def execCommandCompletion (die : Fin 16) (core : Fin 32) (eng : Fin 3) (num : BitVec 64) (s : State) :
    Host.Outcome State Fault Refusal :=
  let s0 := if eng = 2 then s.movePump die core num else s
  let s1 := s0.completion die core eng num
  let s2 := if eng = 0 then (s1.accServe die core).serveOrdered else s1
  .next ((s2.flowFree die core eng num).dieMoves die)

/-! ### Responses (R339, R341 to R344) -/

/-- The request of a transaction ends with a status that is not OK. -/
def State.txnFail (s : State) (d : Nat) (t : Txn) (st : Nat) : State :=
  match t.kind with
  | .mirror => s.modStep d (fun x => { x with failed := true })
  | _ => s.moveFail d t.core t.num t.piece.grp st

/-- An answer is no longer awaited. -/
def State.unawait (s : State) (d c : Nat) (num : BitVec 64) (a : Await) : State :=
  s.modRun d c 2 num (fun r => { r with awaits := r.awaits.filter (· != a), progress := s.time })

/-- Lines of a good read fill the cache (R343, R344). -/
def State.fillLines (s : State) (d : Nat) (t : Txn) (k : Packet) : State :=
  match t.piece.src with
  | .remote m h a => t.fill.foldl (fun s line =>
      s.rlcFill d { m := m, d := h, line := line, data := (k.payload.drop (128 * (line - a / 128))).take 128 }) s
  | _ => s

/-- What a good response brings; none where its data must wait. Data of a move already aborted are dropped (DEDUCED). -/
def State.txnGood (s : State) (d : Nat) (t : Txn) (k : Packet) : Option State :=
  let p := t.piece
  match t.kind with
  | .mirror => some s
  | .write => some (s.moved d t.core t.num p.len)
  | .claim => some s
  | .atomic res =>
    let q := s.storeBytes d (lsAddr t.core res) (k.payload.take 8)
    some (if q.1 = 0 then q.2.moved d t.core t.num 8 else q.2.moveFail d t.core t.num p.grp q.1)
  | .read =>
    match s.moveRun d t.core t.num with
    | none => some s
    | some r =>
    if r.status ≠ 0 then some s
    else if k.tile then
      let i : TileInfo := { tag := k.opx, st := tstateOf k.tstate.toNat }
      match p.dst, p.src with
      | .host _, .remote m h a => s.hostTile d t.core r p (field 48 m + field 44 h + a) i k.payload
      | _, _ => s.landData d t.core t.num p k.payload (some i)
    else match p.src with
      | .remote _ _ a =>
        (s.fillLines d t k).landData d t.core t.num p ((k.payload.drop (a % 128)).take p.len) none
      | _ => some s

/-- A response belongs to the transaction: its operation and its source fit the request. -/
def answers (k : Packet) (t : Txn) : Bool :=
  k.op == t.pkt.op + 0x10 && k.srcDie == t.pkt.dstDie && (k.srcModule == t.pkt.dstModule || t.pkt.dstModule == 0xFFFF)

/-- STATUS of a response; a READ_RESP with TILE set is OK (Table 2 of ch.12). -/
def respStatus (k : Packet) : Nat := if k.tile then 0 else bits k.opx 7 0

/-- A response taken by the issuing die. -/
def State.respond (s : State) (d : Nat) (k : Packet) : Option State :=
  let n := k.txn.toNat
  match s.txn d n with
  | none => some (s.bump 0x6030 5)
  | some t =>
    if t.abandoned then some ((s.setTxn d n none).bump 0x6030 5)
    else if !answers k t then some (s.bump 0x6030 5)
    else if respStatus k = 0x4E then some (s.setTxn d n (some { t with busyAt := some s.time }))
    else
      let free (s : State) : State :=
        ((s.setTxn d n none).unawait d t.core t.num (.txn k.txn))
      if respStatus k ≠ 0 then some (((free s).txnFail d t (respStatus k)).moveSettle d t.core t.num)
      else match s.txnGood d t k with
        | none => none
        | some s1 => some (((free s1).grpLanded d t.core t.num t.piece.grp t.piece.dst).moveSettle d t.core t.num)

/-- A response operation of Table 1 of ch.12 addressed to a compute die. -/
def opResponse (op : Nat) : Bool := decide (0x11 ≤ op) && decide (op ≤ 0x15)

/-- RESPONSE_RECEIVE. -/
def execResponseReceive (die : Fin 16) (pkt : Packet) (s : State) : Host.Outcome State Fault Refusal :=
  if !s.fab.inner.contains (die.val, pkt) || !opResponse pkt.op.toNat || !s.dieRuns die then .next s
  else
    let s1 : State := { s with fab := { s.fab with inner := s.fab.inner.erase (die.val, pkt) } }
    if pkt.hchk ≠ pkt.check then .next ((s1.bump 0x5000 8).raise (mkEvent 0x10 sevRecovered die 0xFF 0 pkt.srcModule.toNat))
    else match s1.respond die pkt with
      | some s2 => .next (s2.dieMoves die)
      | none => .next s

/-- A request is given up with a status; its number stays taken until a late response comes (R341). -/
def State.abandon (s : State) (d n : Nat) (t : Txn) (st : Nat) : State :=
  (((s.setTxn d n (some { t with abandoned := true })).unawait d t.core t.num (.txn (BitVec.ofNat 15 n))).txnFail d t st).moveSettle
    d t.core t.num

/-- ACK_TIMEOUT (R341). -/
def execAckTimeout (die : Fin 16) (txn : BitVec 15) (s : State) : Host.Outcome State Fault Refusal :=
  match s.txn die txn.toNat with
  | some t =>
    if !t.abandoned && decide (t.sent + s.ackTicks ≤ s.time) then
      .next ((((s.abandon die txn.toNat t 0x48).bump 0x6030 4).raise
        (mkEvent 0x11 sevRecovered die t.core 0x48 t.pkt.addr.toNat)).dieMoves die)
    else .next s
  | none => .next s

/-- REORDER_BUSY_RESEND: 2 µs after its refusal a packet is sent again, in PSEQ order among those refused (R316). -/
def execReorderBusyResend (die : Fin 16) (txn : BitVec 15) (s : State) : Host.Outcome State Fault Refusal :=
  match s.txn die txn.toNat with
  | some t =>
    match t.busyAt with
    | some b =>
      let earlier := (s.die die).txns.any (fun kv => match kv.2 with
        | some u => u.busyAt.isSome && !u.abandoned && u.core == t.core && u.num == t.num && u.piece.grp < t.piece.grp
        | none => false)
      if !t.abandoned && decide (b + 2 * tickUs ≤ s.time) && !earlier then
        .next (s.sendTxn die txn.toNat { t with busyAt := none })
      else .next s
    | none => .next s
  | none => .next s

/-- A packet of this module that found no usable port for 100 µs: where it is a request, its move fails with UNREACHABLE
(Table 11 of ch.11). -/
def State.unreachable (s : State) (k : Packet) : State :=
  if opRequest k.op.toNat then
    match s.txn k.srcDie.toNat k.txn.toNat with
    | some t => if t.pkt = k then
        ((((s.setTxn k.srcDie.toNat k.txn.toNat none).unawait k.srcDie.toNat t.core t.num (.txn k.txn)).txnFail k.srcDie.toNat t 0x41).moveSettle
          k.srcDie.toNat t.core t.num).dieMoves k.srcDie.toNat
      else s
    | none => s
  else s

/-- RELAY_HOLD_EXPIRE: packets held at light die l, and own packets for which no light die had a usable port, are tried once
more; those held for 100 µs are given up (R329, R330). -/
def execRelayHoldExpire (l : Fin 8) (s : State) : Host.Outcome State Fault Refusal :=
  let s1 := s.retryHeld
  let out (h : Held) : Bool := (h.light == l.val || h.light == 8) && decide (h.since + 100 * tickUs ≤ s.time)
  let gone := s1.fab.held.filter out
  let s2 : State := { s1 with fab := { s1.fab with held := s1.fab.held.filter (fun h => !out h) } }
  .next (gone.foldl (fun s h => if h.own then s.unreachable h.pkt else s.bump 0x5000 0x0A) s2)

/-! ### Issue of copies and fills -/

/-- The status of a command that names other modules (R295, R330): none where each may be reached. -/
def State.fabricStatus (s : State) (ps : List Piece) : Nat :=
  let mods := ps.flatMap (fun p => (match p.src with | .remote m _ _ => [m] | _ => []) ++ (match p.dst with | .remote m _ _ => [m] | _ => []))
  let far := mods.filter (fun m => !s.ownModule m)
  if far.isEmpty then 0
  else if !s.hasId then 0x42
  else if far.any (fun m => !routeValid (s.route m)) then 0x40 else 0

/-- Format codes of Table 2 of ch.04 and 0x00. -/
def fmtKnown (f : Nat) : Bool := f == 0 || (elemOf f).isSome

/-- Why a copy is refused with DESC (Table 20 of ch.05, R158, R353). With USE the handle's first tile replaces SRC, or DST with
USE_DST (R157): what the descriptor says of that end is then not looked at. -/
def copyBad (w : BitVec 128) (t : BitVec 256) (fill : Bool) : Bool :=
  let cls := bits w 76 75
  let al (n : Nat) : Bool := n % 4096 == 0
  let src := !fill && !(cmdUse w && !bit w 73)
  let dst := fill || !(cmdUse w && bit w 73)
  tdLen t == 0 || tdRows t == 0
  || (!fill && (cls == 0 || cls == 3 || (bit w 89 && dst && tdDstHost t)))
  || (tdTile t && (!al (tdLen t) || !al (tdDStride t) || (dst && !al (tdDst t))
      || (src && (!al (tdSrc t) || (tdSrcHost t && !fmtKnown (tdFmt t))))
      || (!fill && (!al (tdSStride t) || !al (bits w 63 32) || !al (bits w 31 0)))))

/-- The operand that the handle supplies goes beyond its tiles (R144): rows of LEN bytes from OFF under a stride. -/
def useShort (h : Nat × Nat × Nat) (off len rows stride : Nat) : Bool :=
  decide (4096 * h.2.1 < off + (rows - 1) * stride + len)

/-- What MV.COPY copies. -/
def State.copySpec (s : State) (d c : Nat) (r : Run) : MoveSpec :=
  let w := r.word
  let t := s.td d c (bits w 95 90)
  let useAddr := r.useTiles.map (fun h => lsAddr c (4096 * h.1))
  let so := bits w 63 32
  let dO := bits w 31 0
  let place (host : Bool) (base off : Nat) (mine : Bool) : Place :=
    match (if mine then useAddr else none) with
    | some a => .loc (a + off)
    | none => if host then .host ((base + off) % 2 ^ 64) else s.placeOf d ((base + off) % 2 ^ 64)
  { src := fun i => place (tdSrcHost t) (tdSrc t) (so + i * tdSStride t) (!bit w 73)
    dst := fun i => place (tdDstHost t) (tdDst t) (dO + i * tdDStride t) (bit w 73)
    dstAddr := fun i => match (if bit w 73 then useAddr else none) with
      | some a => a + dO + i * tdDStride t
      | none => (tdDst t + dO + i * tdDStride t) % 2 ^ 64
    len := tdLen t, rows := tdRows t, tile := tdTile t }

/-- What MV.FILL fills: the pattern starts anew with each row (DEDUCED). -/
def State.fillSpec (s : State) (d c : Nat) (r : Run) : MoveSpec :=
  let t := s.td d c (bits r.word 95 90)
  let at_ (i : Nat) : Nat := (tdDst t + i * tdDStride t) % 2 ^ 64
  { src := fun _ => .fill (r.word.setWidth 64)
    dst := fun i => if tdDstHost t then .host (at_ i) else s.placeOf d (at_ i)
    dstAddr := at_, len := tdLen t, rows := tdRows t, tile := tdTile t }

/-- The slot a class-1 move of core c binds to (R239, R242): none where it is admitted without slots; class 2 at once where
a STRICT schedule binds nothing. Answers class, binding. -/
def State.bindSlot (s : State) (d c cls : Nat) : Nat × Option (Nat × Nat) :=
  if cls ≠ 1 then (cls, none)
  else match s.rsOf d c with
  | none => (1, none)
  | some i =>
    let w := s.rs d i
    if rsStrict w && !s.gtValid d then (2, none)
    else match rsBind w (s.localGt d).toNat with
    | some n => (1, some (i, n))
    | none => (1, none)

/-- A bound move's slot has begun: nothing opens while GT is UNSET or held (R218, R232, R239). -/
def State.slotOpen (s : State) (d : Nat) (b : Option (Nat × Nat)) : Bool :=
  match b with
  | some (i, n) => s.gtRuns d && decide (rsSlotStart (s.rs d i) n ≤ (s.localGt d).toNat)
  | none => true

/-- FLOW numbers of a die in use (R315). -/
def State.freeFlow (s : State) (d : Nat) : Option Nat :=
  (List.range 256).find? (fun n => !(s.die d).flows.any (fun f => f.1 == n))

/-- A copy or fill begins: its pieces, its class and slot, its flow. -/
def State.moveStart (s : State) (d c : Nat) (num : BitVec 64) (m : MoveSpec) (cls : Nat) (ord : Bool) (arr : Option Nat) (fmt : Nat) :
    State :=
  let ps := movePieces m
  let st := s.fabricStatus ps
  if st ≠ 0 then s.failRun d c 2 num st
  else
    let b := s.bindSlot d c cls
    let flow := if ord then s.freeFlow d else none
    let s1 := match flow with
      | some f => s.modDie d (fun x => { x with flows := x.flows ++ [(f, c, num)] })
      | none => s
    (s1.modRun d c 2 num (fun r => { r with
      todo := ps, tiles := ownTiles c ps, cls := b.1, bound := b.2, opened := s.slotOpen d b.2, flow := flow, arr := arr, fmt := fmt })).movePump d c num

/-- The effect of MV.COPY. -/
def State.mvCopy (s : State) (d c : Nat) (r : Run) : State :=
  let w := r.word
  let t := s.td d c (bits w 95 90)
  let short := match r.useTiles with
    | some h => if bit w 73 then useShort h (bits w 31 0) (tdLen t) (tdRows t) (tdDStride t)
                else useShort h (bits w 63 32) (tdLen t) (tdRows t) (tdSStride t)
    | none => false
  if copyBad w t false then s.failRun d c 2 r.num stDesc
  else if short then s.failRun d c 2 r.num stTqShort
  else s.moveStart d c r.num (s.copySpec d c r) (bits w 76 75) (bit w 74) (if bit w 89 then some (bits w 88 77) else none)
    (hostFormat (tdFmt t))

/-- A copy with ORD waits at issue while every FLOW number is in use (R315). -/
def State.flowWaits (s : State) (d c : Nat) : Bool :=
  match (s.core d c).next 2 with
  | some k => cmdOp k.word == 0x40 && bit k.word 74 && (s.freeFlow d).isNone
  | none => false

/-- MV_COPY. -/
def execMvCopy (die : Fin 16) (core : Fin 32) (s : State) : Host.Outcome State Fault Refusal :=
  .next (if s.flowWaits die core then s else s.rowOp die core 2 0x40 (fun s r => s.mvCopy die core r))

/-- MV_FILL. -/
def execMvFill (die : Fin 16) (core : Fin 32) (s : State) : Host.Outcome State Fault Refusal :=
  .next (s.rowOp die core 2 0x41 (fun s r =>
    if copyBad r.word (s.td die core (bits r.word 95 90)) true then s.failRun die core 2 r.num stDesc
    else s.moveStart die core r.num (s.fillSpec die core r) 2 false none 0x4000))

/-- MV_FENCE: it completes once every earlier move has (Table 19 of ch.05). -/
def execMvFence (die : Fin 16) (core : Fin 32) (s : State) : Host.Outcome State Fault Refusal :=
  .next (s.rowOp die core 2 0x44 (fun s _ => s))

/-! ### MV.ATOMIC, MV.CLAIM, MV.INVAL -/

/-- DST of transfer descriptor T plus OFF, as a place. -/
def State.dstPlace (s : State) (d c t off : Nat) : Place := s.placeOf d ((tdDst (s.td d c t) + off) % 2 ^ 64)

/-- Operands of an atomic from local store: a status, the line payload, and the state after the read. -/
def State.atomicOperands (s : State) (d c off : Nat) (cas : Bool) : Nat × List Byte × State :=
  match s.localRead d (lsAddr c off) (if cas then 16 else 8) false (some c) with
  | .done st bs s1 => (st, bs, s1)
  | .wait => (stAddrHole, [], s)

/-- An atomic on the issuing die's own memory. In accumulator memory its 8-byte write is a short one, which is refused (R76). -/
def State.atomicHere (s : State) (d c : Nat) (num : BitVec 64) (op a res : Nat) (ops : List Byte) : State :=
  match s.localRead d a 8 false (some c) with
  | .wait => s.failRun d c 2 num accPartial.toNat
  | .done st bs s1 =>
    if st ≠ 0 then s1.failRun d c 2 num st
    else
      let x : BitVec 64 := BitVec.ofNat 64 (ofBytes (ops.take 8))
      let y : BitVec 64 := BitVec.ofNat 64 (ofBytes (ops.drop 8))
      match s1.localWrite d a (toBytes 8 (atomicNew op (BitVec.ofNat 64 (ofBytes bs)) x y).toNat) .move (some c) with
      | .wait => s1.failRun d c 2 num stAddrHole
      | .done st2 _ s2 => 
        if st2 ≠ 0 then s2.failRun d c 2 num st2
        else
          let q := s2.storeBytes d (lsAddr c res) bs
          if q.1 ≠ 0 then q.2.failRun d c 2 num q.1 else q.2.moved d c num 8

/-- A request that a move sends alone: an atomic or a claim. -/
def State.sendAlone (s : State) (d c : Nat) (num : BitVec 64) (m k : Nat) (kind : TxnKind) (p : Piece) (pkt : Packet) : State :=
  if !s.ownModule m && !s.hasId then s.failRun d c 2 num 0x42
  else if !s.ownModule m && !routeValid (s.route m) then s.failRun d c 2 num 0x40
  else match s.freeTxn d with
    | some n => s.moveSend d c num n kind p { pkt with dstDie := BitVec.ofNat 4 k }
    | none => s

/-- The effect of MV.ATOMIC (R350). -/
def State.mvAtomic (s : State) (d c : Nat) (r : Run) : State :=
  let w := r.word
  let op := bits w 95 92
  let src := bits w 85 63
  let res := bits w 62 40
  if src % 8 ≠ 0 ∨ res % 8 ≠ 0 ∨ 7 < op then s.failRun d c 2 r.num stDesc
  else
    let pl := s.dstPlace d c (bits w 91 86) (bits w 31 0)
    let a := match pl with | .loc a => a | .remote _ _ a => a | _ => 0
    if a % 8 ≠ 0 then s.failRun d c 2 r.num 0x4A
    else
      let o := s.atomicOperands d c src (op == 2)
      if o.1 ≠ 0 then o.2.2.failRun d c 2 r.num o.1
      else match pl with
      | .remote m k a =>
        let pkt := { s.header d 0x04 2 m k a 1 with
          opx := BitVec.ofNat 64 op, payload := o.2.1 ++ List.replicate (128 - o.2.1.length) 0 }
        o.2.2.sendAlone d c r.num m k (.atomic res) { grp := 0, src := .data [] none, dst := pl, len := 8, tile := false } pkt
      | .loc a => o.2.2.atomicHere d c r.num op a res o.2.1
      | _ => s

/-- An atomic or a claim that names a remote place waits at issue while no TXN is free (R334). -/
def State.txnWaits (s : State) (d : Nat) : Bool := (s.freeTxn d).isNone

/-- The next command is an MV.ATOMIC on this die's part of a core that is being substituted: it waits until the core resumes
(R398). -/
def State.atomicWaits (s : State) (d c : Nat) : Bool :=
  match (s.core d c).next 2 with
  | some k => cmdOp k.word == 0x42 && (match s.dstPlace d c (bits k.word 91 86) (bits k.word 31 0) with
    | .loc a => (match regionCore (regionOf a) with | some c' => s.substituting d c' | none => false)
    | _ => false)
  | none => false

/-- MV_ATOMIC. -/
def execMvAtomic (die : Fin 16) (core : Fin 32) (s : State) : Host.Outcome State Fault Refusal :=
  .next (if s.txnWaits die || s.atomicWaits die core then s else s.rowOp die core 2 0x42 (fun s r => s.mvAtomic die core r))

/-- The effect of MV.CLAIM (R356). -/
def State.mvClaim (s : State) (d c : Nat) (r : Run) : State :=
  match s.dstPlace d c (bits r.word 95 90) (bits r.word 31 0) with
  | .remote m k a =>
    s.sendAlone d c r.num m k .claim
      { grp := 0, src := .data [] none, dst := .remote m k a, len := 0, tile := false } (s.header d 0x05 2 m k a 0)
  | .loc a =>
    let p := s.claim d a s.moduleId d
    if p.1 = 0 then p.2 else p.2.failRun d c 2 r.num p.1
  | _ => s

/-- MV_CLAIM. -/
def execMvClaim (die : Fin 16) (core : Fin 32) (s : State) : Host.Outcome State Fault Refusal :=
  .next (if s.txnWaits die then s else s.rowOp die core 2 0x46 (fun s r => s.mvClaim die core r))

/-- MV_INVAL: lines of the die's remote line cache that the range touches, or all (R345). -/
def execMvInval (die : Fin 16) (core : Fin 32) (s : State) : Host.Outcome State Fault Refusal :=
  .next (s.rowOp die core 2 0x43 (fun s r =>
    let len := bits r.word 31 0
    if len = 0 then s.rlcInvalidate die (fun _ => true)
    else match s.dstPlace die core (bits r.word 95 90) (bits r.word 63 32) with
    | .remote m k a => s.rlcInvalidate die (fun l => l.m == m && l.d == k && decide (a / 128 ≤ l.line) && decide (l.line ≤ (a + len - 1) / 128))
    | _ => s))

/-! ### Slots (R239, R240) -/

/-- Moves bound to slots of schedule i of die d, in issue order (R239). -/
def State.boundMoves (s : State) (d i : Nat) : List (Nat × Run) :=
  (s.movesOf d).filter (fun x => match x.2.bound with | some b => b.1 == i | none => false)

/-- SLOT_START: moves whose slot has begun may enter the fabric; where the schedule has ended they are no longer bound. -/
def execSlotStart (die : Fin 16) (rs : Fin 16) (s : State) : Host.Outcome State Fault Refusal :=
  .next ((s.boundMoves die rs).foldl (fun s x =>
    if !rsValid (s.rs die rs) || s.slotOpen die x.2.bound then
      (s.modRun die x.1 2 x.2.num (fun r => { r with opened := true, bound := if rsValid (s.rs die rs) then r.bound else none })).movePump
        die x.1 x.2.num
    else s) s)

/-- ADMISSION_CLOSE: what a move bound to a slot has not sent by its admission close goes as class 2 (R240). -/
def execAdmissionClose (die : Fin 16) (rs : Fin 16) (s : State) : Host.Outcome State Fault Refusal :=
  let w := s.rs die rs
  .next ((s.boundMoves die rs).foldl (fun s x =>
    match x.2.bound with
    | some (_, n) =>
      if s.gtRuns die && decide (rsSlotClose w n ≤ (s.localGt die).toNat) then
        let s1 := s.modRun die x.1 2 x.2.num (fun r => { r with bound := none, opened := true, cls := if r.todo.isEmpty then r.cls else 2 })
        if x.2.todo.isEmpty then s1
        else
          let v := s1.rs die rs
          ((s1.setRs die rs (putBits v 31 0 (satAdd 32 (bits v 31 0) 1))).bump 0x5100 9).movePump die x.1 x.2.num
      else s
    | none => s) s)

/-- R242: moves that a STRICT schedule of the die has bound go at once as class 2. -/
def State.unbindStrict (s : State) (d : Nat) : State :=
  ((s.movesOf d).foldl (fun s x => match x.2.bound with
    | some (i, _) => if rsStrict (s.rs d i) then
        s.modRun d x.1 2 x.2.num (fun r => { r with bound := none, opened := true, cls := if r.todo.isEmpty then r.cls else 2 })
      else s
    | none => s) s).dieMoves d

/-- The state of game time has moved on from `s` to `t`: a module that has left LOCKED, or a target, releases what STRICT schedules
held (R242). -/
def State.gtMoves (s t : State) : State :=
  if s.gt.st = 1 ∧ t.gt.st ≠ 1 then (List.range 16).foldl State.unbindStrict t else t

/-- GT_LOSS_OF_LOCK (R231). -/
def execGtLossOfLock (s : State) : Host.Outcome State Fault Refusal := .next (s.gtMoves s.lossOfLock)

/-- PPS_EDGE (R228). -/
def execPpsEdge (widthNs : Nat) (s : State) : Host.Outcome State Fault Refusal := .next (s.gtMoves (s.ppsEdge widthNs))

/-! ### Host reads (R526) -/

/-- Data of a host read: landed, a tile taking a tag as a producer would give it (R158). -/
def State.hostData (s : State) (h : HostRead) (bs : List Byte) : Option State :=
  match s.moveRun h.die h.core h.num with
  | some r => s.landData h.die h.core h.num h.piece bs (if h.piece.tile then some (newTile h.num r.fmt bs) else none)
  | none => some s

/-- A host read ends; `data` none where it has failed. -/
def State.hostReadEnd (s : State) (h : HostRead) (data : Option (List Byte)) : State :=
  let free (s : State) : State :=
    { s with host := { s.host with reads := s.host.reads.filter (fun x => x.tag != h.tag) } }.unawait h.die h.core h.num (.hostRead h.tag)
  match data with
  | none => ((((free s).bump 0xA000 4).moveFail h.die h.core h.num h.piece.grp stHost).moveSettle h.die h.core h.num).dieMoves h.die
  | some bs => match s.hostData h bs with
    | some s1 => (((free s1).grpLanded h.die h.core h.num h.piece.grp h.piece.dst).moveSettle h.die h.core h.num).dieMoves h.die
    | none => s

end Sys2Proof.Machine
end

