-- ==== Sys2Proof/Machine/Plan.lean ====
section
/-! DEFINITION. What each member of a collective sends and receives (R366 to R378): descriptors, the transfers of RING, TREE and
ROUNDS, chunks, and the arithmetic of partials. -/

namespace Sys2Proof.Machine

/-! ### Collective descriptors (Table 2 of ch.13) -/

def cSrc (w : BitVec 256) : Nat := bits w 255 192
def cDst (w : BitVec 256) : Nat := bits w 191 128
def cCount (w : BitVec 256) : Nat := bits w 127 88
def cRoot (w : BitVec 256) : Nat := bits w 87 72
def cOp (w : BitVec 256) : Nat := bits w 71 68
def cType (w : BitVec 256) : Nat := bits w 67 63
def cCarry (w : BitVec 256) : Nat := bits w 62 61
def cAlgo (w : BitVec 256) : Nat := bits w 60 59
def cRedop (w : BitVec 256) : Nat := bits w 58 57
def cClass (w : BitVec 256) : Nat := if cAlgo w = 2 ∨ bit w 56 then 1 else 2
def cTiled (w : BitVec 256) : Bool := bit w 55
def cRs (w : BitVec 256) : Nat := bits w 54 51
def cScratch (w : BitVec 256) : Nat := bits w 50 7

/-- A collective as one member sees it: group size, own rank, descriptor, and the counts of its SCRATCH (R367). -/
structure CollJob where
  size : Nat
  rank : Nat
  desc : BitVec 256
  sendC : List Nat := []
  recvC : List Nat := []

/-- The element type; FP32 stands in where the code is reserved, which the huddle refuses. -/
def CollJob.elem (j : CollJob) : Elem := (elemOf (cType j.desc)).getD (.fp fp32)

/-- The operation reduces (R368). -/
def CollJob.reduces (j : CollJob) : Bool := decide (cOp j.desc ≤ 1)

/-- b and b_c of R378. -/
def CollJob.b (j : CollJob) : Nat := max 1 (elemBits j.elem / 8)
def CollJob.bc (j : CollJob) : Nat := match cCarry j.desc with | 1 => 4 | 2 => 16 | _ => j.b

/-- N of R378: the elements that are reduced. -/
def CollJob.n (j : CollJob) : Nat := if cOp j.desc = 1 then j.size * cCount j.desc else cCount j.desc

/-- Bytes of n elements. -/
def CollJob.bytes (j : CollJob) (n : Nat) : Nat := rowBytes j.elem n

/-- Count of block k that is sent and received (R367). -/
def CollJob.sendCount (j : CollJob) (k : Nat) : Nat := if cOp j.desc = 6 ∨ cOp j.desc = 3 then j.sendC.getD k 0 else cCount j.desc
def CollJob.recvCount (j : CollJob) (k : Nat) : Nat :=
  if cOp j.desc = 6 then j.recvC.getD k 0 else if cOp j.desc = 3 then j.sendC.getD k 0 else cCount j.desc

/-- First byte of block k in SRC and in DST. -/
def CollJob.sendAt (j : CollJob) (k : Nat) : Nat := (List.range k).foldl (fun n i => n + j.bytes (j.sendCount i)) 0
def CollJob.recvAt (j : CollJob) (k : Nat) : Nat := (List.range k).foldl (fun n i => n + j.bytes (j.recvCount i)) 0

/-- First element of segment k of N elements cut into P (R374). -/
def segLo (n p k : Nat) : Nat := k * (n / p) + min k (n % p)

/-! ### Transfers -/

/-- One transfer of a step with a peer. Kind 0: partials, `lo` and `n` in elements; kind 1: bytes of DST; kind 2: bytes of SRC.
`last` marks the addition that completes the elements. -/
structure Hop where
  step : Nat
  peer : Nat
  kind : Nat
  lo : Nat
  n : Nat
  last : Bool := false
deriving DecidableEq, Repr

/-- Smallest k with 2^k at least p. -/
def log2Up (p : Nat) : Nat := if p ≤ 1 then 0 else (p - 1).log2 + 1

/-- Trailing zero bits of v > 0, at most `fuel`. -/
def trailing : Nat → Nat → Nat
  | 0, _ => 0
  | fuel + 1, v => if v % 2 = 1 then 0 else 1 + trailing fuel (v / 2)

/-- Children of node v in a binomial tree of p nodes (R369), as exponents j. -/
def treeKids (p v : Nat) : List Nat :=
  (List.range (if v = 0 then log2Up p else trailing 17 v)).filter (fun j => decide (v + 2 ^ j < p))

/-- Parent of node v > 0. -/
def treeParent (v : Nat) : Nat := v - 2 ^ trailing 17 v

/-- Reduce-scatter of RING (R374): what is sent and what is received. -/
def CollJob.ringReduce (j : CollJob) : List Hop × List Hop :=
  let p := j.size
  let hop (s k peer : Nat) (last : Bool) : Hop :=
    { step := s, peer := peer, kind := 0, lo := segLo j.n p k, n := segLo j.n p (k + 1) - segLo j.n p k, last := last }
  ((List.range (p - 1)).map (fun s => hop s ((j.rank + 2 * p - 1 - s) % p) ((j.rank + 1) % p) false),
   (List.range (p - 1)).map (fun s => hop s ((j.rank + 2 * p - 2 - s) % p) ((j.rank + p - 1) % p) (s + 2 == p)))

/-- All-gather of RING from step t: `blk` gives first byte and length of a block in DST. -/
def CollJob.ringGather (j : CollJob) (t : Nat) (blk : Nat → Nat × Nat) : List Hop × List Hop :=
  let p := j.size
  let hop (u k peer : Nat) : Hop := { step := t + u, peer := peer, kind := 1, lo := (blk k).1, n := (blk k).2 }
  ((List.range (p - 1)).map (fun u => hop u ((j.rank + p - u) % p) ((j.rank + 1) % p)),
   (List.range (p - 1)).map (fun u => hop u ((j.rank + 2 * p - 1 - u) % p) ((j.rank + p - 1) % p)))

/-- Upward half of TREE (R375). -/
def CollJob.treeUp (j : CollJob) : List Hop × List Hop :=
  let p := j.size
  let root := cRoot j.desc
  let v := (j.rank + p - root) % p
  let abs (x : Nat) : Nat := (x + root) % p
  let hop (s peer : Nat) (last : Bool) : Hop := { step := s, peer := peer, kind := 0, lo := 0, n := j.n, last := last }
  (if v = 0 then [] else [hop (trailing 17 v) (abs (treeParent v)) false],
   (treeKids p v).map (fun k => hop k (abs (v + 2 ^ k)) (v == 0 && k + 1 == log2Up p)))

/-- Downward half of TREE from step t: n bytes of DST. -/
def CollJob.treeDown (j : CollJob) (t n : Nat) : List Hop × List Hop :=
  let p := j.size
  let root := cRoot j.desc
  let v := (j.rank + p - root) % p
  let abs (x : Nat) : Nat := (x + root) % p
  let hop (k peer : Nat) : Hop := { step := t + (log2Up p - 1 - k), peer := peer, kind := 1, lo := 0, n := n }
  ((treeKids p v).map (fun k => hop k (abs (v + 2 ^ k))),
   if v = 0 then [] else [hop (trailing 17 v) (abs (treeParent v))])

/-- Recursive halving of ROUNDS (R376). -/
def CollJob.halving (j : CollJob) : List Hop × List Hop :=
  let k := log2Up j.size
  let hop (i x : Nat) (r : Nat) (last : Bool) : Hop :=
    let q := k - 1 - i
    let base := r / 2 ^ q * 2 ^ q
    { step := i, peer := x, kind := 0, lo := segLo j.n j.size base
      n := segLo j.n j.size (base + 2 ^ q) - segLo j.n j.size base, last := last }
  ((List.range k).map (fun i => hop i (j.rank ^^^ 2 ^ (k - 1 - i)) (j.rank ^^^ 2 ^ (k - 1 - i)) false),
   (List.range k).map (fun i => hop i (j.rank ^^^ 2 ^ (k - 1 - i)) j.rank (i + 1 == k)))

/-- Recursive doubling of ROUNDS from step t: `at_ k` is the first byte of block k in DST. -/
def CollJob.doubling (j : CollJob) (t : Nat) (at_ : Nat → Nat) : List Hop × List Hop :=
  let k := log2Up j.size
  let hop (u r : Nat) : Hop :=
    let base := r / 2 ^ u * 2 ^ u
    { step := t + u, peer := j.rank ^^^ 2 ^ u, kind := 1, lo := at_ base, n := at_ (base + 2 ^ u) - at_ base }
  ((List.range k).map (fun u => hop u j.rank), (List.range k).map (fun u => hop u (j.rank ^^^ 2 ^ u)))

/-- Pairwise exchange of ALL_TO_ALL and ALL_TO_ALLV (R374). -/
def CollJob.pairwise (j : CollJob) : List Hop × List Hop :=
  let p := j.size
  ((List.range (p - 1)).map (fun s =>
     let k := (j.rank + s + 1) % p
     { step := s, peer := k, kind := 2, lo := j.sendAt k, n := j.bytes (j.sendCount k) }),
   (List.range (p - 1)).map (fun s =>
     let k := (j.rank + p - s - 1) % p
     { step := s, peer := k, kind := 1, lo := j.recvAt k, n := j.bytes (j.recvCount k) }))

/-- Two parts of a plan. -/
def joinPlan (a b : List Hop × List Hop) : List Hop × List Hop := (a.1 ++ b.1, a.2 ++ b.2)

/-- The pipeline of BROADCAST under RING. -/
def CollJob.pipeline (j : CollJob) (n : Nat) : List Hop × List Hop :=
  let p := j.size
  let v := (j.rank + p - cRoot j.desc) % p
  (if v + 1 < p then [{ step := v, peer := (j.rank + 1) % p, kind := 1, lo := 0, n := n }] else [],
   if v = 0 then [] else [{ step := v - 1, peer := (j.rank + p - 1) % p, kind := 1, lo := 0, n := n }])

/-- Every transfer of this member: sends and receives. Steps count from 0 in the order of the algorithm (DESIGN CHOICE). -/
def CollJob.plan (j : CollJob) : List Hop × List Hop :=
  let seg (k : Nat) : Nat := j.b * segLo j.n j.size k
  let all := j.bytes (cCount j.desc)
  let p := match cOp j.desc, cAlgo j.desc with
    | 0, 0 => joinPlan j.ringReduce (j.ringGather (j.size - 1) (fun k => (seg k, seg (k + 1) - seg k)))
    | 0, 1 => joinPlan j.treeUp (j.treeDown (log2Up j.size) all)
    | 0, _ => joinPlan j.halving (j.doubling (log2Up j.size) seg)
    | 1, 0 => j.ringReduce
    | 1, _ => j.halving
    | 2, 2 => j.doubling 0 (fun k => k * all)
    | 2, _ | 3, _ => j.ringGather 0 (fun k => (j.recvAt k, j.bytes (j.recvCount k)))
    | 4, 0 => j.pipeline all
    | 4, _ => j.treeDown 0 all
    | 5, _ | 6, _ => j.pairwise
    | _, _ => ([], [])
  (p.1.filter (fun h => h.n != 0), p.2.filter (fun h => h.n != 0))

/-- Own blocks copied from SRC to DST when GO is held: from, to, bytes. -/
def CollJob.copies (j : CollJob) : List (Nat × Nat × Nat) :=
  match cOp j.desc with
  | 2 | 3 => [(0, j.recvAt j.rank, j.bytes (j.recvCount j.rank))]
  | 4 => if j.rank = cRoot j.desc then [(0, 0, j.bytes (cCount j.desc))] else []
  | 5 | 6 => [(j.sendAt j.rank, j.recvAt j.rank, j.bytes (min (j.sendCount j.rank) (j.recvCount j.rank)))]
  | _ => []

/-! ### Sizes and checks (R366 to R368, R378, Table 5) -/

/-- Bytes of SRC, of DST and of SCRATCH, and of the counts arrays before it. -/
def CollJob.srcBytes (j : CollJob) : Nat :=
  match cOp j.desc with
  | 0 | 2 => j.bytes (cCount j.desc)
  | 1 => j.bytes (j.size * cCount j.desc)
  | 3 => j.bytes (j.sendCount j.rank)
  | 4 => if j.rank = cRoot j.desc then j.bytes (cCount j.desc) else 0
  | 5 | 6 => j.sendAt j.size
  | _ => 0
def CollJob.dstBytes (j : CollJob) : Nat :=
  match cOp j.desc with
  | 0 | 1 | 4 => j.bytes (cCount j.desc)
  | 2 | 3 | 5 | 6 => j.recvAt j.size
  | _ => 0
def collArrays (op : Nat) : Nat := if op = 3 then 1 else if op = 6 then 2 else 0
def CollJob.countBytes (j : CollJob) : Nat := ceilDiv (collArrays (cOp j.desc) * 4 * j.size) 4096 * 4096
def CollJob.scratchBytes (j : CollJob) : Nat :=
  j.countBytes + (if !j.reduces then 0 else if cAlgo j.desc = 0 then 2 * ceilDiv j.n j.size * j.bc else j.n * j.bc)

/-- A power of two. -/
def powTwo (p : Nat) : Bool := p == 2 ^ log2Up p

/-- The algorithm is allowed (Table 3 of ch.13). -/
def CollJob.algoOk (j : CollJob) : Bool :=
  let a := cAlgo j.desc
  match cOp j.desc with
  | 0 => a != 2 || powTwo j.size
  | 1 | 2 => a == 0 || (a == 2 && powTwo j.size)
  | 3 => a == 0
  | 5 | 6 => a == 0 || a == 2
  | _ => true

/-- TYPE, REDOP and CARRY combine (R368). -/
def CollJob.typeOk (j : CollJob) : Bool :=
  let c := cCarry j.desc
  let o := cRedop j.desc
  if !j.reduces then c == 0 && o == 0 && (cOp j.desc == 7 || (elemOf (cType j.desc)).isSome)
  else match cType j.desc with
    | 1 => if o = 0 then c == 0 || c == 2 else c == 0
    | 2 | 3 => o == 0 || c == 0
    | 7 | 8 => c == 0
    | _ => false

/-- n bytes at a lie in the die's HBM or in its local stores. -/
def inDie (a n : Nat) : Bool :=
  n == 0 || (match regionSpan a n with | .hbm => true | .store _ _ => true | _ => false)

/-- Two ranges share a byte. -/
def rangesMeet (a n b m : Nat) : Bool := decide (0 < n) && decide (0 < m) && decide (a < b + m) && decide (b < a + n)

/-- The local address of SRC or DST of the die; none where it names another die or module. -/
def State.ownAddr (s : State) (d ga : Nat) : Option Nat := match s.placeOf d ga with | .loc a => some a | _ => none

/-- SRC, DST, SCRATCH and counts lie in this die's memory and do not overlap where they must not (cause 0x05). -/
def State.collPlaced (s : State) (d : Nat) (j : CollJob) : Bool :=
  let op := cOp j.desc
  if op = 7 then true
  else match s.ownAddr d (cSrc j.desc), s.ownAddr d (cDst j.desc) with
  | some a, some b =>
    let n := j.srcBytes
    let m := j.dstBytes
    let sc := cScratch j.desc
    inDie a n && inDie b m && (!rangesMeet a n b m || ((op == 0 || op == 4) && a == b))
    && (j.scratchBytes == 0 || (sc % 4096 == 0 && decide (sc + j.scratchBytes ≤ 0x6000000000)))
    && (!cTiled j.desc || ((n == 0 || a % 4096 == 0) && b % 4096 == 0 && n % 4096 == 0 && m % 4096 == 0))
  | _, _ => false

/-- A member's own check: the cause of Table 5, the lowest that applies, or 0. -/
def State.collCause (s : State) (d : Nat) (j : CollJob) : Nat :=
  let w := j.desc
  if 7 < cOp w ∨ cAlgo w = 3 ∨ cCarry w = 3 ∨ cRedop w = 3 then 0x02
  else if !j.algoOk then 0x03
  else if !j.typeOk then 0x04
  else if !s.collPlaced d j then 0x05
  else if (if cOp w = 4 ∨ cAlgo w = 1 then decide (j.size ≤ cRoot w) else cRoot w != 0) then 0x06
  else if cAlgo w = 2 ∧ cOp w ≠ 7 ∧ !rsValid (s.rs d (cRs w)) then 0x07
  else 0

/-- The counts arrays of SCRATCH (R367). -/
def State.collCounts (s : State) (d op size sc : Nat) : List Nat × List Nat :=
  let arr (i : Nat) : List Nat := (List.range size).map (fun k => ofBytes (s.bytes d (sc + 4 * (i * size + k)) 4))
  match collArrays op with
  | 0 => ([], [])
  | 1 => (arr 0, [])
  | _ => (arr 0, arr 1)

/-- Contribution of a member to BALANCE (R372). -/
def CollJob.balance (j : CollJob) : BitVec 64 :=
  let h (i k c : Nat) : BitVec 64 := mix64 (mix64 (BitVec.ofNat 64 (i * 2 ^ 16 + k)) + BitVec.ofNat 64 c)
  let p := List.range j.size
  match cOp j.desc with
  | 3 => p.foldl (fun t k => t + h j.rank k (j.sendC.getD j.rank 0) - h k j.rank (j.sendC.getD k 0)) 0
  | 6 => p.foldl (fun t k => t + h j.rank k (j.sendC.getD k 0) - h k j.rank (j.recvC.getD k 0)) 0
  | _ => 0

/-- SCHED of a huddle frame (R370). -/
def State.collSched (s : State) (d : Nat) (w : BitVec 256) : BitVec 32 :=
  if cAlgo w = 2 then
    let e := s.rs d (cRs w)
    (mix64 (BitVec.ofNat 64 (rsStart e)) ^^^ mix64 (BitVec.ofNat 64 (rsSlotNs e * 2 ^ 16 + rsGuard e))).setWidth 32
  else 0

/-! ### Rounds (R376) -/

/-- Consecutive slots that round i occupies, by the bytes each member sends in it; where members' counts differ, by the
largest segment, and for ALL_TO_ALLV by this member's own (DEDUCED). -/
def CollJob.roundSlots (j : CollJob) (slotNs guard i : Nat) : Nat :=
  let c := 4096 * ((slotNs - guard - 6) * 4 / 69)
  let seg := ceilDiv j.n j.size
  let k := log2Up j.size
  let bytes := match cOp j.desc with
    | 0 => if i < k then 2 ^ (k - 1 - i) * seg * j.bc else 2 ^ (i - k) * seg * j.b
    | 1 => 2 ^ (k - 1 - i) * seg * j.bc
    | 2 => 2 ^ i * j.bytes (cCount j.desc)
    | 6 => (j.plan.1.filter (fun h => h.step == i)).foldl (fun n h => n + h.n) 0
    | _ => j.bytes (cCount j.desc)
  ceilDiv bytes (max 1 c)

/-- Slot at which round i begins: the first slot at or after T_GO and the lead, and the rounds before it. -/
def CollJob.roundSlot (j : CollJob) (rs : BitVec 256) (tgo lead i : Nat) : Nat :=
  let from_ := tgo + 256 * lead
  let len := 256 * rsSlotNs rs
  let first := if from_ ≤ rsStart rs then 0 else ceilDiv (from_ - rsStart rs) len
  (List.range i).foldl (fun n k => n + j.roundSlots (rsSlotNs rs) (rsGuard rs) k) first

/-! ### Chunks (R379) -/

/-- A chunk of a transfer: byte offset in the transfer and bytes. -/
structure Chunk where
  hop : Hop
  off : Nat
  len : Nat
deriving DecidableEq, Repr

/-- Bytes of a unit of a transfer. -/
def CollJob.unit (j : CollJob) (h : Hop) : Nat := if h.kind = 0 then j.bc else 1

/-- The chunks of a transfer. -/
def CollJob.chunks (j : CollJob) (h : Hop) : List Chunk :=
  let n := h.n * j.unit h
  (List.range (ceilDiv n 4096)).map (fun i => { hop := h, off := 4096 * i, len := min 4096 (n - 4096 * i) })

/-- First and last-but-one byte of DST that a chunk stands for; partials stand where their elements would. -/
def CollJob.span (j : CollJob) (c : Chunk) : Nat × Nat :=
  if c.hop.kind = 0 then ((c.hop.lo + c.off / j.bc) * j.b, (c.hop.lo + (c.off + c.len) / j.bc) * j.b)
  else (c.hop.lo + c.off, c.hop.lo + c.off + c.len)

/-- Two chunks stand for a byte in common. -/
def CollJob.overlap (j : CollJob) (a b : Chunk) : Bool :=
  decide ((j.span a).1 < (j.span b).2) && decide ((j.span b).1 < (j.span a).2)

/-- Every chunk to be received from earlier steps that overlaps the chunk has been worked on. -/
def CollJob.ready (j : CollJob) (got : List (Nat × Nat)) (c : Chunk) : Bool :=
  c.hop.kind == 2
  || j.plan.2.all (fun h => decide (c.hop.step ≤ h.step)
      || (j.chunks h).all (fun x => !j.overlap x c || got.contains (h.step, x.off)))

/-- A chunk received may be worked on: additions go in the order of their steps. -/
def CollJob.mayTake (j : CollJob) (got : List (Nat × Nat)) (c : Chunk) : Bool := c.hop.kind != 0 || j.ready got c

/-! ### Partials (R368, R374 to R376) -/

/-- An element as the carry format has it. -/
def CollJob.toCarry (j : CollJob) (code : Nat) : Nat :=
  match cCarry j.desc with
  | 1 => (cvtFp fp32 false .rn (plusZero (elemVal j.elem 0 code))).code
  | 2 => (winWord (winOfFp false (elemVal j.elem 0 code))).toNat
  | _ => code

/-- A completed partial rounded to TYPE (R48, R368). -/
def CollJob.ofCarry (j : CollJob) (code : Nat) : Nat :=
  match cCarry j.desc with
  | 1 => (cvtElem j.elem false .rn 0 (plusZero (fpDecode fp32 code))).code
  | 2 => (cvtElem j.elem false .rn 0 (winVal (wordWin (BitVec.ofNat 128 code)))).code
  | _ => code

/-- Reduction in a floating format; a zero result is +0 (R41). -/
def redFp (f : FpFmt) (redop a b : Nat) : Nat :=
  let x := fpDecode f a
  let y := fpDecode f b
  (cvtFp f false .rn (plusZero (match redop with | 0 => (fpAdd x y).1 | 1 => fpMinMax true x y | _ => fpMinMax false x y))).code

/-- Reduction of integers of w bits; SUM wraps. -/
def redInt (w redop a b : Nat) : Nat :=
  let x := signed w a
  let y := signed w b
  match redop with
  | 0 => (a + b) % 2 ^ w
  | 1 => if x < y then b else a
  | _ => if y < x then b else a

/-- Two partials reduced, a first (R368). -/
def CollJob.reduce (j : CollJob) (a b : Nat) : Nat :=
  match cCarry j.desc, j.elem with
  | 1, _ => redFp fp32 (cRedop j.desc) a b
  | 2, _ => (winWord (mergeWin false (wordWin (BitVec.ofNat 128 a)) (wordWin (BitVec.ofNat 128 b))).1).toNat
  | _, .fp f => redFp f (cRedop j.desc) a b
  | _, .int w => redInt w (cRedop j.desc) a b
  | _, _ => a

/-- The order of operands: RING adds its own to the partial received, TREE and ROUNDS add what is received to their own
(R374 to R376). -/
def CollJob.meet (j : CollJob) (received own : Nat) : Nat := if cAlgo j.desc = 0 then j.reduce received own else j.reduce own received

/-- Numbers of a fixed width in bytes. -/
def unitsOf (w : Nat) (bs : List Byte) : List Nat :=
  (List.range (bs.length / w)).map (fun i => ofBytes ((bs.drop (w * i)).take w))

/-- Address of the partial of element e in SCRATCH after the addition of step `step` in transfer `lo` (R378). -/
def CollJob.partialAt (j : CollJob) (step lo e : Nat) : Nat :=
  let base := cScratch j.desc + j.countBytes
  if cAlgo j.desc = 0 then base + (step % 2) * (ceilDiv j.n j.size * j.bc) + (e - lo) * j.bc else base + e * j.bc

/-- The receive whose addition last touched element e before a step; none where the element is still the member's own. -/
def CollJob.lastAdd (j : CollJob) (before e : Nat) : Option Hop :=
  (j.plan.2.filter (fun h => h.kind == 0 && decide (h.step < before) && decide (h.lo ≤ e) && decide (e < h.lo + h.n))).foldl
    (fun b h => match b with | none => some h | some x => if x.step < h.step then some h else some x) none

end Sys2Proof.Machine
end

