-- ==== Sys2Proof/Machine/Collectives.lean ====
section
/-! DEFINITION. Collectives (R365 to R386): huddle, verdicts, data phase, chunks, vote, timeouts and lost members, at the
collective unit of a die. -/

namespace Sys2Proof.Machine

/-! ### Statuses (Table 7 of ch.13) -/

/-- Rank of a status: the lowest wins (R386). -/
def collRank (st : Nat) : Nat :=
  match st with
  | 0x61 => 1 | 0x60 => 2 | 0x62 => 3 | 0x63 => 4 | 0x64 => 5 | _ => 6

/-- The worse of two statuses. -/
def worst (a b : Nat) : Nat := if collRank b < collRank a then b else a

/-! ### Access -/

/-- The collective in execution on group g of die d. -/
def State.coll (s : State) (d g : Nat) : Option Coll := mapGet none (s.die d).col.active g

/-- A collective replaced, or gone. -/
def State.setColl (s : State) (d g : Nat) (c : Option Coll) : State :=
  s.modCol d (fun x => { x with active := mapSet none x.active g c })

/-- A collective changed. -/
def State.modColl (s : State) (d g : Nat) (f : Coll → Coll) : State :=
  match s.coll d g with
  | some c => s.setColl d g (some (f c))
  | none => s

/-- PHASE of a collective, shown in its group entry (Table 1 of ch.13). -/
def State.collPhase (s : State) (d g p : Nat) : State :=
  (s.modColl d g (fun c => { c with phase := p, since := if p = 3 then c.since else s.time })).setGroup d g
    (putBits (s.group d g) 508 507 p)

/-- The collective as its member sees it. -/
def State.collJob (s : State) (d g : Nat) (w : BitVec 256) : CollJob :=
  let e := s.group d g
  let k := s.collCounts d (cOp w) (gSize e) (cScratch w)
  { size := gSize e, rank := gRank e, desc := w, sendC := k.1, recvC := k.2 }

/-! ### The signalling tree (R369, R384) -/

/-- Ranks that take part: all, less those whose module is out of the module's view. -/
def State.survivors (s : State) (d g : Nat) : List Nat :=
  let w := s.group d g
  (List.range (gSize w)).filter (fun r => !s.flt.out.contains (memberModule (s.member d w r)))

/-- Parent and children of this member in the tree over the ranks that take part. -/
def State.treeUpOf (s : State) (d g : Nat) : Option Nat :=
  let l := s.survivors d g
  match l.findIdx? (fun r => r == gRank (s.group d g)) with
  | some v => if v = 0 then none else l[treeParent v]?
  | none => none
def State.treeKidsOf (s : State) (d g : Nat) : List Nat :=
  let l := s.survivors d g
  match l.findIdx? (fun r => r == gRank (s.group d g)) with
  | some v => (treeKids l.length v).filterMap (fun j => l[v + 2 ^ j]?)
  | none => []

/-- Some member of the group is out. -/
def State.groupBroken (s : State) (d g : Nat) : Bool := (s.survivors d g).length != gSize (s.group d g)

/-! ### Signal frames (R370, Table 4) -/

def cfGroup (f : BitVec 256) : Nat := bits f 191 184
def cfSeq (f : BitVec 256) : Nat := bits f 183 168
def cfSrcDie (f : BitVec 256) : Nat := bits f 195 192

/-- A collective signal frame to (module, die): kind, group, SEQ, body bits [127:0]. -/
def collFrame (kind m k d g seq body : Nat) : BitVec 256 :=
  BitVec.ofNat 256 (field 248 kind + field 216 m + field 196 k + field 192 d + field 184 g + field 168 (seq % 65536) + body)

/-- A frame sent to a rank of the group. -/
def State.frameTo (s : State) (d g rank kind seq body : Nat) : State :=
  let e := s.member d (s.group d g) rank
  s.sendFlag d (collFrame kind (memberModule e) (memberDie e) d g seq body)

/-- The rank of the sender of a frame; none where it is no member. -/
def State.senderRank (s : State) (d g : Nat) (f : BitVec 256) : Option Nat :=
  let w := s.group d g
  (List.range (gSize w)).find? (fun r => let e := s.member d w r; memberModule e == fSrc f && memberDie e == cfSrcDie f)

/-- How far a 16-bit SEQ lies behind what is expected: true where it is past. -/
def seqPast (seq want : Nat) : Bool := decide (32768 ≤ (seq + 65536 - want % 65536) % 65536)

/-! ### The end of a collective (R382 to R385) -/

/-- The counter of Table 9 for a status. -/
def State.collCount (s : State) (st : Nat) : State :=
  let s1 := s.bump 0x5300 4
  match st with
  | 0x60 => s1.bump 0x5300 5
  | 0x64 => s1.bump 0x5300 6
  | 0x62 | 0x63 => s1.bump 0x5300 7
  | 0x61 => s1.bump 0x5300 8
  | _ => s1

/-- LAST_STATUS, LAST_CAUSE, SEQ and PHASE of the group entry at the end of a collective. -/
def collClose (w : BitVec 512) (st cause : Nat) : BitVec 512 :=
  let w1 := putBits (putBits (putBits w 508 507 0) 223 216 st) 255 224 (bits w 255 224 + 1)
  if st = 0x60 then putBits w1 215 208 (if cause = 0 then 0x01 else cause) else w1

/-- The whole tiles of DST that a collective has written in the local store of the core that issued it (R143). -/
def State.collTiles (s : State) (d g : Nat) (c : Coll) : List Nat :=
  match s.ownAddr d (cDst c.desc) with
  | some a => match regionOf a with
    | .store k off => if k = c.core then spanTiles [(off, off + (s.collJob d g c.desc).dstBytes)] else []
    | _ => []
  | none => []

/-- A collective ends with its final verdict: its command may complete, and the verdict is kept (R383, R385). -/
def State.collEnd (s : State) (d g st : Nat) : State :=
  match s.coll d g with
  | none => s
  | some c =>
    let s1 := ((s.setColl d g none).setGroup d g (collClose (s.group d g) st c.cause)).modCol d (fun x => { x with
      buf := x.buf.filter (fun k => k.flow.toNat != g || k.pseq.toNat != c.seq.toNat % 4096)
      kept := (x.kept.filter (fun k => k.g != g || k.seq != c.seq)) ++ [{ g := g, seq := c.seq, status := st, at_ := s.time }] })
    let s2 := s1.unawait d c.core c.num (.group g)
    (if st = 0 then s2.modRun d c.core 2 c.num (fun r => { r with tiles := s.collTiles d g c })
     else s2.failRun d c.core 2 c.num st).collCount st

/-- The kept verdict of a SEQ (16 bits). -/
def State.keptVerdict (s : State) (d g seq : Nat) : Option Kept :=
  (s.die d).col.kept.reverse.find? (fun k => k.g == g && k.seq.toNat % 65536 == seq % 65536)

/-! ### Verdicts (R371, R383) -/

/-- Body of a VERDICT. -/
def verdictBody (st stage : Nat) (tgo : BitVec 64) : Nat := field 120 st + field 118 stage + tgo.toNat

/-- A verdict sent to every child, to be sent again until it is acknowledged. -/
def State.passDown (s : State) (d g : Nat) (seq : BitVec 32) (st stage : Nat) (tgo : BitVec 64) : State :=
  (s.treeKidsOf d g).foldl (fun s r =>
    let e := s.member d (s.group d g) r
    let v : VerdictOut := { g := g, seq := seq, stage := stage, status := st, tgo := tgo, m := memberModule e, d := memberDie e, at_ := s.time }
    (s.modCol d (fun x => { x with verdicts := x.verdicts.filter (fun y => y.g != g || y.m != v.m || y.d != v.d) ++ [v] })).frameTo d g r
      0x24 seq.toNat (verdictBody st stage tgo)) s

/-! ### Reading and writing data (R381) -/

/-- Tiles of the source verified once each, where TILED; else uncorrectable data count as a bad source (R186). Answers the bytes
and whether they are good. -/
def State.collRead (s : State) (d g a n : Nat) : List Byte × Bool × State :=
  match s.coll d g with
  | none => ([], false, s)
  | some c =>
    if cTiled c.desc then
      let s1 := (tilesOf a n).foldl (fun s t =>
        match s.coll d g with
        | some c => if c.checked.any (fun x => x.1 == t) then s
          else match s.verify d t c.level.toNat with
            | some r => (s.verifyFailed d t c.core r).modColl d g (fun c => { c with checked := c.checked ++ [(t, false)] })
            | none => s.modColl d g (fun c => { c with checked := c.checked ++ [(t, true)] })
        | none => s) s
      let bad := match s1.coll d g with | some c => (tilesOf a n).any (fun t => c.checked.contains (t, false)) | none => true
      (s1.bytes d a n, !bad, s1)
    else if s.badIn d a n then
      (s.bytes d a n, false, (tilesOf a n).foldl (fun s t => if s.badIn d t 4096 then s.poisonRead d t c.core else s) s)
    else (s.bytes d a n, true, s)

/-- Bytes put into DST: raw, or into tiles that stay OPEN until they are tagged (R180, R381). -/
def State.collPut (s : State) (d : Nat) (tiled : Bool) (a : Nat) (bs : List Byte) : State :=
  if tiled then (tilesOf a bs.length).foldl (fun s t => s.setTileSt d t .open) ((s.freshen d a bs.length).putBytes d a bs)
  else (s.storeBytes d a bs).2

/-- CHUNK_REDO recorded as the local outcome and logged (R381). -/
def State.collRedo (s : State) (d g detail : Nat) : State :=
  (s.modColl d g (fun c => { c with outcome := worst c.outcome 0x64 })).raise (mkEvent 0x12 sevRecovered d g 0x64 detail)

/-- A range of DST, in bytes, is marked as covered by a bad chunk: space 0 for partials, 1 for DST. -/
def State.collBad (s : State) (d g space lo hi : Nat) : State := s.modColl d g (fun c => { c with bad := c.bad ++ [(space, lo, hi)] })

/-- Some byte of a range is covered by a bad chunk. -/
def Coll.isBad (c : Coll) (space lo hi : Nat) : Bool := c.bad.any (fun b => b.1 == space && decide (b.2.1 < hi) && decide (lo < b.2.2))

/-- The CRC-32C of what now stands at a is noted (R379, R381). -/
def State.noteSum (s : State) (d g a : Nat) (bs : List Byte) (crc : Nat) : State :=
  s.modColl d g (fun c => { c with sums := c.sums.filter (fun x => !rangesMeet x.1 x.2.1 a bs.length) ++ [(a, bs.length, crc)] })

/-- The CRC that a chunk at a came with, where this member has landed it and only sends it on (R379); else that of its bytes. -/
def Coll.sumAt (c : Coll) (a : Nat) (bs : List Byte) : Nat :=
  match c.sums.find? (fun x => x.1 == a && x.2.1 == bs.length) with
  | some x => x.2.2
  | none => crc32c bs

/-- A partial written to SCRATCH with its sum. -/
def State.putPartial (s : State) (d g a : Nat) (bs : List Byte) : State :=
  (s.storeBytes d a bs).2.noteSum d g a bs (crc32c bs)

/-- What SCRATCH holds in a range still fits its sums (R381). -/
def State.partialOk (s : State) (d g a n : Nat) : Bool :=
  match s.coll d g with
  | some c => c.sums.all (fun x => !rangesMeet x.1 x.2.1 a n || crc32c (s.bytes d x.1 x.2.1) == x.2.2) && !s.badIn d a n
  | none => false

/-- Elements `lo` to `lo + n - 1` as this member holds them before a step, in the carry format: from SCRATCH after an earlier
addition, else its own from SRC. Answers the codes and whether they are good. -/
def State.partials (s : State) (d g : Nat) (j : CollJob) (before lo n : Nat) : List Nat × Bool × State :=
  let src := (s.ownAddr d (cSrc j.desc)).getD 0
  let p := s.collRead d g (src + j.b * lo) (j.b * n)
  let own := (unitsOf j.b p.1).map j.toCarry
  let each (i : Nat) : Nat × Bool × Bool :=
    match j.lastAdd before (lo + i) with
    | some h =>
      let a := j.partialAt h.step h.lo (lo + i)
      (ofBytes (s.bytes d a j.bc), s.partialOk d g a j.bc, false)
    | none => (own.getD i 0, true, true)
  let all := (List.range n).map each
  let fromSrc := all.any (fun x => x.2.2)
  (all.map (fun x => x.1), all.all (fun x => x.2.1) && (!fromSrc || p.2.1), if fromSrc then p.2.2 else s)

/-- Completed elements rounded to TYPE and landed in DST (R48). `at_` is their first byte in DST. -/
def State.landElems (s : State) (d : Nat) (j : CollJob) (at_ : Nat) (codes : List Nat) : State :=
  let dst := (s.ownAddr d (cDst j.desc)).getD 0
  s.collPut d (cTiled j.desc) (dst + at_) (codes.flatMap (fun c => toBytes j.b (j.ofCarry c)))

/-- First byte in DST of element e: REDUCE_SCATTER keeps this member's block alone (Table 3 of ch.13). -/
def CollJob.elemAt (j : CollJob) (e : Nat) : Nat := if cOp j.desc = 1 then (e - segLo j.n j.size j.rank) * j.b else e * j.b

/-! ### Chunks (R379, R381) -/

/-- Sends of a step may go: at once, or in ROUNDS once the round has begun (R376). -/
def Coll.mayGo (c : Coll) (h : Hop) : Bool := cAlgo c.desc != 2 || decide (h.step < c.rounds)

/-- Traffic class of a chunk (R376, Table 2). -/
def Coll.classOf (c : Coll) (h : Hop) : Nat := if cAlgo c.desc = 2 ∧ c.late.contains h.step then 2 else cClass c.desc

/-- The data of a chunk to be sent, whether it is good, and the state after it has been read. -/
def State.chunkData (s : State) (d g : Nat) (j : CollJob) (c : Chunk) : List Byte × Bool × State :=
  let unit := match s.coll d g with | some x => x.core | none => 0xFF
  match c.hop.kind with
  | 0 =>
    let p := s.partials d g j c.hop.step (c.hop.lo + c.off / j.bc) (c.len / j.bc)
    (p.1.flatMap (toBytes j.bc), p.2.1, p.2.2)
  | 1 =>
    let a := (s.ownAddr d (cDst j.desc)).getD 0 + c.hop.lo + c.off
    (s.bytes d a c.len, !s.badIn d a c.len,
      (tilesOf a c.len).foldl (fun s t => if s.badIn d t 4096 ∧ s.badIn d a c.len then s.poisonRead d t unit else s) s)
  | _ => s.collRead d g ((s.ownAddr d (cSrc j.desc)).getD 0 + c.hop.lo + c.off) c.len

/-- A COLL_DATA packet. -/
def State.chunkPacket (s : State) (d g : Nat) (co : Coll) (c : Chunk) (bs : List Byte) (poison : Bool) : Packet :=
  let e := s.member d (s.group d g) c.hop.peer
  let lines := ceilDiv bs.length 128
  let crc := if c.hop.kind = 1 then co.sumAt ((s.ownAddr d (cDst co.desc)).getD 0 + c.hop.lo + c.off) bs else crc32c bs
  { s.header d 0x20 (co.classOf c.hop) (memberModule e) (memberDie e) c.off lines with
    flow := BitVec.ofNat 8 g, pseq := BitVec.ofNat 12 co.seq.toNat
    opx := BitVec.ofNat 64 (field 32 crc + field 31 poison.toNat + field 24 ((bs.length - 1) % 128) + c.hop.step)
    payload := bs ++ List.replicate (128 * lines - bs.length) 0 }

/-- A chunk sent: kept until it is acknowledged. -/
def State.sendChunk (s : State) (d g : Nat) (j : CollJob) (c : Chunk) : State :=
  let p := s.chunkData d g j c
  match p.2.2.coll d g with
  | none => s
  | some co =>
    let sp := j.span c
    let spoilt := co.isBad (if c.hop.kind = 0 then 0 else 1) sp.1 sp.2 && c.hop.kind != 2
    let s1 := if p.2.1 || spoilt then p.2.2 else (p.2.2.collRedo d g c.off).collBad d g (if c.hop.kind = 0 then 0 else 1) sp.1 sp.2
    let k := s1.chunkPacket d g co c p.1 (spoilt || !p.2.1)
    (s1.modColl d g (fun x => { x with put := x.put ++ [(c.hop.step, c.off)], flight := x.flight ++ [{ pkt := k, at_ := s.time }] })).originate d k

/-- Every chunk that can go now is sent, in the order of steps. -/
def State.sendReady (s : State) (d g : Nat) : State :=
  match s.coll d g with
  | none => s
  | some c0 =>
    let j := s.collJob d g c0.desc
    (j.plan.1.flatMap j.chunks).foldl (fun s c =>
      match s.coll d g with
      | some co => if co.mayGo c.hop && !co.put.contains (c.hop.step, c.off) && j.ready co.got c then s.sendChunk d g j c else s
      | none => s) s

/-- STEP, POISON, valid bytes and CRC of a chunk. -/
def chunkStep (k : Packet) : Nat := bits k.opx 15 0
def chunkPoison (k : Packet) : Bool := bit k.opx 31
def chunkBytes (k : Packet) : List Byte := k.payload.take (128 * (k.lines.toNat - 1) + bits k.opx 30 24 + 1)
def chunkGood (k : Packet) : Bool := crc32c (chunkBytes k) == bits k.opx 63 32

/-- A chunk that is bad: nothing lands, and what it covers is marked. -/
def State.takeBad (s : State) (d g : Nat) (j : CollJob) (c : Chunk) : State :=
  let sp := j.span c
  let s1 := (s.collRedo d g c.off).collBad d g (if c.hop.kind = 0 then 0 else 1) sp.1 sp.2
  if c.hop.kind = 0 ∧ c.hop.last then s1.collBad d g 1 sp.1 sp.2 else s1

/-- An addition: partials of this member and those received, to SCRATCH or, completed, to DST. -/
def State.takeSum (s : State) (d g : Nat) (j : CollJob) (c : Chunk) (bs : List Byte) : State :=
  let lo := c.hop.lo + c.off / j.bc
  let p := s.partials d g j c.hop.step lo (c.len / j.bc)
  let sp := j.span c
  let spoilt := match p.2.2.coll d g with | some co => co.isBad 0 sp.1 sp.2 || co.residue | none => true
  if !p.2.1 || spoilt then (p.2.2.takeBad d g j c).modColl d g (fun x => { x with residue := false })
  else
    let sums := ((unitsOf j.bc bs).zip p.1).map (fun x => j.meet x.1 x.2)
    if c.hop.last then p.2.2.landElems d j (j.elemAt lo) sums
    else p.2.2.putPartial d g (j.partialAt c.hop.step c.hop.lo lo) (sums.flatMap (toBytes j.bc))

/-- A chunk received is worked on (R381). -/
def State.takeChunk (s : State) (d g : Nat) (j : CollJob) (c : Chunk) (k : Packet) : State :=
  let bs := chunkBytes k
  let s1 :=
    if chunkPoison k || !chunkGood k || bs.length != c.len then s.takeBad d g j c
    else if c.hop.kind = 0 then s.takeSum d g j c bs
    else
      let a := (s.ownAddr d (cDst j.desc)).getD 0 + c.hop.lo + c.off
      (s.collPut d (cTiled j.desc) a bs).noteSum d g a bs (bits k.opx 63 32)
  s1.modColl d g (fun x => { x with got := x.got ++ [(c.hop.step, c.off)] })

/-- The chunk of the plan that a packet carries. -/
def CollJob.chunkOf (j : CollJob) (k : Packet) : Option Chunk :=
  (j.plan.2.filter (fun h => h.step == chunkStep k)).findSome? (fun h => (j.chunks h).find? (fun c => c.off == k.addr.toNat))

/-- A packet in the buffer belongs to the collective. -/
def Coll.owns (c : Coll) (g : Nat) (k : Packet) : Bool := k.flow.toNat == g && k.pseq.toNat == c.seq.toNat % 4096

/-- Chunks of the buffer are worked on while one can be, and chunks that are ready are sent. -/
def State.collPump (d g : Nat) : Nat → State → State
  | 0, s => s.sendReady d g
  | fuel + 1, s =>
    let s1 := s.sendReady d g
    match s1.coll d g with
    | none => s1
    | some co =>
      if co.phase ≠ 2 then s1
      else
        let j := s1.collJob d g co.desc
        let pick := (s1.die d).col.buf.findSome? (fun k =>
          if co.owns g k then (j.chunkOf k).bind (fun c => if j.mayTake co.got c then some (k, c) else none) else none)
        match pick with
        | none => s1
        | some (k, c) => State.collPump d g fuel ((s1.modCol d (fun x => { x with buf := x.buf.erase k })).takeChunk d g j c k)

/-- Tags of the tiles of DST, written where no chunk of the data phase was bad (R381, R180). -/
def State.tagDst (s : State) (d g : Nat) (j : CollJob) : State :=
  match s.coll d g with
  | some co =>
    if cTiled j.desc ∧ co.outcome = 0 then
      let dst := (s.ownAddr d (cDst j.desc)).getD 0
      (tilesOf dst j.dstBytes).foldl (fun s t =>
        let bs := s.bytes d t 4096
        s.putTile d t bs (tagWord (co.num.toNat % 2 ^ 16) (cType j.desc) (crc32c bs)) .valid) s
    else s
  | none => s

/-! ### The vote (R383, R384) -/

/-- Votes are being gathered: the data phase is over, or a member has been lost. -/
def Coll.voting (c : Coll) : Bool := c.phase == 3 || c.broken

/-- The frame of a kind from a rank among those that came. -/
def State.huddleOf (s : State) (d g : Nat) (fs : List (BitVec 256)) (rank kind : Nat) : Option (BitVec 256) :=
  fs.find? (fun f => fKind f == kind && s.senderRank d g f == some rank)

/-- The vote that a VOTE frame brings from a rank (Table 4 of ch.13). -/
def voteOf (f : BitVec 256) (r : Nat) : Vote := { rank := r, status := bits f 127 120, held := bit f 119, broken := bit f 118 }

/-- A child has voted, or has stated BROKEN in its huddle frames. -/
def State.kidVoted (s : State) (d g : Nat) (c : Coll) (k : Nat) : Bool :=
  c.votes.any (fun v => v.rank == k) || ((s.huddleOf d g c.frames k 0x20).map (fun f => bit f 22)).getD false

/-- A verdict passed down and acted on. -/
def State.verdictFinal (s : State) (d g st stage : Nat) (tgo : BitVec 64) : State :=
  match s.coll d g with
  | some c => (s.passDown d g c.seq st stage tgo).collEnd d g st
  | none => s

/-- Once every child has voted, or `force` is set, the member votes to its parent or, as root, decides (R383, R384). -/
def State.votePump (s : State) (d g : Nat) (force : Bool := false) : State :=
  match s.coll d g with
  | none => s
  | some c =>
    let kids := s.treeKidsOf d g
    let mine := c.votes.filter (fun v => kids.contains v.rank)
    let held := mine.find? (fun v => v.held)
    if !c.voting || c.voted || !(force || kids.all (s.kidVoted d g c)) then s
    else
      let base := if c.broken then 0x61 else c.outcome
      let all := mine.foldl (fun st v => worst st v.status) base
      let broken := c.broken || mine.any (fun v => v.broken)
      match s.treeUpOf d g with
      | some p =>
        let st := match held with | some v => v.status | none => all
        (s.modColl d g (fun x => { x with voted := true })).frameTo d g p 0x23 c.seq.toNat
          (field 120 st + field 119 held.isSome.toNat + field 118 broken.toNat)
      | none => s.verdictFinal d g (match held with | some v => v.status | none => if broken then 0x61 else all) 2 0

/-- The data phase ends; the vote begins. -/
def State.dataEnd (s : State) (d g : Nat) : State := (s.collPhase d g 3).votePump d g

/-- The data phase is complete when every chunk has come, gone and been acknowledged. -/
def State.collCheck (s : State) (d g : Nat) : State :=
  match s.coll d g with
  | none => s
  | some co =>
    let j := s.collJob d g co.desc
    let all (hs : List Hop) (l : List (Nat × Nat)) : Bool := (hs.flatMap j.chunks).all (fun c => l.contains (c.hop.step, c.off))
    if co.phase = 2 ∧ !co.broken ∧ co.flight.isEmpty ∧ all j.plan.1 co.put ∧ all j.plan.2 co.got then (s.tagDst d g j).dataEnd d g
    else s

/-- The data phase goes on as far as it can. -/
def State.collRun (s : State) (d g : Nat) : State := (State.collPump d g ((s.die d).col.buf.length + 1) s).collCheck d g

/-- GO is held: own blocks are copied, elements that no other member adds to are completed, and data begin (R371, R374). -/
def State.dataBegin (s : State) (d g : Nat) (tgo : BitVec 64) : State :=
  let s1 := (s.collPhase d g 2).modColl d g (fun c => { c with tgo := tgo })
  match s1.coll d g with
  | none => s1
  | some co =>
    let j := s1.collJob d g co.desc
    let src := (s1.ownAddr d (cSrc co.desc)).getD 0
    let dst := (s1.ownAddr d (cDst co.desc)).getD 0
    let s2 := j.copies.foldl (fun s c =>
      if src + c.1 = dst + c.2.1 ∧ !cTiled co.desc then s
      else
        let p := s.collRead d g (src + c.1) c.2.2
        if p.2.1 then p.2.2.collPut d (cTiled co.desc) (dst + c.2.1) p.1
        else (p.2.2.collRedo d g c.1).collBad d g 1 c.2.1 (c.2.1 + c.2.2)) s1
    let s3 := if j.reduces ∧ j.size = 1 then
        let p := s2.partials d g j 0 0 j.n
        if p.2.1 then p.2.2.landElems d j 0 p.1 else p.2.2.collRedo d g 0
      else s2
    s3.collRun d g

/-! ### The huddle (R369 to R372) -/

/-- Body of HUDDLE_A as this member states it. -/
def Coll.bodyA (c : Coll) (mismatch timeout broken : Bool) : Nat :=
  field 57 (bits c.desc 127 57) + field 25 c.sched.toNat + field 24 mismatch.toNat + field 23 timeout.toNat + field 22 broken.toNat

/-- A child's frames differ from what this member holds (R371). -/
def Coll.differs (c : Coll) (digest : Nat) (a b : BitVec 256) : Bool :=
  bits a 127 57 != bits c.desc 127 57 || cfSeq a != c.seq.toNat % 65536 || bits a 56 25 != c.sched.toNat
  || bits b 127 64 != c.sig.toNat || bits b 63 0 != digest || bit a 24

/-- The huddle verdict of the root (R371); 0 is GO. -/
def huddleVerdict (broken mismatch timeout : Bool) (balance : BitVec 64) : Nat :=
  if broken then 0x61 else if mismatch || balance != 0 then 0x60 else if timeout then 0x62 else 0

/-- The root acts on its verdict. -/
def State.huddleDecide (s : State) (d g st : Nat) : State :=
  match s.coll d g with
  | none => s
  | some c =>
    let t := s.localGt d
    if st = 0 then (s.passDown d g c.seq 0 1 t).dataBegin d g t else s.verdictFinal d g st 1 t

/-- Once every child's frames are in, or on a timeout, the member combines and forwards them, or decides (R371, R382). BROKEN is
set where the module's view has a member out, so that a group that has lost a member ends with MEMBER_OUT at its huddle; a
child that lost the member while it waited has voted instead (R384). -/
def State.huddlePump (s : State) (d g : Nat) (timeout : Bool := false) : State :=
  match s.coll d g with
  | none => s
  | some c =>
    let kids := s.treeKidsOf d g
    let get (k kind : Nat) : Option (BitVec 256) := s.huddleOf d g c.frames k kind
    let here := kids.filter (fun k => (get k 0x20).isSome && (get k 0x21).isSome && (get k 0x22).isSome)
    let mine := c.votes.filter (fun v => kids.contains v.rank)
    if c.phase ≠ 1 ∨ c.up ∨ c.broken ∨ (!kids.all (fun k => here.contains k || mine.any (fun v => v.rank == k)) ∧ !timeout) then s
    else if mine.any (fun v => v.held) then (s.modColl d g (fun x => { x with broken := true })).votePump d g timeout
    else
      let digest := gDigest (s.group d g)
      let fa (k : Nat) : BitVec 256 := (get k 0x20).getD 0
      let differ := here.any (fun k => c.differs digest (fa k) ((get k 0x21).getD 0))
      let mismatch := differ || c.cause != 0
      let late := timeout || here.any (fun k => bit (fa k) 23)
      let broken := s.groupBroken d g || here.any (fun k => bit (fa k) 22) || mine.any (fun v => v.broken)
      let balance := here.foldl (fun b k => b + BitVec.ofNat 64 (bits ((get k 0x22).getD 0) 63 0)) c.balance
      let s1 := s.modColl d g (fun x => { x with up := true })
      match s.treeUpOf d g with
      | some p =>
        ((s1.frameTo d g p 0x20 c.seq.toNat (c.bodyA mismatch late broken)).frameTo d g p 0x21 c.seq.toNat
          (field 64 c.sig.toNat + digest)).frameTo d g p 0x22 c.seq.toNat balance.toNat
      | none =>
        let s2 := if !mismatch && balance != 0 then s1.modColl d g (fun x => { x with cause := 0x08 }) else s1
        s2.huddleDecide d g (huddleVerdict broken mismatch late balance)

/-- Frames that wait for group g and may belong to SEQ `want` or a later one, and votes for it; older ones are dropped. -/
def State.huddleTake (s : State) (d g want : Nat) : State :=
  let mine := (s.die d).col.early.filter (fun f => cfGroup f == g && !seqPast (cfSeq f) want)
  let rest := (s.die d).col.early.filter (fun f => cfGroup f != g)
  let votes := mine.filterMap (fun f => if fKind f == 0x23 && cfSeq f == want % 65536 then (s.senderRank d g f).map (voteOf f) else none)
  (s.modCol d (fun x => { x with early := rest })).modColl d g (fun c => { c with
    frames := mine.filter (fun f => fKind f != 0x23), votes := votes })

/-! ### Issue (R365) -/

/-- The effect of MV.COLL on a group that is valid and idle. -/
def State.collStart (s : State) (d c : Nat) (r : Run) : State :=
  let g := bits r.word 95 88
  let e := s.group d g
  let w := s.td d c (bits r.word 87 82)
  if !gValid e then s.failRun d c 2 r.num 0x65
  else
    let j := s.collJob d g w
    let co : Coll := { core := c, num := r.num, seq := gSeq e, desc := w, sig := r.word.setWidth 64, level := r.level, since := s.time
                       cause := s.collCause d j, sched := s.collSched d w, balance := j.balance }
    let s1 := ((s.setColl d g (some co)).collPhase d g 1).modRun d c 2 r.num (fun r => { r with awaits := [.group g] })
    match s1.keptVerdict d g co.seq.toNat with
    | some v => s1.collEnd d g v.status
    | none => (s1.huddleTake d g co.seq.toNat).huddlePump d g

/-- MV_COLL. -/
def execMvColl (die : Fin 16) (core : Fin 32) (s : State) : Host.Outcome State Fault Refusal :=
  .next (if s.collWaits die core then s else s.rowOp die core 2 0x45 (fun s r => s.collStart die core r))

/-! ### Frames received -/

/-- A routed frame that stands at a die is taken where the die runs; else the die is asked to wake (R450). -/
def State.takeRouted (s : State) (d : Nat) (f : BitVec 256) (eff : State → State) : State :=
  if !s.fab.frames.contains (d, f) then s
  else if s.dieRuns d then eff { s with fab := { s.fab with frames := s.fab.frames.erase (d, f) } }
  else s.askWake d

/-- A huddle frame (R371): for the collective in execution, or kept for the next; one of a past SEQ is dropped. -/
def State.huddleIn (s : State) (d : Nat) (f : BitVec 256) : State :=
  let g := cfGroup f
  match s.coll d g with
  | some c =>
    if c.phase = 1 ∧ (!c.up ∨ c.broken) ∧ !seqPast (cfSeq f) c.seq.toNat then
      ((s.modColl d g (fun c => { c with frames := c.frames ++ [f] })).huddlePump d g).votePump d g
    else if seqPast (cfSeq f) (c.seq.toNat + 1) then s
    else s.modCol d (fun x => { x with early := x.early ++ [f] })
  | none =>
    if gValid (s.group d g) ∧ seqPast (cfSeq f) (gSeq (s.group d g)).toNat then s
    else s.modCol d (fun x => { x with early := x.early ++ [f] })

/-- HUDDLE_FRAME_RECEIVE. -/
def execHuddleFrameReceive (die : Fin 16) (frame : BitVec 256) (s : State) : Host.Outcome State Fault Refusal :=
  .next (if 0x20 ≤ fKind frame ∧ fKind frame ≤ 0x22 then s.takeRouted die frame (fun s => s.huddleIn die frame) else s)

/-- The acknowledgement of a verdict, to its sender. -/
def State.verdictAck (s : State) (d : Nat) (f : BitVec 256) : State :=
  s.sendFlag d (collFrame 0x25 (fSrc f) (cfSrcDie f) d (cfGroup f) (cfSeq f) 0)

/-- A verdict (R371, R382, R383): acknowledged, passed down and acted on; before issue a final one is kept. -/
def State.verdictIn (s : State) (d : Nat) (f : BitVec 256) : State :=
  let g := cfGroup f
  let st := bits f 127 120
  let stage := bits f 119 118
  let tgo : BitVec 64 := BitVec.ofNat 64 (bits f 63 0)
  let s1 := s.verdictAck d f
  match s1.coll d g with
  | some c =>
    if cfSeq f ≠ c.seq.toNat % 65536 then s1
    else if stage = 1 ∧ st = 0 then
      if c.phase = 1 ∧ !c.broken then (s1.passDown d g c.seq 0 1 tgo).dataBegin d g tgo else s1
    else s1.verdictFinal d g st stage tgo
  | none =>
    let w := s1.group d g
    if !gValid w ∨ cfSeq f ≠ (gSeq w).toNat % 65536 ∨ (stage = 1 ∧ st = 0) ∨ (s1.keptVerdict d g (gSeq w).toNat).isSome then s1
    else (s1.passDown d g (gSeq w) st stage tgo).modCol d (fun x => { x with
      kept := x.kept ++ [{ g := g, seq := gSeq w, status := st, at_ := s.time }] })

/-- VERDICT_RECEIVE. -/
def execVerdictReceive (die : Fin 16) (frame : BitVec 256) (s : State) : Host.Outcome State Fault Refusal :=
  .next (if fKind frame = 0x24 then s.takeRouted die frame (fun s => s.verdictIn die frame) else s)

/-- VERDICT_ACK_RECEIVE: the verdict to that child is sent no more (R383). -/
def execVerdictAckReceive (die : Fin 16) (frame : BitVec 256) (s : State) : Host.Outcome State Fault Refusal :=
  .next (if fKind frame = 0x25 then s.takeRouted die frame (fun s => s.modCol die (fun x => { x with
    verdicts := x.verdicts.filter (fun v => !(v.g == cfGroup frame && v.seq.toNat % 65536 == cfSeq frame && v.m == fSrc frame
      && v.d == cfSrcDie frame)) })) else s)

/-- VERDICT_RESEND: verdicts of the group not acknowledged for 2 µs are sent again (R383). -/
def execVerdictResend (die : Fin 16) (g : Fin 256) (s : State) : Host.Outcome State Fault Refusal :=
  let due (v : VerdictOut) : Bool := v.g == g.val && decide (v.at_ + 2 * tickUs ≤ s.time)
  let s1 := s.modCol die (fun x => { x with verdicts := x.verdicts.map (fun v => if due v then { v with at_ := s.time } else v) })
  .next (((s.die die).col.verdicts.filter due).foldl (fun s v =>
    s.sendFlag die (collFrame 0x24 v.m v.d die v.g v.seq.toNat (verdictBody v.status v.stage v.tgo))) s1)

/-- A vote (R383 to R385): counted, or answered from a kept verdict; one for a collective that is still to be issued here waits. -/
def State.voteIn (s : State) (d : Nat) (f : BitVec 256) : State :=
  let g := cfGroup f
  let answer (k : Kept) : State :=
    s.sendFlag d (collFrame 0x24 (fSrc f) (cfSrcDie f) d g (cfSeq f) (verdictBody k.status 2 0))
  let wait : State := s.modCol d (fun x => { x with early := x.early ++ [f] })
  match s.coll d g with
  | some c =>
    if cfSeq f = c.seq.toNat % 65536 then
      match s.senderRank d g f with
      | some r =>
        ((s.modColl d g (fun c => { c with votes := c.votes.filter (fun x => x.rank != r) ++ [voteOf f r] })).votePump d g).huddlePump d g
      | none => s
    else match s.keptVerdict d g (cfSeq f) with
      | some k => answer k
      | none => if seqPast (cfSeq f) (c.seq.toNat + 1) then s else wait
  | none => match s.keptVerdict d g (cfSeq f) with
    | some k => answer k
    | none => if !gValid (s.group d g) || seqPast (cfSeq f) (gSeq (s.group d g)).toNat then s else wait

/-- VOTE_RECEIVE. -/
def execVoteReceive (die : Fin 16) (frame : BitVec 256) (s : State) : Host.Outcome State Fault Refusal :=
  .next (if fKind frame = 0x23 then s.takeRouted die frame (fun s => s.voteIn die frame) else s)

/-! ### Timeouts (R382) -/

/-- T of a group in ticks. -/
def State.collT (s : State) (d g : Nat) : Nat :=
  (if gTimeout (s.group d g) = 0 then s.obj 0x5300 1 else gTimeout (s.group d g)) * tickUs

/-- HUDDLE_TIMEOUT; a member that waits for votes after a loss votes without those that have not come. -/
def execHuddleTimeout (die : Fin 16) (g : Fin 256) (s : State) : Host.Outcome State Fault Refusal :=
  match s.coll die g with
  | some c =>
    .next (if c.phase = 1 ∧ c.since + s.collT die g ≤ s.time then
      (if c.broken then s.votePump die g true else s.huddlePump die g true) else s)
  | none => .next s

/-- DATA_PHASE_TIMEOUT: the member votes TIMEOUT. -/
def execDataPhaseTimeout (die : Fin 16) (g : Fin 256) (s : State) : Host.Outcome State Fault Refusal :=
  match s.coll die g with
  | some c =>
    .next (if c.phase = 2 ∧ c.since + s.collT die g ≤ s.time then
      (s.modColl die g (fun x => { x with outcome := worst x.outcome 0x63 })).dataEnd die g else s)
  | none => .next s

/-! ### Data packets -/

/-- A packet that stands at a die, with a good header, taken where the die runs. -/
def State.takeInner (s : State) (d op : Nat) (k : Packet) (eff : State → State) : State :=
  if k.op.toNat ≠ op ∨ !s.fab.inner.contains (d, k) then s
  else if !s.dieRuns d then s.askWake d
  else
    let s1 : State := { s with fab := { s.fab with inner := s.fab.inner.erase (d, k) } }
    if k.hchk ≠ k.check then (s1.bump 0x5000 8).raise (mkEvent 0x10 sevRecovered d 0xFF 0 k.srcModule.toNat) else eff s1

/-- A COLL_ACK for a chunk (R379). -/
def State.ackChunk (s : State) (d : Nat) (k : Packet) : State :=
  s.originate d { s.header d 0x21 k.cls.toNat k.srcModule.toNat k.srcDie.toNat k.addr.toNat 0 with
    flow := k.flow, pseq := k.pseq, opx := BitVec.ofNat 64 (chunkStep k) }

/-- Bytes staged in the collective buffer. -/
def ColSt.staged (c : ColSt) : Nat := c.buf.foldl (fun n k => n + k.payload.length) 0

/-- A chunk received (R379): duplicates are acknowledged and discarded; others are staged where the 4 MiB buffer has room,
acknowledged, and worked on once GO is held. -/
def State.chunkIn (s : State) (d : Nat) (k : Packet) : State :=
  let g := k.flow.toNat
  let room := decide ((s.die d).col.staged + k.payload.length ≤ 4194304)
  let stage : State := (s.modCol d (fun x => { x with buf := x.buf ++ [k] })).ackChunk d k
  let again := (s.die d).col.buf.any (fun b => b.flow == k.flow && b.pseq == k.pseq && chunkStep b == chunkStep k && b.addr == k.addr)
  let ahead (want : Nat) : Bool := decide ((k.pseq.toNat + 4096 - want % 4096) % 4096 < 2048)
  match s.coll d g with
  | some c =>
    if c.owns g k then
      if c.phase = 3 ∨ c.broken ∨ again ∨ c.got.contains (chunkStep k, k.addr.toNat) then s.ackChunk d k
      else if !room then s
      else if c.phase = 2 then (if (s.collJob d g c.desc).chunkOf k = none then s.ackChunk d k else stage.collRun d g)
      else stage
    else if !ahead (c.seq.toNat + 1) then s.ackChunk d k
    else if again then s.ackChunk d k else if room then stage else s
  | none =>
    if !gValid (s.group d g) then s
    else if !ahead (gSeq (s.group d g)).toNat ∨ again then s.ackChunk d k
    else if room then stage else s

/-- COLL_DATA_RECEIVE. `residue`: the modulo-127 residue check of the reduction unit fails at the first addition that this
chunk sets off (R381). -/
def execCollDataReceive (die : Fin 16) (chunk : CollChunk) (s : State) : Host.Outcome State Fault Refusal :=
  let mark (b : Bool) (s : State) : State := s.modColl die chunk.pkt.flow.toNat (fun c => { c with residue := b })
  .next (s.takeInner die 0x20 chunk.pkt (fun s => mark false ((mark chunk.residue s).chunkIn die chunk.pkt)))

/-- A chunk's acknowledgement stops its resend timer (R379). -/
def State.ackIn (s : State) (d : Nat) (k : Packet) : State :=
  let g := k.flow.toNat
  match s.coll d g with
  | some c =>
    if c.owns g k then
      (s.modColl d g (fun c => { c with flight := c.flight.filter (fun f =>
        !(chunkStep f.pkt == chunkStep k && f.pkt.addr == k.addr && f.pkt.dstModule == k.srcModule && f.pkt.dstDie == k.srcDie)) })).collCheck d g
    else s
  | none => s

/-- COLL_ACK_RECEIVE. -/
def execCollAckReceive (die : Fin 16) (pkt : Packet) (s : State) : Host.Outcome State Fault Refusal :=
  .next (s.takeInner die 0x21 pkt (fun s => s.ackIn die pkt))

/-- CHUNK_RESEND (R379). -/
def execChunkResend (die : Fin 16) (g : Fin 256) (s : State) : Host.Outcome State Fault Refusal :=
  match s.coll die g with
  | some c =>
    let due (f : ColSent) : Bool := decide (f.at_ + s.obj 0x5B00 1 * tickUs ≤ s.time)
    if 2 ≤ c.phase then
      .next ((c.flight.filter due).foldl (fun s f => s.originate die f.pkt)
        (s.modColl die g (fun x => { x with flight := x.flight.map (fun f => if due f then { f with at_ := s.time } else f) })))
    else .next s
  | none => .next s

/-- ROUND_START: the slots of the next round begin; a round whose data are not all there is late (R376). -/
def execRoundStart (die : Fin 16) (g : Fin 256) (s : State) : Host.Outcome State Fault Refusal :=
  match s.coll die g with
  | some c =>
    let j := s.collJob die g c.desc
    let e := s.rs die (cRs c.desc)
    let steps := j.plan.1.foldl (fun n h => max n (h.step + 1)) 0
    let due := rsSlotStart e (j.roundSlot e c.tgo.toNat (s.obj 0x5300 3) c.rounds)
    if c.phase = 2 ∧ cAlgo c.desc = 2 ∧ c.rounds < steps ∧ s.gtRuns die ∧ due ≤ (s.localGt die).toNat then
      let late := (j.plan.1.filter (fun h => h.step == c.rounds)).any (fun h => (j.chunks h).any (fun x => !j.ready c.got x))
      let s1 := s.modColl die g (fun x => { x with rounds := x.rounds + 1, late := if late then x.late ++ [c.rounds] else x.late })
      .next ((if late then s1.bump 0x5100 9 else s1).collRun die g)
    else .next s
  | none => .next s

/-- VERDICT_RETENTION_EXPIRE (R385). -/
def execVerdictRetentionExpire (die : Fin 16) (g : Fin 256) (s : State) : Host.Outcome State Fault Refusal :=
  .next (s.modCol die (fun x => { x with kept := x.kept.filter (fun k => !(k.g == g.val && decide (k.at_ + tickS ≤ s.time)
    && (!gValid (s.group die g) || k.seq != gSeq (s.group die g)))) }))

/-! ### Lost members (R384, R421) -/

/-- The module has adopted a view: collectives whose group has a member out end their data phase and vote over the survivors;
a verdict still kept goes to the new parent as a HELD vote. -/
def State.collLost (s : State) (d : Nat) : State :=
  (List.range 256).foldl (fun s g =>
    if !gValid (s.group d g) || !s.groupBroken d g then s
    else match s.coll d g with
    | some _ =>
      (s.modColl d g (fun x => { x with broken := true, voted := false, votes := x.votes.filter (fun v => v.broken), flight := []
                                        phase := if x.phase = 1 then 1 else 3 })).votePump d g
    | none =>
      match ((s.die d).col.kept.filter (fun k => k.g == g)).getLast?, s.treeUpOf d g with
      | some k, some p => s.frameTo d g p 0x23 k.seq.toNat (field 120 k.status + field 119 1 + field 118 1)
      | _, _ => s) s

/-- A module that is fenced ends its collectives with MEMBER_OUT (R421). -/
def State.collFenced (s : State) (d : Nat) : State :=
  (List.range 256).foldl (fun s g => s.collEnd d g 0x61) s

end Sys2Proof.Machine
end

