-- ==== Sys2Proof/Machine/Stop.lean ====
section
/-! DEFINITION. How parts of the module stop and start: the fence (R421), what a die and a light die lose when they are switched
off (R448, R452, R463, R539), entry into the start-up sequence (R536). -/

namespace Sys2Proof.Machine

/-! ### The fence -/

/-- Every tidy core stops. -/
def State.stopTidy (s : State) : State :=
  { s with cores := s.cores.map (fun kv => (kv.1, { kv.2 with tc := kv.2.tc.stop })) }

/-- Every queue halts in HALT_REQ. -/
def State.haltAll (s : State) : State :=
  (List.range 16).foldl (fun s d => (List.range 32).foldl (fun s c =>
    [0, 1, 2].foldl (fun s e => s.qHalt d c e) s) s) s

/-- The module is fenced with a cause of Table 5 of ch.15 (R421): queues halt, tidy cores stop, collectives end with
MEMBER_OUT, and a FATAL entry is raised at site 0x0E. A fenced module stays as it is. -/
def State.fence (s : State) (cause : Nat) : State :=
  if s.fenced then s
  else
    let s1 := s.haltAll.stopTidy
    let s2 := (List.range 16).foldl (fun s d => s.collFenced d) s1
    (((s2.setObj 0x8000 1 3).setObj 0x8000 2 cause).raise (moduleEvent 0x0E sevFatal cause s.moduleId)).hostEvent 4

/-! ### Memory lost -/

/-- Payload, tags, states and error marks of die d lost where p holds of the local address: it reads as unlisted memory. -/
def State.wipe (s : State) (d : Nat) (p : Nat → Bool) : State :=
  let at_ (k : Nat) : Bool := k / 2 ^ 44 == d && p (k % 2 ^ 44)
  let tile (k : Nat) : Bool := k / 2 ^ 32 == d && p (k % 2 ^ 32 * 4096)
  { s with mem := mapErase at_ s.mem, tiles := mapErase tile s.tiles, badTags := s.badTags.filter (fun k => !tile k)
           badWords := s.badWords.filter (fun w => !at_ (16 * w)), badBursts := s.badBursts.filter (fun w => !at_ (32 * w)) }

/-- A local address lies in HBM, in a stack ID that is kept (R214). -/
def keptSid (kept d a : Nat) : Bool := kept.testBit (4 * d + a / 2 ^ 22 % 4)

/-- A local address lies in HBM. -/
def inHbm (a : Nat) : Bool := decide (a < 0x6000000000)

/-! ### Dies -/

/-- PWR.DIE_STATE shows a die's power state, and the cause of its last wake (Table 11 of ch.16). -/
def State.setPower (s : State) (d p : Nat) : State :=
  let s1 := s.modDie d (fun x => { x with pstate := BitVec.ofNat 8 p })
  s1.setObj 0x2001 (d + 1) (16 * (s.die d).cause + p)

/-- What a die keeps through sleep: the save area of Table 7 of ch.16, and what the steward and the die's record know of it.
All else of the die takes its reset value. -/
def DieSt.saved (x : DieSt) : DieSt :=
  { pstate := x.pstate, mhz := x.mhz, hbmWait := x.hbmWait, factor := x.factor, step := { x.step with wait := none, busy := none, todo := [] },
    rowErrs := x.rowErrs, rowBad := x.rowBad, laneErrs := x.laneErrs, rows := x.rows, lanes := x.lanes, hotStack := x.hotStack,
    coreMap := x.coreMap, retired := x.retired, slotFaults := x.slotFaults, substDue := x.substDue, heldActs := x.heldActs,
    entryAt := x.entryAt, retryAt := x.retryAt, asked := x.asked, cleared := x.cleared, wakeDue := x.wakeDue, cause := x.cause,
    stepAt := x.stepAt, phiAt := x.phiAt, everActive := x.everActive, throtSince := x.throtSince, throt := x.throt, throtAcc := x.throtAcc }

/-- The die of a requester of leave (Table 3 of ch.16). -/
def reqDie : Requester → Option Nat
  | .dieWake d => some d
  | .spareSlot d => some d
  | .matrixEngine d _ => some d
  | .vectorEngine d _ => some d
  | .startTest d => some d
  | .startLanes d => if d.val < 16 then some d else none
  | _ => none

/-- Leave that parts hold or wait for is given back. -/
def State.dropLeave (s : State) (p : Requester → Bool) : State :=
  let s1 : State := { s with pwr := { s.pwr with
    held := s.pwr.held.filter (fun h => !p h.req)
    waiting := s.pwr.waiting.filter (fun h => !p h.req)
    arrivals := s.pwr.arrivals.filter (fun h => !p h.req) } }
  s1.setObj 0x2000 4 s1.pwr.heldWatts

/-- Everything of a die outside its HBM and its save area is lost: cores, local store, instruction memory, the die's tables
and requests (R77, R167, R173, R233, R344, R352, R448). -/
def State.dieLost (s : State) (d : Nat) : State :=
  let s1 := ((s.wipe d (fun a => !inHbm a)).modDie d DieSt.saved).stopBundles d
  { s1 with cores := mapErase (fun k => k / 32 == d) s1.cores
            host := { s1.host with reads := s1.host.reads.filter (fun h => h.die != d) } }

/-- HBM of a die that is not in self-refresh is lost, but for kept stack IDs. -/
def State.hbmLost (s : State) (d kept : Nat) : State := s.wipe d (fun a => inHbm a && !keptSid kept d a)

/-- A die stops with all its rails off: STOPPED, everything on it lost (R438, R463). -/
def State.dieStop (s : State) (d : Nat) : State :=
  let s1 := ((s.dieLost d).hbmLost d 0).setPower d 5
  ((s1.modDie d (fun x => { x with step := { }, heldActs := [], hbmWait := [], asked := none, cleared := none, entryAt := none, wakeAt := none })).dropLeave
    (fun r => reqDie r == some d)).serveOrdered

/-- A bank goes dark: its lasers off, its rings unlocked; the record of its rings stays. -/
def BankSt.off (b : BankSt) : BankSt :=
  let un (m : SMap Ring) : SMap Ring := m.map (fun kv => (kv.1, { kv.2 with locked := false, searching := false, wrong := 0, fails := 0 }))
  { b with st := 0, before := 0, dark := true, tx := un b.tx, rx := un b.rx, failed := [], light := none, partner := none,
           idle := [], deskew := [], since := 0, pulse := 0 }

/-- A light die is switched off: its ports dark, its packets and merge entries lost. -/
def State.lightDark (s : State) (l : Nat) : State :=
  let x := s.light l
  let s1 := s.modLight l (fun _ => { active := x.active, standby := x.standby, refs := x.refs, firsts := x.firsts, record := x.record,
                                      lastTest := x.lastTest })
  let s2 := ((List.range 17).foldl (fun s b => s.modBank (17 * l + b) BankSt.off) s1).stopBundles (16 + l)
  { s2 with ports := mapErase (fun p => p / 16 == l) s2.ports, gt := { s2.gt with ports := mapErase (fun p => p / 16 == l) s2.gt.ports }
            fab := { s2.fab with held := s2.fab.held.filter (fun h => h.light != l), inner := s2.fab.inner.filter (fun k => k.1 != 16 + l)
                                 eff := mapErase (fun p => p / 16 == l) s2.fab.eff } }

/-- Every light die is switched off. -/
def State.allDark (s : State) : State := (List.range 8).foldl State.lightDark s

/-- The light dies are dark, all leave is given back, and no packet or frame stands on the panel (R452). -/
def State.panelDark (s : State) : State :=
  let s1 := s.allDark.dropLeave (fun _ => true)
  { s1 with fab := { s1.fab with held := [], stuck := [], inner := [], frames := [], eff := [], curLight := [] } }

/-- Every compute die and light die is taken down without refusers, none in self-refresh: HBM is lost (R435, R463, R539). -/
def State.allStop (s : State) : State := ((List.range 16).foldl State.dieStop s).panelDark

/-! ### Bundles in training (R279, R280) -/

/-- Roles of the bundles of an edge as training assigns them (Table 4 of ch.10): signal, memory-direct on a mesh edge as many as
LANE.MD_BUNDLES said at the start, fabric. -/
def State.assignRoles (s : State) (e : Nat) : State :=
  let ok := (List.range (bundlesOf e)).filter (s.bundleWorks e)
  let md := if e < 24 then s.lane.md else 0
  (List.range ok.length).foldl (fun s i =>
    let r := if i = 0 then 1 else if i ≤ md then 2 else 3
    s.modBundle e ((ok[i]?).getD 0) (fun b => { b with role := r })) s

/-- Every bundle of an edge that is not in service yet trains from its lane map, none of its lanes failing; roles that stand are kept
(R279, R280). -/
def State.trainEdge (s : State) (e : Nat) : State :=
  let s1 := (List.range (bundlesOf e)).foldl (fun s b => if (s.bundle e b).width = 0 then s.enterWidth e b else s) s
  if (List.range (bundlesOf e)).all (fun b => (s.bundle e b).role == 0) then s1.assignRoles e else s1

/-- A die is powered so that its bundles can train. -/
def State.partUp (s : State) (k : Nat) : Bool := decide (16 ≤ k) || decide ((s.die k).pstate.toNat ≤ 1)

/-- The bundles of a die that wakes retrain with every neighbour that is up (R279). -/
def State.trainDie (s : State) (d : Nat) : State :=
  (List.range 53).foldl (fun s e =>
    let n := edgeEnds e
    if (n.1 == d && s.partUp n.2) || (n.2 == d && s.partUp n.1) then s.trainEdge e else s) s |>.laneBench

/-! ### Start-up (R529, R536) -/

/-- BOOT.STEP. -/
def State.bootStep (s : State) : Nat := s.obj 0xB000 1

/-- A step of the sequence begins; from the rail step on, bundles are to be trained anew (R279, R280). -/
def State.setStep (s : State) (n : Nat) : State :=
  let s1 := (if n = 3 then s.bundlesAnew else s).setObj 0xB000 1 n
  { s1 with boot := { s1.boot with stepAt := s.time } }

/-- READY changes: HOST_EVENT bit 0 (Table 4 of ch.20). -/
def State.leaveReady (s : State) : State := if s.bootStep = 12 then s.hostEvent 1 else s

/-- The number of starts over the module's life, kept in flash. -/
def State.countStart (s : State) : State :=
  let n := (s.obj 0xB000 3 + 1) % 2 ^ 32
  let s1 := s.setObj 0xB000 3 n
  { s1 with flash := { s1.flash with fixed := mapSet 0 s1.flash.fixed (objKey 0xB000 3) n } }

/-- No die has been Active since the start that begins; a stopped one takes part again (R519, R541). -/
def State.diesAnew (s : State) : State :=
  (List.range 16).foldl (fun s d =>
    let s1 := if (s.die d).pstate = 5 then s.setPower d 3 else s
    if (s1.die d).everActive then s1.modDie d (fun x => { x with everActive := false }) else s1) s

/-- The sequence is entered at a step (Table 3 of ch.21). Sessions end at every start (R490). -/
def State.enterStart (s : State) (step cause : Nat) : State :=
  let s1 := s.leaveReady.diesAnew.countStart.setObj 0xB000 2 cause
  let s2 := (s1.setObj 0xB000 4 0).setStep step
  { s2 with boot := { s2.boot with retried := false }, sys := { s2.sys with sessions := [] } }

end Sys2Proof.Machine
end

