-- ==== Sys2Proof/Machine/Governor.lean ====
section
/-! DEFINITION. The power governor (R440 to R443): requests for leave, the priority queues, grants and releases. -/

namespace Sys2Proof.Machine

/-- The place of a requester among the requests of one governor cycle: its source, then the order of Table 3 of ch.16
(R442). -/
def reqOrder : Requester → Nat
  | .dieWake d => 1000 * d.val
  | .spareSlot d => 1000 * d.val + 1
  | .combStart l => 1000 * (16 + l.val) + 2
  | .ringSweep l => 1000 * (16 + l.val) + 3
  | .matrixEngine d c => 1000 * d.val + 100 + c.val
  | .vectorEngine d c => 1000 * d.val + 200 + c.val
  | .startTest d => 1000 * d.val + 300
  | .startLanes d => 1000 * d.val + 301

/-- The leave of a requester in watts (Table 3 of ch.16). -/
def State.reqWatts (s : State) : Requester → Nat
  | .dieWake _ => s.obj 0x2800 4
  | .spareSlot _ => s.obj 0x7000 3
  | .combStart _ => 10
  | .ringSweep _ => 10
  | .matrixEngine _ _ => s.obj 0x7050 3
  | .vectorEngine _ _ => s.obj 0x7060 3
  | .startTest _ => 50
  | .startLanes _ => 10

/-- The priority of a requester (Table 3 of ch.16). -/
def State.reqPrio (s : State) : Requester → Nat
  | .dieWake _ => 0
  | .spareSlot _ => 1
  | .combStart _ => s.obj 0x4900 2
  | .ringSweep _ => s.obj 0x4900 2
  | .matrixEngine _ _ => s.obj 0x7050 1
  | .vectorEngine _ _ => s.obj 0x7060 1
  | .startTest _ => 3
  | .startLanes _ => 3

/-- A requester holds leave, or has a request outstanding. -/
def PwrSt.has (p : PwrSt) (r : Requester) : Bool := p.held.any (fun h => h.req == r)
def PwrSt.asks (p : PwrSt) (r : Requester) : Bool := p.waiting.any (fun h => h.req == r) || p.arrivals.any (fun h => h.req == r)

/-- PWR.LEAVE_WAITING and PWR.LEAVE_HELD follow the queues. -/
def State.leaveObjects (s : State) : State :=
  let w := (s.pwr.arrivals ++ s.pwr.waiting).foldl (fun n h => n + h.watts) 0
  (s.setObj 0x2000 5 (min w 65535)).setObj 0x2000 4 s.pwr.heldWatts

/-- A request for leave reaches the governor: one outstanding for each requester, none while it holds leave (R441, R442). -/
def State.leaveAsk (s : State) (r : Requester) : State :=
  if s.pwr.has r || s.pwr.asks r then s
  else
    let q : LeaveWait := { req := r, watts := s.reqWatts r, prio := s.reqPrio r, since := s.time }
    { s with pwr := { s.pwr with arrivals := s.pwr.arrivals ++ [q] } }.leaveObjects

/-- The core-rail current limit of a die in mA: what R460 sets, less 1/N of its rail's capacity, which is one phase, for each phase
that a rail of the die has lost beyond its two spares (R437, Table 2 of ch.16). -/
def State.limitMa (s : State) (d : Nat) : Nat :=
  let over_ (k ma : Nat) : Nat := ma * (mapGet 0 s.pwr.phases k - 2)
  (s.die d).factor * 5200 - (over_ d 35000 + over_ (16 + d) 35000 + over_ (32 + d) 30000 + over_ (48 + d) 4000)

/-- A die at the floor of φ and clock whose current still exceeds its limit withholds new leave from its engines (R461). -/
def State.withheld (s : State) (d : Nat) : Bool :=
  (s.die d).factor == 50 && (s.die d).mhz == 800 && decide (s.limitMa d < (s.die d).milliAmps)

/-- The next command of the engine's queue waits for leave and for nothing else (R95, R124, R132). -/
def State.engineNeeds (s : State) (d c e : Nat) : Bool := s.wantsLeave d c e && !s.withheld d

/-- A requester has a reason to ask (Table 3 of ch.16). -/
def State.mayAsk (s : State) (r : Requester) : Bool :=
  match r with
  | .dieWake d => (s.die d).pstate == 4 && (s.die d).wakeAt.isNone
  | .spareSlot d => match (s.die d).subst with
    | some x => x.drained && !x.leave
    | none => false
  | .matrixEngine d c => s.engineNeeds d c 0
  | .vectorEngine d c => s.engineNeeds d c 1
  | .combStart _ | .ringSweep _ => decide (3 ≤ s.bootStep) && decide (s.bootStep ≤ 12)
  | .startTest _ => decide (4 ≤ s.bootStep) && decide (s.bootStep ≤ 6)
  | .startLanes _ => s.bootStep == 7

/-- LEAVE_REQUEST. -/
def execLeaveRequest (r : Requester) (s : State) : Host.Outcome State Fault Refusal :=
  .next (if s.mayAsk r then s.leaveAsk r else s)

/-- LEAVE_RELEASE: a holder gives its leave back (R440). -/
def execLeaveRelease (r : Requester) (s : State) : Host.Outcome State Fault Refusal :=
  .next (if s.pwr.has r then s.releaseLeave r else s)

/-! ### The governor's cycle (R442, R443) -/

/-- The floor of a priority in watts. -/
def leaveFloor (p : Nat) : Nat := if p = 0 then 600 else if p = 2 then 450 else 150

/-- Watts granted in the window, in all and by priority. -/
def PwrSt.window (p : PwrSt) : Nat := p.grants.foldl (fun n g => n + g.watts) 0
def PwrSt.used (p : PwrSt) (q : Nat) : Nat := (p.grants.filter (fun g => g.prio == q)).foldl (fun n g => n + g.watts) 0

/-- The head of a priority's queue. -/
def PwrSt.head (p : PwrSt) (q : Nat) : Option LeaveWait := p.waiting.find? (fun h => h.prio == q)

/-- What other priorities with waiting requests keep of their floors. -/
def PwrSt.reserve (p : PwrSt) (q : Nat) : Nat :=
  (List.range 4).foldl (fun n k => if k ≠ q ∧ (p.head k).isSome then n + (leaveFloor k - p.used k) else n) 0

/-- Whether the head of priority q may be granted: none where the budget is exhausted, which ends the cycle. -/
def PwrSt.fits (p : PwrSt) (budget q r : Nat) : Option Bool :=
  if budget < p.heldWatts + r then none
  else if 1500 < p.window + r then some false
  else some (!(decide (leaveFloor q < p.used q + r) && decide (1500 < p.window + r + p.reserve q)))

/-- Grants of one priority: the governor after them, the requesters granted, and whether the cycle goes on. -/
def PwrSt.grantPrio (budget now q : Nat) : Nat → PwrSt → List Requester → PwrSt × List Requester × Bool
  | 0, p, got => (p, got, true)
  | n + 1, p, got =>
    match p.head q with
    | none => (p, got, true)
    | some h =>
      match p.fits budget q h.watts with
      | none => (p, got, false)
      | some false => (p, got, true)
      | some true =>
        let p1 := { p with waiting := p.waiting.erase h, held := p.held ++ [{ req := h.req, watts := h.watts }]
                           grants := p.grants ++ [{ at_ := now, prio := q, watts := h.watts }] }
        PwrSt.grantPrio budget now q n p1 (got ++ [h.req])

/-- The loop of R442 over priorities q and up. -/
def PwrSt.grantAll (budget now : Nat) : List Nat → PwrSt → List Requester → PwrSt × List Requester
  | [], p, got => (p, got)
  | q :: qs, p, got =>
    let r := PwrSt.grantPrio budget now q p.waiting.length p got
    if r.2.2 then PwrSt.grantAll budget now qs r.1 r.2.1 else (r.1, r.2.1)

/-- What a grant sets off: an engine holds leave, a wake goes on, a spare slot powers up. -/
def State.granted (s : State) (r : Requester) : State :=
  match r with
  | .dieWake d => s.modDie d (fun x => { x with wakeAt := some s.time, padsHeld := s.obj 0x2800 2 == 1, gtResync := true })
  | .spareSlot d => s.modDie d (fun x => { x with subst := x.subst.map (fun y => { y with leave := true }) })
  | _ => s.leaveFlag r true

/-- A request put in its place among those of its cycle. -/
def putRequest (x : LeaveWait) : List LeaveWait → List LeaveWait
  | [] => [x]
  | y :: ys => if reqOrder x.req ≤ reqOrder y.req then x :: y :: ys else y :: putRequest x ys

/-- A cycle of the governor: requests of the cycle join their queues in the order of R442, and grants follow; none while the
input is over a limit or low (R435). -/
def State.govern (s : State) : State :=
  let p := s.pwr
  let joined := p.arrivals.foldr putRequest []
  let p1 := { p with arrivals := [], waiting := p.waiting ++ joined, grants := p.grants.filter (fun g => decide (s.time < g.at_ + 100 * tickUs)) }
  if p.overLimit || p.low then { s with pwr := p1 }.leaveObjects
  else
    let r := PwrSt.grantAll (s.obj 0x2000 3) s.time [0, 1, 2, 3] p1 []
    let s1 := r.2.foldl State.granted { s with pwr := r.1 }
    (s1.bump 0x2000 0x0E r.2.length).leaveObjects

/-- GOVERNOR_CYCLE. -/
def execGovernorCycle (s : State) : Host.Outcome State Fault Refusal := .next s.govern

end Sys2Proof.Machine
end

