-- ==== Sys2Proof/Machine/Bench.lean ====
section
/-! DEFINITION. The bench (ch.14): choosing a spare core slot, the sequence of a substitution, cores that go out, and the seeds of
stochastic rounding (R51). -/

namespace Sys2Proof.Machine

/-! ### Slots (R392, R394, R402) -/

/-- Slots that serve logical cores of die d. -/
def State.slotsUsed (s : State) (d : Nat) : List Nat := (List.range 32).filterMap (s.slotOf d)

/-- Spare slots of die d: neither mapped nor retired. -/
def State.spares (s : State) (d : Nat) : List Nat :=
  (List.range 36).filter (fun k => !(s.slotsUsed d).contains k && !(s.die d).retired.contains k)

/-- Grid steps between two slots of the 6 × 6 grid (R392, R394). -/
def slotSteps (a b : Nat) : Nat := (max (a / 6) (b / 6) - min (a / 6) (b / 6)) + (max (a % 6) (b % 6) - min (a % 6) (b % 6))

/-- The spare nearest to a slot; the lower number wins a tie (R394). -/
def State.nearestSpare (s : State) (d slot : Nat) : Option Nat :=
  ((s.spares d).foldl (fun (b : Option Nat) k => match b with
    | none => some k
    | some j => if slotSteps slot k < slotSteps slot j then some k else some j) none)

/-- The slot of a logical core set: slot + 1 where it is not the core's own number, 37 for out. -/
def State.setSlot (s : State) (d c : Nat) (slot : Option Nat) : State :=
  let v := match slot with
    | some k => if k = c then 0 else k + 1
    | none => 37
  s.modDie d (fun x => { x with coreMap := mapSet 0 x.coreMap c v })

/-- CMP.BENCH_LEFT for cores and CMP.CORES_OUT follow the maps. -/
def State.benchObjects (s : State) : State :=
  let left := (List.range 16).foldl (fun m d => min m (s.spares d).length) 4
  let out := (List.range 16).foldl (fun n d => n + ((List.range 32).filter (s.coreOut d)).length) 0
  (s.setObj 0x7010 1 left).setObj 0x7000 2 out

/-! ### A core's reset state (R51, R396) -/

/-- Seeds for the seventeen generators of a core: from CMP.SR_SEED in mode 1, else free (R51). Zero is replaced by 1. -/
def State.seeds (s : State) (d c : Nat) (fixed : Bool) : SMap (BitVec 32) :=
  (List.range 17).foldl (fun m i =>
    let v : BitVec 32 := if fixed then BitVec.ofNat 32 (s.obj 0x7040 2) ^^^ BitVec.ofNat 32 (field 24 d) ^^^ BitVec.ofNat 32 (field 16 c)
        ^^^ BitVec.ofNat 32 i
      else (Config.random (s.draw + i)).setWidth 32
    mapSet 1 m i (if v = 0 then 1 else v)) []

/-- The generators of a core seeded (R51). -/
def State.seedCore (s : State) (d c : Nat) (fixed : Bool) : State :=
  let g := s.seeds d c fixed
  { s with draw := s.draw + 17 }.modCore d c (fun x => { x with mx := { x.mx with gens := g } })

/-- A core in its reset state: everything of R396 lost, generators reseeded. -/
def State.resetCore (s : State) (d c : Nat) : State :=
  let mine (a : Nat) : Bool := regionCore (regionOf a) == some c
  let s1 := (s.wipe d mine).setCore d c { }
  { s1 with host := { s1.host with reads := s1.host.reads.filter (fun h => h.die != d || h.core != c) } }.seedCore d c (s.obj 0x7040 1 == 1)

/-! ### The sequence (R395, R397, R399) -/

/-- The substitutions that fell due in sleep are over once none is due (R399). -/
def State.substOver (s : State) (d : Nat) : State := s.modDie d (fun x => { x with substFirst := x.substFirst && !x.substDue.isEmpty })

/-- The core goes out: no spare passes its test, or none is left (R399). -/
def State.coreGoesOut (s : State) (d c slot : Nat) : State :=
  let s1 := (s.setSlot d c none).modDie d (fun x => { x with retired := setIns slot x.retired, subst := none })
  let s2 := ((s1.resetCore d c).releaseLeave (.spareSlot (Fin.ofNat 16 d))).substOver d
  ((s2.benchObjects.raise (mkEvent 0x19 sevDegraded d c 3 slot)).serveHeld d).dieMoves d

/-- A substitution begins: the engines of the core halt, its tidy core stops (Table 3 of ch.14). Without a spare the core goes
out. -/
def State.substStart (s : State) (d c : Nat) : State :=
  let s0 := s.modDie d (fun x => { x with substDue := x.substDue.filter (· != c) })
  match s.slotOf d c with
  | none => s0.substOver d
  | some slot =>
    match s.nearestSpare d slot with
    | none => s0.coreGoesOut d c slot
    | some k =>
      let s1 := [0, 1, 2].foldl (fun s e => s.qHalt d c e) s0
      (s1.modCore d c (fun x => { x with tc := x.tc.stop })).modDie d (fun x =>
        { x with subst := some { core := c, slot := slot, spare := k, since := s.time } })

/-- CORE_SUBSTITUTION: the core detected first among those due, where no other substitution runs on the die and none is
suspended (R399, R409). -/
def execCoreSubstitution (die : Fin 16) (core : Fin 32) (s : State) : Host.Outcome State Fault Refusal :=
  let x := s.die die
  .next (if s.dieRuns die && x.subst.isNone && x.substDue.head? == some core.val && s.flt.ump.forced.isNone then
    s.substStart die core else s)

/-- A write of CMP.CORE_SUBSTITUTE (R393, Table 5 of ch.14). -/
def State.coreSubstitute (s : State) (v : Nat) : Nat × State :=
  let d := v / 256
  let c := v % 256
  if 16 ≤ d ∨ 32 ≤ c then (rpRange, s)
  else if s.coreOut d c ∨ (s.spares d).isEmpty then (rpState, s)
  else if s.substituting d c ∨ (s.die d).substDue.contains c then (rpOk, s)
  else (rpOk, s.modDie d (fun x => { x with substDue := x.substDue ++ [c] }))

/-- CORE_SUBSTITUTE. -/
def execCoreSubstitute (v : BitVec 16) (s : State) : Host.Outcome State Fault Refusal :=
  .next (s.expertRowDone 0x7800 3 (s.coreSubstitute v.toNat))

/-- The completion ring of a queue lies in its core's own local store. -/
def State.ownRing (s : State) (d c e : Nat) : Bool :=
  regionCore (regionOf (((s.core d c).q e).cBase.toNat % 2 ^ 44)) == some c

/-- A command still in execution when the drain ends: a FAULT record where its ring lies outside the core's own local store,
and an entry that names the substitution (R397). -/
def State.drainAbort (s : State) (d c e : Nat) (r : Run) : State :=
  let s1 := if s.ownRing d c e then s else s.putRecord d c e { r with status := BitVec.ofNat 8 stFault }
  (s1.modCore d c (fun x => x.modQ e (fun q => { q with run := q.run.filter (fun t => t.num != r.num) }))).raise
    (mkEvent 0x19 sevAdvisory d c 1 r.num.toNat)

/-- Requests that the core has outstanding are abandoned (R397). -/
def State.abandonCore (s : State) (d c : Nat) : State :=
  s.modDie d (fun x => { x with txns := x.txns.map (fun kv => (kv.1, kv.2.map (fun t =>
    if t.core = c ∧ t.kind ≠ .mirror then { t with abandoned := true } else t))) })

/-- A collective that the core issued records TIMEOUT and votes (R397); its command is no more. -/
def State.collAbort (s : State) (d c : Nat) : State :=
  (List.range 256).foldl (fun s0 g => match s0.coll d g with
    | some x =>
      let s := s0.modColl d g (fun y => { y with num := BitVec.allOnes 64 })
      if x.core ≠ c then s0
      else if x.phase = 1 then (if x.broken then s.votePump d g true else s.huddlePump d g true)
      else if x.phase = 2 then (s.modColl d g (fun y => { y with outcome := worst y.outcome 0x63 })).dataEnd d g
      else s
    | none => s) s

/-- Commands of the core in execution, as (engine, command). -/
def CoreSt.running (x : CoreSt) : List (Nat × Run) := [0, 1, 2].flatMap (fun e => (x.q e).run.map (fun r => (e, r)))

/-- SUBSTITUTION_DRAIN_END: every command has finished, or 100 µs have passed and the rest abort; leave is asked for the
spare. -/
def execSubstitutionDrainEnd (die : Fin 16) (s : State) : Host.Outcome State Fault Refusal :=
  match (s.die die).subst with
  | some x =>
    let left := (s.core die x.core).running
    if !x.drained && s.flt.ump.forced.isNone && (left.isEmpty || decide (x.since + 100 * tickUs ≤ s.time)) then
      let s1 := if left.isEmpty then s else (s.collAbort die x.core).abandonCore die x.core
      let s2 := left.foldl (fun s t => s.drainAbort die x.core t.1 t.2) s1
      .next ((s2.modDie die (fun y => { y with subst := some { x with drained := true } })).leaveAsk (.spareSlot die))
    else .next s
  | none => .next s

/-- The map switches to the spare; the core resumes in its reset state and held actions take effect (R395, R396, R398). -/
def State.substSwitch (s : State) (d : Nat) (x : Subst) : State :=
  let s1 := (s.setSlot d x.core (some x.spare)).modDie d (fun y => { y with retired := setIns x.slot y.retired })
  let s2 := (((s1.resetCore d x.core).modDie d (fun y => { y with subst := none })).releaseLeave (.spareSlot (Fin.ofNat 16 d))).substOver d
  let s3 := ((s2.bump 0x7000 1).benchObjects).raise (mkEvent 0x19 sevAdvisory d x.core 0 x.spare)
  (s3.serveHeld d).dieMoves d

/-- SPARE_SELF_TEST_DONE: a passing spare takes over; a failing one is retired and the next is tried, or the core goes out. -/
def execSpareSelfTestDone (die : Fin 16) (pass : Bool) (s : State) : Host.Outcome State Fault Refusal :=
  match (s.die die).subst with
  | some x =>
    if !x.drained || !x.leave || s.flt.ump.forced.isSome then .next s
    else if pass then .next (s.substSwitch die x)
    else
      let s1 := (s.modDie die (fun y => { y with retired := setIns x.spare y.retired })).raise
        (mkEvent 0x19 sevAdvisory die x.core 2 x.spare)
      match s1.nearestSpare die x.slot with
      | some k => .next (s1.modDie die (fun y => { y with subst := some { x with spare := k, tried := x.tried ++ [x.spare] } })).benchObjects
      | none => .next (s1.coreGoesOut die x.core x.slot)
  | none => .next s

end Sys2Proof.Machine
end

