-- ==== Sys2Proof/Machine/Log.lean ====
section
/-! DEFINITION. The error log (R406 to R410): entries, coalescing, acknowledgement, overflow; fault records (R35) and the
self-test of checkers (R405). -/

namespace Sys2Proof.Machine

/-! ### Entries (Table 3 of ch.15) -/

def leSeq (w : BitVec 256) : Nat := bits w 255 224
def leSev (w : BitVec 256) : Nat := bits w 223 220
def leAcked (w : BitVec 256) : Bool := bit w 219
def leHeld (w : BitVec 256) : Bool := bit w 217
def leSoft (w : BitVec 256) : Bool := bit w 216
def leSite (w : BitVec 256) : Nat := bits w 215 208
def leSource (w : BitVec 256) : Nat := bits w 207 200
def leUnit (w : BitVec 256) : Nat := bits w 199 192
def leCause (w : BitVec 256) : Nat := bits w 191 176
def leCount (w : BitVec 256) : Nat := bits w 175 160

/-- Bits [55:8] of a GT, as FIRST_GT and LAST_GT hold them. -/
def gtField (gt : Nat) : Nat := gt / 256 % 2 ^ 48

/-- A new entry for an event. -/
def logWord (seq : Nat) (r : Raised) : BitVec 256 :=
  let e := r.ev
  BitVec.ofNat 256 (field 224 (seq % 2 ^ 32) + field 220 e.sev.toNat + field 216 e.soft.toNat + field 208 e.site.toNat
    + field 200 e.source.toNat + field 192 e.unit.toNat + field 176 e.cause.toNat + field 160 1 + field 96 e.detail.toNat
    + field 48 (gtField r.gt) + gtField r.gt)

/-- An event belongs to an entry: SITE, SOURCE, UNIT, CAUSE, SEV and SOFT agree (R408). -/
def sameEntry (w : BitVec 256) (e : Event) : Bool :=
  leSite w == e.site.toNat && leSource w == e.source.toNat && leUnit w == e.unit.toNat && leCause w == e.cause.toNat
  && leSev w == e.sev.toNat && leSoft w == e.soft

/-- An entry with one more event in it (R408). -/
def coalesce (w : BitVec 256) (gt : Nat) : BitVec 256 :=
  putBit (putBits (putBits w 175 160 (satAdd 16 (leCount w) 1)) 47 0 (gtField gt)) 218 true

/-- An entry is in handling (R408). -/
def LogEntry.open_ (e : LogEntry) (now : Nat) : Bool := e.handling && decide (now < e.at_ + tickS)

/-- The entry at a ring position. -/
def State.logAt (s : State) (i : Nat) : Option LogEntry := mapGet none s.flt.log i

/-- An entry put at a ring position. -/
def State.setLog (s : State) (i : Nat) (e : LogEntry) : State :=
  { s with flt := { s.flt with log := mapSet none s.flt.log i (some e) } }

/-- SEQ of the newest entry: FLT.LOG_HEAD. -/
def State.logHead (s : State) : Nat := s.obj 0x8000 9

/-- How far an entry lies behind the newest one. -/
def State.logAge (s : State) (w : BitVec 256) : Nat := (BitVec.ofNat 32 s.logHead - BitVec.ofNat 32 (leSeq w)).toNat

/-- The oldest entry, by SEQ, among those that satisfy p: its position. -/
def State.oldest (s : State) (p : LogEntry → Bool) : Option Nat :=
  (s.flt.log.foldl (fun (b : Option (Nat × Nat)) kv => match kv.2 with
    | some e =>
      if p e then
        match b with
        | some x => if x.2 < s.logAge e.word then some (kv.1, s.logAge e.word) else b
        | none => some (kv.1, s.logAge e.word)
      else b
    | none => b) none).map (·.1)

/-- Where a new entry goes (R410): a place never used, the oldest entry no longer in handling, or, for UNMASKED and FATAL,
the oldest entry of the lowest severity present where that is no higher than its own; and whether the log overflowed. -/
def State.logPlace (s : State) (sev : Nat) : Option Nat × Bool :=
  match (List.range 256).find? (fun i => (s.logAt i).isNone) with
  | some i => (some i, false)
  | none => match s.oldest (fun e => !e.open_ s.time) with
    | some i => (some i, false)
    | none =>
      if sev < sevUnmasked then (none, true)
      else
        let low := s.flt.log.foldl (fun m kv => match kv.2 with | some e => min m (leSev e.word) | none => m) 15
        if low ≤ sev then (s.oldest (fun e => leSev e.word == low), true) else (none, true)

/-- An event of severity RECOVERED or ADVISORY without SOFT counted for the scorecard (R424). -/
def State.scoreEvent (s : State) (e : Event) : State :=
  if e.soft then s
  else if e.sev.toNat = sevRecovered then { s with flt := { s.flt with recovered := s.flt.recovered ++ [s.time] } }
  else if e.sev.toNat = sevAdvisory then { s with flt := { s.flt with advisory := s.flt.advisory ++ [s.time] } }
  else s

/-- An event taken into the log: counted at its site, coalesced, stored, or dropped (R407, R408, R410). Answers whether a new
entry was stored. -/
def State.logEvent (s : State) (r : Raised) : Bool × State :=
  let s1 := (s.bump 0x8010 r.ev.site.toNat).scoreEvent r.ev
  match (List.range 256).find? (fun i => match s.logAt i with
      | some e => e.open_ s.time && sameEntry e.word r.ev
      | none => false) with
  | some i => (false, match s1.logAt i with
    | some e => s1.setLog i { e with word := coalesce e.word r.gt }
    | none => s1)
  | none =>
    let p := s1.logPlace r.ev.sev.toNat
    let s2 := if p.2 then s1.setObj 0x8000 0x0B 1 else s1
    match p.1 with
    | none => (false, s2.bump 0x8000 0x0C)
    | some i =>
      let seq := (s2.logHead + 1) % 2 ^ 32
      let w := logWord seq r
      let s3 := ((s2.setLog i { word := w, at_ := s.time }).setObj 0x8000 9 seq).raiseVec 0
      (true, if sevDegraded ≤ r.ev.sev.toNat then { s3 with flash := { s3.flash with log := (w :: s3.flash.log).take 4096 } }
        else s3)

/-! ### Rows -/

/-- LOG_HANDLING_EXPIRE: 1 s after its creation an entry is no longer in handling. -/
def execLogHandlingExpire (pos : Fin 256) (s : State) : Host.Outcome State Fault Refusal :=
  .next (match s.logAt pos with
    | some e => if e.handling && decide (e.at_ + tickS ≤ s.time) then s.setLog pos { e with handling := false } else s
    | none => s)

/-- A write of FLT.LOG_ACK acknowledges an entry and every earlier one (R408). -/
def State.logAck (s : State) (v : Nat) : Nat × State :=
  let ack (e : LogEntry) : LogEntry :=
    if (BitVec.ofNat 32 v - BitVec.ofNat 32 (leSeq e.word)).toNat < 2 ^ 31 then { e with word := putBit e.word 219 true, handling := false }
    else e
  (rpOk, { s with flt := { s.flt with log := s.flt.log.map (fun kv => (kv.1, kv.2.map ack)) } })

/-- FLT_LOG_ACK. -/
def execFltLogAck (v : BitVec 32) (s : State) : Host.Outcome State Fault Refusal := .next (s.objRowDone (s.logAck v.toNat))

/-- A write of FLT.LOG_OVERFLOW: 0 clears it, 1 is refused with RANGE (R410). -/
def State.logOverflow (s : State) (v : Nat) : Nat × State := if v = 0 then (rpOk, s.setObj 0x8000 0x0B 0) else (rpRange, s)

/-- FLT_LOG_OVERFLOW. -/
def execFltLogOverflow (v : BitVec 8) (s : State) : Host.Outcome State Fault Refusal :=
  .next (s.objRowDone (s.logOverflow v.toNat))

/-- CHECKER_SELF_TEST: a checker that misses its injected error is reported UNMASKED (R405). -/
def execCheckerSelfTest (src : Fin 25) (pass : Bool) (s : State) : Host.Outcome State Fault Refusal :=
  .next (if pass then s else s.raise (mkEvent 0x16 sevUnmasked src 0xFF 0 0))

/-- The severity Table 2 of ch.15 gives to a fault at a site of which only the record has come. -/
def siteSeverity (site : Nat) : Nat :=
  if site = 0x17 ∨ site = 0x08 ∨ site = 0x09 ∨ site = 0x10 then sevNote
  else if site = 0x0A ∨ site = 0x0B ∨ site = 0x0D ∨ site = 0x0F ∨ site = 0x15 ∨ site = 0x19 ∨ site = 0x1A ∨ site = 0x0C ∨ site = 0x14
    ∨ site = 0x18 then sevAdvisory
  else if site = 0x13 then sevDegraded
  else if site = 0x16 then sevUnmasked
  else if site = 0x0E then sevFatal
  else sevRecovered

/-- An event has the four fields by which a fault record names its fault. -/
def eventNames (e : Event) (src : Nat) (site unit : BitVec 8) (cause : BitVec 16) : Bool :=
  e.site == site && e.source.toNat == src && e.unit == unit && e.cause == cause

/-- The open log entry of a fault, by the same fields. -/
def State.entryOf (s : State) (src : Nat) (site unit : BitVec 8) (cause : BitVec 16) : Option Nat :=
  (List.range 256).find? (fun i => match s.logAt i with
    | some e => e.open_ s.time && leSite e.word == site.toNat && leSource e.word == src && leUnit e.word == unit.toNat
        && leCause e.word == cause.toNat
    | none => false)

/-- FAULT_RECORD: the full record completes the event or entry of its fault; the time of detection stays that of the alarm
level (R35). A record without an event of its own makes one. `late`: the record shows that the site has detected the fault later
than its bound, so that its entry is UNMASKED (Table 2 of ch.15). -/
def execFaultRecord (src : Fin 25) (site unit : BitVec 8) (cause : BitVec 16) (detail : FaultDetail) (s : State) :
    Host.Outcome State Fault Refusal :=
  let seen := (s.spoke src).alarmGt
  let s1 := if src.val < 24 then s.modSpoke src (fun x => { x with alarmGt := none }) else s
  if s.flt.raised.any (fun r => eventNames r.ev src site unit cause) then
    .next { s1 with flt := { s1.flt with raised := s1.flt.raised.map (fun r =>
      if eventNames r.ev src site unit cause then { ev := { r.ev with detail := detail.value, sev := if detail.late then BitVec.ofNat 4 sevUnmasked else r.ev.sev }, gt := seen.getD r.gt } else r) } }
  else match if detail.late then none else s.entryOf src site unit cause with
    | some i => .next (match s1.logAt i with
      | some e => s1.setLog i { e with word := putBits e.word 159 96 detail.value.toNat }
      | none => s1)
    | none =>
      let ev : Event := { site := site, sev := BitVec.ofNat 4 (if detail.late then sevUnmasked else siteSeverity site.toNat), source := BitVec.ofNat 8 src.val,
                          unit := unit, cause := cause, detail := detail.value, soft := site == 0x17 && !detail.late }
      .next { s1 with flt := { s1.flt with raised := s1.flt.raised ++ [{ ev := ev, gt := seen.getD s.gtNow }] } }

end Sys2Proof.Machine
end

