-- ==== Sys2Proof/Machine/Tiles.lean ====
section
/-! DEFINITION. Errors of memory that come from outside the state: verifying reads, scrub, HBM bursts, refresh, temperature
bands and repairs in service (ch.06, ch.07). -/

namespace Sys2Proof.Machine

/-! ### Errors that a read finds (R171, R178, R203) -/

/-- A burst of HBM returned severity 2: poisoned, counted, and its row due for repair (R203, R205). -/
def State.burstBad (s : State) (d a : Nat) : State :=
  let k := (hbmDecode a).key
  let s1 := ({ s with badBursts := setIns (memKey d a / 32) s.badBursts }).modDie d (fun x => { x with rowBad := setIns k x.rowBad })
  s1.bump 0x6020 2

/-- A corrected error counted against its row, over the last 24 hours (R203, R205). -/
def State.rowError (s : State) (d a : Nat) : State :=
  let k := (hbmDecode a).key
  let recent (x : DieSt) := (mapGet [] x.rowErrs k).filter (fun t => decide (s.time < t + 86400 * tickS)) ++ [s.time]
  (s.modDie d (fun x => { x with rowErrs := mapSet [] x.rowErrs k (recent x) })).bump 0x6020 1

/-- A poisoned burst logged with its decoded address (R203). -/
def State.burstEvent (s : State) (d a : Nat) : State :=
  s.raise (mkEvent 0x07 sevRecovered d 0xFF reasonEcc (hbmDecode a).detail)

/-- What the error-correcting code finds in the tile at a. -/
def State.markEcc (s : State) (d a : Nat) (e : Ecc) : State :=
  match e with
  | .clean => s
  | .corrected off => if regionOf a = .hbm then s.rowError d (a + off.val) else s.bump 0x6010 3
  | .uncorrectable off =>
    if regionOf a = .hbm then s.burstBad d (a + off.val)
    else { s with badWords := setIns (memKey d (a + off.val) / 16) s.badWords }
  | .tagUncorrectable => { s with badTags := setIns (tileKey d a) s.badTags }

/-! ### Verifying reads (R183, R184, R189) -/

/-- Why a verifying read made now fails: the second one of level 1 checks all again; at level 0 and 2 only what this read
itself found counts, since the first use has passed. -/
def State.rereadFails (s : State) (d a level : Nat) (raced : Bool) (e : Ecc) : Option Nat :=
  if level = 1 then s.verify d a 1 raced
  else match e with
    | .tagUncorrectable => some reasonTagEcc
    | .uncorrectable _ => some reasonEcc
    | _ => if raced ∧ level = 0 then some reasonRace else none

/-- The command of an engine that is in execution on a tile it has read as input. -/
def CoreSt.consumer (x : CoreSt) (e t : Nat) : Option Run := (x.q e).run.find? (fun r => r.status == 0 && r.ins.contains t)

/-- A write has met the verifying read of the tile at a (R183): the consumer that makes it will find a race. -/
def State.raceMark (s : State) (d a : Nat) (raced : Bool) : State :=
  if raced then { s with races := setIns (tileKey d a) s.races } else s

/-- VERIFYING_READ: a verifying read of a tile finds what the operands say. A command in execution that uses the tile as
input is aborted where the read fails; an error or a race that no command has met yet stands until the tile's next use: by a matrix
or vector command, by a move on its way to the host, by a collective, or in a merge (R183). A poisoned burst is logged (R203). -/
def execVerifyingRead (die : Fin 16) (tile : TileRef) (raced : Bool) (ecc : Ecc) (s : State) :
    Host.Outcome State Fault Refusal :=
  let d := die.val
  if !s.dieRuns d then .next s
  else match tile with
  | .hbm t =>
    let s1 := (s.markEcc d (4096 * t.val) ecc).raceMark d (4096 * t.val) raced
    .next (match ecc with | .uncorrectable off => s1.burstEvent d (4096 * t.val + off.val) | _ => s1)
  | .ls c t =>
    let a := lsAddr c (4096 * t.val)
    let s1 := s.markEcc d a ecc
    let x := s1.core d c
    match x.consumer 0 t with
    | some r => match s1.rereadFails d a r.level.toNat raced ecc with
      | some why => .next ({ mkWork s1 d c r with seen := r.ins, fail := some (.tile (4096 * t.val) why) }.endMx r.num)
      | none => .next s1
    | none => match x.consumer 1 t with
      | some r => match s1.rereadFails d a r.level.toNat raced ecc with
        | some why => .next ({ mkWork s1 d c r with seen := r.ins, fail := some (.tile (4096 * t.val) why) }.endVx r.num)
        | none => .next s1
      | none => .next (s1.raceMark d a raced)

/-! ### Scrub (R187) -/

/-- The first VALID tile whose key lies in [k, hi). -/
def State.nextValid (s : State) (k hi : Nat) : Option Nat :=
  (s.tiles.find? (fun t => decide (k ≤ t.1) && decide (t.1 < hi) && t.2.st == .valid)).map (·.1)

/-- A scrub read of the VALID tile at a: what it finds, POISON and the event where the tile is bad; discarded where a write
raced it (R186, R187). -/
def State.scrubRead (s : State) (d a unit : Nat) (raced : Bool) (e : Ecc) : State :=
  let s1 := s.markEcc d a e
  if raced then s1
  else match ({ s1 with races := [] } : State).verify d a 0 with
  | none => s1
  | some why =>
    let s2 := (s1.setTileSt d a .poison).tagFresh d a
    (s2.bump 0x6010 4).raise (mkEvent (tileSite a why) sevRecovered d unit why (s1.tileDetail d a why))

/-- Scrub reads come once in `n` ticks, four times as often in degraded service (R187, R427). -/
def State.scrubPace (s : State) (n : Nat) : Nat := if s.flt.svc then n / 4 else n

/-- LS_SCRUB: the scrub timer of a core reads the next VALID tile from its cursor on; passing the last tile ends a pass. -/
def execLsScrub (die : Fin 16) (core : Fin 32) (raced : Bool) (ecc : Ecc) (s : State) : Host.Outcome State Fault Refusal :=
  let x := s.core die core
  let base := tileKey die (lsAddr core 0)
  if !s.dieRuns die || s.coreOut die core || decide (s.time < x.scrubAt + s.scrubPace (4 * tickUs)) then .next s
  else
    let found := s.nextValid (base + x.scrub) (base + 2048)
    let s1 := if found.isNone then s.bump 0x6010 5 else s
    match (match found with | some k => some k | none => s.nextValid base (base + 2048)) with
    | none => .next (s1.modCore die core (fun x => { x with scrub := 0, scrubAt := s.time }))
    | some k =>
      let s2 := s1.modCore die core (fun x => { x with scrub := k - base + 1, scrubAt := s.time })
      .next (s2.scrubRead die (lsAddr core (4096 * (k - base))) core raced ecc)

/-- When the next HBM scrub read of a die is due (R187). -/
def State.scrubDue (s : State) (d : Nat) : Nat := (s.die d).scrubAt + s.scrubPace (4096 * tickUs / 10)

/-- The scrub read of the next VALID HBM tile of a die (R187). -/
def State.hbmScrub (s : State) (d : Nat) (raced : Bool) (ecc : Ecc) : State :=
  let base := tileKey d 0
  match (match s.nextValid (base + (s.die d).scrub) (base + 0x6000000) with
    | some k => some k
    | none => s.nextValid base (base + 0x6000000)) with
  | none => s.modDie d (fun x => { x with scrub := 0, scrubAt := s.time })
  | some k => (s.modDie d (fun x => { x with scrub := k - base + 1, scrubAt := s.time })).scrubRead d (4096 * (k - base)) 0xFF raced ecc

/-- An HBM line waits to be served at a die: scrub reads take only idle slots until they have waited 100 µs (R200). -/
def State.hbmBusy (s : State) (d : Nat) : Bool :=
  !(s.die d).hbmWait.isEmpty || (s.die d).lineq.any (fun e => regionOf (128 * e.2) == .hbm)

/-- HBM_SCRUB: the same over the HBM tiles of a die, in an idle slot or after 100 µs (R200). -/
def execHbmScrub (die : Fin 16) (raced : Bool) (ecc : Ecc) (s : State) : Host.Outcome State Fault Refusal :=
  .next (if s.dieRuns die && decide (s.scrubDue die ≤ s.time)
      && (!s.hbmBusy die || decide (s.scrubDue die + 100 * tickUs ≤ s.time)) then s.hbmScrub die raced ecc else s)

/-! ### Burst accesses (R198, R199, R202, R203) -/

/-- A parity failure counted against its lane, over the last second (R206). -/
def State.laneError (s : State) (d a lane : Nat) : State :=
  let h := hbmDecode a
  let k := laneKey h.stack h.chan lane
  let recent (x : DieSt) := (mapGet [] x.laneErrs k).filter (fun t => decide (s.time < t + tickS)) ++ [s.time]
  s.modDie d (fun x => { x with laneErrs := mapSet [] x.laneErrs k (recent x) })

/-- The array's answer to a read of a burst: severity 1 counts against the row, severity 2 poisons the burst. -/
def State.severity (s : State) (d a sev : Nat) : State :=
  if sev = 1 then s.rowError d a else if sev = 2 then (s.burstBad d a).burstEvent d a else s

/-- One burst access at a controller: `data` is empty for a read, `parity` names the lane that fails at each attempt. A second
failure poisons the burst, and a write then has no effect. A write of less than the burst reads it first (R199). -/
def State.burstAccess (s : State) (d a : Nat) (data : List Byte) (sev : Nat) (parity : List (Fin 74)) : State :=
  let s1 := s.bump 0x6020 3 (min 2 parity.length)
  match parity with
  | _ :: second :: _ =>
    ((({ s1 with badBursts := setIns (memKey d a / 32) s1.badBursts }).laneError d a second).burstEvent d a)
  | _ =>
    if data.isEmpty then s1.severity d a sev
    else if data.length = 32 then s1.rawWrite d a data
    else (s1.severity d a sev).rawWrite d a data

/-! ### Refresh (R209) and the order of a controller (R200) -/

/-- The band of a stack: MEM.HBM_BAND. -/
def State.band (s : State) (d st : Nat) : Nat := s.obj 0x6021 (4 * d + st + 1)

/-- A pseudo-channel of a die as a number: stack, channel, pseudo-channel. -/
def pcKey (stack chan pc : Nat) : Nat := stack + 4 * chan + 128 * pc

/-- Refresh of a pseudo-channel: where the per-bank interval of the band is over, its next bank is refreshed (R209). -/
def State.refreshDue (s : State) (d k : Nat) : State :=
  let r := mapGet (0, 0) (s.die d).refresh k
  if 15625 ≤ (s.time - r.2) * s.band d (k % 4) then
    s.modDie d (fun x => { x with refresh := mapSet (0, 0) x.refresh k ((r.1 + 1) % 64, s.time) })
  else s

/-- HBM_REFRESH. In self-refresh the core dies refresh at a rate of their own and the controller sends none (R210). -/
def execHbmRefresh (die : Fin 16) (stack : Fin 4) (chan : Fin 32) (pc : Fin 2) (s : State) : Host.Outcome State Fault Refusal :=
  .next (if s.dieRuns die then s.refreshDue die (pcKey stack chan pc) else s)

/-- The place of an agent in the round-robin of a controller (R200). -/
def hbmAgentCode : HbmAgent → Nat
  | .move => 0 | .direct => 1 | .fabric => 2 | .host => 3 | .steward => 4

/-- The pseudo-channel of a burst. -/
def HbmReq.pc (r : HbmReq) : Nat := let h := hbmDecode r.addr; pcKey h.stack h.chan h.pc

/-- Requests of a pseudo-channel that no earlier request for the same burst holds back (R198). -/
def hbmReady (k : Nat) (rs : List HbmReq) : List HbmReq :=
  (rs.foldl (fun (p : List HbmReq × List Nat) r =>
    (if r.pc = k ∧ r.addr / 32 ∉ p.2 then p.1 ++ [r] else p.1, r.addr / 32 :: p.2)) ([], [])).1

/-- The request served next on a pseudo-channel: the oldest of the first agent after the one served last (R200). -/
def hbmPick (last : Nat) (rs : List HbmReq) : Option HbmReq :=
  [1, 2, 3, 4, 5].findSome? (fun i => rs.find? (fun r => hbmAgentCode r.agent == (last + i) % 5))

/-- One request served by its controller, after a refresh that is due and a scrub read that has waited 100 µs (R200). -/
def State.hbmServe (s : State) (d : Nat) : State :=
  match (s.die d).hbmWait with
  | [] => s
  | r0 :: _ =>
    let s0 := s.refreshDue d r0.pc
    let s1 := if s0.scrubDue d + 100 * tickUs ≤ s0.time then s0.hbmScrub d false .clean else s0
    match hbmPick (mapGet 4 (s1.die d).hbmTurn r0.pc) (hbmReady r0.pc (s1.die d).hbmWait) with
    | some r => (s1.modDie d (fun x => { x with hbmWait := x.hbmWait.erase r, hbmTurn := mapSet 4 x.hbmTurn r0.pc (hbmAgentCode r.agent) })).burstAccess
        d r.addr r.data r.sev r.parity
    | none => s1

/-- Every request that waits at the controllers of a die is served. -/
def State.hbmServeAll (s : State) (d : Nat) : State := (s.die d).hbmWait.foldl (fun s _ => s.hbmServe d) s

/-- HBM_ACCESS: a request reaches its controller and is served in its order; a die in sleep is asked to wake and the request waits
until the die is Active (R202). A die without its rails serves none. -/
def execHbmAccess (req : HbmPort) (addr : Fin 0x6000000000) (data : List Byte) (severity : Fin 3) (parity : List (Fin 74)) (s : State) :
    Host.Outcome State Fault Refusal :=
  let r : HbmReq := { agent := req.agent, addr := addr, data := data, sev := severity, parity := parity }
  let s1 := s.modDie req.die (fun x => { x with hbmWait := x.hbmWait ++ [r] })
  .next (if !(s.die req.die).everActive || (s.die req.die).pstate = 5 then s
    else if s.dieRuns req.die then s1.hbmServeAll req.die else s1.askWake req.die)

/-! ### Temperature bands (R209, R210) -/

/-- The band after a sample of the hottest sensor, in 0.1 °C (Table 4 of ch.07). -/
def bandNext (band : Nat) (t : Int) : Nat :=
  let up := if 950 ≤ t then 4 else if 850 ≤ t then 2 else 1
  let down := if band = 4 then (if t < 900 then (if t < 800 then 1 else 2) else 4)
    else if band = 2 then (if t < 800 then 1 else 2) else 1
  max up down

/-- The hottest of some readings. -/
def hottest : List Int → Int
  | [] => 0
  | [t] => t
  | t :: ts => max t (hottest ts)

/-- HBM_SENSOR_SAMPLE. The first sample after self-refresh selects the band by itself (R210). -/
def execHbmSensorSample (die : Fin 16) (stack : Fin 4) (temps : List Int) (s : State) : Host.Outcome State Fault Refusal :=
  if temps.isEmpty || !s.dieRuns die then .next s
  else
    let t := hottest temps
    let band := if (s.die die).resumed.contains stack.val then 1 else s.band die stack
    let s1 := s.modDie die (fun x => { x with
      hotStack := mapSet 0 x.hotStack stack t, resumed := x.resumed.filter (· != stack.val) })
    .next (s1.setObj 0x6021 (4 * die.val + stack.val + 1) (bandNext band t))

/-! ### Repair in service (R205, R206) -/

/-- Spare rows left in a bank of a die, spare lanes left in a channel, and its spare lane for command and address (R204). -/
def DieSt.spareRows (x : DieSt) (bank : Nat) : Nat := 4 - (x.rows.filter (fun r => r / 24576 == bank)).length
def DieSt.spareLanes (x : DieSt) (chan : Nat) : Nat := 2 - (x.lanes.filter (fun l => l / 75 == chan && l % 75 != 74)).length
def DieSt.spareCa (x : DieSt) (chan : Nat) : Nat := 1 - (x.lanes.filter (fun l => l / 75 == chan && l % 75 == 74)).length

/-- Spares left for a lane of a die. -/
def DieSt.spareFor (x : DieSt) (k : Nat) : Nat := if k % 75 = 74 then x.spareCa (k / 75) else x.spareLanes (k / 75)

/-- Objects that report repairs and spares follow the dies (Table 7 of ch.07, Table 5 of ch.14). -/
def State.repairObjects (s : State) : State :=
  let ds := (List.range 16).map s.die
  let rows := ds.foldl (fun n x => n + x.rows.length) 0
  let minRows := ds.foldl (fun m x => x.rows.foldl (fun m r => min m (x.spareRows (r / 24576))) m) 4
  let minLanes := ds.foldl (fun m x => x.lanes.foldl (fun m l => min m (x.spareLanes (l / 75))) m) 2
  ((((s.setObj 0x6020 4 rows).setObj 0x6020 5 minRows).setObj 0x6020 6 minLanes).setObj 0x7010 3 minRows).setObj 0x7010 4 minLanes

/-- HBM_ROW_REPAIR. -/
def execHbmRowRepair (die : Fin 16) (row : RowRef) (s : State) : Host.Outcome State Fault Refusal :=
  let x := s.die die
  let k := rowRefKey row
  let recent := (mapGet [] x.rowErrs k).filter (fun t => decide (s.time < t + 86400 * tickS))
  let due := decide (s.obj 0x6820 1 ≤ recent.length) || x.rowBad.contains k
  if s.dieRuns die && due && s.obj 0x6820 2 == 1 && decide (0 < x.spareRows (k / 24576)) then
    let s1 := s.modDie die (fun x => { x with
      rows := x.rows ++ [k], rowErrs := mapSet [] x.rowErrs k [], rowBad := x.rowBad.filter (· != k) })
    .next (s1.repairObjects.raise (mkEvent 0x07 sevNote die 0xFF 0 k))
  else .next s

/-- HBM_LANE_REPAIR: 16 failures within 1 s. Where MEM.HBM_ONLINE_REPAIR is 1 a spare takes the lane's place; with no spare left the
lane stays and a DEGRADED event is raised, whatever that object holds (R206). -/
def execHbmLaneRepair (die : Fin 16) (lane : LaneRef) (s : State) : Host.Outcome State Fault Refusal :=
  let x := s.die die
  let k := laneKey lane.stack lane.chan lane.lane
  let recent := (mapGet [] x.laneErrs k).filter (fun t => decide (s.time < t + tickS))
  if s.dieRuns die && decide (16 ≤ recent.length) then
    let s1 := s.modDie die (fun x => { x with laneErrs := mapSet [] x.laneErrs k [] })
    if x.spareFor k = 0 then .next (s1.raise (mkEvent 0x07 sevDegraded die 0xFF 0 k))
    else if s.obj 0x6820 2 = 1 then
      .next ((s1.modDie die (fun x => { x with lanes := x.lanes ++ [k] })).repairObjects.raise (mkEvent 0x07 sevNote die 0xFF 0 k))
    else .next s
  else .next s

end Sys2Proof.Machine
end

