-- ==== Sys2Proof/Machine/Power.lean ====
section
/-! DEFINITION. Spokes (R27, R28) and power (ch.16): input limits, rails, core clocks, Idle, die sleep and wake, module
standby. -/

namespace Sys2Proof.Machine

/-- The die asks to wake: since when a wake level has been present (R27, R202, R449, R450). -/
def State.wakeSince (s : State) (d : Nat) : Option Nat :=
  let x := s.die d
  let a := match x.asked with | some t => [t] | none => []
  let b := match x.cleared with | some t => [t] | none => []
  let c := if (s.spoke d).wake then [(s.spoke d).wakeAt] else []
  (a ++ b ++ c).min?

/-- The die's bit of PWR.DIE_SLEEP_REQ. -/
def State.sleepReq (s : State) (d : Nat) : Bool := (s.obj 0x2002 0).testBit d

/-- The module is in the recovery variant of standby and the die keeps a stack ID in self-refresh (R214, R452). -/
def State.inRecoveryStandby (s : State) (d : Nat) : Bool :=
  s.bootStep == 0x1C && s.obj 0x2000 7 == 2 && decide (s.pwr.kept / 16 ^ d % 16 ≠ 0)

/-! ### Spokes -/

/-- DIE_STATE_FRAME: the steward's frame carries the sleep command as a level; it requests no power state change of a die whose
spoke is lost (R27, R28, R447). -/
def execDieStateFrame (d : Fin 24) (s : State) : Host.Outcome State Fault Refusal :=
  .next (s.modSpoke d (fun x => { x with
    frameAt := s.time, sleepCmd := decide (d.val < 16) && s.sleepReq d && !x.lost }))

/-- A signed temperature as an object holds it. -/
def tempCode (t : Int) : Nat := unsigned 32 t

/-- Die and stack temperatures of a status frame, as the steward shows them (R457). -/
def State.spokeTemps (s : State) (d : Nat) (t : Int) (st : List Int) : State :=
  if d < 16 then
    (st.take 4).zipIdx.foldl (fun s p => s.setObj 0x3002 (4 * d + p.2 + 1) (tempCode p.1)) (s.setObj 0x3001 (d + 1) (tempCode t))
  else s

/-- An alarm level falls: an event of the die that still waits for the log takes its time (R35). -/
def State.alarmEnds (s : State) (d : Nat) : State :=
  match s.flt.raised.find? (fun r => (s.alarmDate r).1 != r && r.ev.source.toNat == d) with
  | some r =>
    let p := s.alarmDate r
    { p.2 with flt := { p.2.flt with raised := p.2.flt.raised.map (fun x => if x == r then p.1 else x) } }
  | none => s

/-- SPOKE_STATUS_FRAME: a good frame sets the levels, and the spoke has recovered; a missing or bad one is counted. Pending
requests for leave that the governor has not seen join it (R441). -/
def execSpokeStatusFrame (d : Fin 24) (ok : Bool) (wake alarm : Bool) (dieTemp : Int) (stackTemps : List Int)
    (leave : List Requester) (s : State) : Host.Outcome State Fault Refusal :=
  if !ok then .next (s.modSpoke d (fun x => { x with missed := x.missed + 1 }))
  else
    let s0 := if (s.spoke d).alarm && !alarm then s.alarmEnds d else s
    let s1 := s0.modSpoke d (fun x => { x with
      wake := wake, wakeAt := if x.wake then x.wakeAt else s.time, alarm := alarm, dieTemp := dieTemp, stackTemps := stackTemps
      alarmGt := if !alarm then none else if !x.alarm then some s.gtNow else x.alarmGt, leave := leave, missed := 0, lost := false })
    .next (leave.foldl (fun s r => if s.mayAsk r then s.leaveAsk r else s) (s1.spokeTemps d dieTemp stackTemps))

/-- SPOKE_LOST: three status frames in a row missing or bad (R28). -/
def execSpokeLost (d : Fin 24) (s : State) : Host.Outcome State Fault Refusal :=
  let x := s.spoke d
  .next (if 3 ≤ x.missed ∧ x.lost = false then
    (s.modSpoke d (fun x => { x with lost := true })).raise (mkEvent 0x13 sevDegraded d 0xFF 0 0) else s)

/-! ### Clocks (R29, R30, R435, R439, R462) -/

/-- Nominal frequency in MHz of a clock domain by its number (Table 3 of ch.01): compute die n owns 5n to 5n + 4 (core, mesh, memory
controller, panel lane, always-on), light die n owns 80 + 2n (electronics) and 81 + 2n (line), the steward 96 (management), 97 (host
link), 98 (service) and 99 (time). -/
def nominalMhz (n : Nat) : Nat :=
  if n < 80 then
    (match n % 5 with | 0 => 1600 | 1 => 2000 | 2 => 1600 | 3 => 1000 | _ => 100)
  else if n < 96 then (if n % 2 = 0 then 1500 else 2000)
  else if n = 96 then 800 else if n = 98 then 100 else 1000

/-- The rail that feeds a clock domain is on: the steward's in every state but Off, the other dies' from the rail step of start-up
until a stop; a die asleep keeps its always-on domain (R29, Table 5 of ch.16, R452, R529). -/
def State.domainOn (s : State) (n : Nat) : Bool :=
  let up := decide (3 ≤ s.bootStep) && decide (s.bootStep ≤ 12)
  if s.boot.off then false
  else if 96 ≤ n then true
  else if 80 ≤ n then up
  else
    let p := (s.die (n / 5)).pstate.toNat
    (up && p != 5 && (p < 3 || n % 5 == 4))
    || (s.inRecoveryStandby (n / 5) && (n % 5 == 2 || n % 5 == 4))

/-- Frequency in MHz of a clock domain, 0 where it is stopped (R30): only a core domain changes frequency in service; every domain
derives from the panel reference. -/
def State.domainMhz (s : State) (n : Nat) : Nat :=
  if !s.domainOn n || s.boot.refLost then 0
  else if n < 80 ∧ n % 5 = 0 then (s.die (n / 5)).mhz
  else nominalMhz n

/-- The busy cycles of every engine of a die, and the cycles of its tidy cores, counted up to now at the clock that ends (R99,
R127). -/
def State.countBusy (s : State) (d : Nat) : State :=
  (List.range 32).foldl (fun s c => ((s.addBusy d c 0).addBusy d c 1).modCore d c (fun x =>
    if x.tc.cycAt = s.time ∨ x = { } then x else { x with tc := { x.tc with mcycle := s.tcCycle d c, cycAt := s.time } })) s

/-- A die's core clock, which PWR.CORE_MHZ reports. -/
def State.setMhz (s : State) (d v : Nat) : State := (s.countBusy d |>.modDie d (fun x => { x with mhz := v })).setObj 0x2005 (d + 1) v

/-- The clock that the input cap and degraded service allow (R427, R435). -/
def State.clockCap (s : State) : Nat := min (min 1600 s.pwr.cap) (if s.flt.svc then s.obj 0x8800 2 else 1600)

/-- No clock stands above what the caps allow. -/
def State.capClocks (s : State) : State :=
  (List.range 16).foldl (fun s d => if s.clockCap < (s.die d).mhz then s.setMhz d s.clockCap else s) s

/-- CORE_CLOCK_STEP: the core-rail current of a die is measured; at its limit the clock falls one step, and it rises one
step per 100 µs once the current has stood below 95 % of the limit for 1 ms (R439). -/
def execCoreClockStep (die : Fin 16) (milliAmps : Nat) (s : State) : Host.Outcome State Fault Refusal :=
  let x := s.die die
  let lim := s.limitMa die
  if !s.dieRuns die then .next s
  else if lim ≤ milliAmps then
    let s1 := s.modDie die (fun x => { x with milliAmps := milliAmps, atLimit := true, belowSince := none, stepAt := s.time })
    .next (s1.setMhz die (min (max 800 (x.mhz - 25)) s.clockCap))
  else
    let since := if 100 * milliAmps < 95 * lim then some (x.belowSince.getD s.time) else none
    let s1 := s.modDie die (fun x => { x with milliAmps := milliAmps, atLimit := false, belowSince := since })
    let calm := match since with
      | some t => decide (t + tickMs ≤ s.time)
      | none => false
    if calm && decide (x.stepAt + 100 * tickUs ≤ s.time) && decide (x.mhz + 25 ≤ s.clockCap) then
      .next ((s1.modDie die (fun x => { x with stepAt := s.time })).setMhz die (x.mhz + 25))
    else .next (s1.setMhz die (min x.mhz s.clockCap))

/-! ### Input (R434, R435) -/

/-- The steward's event of the power site. -/
def powerEvent (sev cause detail : Nat) : Event := mkEvent 0x0C sev 24 0xFF cause detail

/-- INPUT_CLOCK_STEP: over a limit every clock falls 25 MHz each 10 µs; after 1 ms at 5 % below it the cap and the clocks rise
25 MHz each 1 ms (R435). -/
def execInputClockStep (s : State) : Host.Outcome State Fault Refusal :=
  let p := s.pwr
  if p.overLimit then
    if p.capAt + 10 * tickUs ≤ s.time then
      let top := (List.range 16).foldl (fun m d => max m (s.die d).mhz) 800
      let s1 : State := { s with pwr := { p with cap := max 800 (min p.cap top - 25), capAt := s.time } }
      .next ((List.range 16).foldl (fun s d => s.setMhz d (max 800 ((s.die d).mhz - 25))) s1)
    else .next s
  else
    match p.calmSince with
    | some t =>
      if t + tickMs ≤ s.time ∧ p.capAt + tickMs ≤ s.time ∧ p.cap < 1600 then
        let s1 : State := { s with pwr := { p with cap := min 1600 (p.cap + 25), capAt := s.time } }
        .next ((List.range 16).foldl (fun s d =>
          if (s.die d).atLimit ∨ s.clockCap < (s.die d).mhz + 25 then s else s.setMhz d ((s.die d).mhz + 25)) s1)
      else .next s
    | none => .next s

/-! ### Rails (R436 to R438) -/

/-- Rails by number: core 0-15, mesh 16-31, HBM 32-47, always-on 48-63, light 64-71, photonics 72-79, steward halves 80, 81. -/
def railKey : Rail → Nat
  | .core d => d.val
  | .mesh d => 16 + d.val
  | .hbm d => 32 + d.val
  | .alwaysOn d => 48 + d.val
  | .light l => 64 + l.val
  | .photonics l => 72 + l.val
  | .stewardA => 80
  | .stewardB => 81

/-- Phases of a rail, spares included, and its spares (Table 2 of ch.16, R470). -/
def railPhases (k : Nat) : Nat :=
  if k < 16 then 24 else if k < 32 then 8 else if k < 48 then 10 else if k < 64 then 3 else if k < 72 then 6 else if k < 80 then 4 else 2
def railSpares (k : Nat) : Nat := if k < 80 then 2 else 1

/-- Source and kind of a rail, as the log names them. -/
def railSource (k : Nat) : Nat := if k < 64 then k % 16 else if k < 80 then 16 + k % 8 else 24
def railKind (k : Nat) : Nat := if k < 64 then k / 16 else if k < 72 then 4 else if k < 80 then 5 else 6

/-- The clock domain (R29) that an event of a rail names: the first that the rail feeds (DESIGN CHOICE, notes/assumptions/100.md). -/
def railDomain (k : Nat) : Nat :=
  if k < 16 then 5 * k else if k < 32 then 5 * (k - 16) + 1 else if k < 48 then 5 * (k - 32) + 2 else if k < 64 then 5 * (k - 48) + 4
  else if k < 72 then 80 + 2 * (k - 64) else if k < 80 then 81 + 2 * (k - 72) else 96

/-- Kind 9 of CMP.BENCH_LEFT: fewest spare phases left on any rail; the two halves of the steward rail count together. -/
def State.phaseObjects (s : State) : State :=
  let lost (k : Nat) := mapGet 0 s.pwr.phases k
  let m := (List.range 80).foldl (fun m k => min m (2 - lost k)) (2 - (lost 80 + lost 81))
  let total := s.pwr.phases.foldl (fun n kv => n + kv.2) 0
  (s.setObj 0x7010 9 m).setObj 0x2000 0x0D total

/-- PHASE_FAILURE: the other phases take its share; ADVISORY while a spare covers it, DEGRADED beyond (R437). -/
def execPhaseFailure (rail : Rail) (s : State) : Host.Outcome State Fault Refusal :=
  let k := railKey rail
  let n := mapGet 0 s.pwr.phases k
  if railPhases k ≤ n then .next s
  else
    let s1 : State := { s with pwr := { s.pwr with phases := mapSet 0 s.pwr.phases k (n + 1) } }
    .next (s1.phaseObjects.raise (mkEvent 0x0C (if n < railSpares k then sevAdvisory else sevDegraded) (railSource k) (railDomain k)
      (0x10 + railKind k) (n + 1)))

/-- A start-up failure shown in BOOT.DIES_STOPPED and BOOT.LAST_FAIL (R541). -/
def State.startFail (s : State) (bitNo site : Nat) : State :=
  if 12 ≤ s.bootStep then s
  else (s.setObj 0xB000 4 (s.obj 0xB000 4 ||| 2 ^ bitNo)).setObj 0xB000 5 (256 * s.bootStep + site)

/-- Start-up has failed: code 0x1F (R541). -/
def State.startFailed (s : State) : State := s.leaveReady.setStep 0x1F

/-- Every compute die is stopped, or both halves of the steward rail are out: code 0x1F (R541). -/
def State.checkFailed (s : State) : State :=
  if (List.range 16).all (fun d => (s.die d).pstate == 5) then s.startFailed else s

/-- The banks of a light die FAILED. -/
def State.portsFailed (s : State) (l : Nat) : State :=
  (List.range 17).foldl (fun s b => s.modBank (17 * l + b) (fun x => { x with st := 7 })) s

/-- RAIL_OUT_OF_REGULATION: the die stops with its rails off, UNMASKED; a half of the steward rail takes its controller down
(R438, R470). -/
def execRailOutOfRegulation (rail : Rail) (s : State) : Host.Outcome State Fault Refusal :=
  let k := railKey rail
  let ev := mkEvent 0x0C sevUnmasked (railSource k) (railDomain k) (0x20 + railKind k) 0
  match rail with
  | .core d | .mesh d | .hbm d | .alwaysOn d => .next (((s.dieStop d).startFail d 0x0C).checkFailed.raise ev)
  | .light l | .photonics l => .next ((((s.lightDark l).portsFailed l).startFail (16 + l.val) 0x0C).raise ev)
  | .stewardA =>
    let s1 : State := { s with sys := { s.sys with a := { s.sys.a with healthy := false, st := 0 } } }.setObj 0x7010 8 0
    .next ((if s.sys.b.st = 0 ∧ s.sys.b.healthy = false then s1.startFailed else s1).raise ev)
  | .stewardB =>
    let s1 : State := { s with sys := { s.sys with b := { s.sys.b with healthy := false, st := 0 } } }.setObj 0x7010 8 0
    .next ((if s.sys.a.st = 0 ∧ s.sys.a.healthy = false then s1.startFailed else s1).raise ev)

/-! ### Idle (R446) -/

/-- The latest time at which a core did something that keeps its die from Idle. -/
def CoreSt.lastBusy (x : CoreSt) : Nat := max (max x.sm.lastAct x.tc.lastRetire) (max x.mx.lastCmd x.vx.lastCmd)

/-- Queues of the die hold no accepted command, no tidy core runs, no move is outstanding (R446). -/
def State.dieQuiet (s : State) (d : Nat) : Bool :=
  (List.range 32).all (fun c =>
    let x := s.core d c
    [0, 1, 2].all (fun e => (x.q e).acc.isEmpty && (x.q e).run.isEmpty) && x.tc.st != .running)
  && !(s.die d).txns.any (fun kv => match kv.2 with | some t => !t.abandoned | none => false)

/-- DIE_IDLE_ENTRY: quiet for 10 µs, while PWR.IDLE_ENABLE is 1. -/
def execDieIdleEntry (die : Fin 16) (s : State) : Host.Outcome State Fault Refusal :=
  let last := (List.range 32).foldl (fun m c => max m (s.core die c).lastBusy) 0
  .next (if s.dieRuns die && (s.die die).pstate == 0 && s.obj 0x2800 1 == 1 && s.dieQuiet die && decide (last + 10 * tickUs ≤ s.time)
    then s.setPower die 1 else s)

/-- DIE_IDLE_EXIT: a Q_TAIL write, a doorbell or an interrupt ungates the die. -/
def execDieIdleExit (die : Fin 16) (s : State) : Host.Outcome State Fault Refusal :=
  .next (if (s.die die).pstate = 1 then s.setPower die 0 else s)

/-! ### Die sleep (R447 to R449) -/

/-- A write of PWR.DIE_SLEEP_REQ. A bit cleared while its die enters sleep is a wake level (R450). -/
def State.sleepReqWrite (s : State) (v : Nat) : Nat × State :=
  let s1 := s.setObj 0x2002 0 v
  (rpOk, (List.range 16).foldl (fun t d =>
    if s.sleepReq d && !v.testBit d && (s.die d).pstate == 2 then t.modDie d (fun x => { x with cleared := some s.time }) else t) s1)

/-- PWR_DIE_SLEEP_REQ. -/
def execPwrDieSleepReq (v : BitVec 16) (s : State) : Host.Outcome State Fault Refusal :=
  .next (s.objRowDone (s.sleepReqWrite v.toNat))

/-- The first refuser of Table 6 of ch.16 that holds at a die; 0 where none does. -/
def State.refuser (s : State) (d : Nat) : Nat :=
  let x := s.die d
  let cs := (List.range 32).map (fun c => s.core d c)
  if cs.any (fun y => [0, 1, 2].any (fun e => !(y.q e).acc.isEmpty || !(y.q e).run.isEmpty)) then 0x01
  else if cs.any (fun y => y.tc.st == .running) then 0x02
  else if x.ko.any (fun kv => koArmed kv.2) || (List.range 16).any (fun i => rsValid (s.rs d i)) then 0x03
  else if x.race.any (fun kv => raceArmed kv.2) then 0x04
  else if (List.range 256).any (fun g => gValid (s.group d g)) then 0x05
  else if x.subst.isSome then 0x06
  else if (s.wakeSince d).isSome then 0x07
  else if (s.spoke d).lost then 0x08
  else if x.step.busy.isSome then 0x09
  else 0

/-- A refused or aborted entry counted, its refuser named (R447, R449). -/
def State.refused (s : State) (d code : Nat) (abort : Bool) : State :=
  let s1 := s.setObj 0x2003 (d + 1) (code + (if abort then 128 else 0))
  (s1.bump 0x2004 code).bump 0x2000 (if abort then 0x0C else 0x0B)

/-- DIE_SLEEP_COMMAND: refused with a refuser named, or entry begins; tried again every 1 ms while the bit stays set. -/
def execDieSleepCommand (die : Fin 16) (s : State) : Host.Outcome State Fault Refusal :=
  let x := s.die die
  if s.dieRuns die && s.sleepReq die && ((s.spoke die).sleepCmd || (s.spoke die).lost) && decide (x.retryAt ≤ s.time) then
    let r := s.refuser die
    if r ≠ 0 then .next ((s.refused die r false).modDie die (fun x => { x with retryAt := s.time + tickMs }))
    else .next ((s.modDie die (fun x => { x with entryAt := some s.time, cleared := none })).setPower die 2)
  else .next s

/-- Pads latch 5.1 µs after the command was accepted (Table 8 of ch.16). -/
def latchTicks : Nat := 1305600

/-- The die is asleep: what the save area does not hold is lost, its leave is released (R448, R449). -/
def State.asleep (s : State) (d : Nat) : State :=
  (((s.dieLost d).setPower d 3).modDie d (fun x => { x with entryAt := none })).dropLeave (fun r => reqDie r == some d)

/-- DIE_SLEEP_ENTRY_DONE: a wake level from before the latch aborts the entry and the die is Active with nothing lost; else the
rails go off and the die sleeps. -/
def execDieSleepEntryDone (die : Fin 16) (s : State) : Host.Outcome State Fault Refusal :=
  let x := s.die die
  match x.entryAt with
  | some t =>
    let early := match s.wakeSince die with | some w => decide (w < t + latchTicks) | none => false
    if x.pstate ≠ 2 ∨ s.pwr.entering ≠ 0 then .next s
    else if early then
      let s1 := ((s.refused die 0x07 true).setPower die 0).modDie die (fun x =>
        { x with entryAt := none, asked := none, cleared := none, retryAt := s.time + tickMs })
      .next ((s1.serveHeld die).dieMoves die)
    else if t + latchTicks ≤ s.time then .next ((s.asleep die).hostEvent 16)
    else .next s
  | none => .next s

/-! ### Die wake (R450, R451) -/

/-- The code of a wake cause (Table 11 of ch.16). -/
def wakeCode : WakeCause → Nat
  | .requestCleared => 1
  | .access => 2
  | .moduleExit => 3

/-- The reason to wake that a cause names is present. -/
def State.wakeReason (s : State) (d : Nat) (c : WakeCause) : Bool :=
  match c with
  | .requestCleared => !s.sleepReq d
  | .access => (s.die d).asked.isSome
  | .moduleExit => decide (3 ≤ s.bootStep) && decide (s.bootStep ≤ 7)

/-- DIE_WAKE: a sleeping die starts to wake and asks for its leave; an access clears the die's own request. No wake is started for
a die whose spoke is lost (R28). -/
def execDieWake (die : Fin 16) (cause : WakeCause) (s : State) : Host.Outcome State Fault Refusal :=
  if (s.die die).pstate = 3 ∧ (s.spoke die).lost = false ∧ s.bootStep ≠ 0x1C ∧ s.wakeReason die cause = true then
    let s1 := if cause = .access ∧ s.sleepReq die then s.setObj 0x2002 0 (s.obj 0x2002 0 - 2 ^ die.val) else s
    let s2 := (s1.modDie die (fun x => { x with cause := wakeCode cause, wakeAt := none, cleared := none })).setPower die 4
    .next (s2.leaveAsk (.dieWake die))
  else .next s

/-- A save area that fails its check is not restored: the core map comes from the die's record, the rest takes its reset value
(R450). -/
def State.saveBad (s : State) (d : Nat) : State :=
  let map := match (mapGet { } s.flash.recs d).best with | some b => b.coreMap | none => []
  ((s.modDie d (fun x => { x with coreMap := map, step := { } })).setMhz d (min 1600 s.clockCap)).raise
    (mkEvent 0x0C sevRecovered d (5 * d + 4) 4 0)

/-- A die is Active: held accesses are served, and a substitution that fell due begins (R399, R450). -/
def State.dieActive (s : State) (d : Nat) : State :=
  let s1 := (s.setPower d 0).modDie d (fun x => { x with asked := none, cleared := none, wakeAt := none, everActive := true, resumed := [0, 1, 2, 3] })
  let s2 := (List.range 32).foldl (fun s c => s.seedCore d c false) s1
  let s3 := match (s2.die d).substDue with
    | c :: _ => (s2.modDie d (fun x => { x with substFirst := true })).substStart d c
    | [] => s2
  ((s3.hbmServeAll d).serveHeld d).dieMoves d

/-- DIE_WAKE_DONE: 66 µs of fixed delays and the retraining of the bundles after the grant of wake leave (Table 9 of ch.16). -/
def execDieWakeDone (die : Fin 16) (saveOk : Bool) (s : State) : Host.Outcome State Fault Refusal :=
  let x := s.die die
  match x.wakeAt with
  | some t =>
    if x.pstate = 4 ∧ x.padsHeld = false ∧ t + 66 * tickUs ≤ s.time then
      .next ((((if saveOk then s else s.saveBad die).trainDie die).dieActive die).hostEvent 16)
    else .next s
  | none => .next s

/-- A write of PWR.PAD_RELEASE: dies that wait at the pad step go on, their later delays running from this write (R451). -/
def State.padRelease (s : State) (v : Nat) : Nat × State :=
  (rpOk, (List.range 16).foldl (fun s d =>
    let x := s.die d
    match x.wakeAt with
    | some t =>
      if v.testBit d && x.padsHeld && decide (t + 63 * tickUs ≤ s.time) then
        s.modDie d (fun x => { x with padsHeld := false, wakeAt := some (s.time - 64 * tickUs) })
      else s
    | none => s) s)

/-- PWR_PAD_RELEASE. -/
def execPwrPadRelease (v : BitVec 16) (s : State) : Host.Outcome State Fault Refusal :=
  .next (s.expertRowDone 0x2800 3 (s.padRelease v.toNat))

/-! ### Module standby (R452 to R454) -/

/-- The module is in standby: step code 0x1C. -/
def State.inStandby (s : State) : Bool := s.bootStep == 0x1C && s.obj 0x2000 7 != 0

/-- A level wake of module standby is present: host wake, or WAKE_N low in level mode. -/
def State.levelWake (s : State) : Bool := s.obj 0x2000 8 == 1 || (s.obj 0x2000 9 == 0 && s.pwr.wakeLow)

/-- Standby ends (R454): start-up is entered at the rail step, and the wake is recorded. -/
def State.standbyExit (s : State) (cause : Nat) : State :=
  let s1 := ((s.setObj 0x2000 7 0).setObj 0x2000 0x0A cause).enterStart 3 2
  { s1 with pwr := { s1.pwr with wakeEdge := none } }.hostEvent 8

/-- The first refuser of module standby with the die it holds at, 16 for the module (R452, Table 6 of ch.16). -/
def State.standbyRefuser (s : State) : Option (Nat × Nat) :=
  match (List.range 16).find? (fun d => (s.die d).pstate != 5 && s.refuser d != 0) with
  | some d => some (s.refuser d, d)
  | none =>
    if s.obj 0x8000 1 = 1 ∨ s.obj 0x8000 1 = 2 then some (0x10, 16)
    else if s.obj 0x2000 8 = 1 then some (0x11, 16)
    else if s.obj 0x2000 9 = 0 ∧ s.pwr.wakeLow = true then some (0x12, 16)
    else none

/-- A write of PWR.MODULE_STATE (R452, R535): 1 or 2 asks for standby. -/
def State.moduleState (s : State) (v : Nat) : Nat × State :=
  if v ≠ 1 ∧ v ≠ 2 then (rpRange, s)
  else if s.bootStep ≠ 12 ∨ s.pwr.entering ≠ 0 then (rpState, s)
  else match s.standbyRefuser with
  | some (code, d) =>
    (rpState, if d < 16 then s.refused d code false else (s.bump 0x2004 code).bump 0x2000 0x0B)
  | none =>
    let s1 := (List.range 16).foldl (fun s d => if s.dieRuns d then
      (s.modDie d (fun x => { x with entryAt := some s.time })).setPower d 2 else s) (s.setObj 0x2000 7 v)
    (rpOk, { s1 with pwr := { s1.pwr with entering := v, enterAt := s.time } })

/-- PWR_MODULE_STATE. -/
def execPwrModuleState (v : BitVec 8) (s : State) : Host.Outcome State Fault Refusal :=
  .next (s.objRowDone (s.moduleState v.toNat))

/-- A die in module standby: everything but kept stack IDs is lost. -/
def State.dieStandby (s : State) (d kept : Nat) : State :=
  if (s.die d).pstate = 5 then s
  else
    let s1 := ((s.asleep d).hbmLost d kept).modDie d (fun x => { x with everActive := false, heldActs := [], hbmWait := [], asked := none, cleared := none })
    s1.serveOrdered

/-- The module has left play by a stop that keeps the dictionary: a fenced one stays fenced, any other is UNJOINED (R452,
R536). -/
def State.unjoin (s : State) : State :=
  let s1 := if s.fenced then s else (s.setObj 0x8000 1 0).setObj 0x8000 3 0
  s.levelNote { s1 with flt := { s1.flt with ump := { }, svc := if s.fenced then s1.flt.svc else false }, gt := { } }

/-- MODULE_STANDBY_DONE: dies and light dies are off, READY has fallen. A wake that is present at the end starts the exit; an
edge in the last 80 ns is lost (R452 to R454). -/
def execModuleStandbyDone (s : State) : Host.Outcome State Fault Refusal :=
  if s.pwr.entering = 0 then .next s
  else
    let kept := if s.pwr.entering = 2 then s.obj 0x6022 0 else 0
    let s1 := (List.range 16).foldl (fun s d => s.dieStandby d kept) s.leaveReady
    let s2 := s1.panelDark.unjoin
    let edge := match s.pwr.wakeEdge with | some t => decide (t + 80 * tickNs ≤ s.time) | none => false
    let s3 : State := { s2 with pwr := { s2.pwr with entering := 0, kept := kept, wakeEdge := none } }
    let s4 := s3.setStep 0x1C
    .next (if s.obj 0x2000 8 = 1 then s4.standbyExit 1 else if s4.levelWake || edge then s4.standbyExit 2 else s4)

/-- A write of PWR.HOST_WAKE (R454): once set, it stays until host software writes 0 while PWR.MODULE_STATE reads 0. -/
def State.hostWake (s : State) (v : Nat) : Nat × State :=
  if 1 < v then (rpRange, s)
  else if v = 0 then (if s.obj 0x2000 7 = 0 then (rpOk, s.setObj 0x2000 8 0) else (rpState, s))
  else
    let s1 := s.setObj 0x2000 8 1
    (rpOk, if s.inStandby && !s.pwr.brown then s1.standbyExit 1 else s1)

/-- PWR_HOST_WAKE. -/
def execPwrHostWake (v : BitVec 8) (s : State) : Host.Outcome State Fault Refusal :=
  .next (s.objRowDone (s.hostWake v.toNat))

/-- WAKE_N: low in level mode, or a falling edge in edge mode, ends standby; an edge during entry is kept for its end. -/
def execWakeN (low : Bool) (s : State) : Host.Outcome State Fault Refusal :=
  let fall := low && !s.pwr.wakeLow
  let edgeMode := s.obj 0x2000 9 == 1
  let s1 : State := { s with pwr := { s.pwr with
    wakeLow := low, wakeEdge := if edgeMode && fall && s.pwr.entering != 0 then some s.time else s.pwr.wakeEdge } }
  .next (if s.inStandby && !s.pwr.brown && (if edgeMode then fall else low) then s1.standbyExit 2 else s1)

/-! ### Input limits (R434, R435) -/

/-- Power-off, or the analogue trip: flash alone keeps its contents; what is outside the module, and the time, stay. -/
def State.cold (s : State) : State :=
  { time := s.time, draw := s.draw, flash := s.flash, out := s.out, pending := s.pending }

/-- Everything is off, the steward's rail too (Table 5 of ch.16). -/
def State.powerOff (s : State) : State :=
  let s1 := s.cold
  { s1 with boot := { s1.boot with off := true } }

/-- Input below 50 V for 100 µs: every compute and light die stops as in the normal variant of standby; FATAL (R435). -/
def State.brownOut (s : State) : State :=
  let s1 := s.leaveReady.allStop.unjoin
  let s2 := ((s1.setStep 0x1C).setObj 0x2000 7 1).raise (powerEvent sevFatal 3 0)
  { s2 with pwr := { s2.pwr with brown := true, entering := 0, kept := 0 } }

/-- What the input, as measured, calls for: below 40 V the steward itself goes off (R435), and below 50 V for 100 µs the dies stop. Where
they have stopped and the input is back, a level wake that is present ends standby (R454). -/
def State.inputAct (s : State) (mv : Nat) (since : Option Nat) (wasBrown : Bool) : State :=
  if mv < 40000 then s.powerOff
  else
    let due := match since with | some t => decide (t + 100 * tickUs ≤ s.time) | none => false
    if due && !wasBrown then s.brownOut
    else if wasBrown && !s.pwr.brown && s.inStandby && s.levelWake then s.standbyExit (if s.obj 0x2000 8 = 1 then 1 else 2)
    else s

/-- INPUT_MONITOR: voltage in mV, input power in W averaged over 1 ms, 10 µs and 1 s, input current in A. -/
def execInputMonitor (mv w1ms w10us w1s amps : Nat) (s : State) : Host.Outcome State Fault Refusal :=
  let lim := s.obj 0x2000 6
  let over_ := decide (lim < w1s) || decide (13500 < w10us) || decide (250 < amps)
  let calm := decide (100 * w1s ≤ 95 * lim) && decide (100 * w10us ≤ 95 * 13500) && decide (100 * amps ≤ 95 * 250)
  let low := decide (mv < 54000)
  let high := decide (72000 < mv)
  let p := s.pwr
  let s1 := (s.setObj 0x2000 1 (mv % 2 ^ 32)).setObj 0x2000 2 (w1ms % 2 ^ 32)
  let since := if mv < 50000 then some (p.lowSince.getD s.time) else none
  let s2 : State := { s1 with pwr := { p with
    overLimit := over_, low := low, high := high, lowSince := since, brown := p.brown && low
    calmSince := if calm then some (p.calmSince.getD s.time) else none } }
  let s3 := if low && !p.low then s2.raise (powerEvent sevAdvisory 1 mv) else s2
  let s4 := if high && !p.high then s3.raise (powerEvent sevAdvisory 2 mv) else s3
  .next (s4.inputAct mv since p.brown)

end Sys2Proof.Machine
end

