-- ==== Sys2Proof/Machine/Thermal.lean ====
section
/-! DEFINITION. Thermal (ch.17): sensors, thresholds, the throttle loop of each compute die, shut-down, trip records, coolant.
Temperatures are in units of 0.1 °C; parts are numbered as in Table 4 of ch.17. -/

namespace Sys2Proof.Machine

/-- The source that the log names for a part, and the compute die of a die or a stack. -/
def partSource (p : Nat) : Nat := if p < 16 then p else if p < 80 then (p - 16) / 4 else if p < 88 then 16 + (p - 80) else 24

/-- Warning, throttle and shut-down thresholds of a part (Table 2 of ch.17). -/
def State.warnAt (s : State) (p : Nat) : Int :=
  if p < 16 then min 950 (s.obj 0x3800 1 : Int) else if p < 80 then 900 else if p < 88 then 950 else 1000
def throttleAt (p : Nat) : Option Int := if p < 16 then some 1000 else if p < 80 then some 950 else none
def shutAt (p : Nat) : Int := if p < 16 then 1150 else if p < 80 then 1050 else 1100

/-- The hottest valid sensor of a part and its number. -/
def State.hotOf (s : State) (p : Nat) : Option (Int × Nat) := mapGet none s.thm.hot p

/-- The object that shows a part's temperature (Table 7 of ch.17). -/
def partObj (p : Nat) : Nat × Nat :=
  if p < 16 then (0x3001, p + 1) else if p < 80 then (0x3002, p - 15) else if p < 88 then (0x3003, p - 79) else (0x3000, 4)

/-! ### Sensors (R457, R458) -/

/-- Twice the median of some readings. -/
def median2 (ts : List Int) : Int :=
  let l := ts.mergeSort (fun a b => decide (a ≤ b))
  let n := l.length
  if n = 0 then 0 else l.getD ((n - 1) / 2) 0 + l.getD (n / 2) 0

/-- A sensor's key. -/
def sensorKey (p i : Nat) : Nat := 32 * p + i

/-- A reading lies outside -40 °C to 150 °C. -/
def outOfRange (t : Int) : Bool := decide (t < -400) || decide (1500 < t)

/-- One reading judged: a sensor fails out of range, or after 1 ms at more than 15 °C from its part's median (R458). -/
def State.judgeSensor (s : State) (p : Nat) (med2 : Int) (i : Nat) (t : Int) : State :=
  let k := sensorKey p i
  if s.thm.failed.contains k then s
  else
    let far := decide (300 < (2 * t - med2).natAbs)
    let since := mapGet 0 s.thm.apart k
    let fails := outOfRange t || (far && since != 0 && decide (since - 1 + tickMs ≤ s.time))
    if fails then
      { s with thm := { s.thm with failed := setIns k s.thm.failed } }.raise (mkEvent 0x14 sevAdvisory (partSource p) i 1 p)
    else
      { s with thm := { s.thm with apart := mapSet 0 s.thm.apart k (if far then (if since = 0 then s.time + 1 else since) else 0) } }

/-- The hottest of the sensors of a part that have not failed. -/
def State.hottestValid (s : State) (p : Nat) (temps : List Int) : Option (Int × Nat) :=
  temps.zipIdx.foldl (fun b x =>
    if s.thm.failed.contains (sensorKey p x.2) then b
    else match b with
      | some y => if y.1 < x.1 then some x else b
      | none => some x) none

/-- A latch with its threshold and a release 5 °C below (R459): after a reading. -/
def crossed (l : List Nat) (p : Nat) (thr t : Int) : List Nat :=
  if thr ≤ t then setIns p l else if t < thr - 50 then l.filter (· != p) else l

/-- The warning threshold: ALERT_N and an ADVISORY entry once per crossing (R459). -/
def State.warnLatch (s : State) (p : Nat) (t : Int) : State :=
  let l := crossed s.thm.warn p (s.warnAt p) t
  let s1 : State := { s with thm := { s.thm with warn := l } }
  if l.contains p && !s.thm.warn.contains p then s1.raise (mkEvent 0x14 sevAdvisory (partSource p) 0xFF 2 (tempCode t)) else s1

/-- The throttle threshold of a compute die or a stack. -/
def State.throttleLatch (s : State) (p : Nat) (t : Int) : State :=
  match throttleAt p with
  | some thr =>
    let l := crossed s.thm.hotParts p thr t
    let new := l.contains p && !s.thm.hotParts.contains p
    { s with thm := { s.thm with hotParts := l, fresh := if new then setIns (partSource p) s.thm.fresh else s.thm.fresh } }
  | none => s

/-- φ of a die set; the time below 100 % is kept (R462). -/
def State.setPhi (s : State) (d v : Nat) : State :=
  let x := s.die d
  let s1 := (s.modDie d (fun x => { x with factor := v, phiAt := s.time })).setObj 0x3004 (d + 1) v
  match x.throtSince with
  | none => if v < 100 then s1.modDie d (fun x => { x with throtSince := some s.time }) else s1
  | some t =>
    if v < 100 then s1
    else
      let old := x.throt.filter (fun r => decide (s.time < r.2 + 60 * tickS))
      s1.modDie d (fun x => { x with throtSince := none, throt := old ++ [(t, s.time)], throtAcc := x.throtAcc + (s.time - t) })

/-- THERMAL_SENSOR_SAMPLE. Where the last sensor of a compute die or of a stack has failed, the die holds φ at 50 % (R458). -/
def execThermalSensorSample (part : Fin 89) (temps : List Int) (s : State) : Host.Outcome State Fault Refusal :=
  let p := part.val
  if temps.isEmpty then .next s
  else
    let good := (temps.zipIdx.filter (fun x => !s.thm.failed.contains (sensorKey p x.2))).map (·.1)
    let med := median2 good
    let s1 := temps.zipIdx.foldl (fun s x => s.judgeSensor p med x.2 x.1) s
    let h := s1.hottestValid p temps
    let s2 : State := { s1 with thm := { s1.thm with hot := mapSet none s1.thm.hot p h } }
    match h with
    | some x => .next (((s2.setObj (partObj p).1 (partObj p).2 (tempCode x.1)).warnLatch p x.1).throttleLatch p x.1)
    | none =>
      let s3 := s2.setObj (partObj p).1 (partObj p).2 (tempCode (-32768))
      .next (if !good.isEmpty ∧ p < 80 then (s3.raise (mkEvent 0x14 sevDegraded (partSource p) 0xFF 3 p)).setPhi (partSource p) 50 else s3)

/-! ### Throttling (R460 to R462) -/

/-- Every sensor of the die, or of one of its stacks, has failed (R458). -/
def State.blind (s : State) (d : Nat) : Bool :=
  (List.range 24).all (fun i => s.thm.failed.contains (sensorKey d i))
  || (List.range 4).any (fun k => (List.range 16).all (fun i => s.thm.failed.contains (sensorKey (16 + 4 * d + k) i)))

/-- φ after an evaluation (R460, R467): the fall, the rise and the hold, the floor of a blind die, the cap of low flow. -/
def State.phiNext (s : State) (d : Nat) : Nat :=
  let x := s.die d
  let hbms := (List.range 4).map (fun k => 16 + 4 * d + k)
  let hot := s.thm.hotParts.contains d || hbms.any (fun p => s.thm.hotParts.contains p)
  let below (p : Nat) (t : Int) : Bool := match s.hotOf p with | some h => decide (h.1 < t) | none => true
  let cool := below d 950 && hbms.all (fun p => below p 900)
  let v := if hot then max 50 (x.factor - 5) else if cool then min 100 (x.factor + 5) else x.factor
  if s.blind d then 50 else if s.thm.cap then min v 75 else v

/-- THROTTLE_EVALUATE: every 1 ms, and at once after a crossing; the die's always-on controller runs it without the steward. -/
def execThrottleEvaluate (die : Fin 16) (s : State) : Host.Outcome State Fault Refusal :=
  let d := die.val
  let x := s.die d
  if x.pstate ≠ 5 ∧ (s.thm.fresh.contains d ∨ x.phiAt + tickMs ≤ s.time) then
    let s1 : State := { s with thm := { s.thm with fresh := s.thm.fresh.filter (· != d) } }
    .next (s1.setPhi d (s.phiNext d))
  else .next s

/-! ### Shut-down (R463 to R465) -/

/-- A module that takes itself out of play at once: everything stops, the fence stands with cause FORCED. -/
def State.stopFenced (s : State) (code : Nat) : State :=
  (((s.leaveReady.fence 3).setObj 0x8000 2 3).allStop).setStep code

/-- THERMAL_SHUTDOWN: the hottest sensor of a part reads at or above its shut-down threshold. THERMTRIP_N is asserted while the
trip stands. -/
def execThermalShutdown (part : Fin 89) (sensor : BitVec 8) (s : State) : Host.Outcome State Fault Refusal :=
  match s.hotOf part, s.thm.trip with
  | some (t, i), none =>
    if shutAt part ≤ t ∧ i = sensor.toNat then
      let n := (s.obj 0x3000 5 + 1) % 2 ^ 32
      let s1 := (s.stopFenced 0x1D).setObj 0x3000 5 n
      .next { s1 with thm := { s1.thm with trip := some { gt := s.gtNow, part := part.val, sensor := i, temp := t, at_ := s.time } }
                      flash := { s1.flash with fixed := mapSet 0 s1.flash.fixed (objKey 0x3000 5) n } }
    else .next s
  | _, _ => .next s

/-- The hottest temperature of a compute die in 6 bits of 2 °C. -/
def dieMax (s : State) (d : Nat) : Nat :=
  match s.hotOf d with | some h => min 63 (h.1 / 20).toNat | none => 0

/-- A trip record (Table 4 of ch.17). -/
def State.tripRecord (s : State) (t : Trip) : BitVec 512 :=
  let maxes := (List.range 16).foldl (fun n d => n + field (256 + 6 * d) (dieMax s d)) 0
  BitVec.ofNat 512 (field 448 (t.gt % 2 ^ 64) + field 440 t.part + field 432 (t.sensor % 256) + field 416 (unsigned 16 t.temp)
    + field 400 (s.obj 0x3000 1 % 65536) + field 384 (s.obj 0x3000 2 % 65536) + field 368 (s.obj 0x3000 3 % 65536)
    + field 352 (s.obj 0x2000 2 % 65536) + maxes)

/-- TRIP_RECORD_WRITE: the record goes to flash, the newest of 16, and a FATAL entry is raised. -/
def execTripRecordWrite (s : State) : Host.Outcome State Fault Refusal :=
  match s.thm.trip with
  | some t =>
    if t.written then .next s
    else
      let s1 : State := { s with flash := { s.flash with trips := (s.tripRecord t :: s.flash.trips).take 16 }
                                 thm := { s.thm with trip := some { t with written := true } } }
      .next (s1.raise (mkEvent 0x14 sevFatal (partSource t.part) t.sensor 4 t.part))
  | none => .next s

/-- ANALOGUE_TRIP: every rail is off, the steward's included; no record is written (R463). -/
def execAnalogueTrip (s : State) : Host.Outcome State Fault Refusal :=
  .next s.powerOff

/-- Every valid sensor reads below its shut-down threshold less 5 °C. -/
def State.cooled (s : State) : Bool := s.thm.hot.all (fun kv => match kv.2 with | some h => decide (h.1 < shutAt kv.1 - 50) | none => true)

/-- The coolant as last sampled lies within Table 5 of ch.17. -/
def State.coolantOk (s : State) : Bool :=
  let t := signed 32 (s.obj 0x3000 1)
  let f := s.obj 0x3000 3
  decide (150 ≤ t) && decide (t ≤ 350) && decide (1200 ≤ f) && decide (f ≤ 2000)

/-- A write of THM.TRIP_CLEAR (R465). -/
def State.tripClear (s : State) (v : Nat) : Nat × State :=
  if v ≠ 1 then (rpRange, s)
  else if s.thm.trip.isNone ∨ s.cooled = false ∨ s.coolantOk = false then (rpState, s)
  else (rpOk, { s with thm := { s.thm with trip := none } }.unjoin.enterStart 3 3)

/-- THM_TRIP_CLEAR. -/
def execThmTripClear (v : BitVec 8) (s : State) : Host.Outcome State Fault Refusal :=
  .next (s.objRowDone (s.tripClear v.toNat))

/-! ### Coolant (R467) -/

/-- φ of every die capped at 75 %. -/
def State.capPhi (s : State) : State :=
  (List.range 16).foldl (fun s d => if 75 < (s.die d).factor then s.setPhi d 75 else s) s

/-- What the coolant sensors have shown so far, with a new sample. -/
def ThmSt.coolant (m : ThmSt) (now : Nat) (inlet : Int) (flow : Nat) : ThmSt :=
  let bad := decide (350 < inlet) || decide (flow < 1200)
  { m with badSince := if bad then some (m.badSince.getD now) else none
           lowSince := if flow < 800 then some (m.lowSince.getD now) else none
           okSince := if 1000 ≤ flow then some (m.okSince.getD now) else none
           badLogged := m.badLogged && bad, coolFailed := false }

/-- A condition has stood for a time. -/
def stood (since : Option Nat) (n now : Nat) : Bool := match since with | some t => decide (t + n ≤ now) | none => false

/-- COOLANT_SAMPLE. -/
def execCoolantSample (inlet outlet : Int) (flow : Nat) (ok : Bool) (s : State) : Host.Outcome State Fault Refusal :=
  if !ok then
    let s1 : State := { s with thm := { s.thm with coolFailed := true } }
    .next (if s.thm.coolFailed then s1 else s1.raise (mkEvent 0x14 sevAdvisory 24 0xFF 5 0))
  else
    let m := s.thm.coolant s.time inlet flow
    let s1 := (((s.setObj 0x3000 1 (tempCode inlet)).setObj 0x3000 2 (tempCode outlet)).setObj 0x3000 3 (flow % 2 ^ 32))
    let bad := stood m.badSince tickS s.time
    let low := stood m.lowSince tickS s.time
    let cap := (m.cap || low) && !stood m.okSince (10 * tickS) s.time
    let s2 : State := { s1 with thm := { m with badLogged := bad, cap := cap } }
    let s3 := if bad && !m.badLogged then s2.raise (mkEvent 0x14 sevAdvisory 24 0xFF 6 (tempCode inlet)) else s2
    .next (if cap && !m.cap then (s3.capPhi).raise (mkEvent 0x14 sevDegraded 24 0xFF 7 flow) else s3)

end Sys2Proof.Machine
end

