-- ==== Sys2Proof/Machine/Umpire.lean ====
section
/-! DEFINITION. The steward's part in ch.15: taking events into the error log (R407, R409), the membership view and the umpire
(R411 to R423), the scorecard and degraded service (R424 to R428). -/

namespace Sys2Proof.Machine

/-! ### The view (R411) -/

/-- FLT.MEMBER_STATE: 0 UNJOINED, 1 JOINING, 2 IN, 3 FENCED. -/
def State.memberState (s : State) : Nat := s.obj 0x8000 1

/-- The places of FLT.UMPIRES in order. -/
def State.umpirePlaces (s : State) : List Nat := [s.obj 0x8001 1, s.obj 0x8001 2, s.obj 0x8001 3, s.obj 0x8001 4]

/-- The listed modules. -/
def State.umpireList (s : State) : List Nat := s.umpirePlaces.filter (· != 0xFFFF)

/-- FLT.LIST_DIGEST: the digest of R361 with GID 0 over the four entries. -/
def State.umpireDigest (s : State) : Nat := (listDigest 0 s.umpirePlaces).toNat

/-- The n-th listed module that is not out. -/
def State.umpireAt (s : State) (n : Nat) : Nat :=
  ((s.umpireList.filter (fun m => !s.flt.out.contains m))[n]?).getD 0xFFFF

/-- FLT.UMPIRE_NOW and FLT.BACKUP_NOW; 0xFFFF while no view is held (epoch 0, DEDUCED). -/
def State.umpireNow (s : State) : Nat := if s.epoch = 0 then 0xFFFF else s.umpireAt 0
def State.backupNow (s : State) : Nat := if s.epoch = 0 then 0xFFFF else s.umpireAt 1

/-- This module is in play and is the umpire, or the backup. -/
def State.isUmpire (s : State) : Bool := s.memberState == 2 && s.hasId && s.umpireNow == s.moduleId
def State.isBackup (s : State) : Bool := s.memberState == 2 && s.hasId && s.backupNow == s.moduleId

/-- An umpire frame that carries a digest agrees with the own list; a mismatch is logged once (R411). -/
def State.digestOk (s : State) (g : Nat) : Bool := g == s.umpireDigest

/-- The mismatch logged, once. -/
def State.digestBad (s : State) (g : Nat) : State :=
  if s.flt.ump.digestLogged then s
  else { s with flt := { s.flt with ump := { s.flt.ump with digestLogged := true } } }.raise (moduleEvent 0x0E sevNote 0 g)

/-- What the module keeps under the umpire changed. -/
def State.modUmp (s : State) (f : UmpSt → UmpSt) : State := { s with flt := { s.flt with ump := f s.flt.ump } }

/-! ### Partners (R413, R414) -/

/-- Ticks of 8.1 µs. -/
def whistleGap : Nat := 2073600

/-- Ports that a whistle of module m has reached last. -/
def State.portsTo (s : State) (m : Nat) : List Nat :=
  (List.range 128).filter (fun p => (s.gtPort p).seen && (s.gtPort p).pmod.toNat == m)

/-- A whistle has come on the port within the last 8.1 µs. -/
def State.heardOn (s : State) (p : Nat) : Bool := decide (s.time ≤ (s.gtPort p).at_ + whistleGap)

/-- Partner m is reached by a port that is UP, DEGRADED or SIGNAL_ONLY, and has been heard, on any port (R413). -/
def State.isActive (s : State) (m : Nat) : Bool :=
  m != 0xFFFF && !s.flt.out.contains m && (s.portsTo m).any s.heardOn
  && (s.portsTo m).any (fun p => s.portSt p == 3 || s.portSt p == 4 || s.portSt p == 5)

/-- The active link partners; one reached by several ports counts once (R413). -/
def State.activePartners (s : State) : List Nat :=
  ((List.range 128).filter (fun p => (s.gtPort p).seen)).foldl (fun l p =>
    let m := (s.gtPort p).pmod.toNat
    if s.isActive m then setIns m l else l) []

/-- The module suspects partner m (R414): no whistle on any of its ports for 8.1 µs. A port under a pause notice does not count
during the pause, so its whistles are missed from the end of the pause on. -/
def State.suspects (s : State) (m : Nat) : Bool :=
  let ps := (s.portsTo m).filter (fun p => decide ((s.port p).pauseUntil ≤ s.time))
  m != 0xFFFF && !ps.isEmpty && (s.portsTo m).all (fun p => !s.heardOn p)
  && ps.all (fun p => decide ((s.port p).pauseUntil + whistleGap < s.time))

/-! ### Frames (Table 4 of ch.15) -/

/-- Ports that can carry a link frame of class 0. -/
def State.openPorts (s : State) : List Nat := (List.range 128).filter s.linkUp

/-- A link frame sent on every port but one. -/
def State.flood (s : State) (f : BitVec 256) (but : Nat) : State :=
  (s.openPorts.filter (· != but)).foldl (fun s p => s.sendFrame p f) s

/-- A routed frame from the steward to a module; 0xFFFF names none. -/
def State.sendSteward (s : State) (kind dst body : Nat) : State :=
  if dst = 0xFFFF then s else s.sendNode 0 0 (BitVec.ofNat 256 (field 248 kind + field 216 dst + body))

/-- A routed frame to the umpire and to the backup. -/
def State.sendBoth (s : State) (kind body : Nat) : State := (s.sendSteward kind s.umpireNow body).sendSteward kind s.backupNow body

/-- A routed frame that stands at the steward is taken. -/
def State.takeSteward (s : State) (kind : Nat) (f : BitVec 256) : Option State :=
  if fKind f = kind ∧ s.fab.frames.contains (24, f) then
    some { s with fab := { s.fab with frames := s.fab.frames.erase (24, f) } }
  else none

/-- An ACCUSE, with or without CLEAR. -/
def State.sendAccuse (s : State) (m : Nat) (clear : Bool) : State := s.sendBoth 0x10 (field 112 m + field 111 clear.toNat)

/-- ROSTER to the umpire and the backup, with A and REGION kept (R413). -/
def State.sendRoster (s : State) : State :=
  let a := s.activePartners.length
  let r := s.obj 0x8000 6
  (s.sendBoth 0x11 (field 120 (a % 256) + field 104 r)).modUmp (fun u =>
    { u with rosterLast := (a, r), rosterAt := s.time, rosterDue := false })

/-- An ANSWER of the umpire: KIND answered and the answer (0 GRANTED, 1 DEGRADE, 2 HELD, 3 REFUSED). -/
def State.sendAnswer (s : State) (m kind ans : Nat) : State := s.sendSteward 0x16 m (field 120 kind + field 112 ans)

/-- A WITHDRAW to the umpire (R426, R428). -/
def State.sendWithdraw (s : State) (force go : Bool) : State :=
  (s.sendSteward 0x14 s.umpireNow (field 127 force.toNat + field 126 go.toNat + field 96 (s.obj 0x8000 6) + field 86 (s.obj 0x8000 4 % 1024))).modUmp
    (fun u => { u with askedAt := s.time })

/-- An EPOCH_REQ on a port: the first epoch wanted, 0 for the whole view. -/
def State.sendEpochReq (s : State) (p e : Nat) : State :=
  if s.fenced then s else s.sendFrame p (BitVec.ofNat 256 (field 248 0x17 + field 216 (e % 2 ^ 32)))

/-! ### Records (R416, R417) -/

def recEpoch (f : BitVec 256) : Nat := bits f 247 216
def recOut (f : BitVec 256) : Bool := bits f 215 212 == 1
def recCause (f : BitVec 256) : Nat := bits f 211 208
def recSubject (f : BitVec 256) : Nat := bits f 207 192
def recUmpire (f : BitVec 256) : Nat := bits f 191 176
def recDigest (f : BitVec 256) : Nat := bits f 95 32
def recBase (f : BitVec 256) : Nat := bits f 31 0

/-- Epoch a is later than b, as signed 32-bit differences order them (R296). -/
def laterEpoch (a b : Nat) : Bool := decide (0 < (BitVec.ofNat 32 a - BitVec.ofNat 32 b).toInt)

/-- The view changes: FAB.EPOCH, the out set; remote line caches are invalidated (R344) and collectives that have lost a member
end (R384). -/
def State.setView (s : State) (e : Nat) (out : List Nat) : State :=
  let s1 : State := { s.setObj 0x5000 2 e with flt := { s.flt with out := out } }
  (List.range 16).foldl (fun s d => s.collLost d) s1.rlcClear

/-- The umpire's tables of a module that becomes umpire: every module it knows a ROSTER of and that is not out has joined
(DEDUCED). -/
def State.becomeUmpire (s : State) : State :=
  s.modUmp (fun u => { u with umpireAt := s.time, beaconAt := s.time, joined := u.rosters.foldl (fun m kv =>
    if s.flt.out.contains kv.1 ∨ mapGet 0 m kv.1 ≠ 0 then m else mapSet 0 m kv.1 (kv.2.2 + 1)) u.joined })

/-- A record applied to the view. A module it names out is fenced, but for a module that is only joining and whose JOIN was
answered by the send-off (cause RESTART, R422). -/
def State.applyRecord (s : State) (f : BitVec 256) : State :=
  let m := recSubject f
  let out := if recOut f then setIns m s.flt.out else s.flt.out.filter (· != m)
  let was := (s.umpireNow, s.backupNow)
  let s1 := (s.setView (recEpoch f) out).modUmp (fun u => { u with records := (f :: u.records).take 64 })
  let s2 := if recOut f then s1.bump 0x8002 8 else s1
  let s3 := if (s2.umpireNow, s2.backupNow) ≠ was then s2.modUmp (fun u => { u with rosterDue := true }) else s2
  let s4 := if !(s.isUmpire) && s3.isUmpire then s3.becomeUmpire else s3
  if recOut f ∧ s.hasId ∧ m = s.moduleId ∧ ¬ (recCause f = 5 ∧ s.memberState ≤ 1) then s4.fence (recCause f) else s4

/-- Records above an epoch are voided and the view is restored (R417). -/
def State.voidAbove (s : State) (e : Nat) : State :=
  let gone := s.flt.ump.records.filter (fun f => laterEpoch (recEpoch f) e)
  let out := gone.foldl (fun o f => if recOut f then o.filter (· != recSubject f) else setIns (recSubject f) o) s.flt.out
  let s1 := (s.setObj 0x5000 2 (if gone.isEmpty then s.epoch else e)).modUmp (fun u =>
    { u with records := u.records.filter (fun f => !laterEpoch (recEpoch f) e), early := u.early.filter (fun f => !laterEpoch (recEpoch f) e) })
  { s1 with flt := { s1.flt with out := out } }

/-- A record is a takeover for a module whose view stands at its BASE (R417). -/
def State.takeoverOk (s : State) (f : BitVec 256) : Bool :=
  recOut f && recEpoch f == (recBase f + 256) % 2 ^ 32 && s.epoch == recBase f && recUmpire f == s.backupNow && recSubject f == s.umpireNow
  && s.backupNow != 0xFFFF

/-- A record adopted now, none where it is not the next one of the view's umpire and no takeover. -/
def State.adopt (s : State) (f : BitVec 256) : Option State :=
  if recBase f = 0 then
    if recEpoch f = (s.epoch + 1) % 2 ^ 32 ∧ recUmpire f = s.umpireNow ∧ s.umpireNow ≠ 0xFFFF then some (s.applyRecord f) else none
  else if recEpoch f == (recBase f + 256) % 2 ^ 32 && !laterEpoch (recBase f) s.epoch && laterEpoch (recEpoch f) s.epoch then
    let s1 := s.voidAbove (recBase f)
    if s1.takeoverOk f then some (s1.applyRecord f) else none
  else none

/-- Held records that have become the next ones are adopted and sent on. -/
def State.adoptEarly : Nat → State → State
  | 0, s => s
  | n + 1, s =>
    match s.flt.ump.early.find? (fun f => recEpoch f == (s.epoch + 1) % 2 ^ 32) with
    | none => s
    | some f =>
      let s1 := s.modUmp (fun u => { u with early := u.early.erase f })
      match s1.adopt f with
      | some s2 => State.adoptEarly n (s2.flood f 128)
      | none => State.adoptEarly n s1

/-- A record of a declaration: ACTION, CAUSE, SUBJECT, epoch, BASE (Table 4). UMPIRE is the module that decides; BACKUP the one
that follows it under the new view. -/
def State.record (s : State) (out : Bool) (cause subject e base : Nat) : BitVec 256 :=
  let gone := if out then setIns subject s.flt.out else s.flt.out.filter (· != subject)
  let next := ((s.umpireList.filter (fun m => !gone.contains m && m != s.moduleId))[0]?).getD 0xFFFF
  BitVec.ofNat 256 (field 248 0x12 + field 216 e + field 212 (if out then 1 else 2) + field 208 cause + field 192 subject
    + field 176 s.moduleId + field 160 next + field 96 s.gtNow + field 32 s.umpireDigest + base)

/-- A declaration by this module: the record goes out on every port and is adopted (R416). -/
def State.declare (s : State) (out : Bool) (cause subject : Nat) (base : Nat := 0) : State :=
  let e := (s.epoch + (if base = 0 then 1 else 256)) % 2 ^ 32
  let f := s.record out cause subject e base
  (s.flood f 128).applyRecord f

/-! ### Degraded service (R427) -/

/-- FLT.SERVICE changes; in degraded and in withdrawing service the clock caps hold. -/
def State.setService (s : State) (v : Nat) : State :=
  let s1 := s.levelNote { s.setObj 0x8000 3 v with flt := { s.flt with svc := v != 0 } }
  if v = 0 then s1 else s1.capClocks

/-! ### Rows: the log -/

/-- Entries whose actions are suspended by a withdrawal show HELD: core-logic entries of a core whose substitution has been called
for and has not switched its map (R409). -/
def State.holdEntries (s : State) : State :=
  let busy (e : LogEntry) : Bool := e.open_ s.time && decide (leSite e.word ≤ 4) && decide (leSource e.word < 16)
    && (s.substituting (leSource e.word) (leUnit e.word) || (s.die (leSource e.word)).substDue.contains (leUnit e.word))
  { s with flt := { s.flt with log := s.flt.log.map (fun kv => (kv.1, kv.2.map (fun e =>
    if busy e then { e with word := putBit e.word 217 true } else e))) } }

/-- The suspended actions resume. -/
def State.resumeEntries (s : State) : State :=
  { s with flt := { s.flt with log := s.flt.log.map (fun kv => (kv.1, kv.2.map (fun e => { e with word := putBit e.word 217 false }))) } }

/-- A forced withdrawal is asked for; lower actions are suspended until it is answered (R409, R428). -/
def State.forceOut (s : State) : State :=
  ((s.sendWithdraw true false).modUmp (fun u => { u with forced := some (u.forced.getD s.time), forceDue := false })).holdEntries

/-- What an UNMASKED entry calls for: a forced withdrawal at once, or on joining (R428, R541). -/
def State.unmasked (s : State) : State :=
  if s.memberState = 2 then s.forceOut
  else if s.fenced then s
  else s.modUmp (fun u => { u with forceDue := true })

/-- ERROR_LOG_EVENT: the steward, while the ball is held, takes a raised event into the log and takes its actions. -/
def execErrorLogEvent (ev : Event) (s : State) : Host.Outcome State Fault Refusal :=
  match s.sys.ball, s.flt.raised.find? (fun r => r.ev == ev) with
  | some _, some r =>
    let s1 : State := { s with flt := { s.flt with raised := s.flt.raised.erase r } }
    let p := s1.alarmDate r
    let s2 := (p.2.logEvent p.1).2
    .next (if ev.sev.toNat = sevUnmasked then s2.unmasked else s2)
  | _, _ => .next s

/-! ### Rows: suspicion and quorum -/

/-- PARTNER_SUSPECT: ACCUSE at once and every 10 µs (R414). -/
def execPartnerSuspect (m : BitVec 16) (s : State) : Host.Outcome State Fault Refusal :=
  let last := mapGet 0 s.flt.ump.suspects m.toNat
  if s.memberState = 2 ∧ s.suspects m.toNat ∧ (last = 0 ∨ last - 1 + 10 * tickUs ≤ s.time) then
    .next ((s.sendAccuse m.toNat false).modUmp (fun u => { u with suspects := mapSet 0 u.suspects m.toNat (s.time + 1) }))
  else .next s

/-- A module is in play as the umpire holds it. -/
def State.inPlay (s : State) (m : Nat) : Bool := mapGet 0 s.flt.ump.joined m != 0 && !s.flt.out.contains m

/-- An accuser counts: it is in play; the backup, which sees no JOIN, counts every module that is not out. -/
def State.accuserOk (s : State) (m : Nat) : Bool := if s.isUmpire then s.inPlay m else !s.flt.out.contains m

/-- Distinct modules in play that have accused x within the last 25 µs without clearing (R415). -/
def State.accusers (s : State) (x : Nat) : List Nat :=
  (s.flt.ump.accused.filter (fun a => a.2.1 == x && decide (s.time ≤ a.2.2 + 25 * tickUs) && s.accuserOk a.1)).foldl (fun l a => setIns a.1 l) []

/-- The quorum of R415. -/
def State.quorum (s : State) (x : Nat) : Nat := max 3 (((mapGet (0, 0) s.flt.ump.rosters x).1 - 1) / 2 + 1)

/-- The umpire declares a module out, or the backup the umpire, once the accusers reach the quorum (R415). -/
def State.judge (s : State) (x : Nat) : State :=
  let mine := (s.isUmpire && x != s.moduleId) || (s.isBackup && x == s.umpireNow)
  if !mine || s.flt.out.contains x || decide ((s.accusers x).length < s.quorum x) then s
  else if s.isUmpire then s.declare true 1 x else s.declare true 1 x s.epoch

/-- ACCUSE_RECEIVE. -/
def execAccuseReceive (frame : BitVec 256) (s : State) : Host.Outcome State Fault Refusal :=
  match s.takeSteward 0x10 frame with
  | none => .next s
  | some s1 =>
    let x := bits frame 127 112
    let mine := (s1.isUmpire && x != s1.moduleId) || (s1.isBackup && x == s1.umpireNow)
    if !mine || s1.flt.out.contains x then .next s1
    else
      let rest := s1.flt.ump.accused.filter (fun a => !(a.1 == fSrc frame && a.2.1 == x))
      let now := if bit frame 111 then rest else rest ++ [(fSrc frame, x, s1.time)]
      .next ((s1.modUmp (fun u => { u with accused := now })).judge x)

/-- ROSTER_SEND (R413). -/
def execRosterSend (s : State) : Host.Outcome State Fault Refusal :=
  let u := s.flt.ump
  if s.memberState = 2 ∧ (u.rosterDue ∨ u.rosterLast ≠ (s.activePartners.length, s.obj 0x8000 6) ∨ u.rosterAt + tickMs ≤ s.time) then
    .next s.sendRoster
  else .next s

/-- ROSTER_RECEIVE. A lower count A may bring the quorum down to the accusations that stand (R415). -/
def execRosterReceive (frame : BitVec 256) (s : State) : Host.Outcome State Fault Refusal :=
  match s.takeSteward 0x11 frame with
  | none => .next s
  | some s1 =>
    .next (if s1.isUmpire || s1.isBackup then
      (s1.modUmp (fun u => { u with rosters := mapSet (0, 0) u.rosters (fSrc frame) (bits frame 127 120 + 1, bits frame 119 104) })).judge
        (fSrc frame)
    else s1)

/-! ### Rows: records, views, beacons -/

/-- A record taken in on a port (R416, R417). A fenced module sends none on. -/
def State.recordIn (s : State) (p : Nat) (f : BitVec 256) : State :=
  if !s.digestOk (recDigest f) then s.digestBad (recDigest f)
  else match s.adopt f with
  | some s1 => State.adoptEarly 64 (if s.fenced then s1 else s1.flood f p)
  | none =>
    if laterEpoch (recEpoch f) ((s.epoch + 1) % 2 ^ 32) && !s.flt.ump.early.contains f then
      (s.modUmp (fun u => { u with early := u.early ++ [f] })).sendEpochReq p (s.epoch + 1)
    else s

/-- RECORD_RECEIVE. -/
def execRecordReceive (port : Fin 128) (frame : BitVec 256) (s : State) : Host.Outcome State Fault Refusal :=
  .next (if fKind frame = 0x12 ∧ s.linkUp port then s.recordIn port frame else s)

/-- A VIEW frame of a chunk (Table 4). -/
def State.viewFrame (s : State) (c : Nat) : BitVec 256 :=
  BitVec.ofNat 256 (field 248 0x18 + field 216 s.epoch + field 207 c
    + s.flt.out.foldl (fun n m => if m / 200 = c then n + 2 ^ (m % 200) else n) 0)

/-- The answer to an EPOCH_REQ: the records kept from the first epoch wanted up, or the 328 VIEW frames where that is 0 or older than
every record kept (R416). -/
def State.answerEpoch (s : State) (p first : Nat) : State :=
  let known := s.flt.ump.records.reverse.filter (fun f => !laterEpoch first (recEpoch f))
  if first ≠ 0 ∧ laterEpoch first s.epoch then s
  else if first ≠ 0 ∧ s.flt.ump.records.any (fun f => !laterEpoch (recEpoch f) first) then known.foldl (fun s f => s.sendFrame p f) s
  else (List.range 328).foldl (fun s c => s.sendFrame p (s.viewFrame c)) s

/-- EPOCH_REQ_RECEIVE. A fenced module sends no records. -/
def execEpochReqReceive (port : Fin 128) (frame : BitVec 256) (s : State) : Host.Outcome State Fault Refusal :=
  .next (if fKind frame = 0x17 ∧ s.linkUp port ∧ ¬ s.fenced then s.answerEpoch port (bits frame 247 216) else s)

/-- The out set that 328 chunks spell. -/
def chunksOut (m : SMap (Option (BitVec 200))) : List Nat :=
  (List.range 328).flatMap (fun c => match mapGet none m c with
    | some w => ((List.range 200).filter (fun i => bit w i)).map (fun i => 200 * c + i)
    | none => [])

/-- A view taken whole (R416, R422). A module in play that it holds as out is fenced; which cause its record had is not told. -/
def State.takeView (s : State) (e : Nat) (m : SMap (Option (BitVec 200))) : State :=
  let s1 := (s.setView e (chunksOut m)).modUmp (fun u =>
    let early := u.early.filter (fun f => laterEpoch (recEpoch f) e)
    { u with records := [], chunks := [], viewHeld := true, early := early, rosterDue := true })
  if s.memberState = 2 ∧ s1.flt.out.contains s1.moduleId then s1.fence (1 + Config.viewCause % 5) else State.adoptEarly 64 s1

/-- A chunk of a view that is wanted: a later epoch, or the first view of a joining module. -/
def State.viewIn (s : State) (f : BitVec 256) : State :=
  let e := bits f 247 216
  let c := bits f 215 207
  let wanted := e != 0 && decide (c < 328) && (laterEpoch e s.epoch || (!s.flt.ump.viewHeld && s.memberState == 1))
  if !wanted then s
  else
    let old := if e = s.flt.ump.viewEpoch then s.flt.ump.chunks else []
    let m := mapSet none old c (some (BitVec.ofNat 200 (bits f 199 0)))
    let s1 := s.modUmp (fun u => { u with viewEpoch := e, chunks := m })
    if (List.range 328).all (fun i => (mapGet none m i).isSome) then s1.takeView e m else s1

/-- VIEW_RECEIVE. -/
def execViewReceive (port : Fin 128) (frame : BitVec 256) (s : State) : Host.Outcome State Fault Refusal :=
  .next (if fKind frame = 0x18 ∧ s.linkUp port then s.viewIn frame else s)

/-- BEACON_SEND: the umpire floods a BEACON every 10 µs (R420). -/
def execBeaconSend (s : State) : Host.Outcome State Fault Refusal :=
  if s.isUmpire ∧ s.flt.ump.beaconAt + 10 * tickUs ≤ s.time then
    let n : BitVec 32 := match s.flt.ump.beacon with | some b => b + 1 | none => 1
    let f := BitVec.ofNat 256 (field 248 0x13 + field 216 s.epoch + field 200 s.moduleId + field 168 n.toNat + field 104 s.umpireDigest)
    .next ((s.flood f 128).modUmp (fun u => { u with beacon := some n, beaconAt := s.time }))
  else .next s

/-- A BEACON taken in on a port: the first copy of each number is kept as the last one and goes to every other port (R420). -/
def State.beaconIn (s : State) (p : Nat) (f : BitVec 256) : State :=
  let n : BitVec 32 := BitVec.ofNat 32 (bits f 199 168)
  let isNew : Bool := match s.flt.ump.beacon with | some b => decide (0 < (n - b).toInt) | none => true
  if !s.digestOk (bits f 167 104) then s.digestBad (bits f 167 104)
  else if isNew then
    let s1 := s.modUmp (fun u => { u with beacon := some n, beaconAt := s.time })
    if s.fenced then s1 else s1.flood f p
  else s

/-- BEACON_RECEIVE. -/
def execBeaconReceive (port : Fin 128) (frame : BitVec 256) (s : State) : Host.Outcome State Fault Refusal :=
  .next (if fKind frame = 0x13 ∧ s.linkUp port then s.beaconIn port frame else s)

/-- The umpire has had no active link partner for a time. -/
def State.alone (s : State) (n : Nat) : Bool :=
  s.activePartners.isEmpty && decide (s.flt.ump.umpireAt + n ≤ s.time)
  && (List.range 128).all (fun p => !(s.gtPort p).seen || decide ((s.gtPort p).at_ + whistleGap + n ≤ s.time))

/-- ISOLATION_FENCE (R420). -/
def execIsolationFence (s : State) : Host.Outcome State Fault Refusal :=
  let n := s.obj 0x8800 1 * tickUs
  let cut := if s.isUmpire then s.alone n else decide (s.flt.ump.beaconAt + n ≤ s.time)
  .next (if s.memberState = 2 ∧ cut then s.fence 6 else s)

/-! ### Rows: opening and joining -/

/-- The module is ready, its GT is LOCKED and it has an ID. -/
def State.mayJoin (s : State) : Bool := s.bootStep == 12 && s.gt.st == 1 && s.hasId

/-- This module opens epoch 1 as umpire: it is in play, and listed modules before it are out (R411). -/
def State.openEpoch (s : State) (out : List Nat) : State :=
  let s1 := (s.setView 1 out).setObj 0x8000 1 2
  let s2 := s1.modUmp (fun u =>
    let joined := mapSet 0 u.joined s.moduleId (s.obj 0x8000 6 + 1)
    { u with viewHeld := true, joinDone := true, umpireAt := s.time, beaconAt := s.time, joined := joined, rosterDue := true })
  if s2.flt.ump.forceDue then s2.forceOut else s2

/-- EPOCH_OPEN. -/
def execEpochOpen (s : State) : Host.Outcome State Fault Refusal :=
  .next (if s.mayJoin ∧ s.memberState ≤ 1 ∧ s.epoch = 0 ∧ s.umpireList.head? = some s.moduleId then s.openEpoch [] else s)

/-- UMPIRE_START_TIMEOUT: no beacon within 1 s of its ready. -/
def execUmpireStartTimeout (s : State) : Host.Outcome State Fault Refusal :=
  .next (if s.mayJoin ∧ s.memberState ≤ 1 ∧ s.epoch = 0 ∧ s.flt.ump.beacon = none ∧ s.flt.ump.readyAt + tickS ≤ s.time
      ∧ s.umpireList[1]? = some s.moduleId then
    s.openEpoch (s.umpireList.take 1) else s)

/-- The port on which a joining module asks for the view: the lowest one that leads to a partner. -/
def State.askPort (s : State) : Option Nat := s.openPorts.head?

/-- JOIN_SEND (R422): a module that may join becomes JOINING and asks a partner for the whole view; once it holds one it sends
JOIN, and ROSTER with it, every 100 µs until answered. -/
def execJoinSend (s : State) : Host.Outcome State Fault Refusal :=
  let u := s.flt.ump
  let due := match u.joinAt with | some t => decide (t + 100 * tickUs ≤ s.time) | none => true
  if !s.mayJoin || decide (1 < s.memberState) then .next s
  else
    let s1 := s.setObj 0x8000 1 1
    if !due || u.joinDone then .next s1
    else if !u.viewHeld then
      .next (match s1.askPort with
        | some p => (s1.sendEpochReq p 0).modUmp (fun u => { u with joinAt := some s.time })
        | none => s1)
    else if s1.umpireNow = 0xFFFF then .next s1
    else
      let body := field 112 (s.obj 0x8000 6) + field 104 (s.activePartners.length % 256) + field 40 s.umpireDigest
      .next (((s1.sendSteward 0x15 s1.umpireNow body).modUmp (fun u => { u with joinAt := some s.time })).sendRoster)

/-- JOIN_RECEIVE: the umpire's answer (R422). -/
def execJoinReceive (frame : BitVec 256) (s : State) : Host.Outcome State Fault Refusal :=
  match s.takeSteward 0x15 frame with
  | none => .next s
  | some s1 =>
    let m := fSrc frame
    let r := bits frame 127 112
    let held (s : State) : State := (s.modUmp (fun u => { u with heldJoins := mapSet 0 u.heldJoins m (r + 1) })).sendAnswer m 0x15 2
    if !s1.isUmpire then .next s1
    else if bits frame 103 40 ≠ s1.umpireDigest then .next (s1.sendAnswer m 0x15 3)
    else if s1.flt.out.contains m then .next (held s1)
    else if s1.inPlay m then .next (held (s1.declare true 5 m))
    else .next ((s1.modUmp (fun u => { u with joined := mapSet 0 u.joined m (r + 1) })).sendAnswer m 0x15 0)

/-- ANSWER_RECEIVE: the answer to a JOIN or a WITHDRAW (R422, R426, R428). -/
def execAnswerReceive (frame : BitVec 256) (s : State) : Host.Outcome State Fault Refusal :=
  match s.takeSteward 0x16 frame with
  | none => .next s
  | some s1 =>
    let kind := bits frame 127 120
    let ans := bits frame 119 112
    if fSrc frame ≠ s1.umpireNow then .next s1
    else if kind = 0x15 ∧ s1.memberState = 1 then
      let s2 := s1.modUmp (fun u => { u with joinDone := true })
      if ans = 0 then
        let s3 := (s2.setObj 0x8000 1 2).modUmp (fun u => { u with beaconAt := s.time })
        .next (if s3.flt.ump.forceDue then s3.forceOut else s3)
      else .next s2
    else if kind = 0x14 ∧ s1.memberState = 2 then
      if s1.flt.ump.forced.isSome then .next (s1.modUmp (fun u => { u with forced := none })).resumeEntries
      else if s1.obj 0x8000 3 = 2 then .next s1
      else if ans = 0 then .next ((s1.setService 2).modUmp (fun u => { u with goWait := some s.time, goSent := false }))
      else if ans = 1 then .next (s1.setService 1)
      else .next s1
    else .next s1

/-! ### Rows: withdrawal and the umpire's objects -/

/-- The cap of a region and what it counts (R425). -/
def State.regionCap (s : State) (r : Nat) : Nat :=
  max 1 ((s.flt.ump.joined.filter (fun kv => kv.2 == r + 1)).length * s.obj 0x8000 7 / 1000)
def State.regionOut (s : State) (r : Nat) : Nat := (s.flt.ump.withdrawn.filter (fun kv => kv.2 == r + 1)).length

/-- WITHDRAW_RECEIVE (R426, R428). -/
def execWithdrawReceive (frame : BitVec 256) (s : State) : Host.Outcome State Fault Refusal :=
  match s.takeSteward 0x14 frame with
  | none => .next s
  | some s1 =>
    let m := fSrc frame
    let r := bits frame 111 96
    let count (s : State) : State := s.modUmp (fun u => { u with withdrawn := mapSet 0 u.withdrawn m (r + 1) })
    let counted := mapGet 0 s1.flt.ump.withdrawn m != 0
    if !s1.isUmpire || s1.flt.out.contains m then .next s1
    else if bit frame 127 then .next (((count s1).sendAnswer m 0x14 0).declare true 3 m)
    else if bit frame 126 && counted then .next (s1.declare true 2 m)
    else if counted || decide (s1.regionOut r < s1.regionCap r) then .next ((count s1).sendAnswer m 0x14 0)
    else .next (s1.sendAnswer m 0x14 1)

/-- A write of FLT.SEND_OFF (R423). -/
def State.sendOff (s : State) (v : Nat) : Nat × State :=
  if !s.isUmpire || s.flt.out.contains v then (rpState, s)
  else if v = 0xFFFF then (rpRange, s)
  else (rpOk, s.declare true 4 v)

/-- FLT_SEND_OFF. -/
def execFltSendOff (v : BitVec 16) (s : State) : Host.Outcome State Fault Refusal := .next (s.objRowDone (s.sendOff v.toNat))

/-- A held module admitted: ACTION IN, and GRANTED (R422). -/
def State.admitOne (s : State) (m : Nat) : State :=
  let r := mapGet 0 s.flt.ump.heldJoins m
  if r = 0 then s
  else
    let s1 := s.modUmp (fun u => { u with heldJoins := mapSet 0 u.heldJoins m 0, withdrawn := mapSet 0 u.withdrawn m 0,
                                          joined := mapSet 0 u.joined m r })
    (s1.declare false 0 m).sendAnswer m 0x15 0

/-- A write of FLT.ADMIT. -/
def State.fltAdmit (s : State) (v : Nat) : Nat × State :=
  if !s.isUmpire then (rpState, s)
  else if v = 0xFFFF then (rpOk, s.flt.ump.heldJoins.foldl (fun s kv => s.admitOne kv.1) s)
  else if mapGet 0 s.flt.ump.heldJoins v = 0 then (rpState, s)
  else (rpOk, s.admitOne v)

/-- FLT_ADMIT. -/
def execFltAdmit (v : BitVec 16) (s : State) : Host.Outcome State Fault Refusal := .next (s.objRowDone (s.fltAdmit v.toNat))

/-- A write of FLT.WITHDRAWN_CLEAR (R425). -/
def State.withdrawnClear (s : State) (v : Nat) : Nat × State :=
  if !s.isUmpire then (rpState, s) else (rpOk, s.modUmp (fun u => { u with withdrawn := mapSet 0 u.withdrawn v 0 }))

/-- FLT_WITHDRAWN_CLEAR. -/
def execFltWithdrawnClear (v : BitVec 16) (s : State) : Host.Outcome State Fault Refusal :=
  .next (s.objRowDone (s.withdrawnClear v.toNat))

/-- WITHDRAW with GO. -/
def State.sendGo (s : State) : State := (s.sendWithdraw false true).modUmp (fun u => { u with goSent := true })

/-- A write of FLT.WITHDRAW_GO (R426). -/
def State.withdrawGo (s : State) (v : Nat) : Nat × State :=
  if v ≠ 1 then (rpRange, s) else if s.obj 0x8000 3 ≠ 2 ∨ s.memberState ≠ 2 then (rpState, s)
  else (rpOk, if s.flt.ump.goSent then s else s.sendGo)

/-- FLT_WITHDRAW_GO. -/
def execFltWithdrawGo (v : BitVec 8) (s : State) : Host.Outcome State Fault Refusal :=
  .next (s.objRowDone (s.withdrawGo v.toNat))

/-! ### The scorecard (R424) -/

/-! ### Firmware slots (R510, R511) -/

/-- A field of an image header (Table 6a of ch.19). -/
def imgField (img : List Byte) (off n : Nat) : Nat := ofBytes ((img.drop off).take n)

def imgVersion (img : List Byte) : Nat := imgField img 0x08 4
def imgSvn (img : List Byte) : Nat := imgField img 0x0C 4
def imgMirror (img : List Byte) : Nat := imgField img 0x10 2

/-- The three conditions of a valid image. -/
def imgValid (img : List Byte) (svnMin : Nat) : Bool :=
  let body := (img.drop 152).take (imgField img 0x14 4)
  Config.edVerify Config.releaseKey (img.take 0x58) ((img.drop 0x58).take 64) && Config.sha512 body == (img.drop 0x18).take 64
  && decide (svnMin ≤ imgSvn img)

/-- Slot 0 is A, 1 is B. -/
def State.fw (s : State) (slot : Nat) : FwSlot := if slot = 0 then s.flash.fwA else s.flash.fwB

/-- BOOT.SLOT_STATE of a slot: an image whose security version is too low is no longer valid. -/
def State.slotState (s : State) (slot : Nat) : Nat :=
  if (s.fw slot).st = 1 ∧ imgSvn (s.fw slot).image < s.flash.svnMin then 2 else (s.fw slot).st

/-- The firmware slot that is not in service holds a verified image: CMP.BENCH_LEFT of firmware (R402). -/
def State.fwSpare (s : State) : Bool :=
  let runs := match s.sys.ball with | some .b => s.sys.b.slot | _ => s.sys.a.slot
  s.slotState (1 - runs) == 1

/-! ### The score (R425) -/

/-- How many of a list satisfy a test. -/
def countIf (l : List Nat) (p : Nat → Bool) : Nat := (l.filter p).length

/-- Ticks of the last 60 s in which a die was throttled. -/
def State.throttled (s : State) (d : Nat) : Nat :=
  let x := s.die d
  let lo := s.time - 60 * tickS
  let open_ := match x.throtSince with | some t => s.time - max t lo | none => 0
  x.throt.foldl (fun n t => n + (t.2 - max t.1 lo)) open_

/-- The penalties of Table 6. -/
def State.penalty (s : State) : Nat :=
  let day := s.time - 86400 * tickS
  let recent (l : List Nat) : Nat := countIf l (fun t => decide (day ≤ t))
  let cores := (List.range 16).foldl (fun n d => n + countIf (List.range 32) (s.coreOut d)) 0
  let ports (p : Nat → Bool) : Nat := countIf (List.range 128) (fun i => p (s.portSt i))
  let off := (List.range 53).foldl (fun n e => n + countIf (List.range (bundlesOf e)) (fun b => (s.bundle e b).width == 4)) 0
  min 500 (25 * recent s.flt.recovered) + min 100 (2 * recent s.flt.advisory) + 20 * cores
    + 15 * ports (fun st => st == 5 || st == 7) + 3 * ports (fun st => st == 4) + 2 * off
    + 40 * countIf (List.range 40) s.edgeLost
    + (if 2 ≤ countIf ((List.range 13).map (· + 40)) s.edgeLost then 300 else 0)
    + 50 * countIf ((List.range 10).map (· + 1)) (fun k => if k = 10 then !s.fwSpare else s.obj 0x7010 k == 0)
    + 100 * countIf (List.range 24) (fun k => (s.spoke k).lost)
    + min 200 (50 * countIf (List.range 16) (fun d => decide (6 * tickS < s.throttled d)))

/-- The score below, or calm above, the threshold (R426, R427). -/
def State.scored (s : State) (score : Nat) : State :=
  let thr := s.obj 0x8000 5
  let calm := if thr + 50 ≤ score then some (s.flt.calmSince.getD s.time) else none
  let s1 : State := { s.setObj 0x8000 4 score with flt := { s.flt with calmSince := calm
                                                                       recovered := s.flt.recovered.filter (fun t => decide (s.time - 86400 * tickS ≤ t))
                                                                       advisory := s.flt.advisory.filter (fun t => decide (s.time - 86400 * tickS ≤ t)) } }
  if score < thr ∧ s.memberState = 2 ∧ s.obj 0x8000 3 = 0 then s1.sendWithdraw false false
  else if s.obj 0x8000 3 = 1 then
    match calm with
    | some t => if t + 60 * tickS ≤ s.time then s1.setService 0 else s1
    | none => s1
  else s1

/-- SCORE_RECOMPUTE: every 1 s. -/
def execScoreRecompute (s : State) : Host.Outcome State Fault Refusal := .next (s.scored (1000 - s.penalty))

/-- WITHDRAW_RETRY: in degraded service the module asks again every 10 s while its score stays below the threshold. -/
def execWithdrawRetry (s : State) : Host.Outcome State Fault Refusal :=
  .next (if s.obj 0x8000 3 = 1 ∧ s.memberState = 2 ∧ s.obj 0x8000 4 < s.obj 0x8000 5 ∧ s.flt.ump.askedAt + 10 * tickS ≤ s.time then
    s.sendWithdraw false false else s)

/-- WITHDRAW_WAIT_EXPIRE. -/
def execWithdrawWaitExpire (s : State) : Host.Outcome State Fault Refusal :=
  .next (match s.flt.ump.goWait with
    | some t => if s.obj 0x8000 3 = 2 ∧ s.memberState = 2 ∧ !s.flt.ump.goSent ∧ t + s.obj 0x8800 3 * tickS ≤ s.time then s.sendGo else s
    | none => s)

/-- FORCED_WITHDRAW_TIMEOUT: no answer within 1 ms; the module fences itself with cause FORCED. -/
def execForcedWithdrawTimeout (s : State) : Host.Outcome State Fault Refusal :=
  .next (match s.flt.ump.forced with
    | some t => if t + tickMs ≤ s.time then ((s.modUmp (fun u => { u with forced := none })).resumeEntries).fence 3 else s
    | none => s)

end Sys2Proof.Machine
end

