-- ==== Sys2Proof/Machine/Steward.lean ====
section
/-! DEFINITION. The steward's two controllers and the ball (R470 to R478), boots (R511), storing and
restoring the dictionary (R483, R485). -/

namespace Sys2Proof.Machine

/-! ### Boot (R511) -/

/-- The slot a boot ROM prefers (R511): at step 1 the committed value, A where no copy of the record is valid; later the live
value. -/
def State.slotPrefer (s : State) : Nat :=
  if 1 < s.bootStep then s.obj 0xB100 2
  else if s.flash.configValid ∧ ¬ s.flash.configVoid then mapGet 0 s.flash.config (objKey 0xB100 2) else 0

/-- The slot a boot ROM runs, none where neither is valid. -/
def State.bootSlot (s : State) : Option Nat :=
  let p := s.slotPrefer
  if s.slotState p = 1 then some p else if s.slotState (1 - p) = 1 then some (1 - p) else none

/-! ### Controllers -/

def State.ctrl (s : State) : Ctrl → CtrlSt
  | .a => s.sys.a
  | .b => s.sys.b

/-- The other controller. -/
def otherCtrl : Ctrl → Ctrl
  | .a => .b
  | .b => .a

/-- A controller changed. -/
def State.modCtrl (s : State) (c : Ctrl) (f : CtrlSt → CtrlSt) : State :=
  match c with
  | .a => { s with sys := { s.sys with a := f s.sys.a } }
  | .b => { s with sys := { s.sys with b := f s.sys.b } }

/-- An event of site 0x0D; unit 0 for A, 1 for B. -/
def ctrlEvent (sev cause : Nat) (c : Ctrl) : Event := mkEvent 0x0D sev 24 (if c = .a then 0 else 1) cause 0

/-- A heartbeat is current for 50 ms (R471). -/
def State.hbCurrent (s : State) (c : Ctrl) : Bool :=
  match (s.ctrl c).hb with | some t => decide (s.time ≤ t + 50 * tickMs) | none => false

/-- Eligible: heartbeat current, state HOT or HOLDING. -/
def State.ballEligible (s : State) (c : Ctrl) : Bool := s.hbCurrent c && ((s.ctrl c).st == 3 || (s.ctrl c).st == 4)

/-- A boot that has not reached HOT: at the third in a row the controller stays down, FAILED, DEGRADED (R475, R495). -/
def State.bootFailed (s : State) (c : Ctrl) : State :=
  let n := (s.ctrl c).failed + 1
  if n < 3 then s.modCtrl c (fun x => { x with st := 1, healthy := true, failed := n, claim := false, bootAt := s.time, hb := none })
  else ((s.modCtrl c (fun x => { x with st := 5, failed := n, claim := false, hb := none })).setObj 0x7010 8 0).raise
    (ctrlEvent sevDegraded 1 c)

/-- A controller resets: it boots again; a boot it cuts short counts as one that has not reached HOT. -/
def State.ctrlReset (s : State) (c : Ctrl) : State :=
  let s1 := s.bump 0x1020 4
  if (s.ctrl c).st = 1 ∨ (s.ctrl c).st = 2 then s1.bootFailed c
  else s1.modCtrl c (fun x => { x with st := 1, healthy := true, claim := false, bootAt := s.time, hb := none })

/-- HEARTBEAT: a healthy, powered controller. One that finds it has lost the ball resets (R474). -/
def execHeartbeat (c : Ctrl) (s : State) : Host.Outcome State Fault Refusal :=
  let x := s.ctrl c
  .next (if !x.healthy || x.st == 0 || x.st == 5 then s
    else if x.st == 4 && s.sys.ball != some c then s.ctrlReset c
    else s.modCtrl c (fun x => { x with hb := some s.time }))

/-- The ball passes to a controller: it shows HOLDING; a move from another holder is counted. Nonces are not mirrored (R504). -/
def State.grantBall (s : State) (c : Ctrl) (advise : Bool) : State :=
  let moved := s.sys.last == some (otherCtrl c)
  let s1 : State := { s with sys := { s.sys with ball := some c, last := some c, unheld := none, fenceDue := false } }
  let s2 := s1.modCtrl c (fun x => { x with st := 4 })
  if moved then
    let s3 : State := ({ s2.bump 0x1020 3 with sec := { s2.sec with nonces := [] } } : State).hostEvent 2
    if advise then s3.raise (ctrlEvent sevAdvisory 0 c) else s3
  else s2

/-- The ball after an evaluation (R472). -/
def State.ballAfter (s : State) : Option Ctrl :=
  match s.sys.ball with
  | some c => if s.hbCurrent c then some c else if s.ballEligible (otherCtrl c) then some (otherCtrl c) else none
  | none =>
    match s.ballEligible .a, s.ballEligible .b with
    | true, true => some (s.sys.last.getD .a)
    | true, false => some .a
    | false, true => some .b
    | false, false => none

/-- The tie-breaker answers the claim of a controller: refused, it resets (R474). -/
def State.answerClaim (s : State) (c : Ctrl) : State :=
  if !(s.ctrl c).claim then s
  else if s.sys.ball == some c then s.modCtrl c (fun x => { x with claim := false })
  else (s.bump 0x1020 5).ctrlReset c

/-- A controller that is no longer healthy and whose heartbeat has lapsed is reset (R495). -/
def State.resetSick (s : State) (c : Ctrl) : State :=
  if !(s.ctrl c).healthy && (s.ctrl c).st != 0 && (s.ctrl c).st != 5 && !s.hbCurrent c then s.ctrlReset c else s

/-- BALL_EVALUATE. -/
def execBallEvaluate (s : State) : Host.Outcome State Fault Refusal :=
  let s1 := match s.ballAfter with
    | some c => if s.sys.ball = some c then s else s.grantBall c true
    | none => if s.sys.ball = none then s else { s with sys := { s.sys with ball := none, unheld := some s.time } }
  .next ((((s1.answerClaim .a).answerClaim .b).resetSick .a).resetSick .b)

/-- BALL_CLAIM: answered at the next evaluation. -/
def execBallClaim (c : Ctrl) (s : State) : Host.Outcome State Fault Refusal :=
  .next (if 1 ≤ (s.ctrl c).st ∧ (s.ctrl c).st ≤ 4 then s.modCtrl c (fun x => { x with claim := true }) else s)

/-- CONTROLLER_WATCHDOG: 5 ms without service. -/
def execControllerWatchdog (c : Ctrl) (s : State) : Host.Outcome State Fault Refusal :=
  .next (if (s.ctrl c).st = 0 ∨ (s.ctrl c).st = 5 then s else s.modCtrl c (fun x => { x with healthy := false }))

/-- A controller shows HOT. -/
def State.ctrlHot (s : State) (c : Ctrl) : State :=
  s.modCtrl c (fun x => { x with st := 3, failed := 0, hb := some s.time })

/-- CONTROLLER_BOOT_DONE: the image runs; the standby copies the holder's mirror where its format agrees (R513), else it stays
in BOOTING; with nobody holding the ball there is no mirror to copy (R475). -/
def execControllerBootDone (c : Ctrl) (s : State) : Host.Outcome State Fault Refusal :=
  if (s.ctrl c).st ≠ 1 then .next s
  else match s.bootSlot with
  | none => .next (s.bootFailed c)
  | some k =>
    let s1 := if k = s.slotPrefer then s else s.raise (mkEvent 0x18 sevAdvisory 24 (if c = .a then 0 else 1) 1 0)
    let s2 := s1.modCtrl c (fun x => { x with slot := k })
    match s.sys.ball with
    | none => .next (s2.ctrlHot c)
    | some h =>
      if imgMirror (s2.fw k).image ≠ imgMirror (s2.fw (s2.ctrl h).slot).image then .next s2
      else .next (s2.modCtrl c (fun x => { x with st := 2, hb := some s.time }))

/-- MIRROR_SYNC_DONE. -/
def execMirrorSyncDone (c : Ctrl) (s : State) : Host.Outcome State Fault Refusal :=
  .next (if (s.ctrl c).st = 2 ∧ s.sys.ball = some (otherCtrl c) then s.ctrlHot c else s)

/-- BALL_UNHELD_FENCE: 1 s unheld; FAULT_N and the fence. The FATAL event stands until the next holder takes it into the log and
the flash log (R477). -/
def execBallUnheldFence (s : State) : Host.Outcome State Fault Refusal :=
  .next (match s.sys.unheld with
    | some t => if t + tickS ≤ s.time ∧ ¬ s.sys.fenceDue then { s.fence 3 with sys := { s.sys with fenceDue := true } } else s
    | none => s)

/-! ### Handover, store, restore (R478, R483, R485) -/

/-- The release and the grant of a handover: the old holder becomes HOT. -/
def State.handOver (s : State) (h : Ctrl) : State :=
  let s1 := (s.modCtrl h (fun x => { x with st := 3 })).grantBall (otherCtrl h) false
  { s1 with sys := { s1.sys with handover := false } }

/-- A write of SYS.HANDOVER. A store in progress is completed first. -/
def State.sysHandover (s : State) (v : Nat) : Nat × State :=
  if v ≠ 1 then (rpRange, s)
  else match s.sys.ball with
  | none => (rpState, s)
  | some h =>
    if s.sys.handover then (rpBusy, s)
    else if (s.ctrl (otherCtrl h)).st ≠ 3 then (rpState, s)
    else if s.sys.snap.isSome then (rpOk, { s with sys := { s.sys with handover := true } })
    else (rpOk, s.handOver h)

/-- SYS_HANDOVER. -/
def execSysHandover (v : BitVec 8) (s : State) : Host.Outcome State Fault Refusal :=
  .next (s.expertRowDone 0x1800 1 (s.sysHandover v.toNat))

/-- The live values of saved objects that differ from their defaults. -/
def State.savedValues (s : State) : SMap Nat :=
  s.dict.filter (fun kv => match objRow (kv.1 / 256) (kv.1 % 256) with | some r => r.saved == .y | none => false)

/-- A write of SYS.STORE. -/
def State.sysStore (s : State) (v : Nat) : Nat × State :=
  if v ≠ 0x65766173 then (rpRange, s)
  else if s.sys.snap.isSome ∨ s.sys.handover then (rpBusy, s)
  else (rpOk, { s with sys := { s.sys with snap := some s.savedValues, snapAt := s.time, storeFailed := false } })

/-- SYS_STORE. -/
def execSysStore (v : BitVec 32) (s : State) : Host.Outcome State Fault Refusal := .next (s.objRowDone (s.sysStore v.toNat))

/-- A commit that ends: the snapshot is the configuration record, or the older copy stays. -/
def State.storeEnd (s : State) (ok : Bool) : State :=
  match s.sys.snap with
  | none => s
  | some m =>
    let s1 : State := { s with sys := { s.sys with snap := none, storeFailed := !ok, lastStatus := if ok then rpOk else rpState } }
    if ok then
      { s1 with flash := { s1.flash with config := m, configValid := true, configVoid := false, configGen := s1.flash.configGen + 1 } }
    else s1.raise (mkEvent 0x15 sevAdvisory 24 0xFF 0 0)

/-- A write of SYS.RESTORE. -/
def State.sysRestore (s : State) (v : Nat) : Nat × State :=
  if v ≠ 0x64616F6C then (rpRange, s)
  else if s.sys.snap.isSome then (rpBusy, s)
  else (rpOk, { s with flash := { s.flash with configVoid := true } })

/-- SYS_RESTORE. -/
def execSysRestore (v : BitVec 32) (s : State) : Host.Outcome State Fault Refusal :=
  .next (s.objRowDone (s.sysRestore v.toNat))

/-- SYS.STORE_STATE. -/
def State.storeState (s : State) : Nat :=
  if s.sys.snap.isSome then 1 else if s.flash.configVoid then 3 else if s.sys.storeFailed then 2 else 0

/-! ### Pins (R546, R547, Table 4 of ch.22)

An output of a module that is unpowered or in reset is released. -/

/-- The steward rail is up and MOD_RESET_N is released: outputs are driven and SB_3V3 is present. -/
def State.driven (s : State) : Bool := !s.boot.inReset && !s.boot.off

/-- The holder serves the mailbox, the dictionary and the route window: step 1 has ended and the ball is held (R533, R488). -/
def State.serving (s : State) : Bool := s.sys.ball.isSome && decide (2 ≤ s.bootStep)

/-- SB_3V3 is present (R546). -/
def State.sb3v3Pin (s : State) : Bool := s.driven && !(s.sys.a.st == 0 && s.sys.b.st == 0)

/-- ALERT_N is sunk: a warning, coolant out of range, input out of range, the ball unheld (R435, R459, R467, R477). -/
def State.alertPin (s : State) : Bool :=
  s.driven && (!s.thm.warn.isEmpty || s.thm.badLogged || s.pwr.low || s.pwr.high || s.sys.unheld.isSome)

/-- FAULT_N is sunk: the ball unheld for 1 s, recovery, a failed start (R477, R511, R541). -/
def State.faultPin (s : State) : Bool := s.driven && (s.sys.fenceDue || s.bootStep == 0x1E || s.bootStep == 0x1F)

/-- THERMTRIP_N is sunk: a trip stands (R463, R548). -/
def State.thermtripPin (s : State) : Bool := s.driven && s.thm.trip.isSome

/-- READY is released: the module is at step 12 of start-up (R529). -/
def State.readyPin (s : State) : Bool := s.driven && s.bootStep == 12

end Sys2Proof.Machine
end

