-- ==== Sys2Proof/Machine/Records.lean ====
section
/-! DEFINITION. Repair records (R390, R391, R401): what each of the 25 holds, and how they are written. -/

namespace Sys2Proof.Machine

/-- The die named first for an edge (Table 1 of ch.10), as records are numbered: 0-15 compute dies, 16-23 light dies, 24 the
steward. -/
def edgeOwner (e : Nat) : Nat :=
  if e < 12 then 4 * (e / 3) + e % 3
  else if e < 24 then e - 12
  else if e < 40 then 16 + (e - 24) / 2
  else if e < 49 then (if e = 40 then 24 else 16 + (e - 41))
  else 16 + (e - 49)

/-- Lane maps of the bundles of the edges a record's die names first (R276), where a lane has failed; keyed
2·(16·edge + bundle) + direction. -/
def State.laneMaps (s : State) (rec : Nat) : SMap LaneMap :=
  (s.lane.bundles.filter (fun kv => edgeOwner (kv.1 / 16) == rec)).flatMap (fun kv =>
    ([(2 * kv.1, kv.2.fwd.lanes), (2 * kv.1 + 1, kv.2.rev.lanes)] : List (Nat × LaneMap)).filter (fun x => x.2 != { }))

/-- The ring settings, line assignment and lanes out of a bank. -/
def BankSt.ringRec (b : BankSt) : RingRec :=
  { tx := b.tx.map (fun kv => (kv.1, kv.2.setting)), rx := b.rx.map (fun kv => (kv.1, kv.2.setting)),
    txLine := b.txLine, rxLine := b.rxLine, txOut := b.txOut, rxOut := b.rxOut }

/-- What the record of a die is to hold now (Table 2 of ch.14). Ring settings and powers are refreshed only as R259 says, so
they come from the record in force where there is one. -/
def State.recBody (s : State) (rec : Nat) (rings : Bool) : RecBody :=
  let maps := s.laneMaps rec
  if rec < 16 then
    let x := s.die rec
    { coreMap := x.coreMap, retired := x.retired, slotFaults := x.slotFaults, rows := x.rows, lanes := x.lanes, laneMaps := maps }
  else if rec < 24 then
    let l := rec - 16
    let x := s.light l
    let old := (mapGet { } s.flash.recs rec).best
    let now : SMap RingRec := (List.range 17).foldl (fun m i =>
      let n := (s.bank (17 * l + i)).ringRec
      let r : RingRec := match rings, old with
        | false, some o => { n with tx := (mapGet { } o.rings i).tx, rx := (mapGet { } o.rings i).rx }
        | _, _ => n
      mapSet { } m i r) []
    { laneMaps := maps, rings := now, comb := x.active, retiredComb := !x.standby, refs := x.refs,
      commGt := s.obj 0x4100 0x0E,
      portBanks := (List.range 16).foldl (fun m i => mapSet 0 m i (s.bankOf (16 * l + i) - 17 * l + 1)) [] }
  else { laneMaps := maps, phases := s.pwr.phases, healthA := s.sys.a.st != 5, healthB := s.sys.b.st != 5 }

/-- The older copy of a record is overwritten with the next generation (R391). -/
def RepairRec.put (r : RepairRec) (b : RecBody) : RepairRec :=
  if r.a.valid && (!r.b.valid || decide (0 < (r.a.gen - r.b.gen).toInt)) then
    { r with b := { gen := r.a.gen + 1, valid := true, body := b }, retryAt := none }
  else { r with a := { gen := r.b.gen + 1, valid := true, body := b }, retryAt := none }

/-- A record written, or kept as it is where the flash check fails: an event, and a new attempt in 10 s. -/
def State.writeRecord (s : State) (rec : Nat) (b : RecBody) (ok : Bool) : State :=
  let r := mapGet { } s.flash.recs rec
  let put (x : RepairRec) : State := { s with flash := { s.flash with recs := mapSet { } s.flash.recs rec x } }
  if ok then put (r.put b)
  else (put { r with retryAt := some (s.time + 10 * tickS) }).raise (mkEvent 0x15 sevAdvisory 24 rec 1 0)

/-- A record without a valid copy is written afresh only once the start-up steps that discover its contents are done: self-test of
slots and stacks, lane training, ring search (R391). -/
def State.recordReady (s : State) (rec : Nat) : Bool :=
  (mapGet { } s.flash.recs rec).best.isSome || decide ((if rec < 16 then 7 else if rec < 24 then 9 else 7) < s.bootStep)

/-- REPAIR_RECORD_UPDATE: a change made in service is recorded; the holder writes (R473). -/
def execRepairRecordUpdate (rec : Fin 25) (ok : Bool) (s : State) : Host.Outcome State Fault Refusal :=
  let b := s.recBody rec false
  .next (if s.sys.ball.isSome ∧ s.recordReady rec ∧ (mapGet { } s.flash.recs rec.val).best ≠ some b then s.writeRecord rec b ok else s)

/-- RECORD_WRITE_RETRY: every 10 s after a failed write. -/
def execRecordWriteRetry (rec : Fin 25) (ok : Bool) (s : State) : Host.Outcome State Fault Refusal :=
  .next (match (mapGet { } s.flash.recs rec.val).retryAt with
    | some t => if t ≤ s.time ∧ s.sys.ball.isSome then s.writeRecord rec (s.recBody rec false) ok else s
    | none => s)

end Sys2Proof.Machine
end

