-- ==== Sys2Proof/Machine/Light.lean ====
section
/-! DEFINITION. Light ports (ch.09): combs and ELM feeds (R252 to R255), rings (R257 to R262), bank substitution (R263), fade and
changeover (R264 to R267), eye safety (R268), retraining (R270), commissioning (R259). -/

namespace Sys2Proof.Machine

/-- The light die of a bank, and its spare bank (R246). -/
def bankLight (b : Nat) : Nat := b / 17
def spareBank (l : Nat) : Nat := 17 * l + 16

/-! ### Rings and lanes of a bank -/

/-- A ring of a bank: 0-35 the rings of the comb lines, 36 that of λS. -/
def BankSt.ring (b : BankSt) (tx : Bool) (i : Nat) : Ring := mapGet { } (if tx then b.tx else b.rx) i

/-- A ring replaced. -/
def BankSt.setRing (b : BankSt) (tx : Bool) (i : Nat) (r : Ring) : BankSt :=
  if tx then { b with tx := mapSet { } b.tx i r } else { b with rx := mapSet { } b.rx i r }

/-- The line that carries a lane (R262). -/
def BankSt.lineOf (b : BankSt) (tx : Bool) (lane : Nat) : Nat :=
  match mapGet 0 (if tx then b.txLine else b.rxLine) lane with
  | 0 => lane
  | n + 1 => n

/-- Lanes out of service, and spare lines in use. -/
def BankSt.out (b : BankSt) (tx : Bool) : List Nat := if tx then b.txOut else b.rxOut
def BankSt.spareUse (b : BankSt) (tx : Bool) : List Nat := if tx then b.txSpare else b.rxSpare

/-- Lanes out of service replaced. -/
def BankSt.setOut (b : BankSt) (tx : Bool) (o : List Nat) : BankSt := if tx then { b with txOut := o } else { b with rxOut := o }

/-- The lane a line carries. -/
def BankSt.laneOf (b : BankSt) (tx : Bool) (line : Nat) : Option Nat := (List.range 32).find? (fun n => b.lineOf tx n == line)

/-- Fewest lanes in service in either direction. -/
def BankSt.lanesLeft (b : BankSt) : Nat := min (32 - b.txOut.length) (32 - b.rxOut.length)

/-- UP or DEGRADED, as its lanes stand (Table 4). -/
def BankSt.upState (b : BankSt) : Nat := if b.txOut = [] ∧ b.rxOut = [] then 3 else 4

/-- A bank that carries data shows UP or DEGRADED after its lanes have changed. -/
def BankSt.relane (b : BankSt) : BankSt := if b.st = 3 ∨ b.st = 4 then { b with st := b.upState } else b

/-- Every lane in service has its ring on its line in a direction. -/
def BankSt.confirmed (b : BankSt) (tx : Bool) : Bool :=
  (List.range 32).all (fun n => (b.out tx).contains n || (b.ring tx (b.lineOf tx n)).locked)

/-- λS works in both directions on the bank. -/
def BankSt.lamWorks (b : BankSt) : Bool := (b.ring true 36).locked && (b.ring false 36).locked

/-- A search or a substitution is in progress on the bank (R266). -/
def BankSt.searching (b : BankSt) : Bool := b.tx.any (fun kv => kv.2.searching) || b.rx.any (fun kv => kv.2.searching)

/-- The link of a bank's port comes up anew: its calibration begins again (R225), its payload streams are empty (R250). -/
def State.uncal (s : State) (b : Nat) : State :=
  match s.portOfBank b with
  | some p => (s.modGtPort p (fun g => { g with cal := false, nS := 0, n0 := 0, delayS := 0, delay0 := 0 })).modPort p
      (fun x => { x with txBits := { }, txLane := 0, rxBits := { } })
  | none => s

/-- An event of the optical site 0x09, or of another, at a bank. -/
def State.bankEvent (s : State) (b site sev cause detail : Nat) : State :=
  s.raise (mkEvent site sev (16 + bankLight b) b cause detail)

/-- CMP.BENCH_LEFT for spare lines, spare banks and combs (R402). -/
def State.lightBench (s : State) : State :=
  let used (p : Nat) : Nat := let b := s.bank (s.bankOf p); max b.txSpare.length b.rxSpare.length
  let lines := (List.range 128).foldl (fun m p => min m (4 - used p)) 4
  let ports := (List.range 8).all (fun l => (s.portOfBank (spareBank l)).isNone && (s.bank (spareBank l)).st != 7)
  let combs := (List.range 8).all (fun l => (s.light l).standby)
  ((s.setObj 0x7010 5 lines).setObj 0x7010 6 ports.toNat).setObj 0x7010 7 combs.toNat

/-- A standby comb that does not start or fails its test is retired (R266, R267). -/
def State.retireStandby (s : State) (l cause : Nat) : State :=
  let s1 := s.modLight l (fun y => { y with standby := false, standbyOn := none, testing := false, lastTest := s.time })
  (s1.lightBench.setObj 0x4112 (l + 1) 0).raise (mkEvent 0x0A sevDegraded (16 + l) 0xFF cause 0)

/-! ### Combs and feeds (R252 to R255) -/

/-- A feed is present. -/
def ElmSt.present (e : ElmSt) (feed : Nat) : Bool := if feed = 0 then !e.lostA else !e.lostB

/-- The feed a light die selects where it has none: the preferred one when present, else the other (R253). -/
def State.pickFeed (s : State) : Option Nat :=
  let p := s.obj 0x4100 2
  if s.elm.present p then some p else if s.elm.present (1 - p) then some (1 - p) else none

/-- A running comb is held against the ELM where a feed is present, else against the etalon (R252). -/
def State.combRef (s : State) : Nat := if s.pickFeed.isSome then 1 else 2

/-- COMB_LOCK: a comb whose start holds its leave locks; the leave is released. In step 8 of start-up the standby comb takes the place of an
active comb that has not locked (R541). A standby that does not lock or fails its pilot check, `pilot` false, is retired: a
changeover that waited for it ends (R265, R266). -/
def execCombLock (c : CombRef) (pilot : Bool) (s : State) : Host.Outcome State Fault Refusal :=
  let x := s.light c.l
  if !s.pwr.has (.combStart c.l) then .next s
  else if c.standby then
    if !pilot then
      if x.change.isNone && !x.testing then .next s
      else
        let s1 := s.modLight c.l (fun y => { y with change := none, st := if y.change.isSome then s.combRef else y.st })
        .next ((s1.retireStandby c.l (if x.change.isSome then 1 else 3)).releaseLeave (.combStart c.l))
    else if x.change.isNone && !x.testing then
      .next (if s.bootStep = 8 ∧ x.st = 0 ∧ x.standby then
          ((s.modLight c.l (fun y => { y with active := 1 - y.active, standby := false, st := s.combRef, feed := s.pickFeed, feedSince := s.time
            })).setObj 0x4112 (c.l + 1) 0).lightBench.releaseLeave (.combStart c.l)
        else s)
    else
      let s1 := s.modLight c.l (fun y => { y with standbyOn := some s.time, change := y.change.map (fun c => { c with standbyLocked := true }) })
      .next (s1.releaseLeave (.combStart c.l))
  else if x.st = 1 ∨ x.st = 2 ∨ x.st = 3 then .next s
  else
    let s1 := s.modLight c.l (fun y => { y with st := s.combRef, feed := s.pickFeed, feedSince := s.time })
    .next (s1.releaseLeave (.combStart c.l))

/-- Feeds have changed: a die whose feed has gone selects again, and combs change their reference. -/
def State.refeed (s : State) : State :=
  (List.range 8).foldl (fun s l =>
    let x := s.light l
    let keep := match x.feed with | some f => s.elm.present f | none => false
    let feed := if keep || x.st == 0 then x.feed else s.pickFeed
    let st := if x.st = 1 ∨ x.st = 2 then s.combRef else x.st
    s.modLight l (fun y => { y with feed := feed, feedSince := if feed = x.feed then y.feedSince else s.time, st := st })) s

/-- ELM_FEED_LOST. -/
def execElmFeedLost (feed : Fin 2) (s : State) : Host.Outcome State Fault Refusal :=
  if !s.elm.present feed then .next s
  else
    let e := if feed.val = 0 then { s.elm with lostA := true, backA := none } else { s.elm with lostB := true, backB := none }
    .next (({ s with elm := e }.refeed).raise (mkEvent 0x0B sevAdvisory 0xFF 0xFF 0 feed))

/-- ELM_FEED_RETURN: after 10 ms within limits the feed is present; the quiet of its preferred return begins. -/
def execElmFeedReturn (feed : Fin 2) (s : State) : Host.Outcome State Fault Refusal :=
  if s.elm.present feed then .next s
  else
    let e := if feed.val = 0 then { s.elm with lostA := false, backA := some s.time } else { s.elm with lostB := false, backB := some s.time }
    .next { s with elm := e }.refeed

/-- ELM_PREFERRED_RETURN: 10 ms after the preferred feed counts as present again. -/
def execElmPreferredReturn (l : Fin 8) (s : State) : Host.Outcome State Fault Refusal :=
  let p := s.obj 0x4100 2
  let back := if p = 0 then s.elm.backA else s.elm.backB
  let quiet : Bool := match back with | some t => decide (t + 10 * tickMs ≤ s.time) | none => true
  .next (if s.elm.present p ∧ quiet ∧ (s.light l).st ≠ 0 ∧ (s.light l).feed ≠ some p then
    s.modLight l (fun y => { y with feed := some p, feedSince := s.time }) else s)

/-- LAMBDA_S_LOST: class 0 rides λ0. -/
def execLambdaSLost (port : Fin 128) (s : State) : Host.Outcome State Fault Refusal :=
  .next (s.modPort port (fun x => { x with onL0 := true, l0At := s.time }))

/-- λS has been present on a port for 10 ms: it works both ways, a feed has been selected that long, its rings have been locked that
long, and class 0 has ridden λ0 that long (R255). -/
def State.lamBack (s : State) (p : Nat) : Bool :=
  let b := s.bank (s.bankOf p)
  let x := s.light (lightOf p)
  let old (t : Nat) : Bool := decide (t + 10 * tickMs ≤ s.time)
  b.lamWorks && s.pickFeed.isSome && old x.feedSince && old (b.ring true 36).since && old (b.ring false 36).since && old (s.port p).l0At

/-- LAMBDA_S_RETURN: λS has been present for 10 ms; class 0 returns to it. -/
def execLambdaSReturn (port : Fin 128) (s : State) : Host.Outcome State Fault Refusal :=
  .next (if s.lamBack port then s.modPort port (fun x => { x with onL0 := false }) else s)

/-! ### Assigning rings (R256 to R258) -/

/-- The comb that feeds a bank is locked. -/
def State.lit (s : State) (b : Nat) : Bool :=
  let st := (s.light (bankLight b)).st
  st == 1 || st == 2 || st == 3

/-- A port in TRAIN whose lanes in service are confirmed in both directions is up (R258). -/
def BankSt.train (b : BankSt) : BankSt :=
  if b.st = 2 ∧ b.before = 0 ∧ b.confirmed true ∧ b.confirmed false ∧ 24 ≤ b.lanesLeft then { b with st := b.upState } else b

/-- The light die of a bank has leave for heater sweeps, asks for it, or gives it back once no ring of it is searched for; the light
step of start-up gives it back at its end (R256). -/
def State.sweeps (s : State) (b : Nat) : Bool := s.pwr.has (.ringSweep (Fin.ofNat 8 (bankLight b)))
def State.askSweep (s : State) (b : Nat) : State := s.leaveAsk (.ringSweep (Fin.ofNat 8 (bankLight b)))
def State.endSweep (s : State) (b : Nat) : State :=
  let busy (i : Nat) : Bool := let x := s.bank (17 * bankLight b + i); x.searching || x.st == 2
  if s.sweeps b && s.bootStep == 12 && !(List.range 17).any busy then s.releaseLeave (.ringSweep (Fin.ofNat 8 (bankLight b))) else s

/-- A setting within 10 % of the range around the recorded one (R258, R261). -/
def Ring.near (r : Ring) (setting : Nat) : Bool := decide (setting ≤ r.setting + 420000) && decide (r.setting ≤ setting + 420000)

/-- The mark under which the last valid identity idle of a receive ring is kept: its lane's, 32 for λS (R261). -/
def BankSt.idleKey (b : BankSt) (ring : Nat) : Option Nat := if ring = 36 then some 32 else b.laneOf false ring

/-- A receive ring is on its line, confirmed by an identity idle now. -/
def BankSt.idleAt (b : BankSt) (ring now : Nat) : BankSt :=
  match b.idleKey ring with
  | some n => { b with idle := mapSet 0 b.idle n now }
  | none => b

/-- TRANSMIT_RING_ASSIGN: the heater setting found and the pilot seen there. A setting that is not the recorded one takes a sweep,
which needs leave. Rings go in increasing line order. -/
def execTransmitRingAssign (bank : Fin 136) (ring : Fin 37) (setting : Nat) (pilot : Fin 37) (s : State) :
    Host.Outcome State Fault Refusal :=
  let b := s.bank bank
  let r := b.ring true ring
  let swept := decide (setting ≠ r.setting)
  let inTurn := (List.range ring.val).all (fun i => (b.ring true i).locked || decide (0 < (b.ring true i).fails))
  if !s.lit bank || r.locked || !inTurn || decide (4200000 < setting) then .next s
  else if swept && !s.sweeps bank then .next (s.askSweep bank)
  else
    let r1 : Ring := if pilot = ring then { setting := setting, locked := true, since := s.time } else { r with fails := r.fails + 1 }
    .next ((s.modBank bank (fun x => (x.setRing true ring r1).train)).endSweep bank)

/-- A lane goes out of service, and the port restripes the rest (R261). -/
def BankSt.dropLane (b : BankSt) (tx : Bool) (lane : Nat) : BankSt := (b.setOut tx (setIns lane (b.out tx))).relane

/-- A lane returns. -/
def BankSt.backLane (b : BankSt) (tx : Bool) (lane : Nat) : BankSt := (b.setOut tx ((b.out tx).filter (· != lane))).relane

/-- RECEIVE_RING_SEARCH: a search in TRAIN ends with its line's identity confirmed, or not; beyond 10 % of the range around the
recorded setting it is a sweep, which needs leave. A lane that fails two searches leaves service. -/
def execReceiveRingSearch (bank : Fin 136) (ring : Fin 37) (setting : Nat) (confirmed : Bool) (s : State) :
    Host.Outcome State Fault Refusal :=
  let b := s.bank bank
  let r := b.ring false ring
  if b.st ≠ 2 ∨ r.locked ∨ 4200000 < setting then .next s
  else if !r.near setting && !s.sweeps bank then .next (s.askSweep bank)
  else if confirmed then
    .next ((s.modBank bank (fun x =>
      ((x.setRing false ring { setting := setting, locked := true, since := s.time }).idleAt ring s.time).train)).endSweep bank)
  else
    let b1 := b.setRing false ring { r with fails := r.fails + 1 }
    let b2 := match b.laneOf false ring with
      | some n => if 1 ≤ r.fails then b1.dropLane false n else b1
      | none => b1
    .next ((s.modBank bank (fun _ => b2.train)).endSweep bank)

/-- A bank enters PROBE: its launch falls to 1 mW or less. -/
def BankSt.probe (b : BankSt) : BankSt := { b with st := 1, before := 0, dark := true, light := none, pulse := 0 }

/-- PORT_TRAIN_TIMEOUT: 60 s in TRAIN. -/
def execPortTrainTimeout (bank : Fin 136) (s : State) : Host.Outcome State Fault Refusal :=
  let b := s.bank bank
  .next (if b.st = 2 ∧ b.since + 60 * tickS ≤ s.time then s.modBank bank BankSt.probe else s)

/-! ### Holding lock (R260 to R262) -/

/-- A ring is detuned for a search, for which leave is asked: its lane leaves service; with λS's ring the port loses λS. -/
def State.detune (s : State) (b : Nat) (tx : Bool) (ring : Nat) : State :=
  let x := s.bank b
  let x1 := x.setRing tx ring { x.ring tx ring with locked := false, searching := true, since := s.time, wrong := 0 }
  let s1 := (s.modBank b (fun _ => match x.laneOf tx ring with | some n => x1.dropLane tx n | none => x1)).askSweep b
  if ring = 36 then
    match s.portOfBank b with
    | some p => s1.modPort p (fun y => { y with onL0 := true, l0At := s.time })
    | none => s1
  else s1

/-- RING_FSR_MOVE: the lock loop has brought the ring's setting to `at_`, within 5 % of an end of the range: the ring moves to its line
one free spectral range, 4.0 THz, away. -/
def execRingFsrMove (bank : Fin 136) (tx : Bool) (ring : Fin 37) (shift : RingShift) (s : State) : Host.Outcome State Fault Refusal :=
  let r := (s.bank bank).ring tx ring
  let near := decide (shift.at_ ≤ 210000) || decide (3990000 ≤ shift.at_)
  let fsr := shift.setting == shift.at_ + 4000000 || shift.setting + 4000000 == shift.at_
  if r.locked && near && fsr && decide (shift.setting ≤ 4200000) then
    let s1 := s.detune bank tx ring
    .next (s1.modBank bank (fun x => x.setRing tx ring { x.ring tx ring with setting := shift.setting }))
  else .next s

/-- PILOT_CHECK: wrong pilots in a row are counted. -/
def execPilotCheck (bank : Fin 136) (ring : Fin 37) (pilot : Fin 37) (s : State) : Host.Outcome State Fault Refusal :=
  let r := (s.bank bank).ring true ring
  if !r.locked then .next s
  else .next (s.modBank bank (fun x => x.setRing true ring { r with wrong := if pilot = ring then 0 else r.wrong + 1 }))

/-- A ring is on the wrong line (R261): two wrong pilots in a row, a wrong identity idle, or no valid one in 2^17 codewords. -/
def State.mislocked (s : State) (b : Nat) (tx : Bool) (ring : Nat) : Bool :=
  let x := s.bank b
  let r := x.ring tx ring
  r.locked && (if tx then decide (2 ≤ r.wrong)
    else decide (1 ≤ r.wrong) || (match x.idleKey ring with
      | some n => decide (mapGet 0 x.idle n + 589824 * tickNs ≤ s.time)
      | none => false))

/-- RING_MISLOCK. -/
def execRingMislock (bank : Fin 136) (tx : Bool) (ring : Fin 37) (s : State) : Host.Outcome State Fault Refusal :=
  .next (if s.mislocked bank tx ring then
    ((s.detune bank tx ring).bump 0x4100 7).bankEvent bank 0x09 sevNote 0 ring else s)

/-- RING_RESEARCH_DONE: a search within 10 % of the range around the recorded setting ends. -/
def execRingResearchDone (bank : Fin 136) (tx : Bool) (ring : Fin 37) (found : Bool) (setting : Nat) (s : State) :
    Host.Outcome State Fault Refusal :=
  let b := s.bank bank
  let r := b.ring tx ring
  if !r.searching then .next s
  else if !s.sweeps bank then .next (s.askSweep bank)
  else if found && r.near setting then
    let b1 := b.setRing tx ring { setting := setting, locked := true, since := s.time }
    let b2 := match b.laneOf tx ring with | some n => b1.backLane tx n | none => b1
    .next ((s.modBank bank (fun _ => if tx then b2 else b2.idleAt ring s.time)).endSweep bank)
  else if 1 ≤ r.fails then .next ((s.modBank bank (fun x => x.setRing tx ring { r with searching := false, fails := 2 })).endSweep bank)
  else .next (s.modBank bank (fun x => x.setRing tx ring { r with fails := r.fails + 1, since := s.time }))

/-- A line has failed at a bank: its ring has failed two searches, or its comb line has faded (R262). -/
def State.lineFailed (s : State) (b : Nat) (tx : Bool) (line : Nat) : Bool :=
  decide (2 ≤ ((s.bank b).ring tx line).fails) || (tx && (s.light (bankLight b)).failedLines.contains line)

/-- The first spare line that is free in a direction and has not failed; or the one the ends have agreed. -/
def State.freeLine (s : State) (b : Nat) (tx : Bool) (agreed : Option (Fin 4)) : Option Nat :=
  let free (n : Nat) : Bool := !((s.bank b).spareUse tx).contains n && !s.lineFailed b tx n
  ((agreed.map (fun i => [32 + i.val])).getD [32, 33, 34, 35]).find? free

/-- The class-3 link message by which a port agrees a spare line with its partner (R262): the spec gives it no contents. -/
def State.linkMsg (s : State) (p : Nat) (tx : Bool) (lane line : Nat) : State :=
  let k : Packet :=
    { op := 0x40, cls := 3, ord := false, tile := false, tstate := 0, hops := 0, lines := 0,
      dstModule := ((s.bank (s.bankOf p)).partner.map (·.1)).getD 0xFFFF, srcModule := BitVec.ofNat 16 s.moduleId, dstDie := 0,
      srcDie := 0, flow := 0, pseq := 0, first := false, txn := 0, epoch := BitVec.ofNat 32 s.epoch, addr := 0, hchk := 0,
      opx := Config.linkMsg (field 16 tx.toNat + field 8 lane + line), payload := [] }
  s.modPort p (fun x => { x with voq := x.voq ++ [k.seal] })

/-- A lane takes a spare line: it is out of service until the spare ring has been trained from identity idles (R262). -/
def BankSt.toSpare (x : BankSt) (tx : Bool) (lane n now : Nat) : BankSt :=
  let x1 := x.setRing tx n { x.ring tx n with locked := false, searching := true, since := now, wrong := 0, fails := 0 }
  let x2 := if tx then { x1 with txLine := mapSet 0 x1.txLine lane (n + 1), txSpare := setIns n x1.txSpare }
    else { x1 with rxLine := mapSet 0 x1.rxLine lane (n + 1), rxSpare := setIns n x1.rxSpare }
  x2.dropLane tx lane

/-- LANE_SUBSTITUTION: a lane whose line has failed here moves onto a spare line, and a link message tells the partner; or the partner's
link messages have agreed one. Without a spare line the lane stays out of service. -/
def execLaneSubstitution (port : Fin 128) (tx : Bool) (sub : LaneSpare) (s : State) : Host.Outcome State Fault Refusal :=
  let b := s.bankOf port
  let x := s.bank b
  if sub.agreed.isNone && !s.lineFailed b tx (x.lineOf tx sub.lane) then .next s
  else match s.freeLine b tx sub.agreed with
  | none => .next (if sub.agreed.isSome || (x.out tx).contains sub.lane.val then s else s.modBank b (fun y => y.dropLane tx sub.lane))
  | some n =>
    let s1 := ((s.modBank b (fun x => x.toSpare tx sub.lane n s.time)).askSweep b).bump 0x4100 8
    .next ((if sub.agreed.isNone then s1.linkMsg port tx sub.lane n else s1).lightBench.bankEvent b 0x09 sevAdvisory 1 (64 * tx.toNat + sub.lane))

/-! ### Bank substitution (R263) -/

/-- The spare bank of a light die is free. -/
def State.spareFree (s : State) (l : Nat) : Bool :=
  (s.portOfBank (spareBank l)).isNone && (s.bank (spareBank l)).st != 7 && (s.bank (spareBank l)).st != 2

/-- The bank of a port has failed: fewer than 24 lanes in a direction, or three failed retrainings within 1 s. -/
def State.bankFailed (s : State) (b : Nat) : Bool :=
  let x := s.bank b
  let recent := x.failed.filter (fun t => decide (s.time ≤ t + tickS))
  (x.st == 2 || x.st == 3 || x.st == 4) && (decide (x.lanesLeft < 24) || decide (3 ≤ recent.length))

/-- A port loses its data lanes: SIGNAL_ONLY while λS works both ways, else FAILED. -/
def State.signalOnly (s : State) (b : Nat) : State :=
  let ok := (s.bank b).lamWorks
  let s1 := s.modBank b (fun x => if ok then { x with st := 5, before := 0, failed := [] } else { x.off with st := 7, partner := x.partner })
  s1.bankEvent b 0x09 sevDegraded (if ok then 5 else 7) b

/-- A port moves onto the spare bank: OPT.PORT_PHYS follows, the old bank is dark for good, and the link comes up anew there. -/
def State.moveBank (s : State) (p b n : Nat) (trained : Bool) : State :=
  let s1 := (s.modBank b (fun x => { x.off with st := 7, partner := x.partner })).setObj 0x4121 (p + 1) n
  let s2 := s1.modBank n (fun x =>
    if trained then x else { x with st := 2, before := 0, dark := false, since := s.time, comb := (s.light (bankLight b)).active })
  (s2.uncal n).lightBench.bankEvent b 0x09 sevAdvisory 2 n

/-- BANK_SUBSTITUTION: the port moves to a free spare bank, unless the fault lies beyond the module. -/
def execBankSubstitution (fault : PortFault) (s : State) : Host.Outcome State Fault Refusal :=
  let b := s.bankOf fault.port
  let l := bankLight b
  .next (if !s.bankFailed b then s
    else if b ≠ spareBank l ∧ s.spareFree l ∧ ¬ fault.beyond then s.moveBank fault.port b (spareBank l) false
    else s.signalOnly b)

/-- The failed port of a light die whose last partner is the one named. -/
def State.lostTo (s : State) (l : Nat) (m : BitVec 16) (p : BitVec 7) : Option Nat :=
  ((List.range 16).map (fun i => 16 * l + i)).find? (fun q =>
    let x := s.bank (s.bankOf q)
    (x.st == 7 || x.st == 5 || x.st == 1) && x.partner == some (m, p) && s.bankOf q != spareBank l)

/-- The receptacle (J0 to J16) and the fibre pair of a physical port: 17 to a light die, the last its spare bank (R553). -/
def fibreOf (phys : Nat) : Nat × Nat :=
  let l := phys / 17
  let i := phys % 17
  if i = 16 then (16, l) else if i < 8 then (l, i) else (8 + l, i - 8)

/-- Fibre positions of a pair in its receptacle: transmit and receive (Table 6 of ch.22). -/
def pairPositions (pair : Nat) : Nat × Nat := (pair + 1, 16 - pair)

/-- The position at the far end of a trunk (R554). -/
def trunkEnd (pos : Nat) : Nat := 17 - pos

/-- SPARE_BANK_LIGHT: the link has been patched onto the spare bank's own fibre. -/
def execSpareBankLight (l : Fin 8) (module : BitVec 16) (lport : BitVec 7) (s : State) : Host.Outcome State Fault Refusal :=
  let n := spareBank l
  if !s.spareFree l || !s.lit n then .next s
  else
    let s1 := s.modBank n (fun x =>
      { x with st := 2, before := 0, dark := false, since := s.time, light := some s.time, partner := some (module, lport), comb := (s.light l).active })
    .next (match s.lostTo l module lport with
      | some q => s1.moveBank q (s.bankOf q) n true
      | none => s1.bankEvent n 0x09 sevNote 3 module.toNat)

/-! ### Fade and changeover (R264 to R266) -/

/-- A comb line's key. -/
def lineKey (comb line : Nat) : Nat := 36 * comb + line

/-- No powers of a comb are on record, and none of its first lock. -/
def LightSt.unmeasured (x : LightSt) (comb : Nat) : Bool :=
  (List.range 36).all (fun i => (mapGet none x.refs (lineKey comb i)).isNone && (mapGet none x.firsts (lineKey comb i)).isNone)

/-- The powers of a comb's lines as its monitor tap measures them (R264); those of its first lock are kept as the reference where no
record gives one (R259). -/
def LightSt.measure (x : LightSt) (comb : Nat) (powers : List Int) : LightSt :=
  let put (m : SMap (Option Int)) : SMap (Option Int) :=
    (List.range 36).foldl (fun m i => mapSet none m (lineKey comb i) powers[i]?) m
  { x with firsts := if x.unmeasured comb then put x.firsts else x.firsts, powers := put x.powers }

/-- The power a line's fade is measured against: that of commissioning, else that of the comb's first lock (R259). -/
def LightSt.refOf (x : LightSt) (comb line : Nat) : Int :=
  ((mapGet none x.refs (lineKey comb line)).orElse (fun _ => mapGet none x.firsts (lineKey comb line))).getD 0

/-- Fades of the lines of the active comb in 0.01 dB. -/
def LightSt.fadesOf (x : LightSt) (powers : List Int) : List Int :=
  (List.range 36).map (fun i => (powers[i]?).getD 0 - x.refOf x.active i)

/-- Mean of a list of integers. -/
def meanInt (l : List Int) : Int := l.foldl (· + ·) 0 / max 1 l.length

/-- Ports of a light die in the order of a changeover; a port without λS that is the upstream port goes last. -/
def State.changeOrder (s : State) (l : Nat) : List Nat :=
  let ps := portsOf l
  match s.gt.up with
  | some u => if ps.contains u && (s.port u).onL0 then ps.filter (· != u) ++ [u] else ps
  | none => ps

/-- At −3 dB: the changeover begins, or an event says that no standby is there (R265, R266). -/
def State.beginChange (s : State) (l : Nat) : State :=
  let x := s.light l
  if x.change.isSome then s
  else if !x.standby then s.raise (mkEvent 0x0A sevDegraded (16 + l) 0xFF 1 0)
  else
    let on := x.standbyOn.isSome
    let s1 := s.modLight l (fun y => { y with st := 3, testing := false, change := some { todo := s.changeOrder l, standbyLocked := on } })
    if on then s1 else s1.leaveAsk (.combStart (Fin.ofNat 8 l))

/-- COMB_MONITOR_SAMPLE: a sample of the standby comb, where that runs, or of the active one: fade filtered over 8 samples, its
thresholds with 0.5 dB of hysteresis, and lines that have failed. -/
def execCombMonitorSample (c : CombRef) (powers : List Int) (s : State) : Host.Outcome State Fault Refusal :=
  let x := s.light c.l
  if powers.length ≠ 36 then .next s
  else if c.standby then .next (if x.standbyOn.isSome then s.modLight c.l (fun y => y.measure (1 - y.active) powers) else s)
  else if ¬ s.lit (17 * c.l.val) then .next s
  else
    let fresh := x.unmeasured x.active
    let y := x.measure x.active powers
    let f := y.fadesOf powers
    let fades := (meanInt f :: x.fades).take 8
    let fade := meanInt fades
    let thr := signed 32 (s.obj 0x4100 4)
    let advised := if fade ≤ thr then true else if thr + 50 ≤ fade then false else x.advised
    let crossed := if fade ≤ -300 then true else if -250 ≤ fade then false else x.crossed
    let lines := (List.range 36).filter (fun i => decide ((f[i]?).getD 0 ≤ -450))
    let bad := if -300 < fade then lines.foldl (fun m i => setIns i m) x.failedLines else x.failedLines
    let s1 := s.modLight c.l (fun _ => { y with fades := fades, advised := advised, crossed := crossed, failedLines := bad })
    let s2 := if fresh ∧ ¬ x.record then s1.raise (mkEvent 0x15 sevAdvisory (16 + c.l) 0xFF 2 0) else s1
    let s3 := if advised ∧ ¬ x.advised then s2.raise (mkEvent 0x0A sevAdvisory (16 + c.l) 0xFF 0 0) else s2
    let s4 := if crossed ∧ ¬ x.crossed then s3.beginChange c.l else s3
    .next (if fade ≤ -450 ∧ ¬ (s4.light c.l).standby ∧ (s4.light c.l).change.isNone then
      (portsOf c.l).foldl (fun s p => if s.portSt p = 3 ∨ s.portSt p = 4 then s.signalOnly (s.bankOf p) else s) s4
    else s4)

/-- The last port has resumed: the other comb is active, the old one off and retired (R265). -/
def State.endChange (s : State) (l : Nat) : State :=
  let s1 := s.modLight l (fun y =>
    { y with active := 1 - y.active, standby := false, standbyOn := none, change := none, st := s.combRef, fades := [], advised := false,
             crossed := false, failedLines := [] })
  ((s1.lightBench.setObj 0x4112 (l + 1) 0).bump 0x4100 9).raise (mkEvent 0x0A sevAdvisory (16 + l) 0xFF 2 0)

/-- The pause length a link-pause notice names, in ns: R265 gives no value, only the limits of the pause itself. -/
def pauseNs : Nat := 20000 + Config.pauseLength % 10001

/-- A port pauses (R265, R304). -/
def State.pausePort (s : State) (l p : Nat) (rest : List Nat) : State :=
  let f := BitVec.ofNat 256 (field 248 0x03 + field 216 s.moduleId + field 209 p + field 192 pauseNs + s.epoch)
  let x := s.light l
  let un (b : BankSt) : BankSt :=
    { b with st := 6, before := b.st, comb := 1 - x.active, tx := b.tx.map (fun kv => (kv.1, if kv.1 < 36 then { kv.2 with locked := false } else kv.2)) }
  ((s.sendFrame p f).modBank (s.bankOf p) un).modLight l (fun y => { y with change := y.change.map (fun c =>
    { c with todo := rest, now := some p, at_ := s.time }) })

/-- The next port of a changeover in its turn: one in PROBE, TRAIN, FAILED or OFF is skipped and takes the new comb; one with a
search in progress is taken last (R266). -/
def State.nextPause (l : Nat) : Nat → List Nat → State → State
  | 0, ps, s => s.modLight l (fun y => { y with change := y.change.map (fun c => { c with todo := ps }) })
  | n + 1, ps, s =>
    match ps with
    | [] => s.endChange l
    | p :: rest =>
      let b := s.bank (s.bankOf p)
      if b.st ≤ 2 ∨ b.st = 7 then State.nextPause l n rest (s.modBank (s.bankOf p) (fun x => { x with comb := 1 - (s.light l).active }))
      else if b.searching then State.nextPause l n (rest ++ [p]) s
      else s.pausePort l p rest

/-- PORT_PAUSE: the standby comb is locked, no port of the die is paused, 10 µs have passed since the last resume. -/
def execPortPause (l : Fin 8) (s : State) : Host.Outcome State Fault Refusal :=
  match (s.light l).change with
  | some c =>
    if c.standbyLocked && c.now.isNone && (c.at_ == 0 || decide (c.at_ + 10 * tickUs ≤ s.time)) then
      .next (State.nextPause l 17 c.todo s)
    else .next s
  | none => .next s

/-- PORT_RESUME. -/
def execPortResume (l : Fin 8) (s : State) : Host.Outcome State Fault Refusal :=
  match (s.light l).change with
  | some c =>
    match c.now with
    | some p =>
      let lock (b : BankSt) : BankSt :=
        { b with st := if b.st = 6 then b.before else b.st, before := 0, tx := b.tx.map (fun kv => (kv.1,
          if kv.1 < 36 ∧ (b.laneOf true kv.1).isSome then { kv.2 with locked := true } else kv.2)) }
      let s1 := (s.modBank (s.bankOf p) lock).modLight l (fun y => { y with change := y.change.map (fun c => { c with now := none, at_ := s.time }) })
      .next (if c.todo.isEmpty then s1.endChange l else s1)
    | none => .next s
  | none => .next s

/-! ### Standby test (R267) -/

/-- STANDBY_TEST: the interval has passed; leave is asked for the standby comb. -/
def execStandbyTest (l : Fin 8) (s : State) : Host.Outcome State Fault Refusal :=
  let x := s.light l
  .next (if x.standby && x.change.isNone && !x.testing && (x.st == 1 || x.st == 2)
      && decide (x.lastTest + s.obj 0x4900 3 * 86400 * tickS ≤ s.time) then
    (s.modLight l (fun y => { y with testing := true })).leaveAsk (.combStart l) else s)

/-- STANDBY_TEST_END: 10 s after its lock the standby is switched off; one that fails, or does not lock at all under its leave, is
retired. -/
def execStandbyTestEnd (l : Fin 8) (pass : Bool) (s : State) : Host.Outcome State Fault Refusal :=
  let x := s.light l
  .next (if !x.testing then s
    else match x.standbyOn with
    | some t =>
      if s.time < t + 10 * tickS then s
      else if pass then s.modLight l (fun y => { y with testing := false, standbyOn := none, lastTest := s.time })
      else s.retireStandby l 3
    | none => if pass || !s.pwr.has (.combStart l) then s else (s.retireStandby l 3).releaseLeave (.combStart l))

/-! ### Eye safety (R268) -/

/-- PARTNER_LOSS: links and class 0 on the port cease, and it enters PROBE. -/
def execPartnerLoss (bank : Fin 136) (s : State) : Host.Outcome State Fault Refusal :=
  let b := s.bank bank
  if b.st < 2 ∨ b.st = 7 then .next s
  else
    let rx := b.rx.map (fun kv => (kv.1, { kv.2 with locked := false, searching := false, wrong := 0, fails := 0 }))
    let s1 := (s.modBank bank (fun x => { x with rx := rx, idle := [], deskew := [] }.probe)).uncal bank
    .next ((s1.bump 0x4100 0x0A).bankEvent bank 0x09 sevNote 4 0)

/-- PROBE_PULSE: 2 ms of light every 500 ms. -/
def execProbePulse (bank : Fin 136) (s : State) : Host.Outcome State Fault Refusal :=
  let b := s.bank bank
  .next (if b.st = 1 ∧ s.lit bank ∧ (b.pulse = 0 ∨ b.pulse - 1 + 500 * tickMs ≤ s.time) then
    (s.modBank bank (fun x => { x with pulse := s.time + 1 })).emit (.probe bank) else s)

/-- PROBE_ANSWER: light for 50 µs; the transmitter is on and the port trains. -/
def execProbeAnswer (bank : Fin 136) (s : State) : Host.Outcome State Fault Refusal :=
  let b := s.bank bank
  .next (if b.st = 1 ∧ s.lit bank then
    (s.modBank bank (fun x => { x with st := 2, dark := false, since := s.time, light := some s.time })).uncal bank else s)

/-! ### Retraining (R270) -/

/-- PORT_RETRAIN: a frame has been replayed 8 times in succession. -/
def execPortRetrain (port : Fin 128) (s : State) : Host.Outcome State Fault Refusal :=
  let b := s.bankOf port
  .next (if ((s.bank b).st = 3 ∨ (s.bank b).st = 4) ∧ 8 ≤ (s.port port).replays then
    (s.modBank b (fun x => { x with before := x.st, st := 2, since := s.time, deskew := [] })).modPort port
      (fun x => { x with txBits := { }, txLane := 0, rxBits := { } }) else s)

/-- PORT_RETRAIN_DONE: lanes that fail leave service and are searched; a failed retraining is tried again, and at the third
within 1 s the bank has failed. -/
def execPortRetrainDone (port : Fin 128) (ok : Bool) (badTx badRx : List (Fin 32)) (s : State) : Host.Outcome State Fault Refusal :=
  let b := s.bankOf port
  let x := s.bank b
  if x.st ≠ 2 ∨ x.before = 0 then .next s
  else if ok then
    let s1 := (s.modBank b (fun y => { y with st := y.upState, before := 0 })).modPort port (fun q => { q with replays := 0 })
    let drop (tx : Bool) (s : State) (n : Fin 32) : State := s.detune b tx ((s.bank b).lineOf tx n)
    .next (badRx.foldl (drop false) (badTx.foldl (drop true) s1))
  else
    let recent := (x.failed ++ [s.time]).filter (fun t => decide (s.time ≤ t + tickS))
    .next (s.modBank b (fun y => { y with failed := recent, since := s.time }))

/-! ### Commissioning and objects (R259) -/

/-- A write of OPT.COMMISSION: refused unless every comb is LOCKED_ELM and every port with a partner is UP. -/
def State.commission (s : State) (v : Nat) : Nat × State :=
  let combs := (List.range 8).all (fun l => (s.light l).st == 1)
  let ports := (List.range 128).all (fun p => s.portSt p == 0 || s.portSt p == 1 || s.portSt p == 7 || s.portSt p == 3)
  if v ≠ 1 then (rpRange, s)
  else if !combs || !ports then (rpState, s)
  else
    (rpOk, (List.range 8).foldl (fun s l =>
      let t := s.modLight l (fun y => { y with refs := y.powers.foldl (fun m kv => mapSet none m kv.1 kv.2) y.refs, record := true, fades := [] })
      t.writeRecord (16 + l) (t.recBody (16 + l) true) true) (s.setObj 0x4100 0x0E s.gtNow))

/-- OPT_COMMISSION. -/
def execOptCommission (v : BitVec 8) (s : State) : Host.Outcome State Fault Refusal :=
  .next (s.expertRowDone 0x4900 1 (s.commission v.toNat))

/-- A locked ring at the setting at which its lock loop holds it now (R260). -/
def Ring.drifted (r : Ring) (time bank : Nat) (tx : Bool) (i : Nat) : Ring :=
  if r.locked then { r with setting := min (Config.ringSetting time bank tx i) 4200000 } else r

/-- The rings of a bank, each where its lock loop holds it now. -/
def BankSt.drifted (x : BankSt) (time bank : Nat) : BankSt :=
  { x with tx := x.tx.map (fun kv => (kv.1, kv.2.drifted time bank true kv.1)),
           rx := x.rx.map (fun kv => (kv.1, kv.2.drifted time bank false kv.1)) }

/-- RING_RECORD_REFRESH: heater settings, which lock loops have moved, once in every 24 hours, never the powers. -/
def execRingRecordRefresh (s : State) : Host.Outcome State Fault Refusal :=
  if s.elm.refreshAt + 86400 * tickS ≤ s.time ∧ s.sys.ball.isSome then
    let s0 : State := { s with banks := s.banks.map (fun kv => (kv.1, kv.2.drifted s.time kv.1)) }
    let s1 := (List.range 8).foldl (fun s l =>
      if (s.light l).record then s.writeRecord (16 + l) (s.recBody (16 + l) true) true else s) s0
    .next { s1 with elm := { s1.elm with refreshAt := s.time } }
  else .next s

/-- A port is switched off, or back on into PROBE where its comb runs (Table 4, OPT.PORT_DISABLE). -/
def State.portSwitch (s : State) (p : Nat) (off : Bool) : State :=
  let b := s.bankOf p
  if off then (s.modBank b BankSt.off).uncal b
  else if (s.bank b).st = 0 ∧ s.lit b then s.modBank b BankSt.probe else s

/-- A write of OPT.PORT_DISABLE. -/
def State.portDisable (s : State) (v : Nat) : Nat × State :=
  let old := s.obj 0x4124 0
  (rpOk, ((List.range 128).foldl (fun s p =>
    if v.testBit p && !old.testBit p then s.portSwitch p true
    else if !v.testBit p && old.testBit p then s.portSwitch p false else s) (s.setObj 0x4124 0 v)))

end Sys2Proof.Machine
end

