-- ==== Sys2Proof/Machine/Lanes.lean ====
section
/-! DEFINITION. Panel lanes (ch.10): flits and their replay (R277, R282), training (R279), lane failure, half width and roles
(R283 to R288), detours (R289), the lane test (R292). -/

namespace Sys2Proof.Machine

/-! ### Flits (R277, Table 2) -/

/-- The word of a lane of a flit. -/
def laneWord (f : BitVec 2048) (i : Nat) : Nat := bits f (32 * i + 31) (32 * i)

/-- How many bits of a number below 2^n are set. -/
def popCount (n v : Nat) : Nat := ((List.range n).filter (fun i => v.testBit i)).length

/-- Logical lanes of a flit whose parity fails: a lane's 32 bits hold an even number of ones. -/
def parityFails (f : BitVec 2048) : List Nat := (List.range 64).filter (fun i => popCount 32 (laneWord f i) % 2 == 1)

/-- The body of a flit: 31 bits of each lane. -/
def flitBody (f : BitVec 2048) : BitVec 1984 :=
  BitVec.ofNat 1984 ((List.range 64).foldl (fun n i => n + laneWord f i % 2 ^ 31 * 2 ^ (31 * i)) 0)

def fbType (b : BitVec 1984) : Nat := bits b 63 56
def fbSeq (b : BitVec 1984) : BitVec 12 := BitVec.ofNat 12 (bits b 55 44)
def fbAck (b : BitVec 1984) : BitVec 12 := BitVec.ofNat 12 (bits b 43 32)

/-- CRC-32C over body bits [1983:32]. -/
def flitCrcOk (b : BitVec 1984) : Bool := crc32c (toBytes 244 (b.toNat / 2 ^ 32)) == bits b 31 0

/-- Sequence a is not later than b. -/
def seqUpTo (a b : BitVec 12) : Bool := decide ((b - a).toNat < 2048)

/-- Parity errors of lanes noted, over the last 2 µs (R283). -/
def FlitDir.noteErrs (d : FlitDir) (lanes : List Nat) (now : Nat) : FlitDir :=
  { d with errs := lanes.foldl (fun m n => mapSet [] m n (((mapGet [] m n).filter (fun t => decide (now ≤ t + 2 * tickUs))) ++ [now])) d.errs }

/-- Flits up to an ACK leave the retry buffer. -/
def FlitDir.acked (d : FlitDir) (ack : BitVec 12) : FlitDir :=
  { d with retry := d.retry.filter (fun f => !seqUpTo f.seq ack), replays := if seqUpTo d.replaySeq ack then 0 else d.replays }

/-- A good flit that carries a payload: delivered in SEQ order, else NAKed or, where it has come before, dropped. Its sender holds it
until it is acknowledged. -/
def FlitDir.take (d : FlitDir) (seq : BitVec 12) (ty : Nat) (pay : BitVec 1920) : FlitDir :=
  let f : Flit := { seq := seq, ty := BitVec.ofNat 8 ty, pay := pay }
  let kept := if d.retry.any (fun x => x.seq == seq) || decide (256 ≤ d.retry.length) then d.retry else d.retry ++ [f]
  let d1 : FlitDir := { d with retry := kept, sent := if seqUpTo d.sent seq then seq else d.sent }
  if seq = d.got + 1 then { d1 with got := seq, nak := none, rx := d1.rx ++ [(BitVec.ofNat 8 ty, pay)] }
  else if seqUpTo (d.got + 1) seq then { d1 with nak := some (d.got + 1) }
  else { d with sent := d1.sent }

/-- A resend from a flit onward, out of the retry buffer (R282). -/
def State.resendFlits (s : State) (e b : Nat) (rev : Bool) (seq : BitVec 12) : State :=
  let d := (s.bundle e b).dir rev
  let fs := d.retry.filter (fun f => seqUpTo seq f.seq)
  let again := if d.replaySeq = seq then d.replays + 1 else 1
  if fs.isEmpty then s
  else
    let s1 := s.modBundle e b (fun x => x.setDir rev { d with replays := again, replaySeq := seq })
    ((fs.foldl (fun s f => s.emitFlit e b rev f) s1).bump 0x5200 4 fs.length).raise (mkEvent 0x08 sevNote (edgeEnds e).1 e 0 b)

/-- The logical lane that carries the i-th word of a flit: at half width two words in turn on each lane of the active half (R277). -/
def BundleSt.wordLane (x : BundleSt) (i : Nat) : Nat := if x.width = 2 then i % 32 else if x.width = 3 then 32 + i % 32 else i

/-- A flit of a TYPE that the bundle's role does not carry: class 0 travels on signal bundles alone (R281). -/
def BundleSt.carries (x : BundleSt) (ty : Nat) : Bool := ty != 0x02 || x.role == 1

/-- A failed flit is discarded and its parity errors are noted on the physical lanes they came over; a NAK names it, as the flit after
the last good one, in the next flit of the other direction (R282, R283). -/
def State.flitBad (s : State) (e b : Nat) (rev : Bool) (bad : List Nat) : State :=
  let x := s.bundle e b
  let d := x.dir rev
  let lanes := (bad.map (fun i => d.lanes.physOf (x.wordLane i))).eraseDups
  let s1 := s.modBundle e b (fun y => y.setDir rev { d.noteErrs lanes s.time with nak := some (d.got + 1) })
  s1.emitFlit e b (!rev) { seq := (x.dir (!rev)).sent, ty := 0x03, pay := 0 }

/-- FLIT_RECEIVE. -/
def execFlitReceive (edge : Fin 53) (bundle : Fin 16) (rev : Bool) (flit : BitVec 2048) (s : State) :
    Host.Outcome State Fault Refusal :=
  let x := s.bundle edge bundle
  let body := flitBody flit
  let bad := parityFails flit
  if !s.bundleWorks edge bundle || decide (bundlesOf edge ≤ bundle.val) then .next s
  else if !bad.isEmpty || !flitCrcOk body then .next (s.flitBad edge bundle rev bad)
  else if !x.carries (fbType body) then .next s
  else
    let s1 := s.modBundle edge bundle (fun y => y.setDir (!rev) ((y.dir (!rev)).acked (fbAck body)))
    match fbType body with
    | 0x01 | 0x02 =>
      .next (s1.modBundle edge bundle (fun y =>
        y.setDir rev ((x.dir rev).take (fbSeq body) (fbType body) (BitVec.ofNat 1920 (body.toNat / 2 ^ 64)))))
    | 0x03 => .next (s1.resendFlits edge bundle (!rev) (fbAck body + 1))
    | 0x04 => .next (s1.modBundle edge bundle (fun y => { y with width := 0 }))
    | _ => .next s1

/-- FLIT_NAK. -/
def execFlitNak (edge : Fin 53) (bundle : Fin 16) (rev : Bool) (seq : BitVec 12) (s : State) : Host.Outcome State Fault Refusal :=
  .next (if s.bundleWorks edge bundle ∧ bundle.val < bundlesOf edge then s.resendFlits edge bundle rev seq else s)

/-! ### Training, lane failure, width (R279, R282 to R287) -/

/-- A held flit replayed on another bundle of its role, under the next SEQ there (R286). -/
def State.replayOver (s : State) (e : Nat) (rev : Bool) (role : Nat) (f : Flit) : State :=
  match s.pickBundle e rev role with
  | (some b, s1) =>
    let s2 := s1.modBundle e b (fun x => x.setDir rev ((x.dir rev).push f.ty.toNat f.pay))
    s2.emitFlit e b rev { f with seq := ((s2.bundle e b).dir rev).sent }
  | (none, s1) => s1

/-- Flits that the disabled bundles of a role hold are replayed over the working ones of the role, in proportion to width; where none
works they wait for the role to be refilled (R286, R288). -/
def State.passFlits (s : State) (e role : Nat) : State :=
  if !s.roleWorks e role then s
  else (List.range (bundlesOf e)).foldl (fun s b => [false, true].foldl (fun s rev =>
    let x := s.bundle e b
    let held := (x.dir rev).retry
    if x.width = 4 ∧ x.role = role ∧ !held.isEmpty then
      let s1 := s.modBundle e b (fun y => y.setDir rev { y.dir rev with retry := [] })
      (held.foldl (fun s f => s.replayOver e rev role f) s1).bump 0x5200 4 held.length
    else s) s) s

/-- A bundle takes the widest width its lanes allow (R285 to R287); one that is disabled hands over the flits it holds. -/
def State.settle (s : State) (e b : Nat) : State :=
  let s1 := (s.enterWidth e b).laneBench
  if (s1.bundle e b).width = 4 then s1.passFlits e (s1.bundle e b).role else s1

/-- A lane that has failed leaves service, for a spare of its half where one is left (R284); a substitution in service is counted and
logged (R283, R291). -/
def State.laneFails (s : State) (e b : Nat) (rev : Bool) (lane : Nat) : State :=
  let x := s.bundle e b
  let m := (x.dir rev).lanes
  let s1 := s.modBundle e b (fun y => y.setDir rev { y.dir rev with lanes := m.replace lane, errs := mapSet [] (y.dir rev).errs lane [] })
  if m.bad.contains lane then s
  else if x.last ≠ 0 ∧ 32 < m.goodIn (lane / 34) then
    (s1.bump 0x5200 1).edgeEvent e sevAdvisory 0 (field 16 rev.toNat + 256 * b + lane)
  else s1

/-- A die can train its bundles: a light die and the steward always, a compute die that is Active or Idle, that wakes and has its leave,
or that the lane step of a start finds down (R279, R450). -/
def State.canTrain (s : State) (k : Nat) : Bool :=
  s.partUp k || ((s.die k).pstate == 4 && (s.die k).wakeAt.isSome) || (s.bootStep == 7 && (s.die k).pstate == 3)

/-- Training takes place: from the lane step on, in that step under the leave of both dies (R279, R532). -/
def State.trainsNow (s : State) (e : Nat) : Bool :=
  let n := edgeEnds e
  s.canTrain n.1 && s.canTrain n.2 && decide (7 ≤ s.bootStep) && decide (s.bootStep ≤ 12)
  && (s.bootStep != 7 || [n.1, n.2].all (fun k => s.pwr.has (.startLanes (Fin.ofNat 25 k))))

/-- BUNDLE_TRAINING: lanes that fail to train or carry the wrong identity are replaced by spares of their half, and the bundle enters
service at the widest width left; its retry buffers are kept. -/
def execBundleTraining (edge : Fin 53) (bundle : Fin 16) (bad : List (Bool × Fin 68)) (s : State) : Host.Outcome State Fault Refusal :=
  let x := s.bundle edge bundle
  if x.width ≠ 0 ∨ bundlesOf edge ≤ bundle.val ∨ ¬ s.trainsNow edge then .next s
  else
    let s1 := bad.foldl (fun s p => s.laneFails edge bundle p.1 p.2) s
    let calm (d : FlitDir) : FlitDir := { d with replays := 0, errs := [] }
    .next (((s1.modBundle edge bundle (fun y => { y with fwd := calm y.fwd, rev := calm y.rev })).settle edge bundle).retryStuck)

/-- BUNDLE_RETRAIN: a flit has been replayed 8 times in succession; the retry buffer is kept, and the other end is asked to retrain. -/
def execBundleRetrain (edge : Fin 53) (bundle : Fin 16) (rev : Bool) (s : State) : Host.Outcome State Fault Refusal :=
  let x := s.bundle edge bundle
  .next (if s.bundleWorks edge bundle ∧ 8 ≤ (x.dir rev).replays then
    (s.emitFlit edge bundle rev { seq := (x.dir rev).sent, ty := 0x04, pay := 0 }).modBundle edge bundle (fun y => { y with width := 0 })
  else s)

/-- A half of a bundle is in use. -/
def BundleSt.active (b : BundleSt) (h : Nat) : Bool := b.width == 1 || b.width == 2 + h

/-- PANEL_LANE_FAILED: 8 flits with parity errors on the lane within 2 µs; a spare of its half takes over where one is left. -/
def execPanelLaneFailed (edge : Fin 53) (dir : BundleDir) (lane : Fin 68) (s : State) : Host.Outcome State Fault Refusal :=
  let x := s.bundle edge dir.bundle
  .next (if s.bundleWorks edge dir.bundle ∧ x.active (lane.val / 34) ∧ 8 ≤ (mapGet [] (x.dir dir.rev).errs lane).length then
    (s.laneFails edge dir.bundle dir.rev lane).laneBench else s)

/-- BUNDLE_HALF_WIDTH: an active half has fewer than 32 working lanes. -/
def execBundleHalfWidth (edge : Fin 53) (bundle : Fin 16) (s : State) : Host.Outcome State Fault Refusal :=
  let x := s.bundle edge bundle
  let short (h : Nat) : Bool := x.active h && decide (x.goodIn h < 32)
  .next (if s.bundleWorks edge bundle ∧ (short 0 ∨ short 1) then
    s.settle edge bundle else s)

/-! ### Roles and detours (R288 to R290) -/

/-- The lowest-numbered bundle of an edge with a role that works. -/
def State.firstOf (s : State) (e role : Nat) : Option Nat :=
  (List.range (bundlesOf e)).find? (fun b => s.bundleWorks e b && (s.bundle e b).role == role)

/-- No bundle of a role is left that is not disabled. -/
def State.roleLost (s : State) (e role : Nat) : Bool :=
  (List.range (bundlesOf e)).all (fun b => (s.bundle e b).role != role || (s.bundle e b).width == 4)

/-- A lost role passes to the first bundle of another one. -/
def State.refill (s : State) (e lost donor : Nat) : State :=
  if s.roleLost e lost then
    match s.firstOf e donor with
    | some b => s.modBundle e b (fun x => { x with role := lost })
    | none => s
  else s

/-- ROLE_REFILL: signal from fabric, fabric from memory-direct; flits held for the role go over its new bundle. -/
def execRoleRefill (edge : Fin 53) (s : State) : Host.Outcome State Fault Refusal :=
  if (List.range (bundlesOf edge)).all (fun b => (s.bundle edge b).role == 0) then .next s
  else .next (((((s.refill edge 1 3).refill edge 3 2).refill edge 1 3).passFlits edge 1).passFlits edge 3)

/-- DETOUR_LOAD: the routers learn which mesh edges are down and take shortest paths round them, and packets held at such edges go on
(R289); each edge that is lost, and the second ring edge, is an event. -/
def execDetourLoad (s : State) : Host.Outcome State Fault Refusal :=
  let down := (List.range 24).filter s.edgeDown
  let lost := (List.range 40).filter (fun e => s.edgeLost e && !s.lane.detours.contains e)
  let ring := decide (2 ≤ countIf ((List.range 13).map (· + 40)) s.edgeLost)
  let keep := down ++ ((List.range 40).filter (fun e => decide (24 ≤ e) && s.edgeLost e))
  let s1 : State := { s with lane := { s.lane with detours := keep, ringDown := ring } }
  let s2 := lost.foldl (fun s e => s.edgeEvent e sevDegraded 3 0) s1
  .next (if ring && !s.lane.ringDown then s2.raise (mkEvent 0x08 sevDegraded 24 0xFF 4 0) else s2).retryStuck

/-! ### Lane test (R292) -/

/-- Every queue of the module is disabled. -/
def State.queuesOff (s : State) : Bool := s.cores.all (fun kv => !kv.2.q0.enable && !kv.2.q1.enable && !kv.2.q2.enable)

/-- Every bundle is to be trained again (R279). -/
def State.retrainAll (s : State) : State :=
  { s with lane := { s.lane with bundles := s.lane.bundles.map (fun kv => (kv.1, if kv.2.width = 4 then kv.2 else { kv.2 with width := 0 })) } }

/-- A write of LANE.TEST_MODE: 1 or 2 is refused unless READY is low and every queue and port is disabled. -/
def State.testMode (s : State) (v : Nat) : Nat × State :=
  let dark := (List.range 136).all (fun b => (s.bank b).st == 0)
  if 2 < v then (rpRange, s)
  else if v = 0 then
    let s1 : State := { s.setObj 0x5A00 1 0 with lane := { s.lane with test := 0 } }
    (rpOk, if s.lane.test = 0 then s else s1.retrainAll)
  else if s.bootStep = 12 ∨ ¬ s.queuesOff ∨ ¬ dark then (rpState, s)
  else (rpOk, { s.setObj 0x5A00 1 v with lane := { s.lane with test := v, testAt := s.time } })

/-- LANE_TEST_MODE. -/
def execLaneTestMode (v : BitVec 8) (s : State) : Host.Outcome State Fault Refusal :=
  .next (s.expertRowDone 0x5A00 1 (s.testMode v.toNat))

/-- LANE_TEST_END: after 1 s; edges that failed are shown, every failing lane is logged with its bundle, the mode returns to 0, every
bundle trains again. -/
def execLaneTestEnd (failing : List PanelLane) (s : State) : Host.Outcome State Fault Refusal :=
  if s.lane.test = 0 ∨ s.time < s.lane.testAt + tickS then .next s
  else
    let mask := (List.range 53).foldl (fun n e => if failing.any (fun f => f.edge.val == e) then n + 2 ^ e else n) 0
    let s1 := (s.setObj 0x5A00 1 0).setObj 0x5A00 2 mask
    let s2 : State := { s1 with lane := { s1.lane with test := 0 } }
    .next (failing.foldl (fun s f => s.edgeEvent f.edge sevNote 5 (field 16 f.rev.toNat + 256 * f.bundle.val + f.lane.val)) s2).retrainAll

end Sys2Proof.Machine
end

