-- ==== Sys2Proof/Machine/Class0.lean ====
section
/-! DEFINITION. Class-0 frames as they arrive on a port (R301), whistles with what they say to the umpire's rules (R414, R416),
link-pause notices (R304), module IDs (R295), and the codewords of a line (R248 to R250, R269). -/

namespace Sys2Proof.Machine

/-! ### Link frames of class 0 -/

/-- A whistle that has arrived: game time takes it (R225); a later epoch makes the module ask for records (R416); a suspected
partner heard again is cleared (R414). -/
def State.whistleIn (s : State) (p : Nat) (f : BitVec 256) (stamp : BitVec 64) (onL0 : Bool) : State :=
  if !s.linkUp p || fKind f != 0x01 then s
  else
    let s1 := s.gtMoves (s.whistle p f stamp onL0)
    let m := bits f 207 192
    let s2 := if laterEpoch (bits f 31 0) s1.epoch then s1.sendEpochReq p (s1.epoch + 1) else s1
    if mapGet 0 s2.flt.ump.suspects m ≠ 0 then
      (s2.sendAccuse m true).modUmp (fun u => { u with suspects := mapSet 0 u.suspects m 0 })
    else s2

/-- WHISTLE_RECEIVE. -/
def execWhistleReceive (port : Fin 128) (w : Whistle) (stamp : BitVec 64) (s : State) : Host.Outcome State Fault Refusal :=
  .next (s.whistleIn port w.frame stamp w.l0)

/-- A link-pause notice: suspicion over the link is suspended for the named length plus 10 µs (R265, R304). -/
def State.pauseIn (s : State) (p : Nat) (f : BitVec 256) : State :=
  s.modPort p (fun x => { x with pauseUntil := s.time + bits f 207 192 * tickNs + 10 * tickUs })

/-- LINK_PAUSE_NOTICE. -/
def execLinkPauseNotice (port : Fin 128) (frame : BitVec 256) (s : State) : Host.Outcome State Fault Refusal :=
  .next (if fKind frame = 0x03 ∧ s.linkUp port then s.pauseIn port frame else s)

/-- A class-0 frame on a port: a link frame is consumed, a routed one delivered or relayed, a reserved kind counted (R301). -/
def State.class0In (s : State) (p : Nat) (f : BitVec 256) (onL0 : Bool) : State :=
  if !s.linkUp p then s
  else match fKind f with
  | 0x01 => s.whistleIn p f (BitVec.ofNat 64 s.gtNow) onL0
  | 0x02 => s.linkStateIn p f
  | 0x03 => s.pauseIn p f
  | 0x12 => s.recordIn p f
  | 0x13 => s.beaconIn p f
  | 0x17 => if s.fenced then s else s.answerEpoch p (bits f 247 216)
  | 0x18 => s.viewIn f
  | k => if kindRouted k then s.routedIn p f else s.bump 0x5000 0x11

/-- CLASS0_FRAME_RECEIVE. -/
def execClass0FrameReceive (port : Fin 128) (frame : BitVec 256) (s : State) : Host.Outcome State Fault Refusal :=
  .next (s.class0In port frame (s.port port).onL0)

/-- A write of FAB.MODULE_ID (R295). -/
def State.setModuleId (s : State) (v : Nat) : Nat × State :=
  if v = 0xFFFF then (rpRange, s) else if !s.queuesOff then (rpState, s) else (rpOk, s.setObj 0x5000 1 v)

/-- FAB_MODULE_ID. -/
def execFabModuleId (v : BitVec 16) (s : State) : Host.Outcome State Fault Refusal :=
  .next (s.objRowDone (s.setModuleId v.toNat))

/-! ### Decoding a line (R248) -/

/-- A word decoded as a kind: the corrections it takes, at most two, and the payload. -/
def bchDecode (w : BitVec 288) (kind : Nat) : Option (Nat × BitVec 270) :=
  let v := w.toNat ^^^ kindMask kind
  let syn := bchRem v
  let out (n : Nat) : BitVec 270 := BitVec.ofNat 270 (n / 2 ^ 18)
  if syn = 0 then some (0, out v)
  else match (List.range 288).find? (fun i => bchRem (2 ^ i) == syn) with
    | some i => some (1, out (v ^^^ 2 ^ i))
    | none =>
      (List.range 288).findSome? (fun i =>
        ((List.range i).find? (fun j => bchRem (2 ^ i) ^^^ bchRem (2 ^ j) == syn)).map (fun j => (2, out (v ^^^ 2 ^ i ^^^ 2 ^ j))))

/-- Kinds valid on a line (36 is λS): data and identity idles; class 0 also on λ0. -/
def lineKinds (line : Nat) : List Nat := if line = 0 then [0, 1, 2] else [0, 1]

/-- The kind that decodes with fewest corrections: the kind, the corrections, the payload. -/
def decodeLine (line : Nat) (w : BitVec 288) : Option (Nat × Nat × BitVec 270) :=
  (lineKinds line).foldl (fun best k => match bchDecode w k with
    | none => best
    | some r => match best with
      | some b => if r.1 < b.2.1 then some (k, r.1, r.2) else best
      | none => some (k, r.1, r.2)) none

/-! ### Identity idles (R250, Table 2) -/

/-- CRC-32C of an identity idle, over two zero bits and payload bits [269:32] as 30 bytes, the first byte the most significant. -/
def idleCrc (top : Nat) : Nat := crc32c (toBytes 30 top).reverse

/-- The payload of an identity idle. -/
def idlePayload (module port lane line st : Nat) : BitVec 270 :=
  let top := field 222 module + field 215 port + field 210 lane + field 204 line + field 200 st
  BitVec.ofNat 270 (top * 2 ^ 32 + idleCrc top)

/-- An identity idle whose CRC agrees. -/
def idleOk (p : BitVec 270) : Bool := bits p 31 0 == idleCrc (p.toNat / 2 ^ 32)

/-- The identity idle that a port sends on a line, 36 for λS: LANE is 0 on λS and on a spare line that carries no lane (Table 2). -/
def State.idleWord (s : State) (p line : Nat) : BitVec 288 :=
  let b := s.bank (s.bankOf p)
  let pay := if line = 36 then idlePayload s.moduleId p 0 63 b.st
    else idlePayload s.moduleId p ((b.laneOf true line).getD 0) line b.st
  BitVec.ofNat 288 ((bchEncode pay).toNat ^^^ kindMask 1)

/-- A bank sends identity idles on a line: in TRAIN on every one, the training pattern (R258); else on λS, and, but for a pause, on the
lines that carry a lane (R249, R250, R265). -/
def BankSt.idlesOn (b : BankSt) (line : Nat) : Bool :=
  !b.dark && (b.st == 2 || (decide (3 ≤ b.st) && decide (b.st ≤ 6) && line == 36)
    || (decide (3 ≤ b.st) && decide (b.st ≤ 4) && (b.laneOf true line).isSome))

/-- IDENTITY_IDLE_SEND: on a line of a bank whose transmitter is on. -/
def execIdentityIdleSend (port : Fin 128) (line : Fin 37) (s : State) : Host.Outcome State Fault Refusal :=
  .next (if (s.bank (s.bankOf port)).idlesOn line then s.emit (.identityIdle (s.bankOf port) line (s.idleWord port line)) else s)

/-- An identity idle received on a line: the partner's identity, and the lane's own check (R250, R261). -/
def BankSt.idleIn (b : BankSt) (line : Nat) (pay : BitVec 270) (now : Nat) : BankSt :=
  let m : BitVec 16 := BitVec.ofNat 16 (bits pay 269 254)
  let p : BitVec 7 := BitVec.ofNat 7 (bits pay 253 247)
  let b1 := { b with partner := some (m, p) }
  match if line = 36 then some 32 else b.laneOf false line with
  | none => b1
  | some n =>
    if bits pay 246 242 = n % 32 ∧ bits pay 241 236 = (if line = 36 then 63 else line) then { b1 with idle := mapSet 0 b1.idle n now }
    else b1.setRing false line { b.ring false line with wrong := (b.ring false line).wrong + 1 }

/-- Data of a lane enters the deskew buffer of 64 codewords; once every lane in service has one, one of each leaves it in lane
order (R250). Answers the units that leave. -/
def BankSt.dataIn (b : BankSt) (lane : Nat) (pay : BitVec 270) : BankSt × List (BitVec 270) :=
  let d := mapSet [] b.deskew lane ((mapGet [] b.deskew lane ++ [pay]).take 64)
  let on := (List.range 32).filter (fun n => !b.rxOut.contains n)
  if on.all (fun n => !(mapGet [] d n).isEmpty) then
    ({ b with deskew := on.foldl (fun m n => mapSet [] m n ((mapGet [] m n).drop 1)) d }, on.flatMap (fun n => (mapGet [] d n).take 1))
  else ({ b with deskew := d }, [])

/-- A data codeword of a lane: what leaves the deskew buffer goes on into the port's stream (R250). -/
def State.dataWord (s : State) (p lane : Nat) (pay : BitVec 270) : State :=
  let r := (s.bank (s.bankOf p)).dataIn lane pay
  (s.modBank (s.bankOf p) (fun _ => r.1)).unitsIn p r.2

/-- The class-0 frame of a codeword, where its CRC-14 agrees. -/
def State.frameIn (s : State) (p : Nat) (pay : BitVec 270) (onL0 : Bool) : State :=
  let f : BitVec 256 := BitVec.ofNat 256 (pay.toNat / 2 ^ 14)
  if bits pay 13 0 = crc14 f then s.class0In p f onL0 else s.bump 0x4100 0x0C

/-- CODEWORD_RECEIVE: corrected codewords and uncorrectable ones are counted (R269); λS carries class-0 frames, λ0 too where class
0 rides it (R255). An uncorrectable word of a data lane keeps its place as a unit of zeros, so that the frame check finds it (DEDUCED, log
109). -/
def execCodewordReceive (port : Fin 128) (line : Fin 37) (word : BitVec 288) (s : State) : Host.Outcome State Fault Refusal :=
  let b := s.bankOf port
  if (s.bank b).st < 2 ∨ (s.bank b).st = 7 then .next s
  else match decodeLine line word with
  | none => .next (match (s.bank b).laneOf false line with
      | some lane => (s.bump 0x4100 0x0C).dataWord port lane 0
      | none => s.bump 0x4100 0x0C)
  | some (k, n, pay) =>
    let s1 := if 0 < n then s.bump 0x4100 0x0B else s
    if k = 1 then .next (if idleOk pay then s1.modBank b (fun x => x.idleIn line pay s.time) else s1)
    else if line.val = 36 ∨ k = 2 then .next (s1.frameIn port pay (line.val == 0))
    else match (s.bank b).laneOf false line with
      | some lane => .next (s1.dataWord port lane pay)
      | none => .next s1

end Sys2Proof.Machine
end

