-- ==== Sys2Proof/Machine/Names.lean ====
section
/-! DEFINITION. Type codes (Table 3 of ch.18) and names of the rows of the object tables, in the order of `objTable`, as LIST answers
them (R492). -/

namespace Sys2Proof.Machine

def objNames0 : List (Nat × String) := [
  (2, "SYS.ENTRIES"), (9, "SYS.PART"), (9, "SYS.STEPPING"), (3, "SYS.DICT_VERSION"), (2, "SYS.STORE_ENTRIES"),
  (4, "SYS.STORE"), (2, "SYS.STORE_STATE"), (4, "SYS.RESTORE"), (2, "SYS.CTRL_ENTRIES"), (2, "SYS.HOLDER"),
  (3, "SYS.CTRL_STATE"), (4, "SYS.POSSESSION_MOVES"), (4, "SYS.CTRL_RESETS"), (4, "SYS.CLAIMS_REFUSED"),
  (2, "SYS.SVC_ENTRIES"), (1, "SYS.SVC_ENABLE"), (3, "SYS.SVC_PORT"), (2, "SYS.PLCA_ID"), (2, "SYS.SESSIONS_OPEN"),
  (4, "SYS.FRAMES_DISCARDED"), (2, "SYS.EXPERT_ENTRIES"), (1, "SYS.HANDOVER"), (2, "PWR.ENTRIES"), (4, "PWR.INPUT_MV"),
  (4, "PWR.INPUT_W"), (3, "PWR.LEAVE_BUDGET"), (3, "PWR.LEAVE_HELD"), (3, "PWR.LEAVE_WAITING"), (3, "PWR.SUSTAINED_LIMIT"),
  (2, "PWR.MODULE_STATE"), (1, "PWR.HOST_WAKE"), (2, "PWR.WAKE_N_MODE"), (2, "PWR.MODULE_WAKE_CAUSE"),
  (4, "PWR.SLEEP_REFUSED"), (4, "PWR.SLEEP_ABORTED"), (3, "PWR.PHASES_LOST"), (5, "PWR.GRANTS"), (2, "PWR.DIE_ENTRIES"),
  (2, "PWR.DIE_STATE"), (3, "PWR.DIE_SLEEP_REQ") ]

def objNames1 : List (Nat × String) := [
  (2, "PWR.LAST_REFUSER"), (2, "PWR.REFUSALS_ENTRIES"), (4, "PWR.REFUSALS_BY"), (3, "PWR.CORE_MHZ"),
  (2, "PWR.EXPERT_ENTRIES"), (1, "PWR.IDLE_ENABLE"), (1, "PWR.PAD_HOLD_AFTER_WAKE"), (3, "PWR.PAD_RELEASE"),
  (2, "PWR.DIE_WAKE_W"), (2, "THM.ENTRIES"), (6, "THM.INLET"), (6, "THM.OUTLET"), (4, "THM.FLOW"), (6, "THM.STEWARD_TEMP"),
  (4, "THM.TRIPS"), (1, "THM.TRIP_CLEAR"), (6, "THM.DIE_TEMP"), (6, "THM.STACK_TEMP"), (6, "THM.LIGHT_TEMP"),
  (2, "THM.FACTOR"), (4, "THM.THROTTLE_MS"), (10, "THM.TRIP_RECORD"), (2, "THM.EXPERT_ENTRIES"), (3, "THM.DIE_WARN"),
  (2, "OPT.ENTRIES"), (2, "OPT.ELM_STATE"), (2, "OPT.ELM_PREFER"), (2, "OPT.PORTS_ON_L0"), (6, "OPT.FADE_ADVISE"),
  (6, "OPT.FADE_CHANGEOVER"), (6, "OPT.FADE_FEC_LIMIT"), (4, "OPT.MISLOCK_EVENTS"), (4, "OPT.LANE_SUBSTITUTIONS"),
  (4, "OPT.CHANGEOVERS"), (4, "OPT.EYE_SAFETY_EVENTS"), (5, "OPT.FEC_CORRECTED"), (5, "OPT.FEC_UNCORRECTABLE"),
  (5, "OPT.LINK_REPLAYS"), (8, "OPT.COMMISSIONED_GT"), (2, "OPT.COMB_ENTRIES") ]

def objNames2 : List (Nat × String) := [
  (2, "OPT.COMB_STATE"), (6, "OPT.COMB_FADE"), (2, "OPT.SPARE_COMBS"), (2, "OPT.PORT_ENTRIES"), (2, "OPT.PORT_STATE"),
  (2, "OPT.PORT_PHYS"), (3, "OPT.PORT_LANES"), (2, "OPT.SPARE_LINES"), (10, "OPT.PORT_DISABLE"), (2, "OPT.EXPERT_ENTRIES"),
  (2, "OPT.COMMISSION"), (2, "OPT.LEAVE_PRIO"), (2, "OPT.STANDBY_TEST_DAYS"), (2, "FAB.ENTRIES"), (3, "FAB.MODULE_ID"),
  (4, "FAB.EPOCH"), (2, "FAB.WEIGHT_C1"), (2, "FAB.WEIGHT_C2"), (2, "FAB.MAX_HOPS"), (4, "FAB.ROUTE_GENERATION"),
  (5, "FAB.STALE_DISCARDS"), (4, "FAB.HEADER_FAULTS"), (4, "FAB.HOP_DISCARDS"), (4, "FAB.RELAY_DISCARDS"),
  (4, "FAB.BUFFER_OVERRUNS"), (4, "FAB.STALLS"), (4, "FAB.REORDER_REFUSALS"), (4, "FAB.C0_RESENT"), (4, "FAB.C0_LOST"),
  (4, "FAB.C0_CONTENDED"), (4, "FAB.C0_BAD_KIND"), (5, "FAB.RELAYED_PACKETS"), (5, "FAB.RELAYED_C0"), (2, "GT.ENTRIES"),
  (2, "GT.STATE"), (8, "GT.NOW"), (2, "GT.HOPS"), (3, "GT.REFEREE_MODULE"), (2, "GT.UPSTREAM_PORT"), (4, "GT.ERROR_BOUND") ]

def objNames3 : List (Nat × String) := [
  (4, "GT.LOSS_EVENTS"), (4, "GT.KICKOFFS_LATE"), (4, "GT.SLOT_OVERRUNS"), (2, "GT.REF_ENTRIES"), (2, "GT.REFEREE_RANK"),
  (1, "GT.EXT_REF"), (5, "GT.SET_AT_PPS"), (5, "GT.SET"), (2, "GT.LINK_ENTRIES"), (4, "GT.LINK_DELAY"), (2, "LANE.ENTRIES"),
  (4, "LANE.SUBSTITUTIONS"), (4, "LANE.HALF_WIDTH_EVENTS"), (3, "LANE.BUNDLES_DISABLED"), (5, "LANE.FLIT_REPLAYS"),
  (2, "LANE.MD_BUNDLES"), (2, "LANE.EDGE_ENTRIES"), (4, "LANE.EDGE_STATE"), (2, "LANE.EDGE_SPARES"), (2, "COL.ENTRIES"),
  (4, "COL.TIMEOUT_US"), (2, "COL.VC_WEIGHT"), (4, "COL.ROUNDS_LEAD_NS"), (5, "COL.COMPLETED"), (4, "COL.MISMATCHES"),
  (4, "COL.REDOS"), (4, "COL.TIMEOUTS"), (4, "COL.MEMBER_OUTS"), (2, "GT.EXPERT_ENTRIES"), (3, "GT.TAKEOVER_US"),
  (2, "LANE.EXPERT_ENTRIES"), (2, "LANE.TEST_MODE"), (10, "LANE.TEST_FAIL_EDGES"), (2, "COL.EXPERT_ENTRIES"),
  (3, "COL.RESEND_US"), (2, "MEM.LS_ENTRIES"), (4, "MEM.LS_TILE_CRC_FAIL"), (4, "MEM.LS_UNTAGGED_USE"),
  (4, "MEM.LS_ECC_CORRECTED"), (4, "MEM.LS_SCRUB_FAIL") ]

def objNames4 : List (Nat × String) := [
  (4, "MEM.LS_SCRUB_PASSES"), (2, "MEM.TILE_VERIFY_EFFECTIVE"), (2, "MEM.HBM_ENTRIES"), (4, "MEM.HBM_ECC_CORRECTED"),
  (4, "MEM.HBM_UNCORRECTABLE"), (4, "MEM.HBM_LINK_PARITY"), (4, "MEM.HBM_ROWS_REPAIRED"), (2, "MEM.HBM_SPARE_ROWS_MIN"),
  (2, "MEM.HBM_SPARE_LANES_MIN"), (2, "MEM.HBM_BAND_ENTRIES"), (2, "MEM.HBM_BAND"), (5, "MEM.HBM_KEEP_MASK"),
  (2, "MEM.RMEM_ENTRIES"), (1, "MEM.RLC_ENABLE"), (5, "MEM.RLC_HITS"), (5, "MEM.RLC_MISSES"), (4, "MEM.ACK_TIMEOUTS"),
  (4, "MEM.LATE_RESPONSES"), (5, "MEM.MERGED_READS"), (5, "MEM.MERGED_ADDS"), (5, "MEM.COLLAPSED_STORES"),
  (4, "MEM.GUARD_REFUSALS"), (4, "MEM.CLAIMS_LOST"), (2, "MEM.TILE_EXPERT_ENTRIES"), (2, "MEM.TILE_VERIFY"),
  (2, "MEM.HBM_EXPERT_ENTRIES"), (3, "MEM.HBM_ROW_REPAIR_THRESHOLD"), (1, "MEM.HBM_ONLINE_REPAIR"),
  (2, "MEM.RMEM_EXPERT_ENTRIES"), (4, "MEM.ACK_TIMEOUT_US"), (1, "MEM.RELAY_MERGE"), (2, "CMP.BENCH_ENTRIES"),
  (4, "CMP.CORE_SUBSTITUTIONS"), (3, "CMP.CORES_OUT"), (2, "CMP.CORE_WAKE_W"), (2, "CMP.CORE_SPARES_ENTRIES"),
  (2, "CMP.CORE_SPARES"), (4, "CMP.CORE_OUT_MASK"), (10, "CMP.CORE_MAP"), (2, "CMP.BENCH_LEFT_ENTRIES") ]

def objNames5 : List (Nat × String) := [
  (2, "CMP.BENCH_LEFT"), (2, "CMP.ARITH_ENTRIES"), (2, "CMP.SR_SEED_MODE"), (4, "CMP.SR_SEED"), (1, "CMP.FP8_SAT"),
  (2, "CMP.MX_ENTRIES"), (2, "CMP.MX_LEAVE_PRIO"), (3, "CMP.MX_IDLE_RELEASE"), (2, "CMP.MX_LEAVE_W"),
  (4, "CMP.MX_RESIDUE_FAULTS"), (2, "CMP.VX_ENTRIES"), (2, "CMP.VX_LEAVE_PRIO"), (3, "CMP.VX_IDLE_RELEASE"),
  (2, "CMP.VX_LEAVE_W"), (4, "CMP.VX_CHECK_FAULTS"), (4, "CMP.VX_ECC_CORRECTED"), (2, "CMP.STREAM_ENTRIES"),
  (4, "CMP.SYNC_EVENTS"), (4, "CMP.HANG_EVENTS"), (4, "CMP.QUEUE_PARITY_EVENTS"), (4, "CMP.TC_LOCKSTEP_EVENTS"),
  (4, "CMP.COMPLETIONS_LOST"), (2, "CMP.BENCH_EXPERT_ENTRIES"), (2, "CMP.CORE_FAULT_LIMIT"), (1, "CMP.AUTO_SUBSTITUTE"),
  (3, "CMP.CORE_SUBSTITUTE"), (1, "CMP.SLOT_RETEST"), (2, "FLT.ENTRIES"), (2, "FLT.MEMBER_STATE"), (2, "FLT.FENCE_CAUSE"),
  (2, "FLT.SERVICE"), (3, "FLT.SCORE"), (3, "FLT.WITHDRAW_THRESHOLD"), (3, "FLT.REGION"), (3, "FLT.WITHDRAW_CAP"),
  (1, "FLT.WITHDRAW_GO"), (4, "FLT.LOG_HEAD"), (4, "FLT.LOG_ACK"), (1, "FLT.LOG_OVERFLOW"), (4, "FLT.LOG_DROPPED") ]

def objNames6 : List (Nat × String) := [
  (4, "FLT.OUT_COUNT"), (2, "FLT.UMPIRES_ENTRIES"), (3, "FLT.UMPIRES"), (2, "FLT.UMP_ENTRIES"), (3, "FLT.UMPIRE_NOW"),
  (3, "FLT.BACKUP_NOW"), (5, "FLT.LIST_DIGEST"), (2, "FLT.ACTIVE_PARTNERS"), (3, "FLT.SEND_OFF"), (3, "FLT.ADMIT"),
  (3, "FLT.WITHDRAWN_CLEAR"), (4, "FLT.SEND_OFFS"), (2, "FLT.SITE_ENTRIES"), (4, "FLT.SITE_COUNT"), (10, "FLT.LOG"),
  (10, "FLT.LOG"), (2, "FLT.STEP_ENTRIES"), (1, "FLT.STEP_LOG_ENABLE"), (2, "FLT.STEP_K"), (3, "FLT.STEP_BUDDY"),
  (4, "FLT.STEP_SLOT_BYTES"), (5, "FLT.STEP_MIRRORED"), (2, "FLT.EXPERT_ENTRIES"), (4, "FLT.ISOLATION_US"),
  (3, "FLT.DEGRADED_CLOCK_MHZ"), (3, "FLT.WITHDRAW_WAIT_S"), (2, "SEC.ENTRIES"), (10, "SEC.IDENTITY"),
  (2, "SEC.IDENTITY_STATE"), (11, "SEC.MODULE_KEY"), (4, "SEC.AUTH_FAILURES"), (2, "SEC.MAILBOX_ROLE"), (11, "SEC.KEY"),
  (2, "SEC.KEY_ROLE"), (10, "SEC.PASSWORD"), (2, "SEC.PASSWORD_ROLE"), (4, "SEC.SESSION"), (2, "HOST.ENTRIES"),
  (3, "HOST.LINK"), (2, "HOST.MAX_SPEED") ]

def objNames7 : List (Nat × String) := [
  (5, "HOST.CORRECTED"), (4, "HOST.DMA_ERRORS"), (4, "HOST.LINK_DOWNS"), (2, "HOST.EXPERT_ENTRIES"),
  (3, "HOST.CPL_TIMEOUT_MS"), (2, "BOOT.ENTRIES"), (2, "BOOT.STEP"), (2, "BOOT.START_CAUSE"), (4, "BOOT.STARTS"),
  (4, "BOOT.DIES_STOPPED"), (3, "BOOT.LAST_FAIL"), (2, "BOOT.STEP_MS_ENTRIES"), (4, "BOOT.STEP_MS"), (2, "BOOT.FW_ENTRIES"),
  (2, "BOOT.RUNNING_SLOT"), (2, "BOOT.SLOT_PREFER"), (3, "BOOT.SLOT_STATE"), (4, "BOOT.SVN_MIN"), (1, "BOOT.COMMIT_SVN"),
  (1, "BOOT.CTRL_RESTART"), (10, "BOOT.IMAGE_INFO"), (10, "BOOT.IMAGE"), (2, "BOOT.EXPERT_ENTRIES"), (4, "BOOT.GT_WAIT_MS") ]

/-- Type code and name of each row of the object tables. -/
def objNames : List (Nat × String) :=
  objNames0 ++ objNames1 ++ objNames2 ++ objNames3 ++ objNames4 ++ objNames5 ++ objNames6 ++ objNames7

/-- The bytes of a text of n characters, padded with 0x00 (Table 3 of ch.18). -/
def strBytes (n : Nat) (t : String) : List Byte :=
  ((t.toList.map (fun (c : Char) => BitVec.ofNat 8 c.toNat)) ++ List.replicate n 0).take n

end Sys2Proof.Machine
end

