-- ==== Sys2Proof/Machine/Dict.lean ====
section
/-! DEFINITION. Reads and writes of dictionary objects by their number: the values that the module computes at a read, the value rules
of the Meaning columns, and the effects of accepted writes (R479 to R482, R534). -/

namespace Sys2Proof.Machine

/-! ### Rows -/

/-- The rows of an index. -/
def idxRows (idx : Nat) : List ObjRow := objTable.filter (fun r => r.idx == idx)

/-- The object at a subindex. Subindex 0 of an array reads its entry count though its table may not list it (R480). -/
def objAt (idx sub : Nat) : Option ObjRow :=
  match objRow idx sub with
  | some r => some r
  | none =>
    let rs := idxRows idx
    if sub = 0 ∧ rs ≠ [] then
      some { idx := idx, lo := 0, hi := 0, ty := .u 1, acc := .ro, role := .observer, dflt := rs.foldl (fun m r => max m r.hi) 0, saved := .n }
    else none

/-- A value's default; the entry count of an array at its subindex 0. -/
def objDefaultAt (idx sub : Nat) : Nat :=
  match objRow idx sub, objAt idx sub with
  | none, some r => r.dflt
  | _, _ => objDefault idx sub

/-! ### Values that the module computes -/

/-- A controller's code in SYS.HOLDER. -/
def ctrlCode : Option Ctrl → Nat
  | some .a => 0 | some .b => 1 | none => 0xFF

/-- Session k + 1, where it is open. -/
def State.session (s : State) (k : Nat) : Option Session := mapGet none s.sys.sessions k

/-- A transport as R503 and R516 number it. -/
def transportCode : Transport → Nat
  | .service => 0 | .mailbox => 1

/-- SEC.SESSION of a session: its role, transport, method and slot. -/
def sessionWord (x : Session) : Nat :=
  field 24 x.role + field 16 (transportCode x.transport) + (if x.method = 3 then Config.localSession.toNat else field 8 x.method + x.slot)

/-- The firmware slot that a controller runs, 0xF for none (BOOT.RUNNING_SLOT). -/
def CtrlSt.runs (c : CtrlSt) : Nat := if c.st = 2 ∨ c.st = 3 ∨ c.st = 4 then c.slot else 0xF

/-- GT.ERROR_BOUND: 1 + 0.5 h ns, growing in holdover by 0.1 ppm of the time since the last stamp (R231, Table 4 of ch.08). -/
def State.gtBound (s : State) : Nat :=
  let b := 256 + 128 * s.gt.hops.toNat
  if s.gt.st = 1 then b else if s.gt.st = 2 then min 0xFFFFFFFF (b + ceilDiv (s.time - s.gt.lastStamp) 10000000) else 0xFFFFFFFF

/-- GT.LINK_DELAY of a port: on the carrier in use, 0 until CAL. -/
def State.linkDelay (s : State) (p : Nat) : Nat :=
  let g := s.gtPort p
  if g.cal then unsigned 32 (if (s.port p).onL0 then g.delay0 else g.delayS) else 0

/-- LANE.EDGE_STATE of an edge. -/
def State.edgeState (s : State) (e : Nat) : Nat :=
  let bs := (List.range (bundlesOf e)).map (s.bundle e)
  let n (p : BundleSt → Bool) : Nat := (bs.filter p).length
  let works (b : BundleSt) : Bool := decide (1 ≤ b.width) && decide (b.width ≤ 3)
  field 25 (n (fun b => b.width == 1)) + field 20 (n (fun b => b.width == 2 || b.width == 3)) + field 15 (n (fun b => b.width == 4))
    + field 10 (n (fun b => works b && b.role == 3)) + field 5 (n (fun b => works b && b.role == 2)) + n (fun b => works b && b.role == 1)

/-- LANE.BUNDLES_DISABLED. -/
def State.bundlesDisabled (s : State) : Nat :=
  (List.range 53).foldl (fun n e => n + countIf (List.range (bundlesOf e)) (fun b => (s.bundle e b).width == 4)) 0

/-- FLT.STEP_MIRRORED: the lowest mirrored step over the dies whose step log has committed a step (R430). -/
def State.stepMirrored (s : State) : Nat :=
  match ((List.range 16).filter (fun d => (s.die d).step.any)).map (fun d => (s.die d).step.mirrored.toNat) with
  | [] => 0
  | n :: ns => ns.foldl min n

/-- Values of areas 0x1000 to 0x3000 that are not kept as objects. -/
def State.objCalc0 (s : State) (idx sub : Nat) : Option Nat :=
  if idx = 0x1010 ∧ sub = 2 then some s.storeState
  else if idx = 0x1020 ∧ sub = 1 then some (ctrlCode s.sys.ball)
  else if idx = 0x1020 ∧ sub = 2 then some (256 * s.sys.b.st + s.sys.a.st)
  else if idx = 0x1030 ∧ sub = 3 then some s.boot.straps.toNat
  else if idx = 0x1030 ∧ sub = 4 then some (countIf (List.range 4) (fun k => (s.session k).isSome))
  else if idx = 0x3005 ∧ sub ≠ 0 then
    some (((s.die (sub - 1)).throtAcc + (match (s.die (sub - 1)).throtSince with | some t => s.time - t | none => 0)) / tickMs % 2 ^ 32)
  else if idx = 0x3006 ∧ sub ≠ 0 then some (((s.flash.trips[sub - 1]?).map BitVec.toNat).getD 0)
  else none

/-- The same of areas 0x4000 and 0x5000. -/
def State.objCalc1 (s : State) (idx sub : Nat) : Option Nat :=
  if idx = 0x4100 ∧ sub = 1 then some ((!s.elm.lostA).toNat + 2 * (!s.elm.lostB).toNat)
  else if idx = 0x4100 ∧ sub = 3 then some (countIf (List.range 128) (fun p => (s.port p).onL0))
  else if idx = 0x4110 ∧ sub ≠ 0 then some (128 * (s.light (sub - 1)).active + (s.light (sub - 1)).st)
  else if idx = 0x4111 ∧ sub ≠ 0 then some (unsigned 32 (meanInt (s.light (sub - 1)).fades))
  else if idx = 0x4120 ∧ sub ≠ 0 then some (s.bank (sub - 1)).st
  else if idx = 0x4122 ∧ sub ≠ 0 then
    let b := s.bank (s.bankOf (sub - 1)); some (256 * b.lanesRx + b.lanesTx)
  else if idx = 0x4123 ∧ sub ≠ 0 then
    let b := s.bank (s.bankOf (sub - 1)); some (16 * (4 - b.txSpare.length) + (4 - b.rxSpare.length))
  else if idx = 0x5100 ∧ sub = 1 then some s.gt.st.toNat
  else if idx = 0x5100 ∧ sub = 2 then some s.gtNow
  else if idx = 0x5100 ∧ sub = 3 then some s.gt.hops.toNat
  else if idx = 0x5100 ∧ sub = 4 then some (if s.gt.st = 0 then 0xFFFF else s.gt.ref.toNat)
  else if idx = 0x5100 ∧ sub = 5 then some (s.gt.up.getD 0xFF)
  else if idx = 0x5100 ∧ sub = 6 then some s.gtBound
  else if idx = 0x5102 ∧ sub ≠ 0 then some (s.linkDelay (sub - 1))
  else if idx = 0x5200 ∧ sub = 3 then some s.bundlesDisabled
  else if idx = 0x5201 ∧ sub ≠ 0 then some (s.edgeState (sub - 1))
  else if idx = 0x5202 ∧ sub ≠ 0 then some (s.edgeSpares (sub - 1))
  else none

/-- The same of areas 0x6000 to 0xB000. -/
def State.objCalc2 (s : State) (idx sub : Nat) : Option Nat :=
  if idx = 0x6010 ∧ sub = 6 then some s.verifyLevel
  else if idx = 0x7010 ∧ sub = 0x0A then some s.fwSpare.toNat
  else if idx = 0x7001 ∧ sub ≠ 0 then some (s.spares (sub - 1)).length
  else if idx = 0x7002 ∧ sub ≠ 0 then
    some ((List.range 32).foldl (fun n c => n + (if s.coreOut (sub - 1) c then 2 ^ c else 0)) 0)
  else if idx = 0x7003 ∧ sub ≠ 0 then
    some (ofBytes ((List.range 32).map (fun c => BitVec.ofNat 8 ((s.slotOf (sub - 1) c).getD 0xFF))))
  else if idx = 0x8000 ∧ sub = 0x0D then some s.flt.out.length
  else if idx = 0x8002 ∧ sub = 1 then some s.umpireNow
  else if idx = 0x8002 ∧ sub = 2 then some s.backupNow
  else if idx = 0x8002 ∧ sub = 3 then some s.umpireDigest
  else if idx = 0x8002 ∧ sub = 4 then some s.activePartners.length
  else if (idx = 0x8100 ∨ idx = 0x8101) ∧ sub ≠ 0 then
    some (match s.logAt (128 * (idx - 0x8100) + (sub - 1)) with | some e => e.word.toNat | none => 0)
  else if idx = 0x8200 ∧ sub = 5 then some s.stepMirrored
  else if idx = 0x9000 ∧ sub = 1 then some (ofBytes (Config.identity.take 792))
  else if idx = 0x9000 ∧ sub = 3 then some (ofBytes (Config.moduleKey.take 32))
  else if idx = 0x9030 ∧ sub ≠ 0 then some (match s.session (sub - 1) with | some x => sessionWord x | none => 0)
  else if idx = 0xA000 ∧ sub = 1 then some (256 * s.host.speed + s.host.width)
  else if idx = 0xB100 ∧ sub = 1 then some (16 * s.sys.b.runs + s.sys.a.runs)
  else if idx = 0xB100 ∧ sub = 3 then some (256 * s.slotState 1 + s.slotState 0)
  else if idx = 0xB100 ∧ sub = 4 then some s.flash.svnMin
  else if idx = 0xB101 ∧ sub ≠ 0 then some (ofBytes ((s.fw (sub - 1)).image.take 152))
  else none

/-- The value of an object at a read. Until step 2 of start-up has ended, every object reads its default (R534). -/
def State.objVal (s : State) (idx sub : Nat) : Nat :=
  if s.bootStep ≤ 2 then objDefaultAt idx sub
  else match objRow idx sub with
  | none => objDefaultAt idx sub
  | some _ => (((s.objCalc0 idx sub).orElse (fun _ => s.objCalc1 idx sub)).orElse (fun _ => s.objCalc2 idx sub)).getD (s.obj idx sub)

/-! ### Value rules (Table 3 of ch.18, the Meaning columns) -/

/-- Least and greatest value of objects whose Meaning gives both: index, subindex, least, greatest. -/
def objRanges : List (Nat × Nat × Nat × Nat) := [
  (0x1030, 2, 1024, 65535), (0x2000, 3, 1000, 10500), (0x2000, 6, 6000, 12000), (0x2000, 9, 0, 1), (0x3800, 1, 700, 950),
  (0x4100, 2, 0, 1), (0x4900, 2, 0, 3), (0x4900, 3, 1, 30), (0x5000, 1, 0, 0xFFFE), (0x5000, 3, 1, 15), (0x5000, 4, 1, 15),
  (0x5000, 5, 1, 15), (0x5200, 5, 0, 14), (0x5300, 1, 100, 10000000), (0x5300, 2, 1, 15), (0x5300, 3, 1000, 1000000),
  (0x5900, 1, 50, 10000), (0x5A00, 1, 0, 2), (0x5B00, 1, 5, 1000), (0x6810, 1, 0, 2), (0x6820, 1, 1, 1000),
  (0x6830, 1, 100, 1000000), (0x7040, 1, 0, 1), (0x7050, 1, 0, 3), (0x7050, 2, 1, 1000), (0x7060, 1, 0, 3), (0x7060, 2, 1, 1000) ] ++ [
  (0x7800, 1, 1, 16), (0x8000, 5, 1, 1000), (0x8000, 7, 1, 1000), (0x8200, 2, 1, 8), (0x8800, 1, 50, 10000),
  (0x8800, 2, 800, 1575), (0x8800, 3, 1, 3600), (0xA000, 2, 4, 6), (0xA800, 1, 1, 1000), (0xB100, 2, 0, 1), (0xB800, 1, 0, 60000) ]

/-- A value keeps the rules of its type and of its Meaning. -/
def valueOk (r : ObjRow) (sub v : Nat) : Bool :=
  (match r.ty with | .bool => decide (v ≤ 1) | _ => true)
  && objRanges.all (fun x => !(x.1 == r.idx && x.2.1 == sub) || (decide (x.2.2.1 ≤ v) && decide (v ≤ x.2.2.2)))
  && (if r.idx = 0x4100 ∧ sub = 4 then decide (-300 ≤ signed 32 v) && decide (signed 32 v ≤ -50) else true)
  && (if r.idx = 0x8200 ∧ sub = 4 then v % 4096 == 0 else true)
  && (if r.idx = 0x8800 ∧ sub = 2 then v % 25 == 0 else true)
  && (if (r.idx = 0x9000 ∧ sub = 5) ∨ r.idx = 0x9011 ∨ r.idx = 0x9021 then decide (v ≤ 3) || v == 0xFF else true)

/-! ### Sessions that end -/

/-- The session numbered k + 1 ends; its segmented write is abandoned (R493). -/
def State.endSession (s : State) (k : Nat) : State := { s with sys := { s.sys with sessions := mapSet none s.sys.sessions k none } }

/-- Sessions that satisfy p end. -/
def State.endSessions (s : State) (p : Session → Bool) : State :=
  (List.range 4).foldl (fun s k => match s.session k with | some x => if p x then s.endSession k else s | none => s) s

/-! ### Credentials (R501) -/

/-- Index and subindex of a credential, and the method and slot of sessions opened through it. -/
def credObj (slot : CredSlot) (f : CredField) : Nat × Nat :=
  match slot, f with
  | .key n, .secret => (0x9010, n.val + 1)
  | .key n, .role => (0x9011, n.val + 1)
  | .password n, .secret => (0x9020, n.val + 1)
  | .password n, .role => (0x9021, n.val + 1)

/-- A credential written: one that changes closes at once every session opened through its slot. -/
def State.credWrite (s : State) (idx sub v : Nat) : Nat × State :=
  let m := if idx = 0x9010 ∨ idx = 0x9011 then 1 else 2
  let s1 := s.setObj idx sub v
  (rpOk, if s.obj idx sub = v then s1 else s1.endSessions (fun x => x.method == m && x.slot + 1 == sub))

/-! ### Firmware objects (R512, R513) -/

/-- A slot's contents replaced. -/
def State.setFw (s : State) (slot : Nat) (x : FwSlot) : State :=
  { s with flash := if slot = 0 then { s.flash with fwA := x } else { s.flash with fwB := x } }

/-- An image written to a slot and checked: VALID and OK, or INVALID and RANGE. -/
def State.putImage (s : State) (slot : Nat) (img : List Byte) : Nat × State :=
  if imgValid img s.flash.svnMin then (rpOk, s.setFw slot { st := 1, image := img }) else (rpRange, s.setFw slot { st := 2, image := img })

/-- A write of BOOT.IMAGE: the slot that neither controller runs; STATE while the two run different slots. -/
def State.bootImage (s : State) (img : List Byte) : Nat × State :=
  let a := s.sys.a.runs
  let b := s.sys.b.runs
  if a ≠ 0xF ∧ b ≠ 0xF ∧ a ≠ b then (rpState, s)
  else if a = 0xF ∧ b = 0xF then (rpState, s)
  else s.putImage (1 - min a b) img

/-- A write of BOOT.CTRL_RESTART: the standby resets. -/
def State.ctrlRestart (s : State) (v : Nat) : Nat × State :=
  if v ≠ 1 then (rpRange, s)
  else match s.sys.ball with
  | none => (rpState, s)
  | some h => if (s.ctrl (otherCtrl h)).st = 0 ∨ (s.ctrl (otherCtrl h)).st = 5 then (rpState, s) else (rpOk, s.ctrlReset (otherCtrl h))

/-- A write of BOOT.COMMIT_SVN: the SVN of the image the holder runs, refused unless both controllers run that image. -/
def State.commitSvn (s : State) (v : Nat) : Nat × State :=
  if v ≠ 1 then (rpRange, s)
  else match s.sys.ball with
  | none => (rpState, s)
  | some h =>
    let a := (s.ctrl h).runs
    let b := (s.ctrl (otherCtrl h)).runs
    if a = b ∧ a ≠ 0xF then (rpOk, { s with flash := { s.flash with svnMin := imgSvn (s.fw a).image } }) else (rpState, s)

/-! ### Effects of writes -/

/-- GT.EXT_REF cleared at the referee: it runs from the panel reference again (R228). -/
def State.extRef (s : State) (v : Nat) : State :=
  let s1 := s.setObj 0x5101 2 v
  if v = 0 ∧ s.gt.referee then
    let s2 := s1.gtRate 0
    { s2 with gt := { s2.gt with tenMhz := false, ppsBad := 0 } }
  else s1

/-- GT.REFEREE_RANK written (R221): a sitting referee advertises the new rank from now on, the event of two equal ranks with it;
at 255 it gives up the role and holds over (DESIGN CHOICE, log 104). -/
def State.refRank (s : State) (v : Nat) : State :=
  let s1 := s.setObj 0x5101 1 v
  if !s.gt.referee then s1
  else if v = 255 then
    s.gtMoves ({ s1 with gt := { s1.gt with referee := false } } : State).gtHoldover
  else
    let s2 : State := { s1 with gt := { s1.gt with rank := BitVec.ofNat 8 v } }
    if s2.rankClash 128 v s2.gt.ref.toNat then s2.raise (moduleEvent 0x0F sevNote 0 s2.gt.ref.toNat) else s2

/-- PWR.WAKE_N_MODE: in standby, level mode with WAKE_N low ends standby (R454). -/
def State.wakeMode (s : State) (v : Nat) : State :=
  let s1 := s.setObj 0x2000 9 v
  if s1.inStandby && !s1.pwr.brown && s1.levelWake then s1.standbyExit 2 else s1

/-- Writes whose effect is an operation of its own chapter; none for the others. -/
def State.objOp (s : State) (idx sub v : Nat) : Option (Nat × State) :=
  if idx = 0x1010 then some (s.sysStore v)
  else if idx = 0x1011 then some (s.sysRestore v)
  else if idx = 0x1800 then some (s.sysHandover v)
  else if idx = 0x2000 ∧ sub = 7 then some (s.moduleState v)
  else if idx = 0x2000 ∧ sub = 8 then some (s.hostWake v)
  else if idx = 0x2000 ∧ sub = 9 then some (rpOk, s.wakeMode v)
  else if idx = 0x2002 then some (s.sleepReqWrite v)
  else if idx = 0x2800 ∧ sub = 3 then some (s.padRelease v)
  else if idx = 0x3000 ∧ sub = 6 then some (s.tripClear v)
  else if idx = 0x4124 then some (s.portDisable v)
  else if idx = 0x4900 ∧ sub = 1 then some (s.commission v)
  else if idx = 0x5000 ∧ sub = 1 then some (s.setModuleId v)
  else if idx = 0x5101 ∧ sub = 1 then some (rpOk, s.refRank v)
  else if idx = 0x5101 ∧ sub = 2 then some (rpOk, s.extRef v)
  else if idx = 0x5101 ∧ sub = 3 then some (s.gtSetAtPps v)
  else if idx = 0x5101 ∧ sub = 4 then some (s.gtSet v)
  else if idx = 0x5A00 ∧ sub = 1 then some (s.testMode v)
  else if idx = 0x6030 ∧ sub = 1 then some (s.rlcEnable v)
  else if idx = 0x7800 ∧ sub = 3 then some (s.coreSubstitute v)
  else if idx = 0x8000 ∧ sub = 8 then some (s.withdrawGo v)
  else if idx = 0x8000 ∧ sub = 0x0A then some (s.logAck v)
  else if idx = 0x8000 ∧ sub = 0x0B then some (s.logOverflow v)
  else if idx = 0x8002 ∧ sub = 5 then some (s.sendOff v)
  else if idx = 0x8002 ∧ sub = 6 then some (s.fltAdmit v)
  else if idx = 0x8002 ∧ sub = 7 then some (s.withdrawnClear v)
  else if idx = 0x9010 ∨ idx = 0x9011 ∨ idx = 0x9020 ∨ idx = 0x9021 then some (s.credWrite idx sub v)
  else if idx = 0xB100 ∧ sub = 5 then some (s.commitSvn v)
  else if idx = 0xB100 ∧ sub = 6 then some (s.ctrlRestart v)
  else none

/-- A write that its chapter refuses in the present state of the module: the umpire list and the region in play, and the step log's
settings while it is enabled (R433). -/
def State.objBarred (s : State) (idx sub : Nat) : Bool :=
  ((idx == 0x8001 || (idx == 0x8000 && sub == 6)) && s.memberState == 2)
  || (idx == 0x8200 && decide (2 ≤ sub) && decide (sub ≤ 4) && s.obj 0x8200 1 == 1)

/-- A write of an object that is kept as it is written. Degraded service follows its clock cap at once (R427); a retest of
slots is due at the next start (R400). -/
def State.objKeep (s : State) (idx sub v : Nat) : Nat × State :=
  if s.objBarred idx sub then (rpState, s)
  else
    let s1 := s.setObj idx sub v
    (rpOk, if idx = 0x8800 ∧ sub = 2 then s1.capClocks
      else if idx = 0x7800 ∧ sub = 4 then { s1 with flash := { s1.flash with retest := v == 1 } } else s1)

/-- A value of the right size written to an object by a session that may write it: status and effect (R482). -/
def State.objWrite (s : State) (r : ObjRow) (sub v : Nat) : Nat × State :=
  if s.bootStep ≤ 2 then (rpState, s)
  else if !valueOk r sub v then (rpRange, s)
  else (s.objOp r.idx sub v).getD (s.objKeep r.idx sub v)

/-! ### Rows -/

/-- SEC_CREDENTIAL_WRITE: a secret of 32 or 80 bytes, or a role of one byte. -/
def execSecCredentialWrite (slot : CredSlot) (f : CredField) (data : List Byte) (s : State) : Host.Outcome State Fault Refusal :=
  let o := credObj slot f
  .next (match objRow o.1 o.2 with
    | some r => s.objRowDone (if data.length = objSize r.ty then s.objWrite r o.2 (ofBytes data) else (rpLength, s))
    | none => s)

/-- BOOT_IMAGE: the last segment of an image has been accepted. -/
def execBootImage (image : List Byte) (s : State) : Host.Outcome State Fault Refusal := .next (s.objRowDone (s.bootImage image))

/-- BOOT_CTRL_RESTART. -/
def execBootCtrlRestart (v : BitVec 8) (s : State) : Host.Outcome State Fault Refusal := .next (s.objRowDone (s.ctrlRestart v.toNat))

/-- BOOT_COMMIT_SVN. -/
def execBootCommitSvn (v : BitVec 8) (s : State) : Host.Outcome State Fault Refusal := .next (s.objRowDone (s.commitSvn v.toNat))

end Sys2Proof.Machine
end

