-- ==== Sys2Proof/Machine/Mihimel.lean ====
section
/-! DEFINITION. Mihimel (R486 to R494): frames, transports, sessions and their counters, reads, writes and segments, LIST; the opening of
sessions (R501 to R508), quotes (R514), firmware recovery (R511), and the replies that follow a store or a handover (R478, R483). -/

namespace Sys2Proof.Machine

/-! ### Frames (Table 4 of ch.18) -/

/-- The bytes of a frame: header and payload, with its CRC-32C over bytes 4 and up (R487). -/
def frameBytes (ty : Nat) (r : MReq) (reply more : Bool) (st : Nat) (payload : List Byte) : List Byte :=
  let body := toBytes 4 r.offset.toNat ++ toBytes 1 st ++ toBytes 1 r.sub.toNat ++ toBytes 2 r.index.toNat ++ toBytes 2 payload.length
    ++ toBytes 4 r.counter.toNat ++ toBytes 1 (128 * reply.toNat + 64 * more.toNat) ++ toBytes 1 r.session.toNat ++ toBytes 1 ty
    ++ toBytes 1 1 ++ toBytes 2 0x4D48 ++ payload
  toBytes 4 (crc32c body) ++ body

/-- A request read from a frame: its TYPE, its REPLY bit and its fields; none where the frame is discarded (R488). A frame in the
mailbox fills the buffer from its start as far as LENGTH says. -/
def parseFrame (t : Transport) (bs0 : List Byte) : Option (Nat × Bool × MReq) :=
  let len := ofBytes ((bs0.drop 12).take 2)
  let bs := match t with | .service => bs0 | .mailbox => bs0.take (24 + len)
  let flags := ofBytes ((bs.drop 18).take 1)
  let ok := decide (24 ≤ bs.length) && bs.length == 24 + len && crc32c (bs.drop 4) == ofBytes (bs.take 4)
    && ofBytes ((bs.drop 22).take 2) == 0x4D48 && ofBytes ((bs.drop 21).take 1) == 1
  if ok then some (ofBytes ((bs.drop 20).take 1), flags.testBit 7,
    { transport := t, session := BitVec.ofNat 8 (ofBytes ((bs.drop 19).take 1)), counter := BitVec.ofNat 32 (ofBytes ((bs.drop 14).take 4)),
      index := BitVec.ofNat 16 (ofBytes ((bs.drop 10).take 2)), sub := BitVec.ofNat 8 (ofBytes ((bs.drop 9).take 1)),
      offset := BitVec.ofNat 32 (ofBytes ((bs.drop 4).take 4)), more := flags.testBit 6, payload := bs.drop 24 })
  else none

/-- Payload lengths that a TYPE takes in a request; reserved types take none (Tables 4 of ch.19 and 6 of ch.18). -/
def payloadOk (ty n : Nat) : Bool :=
  match ty with
  | 0x01 => n == 2
  | 0x02 => n == 65
  | 0x03 => decide (2 ≤ n) && decide (n ≤ 65)
  | 0x04 | 0x05 | 0x10 | 0x12 | 0x14 | 0x15 => n == 0
  | 0x06 => n == 32
  | 0x11 | 0x13 => decide (n ≤ 1024)
  | _ => false

/-- A reply leaves on its transport. In the mailbox it fills the reply buffer and raises vector 1 (R491, Table 6 of ch.20). -/
def State.mhSend (s : State) (t : Transport) (bs : List Byte) : State :=
  match t with
  | .service => s.emit (.mihimel t bs)
  | .mailbox =>
    let buf : SMap Byte := memPut [] 0 bs
    (({ s with host := { s.host with rep := buf, mbLen := bs.length, mbReady := true, mbBusy := false } } : State).emit (.mihimel t bs)).raiseVec 1

/-- A frame discarded and counted (R488, R491). -/
def State.discardFrame (s : State) : State := s.bump 0x1030 5

/-- A refusal that leaves the session as it is. -/
def State.refuse (s : State) (ty : Nat) (r : MReq) (st : Nat) : State := s.mhSend r.transport (frameBytes ty r true r.more st [])

/-! ### Sessions (R489, R490, R508) -/

/-- A session replaced. -/
def State.setSession (s : State) (k : Nat) (x : Session) : State :=
  { s with sys := { s.sys with sessions := mapSet none s.sys.sessions k (some x) } }

/-- A request of the session is still executing: its reply follows a store or a handover. -/
def State.executing (s : State) (sess : BitVec 8) : Bool :=
  (match s.sys.waitStore with | some q => q.2.session == sess | none => false)
  || (match s.sys.waitHand with | some q => q.2.session == sess | none => false)

/-- The reply of an executed request: kept in its session for a repeated request, and sent. -/
def State.mhReply (s : State) (ty : Nat) (r : MReq) (st : Nat) (payload : List Byte) (more : Bool) : State :=
  let bs := frameBytes ty r true more st payload
  let k := r.session.toNat - 1
  let s1 := match s.session k with
    | some x => if x.counter = r.counter then s.setSession k { x with reply := bs } else s
    | none => s
  s1.mhSend r.transport bs

/-- The lowest free session. -/
def State.freeSession (s : State) : Option Nat := (List.range 4).find? (fun k => (s.session k).isNone)

/-- A session opened: lowest free number, role of its slot, bound to its transport; FULL where none is free. -/
def State.openSession (s : State) (ty : Nat) (r : MReq) (role method slot : Nat) : State :=
  match s.freeSession with
  | none => s.refuse ty r rpFull
  | some k =>
    (s.setSession k { transport := r.transport, role := role, method := method, slot := slot, lastAt := s.time }).mhSend r.transport
      (frameBytes ty r true r.more rpOk (toBytes 1 (k + 1) ++ toBytes 1 role))

/-! ### Opening (R502 to R507) -/

/-- The number of a credential slot: 0 to 7 key slots, 8 to 11 password slots. -/
def slotNo (method slot : Nat) : Option Nat :=
  if method = 1 ∧ slot < 8 then some slot else if method = 2 ∧ slot < 4 then some (8 + slot) else none

/-- Role and secret of a credential slot. -/
def State.slotRole (s : State) (method slot : Nat) : Nat := s.obj (if method = 1 then 0x9011 else 0x9021) (slot + 1)
def State.slotSecret (s : State) (method slot : Nat) : Nat := s.obj (if method = 1 then 0x9010 else 0x9020) (slot + 1)

/-- HELLO: a nonce of the steward's random source; a ninth replaces the oldest (R504). -/
def State.hello (s : State) (r : MReq) : State :=
  let m := ofBytes (r.payload.take 1)
  if m ≠ 1 ∧ m ≠ 2 then s.refuse 0x01 r rpFrame
  else
    let v := Config.random s.draw
    let n : Nonce := { value := v, method := m, slot := ofBytes (r.payload.drop 1), at_ := s.time }
    let ns := s.sec.nonces ++ [n]
    ({ s with draw := s.draw + 1, sec := { s.sec with nonces := ns.drop (ns.length - 8) } } : State).mhSend r.transport
      (frameBytes 0x01 r true r.more rpOk (toBytes 32 v.toNat))

/-- The message that PROVE_KEY signs (R503): "MIHIMEL-OPEN-V1", nonce, SERIAL, slot, transport, zeros. -/
def proveMessage (n : Nonce) (t : Transport) : List Byte :=
  toBytes 16 0x31562D4E45504F2D4C454D4948494D ++ toBytes 32 n.value.toNat ++ (Config.identity.drop 8).take 16 ++ toBytes 1 n.slot
    ++ toBytes 1 (transportCode t) ++ List.replicate 14 0

/-- A failed PROVE: counted and logged; five in 60 s lock the slot for 60 s (R506). -/
def State.proveFailed (s : State) (i : Option Nat) : State :=
  let s1 := (s.bump 0x9000 4).raise (mkEvent 0x18 sevNote 24 (i.getD 0xFF) 0 0 true)
  match i with
  | none => s1
  | some i =>
    let ts := (mapGet [] s.sec.fails i).filter (fun t => decide (s.time < t + 60 * tickS)) ++ [s.time]
    if ts.length < 5 then { s1 with sec := { s1.sec with fails := mapSet [] s1.sec.fails i ts } }
    else
      let s2 : State := { s1 with sec := { s1.sec with fails := mapSet [] s1.sec.fails i [],
                                                        locked := mapSet 0 s1.sec.locked i (s.time + 60 * tickS + 1) } }
      s2.raise (mkEvent 0x18 sevAdvisory 24 i 2 0)

/-- A nonce used up. -/
def State.useNonce (s : State) (n : Option Nonce) : State :=
  match n with
  | some n => { s with sec := { s.sec with nonces := s.sec.nonces.erase n } }
  | none => s

/-- A PROVE decided by Table 5 of ch.19; `good` says whether the proof fits a nonce. The frame names no nonce: an outstanding one of the
method and slot that the proof fits is meant, the oldest where it fits none. -/
def State.prove (s : State) (ty : Nat) (r : MReq) (method slot : Nat) (good : Nonce → Bool) : State :=
  let i := slotNo method slot
  if (match i with | some k => mapGet 0 s.sec.locked k != 0 | none => false) then s.refuse ty r rpAuth
  else
    let ns := s.sec.nonces.filter (fun n => n.method == method && n.slot == slot && decide (s.time ≤ n.at_ + 10 * tickS))
    let role := s.slotRole method slot
    match (if i.isSome && role != 0xFF then ns.find? good else none) with
    | some n => (s.useNonce (some n)).openSession ty r role method slot
    | none => ((s.useNonce ns.head?).proveFailed i).refuse ty r rpAuth

/-- The frame types that open sessions, sent with SESSION 0. -/
def State.opening (s : State) (ty : Nat) (r : MReq) : State :=
  let slot := ofBytes (r.payload.take 1)
  let rest := r.payload.drop 1
  if ty = 0x01 then s.hello r
  else if ty = 0x02 then
    s.prove ty r 1 slot (fun n => Config.edVerify (toBytes 32 (s.slotSecret 1 slot)) (proveMessage n r.transport) rest)
  else if ty = 0x03 then
    let kept := toBytes 80 (s.slotSecret 2 slot)
    s.prove ty r 2 slot (fun _ => Config.sha512 (kept.take 16 ++ rest) == kept.drop 16)
  else if r.transport = .service ∨ s.obj 0x9000 5 = 0xFF then s.refuse ty r rpAuth
  else s.openSession ty r (s.obj 0x9000 5) 3 0

/-! ### Objects through a session (R480 to R482, R492, R493) -/

/-- Why an object cannot be read by a role; 0 where it can. -/
def readStatus (role idx sub : Nat) : Nat :=
  if idxRows idx = [] then rpNoObject
  else match objAt idx sub with
  | none => rpNoSub
  | some o => if o.acc = .wo then rpWriteOnly else if o.acc = .ro ∧ role < o.role.code then rpRole else rpOk

/-- The bytes of an object's value (Table 3 of ch.18). -/
def State.objBytes (s : State) (idx sub : Nat) : List Byte :=
  match objAt idx sub with
  | some o => toBytes (objSize o.ty) (s.objVal idx sub)
  | none => []

/-- Why an object cannot be written by a role; 0 where it can. -/
def writeStatus (role idx sub : Nat) : Nat :=
  if idxRows idx = [] then rpNoObject
  else match objAt idx sub with
  | none => rpNoSub
  | some o => if o.acc = .ro then rpReadOnly else if role < o.role.code then rpRole else rpOk

/-- A value written by a session, its access checks passed: status and effect. -/
def State.writeValue (s : State) (sess idx sub : Nat) (bs : List Byte) : Nat × State :=
  match objAt idx sub with
  | none => (rpNoSub, s)
  | some o =>
    if idx = 0xB102 then (if s.bootStep ≤ 2 then (rpState, s) else s.bootImage bs)
    else if bs.length ≠ objSize o.ty then (rpLength, s)
    else
      let p := s.objWrite o sub (ofBytes bs)
      if p.1 = rpOk then (p.1, p.2.expertNote sess idx sub) else p

/-- The reply to a write of a whole value. That to a store follows the commit, and that to a handover the handover (R478, R483). -/
def State.writeReply (p : Nat × State) (ty idx : Nat) (r : MReq) : State :=
  let wait (s : State) : State := if r.transport = .mailbox then { s with host := { s.host with mbBusy := true } } else s
  if idx = 0x1010 ∧ p.1 = rpOk then wait { p.2 with sys := { p.2.sys with waitStore := some (ty, r) } }
  else if idx = 0x1800 ∧ p.1 = rpOk ∧ p.2.sys.handover then wait { p.2 with sys := { p.2.sys with waitHand := some (ty, r) } }
  else p.2.mhReply ty r p.1 [] r.more

/-- WRITE. -/
def State.doWrite (s : State) (x : Session) (r : MReq) : State :=
  let idx := r.index.toNat
  let sub := r.sub.toNat
  let st := writeStatus x.role idx sub
  if st ≠ rpOk then s.mhReply 0x11 r st [] r.more
  else if idx = 0xB102 then s.mhReply 0x11 r rpLength [] r.more
  else State.writeReply (s.writeValue r.session.toNat idx sub r.payload) 0x11 idx r

/-- READ. -/
def State.doRead (s : State) (x : Session) (r : MReq) : State :=
  let st := readStatus x.role r.index.toNat r.sub.toNat
  let bs := s.objBytes r.index.toNat r.sub.toNat
  if st ≠ rpOk then s.mhReply 0x10 r st [] r.more
  else if 1024 < bs.length then s.mhReply 0x10 r rpLength [] r.more
  else s.mhReply 0x10 r rpOk bs r.more

/-- READ_SEG: up to 1,024 bytes from OFFSET; MORE where bytes remain. -/
def State.doReadSeg (s : State) (x : Session) (r : MReq) : State :=
  let st := readStatus x.role r.index.toNat r.sub.toNat
  let bs := s.objBytes r.index.toNat r.sub.toNat
  if st ≠ rpOk then s.mhReply 0x12 r st [] false
  else s.mhReply 0x12 r rpOk ((bs.drop r.offset.toNat).take 1024) (decide (r.offset.toNat + 1024 < bs.length))

/-- Another session is writing the object in segments. -/
def State.segBusy (s : State) (k idx sub : Nat) : Bool :=
  (List.range 4).any (fun j => j != k && (match s.session j with
    | some y => (match y.seg with | some g => g.1 == idx && g.2.1 == sub | none => false)
    | none => false))

/-- Where a segmented write of an object stands in a session: the bytes so far. -/
def Session.segOf (x : Session) (idx sub : Nat) : List Byte :=
  match x.seg with
  | some g => if g.1 = idx ∧ g.2.1 = sub then g.2.2 else []
  | none => []

/-- Status of a segment of which `have_` bytes came before: order, and lengths. BOOT.IMAGE takes any image up to its size. -/
def segStatus (o : ObjRow) (have_ : Nat) (r : MReq) : Nat :=
  let total := have_ + r.payload.length
  if r.offset.toNat ≠ have_ then rpSegOrder
  else if r.more then (if r.payload.length ≠ 1024 ∨ objSize o.ty ≤ total then rpLength else rpOk)
  else if o.idx = 0xB102 then (if objSize o.ty < total then rpLength else rpOk)
  else if total ≠ objSize o.ty then rpLength else rpOk

/-- WRITE_SEG: the object takes the whole value as one step when the last segment is accepted. -/
def State.doWriteSeg (s : State) (k : Nat) (x : Session) (r : MReq) : State :=
  let idx := r.index.toNat
  let sub := r.sub.toNat
  let st := writeStatus x.role idx sub
  if st ≠ rpOk then s.mhReply 0x13 r st [] r.more
  else if s.segBusy k idx sub then s.mhReply 0x13 r rpBusy [] r.more
  else match objAt idx sub with
  | none => s.mhReply 0x13 r rpNoSub [] r.more
  | some o =>
    let before := x.segOf idx sub
    let st2 := segStatus o before.length r
    if st2 ≠ rpOk then s.mhReply 0x13 r st2 [] r.more
    else if r.more then (s.setSession k { x with seg := some (idx, sub, before ++ r.payload) }).mhReply 0x13 r rpOk [] r.more
    else State.writeReply ((s.setSession k { x with seg := none }).writeValue r.session.toNat idx sub (before ++ r.payload)) 0x13 idx r

/-- Codes of an access in a LIST descriptor. -/
def accCode : ObjAcc → Nat
  | .ro => 0 | .rw => 1 | .wo => 2

/-- A LIST descriptor (Table 6 of ch.18). -/
def listDescriptor (o : ObjRow) (sub code : Nat) (name : String) : List Byte :=
  toBytes 8 (code + field 8 (o.saved == .y).toNat + field 9 (accCode o.acc) + field 11 o.role.code
    + field 13 (decide (0x800 ≤ o.idx % 0x1000)).toNat) ++ toBytes 4 (objSize o.ty) ++ toBytes 2 o.idx ++ toBytes 1 sub ++ strBytes 48 name

/-- LIST: the first object at or after INDEX:SUBINDEX. -/
def State.doList (s : State) (r : MReq) : State :=
  let i := r.index.toNat
  let n := r.sub.toNat
  match (objTable.zip objNames).find? (fun e => decide (i < e.1.idx) || (e.1.idx == i && decide (n ≤ e.1.hi))) with
  | none => s.mhReply 0x14 r rpNoObject [] r.more
  | some e => s.mhReply 0x14 r rpOk (listDescriptor e.1 (if e.1.idx = i then max e.1.lo n else e.1.lo) e.2.1 e.2.2) r.more

/-! ### Quotes (R514) -/

/-- The generation of the repair record in force. -/
def RepairRec.gen (x : RepairRec) : Nat :=
  if x.a.valid && (!x.b.valid || decide (x.b.gen.toNat ≤ x.a.gen.toNat)) then x.a.gen.toNat else if x.b.valid then x.b.gen.toNat else 0

/-- A quote over the verifier's nonce (Table 6 of ch.19). -/
def State.quote (s : State) (nonce : List Byte) : List Byte :=
  let h := s.sys.ball.getD .a
  let x := s.ctrl h
  let y := s.ctrl (otherCtrl h)
  let img := (s.fw x.slot).image
  let other := decide (y.st = 2 ∨ y.st = 3) && y.slot != x.slot
  let flags := (s.obj 0x9000 2 == 0).toNat + 2 * (s.verifyLevel == 2).toNat + 4 * s.flt.svc.toNat + 8 * other.toNat
  let digests := (List.range 25).flatMap (fun d => Config.sha512 (Config.repairRecord d (mapGet { } s.flash.recs d).gen))
  let body := toBytes 4 0x54515043 ++ toBytes 2 1 ++ toBytes 2 flags ++ nonce ++ (Config.identity.drop 8).take 16 ++ toBytes 8 s.gtNow
    ++ toBytes 4 s.epoch ++ toBytes 4 (imgSvn img) ++ toBytes 4 (imgVersion img) ++ toBytes 4 x.slot ++ (img.drop 0x18).take 64
    ++ Config.sha512 (Config.configRecord s.flash.configGen) ++ Config.sha512 digests ++ (Config.identity.drop 0x298).take 64
  body ++ Config.edSign body

/-- QUOTE: at most one in 10 ms. -/
def State.doQuote (s : State) (r : MReq) : State :=
  if (match s.sec.quoteAt with | some t => decide (s.time < t + 10 * tickMs) | none => false) then s.mhReply 0x06 r rpBusy [] r.more
  else ({ s with sec := { s.sec with quoteAt := some s.time } } : State).mhReply 0x06 r rpOk (s.quote r.payload) r.more

/-! ### Requests -/

/-- A request executed in its session. Any request but a further segment abandons a segmented write (R493). -/
def State.execute (s : State) (ty k : Nat) (x : Session) (r : MReq) : State :=
  let keep := ty == 0x13 && (match x.seg with | some g => g.1 == r.index.toNat && g.2.1 == r.sub.toNat | none => true)
  let x1 : Session := { x with counter := r.counter, lastAt := s.time, reply := [], seg := if keep then x.seg else none }
  let s1 := s.setSession k x1
  if ty = 0x05 then (s1.endSession k).mhSend r.transport (frameBytes ty r true r.more rpOk [])
  else if ty = 0x06 then s1.doQuote r
  else if ty = 0x10 then s1.doRead x1 r
  else if ty = 0x11 then s1.doWrite x1 r
  else if ty = 0x12 then s1.doReadSeg x1 r
  else if ty = 0x13 then s1.doWriteSeg k x1 r
  else if ty = 0x14 then s1.doList r
  else s1.mhReply ty r rpOk [] r.more

/-- A request of a session: bound to its transport, its counter judged by R489. -/
def State.sessionRequest (s : State) (ty : Nat) (r : MReq) : State :=
  let k := r.session.toNat - 1
  match (if r.session = 0 then none else s.session k) with
  | none => s.refuse ty r rpSession
  | some x =>
    if x.transport ≠ r.transport then s.refuse ty r rpSession
    else if s.executing r.session then (if r.counter = x.counter then s else s.refuse ty r rpCounter)
    else if r.counter = x.counter ∧ x.reply ≠ [] then (s.setSession k { x with lastAt := s.time }).mhSend r.transport x.reply
    else if r.counter = x.counter + 1 then s.execute ty k x r
    else s.refuse ty r rpCounter

/-- Recovery at the boot ROM of A (R511): READ of BOOT.SLOT_STATE, and BOOT.IMAGE in segments into slot A; a valid image is booted at
once. -/
def State.recoveryRequest (s : State) (ty : Nat) (r : MReq) : State :=
  let say (s : State) (st : Nat) (bs : List Byte) : State := s.mhSend r.transport (frameBytes ty r true r.more st bs)
  if r.transport = .service then s
  else if ty = 0x10 ∧ r.index = 0xB100 ∧ r.sub = 3 then say s rpOk (toBytes 2 (256 * s.slotState 1 + s.slotState 0))
  else if ty = 0x13 ∧ r.index = 0xB102 ∧ r.sub = 0 then
    match objRow 0xB102 0 with
    | none => s
    | some o =>
      let st := segStatus o s.boot.recSeg.length r
      let all := s.boot.recSeg ++ r.payload
      if st ≠ rpOk then say s st []
      else if r.more then say { s with boot := { s.boot with recSeg := all } } rpOk []
      else
        let p := ({ s with boot := { s.boot with recSeg := [] } } : State).putImage 0 all
        if p.1 ≠ rpOk then say p.2 p.1 []
        else
          let s1 := (p.2.setStep 1).modCtrl .a (fun x => { x with st := 1, failed := 0, healthy := true, bootAt := s.time })
          say { s1 with boot := { s1.boot with recovery := false } } rpOk []
  else say s rpState []

/-- A request that has come in a good frame. -/
def State.request (s : State) (ty : Nat) (reply : Bool) (r : MReq) : State :=
  if !s.driven then s
  else if r.transport = .service ∧ s.obj 0x1030 1 = 0 then s
  else if r.transport = .mailbox ∧ s.host.mbBusy then s.discardFrame
  else
    let s1 : State := if r.transport = .mailbox then
      { s with host := { s.host with mbReady := false, mbUnheld := !s.serving && !s.boot.recovery } } else s
    if s.boot.recovery then s1.recoveryRequest ty r
    else if !s.serving then s1.discardFrame
    else if reply || !payloadOk ty r.payload.length then s1.refuse ty r rpFrame
    else if ty ≤ 0x04 then (if r.session ≠ 0 then s1.refuse ty r rpFrame else s1.opening ty r)
    else s1.sessionRequest ty r

/-! ### Rows -/

/-- The module's IPv6 link-local address: fe80::/64 and the MAC address of the identity record as a modified EUI-64, its first byte
the most significant (R486). -/
def linkLocal : Nat :=
  let m (i : Nat) : Nat := ofBytes ((Config.identity.drop (0x1A + i)).take 1)
  field 112 0xFE80 + field 56 (m 0 ^^^ 2) + field 48 (m 1) + field 40 (m 2) + field 24 0xFFFE + field 16 (m 3) + field 8 (m 4) + m 5

/-- SERVICE_PORT_FRAME (R486): a frame for the module's link-local address; every other is discarded. Neighbour discovery answers with
that address and the MAC address, echo with its data. -/
def execServicePortFrame (f : SvcPacket) (s : State) : Host.Outcome State Fault Refusal :=
  if f.adr.toNat ≠ linkLocal then .next s
  else if !s.driven || !s.serving && !s.boot.recovery || s.obj 0x1030 1 == 0 then
    .next (match f.f with
      | .udp port _ => if s.driven && !s.serving && port.toNat == s.boot.svcPort && s.obj 0x1030 1 == 1 then s.discardFrame else s
      | _ => s)
  else if s.boot.recovery then .next s
  else .next (match f.f with
    | .neighbourDiscovery => s.emit (.service ((toBytes 16 linkLocal).reverse ++ (Config.identity.drop 0x1A).take 6))
    | .echo data => s.emit (.service data)
    | .udp port payload =>
      if port.toNat ≠ s.boot.svcPort then s
      else match parseFrame .service payload with
        | none => s.discardFrame
        | some p => s.request p.1 p.2.1 p.2.2
    | .other => s)

/-- A write of MB_DOORBELL: 1 submits the frame in the request buffer (R491). -/
def State.doorbell (s : State) (v : Nat) : State :=
  if v ≠ 1 ∨ !s.driven then s
  else if s.host.mbBusy then s.discardFrame
  else match parseFrame .mailbox ((List.range 1048).map (fun i => mapGet 0 s.host.req i)) with
    | some p => s.request p.1 p.2.1 p.2.2
    | none =>
      ({ s with host := { s.host with mbReady := false, mbUnheld := !s.serving && !s.boot.recovery } } : State).discardFrame

/-- MB_DOORBELL. -/
def execMbDoorbell (v : BitVec 32) (s : State) : Host.Outcome State Fault Refusal := .next (s.doorbell v.toNat)

/-- READ. -/
def execRead (r : MReq) (s : State) : Host.Outcome State Fault Refusal := .next (s.request 0x10 false r)

/-- WRITE. -/
def execWrite (r : MReq) (s : State) : Host.Outcome State Fault Refusal := .next (s.request 0x11 false r)

/-- READ_SEG. -/
def execReadSeg (r : MReq) (s : State) : Host.Outcome State Fault Refusal := .next (s.request 0x12 false r)

/-- WRITE_SEG. -/
def execWriteSeg (r : MReq) (s : State) : Host.Outcome State Fault Refusal := .next (s.request 0x13 false r)

/-- LIST. -/
def execList (r : MReq) (s : State) : Host.Outcome State Fault Refusal := .next (s.request 0x14 false r)

/-- HELLO. -/
def execHello (r : MReq) (s : State) : Host.Outcome State Fault Refusal := .next (s.request 0x01 false r)

/-- PROVE_KEY. -/
def execProveKey (r : MReq) (s : State) : Host.Outcome State Fault Refusal := .next (s.request 0x02 false r)

/-- PROVE_PASSWORD. -/
def execProvePassword (r : MReq) (s : State) : Host.Outcome State Fault Refusal := .next (s.request 0x03 false r)

/-- OPEN_LOCAL. -/
def execOpenLocal (r : MReq) (s : State) : Host.Outcome State Fault Refusal := .next (s.request 0x04 false r)

/-- CLOSE. -/
def execClose (r : MReq) (s : State) : Host.Outcome State Fault Refusal := .next (s.request 0x05 false r)

/-- QUOTE. -/
def execQuote (r : MReq) (s : State) : Host.Outcome State Fault Refusal := .next (s.request 0x06 false r)

/-- SESSION_IDLE_EXPIRE: 300 s after its last request; a request still executing holds the session open (R508). -/
def execSessionIdleExpire (sess : Fin 4) (s : State) : Host.Outcome State Fault Refusal :=
  .next (match s.session sess with
    | some x => if x.lastAt + 300 * tickS ≤ s.time ∧ !s.executing (BitVec.ofNat 8 (sess.val + 1)) then s.endSession sess else s
    | none => s)

/-- SLOT_LOCKOUT_END. -/
def execSlotLockoutEnd (slot : CredSlot) (s : State) : Host.Outcome State Fault Refusal :=
  let i := match slot with | .key n => n.val | .password n => 8 + n.val
  let t := mapGet 0 s.sec.locked i
  .next (if t ≠ 0 ∧ t ≤ s.time + 1 then { s with sec := { s.sec with locked := mapSet 0 s.sec.locked i 0 } } else s)

/-- The handover that a store held back is carried out, and answered. -/
def State.lateHandover (s : State) : State :=
  if !s.sys.handover then s
  else match s.sys.ball with
  | none => s
  | some h =>
    let hot := (s.ctrl (otherCtrl h)).st == 3
    let s1 : State := if hot then s.handOver h else { s with sys := { s.sys with handover := false } }
    let s2 : State := { s1 with sys := { s1.sys with waitHand := none } }
    match s.sys.waitHand with
    | some q => s2.mhReply q.1 q.2 (if hot then rpOk else rpState) [] q.2.more
    | none => s2

/-- STORE_COMMIT_DONE: with the ball held; the reply follows, and a handover that waited. -/
def execStoreCommitDone (ok : Bool) (s : State) : Host.Outcome State Fault Refusal :=
  if s.sys.snap.isNone || s.sys.ball.isNone then .next s
  else
    let s1 := s.storeEnd ok
    let s2 : State := { s1 with sys := { s1.sys with waitStore := none } }
    let s3 := match s.sys.waitStore with
      | some q => s2.mhReply q.1 q.2 (if ok then rpOk else rpState) [] q.2.more
      | none => s2
    .next s3.lateHandover

/-- BOOT_RECOVERY (R511): both controllers are FAILED or in a failed boot, and no slot is valid. -/
def execBootRecovery (s : State) : Host.Outcome State Fault Refusal :=
  let down (c : CtrlSt) : Bool := c.st == 5 || c.st == 1
  .next (if s.driven && !s.boot.recovery && s.sys.ball.isNone && s.bootSlot.isNone && down s.sys.a && down s.sys.b then
      let s1 := s.leaveReady.setStep 0x1E
      { s1 with boot := { s1.boot with recovery := true, recSeg := [] } }
    else s)

end Sys2Proof.Machine
end

