-- ==== Sys2Proof/Machine/HostIf.lean ====
section
/-! DEFINITION. The host interface (ch.20): the link and its resets (R517, R527, R538), BAR0 (R520, R521), the windows of BAR2 (R522, R523),
interrupts (R525), reads of host memory (R526). -/

namespace Sys2Proof.Machine

/-! ### What the host reads -/

/-- The endpoint serves: step 0 of start-up has ended (R533). -/
def State.endpoint (s : State) : Bool := !s.boot.off && decide (1 ≤ s.bootStep)

/-- HOST_STATUS (Table 4 of ch.20). -/
def State.hostStatus (s : State) : Nat :=
  field 31 s.readyPin.toNat + field 30 s.sys.ball.isSome.toNat + field 29 s.fenced.toNat + field 24 (s.bootStep % 32)
    + (List.range 16).foldl (fun n d => n + (if s.dieRuns d then 2 ^ d else 0)) 0

/-- MB_STATUS (Table 4 of ch.20). -/
def State.mbStatus (s : State) : Nat :=
  field 31 s.host.mbBusy.toNat + field 30 s.host.mbReady.toNat + field 29 s.host.mbUnheld.toNat
    + (if s.host.mbReady then s.host.mbLen % 2048 else 0)

/-- HOST_Wn (Table 5): ENABLE 1, DIE 0 and LOCAL_HI n until it is written. -/
def State.window (s : State) (w : Nat) : BitVec 64 := (mapGet none s.host.win w).getD (BitVec.ofNat 64 (field 34 w + 1))

/-- Vectors of 64 pending bits. -/
def pendWord (pend : List Nat) (i : Nat) : Nat := (List.range 64).foldl (fun n k => n + (if pend.contains (64 * i + k) then 2 ^ k else 0)) 0

/-- The 8-byte word of BAR0 at an aligned offset (Table 3); offsets not listed read as zero. Core pages are read by CORE_PAGE_ACCESS. -/
def State.bar0Word (s : State) (o : Nat) : Nat :=
  if o = 0x00 then s.hostStatus + field 32 s.host.event.toNat
  else if o = 0x08 then s.host.eventEn.toNat
  else if o = 0x10 then field 32 s.mbStatus
  else if 0x20 ≤ o ∧ o < 0x40 then (s.window ((o - 0x20) / 8)).toNat
  else if 0x1000 ≤ o ∧ o < 0x1418 then ofBytes ((List.range 8).map (fun i => mapGet 0 s.host.req (o - 0x1000 + i)))
  else if 0x1800 ≤ o ∧ o < 0x1C18 then ofBytes ((List.range 8).map (fun i => mapGet 0 s.host.rep (o - 0x1800 + i)))
  else if 0x8000 ≤ o ∧ o < 0x9000 then
    let v := (o - 0x8000) / 16
    if o % 16 = 0 then (mapGet 0 s.host.table (2 * v)).toNat
    else (mapGet 0 s.host.table (2 * v + 1)).toNat + field 32 (!s.host.unmasked.contains v).toNat
  else if 0x9000 ≤ o ∧ o < 0x9020 then pendWord s.host.pend ((o - 0x9000) / 8)
  else if 0x400000 ≤ o ∧ o < 0x800000 then bits (s.route ((o - 0x400000) / 64)) (o % 64 * 8 + 63) (o % 64 * 8)
  else 0

/-! ### The link (R517, R527, R538) -/

/-- An event of site 0x1A. -/
def hostEvt (sev cause detail : Nat) : Event := mkEvent 0x1A sev 24 0xFF cause detail

/-- What a Function Level Reset and the loss of the link do (R527): HOST_EVENT_EN, the windows, the MSI-X table and, as the PCI Express
Base Specification has it, Bus Master Enable (notes/assumptions/58.md) take their reset values, mailbox sessions close, a mailbox request in progress ends, and moves that wait on the host complete with HOST. -/
def State.hostReset (s : State) : State :=
  let drop (w : Option (Nat × MReq)) : Option (Nat × MReq) := w.filter (fun q => q.2.transport != .mailbox)
  let s1 : State := { s with
    host := { s.host with eventEn := 0, win := [], table := [], unmasked := [], pend := [], mbBusy := false, busMaster := false }
    sys := { s.sys with waitStore := drop s.sys.waitStore, waitHand := drop s.sys.waitHand } }
  let s2 := s1.endSessions (fun x => x.transport == .mailbox)
  s2.host.reads.foldl (fun s h => s.hostReadEnd h none) s2

/-- The link goes down. -/
def State.linkGone (s : State) : State :=
  if !s.host.up then s
  else
    let s1 : State := { s with host := { s.host with up := false, speed := 0, width := 0 } }
    ((s1.bump 0xA000 5).raise (hostEvt sevAdvisory 1 0)).hostReset

/-- HOST_LINK_TRAIN: the greatest speed that the partner and HOST.MAX_SPEED allow, at a width of Table 1; a link that retrains lower is
logged. -/
def execHostLinkTrain (speed : Fin 7) (width : Fin 17) (s : State) : Host.Outcome State Fault Refusal :=
  let v := min speed.val (s.obj 0xA000 2)
  let ok := s.endpoint && !s.host.perst && decide (4 ≤ v) && ([1, 2, 4, 8, 16] : List Nat).contains width.val
  .next (if !ok then s
    else
      let s1 : State := { s with host := { s.host with up := true, speed := v, width := width.val } }
      if s.host.up ∧ (v < s.host.speed ∨ width.val < s.host.width) then s1.raise (hostEvt sevAdvisory 0 (256 * v + width.val)) else s1)

/-- HOST_LINK_DOWN. -/
def execHostLinkDown (s : State) : Host.Outcome State Fault Refusal := .next s.linkGone

/-- FUNCTION_LEVEL_RESET. -/
def execFunctionLevelReset (s : State) : Host.Outcome State Fault Refusal := .next (if s.endpoint then s.hostReset else s)

/-- PERST: asserted, the link goes down with the effects of R527; nothing else of the module changes. Released, configuration space
answers 100 ms later (R533). -/
def execPerst (low : Bool) (s : State) : Host.Outcome State Fault Refusal :=
  let s1 : State := { s with host := { s.host with perst := low } }
  .next (if low then s1.linkGone.hostReset else { s1 with host := { s1.host with configAt := s.time + 100 * tickMs } })

/-! ### Configuration space (R518, R519, R533) -/

/-- Configuration space answers: 100 ms after the later of PERST_N released and the end of step 0 (R533). -/
def State.configServes (s : State) : Bool := s.endpoint && !s.host.perst && decide (s.host.configAt ≤ s.time)

/-- A 4-byte word of the configuration header at an aligned offset, where the function answers: the identity of Table 2 of ch.20, Bus
Master Enable in the command register, two 64-bit BARs whose kinds stand in their low bits (R518). The bases that the host gives
the BARs are not held: BAR accesses name their offsets (notes/assumptions/58.md). -/
def State.configWord (s : State) (o : Nat) : Option Nat :=
  if !s.configServes then none
  else some (if o = 0x00 then 0xC0161F7C
    else if o = 0x04 then field 2 s.host.busMaster.toNat
    else if o = 0x08 then 0x120000A1
    else if o = 0x10 then 0x4
    else if o = 0x18 then 0xC
    else if o = 0x2C then 0x00011F7C
    else 0)

/-- A write of the command register of configuration space: its bit 2 is Bus Master Enable. -/
def State.configWrite (s : State) (o : Nat) (bs : List Byte) : State :=
  if s.configServes ∧ o = 0x04 ∧ bs ≠ [] then { s with host := { s.host with busMaster := (ofBytes (bs.take 1)).testBit 2 } } else s

/-! ### Core pages and windows (R521 to R523) -/

/-- Bytes that an access touches. -/
def accLen : Access → Nat
  | .read n => n
  | .write bs => bs.length

/-- CORE_PAGE_ACCESS: the first 4 KiB of the core's control window; a read of TQ_POP pops. A request of PCI Express never crosses 4 KiB. -/
def execCorePageAccess (die : Fin 16) (core : Fin 32) (off : Fin 0x1000) (acc : Access) (s : State) : Host.Outcome State Fault Refusal :=
  .next (if s.endpoint ∧ off.val + accLen acc ≤ 0x1000 then s.access die (ctlAddr core off) .host acc else s)

/-- How a status of an access through BAR2 completes at PCIe (R523). -/
inductive PcieEnd where
  | success | successEp | completerAbort
deriving DecidableEq, Repr

/-- Read data that is uncorrectable carries EP; a reserved range and ACC_BUSY abort. -/
def pcieEnd (st : BitVec 8) : PcieEnd :=
  if st = 0 then .success else if st = 0x49 then .successEp else .completerAbort

/-- BAR2_ACCESS: a window that is disabled answers Unsupported Request; the window places the offset in the local space of its die, and
registers are read without side effects. -/
def execBar2Access (off : Fin 0x1000000000) (acc : Access) (s : State) : Host.Outcome State Fault Refusal :=
  let w := s.window (off.val / 2 ^ 34)
  .next (if !s.endpoint then s
    else if bit w 0 then s.access (bits w 47 44) (bits w 43 34 * 2 ^ 34 + off.val % 2 ^ 34) .host acc true
    else match acc with
      | .read _ => s.emit .unsupported
      | .write _ => s)

/-- A write of HOST_Wn: the reserved bits stay 0. -/
def State.windowWrite (s : State) (w : Nat) (v : BitVec 64) : State :=
  let x := BitVec.ofNat 64 (field 34 (bits v 47 34) + bits v 0 0)
  if s.endpoint then
    { s with host := { s.host with win := mapSet none s.host.win w (if x = BitVec.ofNat 64 (field 34 w + 1) then none else some x) } }
  else s

/-- HOST_WINDOW_WRITE. -/
def execHostWindowWrite (w : Fin 4) (v : BitVec 64) (s : State) : Host.Outcome State Fault Refusal := .next (s.windowWrite w v)

/-- A write of HOST_EVENT clears the bits written as 1. -/
def State.eventClear (s : State) (v : BitVec 32) : State :=
  if s.endpoint then { s with host := { s.host with event := s.host.event &&& ~~~v } } else s

/-- HOST_EVENT_W1C. -/
def execHostEventW1c (v : BitVec 32) (s : State) : Host.Outcome State Fault Refusal := .next (s.eventClear v)

/-! ### Interrupts (R525) -/

/-- A vector unmasked: one message where its events have come while it was masked. -/
def State.unmaskVec (s : State) (v : Nat) : State :=
  let s1 : State := { s with host := { s.host with unmasked := setIns v s.host.unmasked, pend := s.host.pend.filter (· != v) } }
  if s.host.pend.contains v then s1.emit (.msix v) else s1

/-- MSIX_UNMASK. -/
def execMsixUnmask (vec : Fin 256) (s : State) : Host.Outcome State Fault Refusal := .next (if s.endpoint then s.unmaskVec vec else s)

/-- A write of 4 bytes of the MSI-X table: address, data, or vector control with its mask bit. -/
def State.msixWrite (s : State) (o v : Nat) : State :=
  let vec := o / 16
  let put (k : Nat) (hi lo : Nat) : State :=
    { s with host := { s.host with table := mapSet 0 s.host.table k (putBits (mapGet 0 s.host.table k) hi lo v) } }
  match o % 16 with
  | 0 => put (2 * vec) 31 0
  | 4 => put (2 * vec) 63 32
  | 8 => put (2 * vec + 1) 31 0
  | 12 => if v % 2 = 1 then { s with host := { s.host with unmasked := s.host.unmasked.filter (· != vec) } } else s.unmaskVec vec
  | _ => s

/-! ### Writes of BAR0 -/

/-- A write of 4 bytes of a host control register (Table 4 of ch.20). -/
def State.hostRegWrite (s : State) (o v : Nat) : State :=
  let w := (o - 0x20) / 8
  if o = 0x04 then s.eventClear (BitVec.ofNat 32 v)
  else if o = 0x08 then { s with host := { s.host with eventEn := putBits (BitVec.ofNat 32 v) 31 5 0 } }
  else if o = 0x10 then s.doorbell v
  else if 0x20 ≤ o ∧ o < 0x40 then s.windowWrite w (if o % 8 = 0 then putBits (s.window w) 31 0 v else putBits (s.window w) 63 32 v)
  else s

/-- A write of BAR0, in pieces of 4 aligned bytes but for the request buffer (Table 3 of ch.20). A write of 64 aligned bytes of the route
window writes an entry (R309); core pages are written by CORE_PAGE_ACCESS. -/
def State.bar0Write : Nat → State → Nat → List Byte → State
  | 0, s, _, _ => s
  | fuel + 1, s, o, bs =>
    if bs = [] then s
    else if 0x1000 ≤ o ∧ o < 0x1418 then
      State.bar0Write fuel { s with host := { s.host with req := mapSet 0 s.host.req (o - 0x1000) (bs.head?.getD 0) } } (o + 1) (bs.drop 1)
    else if 0x400000 ≤ o ∧ o < 0x800000 ∧ o % 64 = 0 ∧ bs.length = 64 then
      (if s.serving then s.writeRoute ((o - 0x400000) / 64) (BitVec.ofNat 512 (ofBytes bs)) else s)
    else if o % 4 ≠ 0 ∨ bs.length < 4 then State.bar0Write fuel s (o + 1) (bs.drop 1)
    else
      let v := ofBytes (bs.take 4)
      let s1 := if o < 0x100 then s.hostRegWrite o v else if 0x8000 ≤ o ∧ o < 0x9000 then s.msixWrite (o - 0x8000) v else s
      State.bar0Write fuel s1 (o + 4) (bs.drop 4)

/-- REGISTER_WRITE (R136): registers of the local space by their address, BAR0, and configuration space. -/
def execRegisterWrite (target : RegAddr) (agent : Agent) (data : List Byte) (s : State) : Host.Outcome State Fault Refusal :=
  .next (match regAddrLocal target, target with
    | some (d, a), _ => s.access d a agent (.write data)
    | none, .bar0 off => if s.endpoint then State.bar0Write data.length s off data else s
    | none, .config off => s.configWrite off data
    | none, _ => s)

/-! ### Reads of host memory (R526) -/

/-- The read outstanding under a tag. -/
def State.hostRead (s : State) (tag : Nat) : Option HostRead := s.host.reads.find? (fun h => h.tag == tag)

/-- HOST_COMPLETION: the data asked for, or UR, CA or EP, which fail the move with HOST. -/
def execHostCompletion (tag : Nat) (cpl : Cpl) (s : State) : Host.Outcome State Fault Refusal :=
  .next (match s.hostRead tag, cpl with
    | some h, .data bs => if bs.length = h.piece.len then s.hostReadEnd h (some bs) else s
    | some h, _ => s.hostReadEnd h none
    | none, _ => s)

/-- HOST_CPL_TIMEOUT. -/
def execHostCplTimeout (tag : Nat) (s : State) : Host.Outcome State Fault Refusal :=
  .next (match s.hostRead tag with
    | some h => if h.sent + s.obj 0xA800 1 * tickMs ≤ s.time then s.hostReadEnd h none else s
    | none => s)

end Sys2Proof.Machine
end

