-- ==== Sys2Proof/Machine/StartUp.lean ====
section
/-! DEFINITION. Start-up (ch.21): the sequence (R529 to R532), what the records give back (R391, R484), entry points and resets (R536 to
R539), failures (R541). -/

namespace Sys2Proof.Machine

/-! ### Records read in step 2 -/

/-- A record neither of whose copies verifies, or that names another die's identity (R391). -/
def State.voidRecord (s : State) (rec : Nat) : State :=
  let r := mapGet { } s.flash.recs rec
  let bad (c : RecCopy) : RecCopy := { c with valid := false }
  ({ s with flash := { s.flash with recs := mapSet { } s.flash.recs rec { r with a := bad r.a, b := bad r.b } } } : State).raise
    (mkEvent 0x15 sevAdvisory 24 rec 2 0)

/-- The record in force of a die; that of a die whose fingerprint differs from the identity record is not used (R500). -/
def State.record_ (s : State) (rec : Nat) : Option RecBody :=
  if s.boot.badPrints.contains rec then none else (mapGet { } s.flash.recs rec).best

/-- A saved object takes its committed value; one that its rules now refuse takes its default, with a NOTE (R484). -/
def State.takeSaved (s : State) (kv : Nat × Nat) : State :=
  match objRow (kv.1 / 256) (kv.1 % 256) with
  | some r => if r.saved = .y ∧ valueOk r (kv.1 % 256) kv.2 then s.setObj (kv.1 / 256) (kv.1 % 256) kv.2
    else s.raise (mkEvent 0x15 sevNote 24 0xFF 3 kv.1)
  | none => s.raise (mkEvent 0x15 sevNote 24 0xFF 3 kv.1)

/-- Saved objects take their committed values, or their defaults where no copy of the record verifies, or it has been voided. -/
def State.takeConfig (s : State) (valid : Bool) : State :=
  let s1 : State := { s with flash := { s.flash with configValid := valid } }
  if s.flash.configVoid then s1
  else if valid then s.flash.config.foldl State.takeSaved s1
  else s1.raise (mkEvent 0x15 sevAdvisory 24 0xFF 4 0)

/-- What the record of a compute die gives back. -/
def State.takeDie (s : State) (d : Nat) : State :=
  match s.record_ d with
  | some b => s.modDie d (fun x => { x with coreMap := b.coreMap, retired := b.retired, slotFaults := b.slotFaults, rows := b.rows, lanes := b.lanes })
  | none => s

/-- A bank as its ring record has it. -/
def BankSt.ofRecord (b : BankSt) (r : RingRec) : BankSt :=
  let ring (m : SMap Nat) : SMap Ring := m.map (fun kv => (kv.1, { setting := kv.2 }))
  let spares (m : SMap Nat) : List Nat := (m.map (fun kv => kv.2 - 1)).filter (fun n => decide (32 ≤ n))
  { b with tx := ring r.tx, rx := ring r.rx, txLine := r.txLine, rxLine := r.rxLine, txOut := r.txOut, rxOut := r.rxOut,
           txSpare := (spares r.txLine).foldl (fun l n => setIns n l) [], rxSpare := (spares r.rxLine).foldl (fun l n => setIns n l) [] }

/-- What the record of a light die gives back; a die without one raises an event (R259). -/
def State.takeLight (s : State) (l : Nat) : State :=
  match s.record_ (16 + l) with
  | none => (s.modLight l (fun y => { y with record := false, refs := [] })).raise (mkEvent 0x09 sevNote (16 + l) 0xFF 8 0)
  | some b =>
    let s1 := s.modLight l (fun y => { y with record := true, active := b.comb, standby := !b.retiredComb, refs := b.refs })
    let s2 := if b.retiredComb then s1.setObj 0x4112 (l + 1) 0 else s1
    let s3 := b.rings.foldl (fun s kv => s.modBank (17 * l + kv.1) (fun x => { x.ofRecord kv.2 with comb := b.comb })) s2
    let s4 := if b.commGt = 0 then s3 else s3.setObj 0x4100 0x0E b.commGt
    b.portBanks.foldl (fun s kv => if kv.1 < 16 then s.setObj 0x4121 (16 * l + kv.1 + 1) (17 * l + kv.2 - 1) else s) s4

/-- Lane maps of every record, and the phase map of the steward's. -/
def State.takeMaps (s : State) : State :=
  let s1 := s.bundlesAnew
  match s1.record_ 24 with
  | some b => { s1 with pwr := { s1.pwr with phases := b.phases } }
  | none => s1

/-- The records read in step 2: what they give back, and the spares left. -/
def State.takeRecords (s : State) : State :=
  let s1 := (List.range 16).foldl State.takeDie s
  let s2 := ((List.range 8).foldl State.takeLight s1).takeMaps
  let s3 : State := { s2 with boot := { s2.boot with noRings := (List.range 8).any (fun l => (s2.record_ (16 + l)).isNone) } }
  s3.benchObjects.repairObjects.laneBench.lightBench.phaseObjects

/-! ### The end of each step (Table 1 of ch.21) -/

/-- The step in progress has ended and another begins; BOOT.STEP_MS keeps its duration. -/
def State.nextStep (s : State) (n : Nat) : State :=
  (s.setObj 0xB001 (s.bootStep + 1) ((s.time - s.boot.stepAt) / tickMs)).setStep n

/-- Controllers leave reset and boot (R511). -/
def State.bootBoth (s : State) : State :=
  let boot (c : CtrlSt) : CtrlSt := { c with st := 1, healthy := true, failed := 0, claim := false, hb := none, bootAt := s.time }
  { s with sys := { s.sys with a := boot s.sys.a, b := boot s.sys.b } }

/-- Compute dies that take part. -/
def State.present (s : State) : List Nat := (List.range 16).filter (fun d => (s.die d).pstate != 5)

/-- The end of step 2: bit 1 of SEC.IDENTITY_STATE says that a fingerprint differs (R500); a standing trip stops the start at 0x1D (R537); without the reference step 3 does not begin (R539). -/
def State.endRecords (s : State) (r : StepResult) : State :=
  let id := putBits r.identity 1 1 (!r.badPrints.isEmpty).toNat
  let s0 : State := { s with boot := { s.boot with badPrints := r.badPrints.map Fin.val } }
  let s1 := s0.setObj 0x9000 2 id.toNat
  let s2 := if id = 0 then s1 else s1.raise (mkEvent 0x18 sevAdvisory 24 0xFF 3 id.toNat)
  let s3 := ((r.badRecords.foldl (fun s n => s.voidRecord n.val) s2).takeConfig r.configValid).takeRecords
  let s4 : State := { s3 with boot := { s3.boot with svcPort := s3.obj 0x1030 2 } }
  if s4.thm.trip.isSome then s4.nextStep 0x1D
  else if s4.boot.refLost then ({ s4 with boot := { s4.boot with refHold := true } } : State).nextStep 0x1F
  else s4.nextStep 3

/-- A logical core mapped to a slot that fails its test takes the nearest spare, or is out (R392, R394, R399). -/
def State.replaceSlot (s : State) (d k : Nat) : State :=
  match (List.range 32).find? (fun c => s.slotOf d c == some k) with
  | none => s
  | some c => match s.nearestSpare d k with
    | some n => (s.setSlot d c (some n)).raise (mkEvent 0x19 sevAdvisory d c 0 n)
    | none => (s.setSlot d c none).raise (mkEvent 0x19 sevDegraded d c 3 k)

/-- The core map of a die after the self-test of its slots: kept, with failing slots replaced; without a record, the slots that pass, in
their order (R392). Slots retired before are tested again where CMP.SLOT_RETEST asked for it (R400). -/
def State.testSlots (s : State) (d : Nat) (bad : List Nat) : State :=
  let s1 := s.modDie d (fun x => { x with retired := bad.foldl (fun l k => setIns k l) (if s.flash.retest then [] else x.retired) })
  if (s.record_ d).isSome then bad.foldl (fun s k => s.replaceSlot d k) s1
  else
    let pass := (List.range 36).filter (fun k => !bad.contains k)
    (List.range 32).foldl (fun s c => match pass[c]? with
      | some k => s.setSlot d c (some k)
      | none => (s.setSlot d c none).raise (mkEvent 0x19 sevDegraded d c 3 0)) s1

/-- The end of step 4. -/
def State.endDieTest (s : State) (r : StepResult) : State :=
  let bad (d : Nat) : List Nat := (r.badSlots.filter (fun b => b.1.val == d)).map (fun b => b.2.val)
  let s1 := s.present.foldl (fun s d => s.testSlots d (bad d)) s
  let s2 : State := { s1 with flash := { s1.flash with retest := false } }
  let s3 := if r.checkersOk then s2 else s2.raise (mkEvent 0x16 sevUnmasked 24 0xFF 0 0)
  ((s3.setObj 0x7800 4 0).benchObjects).nextStep 5

/-- Defects that the self-test of the stacks has newly found: applied, and so part of the record that the steward writes (R204). A row
or lane without a spare is left as it is; the self-test leaves out the kept stack IDs (R540). -/
def State.newDefects (s : State) (r : StepResult) : State :=
  let s1 := r.badRows.foldl (fun s p =>
    let k := rowRefKey p.2
    if (s.die p.1).rows.contains k || (s.die p.1).spareRows (k / 24576) == 0 || s.pwr.kept.testBit (4 * p.1.val + p.2.sid) then s
    else s.modDie p.1 (fun x => { x with rows := x.rows ++ [k] })) s
  let s2 := r.badLanes.foldl (fun s p =>
    let k := laneKey p.2.stack p.2.chan p.2.lane
    if (s.die p.1).lanes.contains k || (s.die p.1).spareFor k == 0 then s
    else s.modDie p.1 (fun x => { x with lanes := x.lanes ++ [k] })) s1
  s2.repairObjects

/-- The end of step 6: lanes that training has found bad are repaired; dies with a channel that fails training stop; test leave is
released; kept stacks run again (R540). -/
def State.endMemory (s : State) (r : StepResult) : State :=
  let s0 := s.newDefects r
  let s1 := r.stoppedDies.foldl (fun s d => ((s.dieStop d).startFail d 0x07).raise (mkEvent 0x07 sevDegraded d 0xFF 0 0)) s0
  let s2 := s1.dropLeave (fun q => match q with | .startTest _ => true | _ => false)
  let s3 : State := { s2 with pwr := { s2.pwr with kept := 0 } }
  if s3.present = [] then s3.startFailed else s3.nextStep 7

/-- A compute die becomes Active at the end of step 7; its generators are seeded (R51). -/
def State.startDie (s : State) (d : Nat) : State :=
  if (s.die d).everActive then s
  else
    let s1 := if s.obj 0xB000 2 = 2 then s.modDie d (fun x => { x with cause := 3 }) else s
    let s2 := s1.dieActive d
    if s.obj 0x7040 1 = 1 then (List.range 32).foldl (fun s c => s.seedCore d c true) s2 else s2

/-- The end of step 7: bundles are trained, compute dies are Active. -/
def State.endLanes (s : State) : State :=
  let s1 := (List.range 53).foldl (fun s e => if s.partUp (edgeEnds e).1 && s.partUp (edgeEnds e).2 then s.trainEdge e else s)
    (s.present.foldl (fun s d => if (s.die d).pstate = 3 then s.setPower d 0 else s) s)
  let s2 := s1.present.foldl State.startDie s1.laneBench
  (s2.dropLeave (fun q => match q with | .startLanes _ => true | _ => false)).nextStep 8

/-- The banks of a light die whose comb is locked enter PROBE, but for disabled ports and an unused spare bank (Table 4 of ch.09). -/
def State.openBanks (s : State) (l : Nat) : State :=
  (List.range 16).foldl (fun s i =>
    let p := 16 * l + i
    if (s.obj 0x4124 0).testBit p || (s.bank (s.bankOf p)).st != 0 then s
    else s.modBank (s.bankOf p) (fun b => { b with comb := (s.light l).active }.probe)) s

/-- The end of step 8: the ports of a light die neither of whose combs locks are FAILED. -/
def State.endCombs (s : State) (r : StepResult) : State :=
  let s1 := r.failedLights.foldl (fun s l => (((s.modLight l (fun y => { y with st := 4 })).portsFailed l).startFail (16 + l.val) 0x0A).raise
    (mkEvent 0x0A sevDegraded (16 + l.val) 0xFF 1 0)) s
  let ok := (List.range 8).filter (fun l => (s1.light l).st == 1 || (s1.light l).st == 2)
  (ok.foldl State.openBanks s1).nextStep 9

/-- READY: step 12 (R529). -/
def State.ready (s : State) : State :=
  ((s.nextStep 12).hostEvent 1).modUmp (fun u => { u with readyAt := s.time })

/-- Every die that takes part holds the leave that a step needs (R532). -/
def State.leaveFor (s : State) (n : Nat) : Bool :=
  if 4 ≤ n ∧ n ≤ 6 then s.present.all (fun d => s.pwr.has (.startTest (Fin.ofNat 16 d)))
  else if n = 7 then
    (List.range 25).all (fun d => (s.obj 0xB000 4).testBit d || (d < 16 && !s.present.contains d) || s.pwr.has (.startLanes (Fin.ofNat 25 d)))
  else true

/-- What must hold for a step to end: 10 ms of input at 54 V or more in step 0, the ball in step 1, locked combs in step 8, no port in TRAIN in step 10, lock in step 11. -/
def State.stepDone (s : State) (r : StepResult) (n : Nat) : Bool :=
  s.leaveFor n && (match n with
    | 0 => decide (s.boot.stepAt + 10 * tickMs ≤ s.time) && !s.pwr.low
    | 1 => s.sys.ball.isSome
    | 8 => (List.range 8).all (fun l => (s.light l).st == 1 || (s.light l).st == 2 || r.failedLights.any (fun k => k.val == l))
    | 10 => (List.range 136).all (fun b => (s.bank b).st != 2)
    | 11 => s.gt.st == 1
    | _ => true)

/-- The work of a step done and the next step begun. -/
def State.stepEnd (s : State) (r : StepResult) (n : Nat) : State :=
  match n with
  | 0 => ({ s with host := { s.host with configAt := s.time + 100 * tickMs } } : State).bootBoth.nextStep 1
  | 1 => ({ s with boot := { s.boot with straps := r.straps } } : State).nextStep 2
  | 2 => s.endRecords r
  | 4 => s.endDieTest r
  | 5 => (s.newDefects r).nextStep 6
  | 6 => s.endMemory r
  | 7 => s.endLanes
  | 8 => s.endCombs r
  | 9 => (s.dropLeave (fun q => match q with | .ringSweep _ => true | _ => false)).nextStep 10
  | 10 => ({ s with gt := { s.gt with since := s.time } } : State).nextStep 11
  | 11 => s.ready
  | n => s.nextStep (n + 1)

/-- STARTUP_STEP_END. -/
def execStartupStepEnd (r : StepResult) (s : State) : Host.Outcome State Fault Refusal :=
  .next (if s.driven ∧ s.bootStep ≤ 11 ∧ s.stepDone r s.bootStep = true then s.stepEnd r s.bootStep else s)

/-- GT_WAIT_EXPIRE (R531). -/
def execGtWaitExpire (s : State) : Host.Outcome State Fault Refusal :=
  .next (if s.driven ∧ s.bootStep = 11 ∧ s.boot.stepAt + s.obj 0xB800 1 * tickMs ≤ s.time then s.ready else s)

/-! ### Overrun (R530, R541) -/

/-- The Max of a step with the extensions of R530, in 1/256 ns. -/
def State.stepMax (s : State) (n : Nat) : Nat :=
  match n with
  | 0 => 20 * tickMs | 1 => 1500 * tickMs | 2 => tickS | 3 => 300 * tickMs | 4 => 4 * tickS | 5 => 65 * tickS | 6 => 8 * tickS
  | 7 => 5 * tickMs | 8 => 2 * tickS | 9 => if s.boot.noRings then 10 * tickS else tickS
  | 10 => 60 * tickS + 5300 * tickUs | _ => s.obj 0xB800 1 * tickMs

/-- STARTUP_STEP_OVERRUN: a retry from step 3 once, with dies and light dies off; then FAILED. -/
def execStartupStepOverrun (s : State) : Host.Outcome State Fault Refusal :=
  let n := s.bootStep
  .next (if s.driven ∧ n ≤ 11 ∧ s.boot.stepAt + 2 * s.stepMax n < s.time then
      let s1 := s.setObj 0xB000 5 (256 * n + Config.overrunSite.toNat)
      if s.boot.retried then s1.startFailed
      else
        let s2 := (s1.present.foldl (fun s d => ((s.dieLost d).hbmLost d s.pwr.kept).modDie d (fun x => { x with everActive := false })) s1).allDark
        let s3 := (s2.dropLeave (fun _ => true)).setStep 3
        { s3 with boot := { s3.boot with retried := true } }
    else s)

/-! ### Entry points and resets (R536 to R539) -/

/-- Objects marked F as flash keeps them (R484). -/
def State.fixedDict (s : State) : SMap Nat := s.flash.fixed

/-- POWER_APPLIED: flash alone has kept its contents; the sequence is entered at step 0. -/
def execPowerApplied (s : State) : Host.Outcome State Fault Refusal :=
  let s1 : State := { s.cold with dict := s.fixedDict }
  .next ((s1.setObj 0x2000 0x0A 3).enterStart 0 0)

/-- Memory, tiles and marks of the kept stack IDs alone (R214, R453). -/
def State.keptOnly (s : State) (kept : Nat) : State :=
  (List.range 16).foldl (fun s d => s.wipe d (fun a => !(inHbm a && keptSid kept d a))) s

/-- Every field at its Reset value but for what R537 and Table 3 of ch.21 keep: flash, the endpoint with its link, configuration and MSI-X
table, kept SIDs, a thermal trip, the last holder of the ball; and what stands outside the module: WAKE_N, PERST_N, the reference. -/
def State.resetAll (s : State) : State :=
  let kept := if s.inStandby ∧ s.obj 0x2000 7 = 2 then s.pwr.kept else 0
  let m := s.keptOnly kept
  { time := s.time, draw := s.draw, flash := s.flash, out := s.out, pending := s.pending, dict := s.fixedDict
    mem := m.mem, tiles := m.tiles, badTags := m.badTags, badBursts := m.badBursts
    host := { table := s.host.table, unmasked := s.host.unmasked, pend := s.host.pend, up := s.host.up, speed := s.host.speed,
              width := s.host.width, perst := s.host.perst, nextTag := s.host.nextTag, busMaster := s.host.busMaster, configAt := s.host.configAt }
    thm := { trip := s.thm.trip }
    pwr := { kept := kept, wakeLow := s.pwr.wakeLow }
    sys := { last := s.sys.last }
    boot := { inReset := true, refLost := s.boot.refLost } }

/-- MOD_RESET_ASSERT: held for 1 µs; HOST_STATUS shows step 1. -/
def execModResetAssert (s : State) : Host.Outcome State Fault Refusal :=
  .next (if s.boot.off then s else s.resetAll.setStep 1)

/-- MOD_RESET_RELEASE: the sequence resumes from step 1. -/
def execModResetRelease (s : State) : Host.Outcome State Fault Refusal :=
  .next (if s.boot.inReset then
      let s1 := ((s.setObj 0x2000 0x0A 3).enterStart 1 1).bootBoth
      { s1 with boot := { s1.boot with inReset := false } }
    else s)

/-- PANEL_REFERENCE_LOST: dies and light dies stop, the module is fenced, code 0x1F. Before step 2 has begun the absence is only noted: step 1
checks it, and step 3 waits. -/
def execPanelReferenceLost (s : State) : Host.Outcome State Fault Refusal :=
  let s1 : State := { s with boot := { s.boot with refLost := true } }
  .next (if !s.driven || s.boot.refLost then s
    else if s.bootStep ≤ 1 then s1
    else (s1.stopFenced 0x1F).raise (mkEvent 0x0C sevFatal 24 0xFF 5 0))

/-- PANEL_REFERENCE_RETURN: during start-up the held rail step begins; a module stopped in service stays as it is. -/
def execPanelReferenceReturn (s : State) : Host.Outcome State Fault Refusal :=
  let s1 : State := { s with boot := { s.boot with refLost := false } }
  .next (if s.boot.refHold then ({ s1 with boot := { s1.boot with refHold := false } } : State).setStep 3 else s1)

/-- UPSTREAM_PORT_LOST (R223): no whistle on the upstream port for 10 µs. -/
def execUpstreamPortLost (s : State) : Host.Outcome State Fault Refusal :=
  .next (match s.gt.up with
    | some p => if s.gt.st = 1 ∧ (s.gtPort p).at_ + 10 * tickUs < s.time then s.gtMoves s.leavePort else s
    | none => s)

end Sys2Proof.Machine
end

