-- ==== Sys2Proof/Machine/Tidy.lean ====
section
/-! DEFINITION. The tidy core (R161 to R163, R166): RV32IMC in machine mode over the regions of Table 22 of ch.05. The
encodings and the meaning of each instruction are those of the RISC-V unprivileged specification, version 20191213, and of
the privileged specification, which R161 names (notes/assumptions/10.md). -/

namespace Sys2Proof.Machine

/-! ### Registers and facilities (Table 23) -/

/-- Register i of the tidy core; x0 reads zero. -/
def TcSt.reg (t : TcSt) (i : Nat) : BitVec 32 := if i = 0 then 0 else mapGet 0 t.x i

/-- Register i written; a write of x0 is discarded. -/
def TcSt.setReg (t : TcSt) (i : Nat) (v : BitVec 32) : TcSt := if i = 0 then t else { t with x := mapSet 0 t.x i v }

/-- The machine external interrupt: the OR of TC_IRQ_PEND and TC_IRQ_EN (Table 23). -/
def State.tcExtIrq (s : State) (d c : Nat) : Bool := s.tcPending d c &&& (s.core d c).tc.irqEn != 0

/-- Half h of a 64-bit facility. -/
def half (v : BitVec 64) (h : Nat) : BitVec 32 := BitVec.ofNat 32 (v.toNat >>> (32 * h))

/-- A CSR as it reads; none where the tidy core has none of that number. Counters shadow at 0xC00, time reads local GT bits
[63:8]. -/
def State.csrRead (s : State) (d c n : Nat) : Option (BitVec 32) :=
  let t := (s.core d c).tc
  let gt := BitVec.ofNat 64 ((s.localGt d).toNat / 256)
  match n with
  | 0x300 => some (BitVec.ofNat 32 (field 7 t.mpie.toNat + field 3 t.mie.toNat))
  | 0x304 => some (BitVec.ofNat 32 (field 11 t.meie.toNat))
  | 0x305 => some t.mtvec
  | 0x340 => some t.mscratch
  | 0x341 => some t.mepc
  | 0x342 => some t.mcause
  | 0x343 => some t.mtval
  | 0x344 => some (BitVec.ofNat 32 (field 11 (s.tcExtIrq d c).toNat))
  | 0xB00 => some (half (s.tcCycle d c) 0)
  | 0xB80 => some (half (s.tcCycle d c) 1)
  | 0xB02 => some (half t.minstret 0)
  | 0xB82 => some (half t.minstret 1)
  | 0xC00 => some (half (s.tcCycle d c) 0)
  | 0xC80 => some (half (s.tcCycle d c) 1)
  | 0xC01 => some (half gt 0)
  | 0xC81 => some (half gt 1)
  | 0xC02 => some (half t.minstret 0)
  | 0xC82 => some (half t.minstret 1)
  | _ => none

/-- A CSR written; only the fields of Table 23 hold anything. -/
def TcSt.csrWrite (t : TcSt) (cyc : BitVec 64) (now n : Nat) (v : BitVec 32) : TcSt :=
  match n with
  | 0x300 => { t with mie := bit v 3, mpie := bit v 7 }
  | 0x304 => { t with meie := bit v 11 }
  | 0x305 => { t with mtvec := putBits v 1 0 0 }
  | 0x340 => { t with mscratch := v }
  | 0x341 => { t with mepc := putBits v 0 0 0 }
  | 0x342 => { t with mcause := v }
  | 0x343 => { t with mtval := v }
  | 0xB00 => { t with mcycle := putBits cyc 31 0 v.toNat, cycAt := now }
  | 0xB80 => { t with mcycle := putBits cyc 63 32 v.toNat, cycAt := now }
  | 0xB02 => { t with minstret := putBits t.minstret 31 0 v.toNat }
  | 0xB82 => { t with minstret := putBits t.minstret 63 32 v.toNat }
  | _ => t

/-! ### Address map (Table 22) -/

/-- The local address of n bytes at an address of the tidy core of core c; none outside Table 22. -/
def tcMap (c a n : Nat) : Option Nat :=
  if a + n ≤ 0x40000 then some (imemAddr c a)
  else if 0x10000000 ≤ a ∧ a + n ≤ 0x10800000 then some (lsAddr c (a - 0x10000000))
  else if 0x20000000 ≤ a ∧ a + n ≤ 0x20010000 then some (ctlAddr c (a - 0x20000000))
  else if 0x30000000 ≤ a ∧ a + n ≤ 0x30100000 then some (0x080400000000 + (a - 0x30000000))
  else none

/-- A load of n bytes: none where it raises an access fault (R161, R186). -/
def State.tcLoad (s : State) (d c a n : Nat) : Option (BitVec 32) × State :=
  match tcMap c a n with
  | none => (none, s)
  | some l => match s.localRead d l n false (some c) with
    | .done 0 bs s1 => (some (BitVec.ofNat 32 (ofBytes bs)), s1)
    | .done _ _ s1 => (none, s1)
    | .wait => (none, s)

/-- A store of n bytes: whether it was done; it raises an access fault otherwise (R161, R171). A store outside instruction
memory counts as an act for the sync monitor (R164). -/
def State.tcStore (s : State) (d c a n : Nat) (v : BitVec 32) : Bool × State :=
  match tcMap c a n with
  | none => (false, s)
  | some l => match s.localWrite d l (toBytes n v.toNat) .tidy (some c) with
    | .done 0 _ s1 => (true, if a < 0x40000 then s1 else s1.act d c)
    | .done _ _ s1 => (false, s1)
    | .wait => (false, s)

/-- Two bytes as the tidy core fetches them: instruction memory as it stood at the last FENCE.I (R161). A fetch that meets an
uncorrectable word is a read like any other: none, and the state after it (R186). -/
def State.tcFetch (s : State) (d c a : Nat) : Option Nat × State :=
  let t := (s.core d c).tc
  let b (l i : Nat) : Nat := match t.stale.find? (fun (x : Nat × Byte) => x.1 == i) with
    | some x => x.2.toNat
    | none => (s.byte d l).toNat
  if a + 2 ≤ 0x40000 then (some (b (imemAddr c a) a + 256 * b (imemAddr c (a + 1)) (a + 1)), s)
  else match tcMap c a 2 with
    | none => (none, s)
    | some l => match s.localRead d l 2 true (some c) with
      | .done 0 bs s1 => (some (ofBytes bs), s1)
      | .done _ _ s1 => (none, s1)
      | .wait => (none, s)

/-! ### Compressed instructions: each stands for one of 32 bits -/

/-- Words of the base formats. -/
def encR (f7 rs2 rs1 f3 rd op : Nat) : Nat := field 25 f7 + field 20 rs2 + field 15 rs1 + field 12 f3 + field 7 rd + op
def encI (imm rs1 f3 rd op : Nat) : Nat := field 20 (imm % 4096) + field 15 rs1 + field 12 f3 + field 7 rd + op
def encS (imm rs2 rs1 f3 : Nat) : Nat :=
  field 25 (imm / 32 % 128) + field 20 rs2 + field 15 rs1 + field 12 f3 + field 7 (imm % 32) + 0x23
def encB (imm rs1 f3 : Nat) : Nat :=
  field 31 (imm / 4096 % 2) + field 25 (imm / 32 % 64) + field 15 rs1 + field 12 f3 + field 8 (imm / 2 % 16)
    + field 7 (imm / 2048 % 2) + 0x63
def encJ (imm rd : Nat) : Nat :=
  field 31 (imm / 2 ^ 20 % 2) + field 21 (imm / 2 % 1024) + field 20 (imm / 2048 % 2) + field 12 (imm / 4096 % 256) + field 7 rd + 0x6F

/-- Sign extension of a w-bit immediate to 21 bits. -/
def sx (w x : Nat) : Nat := unsigned 21 (signed w x)

/-- The offset of C.J and C.JAL, of C.BEQZ and C.BNEZ. -/
def cjOff (h : BitVec 16) : Nat :=
  sx 12 (field 11 (bits h 12 12) + field 4 (bits h 11 11) + field 8 (bits h 10 9) + field 10 (bits h 8 8) + field 6 (bits h 7 7)
    + field 7 (bits h 6 6) + field 1 (bits h 5 3) + field 5 (bits h 2 2))
def cbOff (h : BitVec 16) : Nat :=
  sx 9 (field 8 (bits h 12 12) + field 3 (bits h 11 10) + field 6 (bits h 6 5) + field 1 (bits h 4 3) + field 5 (bits h 2 2))

/-- The arithmetic rows of quadrant 1. -/
def rvcArith (h : BitVec 16) : Option Nat :=
  let rd := bits h 9 7 + 8
  let r2 := bits h 4 2 + 8
  match bits h 11 10 with
  | 0 => if bit h 12 then none else some (encI (bits h 6 2) rd 5 rd 0x13)
  | 1 => if bit h 12 then none else some (encI (0x400 + bits h 6 2) rd 5 rd 0x13)
  | 2 => some (encI (sx 6 (field 5 (bits h 12 12) + bits h 6 2)) rd 7 rd 0x13)
  | _ =>
    if bit h 12 then none
    else match bits h 6 5 with
    | 0 => some (encR 0x20 r2 rd 0 rd 0x33)
    | 1 => some (encR 0 r2 rd 4 rd 0x33)
    | 2 => some (encR 0 r2 rd 6 rd 0x33)
    | _ => some (encR 0 r2 rd 7 rd 0x33)

/-- Quadrant 1 of the compressed instructions. -/
def rvc1 (h : BitVec 16) : Option Nat :=
  let rd := bits h 11 7
  let imm := sx 6 (field 5 (bits h 12 12) + bits h 6 2)
  match bits h 15 13 with
  | 0 => some (encI imm rd 0 rd 0x13)
  | 1 => some (encJ (cjOff h) 1)
  | 2 => some (encI imm 0 0 rd 0x13)
  | 3 =>
    if rd = 2 then
      let k := field 9 (bits h 12 12) + field 4 (bits h 6 6) + field 6 (bits h 5 5) + field 7 (bits h 4 3) + field 5 (bits h 2 2)
      if k = 0 then none else some (encI (sx 10 k) 2 0 2 0x13)
    else if imm = 0 then none else some (field 12 (imm % 2 ^ 20) + field 7 rd + 0x37)
  | 4 => rvcArith h
  | 5 => some (encJ (cjOff h) 0)
  | 6 => some (encB (cbOff h) (bits h 9 7 + 8) 0)
  | _ => some (encB (cbOff h) (bits h 9 7 + 8) 1)

/-- Quadrants 0 and 2. -/
def rvc0 (h : BitVec 16) : Option Nat :=
  let off := field 3 (bits h 12 10) + field 2 (bits h 6 6) + field 6 (bits h 5 5)
  let k := field 6 (bits h 10 7) + field 4 (bits h 12 11) + field 3 (bits h 5 5) + field 2 (bits h 6 6)
  match bits h 15 13 with
  | 0 => if k = 0 then none else some (encI k 2 0 (bits h 4 2 + 8) 0x13)
  | 2 => some (encI off (bits h 9 7 + 8) 2 (bits h 4 2 + 8) 0x03)
  | 6 => some (encS off (bits h 4 2 + 8) (bits h 9 7 + 8) 2)
  | _ => none

def rvc2 (h : BitVec 16) : Option Nat :=
  let rd := bits h 11 7
  let r2 := bits h 6 2
  match bits h 15 13 with
  | 0 => if bit h 12 then none else some (encI r2 rd 1 rd 0x13)
  | 2 => if rd = 0 then none
    else some (encI (field 5 (bits h 12 12) + field 2 (bits h 6 4) + field 6 (bits h 3 2)) 2 2 rd 0x03)
  | 4 =>
    if !bit h 12 then
      if r2 = 0 then (if rd = 0 then none else some (encI 0 rd 0 0 0x67)) else some (encR 0 r2 0 0 rd 0x33)
    else if r2 = 0 then (if rd = 0 then some 0x00100073 else some (encI 0 rd 0 1 0x67))
    else some (encR 0 r2 rd 0 rd 0x33)
  | 6 => some (encS (field 2 (bits h 12 9) + field 6 (bits h 8 7)) r2 2 2)
  | _ => none

/-- The 32-bit instruction a compressed one stands for; none where the encoding is reserved. -/
def rvcExpand (h : BitVec 16) : Option Nat :=
  match bits h 1 0 with
  | 0 => rvc0 h
  | 1 => rvc1 h
  | _ => rvc2 h

/-! ### The instructions -/

/-- RV32I register and immediate arithmetic; `alt` is bit 30. -/
def tcAlu (f3 : Nat) (alt : Bool) (a b : BitVec 32) : BitVec 32 :=
  let sh := b.toNat % 32
  match f3 with
  | 0 => if alt then a - b else a + b
  | 1 => a <<< sh
  | 2 => if a.toInt < b.toInt then 1 else 0
  | 3 => if a.toNat < b.toNat then 1 else 0
  | 4 => a ^^^ b
  | 5 => if alt then a.sshiftRight sh else a >>> sh
  | 6 => a ||| b
  | _ => a &&& b

/-- RV32M. -/
def tcMul (f3 : Nat) (a b : BitVec 32) : BitVec 32 :=
  match f3 with
  | 0 => a * b
  | 1 => BitVec.ofInt 32 (a.toInt * b.toInt / 2 ^ 32)
  | 2 => BitVec.ofInt 32 (a.toInt * b.toNat / 2 ^ 32)
  | 3 => BitVec.ofNat 32 (a.toNat * b.toNat / 2 ^ 32)
  | 4 => if b = 0 then BitVec.allOnes 32 else BitVec.ofInt 32 (a.toInt.tdiv b.toInt)
  | 5 => if b = 0 then BitVec.allOnes 32 else BitVec.ofNat 32 (a.toNat / b.toNat)
  | 6 => if b = 0 then a else BitVec.ofInt 32 (a.toInt.tmod b.toInt)
  | _ => if b = 0 then a else BitVec.ofNat 32 (a.toNat % b.toNat)

/-- A branch is taken; none for a reserved condition. -/
def tcBranch (f3 : Nat) (a b : BitVec 32) : Option Bool :=
  match f3 with
  | 0 => some (a == b)
  | 1 => some (a != b)
  | 4 => some (decide (a.toInt < b.toInt))
  | 5 => some (!decide (a.toInt < b.toInt))
  | 6 => some (decide (a.toNat < b.toNat))
  | 7 => some (!decide (a.toNat < b.toNat))
  | _ => none

/-- An exception or the interrupt taken: mepc, mcause, mtval, the interrupt stack, and the handler's address. -/
def State.tcTrap (s : State) (d c cause tval : Nat) : State :=
  s.modTc d c (fun t => { t with mepc := t.pc, mcause := BitVec.ofNat 32 cause, mtval := BitVec.ofNat 32 tval,
                                 mpie := t.mie, mie := false, pc := t.mtvec })

/-- An instruction retires: a result, the next program counter, the counters. -/
def State.tcRetire (s : State) (d c rd : Nat) (v : BitVec 32) (pc : BitVec 32) : State :=
  let cyc := s.tcCycle d c
  s.modTc d c (fun t =>
    let t1 := t.setReg rd v
    { t1 with pc := putBits pc 0 0 0, minstret := t1.minstret + 1, lastRetire := s.time,
              mcycle := if cyc = t1.mcycle then cyc + 1 else cyc, cycAt := s.time })

/-- A load; f3 gives its width and sign. -/
def State.tcLoadOp (s : State) (d c f3 rd : Nat) (a : BitVec 32) (next : BitVec 32) : State :=
  let n := 2 ^ (f3 % 4)
  match s.tcLoad d c a.toNat n with
  | (none, s1) => s1.tcTrap d c 5 a.toNat
  | (some v, s1) => s1.tcRetire d c rd (if f3 < 4 then BitVec.ofInt 32 (signed (8 * n) v.toNat) else v) next

/-- A store. -/
def State.tcStoreOp (s : State) (d c f3 : Nat) (a v : BitVec 32) (next : BitVec 32) : State :=
  let p := s.tcStore d c a.toNat (2 ^ f3) v
  if p.1 then p.2.tcRetire d c 0 0 next else p.2.tcTrap d c 7 a.toNat

/-- A CSR instruction: its old value into rd, and the new one where the instruction writes. -/
def State.tcCsr (s : State) (d c w : Nat) (next : BitVec 32) : State :=
  let n := w / 2 ^ 20
  let f3 := w / 2 ^ 12 % 8
  let rs1 := w / 2 ^ 15 % 32
  let a := if 4 ≤ f3 then BitVec.ofNat 32 rs1 else (s.core d c).tc.reg rs1
  let writes := f3 % 4 == 1 || rs1 != 0
  match s.csrRead d c n with
  | none => s.tcTrap d c 2 w
  | some old =>
    if writes ∧ n / 2 ^ 10 = 3 then s.tcTrap d c 2 w
    else
      let v := match f3 % 4 with | 1 => a | 2 => old ||| a | _ => old &&& ~~~a
      let s1 := s.tcRetire d c (w / 2 ^ 7 % 32) old next
      if writes then s1.modTc d c (fun t => t.csrWrite (s1.tcCycle d c) s.time n v) else s1

/-- SYSTEM instructions: ECALL, EBREAK, MRET, WFI and the CSR instructions. -/
def State.tcSystem (s : State) (d c w : Nat) (next : BitVec 32) : State :=
  let t := (s.core d c).tc
  if w / 2 ^ 12 % 8 ≠ 0 then (if w / 2 ^ 12 % 8 = 4 then s.tcTrap d c 2 w else s.tcCsr d c w next)
  else if w = 0x00000073 then s.tcTrap d c 11 0
  else if w = 0x00100073 then s.tcTrap d c 3 t.pc.toNat
  else if w = 0x30200073 then (s.tcRetire d c 0 0 t.mepc).modTc d c (fun t => { t with mie := t.mpie, mpie := true })
  else if w = 0x10500073 then
    let s1 := s.tcRetire d c 0 0 next
    if t.meie && s.tcExtIrq d c then s1 else s1.modTc d c (fun t => if t.st = .running then { t with st := .wfi } else t)
  else s.tcTrap d c 2 w

/-- One instruction of 32 bits; `len` is 2 where it stands for a compressed one, and `raw` what was fetched. -/
def State.tcExec (s : State) (d c w len raw : Nat) : State :=
  let t := (s.core d c).tc
  let next := t.pc + BitVec.ofNat 32 len
  let v : BitVec 32 := BitVec.ofNat 32 w
  let rd := bits v 11 7
  let f3 := bits v 14 12
  let a := t.reg (bits v 19 15)
  let b := t.reg (bits v 24 20)
  let f7 := bits v 31 25
  let immI := BitVec.ofInt 32 (signed 12 (bits v 31 20))
  let immS := BitVec.ofInt 32 (signed 12 (field 5 f7 + bits v 11 7))
  let immU : BitVec 32 := BitVec.ofNat 32 (field 12 (bits v 31 12))
  let immB := BitVec.ofInt 32 (signed 13 (field 12 (bits v 31 31) + field 5 (bits v 30 25) + field 1 (bits v 11 8) + field 11 (bits v 7 7)))
  let immJ := BitVec.ofInt 32 (signed 21 (field 20 (bits v 31 31) + field 1 (bits v 30 21) + field 11 (bits v 20 20) + field 12 (bits v 19 12)))
  let bad := s.tcTrap d c 2 raw
  match bits v 6 0 with
  | 0x37 => s.tcRetire d c rd immU next
  | 0x17 => s.tcRetire d c rd (t.pc + immU) next
  | 0x6F => s.tcRetire d c rd next (t.pc + immJ)
  | 0x67 => if f3 = 0 then s.tcRetire d c rd next (a + immI) else bad
  | 0x63 => match tcBranch f3 a b with
    | some taken => s.tcRetire d c 0 0 (if taken then t.pc + immB else next)
    | none => bad
  | 0x03 => if f3 = 3 ∨ 5 < f3 then bad else s.tcLoadOp d c f3 rd (a + immI) next
  | 0x23 => if 2 < f3 then bad else s.tcStoreOp d c f3 (a + immS) b next
  | 0x13 =>
    if (f3 = 1 ∧ f7 ≠ 0) ∨ (f3 = 5 ∧ f7 ≠ 0 ∧ f7 ≠ 0x20) then bad
    else s.tcRetire d c rd (tcAlu f3 (f3 == 5 && f7 == 0x20) a immI) next
  | 0x33 =>
    if f7 = 1 then s.tcRetire d c rd (tcMul f3 a b) next
    else if f7 = 0 ∨ (f7 = 0x20 ∧ (f3 = 0 ∨ f3 = 5)) then s.tcRetire d c rd (tcAlu f3 (f7 == 0x20) a b) next
    else bad
  | 0x0F =>
    if f3 = 0 then s.tcRetire d c 0 0 next
    else if f3 = 1 then (s.tcRetire d c 0 0 next).modTc d c (fun t => { t with stale := [] })
    else bad
  | 0x73 => s.tcSystem d c w next
  | _ => bad

/-- Fetch and execution of the instruction at the program counter. -/
def State.tcInstr (s : State) (d c : Nat) : State :=
  let pc := (s.core d c).tc.pc.toNat
  match s.tcFetch d c pc with
  | (none, s1) => s1.tcTrap d c 1 pc
  | (some lo, s1) =>
    if lo % 4 ≠ 3 then
      match rvcExpand (BitVec.ofNat 16 lo) with
      | some w => s1.tcExec d c w 2 lo
      | none => s1.tcTrap d c 2 lo
    else match s1.tcFetch d c ((pc + 2) % 2 ^ 32) with
      | (none, s2) => s2.tcTrap d c 1 ((pc + 2) % 2 ^ 32)
      | (some hi, s2) => s2.tcExec d c (lo + 65536 * hi) 4 (lo + 65536 * hi)

/-- The external interrupt is taken at an instruction boundary where MIE and MEIE let it. -/
def State.tcInterrupt (s : State) (d c : Nat) : State :=
  let t := (s.core d c).tc
  if t.mie && t.meie && s.tcExtIrq d c then s.tcTrap d c 0x8000000B 0 else s

/-- One instruction of a tidy core that runs, that leaves WFI, or that STEP is to carry out while it is stopped. -/
def State.tcCycleOne (s : State) (d c : Nat) : State :=
  let t := (s.core d c).tc
  let wakes := t.meie && s.tcExtIrq d c
  if !s.dieClocked d || s.coreOut d c || s.substituting d c then s
  else match t.st with
  | .running => (s.tcInterrupt d c).tcInstr d c
  | .wfi => if wakes then ((s.modTc d c (fun t => { t with st := .running, lastRetire := s.time })).tcInterrupt d c).tcInstr d c else s
  | .stopped => if t.stepDue then ((s.modTc d c (fun t => { t with stepDue := false })).tcInterrupt d c).tcInstr d c else s
  | .lockstep => s

/-- TIDY_CORE_INSTRUCTION. -/
def execTidyCoreInstruction (die : Fin 16) (core : Fin 32) (s : State) : Host.Outcome State Fault Refusal :=
  .next (s.tcCycleOne die core)

/-- TC_LOCKSTEP_MISMATCH (R163): the tidy core halts with state 3, the fault is raised and counts against the core's slot
(R393); the other engines keep running. -/
def execTcLockstepMismatch (die : Fin 16) (core : Fin 32) (s : State) : Host.Outcome State Fault Refusal :=
  .next (if s.dieRuns die then
      (((s.modTc die core (fun t => { t with st := .lockstep })).bump 0x7070 4).raise (mkEvent 0x03 sevRecovered die core 0 0)).coreFault die core
    else s)

/-- TC_NO_RETIRE (R166): no instruction for 1 ms outside WFI; stopped and logged. -/
def execTcNoRetire (die : Fin 16) (core : Fin 32) (s : State) : Host.Outcome State Fault Refusal :=
  let t := (s.core die core).tc
  .next (if t.st = .running ∧ t.lastRetire + tickMs ≤ s.time then
      (s.modTc die core TcSt.stop).raise (mkEvent 0x04 sevRecovered die core stHang 0)
    else s)

end Sys2Proof.Machine
end

