-- ==== Sys2Proof/Machine/Fn.lean ====
section
/-! DEFINITION. The function unit of the vector engine (R56, R120): each function evaluated in FP32 within its bound, then
rounded once to its output. The value inside the bound is free (Config.fnOffset); special values are exact. -/

namespace Sys2Proof.Machine

/-- Fixed-point one: 2^128. -/
def fxOne : Nat := 2 ^ 128
/-- ln 2 in 2^-128, truncated. -/
def fxLn2 : Nat := 235865763225513294137944142764154484399
/-- 1/sqrt(2 pi) in 2^-128, truncated. -/
def fxInvRoot2Pi : Nat := 135753023439836232162591007175785461951

/-- A finite value in 2^-128, toward zero; the magnitude is cut at 2^16. -/
def fxOf (neg : Bool) (m : Nat) (e : Int) : Int :=
  let p := scale2 m 1 (e + 128)
  let v : Int := min (p.1 / p.2) (2 ^ 144)
  if neg then -v else v

/-- Product of two fixed-point numbers. -/
def fxMul (a b : Int) : Int := a * b / (fxOne : Int)

/-- Sum of the first `n` terms of a series whose term k + 1 is `next k term`. -/
def fxSeries (next : Nat → Int → Int) : Nat → Nat → Int → Int
  | 0, _, _ => 0
  | n + 1, k, t => t + fxSeries next n (k + 1) (next k t)

/-- e^f for 0 ≤ f < 1 in fixed point. -/
def fxExp (f : Int) : Int := fxSeries (fun k t => fxMul t f / (k + 1 : Int)) 40 0 (fxOne : Int)

/-- 2^y for fixed-point y: a fixed-point number in [1, 2) and a power of two. -/
def fxExp2 (y : Int) : Nat × Int :=
  let i := y / (fxOne : Int)
  let f := y - i * (fxOne : Int)
  ((fxExp (fxMul f fxLn2)).toNat, i)

/-- ln z for 1 ≤ z ≤ 2 in fixed point: 2·artanh((z - 1)/(z + 1)). -/
def fxLn (z : Int) : Int :=
  let t := (z - fxOne) * (fxOne : Int) / (z + fxOne)
  let t2 := fxMul t t
  let odd := (List.range 48).foldl (fun (p : Int × Int) (k : Nat) => (p.1 + p.2 / (2 * (k : Int) + 1), fxMul p.2 t2)) (0, t)
  2 * odd.1

/-- The normal distribution function at x, |x| ≤ 8, in fixed point (the erf form of GELU). -/
def fxPhi (x : Int) : Int :=
  let x2 := fxMul x x
  let sum := (List.range 160).foldl (fun (p : Int × Int) (k : Nat) =>
    (p.1 + p.2 / (2 * (k : Int) + 1), -(fxMul p.2 x2) / (2 * ((k : Int) + 1)))) (0, x)
  (fxOne : Int) / 2 + fxMul sum.1 fxInvRoot2Pi

/-- Integer square root, bit by bit from bit `n - 1` down. -/
def isqrt : Nat → Nat → Nat → Nat
  | 0, _, r => r
  | n + 1, x, r => if (r + 2 ^ n) * (r + 2 ^ n) ≤ x then isqrt n x (r + 2 ^ n) else isqrt n x r

/-- A signed magnitude n/d · 2^e. -/
structure Approx where
  neg : Bool
  n : Nat
  d : Nat
  e : Int
deriving DecidableEq, Repr

/-- sqrt(m · 2^e) to 64 bits or more, with a sticky half where it is not exact. -/
def sqrtApprox (m : Nat) (e : Int) : Approx :=
  let k : Int := if e % 2 = 0 then e - 160 else e - 161
  let x := m * 2 ^ (e - k).toNat
  let r := isqrt 256 x 0
  { neg := false, n := 2 * r + (if r * r = x then 0 else 1), d := 2, e := k / 2 }

/-- A fixed-point integer as a signed magnitude. -/
def fxApprox (z : Int) (e : Int) : Approx := { neg := decide (z < 0), n := z.natAbs, d := 1, e := e - 128 }

/-- The value of a function of a finite operand that no special rule covers: exact where it is rational, else to 60 bits
or more of its ulp; GELU beyond |x| = 8 to 2^-47 (there its value is 0 or x). `m · 2^e` is the magnitude of x, `neg` its
sign. -/
def fnApprox (fn : Nat) (neg : Bool) (m : Nat) (e : Int) : Approx :=
  let x := fxOf neg m e
  match fn with
  | 2 => sqrtApprox m e
  | 3 => let r := sqrtApprox m e; { neg := false, n := r.d, d := max 1 r.n, e := -r.e }
  | 4 => let r := fxExp2 x; { neg := false, n := r.1, d := 1, e := r.2 - 128 }
  | 5 => let r := fxExp2 (x * (fxOne : Int) / fxLn2); { neg := false, n := r.1, d := 1, e := r.2 - 128 }
  | 6 =>
    let k : Int := (m.log2 : Int) + e
    let z := scale2 m 1 (e - k + 128)
    fxApprox (k * (fxOne : Int) + fxLn (z.1 / z.2 : Nat) * (fxOne : Int) / fxLn2) 0
  | 7 =>
    if (m.log2 : Int) + e < -24 then
      -- x - x^3/3
      let p := scale2 (m * m) 3 (2 * e)
      { neg := neg, n := m * (p.2 - p.1), d := p.2, e := e }
    else
      let r := fxExp2 (2 * (x.natAbs : Int) * (fxOne : Int) / fxLn2)
      let v := r.1 * 2 ^ r.2.toNat
      { neg := neg, n := v - fxOne, d := v + fxOne, e := 0 }
  | 8 =>
    let r := fxExp2 (-(x * (fxOne : Int) / fxLn2))
    let v := scale2 r.1 1 r.2
    { neg := false, n := fxOne * v.2, d := fxOne * v.2 + v.1, e := 0 }
  | _ =>
    if x < -(8 * (fxOne : Int)) then { neg := true, n := 0, d := 1, e := 0 }
    else if 8 * (fxOne : Int) < x then { neg := false, n := m, d := 1, e := e }
    else { neg := neg, n := m * (fxPhi x).toNat, d := fxOne, e := e }

/-- The bound of a function in ulp (Table 7 of ch.02). -/
def fnUlp (fn : Nat) : Nat :=
  match fn with
  | 0 => 1 | 1 => 2 | 2 => 1 | 3 => 2 | 4 => 2 | 5 => 3 | 6 => 2 | 7 => 4 | 8 => 4 | _ => 6

/-- The absolute bound of a function as a power of two, where it has one: log2 2^-22, GELU 2^-28. -/
def fnAbs (fn : Nat) : Option Int :=
  match fn with
  | 6 => some (-22)
  | 9 => some (-28)
  | _ => none

/-- The exponent of the binade that gives the ulp of a result: that of the exact value, -126 below the normal range. -/
def fnExp (a : Approx) : Int := if a.n = 0 then -126 else max (floorLog2 a.n a.d a.e) (-126)

/-- A value lies within the bound of a function from the computed exact value (R56): within its ulps, or within its absolute
bound where that is larger. The bounds are taken smaller by 2^-30 ulp and by 2^-18 of the absolute bound, which covers the
error of the computed value (notes/assumptions/30.md). -/
def fnNear (fn : Nat) (a : Approx) (r : Fp) : Bool :=
  match r with
  | .fin neg m e =>
    let h := min e a.e
    let diff := (fpInt neg (m * a.d) e h - fpInt a.neg a.n a.e h).natAbs
    !magGt diff a.d h (fnUlp fn * 2 ^ 30 - 1) (fnExp a - 23 - 30)
      || (match fnAbs fn with | some x => !magGt diff a.d h (2 ^ 18 - 1) (x - 18) | none => false)
  | _ => false

/-- An FP32 result within the bound (R56): the value moved by the free offset and rounded RN where that lies within the bound, the
correctly rounded value otherwise. A zero keeps the sign of the value (R41). -/
def fnBound (fn ca cb : Nat) (a : Approx) : Conv :=
  let g := fnExp a - 23 - 20
  let p := scale2 a.n a.d (a.e - g)
  let num : Int := (if a.neg then -(p.1 : Int) else p.1) + Config.fnOffset fn ca cb * p.2
  let moved := cvtFin fp32 false .rn (if num = 0 then a.neg else decide (num < 0)) num.natAbs p.2 g
  if fnNear fn a (fpDecode fp32 moved.code) then moved else cvtFin fp32 false .rn a.neg a.n a.d a.e

/-- A function result: the FP32 code, the flags, and whether a special-value rule gave it. -/
structure FnRes where
  code : Nat
  flags : Nat
  special : Bool
deriving DecidableEq, Repr

def fnInf (neg : Bool) (f : Nat := 0) : FnRes :=
  { code := (if neg then 0x80000000 else 0) + 0x7F800000, flags := f ||| fInfOut, special := true }
def fnNaN (f : Nat := 0) : FnRes := { code := 0x7FC00000, flags := f ||| fNanOut, special := true }
def fnZero (neg : Bool) : FnRes := { code := if neg then 0x80000000 else 0, flags := 0, special := true }
def fnConst (c : Nat) : FnRes := { code := c, flags := 0, special := true }

/-- A computed result: every finite one sets INEXACT (Table 4 of ch.04). -/
def fnFin (fn ca cb : Nat) (a : Approx) : FnRes :=
  let r := fnBound fn ca cb a
  let small := r.code % 0x80000000 < 0x800000
  { code := r.code, flags := r.flags ||| fInexact ||| (if small then fUnderflow else 0), special := false }

/-- Exact quotient of two finite non-zero values. -/
def divApprox (na : Bool) (ma : Nat) (ea : Int) (nb : Bool) (mb : Nat) (eb : Int) : Approx :=
  { neg := na != nb, n := ma, d := mb, e := ea - eb }

/-- Reciprocal and divide (fn 0 and 1): special values of IEEE 754-2019, DIVZERO for a finite non-zero value over zero. -/
def fnDiv (fn ca cb : Nat) (x y : Fp) : FnRes :=
  match x, y with
  | .nan, _ => fnNaN
  | _, .nan => fnNaN
  | .inf _, .inf _ => fnNaN fInvalid
  | .inf a, .fin b _ _ => fnInf (a != b)
  | .fin a _ _, .inf b => fnZero (a != b)
  | .fin a m e, .fin b n k =>
    if m = 0 ∧ n = 0 then fnNaN fInvalid
    else if n = 0 then fnInf (a != b) fDivZero
    else if m = 0 then fnZero (a != b)
    else fnFin fn ca cb (divApprox a m e b n k)

/-- One function of one operand (fn 2 to 9) with the special values of R56. IEEE 754-2019 has no GELU and Table 7 names no value
for its special operands: the model gives GELU(-Inf) = +0, GELU(+Inf) = +Inf, the limits, and GELU of either zero = +0 by R41
(DESIGN CHOICE, notes/assumptions/30.md). -/
def fnUnary (fn ca : Nat) (x : Fp) : FnRes :=
  match x with
  | .nan => fnNaN
  | .inf neg =>
    match fn with
    | 2 | 6 => if neg then fnNaN fInvalid else fnInf false
    | 3 => if neg then fnNaN fInvalid else fnZero false
    | 4 | 5 => if neg then fnZero false else fnInf false
    | 7 => fnConst (if neg then 0xBF800000 else 0x3F800000)
    | 8 => if neg then fnZero false else fnConst 0x3F800000
    | _ => if neg then fnZero false else fnInf false
  | .fin neg m e =>
    if m = 0 then
      match fn with
      | 2 => fnZero neg
      | 3 => if neg then fnInf true fDivZero else fnInf false
      | 4 | 5 => fnConst 0x3F800000
      | 6 => fnInf true fDivZero
      | 7 => fnZero neg
      | 8 => fnConst 0x3F000000
      | _ => fnZero false
    else if neg ∧ (fn = 2 ∨ fn = 3 ∨ fn = 6) then fnNaN fInvalid
    else if fn = 4 ∧ !neg ∧ !magGt 128 1 0 m e then { fnInf false (fOverflow ||| fInexact) with special := false }
    else if fn = 4 ∧ neg ∧ magGt m 1 e 150 0 then { code := 0, flags := fInexact ||| fUnderflow, special := false }
    else fnFin fn ca 0 (fnApprox fn neg m e)

/-- A function in a lane format (R56, R120): evaluated in FP32, then rounded once to a pair format. -/
def fnEval (fn : Nat) (f : FpFmt) (ca cb : Nat) (x y : Fp) : Conv :=
  let r := match fn with
    | 0 => fnDiv 0 ca 0 (.fin false 1 0) x
    | 1 => fnDiv 1 ca cb x y
    | _ => fnUnary fn ca x
  if f = fp32 then { code := r.code, flags := r.flags }
  else
    let z := cvtFp f false .rn (fpDecode fp32 r.code)
    let small := !r.special && decide (z.code % 2 ^ (f.eb + f.mb) < 2 ^ f.mb)
    { code := z.code, flags := z.flags ||| (r.flags &&& (fInexact ||| fOverflow ||| fInvalid ||| fDivZero))
        ||| (if small then fUnderflow else 0) }

end Sys2Proof.Machine
end

