-- ==== Sys2Proof/Machine/Vector.lean ====
section
/-! DEFINITION. The vector engine (ch.04, Table 18 of ch.05): the VX commands, their operands, loops, checks and registers. -/

namespace Sys2Proof.Machine

/-! ### Lane formats and registers (R103, R156) -/

/-- Elements of a register in a lane format (R558): pairs 1,024, INT64 256, the others 512. -/
def lfElems (lf : Nat) : Nat := if lf = 1 ∨ lf = 2 then 1024 else if lf = 4 then 256 else 512

/-- The floating format of a lane format; none for the integer ones. -/
def lfFmt (lf : Nat) : Option FpFmt :=
  match lf with
  | 0 => some fp32
  | 1 => some bf16
  | 2 => some fp16
  | 5 => some e4m3
  | 6 => some e5m2
  | _ => none

/-- Bits of an integer lane format. -/
def lfWidth (lf : Nat) : Nat := if lf = 4 then 64 else 32

/-- A lane word of register v. -/
def CoreSt.lane (x : CoreSt) (v l : Nat) : BitVec 32 := mapGet 0 x.vx.regs (512 * v + l)

/-- A lane word replaced. -/
def CoreSt.setLane (x : CoreSt) (v l : Nat) (w : BitVec 32) : CoreSt :=
  { x with vx := { x.vx with regs := mapSet 0 x.vx.regs (512 * v + l) w } }

/-- Element i of register v, as a code in the lane format. -/
def CoreSt.elem (x : CoreSt) (v lf i : Nat) : Nat :=
  match lf with
  | 1 | 2 => (x.lane v (i / 2)).toNat / 2 ^ (16 * (i % 2)) % 2 ^ 16
  | 4 => (x.lane v (2 * i)).toNat + 2 ^ 32 * (x.lane v (2 * i + 1)).toNat
  | 5 | 6 => (x.lane v i).toNat % 256
  | _ => (x.lane v i).toNat

/-- Element i of register v replaced. -/
def CoreSt.setElem (x : CoreSt) (v lf i code : Nat) : CoreSt :=
  match lf with
  | 1 | 2 => x.setLane v (i / 2) (putBits (x.lane v (i / 2)) (16 * (i % 2) + 15) (16 * (i % 2)) code)
  | 4 => (x.setLane v (2 * i) (BitVec.ofNat 32 code)).setLane v (2 * i + 1) (BitVec.ofNat 32 (code / 2 ^ 32))
  | 5 | 6 => x.setLane v i (BitVec.ofNat 32 (code % 256))
  | _ => x.setLane v i (BitVec.ofNat 32 code)

/-- Codes written to elements from `i0` up. -/
def CoreSt.setElems (x : CoreSt) (v lf i0 : Nat) (codes : List Nat) : CoreSt :=
  (codes.zipIdx).foldl (fun x p => x.setElem v lf (i0 + p.2) p.1) x

def Work.core (w : Work) : CoreSt := w.s.core w.d w.c

def Work.modCore (w : Work) (f : CoreSt → CoreSt) : Work := { w with s := w.s.modCore w.d w.c f }

/-- The value of an element code in a lane format. -/
def lfVal (lf code : Nat) : Fp :=
  match lfFmt lf with
  | some f => fpDecode f code
  | none => fpOfInt (signed (lfWidth lf) code)

/-! ### Descriptors and chunks (R108, R109) -/

/-- A latched descriptor and its fields. -/
def CoreSt.latched (x : CoreSt) (dx : Nat) : Option (Latched × Desc) :=
  match mapGet none x.vx.latched dx with
  | some l => (descOf l.desc).map (fun d => (l, d))
  | none => none

def isPow2 (n : Nat) : Bool := n != 0 && n == 2 ^ n.log2

/-- Short rows packed into chunks (R109). -/
def descPacked (d : Desc) (size : Nat) : Bool :=
  d.pack && isPow2 d.e0 && decide (d.e0 ≤ size / 2) && d.s1 * 8 == d.e0 * elemBits d.elem

/-- Chunks of a descriptor for chunks of `size` elements (R109, R112). -/
def descChunks (d : Desc) (size : Nat) : Nat :=
  if descPacked d size then ceilDiv (descRows d) (size / d.e0) else descRows d * ceilDiv d.e0 size

/-- The parts of rows that chunk j holds: row, first element, elements (R109). -/
def chunkSegs (d : Desc) (size j : Nat) : List (Nat × Nat × Nat) :=
  if descPacked d size then
    let rp := size / d.e0
    (List.range (min rp (descRows d - j * rp))).map (fun i => (j * rp + i, 0, d.e0))
  else
    let per := ceilDiv d.e0 size
    let k := j % per
    [(j / per, k * size, min size (d.e0 - k * size))]

/-- Valid elements of a chunk. -/
def segsCount (segs : List (Nat × Nat × Nat)) : Nat := segs.foldl (fun a p => a + p.2.2) 0

/-- Chunk size of the natural format of a descriptor (R112). -/
def naturalSize (d : Desc) : Nat :=
  match d.elem with
  | .fp f => if f = fp32 then 512 else 1024
  | .int w => if w = 64 then 256 else 512
  | _ => 512

/-- The lane format VX.LD gives a register (R111). -/
def ldFormat (e : Elem) (widen toPair : Bool) : Nat :=
  match e with
  | .fp f => if f = fp32 ∨ widen then 0 else if f = bf16 then 1 else 2
  | .fp8 _ => if toPair then 1 else 0
  | .mx _ => if toPair then 1 else 0
  | .int w => if w = 64 then 4 else 3
  | .w96 => 0

/-- The handle fields a latched descriptor carries for the TOKEN check (R144). -/
def latchedUse (l : Latched) : Option (Nat × Nat × Nat) :=
  l.handle.map (fun h => (handleTile h, handleCount h, handleToken h))

/-- Codes and values of elements k0 .. k0+n-1 of row r of a descriptor, tiles verified. -/
def Work.descElems (w : Work) (l : Latched) (d : Desc) (r k0 n : Nat) : List (Nat × Elt) × Work :=
  let w := { w with use := latchedUse l }
  let b := elemBits d.elem
  let lo := k0 * b
  let p := w.read (descRow d r + lo / 8) (((k0 + n) * b + 7) / 8 - lo / 8)
  let z := ofBytes p.1 >>> (lo % 8)
  let sc := match d.elem with
    | .mx _ => p.2.read (d.scale + r * scaleCount d.e0 + k0 / 32) ((k0 + n + 31) / 32 - k0 / 32)
    | _ => ([], p.2)
  ((List.range n).map (fun i =>
    let code := (z >>> (b * i)) % 2 ^ b
    let s := match d.elem with
      | .mx _ => ((sc.1[(k0 + i) / 32 - k0 / 32]?).getD 0).toNat
      | _ => d.scale
    (code, (elemVal d.elem s code, match d.elem with | .mx _ => s == 0xFF | _ => false))), sc.2)

/-! ### Active lanes (R110, R113) -/

/-- The innermost open loop. -/
def CoreSt.frame (x : CoreSt) : Option LoopFrame := x.vx.loops.head?

/-- The driving descriptor and its current chunk, where the innermost loop has one. -/
def CoreSt.driver (x : CoreSt) : Option (Desc × List (Nat × Nat × Nat) × Nat) :=
  match x.frame with
  | some f => match f.drv with
    | some dx => (x.latched dx.val).map (fun p => (p.2, chunkSegs p.2 f.csize f.chunk, f.csize))
    | none => none
  | none => none

/-- Active elements of a lane format: all outside a driven loop, else those in the valid lanes of the driving descriptor's
chunk. They are always the first ones. -/
def CoreSt.active (x : CoreSt) (lf : Nat) : Nat :=
  match x.driver with
  | none => lfElems lf
  | some (_, segs, size) =>
    let n := segsCount segs
    if lfElems lf = size then n
    else
      let lanes := if size = 1024 then ceilDiv n 2 else if size = 256 then 2 * n else n
      if lfElems lf = 1024 then 2 * lanes else if lfElems lf = 256 then lanes / 2 else lanes

/-! ### Operands (R115) -/

/-- Row and position of the i-th valid element of a chunk. -/
def segAt (segs : List (Nat × Nat × Nat)) (i : Nat) : Nat × Nat :=
  match segs with
  | [] => (0, 0)
  | (r, k, n) :: rest => if i < n then (r, k + i) else segAt rest (i - n)

/-- The code of element i of the scalar IMM (R115). -/
def immCode (lf imm i : Nat) : Nat :=
  match lf with
  | 1 | 2 => imm / 2 ^ (16 * (i % 2)) % 2 ^ 16
  | 4 => unsigned 64 (signed 32 imm)
  | _ => imm

/-- The code in a lane format of an element of a broadcast descriptor: its own code in the same format, else converted RN. -/
def bcastCode (lf : Nat) (e : Elem) (code : Nat) (v : Fp) : Conv :=
  match lfFmt lf with
  | some f => if e = .fp f then { code := code, flags := 0 } else cvtFp f false .rn (plusZero v)
  | none => if e = .int (lfWidth lf) then { code := code, flags := 0 } else cvtInt (lfWidth lf) .rn v

/-- The first n elements of a source operand, as codes of the lane format (R115, R116). -/
def Work.operand (w : Work) (sel lf imm n : Nat) : List Nat × Work :=
  let kind := sel / 32 % 4
  let reg := sel % 32
  let x := w.core
  match kind with
  | 0 => if 16 ≤ reg then ([], w.stop (.status 0x01)) else ((List.range n).map (fun i => x.elem reg lf i), w)
  | 1 => ((List.range n).map (immCode lf imm), w)
  | _ =>
    match x.latched reg, x.driver with
    | some (l, d), some (drv, segs, _) =>
      let want := if kind = 2 then drv.e0 else descRows drv
      if descRows d ≠ 1 ∨ d.e0 ≠ want then ([], w.stop (.status 0x03))
      else
        w.mapRows n (fun i w =>
          let at' := segAt segs i
          let p := w.descElems l d 0 (if kind = 2 then at'.2 else at'.1) 1
          let e := (p.1[0]?).getD (0, (.fin false 0 0, false))
          let c := bcastCode lf d.elem e.1 e.2.1
          (c.code, p.2.orF (c.flags ||| (if e.2.2 then fScaleNan else 0))))
    | _, _ => ([], w.stop (.status 0x01))

/-! ### The end of a vector command's row -/

/-- Work of a vector command: in a loop it starts from the tiles in the buffers and sees what the loop has gathered. -/
def vxWork (s : State) (d c : Nat) (r : Run) : Work :=
  let x := s.core d c
  { mkWork s d c r with use := none, seen := if x.vx.loops.isEmpty then [] else x.vx.buf,
                        gath := x.q1.run.flatMap Run.gath }

/-- The two tiles used last stay in the buffers while a loop is open (R125). -/
def Work.keepBuf (w : Work) : Work :=
  w.modCore (fun x => if x.vx.loops.isEmpty then x else { x with vx := { x.vx with buf := w.seen.take 2 } })

/-- The work of a command that gathers no output. -/
def Work.doneVx (w : Work) (r : Run) : State := { w.keepBuf with gath := r.gath }.endVx r.num

/-- Lanes that n elements of a lane format fill (R103): a lane holds two elements of a pair format and half one of INT64. -/
def lfLanes (lf n : Nat) : Nat := if lf = 1 ∨ lf = 2 then ceilDiv n 2 else if lf = 4 then 2 * n else n

/-- Active-lane operations counted (R127): one for each active lane of an ALU, FN or SHUF command, and for each lane of input of
VX.RED; a VX.CVT counts the lanes of the wider side (DESIGN CHOICE, notes/assumptions/92.md). -/
def Work.laneOps (w : Work) (n : Nat) : Work :=
  w.modCore (fun x => { x with vx := { x.vx with laneOps := x.vx.laneOps + BitVec.ofNat 64 n } })

/-! ### VX.DSET, VX.LD, VX.ST -/

/-- The bytes from BASE that a descriptor reaches (R144). -/
def descSpan (d : Desc) : Nat :=
  (d.e1 - 1) * d.s1 + (d.e2 - 1) * d.s2 + (d.e3 - 1) * d.s3 + rowBytes d.elem d.e0

/-- The effect of VX.DSET: the descriptor latched, its cursor at chunk 0 (R108). -/
def dsetEffect (d c : Nat) (s : State) (r : Run) : State :=
  let dx := bits r.word 95 91
  let v := descClean (mapGet 0 (s.core d c).vx.table dx)
  let use := if cmdUse r.word then r.popped else none
  let v1 := match use with | some h => descRebase v (4096 * handleTile h) | none => v
  match descOf v1 with
  | none => s.failRun d c 1 r.num stDesc
  | some ds =>
    if (match use with | some h => decide (4096 * handleCount h < descSpan ds) | none => false) then
      s.failRun d c 1 r.num stTqShort
    else s.modCore d c (fun x => { x with vx := { x.vx with
      latched := mapSet none x.vx.latched dx (some { desc := v1, chunk := 0, handle := use }) } })

/-- VX_DSET (R108). -/
def execVxDset (d : Fin 16) (c : Fin 32) (s : State) : Host.Outcome State Fault Refusal :=
  .next (s.rowOp d c 1 0x20 (dsetEffect d c))

/-- The cursor of a latched descriptor moves on by one chunk (R113). -/
def CoreSt.bumpCursor (x : CoreSt) (dx : Nat) : CoreSt :=
  match mapGet none x.vx.latched dx with
  | some l => { x with vx := { x.vx with latched := mapSet none x.vx.latched dx (some { l with chunk := l.chunk + 1 }) } }
  | none => x

/-- One element loaded: its bits where the register format is the source's own, else its value widened, BF16 pairs rounded
RN (R111). -/
def ldCode (lf : Nat) (e : Elem) (code : Nat) (v : Fp) : Conv :=
  match e with
  | .int w => { code := unsigned (lfWidth lf) (signed w code), flags := 0 }
  | _ => bcastCode lf e code v

/-- The effect of VX.LD (R111, R113). -/
def ldEffect (d c : Nat) (s : State) (r : Run) : State :=
  let dx := bits r.word 95 91
  let vd := bits r.word 90 87
  let x := s.core d c
  match x.latched dx with
  | none => s.failRun d c 1 r.num stDesc
  | some (l, ds) =>
    let lf := ldFormat ds.elem (bit r.word 86) (bit r.word 85)
    let size := lfElems lf
    if descChunks ds size ≤ l.chunk then s.failRun d c 1 r.num stVxRange
    else
      let segs := chunkSegs ds size l.chunk
      let w0 := vxWork s d c r
      let p := segs.foldl (fun (p : List (Nat × Elt) × Work) g =>
        let q := p.2.descElems l ds g.1 g.2.1 g.2.2; (p.1 ++ q.1, q.2)) ([], w0)
      let n := min (segsCount segs) (x.active lf)
      let cs := (p.1.take n).map (fun e => (ldCode lf ds.elem e.1 e.2.1, e.2.2))
      let fl := cs.foldl (fun f e => f ||| e.1.flags ||| (if e.2 then fScaleNan else 0)) 0
      let w1 := if p.2.fail.isSome then p.2
        else (p.2.orF fl).modCore (fun x => (x.setElems vd lf 0 (cs.map (fun e => e.1.code))).bumpCursor dx)
      w1.doneVx r

/-- VX_LD (R111). -/
def execVxLd (d : Fin 16) (c : Fin 32) (s : State) : Host.Outcome State Fault Refusal :=
  .next (s.rowOp d c 1 0x21 (ldEffect d c))

/-- A result on its way to a format: in its own format it is copied, and a zero keeps its sign; a conversion gives a zero as +0
(R41; DESIGN CHOICE, notes/assumptions/93.md: the spec does not say whether a store to the same format is a conversion). -/
def storeZero (lf : Nat) (e : Elem) (v : Fp) : Fp :=
  match lfFmt lf with
  | some f => if e = .fp f then v else plusZero v
  | none => plusZero v

/-- Values with their roundings stored to elements k0 .. of row `row` of a descriptor: converted once, gathered (R111, R48,
R53). -/
def Work.storeSeg (w : Work) (ds : Desc) (sat : Bool) (row k0 : Nat) (xs : List (Fp × Rnd)) : Work :=
  let z := cvtRow ds.elem sat ds.scale xs
  ((w.orF z.2.2).write ds.fmt (descRow ds row + k0 * elemBits ds.elem / 8) z.1).write 0x1000
    (ds.scale + row * scaleCount ds.e0 + k0 / 32) z.2.1

/-- Gathered tiles that are whole are written at once; the rest waits for the command's end (R125). -/
def Work.flushFull (w : Work) : Work :=
  let full := w.gath.filter (fun g => decide (4096 ≤ g.2.2.length))
  let rest := w.gath.filter (fun g => !decide (4096 ≤ g.2.2.length))
  { full.foldl Work.flushTile w with gath := rest }

/-- The effect of VX.ST (R111, R113). Outside every loop the active lanes are the valid elements of its own chunk (R110; DEDUCED,
log 85), so that VX_SHAPE can arise in a loop's body only. -/
def stEffect (d c : Nat) (s : State) (r : Run) : State :=
  let dx := bits r.word 95 91
  let vs := bits r.word 90 87
  let lf := bits r.word 86 84
  let x := s.core d c
  match x.latched dx with
  | none => s.failRun d c 1 r.num stDesc
  | some (l, ds) =>
    let size := lfElems lf
    if 4 < lf ∨ bits r.word 82 81 = 3 then s.failRun d c 1 r.num stDesc
    else if descChunks ds size ≤ l.chunk then s.failRun d c 1 r.num stVxRange
    else
      let segs := chunkSegs ds size l.chunk
      if x.frame.isSome ∧ segsCount segs ≠ x.active lf then s.failRun d c 1 r.num stVxShape
      else
        let sat := satOf (s.obj 0x7040 3 == 1) ds.elem (bits r.word 82 81)
        let w0 : Work := { vxWork s d c r with gath := r.gath }
        let p := segs.foldl (fun (p : Nat × Work) g =>
          let xs := p.2.mapRows g.2.2 (fun i w =>
            let q := w.draw (bit r.word 83) 16
            ((storeZero lf ds.elem (lfVal lf (x.elem vs lf (p.1 + i))), q.1), q.2))
          (p.1 + g.2.2, xs.2.storeSeg ds sat g.1 g.2.1 xs.1)) (0, w0)
        let w1 := p.2.modCore (fun x => x.bumpCursor dx)
        (if x.vx.loops.isEmpty then w1.flush else w1.flushFull).endVx r.num

/-- VX_ST (R111). -/
def execVxSt (d : Fin 16) (c : Fin 32) (s : State) : Host.Outcome State Fault Refusal :=
  .next (s.rowOp d c 1 0x22 (stEffect d c))

/-! ### VX.OP (R156) -/

/-- An integer result wrapped to w bits; INT_OVF where it wraps. -/
def wrapInt (w : Nat) (z : Int) : Conv :=
  { code := unsigned w z, flags := if signed w (unsigned w z) = z then 0 else fIntOvf }

/-- All ones or zero in w bits. -/
def maskOf (w : Nat) (b : Bool) : Nat := if b then 2 ^ w - 1 else 0

/-- An ALU operation on integer elements of w bits (R156). -/
def intOp (w op a b c : Nat) : Conv :=
  let x := signed w a
  let y := signed w b
  let n := b % w
  match op with
  | 0x00 => wrapInt w (x + y)
  | 0x01 => wrapInt w (x - y)
  | 0x02 => wrapInt w (x * y)
  | 0x03 => wrapInt w (x * y + signed w c)
  | 0x04 => { code := unsigned w (min x y), flags := 0 }
  | 0x05 => { code := unsigned w (max x y), flags := 0 }
  | 0x06 => wrapInt w x.natAbs
  | 0x07 => wrapInt w (-x)
  | 0x08 => { code := maskOf w (x == y), flags := 0 }
  | 0x09 => { code := maskOf w (decide (x < y)), flags := 0 }
  | 0x0A => { code := maskOf w (decide (x ≤ y)), flags := 0 }
  | 0x0B => { code := if c ≠ 0 then a else b, flags := 0 }
  | 0x10 => { code := a &&& b, flags := 0 }
  | 0x11 => { code := a ||| b, flags := 0 }
  | 0x12 => { code := a ^^^ b, flags := 0 }
  | 0x13 => { code := a * 2 ^ n % 2 ^ w, flags := 0 }
  | 0x14 => { code := a / 2 ^ n, flags := 0 }
  | _ => { code := unsigned w (x / 2 ^ n), flags := 0 }

/-- A floating result rounded RN to the lane format, INVALID where the operation was. -/
def fpResult (f : FpFmt) (r : Fp × Bool) : Conv :=
  let c := cvtFp f false .rn r.1
  { c with flags := c.flags ||| (if r.2 then fInvalid else 0) }

/-- ABS or NEG: the sign bit alone, NaN canonical (R156). -/
def signOp (f : FpFmt) (neg : Bool) (a : Nat) : Conv :=
  match fpDecode f a with
  | .nan => { code := canonNaN f, flags := fNanOut }
  | v =>
    let m := a % 2 ^ (f.eb + f.mb)
    let s := if neg then signBit f (!a.testBit (f.eb + f.mb)) else 0
    { code := s + m, flags := match v with | .inf _ => fInfOut | _ => 0 }

/-- An ALU operation on floating elements (R156). -/
def floatOp (f : FpFmt) (op a b c : Nat) : Conv :=
  let w := 1 + f.eb + f.mb
  let x := fpDecode f a
  let y := fpDecode f b
  match op with
  | 0x00 => fpResult f (fpAdd x y)
  | 0x01 => fpResult f (fpAdd x (fpNeg y))
  | 0x02 => fpResult f (fpMul x y)
  | 0x03 => let p := fpMul x y; let q := fpAdd p.1 (fpDecode f c); fpResult f (q.1, p.2 || q.2)
  | 0x04 => fpResult f (fpMinMax false x y, false)
  | 0x05 => fpResult f (fpMinMax true x y, false)
  | 0x06 => signOp f false a
  | 0x07 => signOp f true a
  | 0x08 => { code := maskOf w (fpEq x y), flags := 0 }
  | 0x09 => { code := maskOf w (fpLt x y), flags := 0 }
  | 0x0A => { code := maskOf w (fpLt x y || fpEq x y), flags := 0 }
  | _ => { code := if c ≠ 0 then a else b, flags := 0 }

/-- The OP codes of a lane format (R156). -/
def opCodeOk (lf op : Nat) : Bool :=
  decide (op ≤ 0x0B) || (decide (0x10 ≤ op) && decide (op ≤ 0x15) && (lf == 3 || lf == 4))

/-- An operation has a third operand. -/
def opUsesC (op : Nat) : Bool := op == 0x03 || op == 0x0B
/-- An operation has a second operand. -/
def opUsesB (op : Nat) : Bool := op != 0x06 && op != 0x07

/-- One operation in a lane format. -/
def laneOp (lf op a b c : Nat) : Conv :=
  match lfFmt lf with
  | some f => floatOp f op a b c
  | none => intOp (lfWidth lf) op a b c

/-- The effect of VX.OP (R156). -/
def opEffect (d c : Nat) (s : State) (r : Run) : State :=
  let lf := bits r.word 64 62
  let op := bits r.word 70 65
  let imm := bits r.word 31 0
  let x := s.core d c
  if 4 < lf then s.failRun d c 1 r.num stDesc
  else if !opCodeOk lf op then s.failRun d c 1 r.num stOpcode
  else
    let n := x.active lf
    let a := (vxWork s d c r).operand (bits r.word 91 85) lf imm n
    let b := if opUsesB op then a.2.operand (bits r.word 84 78) lf imm n else ([], a.2)
    let cc := if opUsesC op then b.2.operand (bits r.word 77 71) lf imm n else ([], b.2)
    let w := cc.2
    let rs := (List.range n).map (fun i => laneOp lf op ((a.1[i]?).getD 0) ((b.1[i]?).getD 0) ((cc.1[i]?).getD 0))
    let w1 := if w.fail.isSome then w
      else ((w.orF (rs.foldl (fun f e => f ||| e.flags) 0)).modCore
        (fun x => x.setElems (bits r.word 95 92) lf 0 (rs.map Conv.code))).laneOps (lfLanes lf n)
    w1.doneVx r

/-- VX_OP (R156). -/
def execVxOp (d : Fin 16) (c : Fin 32) (s : State) : Host.Outcome State Fault Refusal :=
  .next (s.rowOp d c 1 0x23 (opEffect d c))

/-! ### VX.CVT (R121, R156, R558) -/

/-- One element converted: s·q from LF 5 and 6, x / s to them (R48, R156). -/
def cvtLane (srcF dstF imm code : Nat) (sat : Bool) (rnd : Rnd) : Conv :=
  let v0 := lfVal srcF code
  let s := fpDecode fp32 imm
  let v := if srcF = 5 ∨ srcF = 6 then (fpMul v0 s).1 else v0
  match lfFmt dstF with
  | some f => if dstF = 5 ∨ dstF = 6 then cvtFp f sat rnd (plusZero v) s
              else cvtFp f sat rnd (if srcF = dstF then v else plusZero v)
  | none => cvtInt (lfWidth dstF) rnd v

/-- A lane format VX.CVT converts from or to (Table 5 of ch.04). -/
def cvtFormatOk (lf : Nat) : Bool := decide (lf ≤ 6) && lf != 4

/-- The effect of VX.CVT (R558). -/
def cvtEffect (d c : Nat) (s : State) (r : Run) : State :=
  let srcF := bits r.word 87 85
  let dstF := bits r.word 84 82
  let sel := bits r.word 80 79
  let half := bits r.word 78 78
  let imm := bits r.word 31 0
  let vs := bits r.word 91 88
  let x := s.core d c
  let scaled := srcF = 5 ∨ srcF = 6 ∨ dstF = 5 ∨ dstF = 6
  if !cvtFormatOk srcF || !cvtFormatOk dstF || sel == 3 || (scaled && !scaleOk imm) then s.failRun d c 1 r.num stDesc
  else
    let ns := lfElems srcF
    let nd := lfElems dstF
    let s0 := if nd < ns then 512 * half else 0
    let d0 := if ns < nd then 512 * half else 0
    let n := min (min ns nd) (x.active srcF - s0)
    let sat := satOf (s.obj 0x7040 3 == 1) (if dstF = 5 ∨ dstF = 6 then .fp8 e4m3 else .fp fp32) sel
    let p := (vxWork s d c r).mapRows n (fun i w =>
      let q := w.draw (bit r.word 81) 16
      (cvtLane srcF dstF imm (x.elem vs srcF (s0 + i)) sat q.1, q.2))
    let w := ((p.2.orF (p.1.foldl (fun f e => f ||| e.flags) 0)).modCore
      (fun x => x.setElems (bits r.word 95 92) dstF d0 (p.1.map Conv.code))).laneOps (max (lfLanes srcF n) (lfLanes dstF n))
    w.doneVx r

/-- VX_CVT (R558). -/
def execVxCvt (d : Fin 16) (c : Fin 32) (s : State) : Host.Outcome State Fault Refusal :=
  .next (s.rowOp d c 1 0x24 (cvtEffect d c))

/-! ### VX.FN (R120) -/

/-- The effect of VX.FN. -/
def fnEffect (d c : Nat) (s : State) (r : Run) : State :=
  let lf := bits r.word 73 71
  let fn := bits r.word 77 74
  let imm := bits r.word 31 0
  let x := s.core d c
  if 2 < lf ∨ 9 < fn then s.failRun d c 1 r.num stDesc
  else
    let f := (lfFmt lf).getD fp32
    let n := x.active lf
    let a := (vxWork s d c r).operand (bits r.word 91 85) lf imm n
    let b := if fn = 1 then a.2.operand (bits r.word 84 78) lf imm n else ([], a.2)
    let rs := (List.range n).map (fun i =>
      let ca := (a.1[i]?).getD 0
      let cb := (b.1[i]?).getD 0
      fnEval fn f ca cb (fpDecode f ca) (fpDecode f cb))
    let w1 := if b.2.fail.isSome then b.2
      else ((b.2.orF (rs.foldl (fun f e => f ||| e.flags) 0)).modCore
        (fun x => x.setElems (bits r.word 95 92) lf 0 (rs.map Conv.code))).laneOps (lfLanes lf n)
    w1.doneVx r

/-- VX_FN (R120). -/
def execVxFn (d : Fin 16) (c : Fin 32) (s : State) : Host.Outcome State Fault Refusal :=
  .next (s.rowOp d c 1 0x25 (fnEffect d c))

/-! ### VX.SHUF, VX.SPLAT, VX.SRED (R117) -/

/-- Lane words of a register. -/
def CoreSt.lanes (x : CoreSt) (v : Nat) : List (BitVec 32) := (List.range 512).map (x.lane v)

/-- The effect of a lane permutation: active lane l takes lane `src l` of the source. -/
def permEffect (d c : Nat) (s : State) (r : Run) (vd vs : Nat) (src : Nat → Nat) : State :=
  let x := s.core d c
  let n := x.active 3
  let words := (List.range n).map (fun l => (x.lane vs (src l)).toNat)
  (((vxWork s d c r).modCore (fun x => x.setElems vd 3 0 words)).laneOps n).doneVx r

/-- The effect of VX.SHUF: butterfly at distance 2^j, or rotation by a lane count whose direction is free
(Config.rotateUp). -/
def shufEffect (d c : Nat) (s : State) (r : Run) : State :=
  let pat := bits r.word 87 86
  let j := bits r.word 85 76
  if 4 < bits r.word 75 73 ∨ 1 < pat ∨ (pat = 0 ∧ 8 < j) then s.failRun d c 1 r.num stDesc
  else permEffect d c s r (bits r.word 95 92) (bits r.word 91 88)
    (fun l => if pat = 0 then l ^^^ 2 ^ j else if Config.rotateUp then (l + 1024 - j) % 512 else (l + j) % 512)

/-- VX_SHUF (R117). -/
def execVxShuf (d : Fin 16) (c : Fin 32) (s : State) : Host.Outcome State Fault Refusal :=
  .next (s.rowOp d c 1 0x26 (shufEffect d c))

/-- The effect of VX.SPLAT: within every group of 2^j lanes, all take the lane of that place; j = 9 is every lane. -/
def splatEffect (d c : Nat) (s : State) (r : Run) : State :=
  let j := bits r.word 78 75
  let lane := bits r.word 87 79
  if j = 0 ∨ 9 < j then s.failRun d c 1 r.num stDesc
  else permEffect d c s r (bits r.word 95 92) (bits r.word 91 88) (fun l => l / 2 ^ j * 2 ^ j + lane % 2 ^ j)

/-- VX_SPLAT (R117). -/
def execVxSplat (d : Fin 16) (c : Fin 32) (s : State) : Host.Outcome State Fault Refusal :=
  .next (s.rowOp d c 1 0x27 (splatEffect d c))

/-- One reduction step of two elements in FP32, INT32 or INT64 (R117): SUM, MAX or MIN. -/
def redOp (lf op a b : Nat) : Conv :=
  match op with
  | 0 => laneOp lf 0x00 a b 0
  | 1 => laneOp lf 0x05 a b 0
  | _ => laneOp lf 0x04 a b 0

/-- Two optional elements reduced: an inactive one leaves the other as it is. -/
def redPair (lf op : Nat) (a b : Option Nat × Nat) : Option Nat × Nat :=
  match a.1, b.1 with
  | some x, some y => let r := redOp lf op x y; (some r.code, a.2 ||| b.2 ||| r.flags)
  | some x, none => (some x, a.2 ||| b.2)
  | none, _ => (b.1, a.2 ||| b.2)

/-- Butterfly steps at distances w/2, w/4, ..., 1 over elements; the result of a group stands in its lowest element. -/
def butterfly (lf op : Nat) : Nat → List (Option Nat × Nat) → List (Option Nat × Nat)
  | 0, xs => xs
  | n + 1, xs =>
    let dist := 2 ^ n
    let ys := (xs.zipIdx).map (fun p =>
      if p.2 / dist % 2 = 0 then redPair lf op p.1 ((xs[p.2 + dist]?).getD (none, 0)) else p.1)
    butterfly lf op n ys

/-- The effect of VX.SRED: every group of 2^j lanes reduced into its lowest lane. -/
def sredEffect (d c : Nat) (s : State) (r : Run) : State :=
  let j := bits r.word 87 84
  let op := bits r.word 83 82
  let lf := bits r.word 81 79
  let vd := bits r.word 95 92
  let vs := bits r.word 91 88
  let x := s.core d c
  if j = 0 ∨ 9 < j ∨ op = 3 ∨ (lf ≠ 0 ∧ lf ≠ 3 ∧ lf ≠ 4) then s.failRun d c 1 r.num stDesc
  else
    let n := x.active lf
    -- an INT64 element takes two lanes, so a group of 2^j lanes holds 2^(j-1) of them
    let k := if lf = 4 then j - 1 else j
    let xs := (List.range (lfElems lf)).map (fun i => (if i < n then some (x.elem vs lf i) else none, 0))
    let ys := butterfly lf op k xs
    let heads := (List.range (lfElems lf / 2 ^ k)).map (fun g => 2 ^ k * g)
    let w := heads.foldl (fun (w : Work) i =>
      match (ys[i]?).getD (none, 0) with
      | (some v, f) => if i < n then (w.orF f).modCore (fun x => x.setElem vd lf i v) else w
      | (none, _) => w) (vxWork s d c r)
    (w.laneOps (lfLanes lf n)).doneVx r

/-- VX_SRED (R117). -/
def execVxSred (d : Fin 16) (c : Fin 32) (s : State) : Host.Outcome State Fault Refusal :=
  .next (s.rowOp d c 1 0x28 (sredEffect d c))

/-! ### VX.RED (R118) -/

/-- ⌈log2 n⌉. -/
def clog2 (n : Nat) : Nat := if n ≤ 1 then 0 else (n - 1).log2 + 1

/-- Lane by lane, a row's chunks of 512 combined in increasing order (R118 step 2). -/
def redChunks (lf op : Nat) : Nat → List (Option Nat × Nat) → List (Option Nat × Nat) → List (Option Nat × Nat)
  | 0, acc, _ => acc
  | n + 1, acc, rest =>
    if rest.isEmpty then acc
    else
      let ch := rest.take 512
      redChunks lf op n ((acc.zipIdx).map (fun p => redPair lf op p.1 ((ch[p.2]?).getD (none, 0)))) (rest.drop 512)

/-- A row reduced in the fixed order of R118: its code in FP32, INT32 or INT64, and the flags. -/
def redRow (lf op : Nat) (xs : List Nat) : Nat × Nat :=
  let es : List (Option Nat × Nat) := xs.map (fun c => (some c, 0))
  let lanes := redChunks lf op (es.length + 1) (es.take 512) (es.drop 512)
  match (butterfly lf op (clog2 (min xs.length 512)) lanes).head? with
  | some (some v, f) => (v, f)
  | _ => (0, 0)

/-- The effect of VX.RED. An output descriptor that is not one-dimensional with one element per row is a shape error, VX_SHAPE: the
spec names no status for it (DESIGN CHOICE, notes/assumptions/94.md). A zero sum has the sign that IEEE 754-2019 gives its
additions (R41); the final conversion keeps it where the output format is FP32 (notes/assumptions/93.md). -/
def redEffect (d c : Nat) (s : State) (r : Run) : State :=
  let op := bits r.word 85 84
  let x := s.core d c
  match x.latched (bits r.word 95 91), x.latched (bits r.word 90 86) with
  | some (_, od), some (l, ds) =>
    if op = 3 ∨ bits r.word 82 81 = 3 then s.failRun d c 1 r.num stDesc
    else if descRows od ≠ 1 ∨ od.e0 ≠ descRows ds then s.failRun d c 1 r.num stVxShape
    else
      let lf := match ds.elem with | .int w => if w = 64 then 4 else 3 | _ => 0
      let sat := satOf (s.obj 0x7040 3 == 1) od.elem (bits r.word 82 81)
      let p := (vxWork s d c r).mapRows (descRows ds) (fun row w =>
        if w.fail.isSome then ((Fp.fin false 0 0, Rnd.rn), w)
        else
          let q := w.descElems l ds row 0 ds.e0
          let cs := q.1.map (fun e => (ldCode lf ds.elem e.1 e.2.1, e.2.2))
          let fl := cs.foldl (fun f e => f ||| e.1.flags ||| (if e.2 then fScaleNan else 0)) 0
          let z := redRow lf op (cs.map (fun e => e.1.code))
          let g := (q.2.orF (fl ||| z.2)).draw (bit r.word 83) 16
          ((storeZero lf od.elem (lfVal lf z.1), g.1), g.2))
      let w1 := if p.2.fail.isSome then p.2
        else ({ p.2 with gath := r.gath }.storeSeg od sat 0 0 p.1).laneOps (descRows ds * lfLanes lf ds.e0)
      if w1.fail.isSome then { w1 with gath := r.gath }.endVx r.num
      else (if x.vx.loops.isEmpty then w1.flush else w1.flushFull).keepBuf.endVx r.num
  | _, _ => s.failRun d c 1 r.num stDesc

/-- VX_RED (R118). -/
def execVxRed (d : Fin 16) (c : Fin 32) (s : State) : Host.Outcome State Fault Refusal :=
  .next (s.rowOp d c 1 0x29 (redEffect d c))

/-! ### VX.LOOP (R112) -/

def loopB (w : BitVec 128) : Nat := bits w 95 92 + 1
def loopChunks (w : BitVec 128) : Bool := bit w 91
def loopDesc (w : BitVec 128) : Nat := bits w 90 86
def loopCount (w : BitVec 128) : Nat := bits w 85 70

/-- The nesting rule of R112 for a body of `n` commands left with `lvl` levels still allowed: every inner loop ends within its
outer one, and none stands at a third level. -/
def nestOk : Nat → Nat → List (BitVec 128) → Bool
  | 0, _, _ => true
  | _ + 1, _, [] => true
  | fuel + 1, inner, w :: ws =>
    if cmdOp w = 0x2A then
      inner == 0 && decide (loopB w ≤ ws.length) && nestOk fuel (loopB w) ws
    else nestOk fuel (inner - 1) ws

/-- Chunk size that a body's VX.LD or VX.ST gives descriptor dx (R112). -/
def bodySize (x : CoreSt) (dx : Nat) (w : BitVec 128) : Option Nat :=
  if cmdOp w = 0x21 ∧ bits w 95 91 = dx then
    (x.latched dx).map (fun p => lfElems (ldFormat p.2.elem (bit w 86) (bit w 85)))
  else if cmdOp w = 0x22 ∧ bits w 95 91 = dx then some (lfElems (bits w 86 84))
  else none

/-- The iterations of a loop and the chunk size of its driving descriptor, or the status that refuses it (R108, R112). -/
def loopIters (x : CoreSt) (w : BitVec 128) (body : List (BitVec 128)) : Except Nat (Nat × Nat) :=
  if loopChunks w then
    match x.latched (loopDesc w) with
    | none => .error stDesc
    | some (_, ds) =>
      let sizes := body.filterMap (bodySize x (loopDesc w))
      let size := sizes.head?.getD (naturalSize ds)
      if sizes.all (· == size) then .ok (descChunks ds size, size) else .error stVxShape
  else if loopCount w = 0 then .error stDesc
  else .ok (loopCount w, 512)

/-- A frame opened for a VX.LOOP. -/
def CoreSt.openLoop (x : CoreSt) (num : BitVec 64) (w : BitVec 128) (n size : Nat) : CoreSt :=
  let drv : Option (Fin 32) := if loopChunks w then some (Fin.ofNat 32 (loopDesc w)) else none
  let f : LoopFrame :=
    { loop := num, first := num + 1, len := loopB w, left := n, drv := drv, csize := size,
      chunk := match drv with | some dx => x.cursor dx | none => 0 }
  { x with vx := { x.vx with loops := f :: x.vx.loops } }

/-- The commands of a body leave the queue with their loop (R112): they stand in execution until it ends, under the level of
tile verification that holds then (R189). -/
def CoreSt.collect (x : CoreSt) (n level time : Nat) : CoreSt :=
  x.modQ 1 (fun q =>
    let rs : List Run := (q.acc.take n).map (fun k =>
      { num := k.num, word := k.word, parity := k.parity, body := true, waited := false, busy := true,
        level := BitVec.ofNat 2 level, start := time, progress := time })
    { q with acc := q.acc.drop n, run := q.run ++ rs })

/-- The effect of an outermost VX.LOOP once issued: its body is collected and checked, then the first iteration begins, or
the loop and its body end with the status that refuses them. -/
def loopEffect (d c : Nat) (s : State) (r : Run) : State :=
  let x := s.core d c
  let n := loopB r.word
  let body := ((x.q1.acc.take n).map Cmd.word)
  let x1 := (x.collect n s.verifyLevel s.time).modRun 1 r.num (fun r => { r with busy := true })
  let s1 := s.setCore d c x1
  if !nestOk (n + 1) 0 body then s1.loopFail d c (BitVec.ofNat 8 stDesc)
  else match loopIters x r.word body with
    | .error st => s1.loopFail d c (BitVec.ofNat 8 st)
    | .ok (k, size) => s1.modCore d c (fun x =>
        let x2 := x.openLoop r.num r.word k size
        { x2 with vx := { x2.vx with pos := r.num + 1, buf := [] } })

/-- The effect of a VX.LOOP in the body of another. -/
def innerLoopEffect (d c : Nat) (s : State) (r : Run) : State :=
  let x := s.core d c
  let body := (x.q1.run.filter (fun t => decide (r.num.toNat < t.num.toNat) && decide (t.num.toNat ≤ r.num.toNat + loopB r.word))).map
    Run.word
  match loopIters x r.word body with
  | .error st => s.failRun d c 1 r.num st
  | .ok (k, size) => s.modCore d c (fun x => x.openLoop r.num r.word k size)

/-- VX_LOOP (R112): outermost once its whole body has been accepted. -/
def execVxLoop (d : Fin 16) (c : Fin 32) (s : State) : Host.Outcome State Fault Refusal :=
  .next (let x := s.core d c
    if !x.vx.loops.isEmpty then s.loopOp d c 0x2A (innerLoopEffect d c)
    else match x.q1.acc with
      | k :: rest => if loopB k.word ≤ rest.length then s.runOp d c 1 0x2A (loopEffect d c) else s
      | [] => s)

/-- VX_FLAGS_CLR (R122): VX_FLAGS cleared once every earlier command has completed. In a loop's body that is when it completes
itself (CoreSt.orFlags): the commands before it complete with the loop, in order (R149). -/
def execVxFlagsClr (d : Fin 16) (c : Fin 32) (s : State) : Host.Outcome State Fault Refusal :=
  .next (let x := s.core d c
    if !x.vx.loops.isEmpty then s.loopOp d c 0x2B (fun s _ => s)
    else if x.q1.run.isEmpty then
      s.runOp d c 1 0x2B (fun s _ => s.modCore d c (fun x => { x with vx := { x.vx with flags := 0 } }))
    else s)

/-! ### Checks, leave, registers (R122, R124, R126, R127) -/

/-- The vector command a check finds at work: the one an open loop has reached, else the oldest that has not failed. -/
def CoreSt.vxRunning (x : CoreSt) : Option Run :=
  if x.vx.loops.isEmpty then x.q1.run.find? (fun r => r.status == 0 && decide (0x20 ≤ cmdOp r.word))
  else x.findRun 1 x.vx.pos

/-- VX_CHECK_FAULT (R126, Table 9 of ch.04): causes 0x01, 0x02, 0x04, 0x05 and 0x06 of Table 8; a lane that is not active
reports no residue fault (R110). Cause 0x00 stands for a single-bit error of a register that a command reads: it is
corrected and counted, and the command goes on. -/
def execVxCheckFault (d : Fin 16) (c : Fin 32) (cause : BitVec 8) (lane : Fin 512) (vreg : Fin 16) (s : State) :
    Host.Outcome State Fault Refusal :=
  .next (let x := s.core d c
    let k := cause.toNat
    if k == 0 then (if x.vxRunning.isSome then s.bump 0x7060 5 else s)
    else if !([1, 2, 4, 5, 6].contains k) || ((k == 1 || k == 2) && decide (x.active 3 ≤ lane.val)) then s
    else match x.vxRunning with
      | some r =>
        let s1 := s.vxEnd d c r.num r.tiles (.check k 0 (if k = 6 then 0 else lane.val) (if k = 4 then vreg.val else 0))
        if x.vx.loops.isEmpty then s1 else s1.loopFail d c (BitVec.ofNat 8 stFault)
      | none => s)

/-- VX_IDLE_RELEASE (R124). -/
def execVxIdleRelease (d : Fin 16) (c : Fin 32) (s : State) : Host.Outcome State Fault Refusal :=
  .next (let x := s.core d c
    if x.vx.leave && x.q1.run.isEmpty && decide (x.vx.lastCmd + s.obj 0x7060 2 * tickUs ≤ s.time) then
      s.releaseLeave (.vectorEngine d c)
    else s)

/-- VX_FLAGS_W1C (R122). -/
def execVxFlagsW1c (d : Fin 16) (c : Fin 32) (v : BitVec 32) (s : State) : Host.Outcome State Fault Refusal :=
  .next (s.regWrite d c 0x5004 (toBytes 4 v.toNat)
    (s.modCore d c (fun x => { x with vx := { x.vx with flags := x.vx.flags &&& ~~~v } })))

/-- VX_FAULT_CLEAR (R127). -/
def execVxFaultClear (d : Fin 16) (c : Fin 32) (s : State) : Host.Outcome State Fault Refusal :=
  .next (s.regWrite d c 0x5008 (toBytes 8 0) (s.modCore d c (fun x => { x with vx := { x.vx with fault := 0, faultAddr := 0 } })))

end Sys2Proof.Machine
end

