-- ==== Sys2Proof/Machine/Dispatch.lean ====
section
/-! DEFINITION. What each command does: one arm for each constructor of `Instr`, each a direct call of its meaning. -/

namespace Sys2Proof.Machine

/-- The effect of a command on everything but the queue. -/
def exec (i : Instr) (s : State) : Host.Outcome State Fault Refusal :=
  match i with
  | .dieStateFrame d => Sys2Proof.Machine.execDieStateFrame d s
  | .spokeStatusFrame d ok wake alarm dieTemp stackTemps leave => Sys2Proof.Machine.execSpokeStatusFrame d ok wake alarm dieTemp stackTemps leave s
  | .spokeLost d => Sys2Proof.Machine.execSpokeLost d s
  | .faultRecord src site unit cause detail => Sys2Proof.Machine.execFaultRecord src site unit cause detail s
  | .mxGemm die core => Sys2Proof.Machine.execMxGemm die core s
  | .mxConv die core => Sys2Proof.Machine.execMxConv die core s
  | .mxMerge die core => Sys2Proof.Machine.execMxMerge die core s
  | .mxDrain die core => Sys2Proof.Machine.execMxDrain die core s
  | .mxZero die core => Sys2Proof.Machine.execMxZero die core s
  | .mxElem die core => Sys2Proof.Machine.execMxElem die core s
  | .mxFlagsClr die core => Sys2Proof.Machine.execMxFlagsClr die core s
  | .foldResidueCheck die core arr row col res => Sys2Proof.Machine.execFoldResidueCheck die core arr row col res s
  | .mxRegisterParityError die core arr row col => Sys2Proof.Machine.execMxRegisterParityError die core arr row col s
  | .accWindowRead die core off len => Sys2Proof.Machine.execAccWindowRead die core off len s
  | .accWindowWrite die core off data => Sys2Proof.Machine.execAccWindowWrite die core off data s
  | .accBusy die core => Sys2Proof.Machine.execAccBusy die core s
  | .mxIdleRelease die core => Sys2Proof.Machine.execMxIdleRelease die core s
  | .mxFlagsW1c die core v => Sys2Proof.Machine.execMxFlagsW1c die core v s
  | .mxFaultClear die core => Sys2Proof.Machine.execMxFaultClear die core s
  | .vxDset die core => Sys2Proof.Machine.execVxDset die core s
  | .vxLd die core => Sys2Proof.Machine.execVxLd die core s
  | .vxSt die core => Sys2Proof.Machine.execVxSt die core s
  | .vxOp die core => Sys2Proof.Machine.execVxOp die core s
  | .vxCvt die core => Sys2Proof.Machine.execVxCvt die core s
  | .vxFn die core => Sys2Proof.Machine.execVxFn die core s
  | .vxShuf die core => Sys2Proof.Machine.execVxShuf die core s
  | .vxSplat die core => Sys2Proof.Machine.execVxSplat die core s
  | .vxSred die core => Sys2Proof.Machine.execVxSred die core s
  | .vxRed die core => Sys2Proof.Machine.execVxRed die core s
  | .vxLoop die core => Sys2Proof.Machine.execVxLoop die core s
  | .vxFlagsClr die core => Sys2Proof.Machine.execVxFlagsClr die core s
  | .vxCheckFault die core cause lane vreg => Sys2Proof.Machine.execVxCheckFault die core cause lane vreg s
  | .vxIdleRelease die core => Sys2Proof.Machine.execVxIdleRelease die core s
  | .vxFlagsW1c die core v => Sys2Proof.Machine.execVxFlagsW1c die core v s
  | .vxFaultClear die core => Sys2Proof.Machine.execVxFaultClear die core s
  | .qTailWrite die core eng v => Sys2Proof.Machine.execQTailWrite die core eng v s
  | .commandFetch die core eng => Sys2Proof.Machine.execCommandFetch die core eng s
  | .queueConfigWrite die core eng reg v => Sys2Proof.Machine.execQueueConfigWrite die core eng reg v s
  | .qCtrlEnable die core eng on => Sys2Proof.Machine.execQCtrlEnable die core eng on s
  | .qCtrlResume die core eng => Sys2Proof.Machine.execQCtrlResume die core eng s
  | .qCtrlDiscard die core eng => Sys2Proof.Machine.execQCtrlDiscard die core eng s
  | .qCtrlHalt die core eng => Sys2Proof.Machine.execQCtrlHalt die core eng s
  | .commandCompletion die core eng num => Sys2Proof.Machine.execCommandCompletion die core eng num s
  | .nop die core eng => Sys2Proof.Machine.execNop die core eng s
  | .cntSet die core eng => Sys2Proof.Machine.execCntSet die core eng s
  | .cntAdd die core eng => Sys2Proof.Machine.execCntAdd die core eng s
  | .cmpSet die core eng => Sys2Proof.Machine.execCmpSet die core eng s
  | .tqPush die core eng => Sys2Proof.Machine.execTqPush die core eng s
  | .awaitGt die core eng => Sys2Proof.Machine.execAwaitGt die core eng s
  | .awaitGtFire die core eng num => Sys2Proof.Machine.execAwaitGtFire die core eng num s
  | .halt die core eng => Sys2Proof.Machine.execHalt die core eng s
  | .sig0 die core eng => Sys2Proof.Machine.execSig0 die core eng s
  | .mvCopy die core => Sys2Proof.Machine.execMvCopy die core s
  | .mvFill die core => Sys2Proof.Machine.execMvFill die core s
  | .mvAtomic die core => Sys2Proof.Machine.execMvAtomic die core s
  | .mvInval die core => Sys2Proof.Machine.execMvInval die core s
  | .mvFence die core => Sys2Proof.Machine.execMvFence die core s
  | .mvColl die core => Sys2Proof.Machine.execMvColl die core s
  | .mvClaim die core => Sys2Proof.Machine.execMvClaim die core s
  | .mvFaultClear die core => Sys2Proof.Machine.execMvFaultClear die core s
  | .tqPushWrite die core tq handle => Sys2Proof.Machine.execTqPushWrite die core tq handle s
  | .tqPopRead die core tq => Sys2Proof.Machine.execTqPopRead die core tq s
  | .registerWrite target agent data => Sys2Proof.Machine.execRegisterWrite target agent data s
  | .tcRun die core run => Sys2Proof.Machine.execTcRun die core run s
  | .tcStep die core => Sys2Proof.Machine.execTcStep die core s
  | .tcDoorbell die core => Sys2Proof.Machine.execTcDoorbell die core s
  | .tcIrqPendW1c die core v => Sys2Proof.Machine.execTcIrqPendW1c die core v s
  | .tcCrcSrc die core v => Sys2Proof.Machine.execTcCrcSrc die core v s
  | .tcCrcDone die core => Sys2Proof.Machine.execTcCrcDone die core s
  | .tidyCoreInstruction die core => Sys2Proof.Machine.execTidyCoreInstruction die core s
  | .tcLockstepMismatch die core => Sys2Proof.Machine.execTcLockstepMismatch die core s
  | .tcNoRetire die core => Sys2Proof.Machine.execTcNoRetire die core s
  | .syncDeadlock die core => Sys2Proof.Machine.execSyncDeadlock die core s
  | .smRelease die core => Sys2Proof.Machine.execSmRelease die core s
  | .hangWatchdog die core eng num => Sys2Proof.Machine.execHangWatchdog die core eng num s
  | .queueParityError die core what => Sys2Proof.Machine.execQueueParityError die core what s
  | .tagWrite die core off data => Sys2Proof.Machine.execTagWrite die core off data s
  | .verifyingRead die tile raced ecc => Sys2Proof.Machine.execVerifyingRead die tile raced ecc s
  | .lsScrub die core raced ecc => Sys2Proof.Machine.execLsScrub die core raced ecc s
  | .hbmScrub die raced ecc => Sys2Proof.Machine.execHbmScrub die raced ecc s
  | .hbmAccess req addr write severity parity => Sys2Proof.Machine.execHbmAccess req addr write severity parity s
  | .hbmRefresh die stack chan pc => Sys2Proof.Machine.execHbmRefresh die stack chan pc s
  | .hbmSensorSample die stack temps => Sys2Proof.Machine.execHbmSensorSample die stack temps s
  | .hbmRowRepair die row => Sys2Proof.Machine.execHbmRowRepair die row s
  | .hbmLaneRepair die lane => Sys2Proof.Machine.execHbmLaneRepair die lane s
  | .repairRecordUpdate rec ok => Sys2Proof.Machine.execRepairRecordUpdate rec ok s
  | .recordWriteRetry rec ok => Sys2Proof.Machine.execRecordWriteRetry rec ok s
  | .whistleSend port => Sys2Proof.Machine.execWhistleSend port s
  | .whistleReceive port w stamp => Sys2Proof.Machine.execWhistleReceive port w stamp s
  | .linkCalibrationDone port => Sys2Proof.Machine.execLinkCalibrationDone port s
  | .gtLossOfLock => Sys2Proof.Machine.execGtLossOfLock s
  | .holdoverWaitEnd => Sys2Proof.Machine.execHoldoverWaitEnd s
  | .gtHoldEnd => Sys2Proof.Machine.execGtHoldEnd s
  | .refereeTakeover => Sys2Proof.Machine.execRefereeTakeover s
  | .timeFrame => Sys2Proof.Machine.execTimeFrame s
  | .dieGtResync die => Sys2Proof.Machine.execDieGtResync die s
  | .ppsEdge widthNs => Sys2Proof.Machine.execPpsEdge widthNs s
  | .tenMhzMonitor present ppm => Sys2Proof.Machine.execTenMhzMonitor present ppm s
  | .gtSet v => Sys2Proof.Machine.execGtSet v s
  | .gtSetAtPps v => Sys2Proof.Machine.execGtSetAtPps v s
  | .kickoffArm die e top => Sys2Proof.Machine.execKickoffArm die e top s
  | .kickoffDisarm die e top => Sys2Proof.Machine.execKickoffDisarm die e top s
  | .kickoffFire die e => Sys2Proof.Machine.execKickoffFire die e s
  | .roundScheduleValidate die rs top => Sys2Proof.Machine.execRoundScheduleValidate die rs top s
  | .roundScheduleInvalidate die rs top => Sys2Proof.Machine.execRoundScheduleInvalidate die rs top s
  | .slotStart die rs => Sys2Proof.Machine.execSlotStart die rs s
  | .admissionClose die rs => Sys2Proof.Machine.execAdmissionClose die rs s
  | .roundScheduleExpire die rs => Sys2Proof.Machine.execRoundScheduleExpire die rs s
  | .codewordReceive port line word => Sys2Proof.Machine.execCodewordReceive port line word s
  | .identityIdleSend port line => Sys2Proof.Machine.execIdentityIdleSend port line s
  | .combLock c pilot => Sys2Proof.Machine.execCombLock c pilot s
  | .elmFeedLost feed => Sys2Proof.Machine.execElmFeedLost feed s
  | .elmFeedReturn feed => Sys2Proof.Machine.execElmFeedReturn feed s
  | .lambdaSLost port => Sys2Proof.Machine.execLambdaSLost port s
  | .lambdaSReturn port => Sys2Proof.Machine.execLambdaSReturn port s
  | .transmitRingAssign bank ring setting pilot => Sys2Proof.Machine.execTransmitRingAssign bank ring setting pilot s
  | .receiveRingSearch bank ring setting confirmed => Sys2Proof.Machine.execReceiveRingSearch bank ring setting confirmed s
  | .portTrainTimeout bank => Sys2Proof.Machine.execPortTrainTimeout bank s
  | .ringFsrMove bank tx ring shift => Sys2Proof.Machine.execRingFsrMove bank tx ring shift s
  | .pilotCheck bank ring pilot => Sys2Proof.Machine.execPilotCheck bank ring pilot s
  | .ringMislock bank tx ring => Sys2Proof.Machine.execRingMislock bank tx ring s
  | .ringResearchDone bank tx ring found setting => Sys2Proof.Machine.execRingResearchDone bank tx ring found setting s
  | .laneSubstitution port tx sub => Sys2Proof.Machine.execLaneSubstitution port tx sub s
  | .bankSubstitution fault => Sys2Proof.Machine.execBankSubstitution fault s
  | .spareBankLight l module lport => Sys2Proof.Machine.execSpareBankLight l module lport s
  | .combMonitorSample c powers => Sys2Proof.Machine.execCombMonitorSample c powers s
  | .portPause l => Sys2Proof.Machine.execPortPause l s
  | .portResume l => Sys2Proof.Machine.execPortResume l s
  | .linkPauseNotice port frame => Sys2Proof.Machine.execLinkPauseNotice port frame s
  | .standbyTest l => Sys2Proof.Machine.execStandbyTest l s
  | .standbyTestEnd l pass => Sys2Proof.Machine.execStandbyTestEnd l pass s
  | .partnerLoss bank => Sys2Proof.Machine.execPartnerLoss bank s
  | .probePulse bank => Sys2Proof.Machine.execProbePulse bank s
  | .probeAnswer bank => Sys2Proof.Machine.execProbeAnswer bank s
  | .linkFrameReplay port lfseq => Sys2Proof.Machine.execLinkFrameReplay port lfseq s
  | .portRetrain port => Sys2Proof.Machine.execPortRetrain port s
  | .portRetrainDone port ok badTx badRx => Sys2Proof.Machine.execPortRetrainDone port ok badTx badRx s
  | .optCommission v => Sys2Proof.Machine.execOptCommission v s
  | .ringRecordRefresh => Sys2Proof.Machine.execRingRecordRefresh s
  | .flitReceive edge bundle rev flit => Sys2Proof.Machine.execFlitReceive edge bundle rev flit s
  | .flitNak edge bundle rev seq => Sys2Proof.Machine.execFlitNak edge bundle rev seq s
  | .bundleTraining edge bundle bad => Sys2Proof.Machine.execBundleTraining edge bundle bad s
  | .bundleRetrain edge bundle rev => Sys2Proof.Machine.execBundleRetrain edge bundle rev s
  | .panelLaneFailed edge dir lane => Sys2Proof.Machine.execPanelLaneFailed edge dir lane s
  | .bundleHalfWidth edge bundle => Sys2Proof.Machine.execBundleHalfWidth edge bundle s
  | .roleRefill edge => Sys2Proof.Machine.execRoleRefill edge s
  | .routeWeightUpdate => Sys2Proof.Machine.execRouteWeightUpdate s
  | .detourLoad => Sys2Proof.Machine.execDetourLoad s
  | .laneTestMode v => Sys2Proof.Machine.execLaneTestMode v s
  | .laneTestEnd failing => Sys2Proof.Machine.execLaneTestEnd failing s
  | .fabModuleId v => Sys2Proof.Machine.execFabModuleId v s
  | .linkFrameReceive port pfx pkt crc => Sys2Proof.Machine.execLinkFrameReceive port pfx pkt crc s
  | .linkFrameSend port => Sys2Proof.Machine.execLinkFrameSend port s
  | .packetIngress port pkt => Sys2Proof.Machine.execPacketIngress port pkt s
  | .relayHoldExpire l => Sys2Proof.Machine.execRelayHoldExpire l s
  | .class0FrameReceive port frame => Sys2Proof.Machine.execClass0FrameReceive port frame s
  | .linkStateSend port => Sys2Proof.Machine.execLinkStateSend port s
  | .linkStateReceive port frame => Sys2Proof.Machine.execLinkStateReceive port frame s
  | .class0Resend port lseq => Sys2Proof.Machine.execClass0Resend port lseq s
  | .flagAdd die frame => Sys2Proof.Machine.execFlagAdd die frame s
  | .routeEntryWrite m entry => Sys2Proof.Machine.execRouteEntryWrite m entry s
  | .routeGenerationAdvance => Sys2Proof.Machine.execRouteGenerationAdvance s
  | .reorderContextClose die srcModule srcDie flow => Sys2Proof.Machine.execReorderContextClose die srcModule srcDie flow s
  | .reorderBusyResend die txn => Sys2Proof.Machine.execReorderBusyResend die txn s
  | .fabStall port cls => Sys2Proof.Machine.execFabStall port cls s
  | .remoteRequestReceive die pkt => Sys2Proof.Machine.execRemoteRequestReceive die pkt s
  | .lineOperation die idx => Sys2Proof.Machine.execLineOperation die idx s
  | .responseReceive die pkt => Sys2Proof.Machine.execResponseReceive die pkt s
  | .ackTimeout die txn => Sys2Proof.Machine.execAckTimeout die txn s
  | .mergedResponse l pkt => Sys2Proof.Machine.execMergedResponse l pkt s
  | .mergeEntryTimeout l entry => Sys2Proof.Machine.execMergeEntryTimeout l entry s
  | .memRlcEnable v => Sys2Proof.Machine.execMemRlcEnable v s
  | .raceSlotArm die r top => Sys2Proof.Machine.execRaceSlotArm die r top s
  | .raceSlotDisarm die r top => Sys2Proof.Machine.execRaceSlotDisarm die r top s
  | .groupValidate die g top => Sys2Proof.Machine.execGroupValidate die g top s
  | .groupValidationDone die g => Sys2Proof.Machine.execGroupValidationDone die g s
  | .groupEnd die g top => Sys2Proof.Machine.execGroupEnd die g top s
  | .huddleFrameReceive die frame => Sys2Proof.Machine.execHuddleFrameReceive die frame s
  | .verdictReceive die frame => Sys2Proof.Machine.execVerdictReceive die frame s
  | .verdictAckReceive die frame => Sys2Proof.Machine.execVerdictAckReceive die frame s
  | .verdictResend die g => Sys2Proof.Machine.execVerdictResend die g s
  | .voteReceive die frame => Sys2Proof.Machine.execVoteReceive die frame s
  | .huddleTimeout die g => Sys2Proof.Machine.execHuddleTimeout die g s
  | .dataPhaseTimeout die g => Sys2Proof.Machine.execDataPhaseTimeout die g s
  | .collDataReceive die chunk => Sys2Proof.Machine.execCollDataReceive die chunk s
  | .collAckReceive die pkt => Sys2Proof.Machine.execCollAckReceive die pkt s
  | .chunkResend die g => Sys2Proof.Machine.execChunkResend die g s
  | .roundStart die g => Sys2Proof.Machine.execRoundStart die g s
  | .verdictRetentionExpire die g => Sys2Proof.Machine.execVerdictRetentionExpire die g s
  | .coreSubstitution die core => Sys2Proof.Machine.execCoreSubstitution die core s
  | .coreSubstitute v => Sys2Proof.Machine.execCoreSubstitute v s
  | .substitutionDrainEnd die => Sys2Proof.Machine.execSubstitutionDrainEnd die s
  | .spareSelfTestDone die pass => Sys2Proof.Machine.execSpareSelfTestDone die pass s
  | .checkerSelfTest src pass => Sys2Proof.Machine.execCheckerSelfTest src pass s
  | .errorLogEvent ev => Sys2Proof.Machine.execErrorLogEvent ev s
  | .logHandlingExpire pos => Sys2Proof.Machine.execLogHandlingExpire pos s
  | .fltLogAck v => Sys2Proof.Machine.execFltLogAck v s
  | .fltLogOverflow v => Sys2Proof.Machine.execFltLogOverflow v s
  | .partnerSuspect m => Sys2Proof.Machine.execPartnerSuspect m s
  | .accuseReceive frame => Sys2Proof.Machine.execAccuseReceive frame s
  | .rosterSend => Sys2Proof.Machine.execRosterSend s
  | .rosterReceive frame => Sys2Proof.Machine.execRosterReceive frame s
  | .recordReceive port frame => Sys2Proof.Machine.execRecordReceive port frame s
  | .epochReqReceive port frame => Sys2Proof.Machine.execEpochReqReceive port frame s
  | .viewReceive port frame => Sys2Proof.Machine.execViewReceive port frame s
  | .beaconSend => Sys2Proof.Machine.execBeaconSend s
  | .beaconReceive port frame => Sys2Proof.Machine.execBeaconReceive port frame s
  | .isolationFence => Sys2Proof.Machine.execIsolationFence s
  | .epochOpen => Sys2Proof.Machine.execEpochOpen s
  | .umpireStartTimeout => Sys2Proof.Machine.execUmpireStartTimeout s
  | .joinSend => Sys2Proof.Machine.execJoinSend s
  | .joinReceive frame => Sys2Proof.Machine.execJoinReceive frame s
  | .answerReceive frame => Sys2Proof.Machine.execAnswerReceive frame s
  | .withdrawReceive frame => Sys2Proof.Machine.execWithdrawReceive frame s
  | .fltSendOff v => Sys2Proof.Machine.execFltSendOff v s
  | .fltAdmit v => Sys2Proof.Machine.execFltAdmit v s
  | .fltWithdrawnClear v => Sys2Proof.Machine.execFltWithdrawnClear v s
  | .fltWithdrawGo v => Sys2Proof.Machine.execFltWithdrawGo v s
  | .scoreRecompute => Sys2Proof.Machine.execScoreRecompute s
  | .withdrawRetry => Sys2Proof.Machine.execWithdrawRetry s
  | .withdrawWaitExpire => Sys2Proof.Machine.execWithdrawWaitExpire s
  | .forcedWithdrawTimeout => Sys2Proof.Machine.execForcedWithdrawTimeout s
  | .stepCommit die n => Sys2Proof.Machine.execStepCommit die n s
  | .stepMirrorDone die ok => Sys2Proof.Machine.execStepMirrorDone die ok s
  | .inputMonitor mv w1ms w10us w1s amps => Sys2Proof.Machine.execInputMonitor mv w1ms w10us w1s amps s
  | .inputClockStep => Sys2Proof.Machine.execInputClockStep s
  | .phaseFailure rail => Sys2Proof.Machine.execPhaseFailure rail s
  | .railOutOfRegulation rail => Sys2Proof.Machine.execRailOutOfRegulation rail s
  | .coreClockStep die milliAmps => Sys2Proof.Machine.execCoreClockStep die milliAmps s
  | .leaveRequest r => Sys2Proof.Machine.execLeaveRequest r s
  | .governorCycle => Sys2Proof.Machine.execGovernorCycle s
  | .leaveRelease r => Sys2Proof.Machine.execLeaveRelease r s
  | .dieIdleEntry die => Sys2Proof.Machine.execDieIdleEntry die s
  | .dieIdleExit die => Sys2Proof.Machine.execDieIdleExit die s
  | .pwrDieSleepReq v => Sys2Proof.Machine.execPwrDieSleepReq v s
  | .dieSleepCommand die => Sys2Proof.Machine.execDieSleepCommand die s
  | .dieSleepEntryDone die => Sys2Proof.Machine.execDieSleepEntryDone die s
  | .dieWake die cause => Sys2Proof.Machine.execDieWake die cause s
  | .dieWakeDone die saveOk => Sys2Proof.Machine.execDieWakeDone die saveOk s
  | .pwrPadRelease v => Sys2Proof.Machine.execPwrPadRelease v s
  | .pwrModuleState v => Sys2Proof.Machine.execPwrModuleState v s
  | .moduleStandbyDone => Sys2Proof.Machine.execModuleStandbyDone s
  | .pwrHostWake v => Sys2Proof.Machine.execPwrHostWake v s
  | .wakeN low => Sys2Proof.Machine.execWakeN low s
  | .thermalSensorSample part temps => Sys2Proof.Machine.execThermalSensorSample part temps s
  | .throttleEvaluate die => Sys2Proof.Machine.execThrottleEvaluate die s
  | .thermalShutdown part sensor => Sys2Proof.Machine.execThermalShutdown part sensor s
  | .tripRecordWrite => Sys2Proof.Machine.execTripRecordWrite s
  | .analogueTrip => Sys2Proof.Machine.execAnalogueTrip s
  | .thmTripClear v => Sys2Proof.Machine.execThmTripClear v s
  | .coolantSample inlet outlet flow ok => Sys2Proof.Machine.execCoolantSample inlet outlet flow ok s
  | .heartbeat c => Sys2Proof.Machine.execHeartbeat c s
  | .ballEvaluate => Sys2Proof.Machine.execBallEvaluate s
  | .ballClaim c => Sys2Proof.Machine.execBallClaim c s
  | .controllerWatchdog c => Sys2Proof.Machine.execControllerWatchdog c s
  | .controllerBootDone c => Sys2Proof.Machine.execControllerBootDone c s
  | .mirrorSyncDone c => Sys2Proof.Machine.execMirrorSyncDone c s
  | .ballUnheldFence => Sys2Proof.Machine.execBallUnheldFence s
  | .sysHandover v => Sys2Proof.Machine.execSysHandover v s
  | .sysStore v => Sys2Proof.Machine.execSysStore v s
  | .storeCommitDone ok => Sys2Proof.Machine.execStoreCommitDone ok s
  | .sysRestore v => Sys2Proof.Machine.execSysRestore v s
  | .servicePortFrame f => Sys2Proof.Machine.execServicePortFrame f s
  | .mbDoorbell v => Sys2Proof.Machine.execMbDoorbell v s
  | .read r => Sys2Proof.Machine.execRead r s
  | .write r => Sys2Proof.Machine.execWrite r s
  | .readSeg r => Sys2Proof.Machine.execReadSeg r s
  | .writeSeg r => Sys2Proof.Machine.execWriteSeg r s
  | .list r => Sys2Proof.Machine.execList r s
  | .hello r => Sys2Proof.Machine.execHello r s
  | .proveKey r => Sys2Proof.Machine.execProveKey r s
  | .provePassword r => Sys2Proof.Machine.execProvePassword r s
  | .openLocal r => Sys2Proof.Machine.execOpenLocal r s
  | .close r => Sys2Proof.Machine.execClose r s
  | .quote r => Sys2Proof.Machine.execQuote r s
  | .sessionIdleExpire sess => Sys2Proof.Machine.execSessionIdleExpire sess s
  | .slotLockoutEnd slot => Sys2Proof.Machine.execSlotLockoutEnd slot s
  | .secCredentialWrite slot field data => Sys2Proof.Machine.execSecCredentialWrite slot field data s
  | .bootImage image => Sys2Proof.Machine.execBootImage image s
  | .bootCtrlRestart v => Sys2Proof.Machine.execBootCtrlRestart v s
  | .bootCommitSvn v => Sys2Proof.Machine.execBootCommitSvn v s
  | .bootRecovery => Sys2Proof.Machine.execBootRecovery s
  | .hostLinkTrain speed width => Sys2Proof.Machine.execHostLinkTrain speed width s
  | .hostLinkDown => Sys2Proof.Machine.execHostLinkDown s
  | .functionLevelReset => Sys2Proof.Machine.execFunctionLevelReset s
  | .perst low => Sys2Proof.Machine.execPerst low s
  | .corePageAccess die core off acc => Sys2Proof.Machine.execCorePageAccess die core off acc s
  | .bar2Access off acc => Sys2Proof.Machine.execBar2Access off acc s
  | .hostWindowWrite w v => Sys2Proof.Machine.execHostWindowWrite w v s
  | .hostEventW1c v => Sys2Proof.Machine.execHostEventW1c v s
  | .msixUnmask vec => Sys2Proof.Machine.execMsixUnmask vec s
  | .hostCompletion tag cpl => Sys2Proof.Machine.execHostCompletion tag cpl s
  | .hostCplTimeout tag => Sys2Proof.Machine.execHostCplTimeout tag s
  | .powerApplied => Sys2Proof.Machine.execPowerApplied s
  | .modResetAssert => Sys2Proof.Machine.execModResetAssert s
  | .modResetRelease => Sys2Proof.Machine.execModResetRelease s
  | .startupStepEnd r => Sys2Proof.Machine.execStartupStepEnd r s
  | .gtWaitExpire => Sys2Proof.Machine.execGtWaitExpire s
  | .startupStepOverrun => Sys2Proof.Machine.execStartupStepOverrun s
  | .panelReferenceLost => Sys2Proof.Machine.execPanelReferenceLost s
  | .upstreamPortLost => Sys2Proof.Machine.execUpstreamPortLost s
  | .timeIn10mReturn => Sys2Proof.Machine.execTimeIn10mReturn s
  | .elmPreferredReturn l => Sys2Proof.Machine.execElmPreferredReturn l s
  | .panelReferenceReturn => Sys2Proof.Machine.execPanelReferenceReturn s

end Sys2Proof.Machine
end

