-- ==== Sys2Proof/Machine/Step.lean ====
section
/-! DEFINITION. One step of the block: the command at the front of its queue, or, on an empty queue, one tick of module
time. -/

namespace Sys2Proof.Machine

/-- One tick of 1/256 ns of module time passes (DESIGN CHOICE, notes/assumptions/2.md). -/
def State.idle (s : State) : State := { s with time := s.time + 1 }

/-- Take the command at the front of the queue and run it with the queue's rest; on an empty queue module time runs on. -/
def step (s : State) : Host.Outcome State Fault Refusal :=
  match s.pending with
  | [] => .next s.idle
  | c :: rest => exec c { s with pending := rest }

/-- The state with the command a word spells at the front of its queue; unchanged where the word spells none. -/
def State.withFetchWord (s : State) (nbits w : Nat) : State :=
  match decodeTableWord nbits w with
  | some c => { s with pending := c :: s.pending }
  | none => s

end Sys2Proof.Machine
end

