-- ==== Sys2Proof/WellFormed.lean ====
section
/-! DEFINITION. Which commands are well formed: the bounds that the operands' types leave open. A meaning takes every
command; a command that is not well formed spells nothing the spec describes. -/

namespace Sys2Proof

/-- A packet carries no payload, or as many whole lines of 128 bytes as LINES says, at most 32 (R297). -/
def Packet.wf (p : Packet) : Bool :=
  decide (p.lines.toNat ≤ 32) && (p.payload.isEmpty || p.payload.length == 128 * p.lines.toNat)

/-- An access of a register, a window or memory: 1 byte to 4,096 bytes. -/
def Access.wf : Access → Bool
  | .read n => decide (1 ≤ n ∧ n ≤ 4096)
  | .write bs => decide (1 ≤ bs.length ∧ bs.length ≤ 4096)

/-- A Mihimel frame carries at most 1,024 bytes of payload (R487). -/
def MReq.wf (r : MReq) : Bool := decide (r.payload.length ≤ 1024)

/-- A setting of a ring lies in its 4.2 THz heater range, in MHz (R260). -/
def settingOk (n : Nat) : Bool := decide (n < 4200000)

/-- The command is well formed. -/
def WellFormed : Instr → Bool
  | .accWindowRead _ _ off len => decide (1 ≤ len.val ∧ len.val ≤ 16 ∧ off.val + len.val ≤ 0x200000)
  | .accWindowWrite _ _ off data => decide (1 ≤ data.length ∧ data.length ≤ 16 ∧ off.val + data.length ≤ 0x200000)
  | .registerWrite _ _ data => decide (1 ≤ data.length ∧ data.length ≤ 64)
  | .tagWrite _ _ _ data => decide (1 ≤ data.length ∧ data.length ≤ 8)
  | .hbmAccess _ a data _ ps => decide (data.length ≤ 32 ∧ a.val % 32 + data.length ≤ 32 ∧ ps.length ≤ 2)
  | .hbmSensorSample _ _ temps => !temps.isEmpty
  | .transmitRingAssign _ _ v _ => settingOk v
  | .receiveRingSearch _ _ v _ => settingOk v
  | .ringFsrMove _ _ _ v => settingOk v.at_ && settingOk v.setting
  | .ringResearchDone _ _ _ _ v => settingOk v
  | .combMonitorSample _ ps => ps.length == 36
  | .linkFrameReceive _ _ p _ => p.wf
  | .packetIngress _ p => p.wf
  | .remoteRequestReceive _ p => p.wf
  | .responseReceive _ p => p.wf
  | .mergedResponse _ p => p.wf
  | .collDataReceive _ c => c.pkt.wf
  | .collAckReceive _ p => p.wf
  | .corePageAccess _ _ _ a => a.wf
  | .bar2Access _ a => a.wf
  | .read r | .write r | .readSeg r | .writeSeg r | .list r | .hello r | .proveKey r | .provePassword r
  | .openLocal r | .close r | .quote r => r.wf
  | .hostLinkTrain speed width => decide (1 ≤ speed.val) && decide (width.val ∈ [1, 2, 4, 8, 16])
  | _ => true

end Sys2Proof
end

