-- ==== Sys2Proof/Safety.lean ====
section
/-! DEFINITION. What a safe run is: every waiting command is well formed, memory is in its canonical form, and the keys of the
state's tables rise. -/

namespace Sys2Proof

/-- The keys of a table rise strictly, so that each key is listed at most once. -/
abbrev Rises {α : Type} (m : SMap α) : Prop := List.Pairwise (fun a b => a.1 < b.1) m

/-- The tables of the state rise. Every step keeps this; reading back what an operation has stored rests on it. -/
abbrev TablesRise (s : Machine.State) : Prop :=
  Rises s.tiles ∧ Rises s.cores ∧ Rises s.dies ∧ Rises s.lights ∧ Rises s.banks ∧ Rises s.ports ∧ Rises s.spokes
  ∧ Rises s.dict ∧ Rises s.lane.bundles ∧ Rises s.gt.ports ∧ Rises s.flt.log ∧ Rises s.pwr.phases ∧ Rises s.host.win
  ∧ Rises s.sys.sessions ∧ Rises s.flash.fixed ∧ Rises s.sec.locked

/-- Every command that waits is well formed. -/
def QueueOk (s : Machine.State) : Prop := ∀ c ∈ s.pending, WellFormed c = true

/-- The commands that wait are well formed and memory has its canonical form. -/
def SafeState (s : Machine.State) : Prop := QueueOk s ∧ Machine.Memory.wf s.mem = true

/-- A step answers a next state: it neither faults nor refuses. -/
def Completes (s : Machine.State) : Prop := ∃ t, Machine.step s = .next t

/-- The dictionary takes writes: a controller holds the ball and step 2 of start-up has ended (R477, R534). -/
abbrev Writable (s : Machine.State) : Prop := s.sys.ball ≠ none ∧ 2 < s.obj 0xB000 1

/-- An access from outside reaches a core: its die runs, the core is not out, and no substitution runs that holds it (R202, R398, R399). -/
abbrev Reachable (s : Machine.State) (d c : Nat) : Prop :=
  s.dieRuns d = true ∧ s.coreOut d c = false ∧ s.substituting d c = false ∧ (s.die d).substFirst = false

/-- A region of a die that commands are fetched from: HBM or local store (R133). -/
def fetchable : Machine.Region → Bool
  | .hbm | .store _ _ => true
  | _ => false

/-- Mihimel requests of a transport are served: the ball is held and start-up has reached step 2, the module is driven and not in
recovery, the service port is enabled, and no mailbox request executes (R477, R486, R491, R534). -/
abbrev Serves (s : Machine.State) (t : Transport) : Prop :=
  s.driven = true ∧ s.serving = true ∧ s.boot.recovery = false
  ∧ (t = .service → s.obj 0x1030 1 ≠ 0) ∧ (t = .mailbox → s.host.mbBusy = false)

/-- A request is the next one of its session x, bound to its transport (R489). -/
abbrev NextRequest (s : Machine.State) (r : MReq) (x : Machine.Session) : Prop :=
  Serves s r.transport ∧ r.session ≠ 0 ∧ s.session (r.session.toNat - 1) = some x ∧ x.transport = r.transport
  ∧ s.executing r.session = false ∧ r.counter = x.counter + 1

/-- The keys of a core's tables rise. -/
abbrev CoreRises (x : Machine.CoreSt) : Prop :=
  Rises x.acc ∧ Rises x.cnt ∧ Rises x.cmp ∧ Rises x.tq ∧ Rises x.ob ∧ Rises x.td ∧ Rises x.mx.gens ∧ Rises x.vx.regs
  ∧ Rises x.vx.table ∧ Rises x.vx.latched ∧ Rises x.tc.x ∧ Rises x.sm.recs

/-- Command k is next in queue e of a core, has opcode op, may issue now (R132, R137) and passes the checks of its header and of
the handle it pops (R139, R144); no command in execution has its number. -/
abbrev Issues (s : Machine.State) (d c e op : Nat) (k : Machine.Cmd) : Prop :=
  Rises s.cores ∧ CoreRises (s.core d c) ∧ (s.core d c).next e = some k ∧ Machine.cmdOp k.word = op ∧ k.parity = false
  ∧ s.mayIssue d c e k = true ∧ Machine.preStatus e k.word ((s.core d c).takeWait e k).2 = Machine.stOk
  ∧ (s.core d c).findRun e k.num = none

/-- Command k, with no open loop, has left the waiting commands of queue e of a core and stands last among those in execution, with a
status; nothing else of the queue has changed. -/
abbrev Issued (s t : Machine.State) (d c e : Nat) (k : Machine.Cmd) (status : Nat) : Prop :=
  ((t.core d c).q e).run.dropLast = ((s.core d c).q e).run
  ∧ (((t.core d c).q e).run.getLast?).map (fun r => (r.num, r.word, r.status)) = some (k.num, k.word, BitVec.ofNat 8 status)
  ∧ ((s.core d c).q e).acc = k :: ((t.core d c).q e).acc
  ∧ { (t.core d c).q e with run := ((s.core d c).q e).run, acc := ((s.core d c).q e).acc, busySince := ((s.core d c).q e).busySince }
    = (s.core d c).q e

/-- Core x with all that issue on queue e may change (the queue, a popped or reserved handle, a stepped comparator, times of last
activity) as it is in core y. -/
def unissued (e : Nat) (x y : Machine.CoreSt) : Machine.CoreSt :=
  { x.setQ e (y.q e) with
    tq := y.tq, cmp := y.cmp, sm := { x.sm with lastAct := y.sm.lastAct }, mx := { x.mx with lastCmd := y.mx.lastCmd },
    vx := { x.vx with lastCmd := y.vx.lastCmd } }

/-- The command as it stands in execution once it has issued, with the handle it popped. -/
abbrev issuedRun (s : Machine.State) (d c e : Nat) (k : Machine.Cmd) : Machine.Run := (s.issue d c e k).2

/-- The elements have block scales (R38). -/
def isMx : Machine.Elem → Bool
  | .mx _ => true
  | _ => false

/-- The tile at byte t of a core's local store passes verification at the level in force (R98, R125, R183). -/
def tileVerifies (s : Machine.State) (d c t : Nat) : Bool := (s.verify d (Machine.lsAddr c t) (s.verifyLevel % 4)).isNone

/-- Every tile that n bytes of a core's local store from `off` on touch verifies. -/
def verifies (s : Machine.State) (d c off n : Nat) : Bool := (Machine.tilesOf off n).all (tileVerifies s d c)

/-- Every tile that n bytes of output from `off` on touch can be merged with what it holds: no error mark, not POISON, and one that is
VALID verifies (R83, R125, R181). -/
def merges (s : Machine.State) (d c off n : Nat) : Bool :=
  (Machine.tilesOf off n).all (fun t =>
    let a := Machine.lsAddr c t
    !s.badTags.contains (Machine.tileKey d a) && !s.badIn d a 4096 && (s.tile d a).st != .poison
    && ((s.tile d a).st != .valid || tileVerifies s d c t))

/-- No tile has a SEQ that differs from the TOKEN of the handle whose tile it is (R144). -/
def tokensMatch (w : Machine.Work) : Bool := (List.range 2048).all (fun t => !w.stale t)

/-- Rows 0 .. rows-1 of n elements of a block, and their MX scales, satisfy a test of byte ranges. -/
def rowsAll (test : Nat → Nat → Bool) (b : Machine.Block) (rows n : Nat) : Bool :=
  (List.range rows).all (fun m => test (Machine.blockRow b m) (Machine.rowBytes b.elem n)
    && (!isMx b.elem || test (Machine.blockScaleRow b (Machine.scaleCount n) m) (Machine.scaleCount n)))

/-- Rows 0 .. rows-1 of n elements of an operand verify. -/
def rowsVerify (s : Machine.State) (d c : Nat) (b : Machine.Block) (rows n : Nat) : Bool := rowsAll (verifies s d c) b rows n

/-- Rows 0 .. rows-1 of n elements of an output can be merged with what their tiles hold. -/
def rowsMerge (s : Machine.State) (d c : Nat) (b : Machine.Block) (rows n : Nat) : Bool := rowsAll (merges s d c) b rows n

/-- The stationary operand of a matrix command verifies: in KN layout 32 rows share a row of MX scales (R66). -/
def stationaryVerifies (s : Machine.State) (d c : Nat) (b : Machine.Block) : Bool :=
  if b.nk then rowsVerify s d c b b.e1 b.e0
  else (List.range b.e1).all (fun m => verifies s d c (Machine.blockRow b m) (Machine.rowBytes b.elem b.e0)
    && (!isMx b.elem || verifies s d c (b.scale + Machine.scaleRow b m / 32 * b.e0) b.e0))

/-- Byte `off` of local store lies in one of the rows of a block, or in its MX scales. -/
def inRows (b : Machine.Block) (rows n off : Nat) : Bool :=
  (List.range rows).any (fun m =>
    (decide (Machine.blockRow b m ≤ off) && decide (off < Machine.blockRow b m + Machine.rowBytes b.elem n))
    || (isMx b.elem && decide (Machine.blockScaleRow b (Machine.scaleCount n) m ≤ off)
      && decide (off < Machine.blockScaleRow b (Machine.scaleCount n) m + Machine.scaleCount n)))

/-- The rows of a source share no byte with those of an output. -/
def apart (a : Machine.Block) (rows n : Nat) (o : Machine.Block) (rows' n' : Nat) : Bool :=
  rowsAll (fun off len => (List.range len).all (fun i => !inRows o rows' n' (off + i))) a rows n

/-- The input pixels and the filter taps of MX.CONV verify. -/
def convReads (s : Machine.State) (d c : Nat) (j : Machine.ConvJob) : Bool :=
  (List.range (j.inp.e3 * j.h * j.w)).all (fun p =>
    verifies s d c (Machine.blockAt j.inp ((p % j.w) * j.inp.s1 + (p / j.w % j.h) * j.inp.s2 + (p / j.w / j.h) * j.inp.s3))
      (Machine.rowBytes j.inp.elem j.inp.e0)
    && (!isMx j.inp.elem || verifies s d c (Machine.blockScaleRow j.inp (Machine.scaleCount j.inp.e0) p) (Machine.scaleCount j.inp.e0)))
  && (List.range j.q.g).all (fun g => (List.range j.q.r).all (fun r => (List.range j.q.s).all (fun q =>
    stationaryVerifies s d c (j.tap g r q))))

/-- Where output pixel m of MX.CONV starts. -/
def convPixel (j : Machine.ConvJob) (m : Nat) : Nat :=
  Machine.blockAt j.out ((m % j.qq) * j.out.s1 + (m / j.qq % j.p) * j.out.s2 + (m / j.qq / j.p) * j.out.s3)

/-- The output pixels of MX.CONV can be merged with what their tiles hold. -/
def convMerges (s : Machine.State) (d c : Nat) (j : Machine.ConvJob) : Bool :=
  (List.range j.k.m).all (fun i => merges s d c (convPixel j (j.k.m0 + i)) (Machine.rowBytes j.out.elem j.q.kout)
    && (!isMx j.out.elem || merges s d c (Machine.blockScaleRow j.out j.outScales (j.k.m0 + i)) j.outScales))

/-- Byte `off` of local store lies in an output pixel of MX.CONV, or in its MX scales. -/
def inPixels (j : Machine.ConvJob) (off : Nat) : Bool :=
  (List.range j.k.m).any (fun i =>
    (decide (convPixel j (j.k.m0 + i) ≤ off) && decide (off < convPixel j (j.k.m0 + i) + Machine.rowBytes j.out.elem j.q.kout))
    || (isMx j.out.elem && decide (Machine.blockScaleRow j.out j.outScales (j.k.m0 + i) ≤ off)
      && decide (off < Machine.blockScaleRow j.out j.outScales (j.k.m0 + i) + j.outScales)))

/-- The first bytes of a row of a tensor descriptor, up to element k0+n-1, verify, and their MX scales. -/
def segVerifies (s : Machine.State) (d c : Nat) (ds : Machine.Desc) (row k0 n : Nat) : Bool :=
  verifies s d c (Machine.descRow ds row) (Machine.rowBytes ds.elem (k0 + n))
  && (!isMx ds.elem || verifies s d c (ds.scale + row * Machine.scaleCount ds.e0) (Machine.scaleCount (k0 + n)))

/-- Elements k0 .. k0+n-1 of a row of a tensor descriptor can be merged with what their tiles hold. -/
def segMerges (s : Machine.State) (d c : Nat) (ds : Machine.Desc) (row k0 n : Nat) : Bool :=
  merges s d c (Machine.descRow ds row + k0 * Machine.elemBits ds.elem / 8) (Machine.rowBytes ds.elem n)
  && (!isMx ds.elem || merges s d c (ds.scale + row * Machine.scaleCount ds.e0 + k0 / 32) (Machine.scaleCount n))

/-- Byte `off` of local store lies among elements k0 .. k0+n-1 of a row of a descriptor, or in their MX scales. -/
def inSeg (ds : Machine.Desc) (row k0 n off : Nat) : Bool :=
  let a := Machine.descRow ds row + k0 * Machine.elemBits ds.elem / 8
  let b := ds.scale + row * Machine.scaleCount ds.e0 + k0 / 32
  (decide (a ≤ off) && decide (off < a + Machine.rowBytes ds.elem n))
  || (isMx ds.elem && decide (b ≤ off) && decide (off < b + Machine.scaleCount n))

/-- The open loop of a core's vector queue stands at command r of opcode op, which may go on and passes the checks of its header and of
its handle (R112, R113, R132, R144); the level of verification has not changed since the loop began. -/
abbrev AtLoop (s : Machine.State) (d c op : Nat) (r : Machine.Run) : Prop :=
  Rises s.cores ∧ CoreRises (s.core d c) ∧ (s.core d c).vx.loops ≠ [] ∧ (s.core d c).findRun 1 (s.core d c).vx.pos = some r
  ∧ Machine.cmdOp r.word = op ∧ s.dieRuns d = true ∧ (s.core d c).q1.enable = true ∧ (s.core d c).q1.halt = none ∧ r.awaits = []
  ∧ (s.core d c).hasLeave 1 op = true ∧ (r.waited = true ∨ s.waitOf d c 1 r.word = .no) ∧ r.parity = false
  ∧ (s.loopTake d c r).2.status = 0 ∧ r.level.toNat = s.verifyLevel % 4

/-- The command the loop stands at is not the last of the innermost body. -/
abbrev Within (x : Machine.CoreSt) : Prop :=
  x.frame.any (fun f => x.vx.pos + 1 != f.first + BitVec.ofNat 64 f.len) = true

/-- The loop has gone on to the next command of its body. -/
abbrev LoopStepped (x y : Machine.CoreSt) : Prop := y.vx.loops = x.vx.loops ∧ y.vx.pos = x.vx.pos + 1

/-- A source operand of a vector command stands for elements: a register, the scalar IMM, or in a driven loop a broadcast of a descriptor
of one row as long as the driving descriptor's row or as its number of rows, whose tiles verify (R115). -/
def sourceOk (s : Machine.State) (d c sel : Nat) : Bool :=
  let x := s.core d c
  if sel / 32 % 4 = 0 then decide (sel % 32 < 16)
  else if sel / 32 % 4 = 1 then true
  else match x.latched (sel % 32), x.driver with
    | some (l, ds), some (drv, _, _) =>
      Machine.descRows ds == 1 && ds.e0 == (if sel / 32 % 4 = 2 then drv.e0 else Machine.descRows drv) && segVerifies s d c ds 0 0 ds.e0
      && tokensMatch { s := s, d := d, c := c, seq := 0, level := 0, use := Machine.latchedUse l }
    | _, _ => false

/-- State t with memory and what is kept of its tiles as in s. -/
def unstored (t s : Machine.State) : Machine.State :=
  { t with mem := s.mem, tiles := s.tiles, badTags := s.badTags, badWords := s.badWords, badBursts := s.badBursts, races := s.races }

/-- Memory has changed at most in the bytes `f` names of the local store of a core. -/
abbrev StoresIn (s t : Machine.State) (d c : Nat) (f : Nat → Bool) : Prop :=
  ∀ i, i < 16 → ∀ a, a < 2 ^ 44 → (i ≠ d ∨ ∀ off, off < Machine.lsBytes → a = Machine.lsAddr c off → f off = false) →
    t.byte i a = s.byte i a

/-- Memory has changed at most in the bytes of die d whose local addresses `f` names. -/
abbrev StoresAt (s t : Machine.State) (d : Nat) (f : Nat → Bool) : Prop :=
  ∀ i, i < 16 → ∀ a, a < 2 ^ 44 → (i ≠ d ∨ f a = false) → t.byte i a = s.byte i a

/-- n bytes from local address a of a die lie in HBM, or in the local store of a core that is in use and not being substituted. -/
def inMemory (s : Machine.State) (d a n : Nat) : Bool :=
  let r := Machine.regionSpan a n
  fetchable r && (Machine.regionCore r).all (fun k => !s.coreOut d k && !s.substituting d k)

/-- A piece of a move of core c can be read and put where it goes without a failure: local ends lie in HBM or local store, host memory
is reached where the move names it, and a tile on its way to the host verifies and is not stale (R157, R158, R526). -/
def pieceOk (s : Machine.State) (d c : Nat) (r : Machine.Run) (p : Machine.Piece) : Bool :=
  (match p.src, p.dst with
    | .loc a, .host _ => inMemory s d a p.len && (!p.tile || ((s.verify d a r.level.toNat).isNone && !s.staleTile d c r a))
    | .loc a, _ => inMemory s d a p.len
    | .host _, _ => s.hostReached
    | _, _ => true)
  && (match p.dst with
    | .loc b => inMemory s d b p.len
    | .host _ => s.hostReached
    | .remote _ _ _ => true
    | _ => false)

/-- Local address a of the issuing die lies in the destination of a piece. -/
def inPieces (ps : List Machine.Piece) (a : Nat) : Bool :=
  ps.any (fun p => match p.dst with | .loc b => decide (b ≤ a) && decide (a < b + p.len) | _ => false)

/-- Every tile of the local store of a core passes verification at the level in force, as input tiles must (R98, R183). -/
abbrev StoreVerifies (s : Machine.State) (d c : Nat) : Prop :=
  ∀ t : Fin 2048, s.verify d (Machine.lsAddr c (4096 * t.val)) (s.verifyLevel % 4) = none

/-- Every accumulator entry of a core passes its residue check (R97). -/
abbrev EntriesOk (x : Machine.CoreSt) : Prop := ∀ kv ∈ x.acc, Machine.entryOk kv.2 = true

/-- Element i of a vector source that is a register or the scalar IMM (R115). -/
def sourceCode (x : Machine.CoreSt) (sel lf imm i : Nat) : Nat :=
  if sel < 32 then x.elem sel lf i else Machine.immCode lf imm i

/-- Bits that an element of a lane format has in a register. -/
def elemWidth (lf : Nat) : Nat := if lf = 1 ∨ lf = 2 then 16 else if lf = 4 then 64 else if lf = 5 ∨ lf = 6 then 8 else 32

/-- The tidy core of a core runs with its interrupt off and fetches the 32-bit instruction v from instruction memory, which holds
nothing newer than the last FENCE.I. -/
abbrev TidyFetches (s : Machine.State) (d c : Nat) (v : BitVec 32) : Prop :=
  TablesRise s ∧ CoreRises (s.core d c) ∧ s.dieClocked d = true ∧ s.coreOut d c = false ∧ s.substituting d c = false
  ∧ (s.core d c).tc.st = .running ∧ (s.core d c).tc.mie = false
  ∧ (s.core d c).tc.stale = [] ∧ Machine.bit (s.core d c).tc.pc 0 = false ∧ (s.core d c).tc.pc.toNat + 4 ≤ 0x40000
  ∧ Machine.ofBytes (s.bytes d (Machine.imemAddr c (s.core d c).tc.pc.toNat) 4) = v.toNat ∧ Machine.bits v 1 0 = 3

/-- A tidy core with all that an instruction without a trap, a load or a store changes as it is in another. -/
def unretired (x y : Machine.TcSt) : Machine.TcSt :=
  { x with x := y.x, pc := y.pc, minstret := y.minstret, mcycle := y.mcycle, cycAt := y.cycAt, lastRetire := y.lastRetire }

/-- The keys of a die's tables rise. -/
abbrev DieRises (x : Machine.DieSt) : Prop :=
  Rises x.arrival ∧ Rises x.ko ∧ Rises x.rs ∧ Rises x.txns ∧ Rises x.lineAt ∧ Rises x.rlc ∧ Rises x.race ∧ Rises x.col.groups
  ∧ Rises x.col.validating ∧ Rises x.col.active ∧ Rises x.rowErrs ∧ Rises x.laneErrs ∧ Rises x.refresh ∧ Rises x.hotStack
  ∧ Rises x.coreMap ∧ Rises x.slotFaults

/-- No move of die d, and no mirror of its step log, has a piece left to send or to land. -/
abbrev Quiet (s : Machine.State) (d : Nat) : Prop :=
  (s.die d).step.todo = [] ∧ ∀ c : Fin 32, ∀ r ∈ (s.core d c.val).q2.run, r.todo = []

/-- Command r, number `num` of queue e of a core, may complete (R149), is not of a loop that is open, is at no level that reads its inputs
twice (R189), and nothing of its die waits for it: no piece of a move, no access of its accumulator entries. -/
abbrev Completing (s : Machine.State) (d c : Nat) (e : Fin 3) (num : BitVec 64) (r : Machine.Run) : Prop :=
  (s.core d c).findRun e num = some r ∧ Machine.mayComplete ((s.core d c).q e) e r = true
  ∧ ((s.core d c).next e).all (fun k => k.num != num) = true
  ∧ (e.val = 1 ∧ (s.core d c).vx.loops ≠ [] → (s.core d c).vx.pos ≠ num)
  ∧ (e.val = 0 → (s.core d c).mx.waiting = [] ∧ s.host.ordered = [])
  ∧ (e.val = 2 ∧ r.status = 0 → r.fail = 0) ∧ (e.val < 2 ∧ r.status = 0 → r.level ≠ 1) ∧ Quiet s d

/-- Core x with all that a completion in queue e changes (commands in execution and their count, the queue's halt and completion ring,
flags, busy and idle times, counters, handles, pending bits) as it is in core y. -/
def uncompleted (e : Nat) (x y : Machine.CoreSt) : Machine.CoreSt :=
  { x.setQ e { x.q e with run := (y.q e).run, done := (y.q e).done, busySince := (y.q e).busySince, halt := (y.q e).halt,
                          err := (y.q e).err, beforeSync := (y.q e).beforeSync, cTail := (y.q e).cTail, cLost := (y.q e).cLost } with
    cnt := y.cnt, tq := y.tq, tc := { x.tc with irqPend := y.tc.irqPend }, sm := { x.sm with lastAct := y.sm.lastAct },
    mx := { x.mx with flags := y.mx.flags, busyCycles := y.mx.busyCycles, lastCmd := y.mx.lastCmd },
    vx := { x.vx with flags := y.vx.flags, busyCycles := y.vx.busyCycles, lastCmd := y.vx.lastCmd } }

/-- Nothing waits for a target of game time: no AWAIT_GT executes and no kickoff table holds an entry. -/
abbrev NoTargets (s : Machine.State) : Prop := s.awaiting = [] ∧ ∀ d : Fin 16, (s.die d.val).ko = []

/-- No move of the module waits with a piece to send, and none is bound to a slot. -/
abbrev Unbound (s : Machine.State) : Prop :=
  ∀ d : Fin 16, Quiet s d.val ∧ ∀ c : Fin 32, ∀ r ∈ (s.core d.val c.val).q2.run, r.bound = none

/-- Every core is as before, but for the comparator bits of TC_IRQ_PEND that an arrival counter latches (Table 24 of ch.05). -/
abbrev KeepsCores (s t : Machine.State) : Prop :=
  ∀ k, k < 512 → { Machine.mapGet { } t.cores k with
    tc := { (Machine.mapGet { } t.cores k).tc with irqPend := (Machine.mapGet { } s.cores k).tc.irqPend } } = Machine.mapGet { } s.cores k

/-- HBM and local stores hold no uncorrectable data. -/
abbrev NoBadData (s : Machine.State) : Prop := s.badWords = [] ∧ s.badBursts = []

/-- The keys of a bank's tables rise. -/
abbrev BankRises (x : Machine.BankSt) : Prop :=
  Rises x.tx ∧ Rises x.rx ∧ Rises x.txLine ∧ Rises x.rxLine ∧ Rises x.idle ∧ Rises x.deskew

/-- The word of a codeword received as an identity idle: its complemented check bits undone (R248). -/
def idlePart (w : BitVec 288) : BitVec 270 := BitVec.ofNat 270 ((w.toNat ^^^ Machine.kindMask 1) / 2 ^ 18)

/-- Every object but those at some keys reads as before. -/
abbrev KeepsObjects (s t : Machine.State) (keys : List Nat) : Prop :=
  ∀ k, k ∉ keys → Machine.mapGet 0 t.dict k = Machine.mapGet 0 s.dict k

/-- Every die is as before but for its cache of remote lines and the lines its requests would fill. -/
abbrev KeepsDies (s t : Machine.State) : Prop :=
  ∀ d, { t.die d with rlc := (s.die d).rlc, txns := (s.die d).txns } = s.die d

/-- Packets cross the panel between two nodes at once: a path joins them and no edge or die of it is shut (R24, R289). -/
abbrev Joined (s : Machine.State) (x y : Nat) : Prop := (s.packetPath x y).any (fun p => !s.pathShut p) = true

/-- A state with what crossing the panel changes (the bundles' flits, the counters that spray them) as it is in another. -/
def uncarried (t s : Machine.State) : Machine.State :=
  { t with lane := { t.lane with bundles := s.lane.bundles, cur := s.lane.cur } }

/-- A class-0 link frame as it leaves on port p: on the carrier of its class 0, with its codeword (R249, R255). -/
def sentOn (s : Machine.State) (p : Nat) (f : BitVec 256) : Machine.Emission :=
  .frame p f (s.port p).onL0 (Machine.frameWord (s.port p).onL0 f)

/-- A routed frame to module m that enters at node n of the ring, looked up at light die l, leaves the module by port p (R295, R324, R421). -/
abbrev Routes (s : Machine.State) (n l m p : Nat) : Prop :=
  s.fenced = false ∧ s.hasId = true ∧ s.ownModule m = false ∧ Machine.routeValid (s.routeAt l m) = true
  ∧ s.port0 (s.routeAt l m) n = some p ∧ s.xoff p 0 = false ∧ Rises s.ports ∧ Rises s.dict

/-- The port and the frame of a routed frame that has left. -/
def routedOut : Machine.Emission → Option (Nat × BitVec 256)
  | .routed p f _ _ _ => some (p, f)
  | _ => none

/-- Routed frame f has left by port p with the LSEQ due there, on the carrier of its class 0 and with its codeword; it starts now or later, and
no other port has changed (R305, R307, R326). -/
abbrev LeftBy (s t : Machine.State) (p : Nat) (f : BitVec 256) : Prop :=
  t.out = s.out ++ [.routed p (Machine.putBits f 247 240 (s.port p).lseqNext.toNat) (t.port p).start0 (s.port p).onL0
    (Machine.frameWord (s.port p).onL0 (Machine.putBits f 247 240 (s.port p).lseqNext.toNat))]
  ∧ (t.port p).lseqNext = (s.port p).lseqNext + 1
  ∧ (t.port p).sent0.head? = some (Machine.putBits f 247 240 (s.port p).lseqNext.toNat)
  ∧ s.time ≤ (t.port p).start0 ∧ (∀ q, q < 128 → q ≠ p → t.port q = s.port q)

/-- No die belongs to a group. -/
abbrev NoGroups (s : Machine.State) : Prop := ∀ d, d < 16 → (s.die d).col.groups = []

/-- No collective is in progress. -/
abbrev NoCollective (s : Machine.State) : Prop := ∀ d, d < 16 → (s.die d).col.active = []

/-- The module is fenced with a cause: every queue is halted, every tidy core stopped, the fence is shown, and its FATAL entry is the
event raised last (R421). -/
abbrev FencedBy (t : Machine.State) (cause : Nat) : Prop :=
  t.obj 0x8000 1 = 3 ∧ t.obj 0x8000 2 = cause
  ∧ (∀ d, d < 16 → ∀ c, c < 32 → ∀ e, e < 3 → ((t.core d c).q e).halt.isSome = true)
  ∧ (∀ d, d < 16 → ∀ c, c < 32 → (t.core d c).tc.runBit = false)
  ∧ (t.flt.raised.getLast?).map (·.ev) = some (Machine.moduleEvent 0x0E Machine.sevFatal cause t.moduleId)

/-- The view has gone to an epoch and an out set: FAB.EPOCH shows it, and every line cached is invalidated (R416). -/
abbrev ViewAt (t : Machine.State) (e : Nat) (out : List Nat) : Prop :=
  t.epoch = e ∧ t.flt.out = out ∧ ∀ d, d < 16 → (t.die d).rlc = []

/-- The umpire's and the backup's numbers fit the fields of a record. -/
abbrev IdsFit (s : Machine.State) : Prop := s.moduleId < 0x10000 ∧ s.gtNow < 2 ^ 64 ∧ ∀ m ∈ s.umpireList, m < 0x10000

/-- A state with all that a change of the view touches (the dictionary, the dies' caches, what is kept of the view, link frames) as it
is in another. -/
def unviewed (t s : Machine.State) : Machine.State := { t with
    dict := s.dict, dies := s.dies, out := s.out, flt := { t.flt with out := s.flt.out, ump := s.flt.ump } }

/-- The keys of the tables in a repair record rise. -/
abbrev RecordRises (x : Machine.RepairRec) : Prop := Rises x.a.body.phases ∧ Rises x.b.body.phases

/-- The tables of the state rise, and those of the repair records that a start takes over. -/
abbrev KeysRise (s : Machine.State) : Prop := TablesRise s ∧ ∀ kv ∈ s.flash.recs, RecordRises kv.2

/-- Sessions carry numbers 1 to 4, each once (R489). -/
abbrev FourSessions (s : Machine.State) : Prop := Rises s.sys.sessions ∧ ∀ kv ∈ s.sys.sessions, kv.1 < 4

/-- Products ±m · 2^e folded into a window one after another (R45). -/
def foldProducts (int : Bool) (a : Machine.Win) (ps : List (Bool × Nat × Int)) : Machine.Win :=
  ps.foldl (fun a p => (Machine.foldValue int a (.fin p.1 p.2.1 p.2.2) 1 false false).1) a

/-- The value of a finite window as a multiple of 2^g, for g at most its lowest weight. -/
def winIn (a : Machine.Win) (g : Int) : Int := Machine.fpInt (decide (a.mant < 0)) a.mant.natAbs (4 * a.wexp) g

/-- A window that Table 2 of ch.02 can hold: MANT of 96 bits, WEXP of 8, TERMS of 16, a CLASS in use; MANT and WEXP zero where the class
is not finite (R42, R43). -/
abbrev WinFits (a : Machine.Win) : Prop :=
  a.cls ≤ 3 ∧ -(2 ^ 95 : Int) ≤ a.mant ∧ a.mant < 2 ^ 95 ∧ -128 ≤ a.wexp ∧ a.wexp ≤ 127 ∧ a.terms < 2 ^ 16
  ∧ (a.cls ≠ 0 → a.mant = 0 ∧ a.wexp = 0)

/-- A cached line lies among the lines that n bytes of die h of module m touch from a. -/
def lineIn (m h a n : Nat) (l : Machine.RlcLine) : Bool :=
  l.m == m && l.d == h && decide (a / 128 ≤ l.line) && decide (l.line ≤ (a + n - 1) / 128)

/-- A place of the issuing die itself. -/
def isLoc : Machine.Place → Bool
  | .loc _ => true
  | _ => false

/-- A completion that carries data. -/
def isData : Cpl → Bool
  | .data _ => true
  | _ => false

end Sys2Proof
end

