-- ==== Sys2Proof/Certificates/Slice0/Obligations.lean ====
section
/-! DEFINITION. The statements about the model. A statement whose form is `∃ t, exec c s = .next t ∧ …` says that the command
completes in the states named, what the next state holds, and, as `{ t with x := s.x } = s`, that nothing but x has changed. -/

open Sys2Proof Sys2Proof.Machine

/-- R27, R28, R35: a die-state frame carries the sleep level of the die, and none over a spoke that is lost; a good status
frame sets the levels of its die and ends a loss; a bad one is counted; three in a row let the spoke be declared lost; a
fault record completes the events of its fault, whose detection time is that of the alarm level. -/
def Obligations.SpokesCarryLevels : Prop :=
  (∀ (d : Fin 24) (s : State), TablesRise s → ∃ t, exec (.dieStateFrame d) s = .next t
      ∧ (t.spoke d).sleepCmd = (decide (d.val < 16) && (s.obj 0x2002 0).testBit d && !(s.spoke d).lost)
      ∧ (t.spoke d).frameAt = s.time
      ∧ (t.spoke d).lost = (s.spoke d).lost
      ∧ (∀ k, k ≠ d.val → t.spoke k = s.spoke k)
      ∧ { t with spokes := s.spokes } = s)
  ∧ (∀ (d : Fin 24) (w a : Bool) (dt : Int) (st : List Int) (l : List Requester) (s : State), TablesRise s → ∃ t, exec
      (.spokeStatusFrame d false w a dt st l) s = .next t
      ∧ (t.spoke d).missed = (s.spoke d).missed + 1
      ∧ (t.spoke d).lost = (s.spoke d).lost
      ∧ (∀ k, k ≠ d.val → t.spoke k = s.spoke k)
      ∧ { t with spokes := s.spokes } = s)
  ∧ (∀ (d : Fin 24) (w a : Bool) (dt : Int) (st : List Int) (l : List Requester) (s : State), TablesRise s → ∃ t, exec
      (.spokeStatusFrame d true w a dt st l) s = .next t
      ∧ (t.spoke d).wake = w
      ∧ (t.spoke d).alarm = a
      ∧ (t.spoke d).leave = l
      ∧ (t.spoke d).missed = 0
      ∧ (t.spoke d).lost = false
      ∧ (a = true → (s.spoke d).alarm = false → (t.spoke d).alarmGt = some s.gtNow)
      ∧ (d.val < 16 → t.obj 0x3001 (d + 1) = unsigned 32 dt)
      ∧ t.flt.raised.length = s.flt.raised.length
      ∧ (a = true → t.flt.raised = s.flt.raised)
      ∧ { t with spokes := s.spokes, dict := s.dict, pwr := s.pwr, flt := { t.flt with raised := s.flt.raised } } = s)
  ∧ (∀ (d : Fin 24) (s : State), TablesRise s → 3 ≤ (s.spoke d).missed → (s.spoke d).lost = false → ∃ t, exec (.spokeLost d) s
      = .next t
      ∧ (t.spoke d).lost = true
      ∧ t.flt.raised = s.flt.raised ++ [{ ev := mkEvent 0x13 sevDegraded d 0xFF 0 0, gt := s.gtNow }]
      ∧ { t with spokes := s.spokes, flt := { t.flt with raised := s.flt.raised } } = s)
  ∧ (∀ (src : Fin 25) (site unit : BitVec 8) (cause : BitVec 16) (detail : BitVec 64) (late : Bool) (r : Raised) (s : State), r
      ∈ s.flt.raised → r.ev.site = site → r.ev.source.toNat = src.val → r.ev.unit = unit → r.ev.cause = cause → ∃ t, exec
      (.faultRecord src site unit cause ⟨detail, late⟩) s = .next t
      ∧
        (⟨{ r.ev with detail := detail, sev := if late then BitVec.ofNat 4 sevUnmasked else r.ev.sev }, (s.spoke src).alarmGt.getD r.gt⟩
        : Raised) ∈ t.flt.raised
      ∧ t.flt.raised.length = s.flt.raised.length
      ∧ { t with spokes := s.spokes, flt := { t.flt with raised := s.flt.raised } } = s)
  ∧ (∀ (src : Fin 25) (site unit : BitVec 8) (cause : BitVec 16) (detail : BitVec 64) (i : Nat) (e : LogEntry) (s : State),
      Rises s.flt.log → s.flt.raised.any (fun r => eventNames r.ev src site unit cause) = false → s.entryOf src site unit cause
      = some i → s.logAt i = some e → ∃ t, exec (.faultRecord src site unit cause ⟨detail, false⟩) s = .next t
      ∧ t.logAt i = some { e with word := putBits e.word 159 96 detail.toNat }
      ∧ (∀ j, j ≠ i → t.logAt j = s.logAt j)
      ∧ { t with spokes := s.spokes, flt := { t.flt with log := s.flt.log } } = s)
  ∧ (∀ (src : Fin 25) (site unit : BitVec 8) (cause : BitVec 16) (detail : BitVec 64) (late : Bool) (s : State),
      s.flt.raised.any (fun r => eventNames r.ev src site unit cause) = false → (late = true ∨ s.entryOf src site unit cause =
      none) → ∃ t, exec (.faultRecord src site unit cause ⟨detail, late⟩) s = .next t
      ∧ t.flt.raised = s.flt.raised ++
        [⟨{ site := site, sev := BitVec.ofNat 4 (if late then sevUnmasked else siteSeverity site.toNat), source := BitVec.ofNat 8 src.val, unit := unit, cause := cause, detail := detail, soft := site == 0x17 && !late }, (s.spoke src).alarmGt.getD s.gtNow⟩]
      ∧ { t with spokes := s.spokes, flt := { t.flt with raised := s.flt.raised } } = s)

/-- R434, R435, R437 to R439: the input monitor shows voltage and power and follows the limits; over a limit every core
clock falls by 25 MHz, not below 800 MHz; a die whose current reaches its limit steps its clock down; a phase that fails
is counted and logged, ADVISORY while a spare covers it; a rail out of regulation stops its die, its light die's ports,
or its controller. -/
def Obligations.PowerRailsAndClocks : Prop :=
  (∀ (mv w1ms w10us w1s amps : Nat) (s : State), TablesRise s → 50000 ≤ mv → mv < 2 ^ 32 → w1ms < 2 ^ 32 → (s.pwr.brown =
      false ∨ (mv < 54000 ∨ (s.inStandby = false ∨ s.levelWake = false))) → ∃ t, exec (.inputMonitor mv w1ms w10us w1s amps) s
      = .next t
      ∧ t.obj 0x2000 1 = mv
      ∧ t.obj 0x2000 2 = w1ms
      ∧ (t.pwr.overLimit = true ↔ s.obj 0x2000 6 < w1s ∨ 13500 < w10us ∨ 250 < amps)
      ∧ (t.pwr.low = true ↔ mv < 54000)
      ∧ (t.pwr.high = true ↔ 72000 < mv)
      ∧ t.pwr.lowSince = none
      ∧ { t with dict := s.dict, pwr := s.pwr, flt := { t.flt with raised := s.flt.raised } } = s)
  ∧ (∀ (mv w1ms w10us w1s amps t0 : Nat) (s : State), TablesRise s → 40000 ≤ mv → mv < 50000 → s.pwr.brown = false →
      s.pwr.lowSince = some t0 → t0 + 100 * tickUs ≤ s.time → s.host.ordered = [] → ∃ t, exec (.inputMonitor mv w1ms w10us w1s
      amps) s = .next t
      ∧ t.bootStep = 0x1C
      ∧ t.obj 0x2000 7 = 1
      ∧ t.pwr.brown = true
      ∧ (∀ d, d < 16 → (t.die d).pstate = 5 ∧ ∀ c, c < 32 → t.core d c = ({ } : CoreSt))
      ∧ (⟨powerEvent sevFatal 3 0, t.gtNow⟩ : Raised) ∈ t.flt.raised)
  ∧ (∀ (mv w1ms w10us w1s amps : Nat) (s : State), mv < 40000 → ∃ t, exec (.inputMonitor mv w1ms w10us w1s amps) s = .next t
      ∧ t.boot.off = true
      ∧ t.flash = s.flash
      ∧ t.mem = []
      ∧ t.dict = [])
  ∧ (∀ (mv w1ms w10us w1s amps : Nat) (s : State), TablesRise s → 54000 ≤ mv → s.pwr.brown = true → s.inStandby = true →
      s.levelWake = true → ∃ t, exec (.inputMonitor mv w1ms w10us w1s amps) s = .next t
      ∧ t.bootStep = 3
      ∧ t.pwr.brown = false
      ∧ t.obj 0x2000 7 = 0)
  ∧ (∀ (s : State), TablesRise s → s.pwr.overLimit = true → s.pwr.capAt + 10 * tickUs ≤ s.time → ∃ t, exec (.inputClockStep) s
      = .next t
      ∧ (∀ d, d < 16 → (t.die d).mhz = max 800 ((s.die d).mhz - 25) ∧ t.obj 0x2005 (d + 1) = max 800 ((s.die d).mhz - 25))
      ∧ t.pwr.capAt = s.time
      ∧ { t with dies := s.dies, dict := s.dict, pwr := s.pwr, cores := s.cores } = s)
  ∧ (∀ (t0 : Nat) (s : State), TablesRise s → s.pwr.overLimit = false → s.pwr.calmSince = some t0 → t0 + tickMs ≤ s.time →
      s.pwr.capAt + tickMs ≤ s.time → s.pwr.cap < 1600 → ∃ t, exec (.inputClockStep) s = .next t
      ∧ t.pwr.cap = min 1600 (s.pwr.cap + 25)
      ∧ t.pwr.capAt = s.time
      ∧ { t with dies := s.dies, dict := s.dict, pwr := s.pwr, cores := s.cores } = s)
  ∧ (∀ (d : Fin 16) (ma : Nat) (s : State), TablesRise s → s.dieRuns d = true → s.limitMa d ≤ ma → ∃ t, exec (.coreClockStep d
      ma) s = .next t
      ∧ (t.die d).mhz = min (max 800 ((s.die d).mhz - 25)) s.clockCap
      ∧ t.obj 0x2005 (d + 1) = min (max 800 ((s.die d).mhz - 25)) s.clockCap
      ∧ (∀ k, k ≠ d.val → t.die k = s.die k)
      ∧ (∀ k, k ≠ d.val → ∀ c, c < 32 → t.core k c = s.core k c)
      ∧ { t with dies := s.dies, dict := s.dict, cores := s.cores } = s)
  ∧ (∀ (d : Fin 16) (ma t0 : Nat) (s : State), TablesRise s → s.dieRuns d = true → ma < s.limitMa d → 100 * ma < 95 * s.limitMa
      d → (s.die d).belowSince = some t0 → t0 + tickMs ≤ s.time → (s.die d).stepAt + 100 * tickUs ≤ s.time → (s.die d).mhz + 25
      ≤ s.clockCap → ∃ t, exec (.coreClockStep d ma) s = .next t
      ∧ (t.die d).mhz = (s.die d).mhz + 25
      ∧ (t.domainMhz (5 * d) = (if s.domainOn (5 * d) && !s.boot.refLost then (s.die d).mhz + 25 else 0))
      ∧ (∀ n : Fin 97, n.val % 5 ≠ 0 ∨ 80 ≤ n.val → t.domainMhz n = s.domainMhz n)
      ∧ (t.die d).atLimit = false
      ∧ t.obj 0x2005 (d + 1) = (s.die d).mhz + 25
      ∧ (∀ k, k ≠ d.val → t.die k = s.die k)
      ∧ { t with dies := s.dies, dict := s.dict, cores := s.cores } = s)
  ∧ (∀ (rail : Rail) (s : State), TablesRise s → mapGet 0 s.pwr.phases (railKey rail) < railPhases (railKey rail) → ∃ t, exec
      (.phaseFailure rail) s = .next t
      ∧ mapGet 0 t.pwr.phases (railKey rail) = mapGet 0 s.pwr.phases (railKey rail) + 1
      ∧ t.flt.raised = s.flt.raised ++
        [⟨mkEvent 0x0C (if mapGet 0 s.pwr.phases (railKey rail) < railSpares (railKey rail) then sevAdvisory else sevDegraded) (railSource (railKey rail)) (railDomain (railKey rail)) (0x10 + railKind (railKey rail)) (mapGet 0 s.pwr.phases (railKey rail) + 1), s.gtNow⟩]
      ∧ { t with pwr := s.pwr, dict := s.dict, flt := { t.flt with raised := s.flt.raised } } = s)
  ∧ (∀ (d : Fin 16) (rail : Rail) (s : State), TablesRise s → (rail = .core d ∨ rail = .mesh d ∨ rail = .hbm d ∨ rail =
      .alwaysOn d) → ∃ t, exec (.railOutOfRegulation rail) s = .next t
      ∧ (t.die d).pstate = 5
      ∧ (∀ c, c < 32 → t.core d c = ({ } : CoreSt))
      ∧ t.flt.raised.getLast? = some
        { ev := mkEvent 0x0C sevUnmasked d (railDomain (railKey rail)) (0x20 + railKind (railKey rail)) 0, gt := t.gtNow })
  ∧ (∀ (l : Fin 8) (b : Fin 17) (rail : Rail) (s : State), TablesRise s → (rail = .light l ∨ rail = .photonics l) → ∃ t, exec
      (.railOutOfRegulation rail) s = .next t
      ∧ (t.bank (17 * l + b)).st = 7
      ∧ t.flt.raised.getLast? = some
        { ev := mkEvent 0x0C sevUnmasked (16 + l) (railDomain (railKey rail)) (0x20 + railKind (railKey rail)) 0, gt := t.gtNow })
  ∧ (∀ (s : State), TablesRise s → ∃ t, exec (.railOutOfRegulation .stewardB) s = .next t
      ∧ t.sys.b.healthy = false
      ∧ t.sys.b.st = 0
      ∧ t.obj 0x7010 8 = 0)
  ∧ (∀ (s : State), TablesRise s → ∃ t, exec (.railOutOfRegulation .stewardA) s = .next t
      ∧ t.sys.a.healthy = false
      ∧ t.sys.a.st = 0
      ∧ t.obj 0x7010 8 = 0
      ∧ (s.sys.b.st = 0 → s.sys.b.healthy = false → t.bootStep = 0x1F))

/-- R446 to R451: a quiet die goes Idle and comes back; a sleep command is refused with its refuser named or starts entry;
entry ends in Sleep with the cores lost and HBM kept; a reason to wake starts the wake, which asks for leave and ends
with the die Active; PWR.PAD_RELEASE lets the dies named go on. -/
def Obligations.DiesSleepAndWake : Prop :=
  (∀ (d : Fin 16) (s : State), TablesRise s → s.dieRuns d = true → (s.die d).pstate = 0 → s.obj 0x2800 1 = 1 → s.dieQuiet d =
      true → (∀ c : Fin 32, (s.core d c).lastBusy + 10 * tickUs ≤ s.time) → ∃ t, exec (.dieIdleEntry d) s = .next t
      ∧ (t.die d).pstate = 1
      ∧ t.obj 0x2001 (d + 1) = 16 * (s.die d).cause + 1
      ∧ (∀ k, k ≠ d.val → t.die k = s.die k)
      ∧ { t with dies := s.dies, dict := s.dict } = s)
  ∧ (∀ (d : Fin 16) (s : State), TablesRise s → (s.die d).pstate = 1 → ∃ t, exec (.dieIdleExit d) s = .next t
      ∧ (t.die d).pstate = 0
      ∧ t.obj 0x2001 (d + 1) = 16 * (s.die d).cause
      ∧ (∀ k, k ≠ d.val → t.die k = s.die k)
      ∧ { t with dies := s.dies, dict := s.dict } = s)
  ∧ (∀ (v : BitVec 16) (s : State), TablesRise s → Writable s → ∃ t, exec (.pwrDieSleepReq v) s = .next t
      ∧ t.obj 0x2002 0 = v.toNat
      ∧ t.sys.lastStatus = rpOk
      ∧ (∀ d, d < 16 → (s.die d).pstate = 2 → (s.obj 0x2002 0).testBit d = true → v.toNat.testBit d = false → (t.die d).cleared
        = some s.time)
      ∧ { t with dies := s.dies, dict := s.dict, sys := { t.sys with lastStatus := s.sys.lastStatus } } = s)
  ∧ (∀ (d : Fin 16) (s : State), TablesRise s → s.dieRuns d = true → s.sleepReq d = true → ((s.spoke d).sleepCmd = true ∨
      (s.spoke d).lost = true) → (s.die d).retryAt ≤ s.time → ∃ t, exec (.dieSleepCommand d) s = .next t
      ∧ (s.refuser d = 0 → (t.die d).pstate = 2 ∧ (t.die d).entryAt = some s.time ∧ t.obj 0x2001 (d + 1) = 16 * (s.die d).cause
        + 2)
      ∧ (s.refuser d ≠ 0 → (t.die d).pstate = (s.die d).pstate ∧ (t.die d).retryAt = s.time + tickMs ∧ t.obj 0x2003 (d + 1) =
        s.refuser d)
      ∧ (∀ k, k ≠ d.val → t.die k = s.die k)
      ∧ { t with dies := s.dies, dict := s.dict } = s)
  ∧ (∀ (d : Fin 16) (t0 : Nat) (s : State), TablesRise s → (s.die d).entryAt = some t0 → (s.die d).pstate = 2 → s.pwr.entering
      = 0 → s.wakeSince d = none → t0 + latchTicks ≤ s.time → ∃ t, exec (.dieSleepEntryDone d) s = .next t
      ∧ (t.die d).pstate = 3
      ∧ t.obj 0x2001 (d + 1) = 16 * (s.die d).cause + 3
      ∧ (∀ c, c < 32 → t.core d c = ({ } : CoreSt))
      ∧ t.host.event.toNat.testBit 4 = true
      ∧ (∀ a, a < 0x6000000000 → t.byte d a = s.byte d a)
      ∧ (∀ k, k ≠ d.val → t.die k = s.die k))
  ∧ (∀ (d : Fin 16) (t0 w : Nat) (s : State), TablesRise s → (s.die d).entryAt = some t0 → (s.die d).pstate = 2 →
      s.pwr.entering = 0 → s.wakeSince d = some w → w < t0 + latchTicks → (s.die d).heldActs = [] → s.host.ordered = [] → (∀ c
      : Fin 32, (s.core d c).q2.run = []) → ∃ t, exec (.dieSleepEntryDone d) s = .next t
      ∧ (t.die d).pstate = 0
      ∧ (t.die d).entryAt = none
      ∧ t.obj 0x2003 (d + 1) = 0x87
      ∧ (∀ c, c < 32 → t.core d c = s.core d c))
  ∧ (∀ (d : Fin 16) (c : WakeCause) (s : State), TablesRise s → (s.die d).pstate = 3 → (s.spoke d).lost = false → s.bootStep ≠
      0x1C → s.wakeReason d c = true → ∃ t, exec (.dieWake d c) s = .next t
      ∧ (t.die d).pstate = 4
      ∧ (t.die d).cause = wakeCode c
      ∧ (t.pwr.has (.dieWake d) = true ∨ t.pwr.asks (.dieWake d) = true)
      ∧ (c = .access → t.sleepReq d = false)
      ∧ (∀ k, k ≠ d.val → t.die k = s.die k))
  ∧ (∀ (d : Fin 16) (c : WakeCause) (s : State), (s.spoke d).lost = true → ∃ t, exec (.dieWake d c) s = .next t
      ∧ t = s)
  ∧ (∀ (d : Fin 16) (ok : Bool) (t0 : Nat) (s : State), (s.die d).wakeAt = some t0 → (s.die d).pstate = 4 → (s.die d).padsHeld
      = false → t0 + 66 * tickUs ≤ s.time → ∃ t, exec (.dieWakeDone d ok) s = .next t
      ∧ t.host.event.toNat.testBit 4 = true)
  ∧ (∀ (d : Fin 16) (t0 : Nat) (s : State), TablesRise s → (s.die d).wakeAt = some t0 → (s.die d).pstate = 4 → (s.die
      d).padsHeld = false → t0 + 66 * tickUs ≤ s.time → (s.die d).heldActs = [] → (s.die d).hbmWait = [] → s.host.ordered = []
      → (s.die d).substDue = [] → (∀ c : Fin 32, (s.core d c).q2.run = []) → ∃ t, exec (.dieWakeDone d true) s = .next t
      ∧ (t.die d).pstate = 0
      ∧ (t.die d).everActive = true
      ∧ (t.die d).asked = none)
  ∧ (∀ (v : BitVec 16) (s : State), TablesRise s → Writable s → ∃ t, exec (.pwrPadRelease v) s = .next t
      ∧ t.sys.lastStatus = rpOk
      ∧ (∀ (d : Fin 16), (s.die d).wakeAt.any (fun w => decide (w + 63 * tickUs ≤ s.time)) = true → v.toNat.testBit d = true →
        (s.die d).padsHeld = true → (t.die d).padsHeld = false ∧ (t.die d).wakeAt = some (s.time - 64 * tickUs))
      ∧ (∀ d, d < 16 → v.toNat.testBit d = false → t.die d = s.die d)
      ∧ t.flt.raised = s.flt.raised ++ [⟨softEvent 24 0xFF 0x2800 0x280003, s.gtNow⟩]
      ∧
        { t with dies := s.dies, flt := { t.flt with raised := s.flt.raised }, sys := { t.sys with lastStatus := s.sys.lastStatus } }
        = s)

/-- R452, R454: standby is refused while a refuser of Table 6 holds, or entry begins; entry ends at step code 0x1C with
every die asleep and no session open; a host wake or WAKE_N ends standby at the rail step and names its cause. -/
def Obligations.ModuleStandbyEntersAndEnds : Prop :=
  (∀ (v : BitVec 8) (s : State), TablesRise s → Writable s → (v = 1 ∨ v = 2) → s.bootStep = 12 → s.pwr.entering = 0 →
      s.standbyRefuser = none → ∃ t, exec (.pwrModuleState v) s = .next t
      ∧ t.obj 0x2000 7 = v.toNat
      ∧ t.pwr.entering = v.toNat
      ∧ t.sys.lastStatus = rpOk
      ∧ (∀ d, d < 16 → s.dieRuns d = true → (t.die d).pstate = 2 ∧ (t.die d).entryAt = some s.time)
      ∧ (∀ d, d < 16 → s.dieRuns d = false → t.die d = s.die d))
  ∧ (∀ (v : BitVec 8) (k : Nat × Nat) (s : State), Writable s → (v = 1 ∨ v = 2) → s.bootStep = 12 → s.pwr.entering = 0 →
      s.standbyRefuser = some k → ∃ t, exec (.pwrModuleState v) s = .next t
      ∧ t.sys.lastStatus = rpState
      ∧ { t with dict := s.dict, sys := { t.sys with lastStatus := s.sys.lastStatus } } = s)
  ∧ (∀ (s : State), TablesRise s → s.pwr.entering ≠ 0 → s.obj 0x2000 8 = 0 → s.levelWake = false → s.pwr.wakeEdge = none → ∃ t,
      exec (.moduleStandbyDone) s = .next t
      ∧ t.bootStep = 0x1C
      ∧ t.pwr.entering = 0
      ∧ t.sys.sessions = s.sys.sessions
      ∧ (∀ d, d < 16 → (s.die d).pstate ≠ 5 → (t.die d).pstate = 3 ∧ (t.die d).everActive = false))
  ∧ (∀ (s : State), TablesRise s → s.pwr.entering ≠ 0 → (s.obj 0x2000 8 = 1 ∨ s.levelWake = true) → ∃ t, exec
      (.moduleStandbyDone) s = .next t
      ∧ t.bootStep = 3
      ∧ t.pwr.entering = 0
      ∧ t.obj 0x2000 7 = 0
      ∧ (t.obj 0x2000 0x0A = if s.obj 0x2000 8 = 1 then 1 else 2)
      ∧ t.sys.sessions = [])
  ∧ (∀ (v : BitVec 8) (s : State), TablesRise s → Writable s → ∃ t, exec (.pwrHostWake v) s = .next t
      ∧ (1 < v.toNat → t.sys.lastStatus = rpRange ∧ { t with sys := { t.sys with lastStatus := s.sys.lastStatus } } = s)
      ∧ (v = 0 → s.obj 0x2000 7 ≠ 0 → t.sys.lastStatus = rpState ∧
        { t with sys := { t.sys with lastStatus := s.sys.lastStatus } } = s)
      ∧ (v = 0 → s.obj 0x2000 7 = 0 → t.sys.lastStatus = rpOk ∧ t.obj 0x2000 8 = 0)
      ∧ (v = 1 → t.sys.lastStatus = rpOk ∧ t.obj 0x2000 8 = 1)
      ∧ (v = 1 → s.inStandby = true → s.pwr.brown = false → t.bootStep = 3 ∧ t.obj 0x2000 0x0A = 1))
  ∧ (∀ (low : Bool) (s : State), TablesRise s → ∃ t, exec (.wakeN low) s = .next t
      ∧ t.pwr.wakeLow = low
      ∧ (s.inStandby = true → s.pwr.brown = false → s.obj 0x2000 9 = 0 → low = true → t.bootStep = 3 ∧ t.obj 0x2000 7 = 0 ∧
        t.obj 0x2000 0x0A = 2)
      ∧ (s.inStandby = true → s.pwr.brown = false → s.obj 0x2000 9 = 1 → low = true → s.pwr.wakeLow = false → t.bootStep = 3 ∧
        t.obj 0x2000 7 = 0 ∧ t.obj 0x2000 0x0A = 2)
      ∧ (s.inStandby = false → { t with pwr := s.pwr } = s))

/-- R440 to R443: a requester with a reason to ask joins the governor's arrivals once, with its watts and priority; a cycle
that the input forbids grants nothing; one that it allows grants a lone request that fits budget, window and floor; watts
held never pass the budget by a grant; a release gives the leave back. -/
def Obligations.LeaveIsAskedGrantedReleased : Prop :=
  (∀ (r : Requester) (s : State), TablesRise s → s.mayAsk r = true → s.pwr.has r = false → s.pwr.asks r = false → ∃ t, exec
      (.leaveRequest r) s = .next t
      ∧ t.pwr.arrivals = s.pwr.arrivals ++ [{ req := r, watts := s.reqWatts r, prio := s.reqPrio r, since := s.time }]
      ∧ t.pwr.held = s.pwr.held
      ∧ t.obj 0x2000 4 = s.pwr.heldWatts
      ∧ { t with pwr := { t.pwr with arrivals := s.pwr.arrivals }, dict := s.dict } = s)
  ∧ (∀ (s : State), TablesRise s → (s.pwr.overLimit = true ∨ s.pwr.low = true) → ∃ t, exec (.governorCycle) s = .next t
      ∧ t.pwr.held = s.pwr.held
      ∧ t.pwr.arrivals = []
      ∧ t.pwr.waiting.length = s.pwr.waiting.length + s.pwr.arrivals.length
      ∧ { t with pwr := s.pwr, dict := s.dict } = s)
  ∧ (∀ (r : Requester) (w q n : Nat) (s : State), TablesRise s → s.pwr.overLimit = false → s.pwr.low = false → s.pwr.waiting =
      [] → s.pwr.grants = [] → s.pwr.arrivals = [⟨r, w, q, n⟩] → q < 4 → s.pwr.heldWatts + w ≤ s.obj 0x2000 3 → w ≤ leaveFloor
      q → ∃ t, exec (.governorCycle) s = .next t
      ∧ t.pwr.held = s.pwr.held ++ [⟨r, w⟩]
      ∧ t.pwr.waiting = []
      ∧ t.pwr.arrivals = []
      ∧ t.obj 0x2000 4 = s.pwr.heldWatts + w)
  ∧ (∀ (s : State), ∃ t, exec (.governorCycle) s = .next t
      ∧ t.pwr.arrivals = []
      ∧ t.pwr.held.take s.pwr.held.length = s.pwr.held
      ∧ t.pwr.heldWatts ≤ max s.pwr.heldWatts (s.obj 0x2000 3))
  ∧ (∀ (r : Requester) (s : State), TablesRise s → s.pwr.has r = true → ∃ t, exec (.leaveRelease r) s = .next t
      ∧ t.pwr.has r = false
      ∧ t.pwr.held = s.pwr.held.filter (fun h => h.req != r)
      ∧ t.obj 0x2000 4 = t.pwr.heldWatts
      ∧ { t with pwr := s.pwr, dict := s.dict, cores := s.cores } = s)

/-- R457 to R467: the hottest valid sensor of a part is shown; a warning crossed raises one ADVISORY entry; the thermal
factor of a die falls by 5 at a crossed throttle threshold, never below 50; a part at its shut-down threshold takes the
module to step code 0x1D, fenced; the trip record is written once; the trip is cleared only when the parts and the
coolant allow it; a steward die at 120 °C loses everything but flash; coolant out of range for 1 s is logged. -/
def Obligations.ThermalLimitsAct : Prop :=
  (∀ (p : Fin 89) (xs : List Int) (x : Int) (i : Nat) (s : State), TablesRise s → s.thm.failed = [] → xs.all (fun y =>
      !outOfRange y && decide ((2 * y - median2 xs).natAbs ≤ 300)) = true → xs[i]? = some x → xs.all (fun y => decide (y ≤ x))
      = true → (xs.take i).all (fun y => decide (y < x)) = true → ∃ t, exec (.thermalSensorSample p xs) s = .next t
      ∧ t.hotOf p = some (x, i)
      ∧ t.obj (partObj p).1 (partObj p).2 = tempCode x
      ∧ t.thm.failed = []
      ∧ (s.warnAt p ≤ x → p.val ∈ t.thm.warn)
      ∧ (s.warnAt p ≤ x → p.val ∉ s.thm.warn → t.flt.raised = s.flt.raised ++
        [⟨mkEvent 0x14 sevAdvisory (partSource p) 0xFF 2 (tempCode x), s.gtNow⟩])
      ∧ { t with thm := s.thm, dict := s.dict, flt := { t.flt with raised := s.flt.raised } } = s)
  ∧ (∀ (p : Fin 89) (x : Int) (s : State), TablesRise s → s.thm.failed = [] → (x < -400 ∨ 1500 < x) → ∃ t, exec
      (.thermalSensorSample p [x]) s = .next t
      ∧ t.thm.failed = [sensorKey p 0]
      ∧ t.hotOf p = none
      ∧ t.obj (partObj p).1 (partObj p).2 = tempCode (-32768)
      ∧ (⟨mkEvent 0x14 sevAdvisory (partSource p) 0 1 p, s.gtNow⟩ : Raised) ∈ t.flt.raised
      ∧ (p.val < 80 → (t.die (partSource p)).factor = 50))
  ∧ (∀ (d : Fin 16) (s : State), TablesRise s → (s.die d).pstate ≠ 5 → (s.die d).phiAt + tickMs ≤ s.time → d.val ∈
      s.thm.hotParts → s.blind d = false → s.thm.cap = false → ∃ t, exec (.throttleEvaluate d) s = .next t
      ∧ (t.die d).factor = max 50 ((s.die d).factor - 5)
      ∧ t.obj 0x3004 (d + 1) = max 50 ((s.die d).factor - 5)
      ∧ (t.die d).phiAt = s.time
      ∧ (∀ k, k ≠ d.val → t.die k = s.die k)
      ∧ { t with thm := s.thm, dies := s.dies, dict := s.dict } = s)
  ∧ (∀ (d : Fin 16) (s : State), TablesRise s → (s.die d).pstate ≠ 5 → (s.die d).phiAt + tickMs ≤ s.time → d.val ∉
      s.thm.hotParts → (∀ k : Fin 4, 16 + 4 * d.val + k.val ∉ s.thm.hotParts) → (s.hotOf d = none ∨ (s.hotOf d).any (fun h =>
      decide (h.1 < 950)) = true) → (∀ k : Fin 4, s.hotOf (16 + 4 * d + k) = none ∨ (s.hotOf (16 + 4 * d + k)).any (fun h =>
      decide (h.1 < 900)) = true) → s.blind d = false → ∃ t, exec (.throttleEvaluate d) s = .next t
      ∧ (t.die d).factor = min (min 100 ((s.die d).factor + 5)) (if s.thm.cap then 75 else 100)
      ∧ (t.die d).phiAt = s.time
      ∧ (∀ k, k ≠ d.val → t.die k = s.die k)
      ∧ { t with thm := s.thm, dies := s.dies, dict := s.dict } = s)
  ∧ (∀ (d : Fin 16) (s : State), TablesRise s → (s.die d).pstate ≠ 5 → (s.die d).phiAt + tickMs ≤ s.time → s.blind d = true → ∃
      t, exec (.throttleEvaluate d) s = .next t
      ∧ (t.die d).factor = 50
      ∧ { t with thm := s.thm, dies := s.dies, dict := s.dict } = s)
  ∧ (∀ (p : Fin 89) (sn : BitVec 8) (x : Int) (s : State), TablesRise s → s.hotOf p = some (x, sn.toNat) → s.thm.trip = none →
      shutAt p ≤ x → ∃ t, exec (.thermalShutdown p sn) s = .next t
      ∧ t.bootStep = 0x1D
      ∧ t.obj 0x8000 1 = 3
      ∧ t.obj 0x8000 2 = 3
      ∧ t.obj 0x3000 5 = (s.obj 0x3000 5 + 1) % 2 ^ 32
      ∧ t.thm.trip = some { gt := s.gtNow, part := p, sensor := sn.toNat, temp := x, at_ := s.time }
      ∧ (∀ d, d < 16 → (t.die d).pstate = 5)
      ∧ t.thermtripPin = s.driven)
  ∧ (∀ (tr : Trip) (s : State), s.thm.trip = some tr → tr.written = false → ∃ t, exec (.tripRecordWrite) s = .next t
      ∧ t.flash.trips = (s.tripRecord tr :: s.flash.trips).take 16
      ∧ t.thm.trip = some { tr with written := true }
      ∧ t.flt.raised = s.flt.raised ++ [⟨mkEvent 0x14 sevFatal (partSource tr.part) tr.sensor 4 tr.part, s.gtNow⟩]
      ∧ { t with flash := s.flash, thm := s.thm, flt := { t.flt with raised := s.flt.raised } } = s)
  ∧ (∀ (s : State), ∃ t, exec (.analogueTrip) s = .next t
      ∧ t.flash = s.flash
      ∧ t.boot.off = true
      ∧ t.mem = []
      ∧ t.cores = []
      ∧ t.thm.trip = none
      ∧ t.flt.raised = []
      ∧ t.pending = s.pending)
  ∧ (∀ (v : BitVec 8) (s : State), TablesRise s → Writable s → ∃ t, exec (.thmTripClear v) s = .next t
      ∧ (v ≠ 1 → t.sys.lastStatus = rpRange ∧ { t with sys := { t.sys with lastStatus := s.sys.lastStatus } } = s)
      ∧ (v = 1 → (s.thm.trip = none ∨ s.cooled = false ∨ s.coolantOk = false) → t.sys.lastStatus = rpState ∧
        { t with sys := { t.sys with lastStatus := s.sys.lastStatus } } = s)
      ∧ (v = 1 → s.thm.trip ≠ none → s.cooled = true → s.coolantOk = true → t.sys.lastStatus = rpOk ∧ t.thm.trip = none ∧
        t.bootStep = 3))
  ∧ (∀ (i o : Int) (f : Nat) (s : State), TablesRise s → f < 2 ^ 32 → 800 ≤ f → s.thm.cap = false → ∃ t, exec (.coolantSample i
      o f true) s = .next t
      ∧ t.obj 0x3000 1 = tempCode i
      ∧ t.obj 0x3000 2 = tempCode o
      ∧ t.obj 0x3000 3 = f
      ∧ ((350 < i ∨ f < 1200) → t.thm.badSince = some (s.thm.badSince.getD s.time))
      ∧ (i ≤ 350 → 1200 ≤ f → t.thm.badSince = none ∧ t.flt = s.flt)
      ∧ ((350 < i ∨ f < 1200) → stood s.thm.badSince tickS s.time = true → s.thm.badLogged = false → t.flt.raised =
        s.flt.raised ++ [⟨mkEvent 0x14 sevAdvisory 24 0xFF 6 (tempCode i), s.gtNow⟩])
      ∧ { t with thm := s.thm, dict := s.dict, flt := { t.flt with raised := s.flt.raised } } = s)
  ∧ (∀ (i o : Int) (f : Nat) (s : State), TablesRise s → f < 800 → s.thm.cap = false → stood s.thm.lowSince tickS s.time = true
      → ∃ t, exec (.coolantSample i o f true) s = .next t
      ∧ t.thm.cap = true
      ∧ (∀ d, d < 16 → (t.die d).factor = min 75 (s.die d).factor))
  ∧ (∀ (i o : Int) (f : Nat) (s : State), s.thm.coolFailed = false → ∃ t, exec (.coolantSample i o f false) s = .next t
      ∧ t.thm.coolFailed = true
      ∧ t.flt.raised = s.flt.raised ++ [⟨mkEvent 0x14 sevAdvisory 24 0xFF 5 0, s.gtNow⟩]
      ∧ { t with thm := s.thm, flt := { t.flt with raised := s.flt.raised } } = s)

/-- R470 to R478, R483, R485: a healthy controller writes its heartbeat; the ball stays with a holder whose heartbeat is
current, passes to an eligible standby, or is unheld; a claim stands until it is answered; a watchdog ends health; a boot
ends in HOT while nobody holds the ball; a standby that has synchronised shows HOT; 1 s without a holder fences the
module; a handover moves the ball to a HOT standby; a store keeps a snapshot; a restore voids the record. -/
def Obligations.ControllersShareTheBall : Prop :=
  (∀ (c : Ctrl) (s : State), (s.ctrl c).healthy = true → (s.ctrl c).st ≠ 0 → (s.ctrl c).st ≠ 5 → ((s.ctrl c).st = 4 →
      s.sys.ball = some c) → ∃ t, exec (.heartbeat c) s = .next t
      ∧ (t.ctrl c).hb = some s.time
      ∧ (t.ctrl (otherCtrl c)) = s.ctrl (otherCtrl c)
      ∧ t.sys.ball = s.sys.ball
      ∧ { t with sys := s.sys } = s)
  ∧ (∀ (c : Ctrl) (s : State), (s.ctrl c).healthy = true → (s.ctrl c).st = 4 → s.sys.ball ≠ some c → ∃ t, exec (.heartbeat c) s
      = .next t
      ∧ (t.ctrl c).st = 1
      ∧ (t.ctrl c).hb = none
      ∧ (t.ctrl (otherCtrl c)) = s.ctrl (otherCtrl c)
      ∧ { t with sys := s.sys, dict := s.dict } = s)
  ∧ (∀ (c : Ctrl) (s : State), s.sys.ball = some c → s.hbCurrent c = true → s.sys.a.claim = false → s.sys.b.claim = false →
      s.sys.a.healthy = true → s.sys.b.healthy = true → ∃ t, exec (.ballEvaluate) s = .next t
      ∧ t = s)
  ∧ (∀ (c : Ctrl) (s : State), TablesRise s → s.sys.ball = some c → s.sys.last = some c → s.hbCurrent c = false →
      s.ballEligible (otherCtrl c) = true → s.sys.a.claim = false → s.sys.b.claim = false → s.sys.a.healthy = true →
      s.sys.b.healthy = true → ∃ t, exec (.ballEvaluate) s = .next t
      ∧ t.sys.ball = some (otherCtrl c)
      ∧ t.sys.last = some (otherCtrl c)
      ∧ (t.ctrl (otherCtrl c)).st = 4
      ∧ t.sec.nonces = []
      ∧ t.host.event.toNat.testBit 1 = true
      ∧ t.flt.raised = s.flt.raised ++ [⟨ctrlEvent sevAdvisory 0 (otherCtrl c), s.gtNow⟩])
  ∧ (∀ (c : Ctrl) (s : State), s.sys.ball = some c → s.hbCurrent c = false → s.ballEligible (otherCtrl c) = false →
      s.sys.a.claim = false → s.sys.b.claim = false → s.sys.a.healthy = true → s.sys.b.healthy = true → ∃ t, exec
      (.ballEvaluate) s = .next t
      ∧ t.sys.ball = none
      ∧ t.sys.unheld = some s.time
      ∧ { t with sys := s.sys } = s)
  ∧ (∀ (c : Ctrl) (s : State), s.sys.ball = none → s.ballEligible c = true → (s.ballEligible (otherCtrl c) = false ∨ s.sys.last
      = some c ∨ (s.sys.last = none ∧ c = .a)) → s.sys.a.claim = false → s.sys.b.claim = false → s.sys.a.healthy = true →
      s.sys.b.healthy = true → ∃ t, exec (.ballEvaluate) s = .next t
      ∧ t.sys.ball = some c
      ∧ t.sys.last = some c
      ∧ t.sys.unheld = none
      ∧ (t.ctrl c).st = 4
      ∧ (t.ctrl (otherCtrl c)) = s.ctrl (otherCtrl c))
  ∧ (∀ (c : Ctrl) (s : State), TablesRise s → s.sys.ball = some (otherCtrl c) → s.hbCurrent (otherCtrl c) = true → (s.ctrl
      c).claim = true → (s.ctrl (otherCtrl c)).claim = false → s.sys.a.healthy = true → s.sys.b.healthy = true → (s.ctrl c).st
      = 3 → s.obj 0x1020 5 < 1000 → s.obj 0x1020 4 < 1000 → ∃ t, exec (.ballEvaluate) s = .next t
      ∧ t.sys.ball = s.sys.ball
      ∧ (t.ctrl c).st = 1
      ∧ (t.ctrl c).claim = false
      ∧ t.obj 0x1020 5 = s.obj 0x1020 5 + 1
      ∧ t.obj 0x1020 4 = s.obj 0x1020 4 + 1
      ∧ (t.ctrl (otherCtrl c)) = s.ctrl (otherCtrl c)
      ∧ { t with sys := s.sys, dict := s.dict } = s)
  ∧ (∀ (c : Ctrl) (s : State), 1 ≤ (s.ctrl c).st → (s.ctrl c).st ≤ 4 → ∃ t, exec (.ballClaim c) s = .next t
      ∧ (t.ctrl c).claim = true
      ∧ (t.ctrl (otherCtrl c)) = s.ctrl (otherCtrl c)
      ∧ { t with sys := s.sys } = s)
  ∧ (∀ (c : Ctrl) (s : State), (s.ctrl c).st ≠ 0 → (s.ctrl c).st ≠ 5 → ∃ t, exec (.controllerWatchdog c) s = .next t
      ∧ (t.ctrl c).healthy = false
      ∧ (t.ctrl (otherCtrl c)) = s.ctrl (otherCtrl c)
      ∧ { t with sys := s.sys } = s)
  ∧ (∀ (c : Ctrl) (k : Nat) (s : State), (s.ctrl c).st = 1 → s.bootSlot = some k → s.sys.ball = none → ∃ t, exec
      (.controllerBootDone c) s = .next t
      ∧ (t.ctrl c).st = 3
      ∧ (t.ctrl c).failed = 0
      ∧ (t.ctrl c).slot = k
      ∧ (t.ctrl c).hb = some s.time
      ∧ { t with sys := s.sys, flt := { t.flt with raised := s.flt.raised } } = s)
  ∧ (∀ (c h : Ctrl) (k : Nat) (s : State), (s.ctrl c).st = 1 → s.bootSlot = some k → s.sys.ball = some h → h = otherCtrl c →
      imgMirror (s.fw k).image = imgMirror (s.fw (s.ctrl h).slot).image → ∃ t, exec (.controllerBootDone c) s = .next t
      ∧ (t.ctrl c).st = 2
      ∧ (t.ctrl c).slot = k
      ∧ t.sys.ball = s.sys.ball
      ∧ { t with sys := s.sys, flt := { t.flt with raised := s.flt.raised } } = s)
  ∧ (∀ (c : Ctrl) (s : State), TablesRise s → (s.ctrl c).st = 1 → s.bootSlot = none → ∃ t, exec (.controllerBootDone c) s =
      .next t
      ∧ (t.ctrl c).failed = (s.ctrl c).failed + 1
      ∧ ((t.ctrl c).st = if (s.ctrl c).failed + 1 < 3 then 1 else 5)
      ∧ (t.ctrl (otherCtrl c)) = s.ctrl (otherCtrl c)
      ∧ { t with sys := s.sys, dict := s.dict, flt := { t.flt with raised := s.flt.raised } } = s)
  ∧ (∀ (c : Ctrl) (s : State), (s.ctrl c).st = 2 → s.sys.ball = some (otherCtrl c) → ∃ t, exec (.mirrorSyncDone c) s = .next t
      ∧ (t.ctrl c).st = 3
      ∧ (t.ctrl c).failed = 0
      ∧ t.sys.ball = s.sys.ball
      ∧ { t with sys := s.sys } = s)
  ∧ (∀ (t0 : Nat) (s : State), TablesRise s → s.sys.unheld = some t0 → t0 + tickS ≤ s.time → s.sys.fenceDue = false → ∃ t, exec
      (.ballUnheldFence) s = .next t
      ∧ t.sys.fenceDue = true
      ∧ t.fenced = true
      ∧ (s.driven = true → t.faultPin = true)
      ∧ (s.fenced = false → t.obj 0x8000 2 = 3))
  ∧ (∀ (h : Ctrl) (s : State), TablesRise s → Writable s → s.sys.ball = some h → s.sys.handover = false → (s.ctrl (otherCtrl
      h)).st = 3 → s.sys.snap = none → ∃ t, exec (.sysHandover 1) s = .next t
      ∧ t.sys.ball = some (otherCtrl h)
      ∧ (t.ctrl (otherCtrl h)).st = 4
      ∧ (t.ctrl h).st = 3
      ∧ t.sys.lastStatus = rpOk
      ∧ t.flt = { s.flt with raised := s.flt.raised ++ [⟨softEvent 24 0xFF 0x1800 0x180001, s.gtNow⟩] })
  ∧ (∀ (h : Ctrl) (s : State), Writable s → s.sys.ball = some h → s.sys.handover = false → (s.ctrl (otherCtrl h)).st = 3 →
      s.sys.snap.isSome = true → ∃ t, exec (.sysHandover 1) s = .next t
      ∧ t.sys.handover = true
      ∧ t.sys.ball = s.sys.ball
      ∧ t.sys.lastStatus = rpOk)
  ∧ (∀ (v : BitVec 8) (h : Ctrl) (s : State), Writable s → s.sys.ball = some h → ∃ t, exec (.sysHandover v) s = .next t
      ∧ (v ≠ 1 → t.sys.lastStatus = rpRange ∧ { t with sys := { t.sys with lastStatus := s.sys.lastStatus } } = s)
      ∧ (v = 1 → s.sys.handover = true → t.sys.lastStatus = rpBusy ∧
        { t with sys := { t.sys with lastStatus := s.sys.lastStatus } } = s)
      ∧ (v = 1 → s.sys.handover = false → (s.ctrl (otherCtrl h)).st ≠ 3 → t.sys.lastStatus = rpState ∧
        { t with sys := { t.sys with lastStatus := s.sys.lastStatus } } = s))
  ∧ (∀ (v : BitVec 32) (s : State), Writable s → ∃ t, exec (.sysStore v) s = .next t
      ∧ (v ≠ 0x65766173 → t.sys.lastStatus = rpRange ∧ { t with sys := { t.sys with lastStatus := s.sys.lastStatus } } = s)
      ∧ (v = 0x65766173 → (s.sys.snap.isSome = true ∨ s.sys.handover = true) → t.sys.lastStatus = rpBusy ∧ t.sys.snap =
        s.sys.snap)
      ∧ (v = 0x65766173 → s.sys.snap = none → s.sys.handover = false → t.sys.lastStatus = rpOk ∧ t.sys.snap = some
        s.savedValues ∧ t.sys.snapAt = s.time)
      ∧ { t with sys := s.sys } = s)
  ∧ (∀ (v : BitVec 32) (s : State), Writable s → ∃ t, exec (.sysRestore v) s = .next t
      ∧ (v ≠ 0x64616F6C → t.sys.lastStatus = rpRange ∧ t.flash = s.flash)
      ∧ (v = 0x64616F6C → s.sys.snap.isSome = true → t.sys.lastStatus = rpBusy ∧ t.flash = s.flash)
      ∧ (v = 0x64616F6C → s.sys.snap = none → t.sys.lastStatus = rpOk ∧ t.flash = { s.flash with configVoid := true } ∧
        t.storeState = 3)
      ∧ { t with sys := { t.sys with lastStatus := s.sys.lastStatus }, flash := s.flash } = s)

/-- R529, R531, R536 to R539, R541: power and reset keep flash and lose the rest, and enter the sequence at step 0 or 1; a
step that is done begins the next; READY comes with step 12, after lock or after BOOT.GT_WAIT_MS; a step that overruns is
retried once from step 3 and then shows code 0x1F; losing the panel reference fences the module at code 0x1F. -/
def Obligations.StartUpSequence : Prop :=
  (∀ (s : State), TablesRise s → ∃ t, exec (.powerApplied) s = .next t
      ∧ t.bootStep = 0
      ∧ t.flash.config = s.flash.config
      ∧ t.mem = []
      ∧ t.cores = []
      ∧ t.sys = { }
      ∧ t.boot.off = false
      ∧ t.obj 0x2000 0x0A = 3
      ∧ t.obj 0xB000 2 = 0
      ∧ t.pending = s.pending)
  ∧ (∀ (s : State), TablesRise s → s.boot.off = false → ∃ t, exec (.modResetAssert) s = .next t
      ∧ t.bootStep = 1
      ∧ t.boot.inReset = true
      ∧ t.flash = s.flash
      ∧ t.cores = []
      ∧ t.sys.ball = none
      ∧ t.sys.last = s.sys.last
      ∧ t.thm.trip = s.thm.trip
      ∧ t.host.event = 0
      ∧ t.readyPin = false
      ∧ (s.inStandby = false → ∀ d a, d < 16 → a < 2 ^ 44 → t.byte d a = 0))
  ∧ (∀ (s : State), TablesRise s → s.boot.inReset = true → ∃ t, exec (.modResetRelease) s = .next t
      ∧ t.bootStep = 1
      ∧ t.boot.inReset = false
      ∧ t.sys.a.st = 1
      ∧ t.sys.b.st = 1
      ∧ t.obj 0xB000 2 = 1
      ∧ t.flash.config = s.flash.config)
  ∧ (∀ (r : StepResult) (s : State), TablesRise s → s.driven = true → s.bootStep = 0 → s.boot.stepAt + 10 * tickMs ≤ s.time →
      s.pwr.low = false → ∃ t, exec (.startupStepEnd r) s = .next t
      ∧ t.bootStep = 1
      ∧ t.boot.stepAt = s.time
      ∧ t.sys.a.st = 1
      ∧ t.sys.b.st = 1
      ∧ t.obj 0xB001 1 = (s.time - s.boot.stepAt) / tickMs
      ∧ t.host.configAt = s.time + 100 * tickMs
      ∧ t.mem = s.mem)
  ∧ (∀ (r : StepResult) (s : State), TablesRise s → s.driven = true → (s.bootStep = 3 ∨ s.bootStep = 5 ∧ s.leaveFor 5 = true ∧
      r.badRows = [] ∧ r.badLanes = []) → ∃ t, exec (.startupStepEnd r) s = .next t
      ∧ t.bootStep = s.bootStep + 1
      ∧ t.boot.stepAt = s.time
      ∧ { t with dict := s.dict, boot := s.boot } = s)
  ∧ (∀ (r : StepResult) (s : State), TablesRise s → s.driven = true → s.bootStep ≤ 11 → s.stepDone r s.bootStep = true → ∃ t,
      exec (.startupStepEnd r) s = .next t
      ∧ t.boot.stepAt = s.time
      ∧ (s.bootStep ≠ 2 → s.bootStep ≠ 6 → t.bootStep = s.bootStep + 1)
      ∧ (s.bootStep = 2 → t.bootStep = if s.thm.trip.isSome then 0x1D else if s.boot.refLost then 0x1F else 3)
      ∧ (s.bootStep = 6 → t.bootStep = 7 ∨ (t.bootStep = 0x1F ∧ t.present = [])))
  ∧ (∀ (r : StepResult) (s : State), TablesRise s → s.driven = true → s.bootStep = 2 → s.thm.trip = none → s.boot.refLost =
      false → ∃ t, exec (.startupStepEnd r) s = .next t
      ∧ t.bootStep = 3
      ∧ t.boot.badPrints = r.badPrints.map Fin.val
      ∧ t.obj 0x9000 2 = (putBits r.identity 1 1 (!r.badPrints.isEmpty).toNat).toNat
      ∧ t.flash.configValid = r.configValid
      ∧ t.boot.svcPort = t.obj 0x1030 2
      ∧ t.mem = s.mem)
  ∧ (∀ (r : StepResult) (s : State), TablesRise s → s.driven = true → s.bootStep = 4 → s.leaveFor 4 = true → ∃ t, exec
      (.startupStepEnd r) s = .next t
      ∧ t.bootStep = 5
      ∧ (∀ p ∈ r.badSlots, (s.die p.1).pstate ≠ 5 → p.2.val ∈ (t.die p.1).retired)
      ∧ (r.checkersOk = false → t.flt.raised.any (fun x => x.ev == mkEvent 0x16 sevUnmasked 24 0xFF 0 0) = true)
      ∧ t.mem = s.mem)
  ∧ (∀ (r : StepResult) (s : State), TablesRise s → s.driven = true → s.bootStep = 6 → s.leaveFor 6 = true → ∃ t, exec
      (.startupStepEnd r) s = .next t
      ∧ (∀ d ∈ r.stoppedDies, (t.die d).pstate = 5 ∧ (t.obj 0xB000 4).testBit d = true)
      ∧ (∀ d, d < 16 → t.pwr.has (.startTest (Fin.ofNat 16 d)) = false)
      ∧ t.pwr.kept = 0)
  ∧ (∀ (r : StepResult) (s : State), TablesRise s → s.driven = true → s.bootStep = 7 → s.leaveFor 7 = true → ∃ t, exec
      (.startupStepEnd r) s = .next t
      ∧ t.bootStep = 8
      ∧ (∀ d, d < 16 → (s.die d).pstate = 3 → (s.die d).everActive = false → (t.die d).everActive = true ∧ (t.die d).pstate =
        0)
      ∧ (∀ d, d < 25 → t.pwr.has (.startLanes (Fin.ofNat 25 d)) = false))
  ∧ (∀ (r : StepResult) (s : State), TablesRise s → s.driven = true → s.bootStep = 8 → s.stepDone r 8 = true → ∃ t, exec
      (.startupStepEnd r) s = .next t
      ∧ t.bootStep = 9
      ∧ (∀ l ∈ r.failedLights, (t.light l).st = 4 ∧ (t.obj 0xB000 4).testBit (16 + l) = true ∧ ∀ b, b < 17 → (t.bank (17 * l +
        b)).st = 7))
  ∧ (∀ (r : StepResult) (s : State), TablesRise s → s.driven = true → s.bootStep = 1 → s.sys.ball ≠ none → ∃ t, exec
      (.startupStepEnd r) s = .next t
      ∧ t.bootStep = 2
      ∧ t.boot.straps = r.straps
      ∧ { t with dict := s.dict, boot := s.boot } = s)
  ∧ (∀ (r : StepResult) (s : State), TablesRise s → s.driven = true → s.bootStep = 2 → s.thm.trip.isSome = true → ∃ t, exec
      (.startupStepEnd r) s = .next t
      ∧ t.bootStep = 0x1D)
  ∧ (∀ (r : StepResult) (s : State), TablesRise s → s.driven = true → s.bootStep = 11 → s.gt.st = 1 → ∃ t, exec
      (.startupStepEnd r) s = .next t
      ∧ t.bootStep = 12
      ∧ t.readyPin = true
      ∧ t.host.event.toNat.testBit 0 = true
      ∧ t.flt.ump.readyAt = s.time
      ∧ t.mem = s.mem)
  ∧ (∀ (s : State), TablesRise s → s.driven = true → s.bootStep = 11 → s.boot.stepAt + s.obj 0xB800 1 * tickMs ≤ s.time → ∃ t,
      exec (.gtWaitExpire) s = .next t
      ∧ t.bootStep = 12
      ∧ t.readyPin = true
      ∧ t.gt = s.gt
      ∧ t.mem = s.mem)
  ∧ (∀ (s : State), TablesRise s → s.driven = true → s.bootStep ≤ 11 → s.boot.stepAt + 2 * s.stepMax s.bootStep < s.time →
      s.boot.retried = false → ∃ t, exec (.startupStepOverrun) s = .next t
      ∧ t.bootStep = 3
      ∧ t.boot.retried = true
      ∧ t.boot.stepAt = s.time)
  ∧ (∀ (s : State), TablesRise s → s.driven = true → s.bootStep ≤ 11 → s.boot.stepAt + 2 * s.stepMax s.bootStep < s.time →
      s.boot.retried = true → ∃ t, exec (.startupStepOverrun) s = .next t
      ∧ t.bootStep = 0x1F
      ∧ t.faultPin = true
      ∧ { t with dict := s.dict, boot := s.boot } = s)
  ∧ (∀ (s : State), TablesRise s → s.driven = true → s.boot.refLost = false → 1 < s.bootStep → ∃ t, exec (.panelReferenceLost)
      s = .next t
      ∧ t.bootStep = 0x1F
      ∧ t.boot.refLost = true
      ∧ t.fenced = true
      ∧ (∀ d, d < 16 → (t.die d).pstate = 5)
      ∧ t.faultPin = true)
  ∧ (∀ (s : State), TablesRise s → ∃ t, exec (.panelReferenceReturn) s = .next t
      ∧ t.boot.refLost = false
      ∧ (s.boot.refHold = true → t.bootStep = 3 ∧ t.boot.refHold = false ∧ t.boot.stepAt = s.time)
      ∧ (s.boot.refHold = false → { t with boot := s.boot } = s))
  ∧ (∀ (p : Nat) (s : State), s.gt.up = some p → s.gt.st = 1 → (s.gtPort p).at_ + 10 * tickUs < s.time → ∃ t, exec
      (.upstreamPortLost) s = .next t
      ∧ (∀ q, s.sameTree (s.gt.hops.toNat - 1) = some q → t.gt.up = some q ∧ t.gt.st = 1 ∧ t.gt.hops = (s.gtPort q).hops + 1 ∧
        { t with gt := s.gt } = s)
      ∧ (s.sameTree (s.gt.hops.toNat - 1) = none → t.gt.up = none ∧ t.gt.st = 2 ∧ t.gt.waiting = true ∧
        (⟨moduleEvent 0x0F sevAdvisory 0 0, s.gtNow⟩ : Raised) ∈ t.flt.raised))

/-- R480 to R482, R489, R492, R493, R508, R514: the next request of a session is executed in it, its counter taken; READ
answers the value; a WRITE of an object kept as it is written stores it; READ_SEG answers bytes from OFFSET; a segment
with MORE is kept; LIST answers the descriptor of the first object or NO_OBJECT; CLOSE ends the session; QUOTE answers a
quote, at most one in 10 ms. A request with the wrong counter, or of no session, changes nothing but its refusal. -/
def Obligations.MihimelRequests : Prop :=
  (∀ (r : MReq) (x : Session) (s : State), TablesRise s → NextRequest s r x → r.payload = [] → readStatus x.role
      r.index.toNat r.sub.toNat = rpOk → (s.objBytes r.index.toNat r.sub.toNat).length ≤ 1024 → ∃ t, exec (.read r) s = .next t
      ∧ .mihimel r.transport (frameBytes 0x10 r true r.more rpOk (s.objBytes r.index.toNat r.sub.toNat)) ∈ t.out
      ∧ t.session (r.session.toNat - 1) = some
        { x with counter := r.counter, lastAt := s.time, seg := none, reply := frameBytes 0x10 r true r.more rpOk (s.objBytes r.index.toNat r.sub.toNat) }
      ∧ { t with host := s.host, out := s.out, sys := { t.sys with sessions := s.sys.sessions } } = s)
  ∧ (∀ (r : MReq) (x : Session) (o : ObjRow) (s : State), TablesRise s → NextRequest s r x → 2 < s.bootStep → objAt
      r.index.toNat r.sub.toNat = some o → o.acc ≠ .ro → o.role.code ≤ x.role → r.payload.length = objSize o.ty →
      r.payload.length ≤ 1024 → valueOk o r.sub.toNat (ofBytes r.payload) = true → (s.objOp o.idx r.sub.toNat (ofBytes
      r.payload)).isNone = true → s.objBarred o.idx r.sub.toNat = false → (o.idx ≠ 0x8800 ∧ o.idx ≠ 0x7800 ∧ r.index ≠ 0xB102)
      → ∃ t, exec (.write r) s = .next t
      ∧ t.obj r.index.toNat r.sub.toNat = ofBytes r.payload
      ∧ .mihimel r.transport (frameBytes 0x11 r true r.more rpOk []) ∈ t.out
      ∧ t.mem = s.mem)
  ∧ (∀ (r : MReq) (x : Session) (s : State), NextRequest s r x → r.payload.length ≤ 1024 → writeStatus x.role r.index.toNat
      r.sub.toNat ≠ rpOk → ∃ t, exec (.write r) s = .next t
      ∧ .mihimel r.transport (frameBytes 0x11 r true r.more (writeStatus x.role r.index.toNat r.sub.toNat) []) ∈ t.out
      ∧ { t with host := s.host, out := s.out, sys := { t.sys with sessions := s.sys.sessions } } = s)
  ∧ (∀ (r : MReq) (x : Session) (s : State), NextRequest s r x → r.payload = [] → readStatus x.role r.index.toNat r.sub.toNat ≠
      rpOk → ∃ t, exec (.read r) s = .next t
      ∧ .mihimel r.transport (frameBytes 0x10 r true r.more (readStatus x.role r.index.toNat r.sub.toNat) []) ∈ t.out
      ∧ { t with host := s.host, out := s.out, sys := { t.sys with sessions := s.sys.sessions } } = s)
  ∧ (∀ (r : MReq) (x : Session) (s : State), TablesRise s → NextRequest s r x → r.payload = [] → readStatus x.role
      r.index.toNat r.sub.toNat = rpOk → ∃ t, exec (.readSeg r) s = .next t
      ∧ .mihimel r.transport (frameBytes 0x12 r true (decide (r.offset.toNat + 1024 < (s.objBytes r.index.toNat
        r.sub.toNat).length)) rpOk (((s.objBytes r.index.toNat r.sub.toNat).drop r.offset.toNat).take 1024)) ∈ t.out
      ∧ { t with host := s.host, out := s.out, sys := { t.sys with sessions := s.sys.sessions } } = s)
  ∧ (∀ (r : MReq) (x : Session) (o : ObjRow) (s : State), TablesRise s → NextRequest s r x → r.more = true → r.payload.length =
      1024 → objAt r.index.toNat r.sub.toNat = some o → writeStatus x.role r.index.toNat r.sub.toNat = rpOk → s.segBusy
      (r.session.toNat - 1) r.index.toNat r.sub.toNat = false → x.seg = none → r.offset = 0 → 1024 < objSize o.ty → ∃ t, exec
      (.writeSeg r) s = .next t
      ∧ .mihimel r.transport (frameBytes 0x13 r true true rpOk []) ∈ t.out
      ∧ (t.session (r.session.toNat - 1)).map (·.seg) = some (some (r.index.toNat, r.sub.toNat, r.payload))
      ∧ { t with host := s.host, out := s.out, sys := { t.sys with sessions := s.sys.sessions } } = s)
  ∧ (∀ (r : MReq) (x : Session) (s : State), NextRequest s r x → r.payload = [] → ∃ t, exec (.list r) s = .next t
      ∧ ((objTable.zip objNames).all (fun e => decide (e.1.idx < r.index.toNat) || (e.1.idx == r.index.toNat && decide (e.1.hi
        < r.sub.toNat))) = true → .mihimel r.transport (frameBytes 0x14 r true r.more rpNoObject []) ∈ t.out)
      ∧ ((r.index = 0 ∧ r.sub = 0) → .mihimel r.transport (frameBytes 0x14 r true r.more rpOk ([2, 0, 0, 0, 0, 0, 0, 0, 1, 0,
        0, 0, 0, 0x10, 0] ++ strBytes 48 "SYS.ENTRIES")) ∈ t.out)
      ∧ { t with host := s.host, out := s.out, sys := { t.sys with sessions := s.sys.sessions } } = s)
  ∧ (∀ (r : MReq) (x : Session) (s : State), TablesRise s → NextRequest s r x → r.payload = [] → ∃ t, exec (.close r) s = .next
      t
      ∧ t.session (r.session.toNat - 1) = none
      ∧ .mihimel r.transport (frameBytes 0x05 r true r.more rpOk []) ∈ t.out
      ∧ (∀ k, k ≠ r.session.toNat - 1 → t.session k = s.session k)
      ∧ { t with host := s.host, out := s.out, sys := { t.sys with sessions := s.sys.sessions } } = s)
  ∧ (∀ (r : MReq) (x : Session) (s : State), TablesRise s → NextRequest s r x → r.payload.length = 32 → s.sec.quoteAt.all (fun
      q => decide (q + 10 * tickMs ≤ s.time)) = true → ∃ t, exec (.quote r) s = .next t
      ∧ .mihimel r.transport (frameBytes 0x06 r true r.more rpOk (s.quote r.payload)) ∈ t.out
      ∧ t.sec.quoteAt = some s.time
      ∧ { t with host := s.host, out := s.out, sys := { t.sys with sessions := s.sys.sessions }, sec := s.sec } = s)
  ∧ (∀ (r : MReq) (x : Session) (s : State), Serves s r.transport → r.payload = [] → r.session ≠ 0 → s.session (r.session.toNat
      - 1) = some x → x.transport = r.transport → s.executing r.session = false → r.counter ≠ x.counter → r.counter ≠ x.counter
      + 1 → ∃ t, exec (.read r) s = .next t
      ∧ .mihimel r.transport (frameBytes 0x10 r true r.more rpCounter []) ∈ t.out
      ∧ { t with host := s.host, out := s.out } = s)
  ∧ (∀ (r : MReq) (s : State), Serves s r.transport → r.payload = [] → (r.session = 0 ∨ s.session (r.session.toNat - 1) = none)
      → ∃ t, exec (.close r) s = .next t
      ∧ .mihimel r.transport (frameBytes 0x05 r true r.more rpSession []) ∈ t.out
      ∧ { t with host := s.host, out := s.out } = s)
  ∧ (∀ (k : Fin 4) (x : Session) (s : State), TablesRise s → s.session k = some x → x.lastAt + 300 * tickS ≤ s.time →
      s.executing (BitVec.ofNat 8 (k.val + 1)) = false → ∃ t, exec (.sessionIdleExpire k) s = .next t
      ∧ t.session k = none
      ∧ (∀ j, j ≠ k.val → t.session j = s.session j)
      ∧ { t with sys := { t.sys with sessions := s.sys.sessions } } = s)

/-- R501 to R513: HELLO keeps a nonce of at most eight and answers it; a PROVE uses its nonce up and opens a session
exactly where the proof fits; OPEN_LOCAL opens a session with SEC.MAILBOX_ROLE; a locked slot unlocks after its time; a
changed credential closes every session opened through its slot; an image is checked when its last segment is accepted;
BOOT.CTRL_RESTART resets the standby; BOOT.COMMIT_SVN keeps the SVN of the running image; with no valid slot at either
controller recovery begins. Whether a signature or a password fits is free (notes/assumptions/5.md). -/
def Obligations.SessionsOpenAndCredentials : Prop :=
  (∀ (r : MReq) (m : Nat) (s : State), Serves s r.transport → r.session = 0 → r.payload.length = 2 → ofBytes (r.payload.take
      1) = m → (m = 1 ∨ m = 2) → ∃ t, exec (.hello r) s = .next t
      ∧ .mihimel r.transport (frameBytes 0x01 r true r.more rpOk (toBytes 32 (Config.random s.draw).toNat)) ∈ t.out
      ∧ ({ value := Config.random s.draw, method := m, slot := ofBytes (r.payload.drop 1), at_ := s.time } : Nonce) ∈
        t.sec.nonces
      ∧ (s.sec.nonces.length ≤ 8 → t.sec.nonces.length ≤ 8)
      ∧ t.draw = s.draw + 1
      ∧ t.sys = s.sys)
  ∧ (∀ (r : MReq) (n : Nonce) (s : State), TablesRise s → Serves s r.transport → r.session = 0 → r.payload.length = 65 →
      ofBytes (r.payload.take 1) < 8 → mapGet 0 s.sec.locked (ofBytes (r.payload.take 1)) = 0 → s.slotRole 1 (ofBytes
      (r.payload.take 1)) ≠ 0xFF → s.sec.nonces = [n] → n.method = 1 → n.slot = ofBytes (r.payload.take 1) → s.time ≤ n.at_ +
      10 * tickS → s.sys.sessions = [] → ∃ t, exec (.proveKey r) s = .next t
      ∧ (t.session 0).isSome = Config.edVerify (toBytes 32 (s.slotSecret 1 n.slot)) (proveMessage n r.transport)
        (r.payload.drop 1)
      ∧ t.sec.nonces = []
      ∧ (∀ x, t.session 0 = some x → x.role = s.slotRole 1 n.slot ∧ x.transport = r.transport ∧ x.method = 1 ∧ x.slot = n.slot))
  ∧ (∀ (r : MReq) (n : Nonce) (s : State), TablesRise s → Serves s r.transport → r.session = 0 → 2 ≤ r.payload.length →
      r.payload.length ≤ 65 → ofBytes (r.payload.take 1) < 4 → mapGet 0 s.sec.locked (8 + ofBytes (r.payload.take 1)) = 0 →
      s.slotRole 2 (ofBytes (r.payload.take 1)) ≠ 0xFF → s.sec.nonces = [n] → n.method = 2 → n.slot = ofBytes (r.payload.take
      1) → s.time ≤ n.at_ + 10 * tickS → s.sys.sessions = [] → ∃ t, exec (.provePassword r) s = .next t
      ∧ (t.session 0).isSome = (Config.sha512 ((toBytes 80 (s.slotSecret 2 n.slot)).take 16 ++ r.payload.drop 1) == (toBytes 80
        (s.slotSecret 2 n.slot)).drop 16)
      ∧ t.sec.nonces = []
      ∧ (∀ x, t.session 0 = some x → x.role = s.slotRole 2 n.slot ∧ x.transport = r.transport ∧ x.method = 2 ∧ x.slot = n.slot))
  ∧ (∀ (r : MReq) (k : Nat) (s : State), TablesRise s → Serves s r.transport → r.transport = .mailbox → r.session = 0 →
      r.payload = [] → s.obj 0x9000 5 ≠ 0xFF → s.freeSession = some k → ∃ t, exec (.openLocal r) s = .next t
      ∧ t.session k = some { transport := .mailbox, role := s.obj 0x9000 5, method := 3, slot := 0, lastAt := s.time }
      ∧ .mihimel .mailbox (frameBytes 0x04 r true r.more rpOk (toBytes 1 (k + 1) ++ toBytes 1 (s.obj 0x9000 5))) ∈ t.out
      ∧ (∀ j, j ≠ k → t.session j = s.session j))
  ∧ (∀ (n : Fin 4) (s : State), TablesRise s → mapGet 0 s.sec.locked (8 + n) ≠ 0 → mapGet 0 s.sec.locked (8 + n) ≤ s.time + 1 →
      ∃ t, exec (.slotLockoutEnd (.password n)) s = .next t
      ∧ mapGet 0 t.sec.locked (8 + n) = 0
      ∧ (∀ k, k ≠ 8 + n.val → mapGet 0 t.sec.locked k = mapGet 0 s.sec.locked k)
      ∧ { t with sec := { t.sec with locked := s.sec.locked } } = s)
  ∧ (∀ (n : Fin 8) (bs : List Byte) (s : State), TablesRise s → Writable s → bs.length = 32 → ∃ t, exec (.secCredentialWrite
      (.key n) .secret bs) s = .next t
      ∧ t.obj 0x9010 (n + 1) = ofBytes bs
      ∧ t.sys.lastStatus = rpOk
      ∧ (∀ k, k < 4 → (t.session k).any (fun x => x.method == 1 && x.slot == n.val) = true → s.obj 0x9010 (n + 1) = ofBytes bs)
      ∧ { t with dict := s.dict, sys := s.sys } = s)
  ∧ (∀ (n : Fin 4) (bs : List Byte) (s : State), TablesRise s → Writable s → bs.length = 80 → ∃ t, exec (.secCredentialWrite
      (.password n) .secret bs) s = .next t
      ∧ t.obj 0x9020 (n + 1) = ofBytes bs
      ∧ t.sys.lastStatus = rpOk
      ∧ (∀ k, k < 4 → (t.session k).any (fun x => x.method == 2 && x.slot == n.val) = true → s.obj 0x9020 (n + 1) = ofBytes bs)
      ∧ { t with dict := s.dict, sys := s.sys } = s)
  ∧ (∀ (k : CredSlot) (v : Byte) (s : State), TablesRise s → Writable s → (v.toNat ≤ 3 ∨ v.toNat = 0xFF) → ∃ t, exec
      (.secCredentialWrite k .role [v]) s = .next t
      ∧ t.obj (credObj k .role).1 (credObj k .role).2 = v.toNat
      ∧ t.sys.lastStatus = rpOk
      ∧ { t with dict := s.dict, sys := s.sys } = s)
  ∧ (∀ (k : CredSlot) (f : CredField) (bs : List Byte) (s : State), (objRow (credObj k f).1 (credObj k f).2).all (fun o =>
      decide (bs.length ≠ objSize o.ty)) = true → 2 < s.bootStep → ∃ t, exec (.secCredentialWrite k f bs) s = .next t
      ∧ t.sys.lastStatus = rpLength
      ∧ { t with sys := { t.sys with lastStatus := s.sys.lastStatus } } = s)
  ∧ (∀ (img : List Byte) (s : State), Writable s → s.sys.a.runs = 0 → (s.sys.b.runs = 0 ∨ s.sys.b.runs = 0xF) → ∃ t, exec
      (.bootImage img) s = .next t
      ∧ (t.fw 1).image = img
      ∧ ((t.fw 1).st = (if imgValid img s.flash.svnMin then 1 else 2))
      ∧ (t.sys.lastStatus = (if imgValid img s.flash.svnMin then rpOk else rpRange))
      ∧ t.fw 0 = s.fw 0)
  ∧ (∀ (img : List Byte) (s : State), Writable s → s.sys.a.runs = 1 → (s.sys.b.runs = 1 ∨ s.sys.b.runs = 0xF) → ∃ t, exec
      (.bootImage img) s = .next t
      ∧ (t.fw 0).image = img
      ∧ ((t.fw 0).st = (if imgValid img s.flash.svnMin then 1 else 2))
      ∧ (t.sys.lastStatus = (if imgValid img s.flash.svnMin then rpOk else rpRange))
      ∧ t.fw 1 = s.fw 1)
  ∧ (∀ (img : List Byte) (s : State), Writable s → s.sys.a.runs ≠ 0xF → s.sys.b.runs ≠ 0xF → s.sys.a.runs ≠ s.sys.b.runs → ∃ t,
      exec (.bootImage img) s = .next t
      ∧ t.sys.lastStatus = rpState
      ∧ { t with sys := { t.sys with lastStatus := s.sys.lastStatus } } = s)
  ∧ (∀ (h : Ctrl) (s : State), TablesRise s → Writable s → s.sys.ball = some h → (s.ctrl (otherCtrl h)).st = 3 → ∃ t, exec
      (.bootCtrlRestart 1) s = .next t
      ∧ (t.ctrl (otherCtrl h)).st = 1
      ∧ t.ctrl h = s.ctrl h
      ∧ t.sys.lastStatus = rpOk
      ∧ t.sys.ball = some h)
  ∧ (∀ (h : Ctrl) (v : BitVec 8) (s : State), Writable s → s.sys.ball = some h → (v = 1 → (s.ctrl (otherCtrl h)).st = 0 ∨
      (s.ctrl (otherCtrl h)).st = 5) → ∃ t, exec (.bootCtrlRestart v) s = .next t
      ∧ (t.sys.lastStatus = (if v = 1 then rpState else rpRange))
      ∧ { t with sys := { t.sys with lastStatus := s.sys.lastStatus } } = s)
  ∧ (∀ (h : Ctrl) (k : Nat) (s : State), Writable s → s.sys.ball = some h → (s.ctrl h).runs = k → (s.ctrl (otherCtrl h)).runs =
      k → k ≠ 0xF → ∃ t, exec (.bootCommitSvn 1) s = .next t
      ∧ t.flash.svnMin = imgSvn (s.fw k).image
      ∧ t.sys.lastStatus = rpOk
      ∧ { t with flash := { t.flash with svnMin := s.flash.svnMin }, sys := { t.sys with lastStatus := s.sys.lastStatus } } = s)
  ∧ (∀ (h : Ctrl) (v : BitVec 8) (s : State), Writable s → s.sys.ball = some h → (v = 1 → (s.ctrl h).runs ≠ (s.ctrl (otherCtrl
      h)).runs ∨ (s.ctrl h).runs = 0xF) → ∃ t, exec (.bootCommitSvn v) s = .next t
      ∧ (t.sys.lastStatus = (if v = 1 then rpState else rpRange))
      ∧ { t with sys := { t.sys with lastStatus := s.sys.lastStatus } } = s)
  ∧ (∀ (s : State), TablesRise s → s.driven = true → s.boot.recovery = false → s.sys.ball = none → s.bootSlot = none →
      (s.sys.a.st = 5 ∨ s.sys.a.st = 1) → (s.sys.b.st = 5 ∨ s.sys.b.st = 1) → ∃ t, exec (.bootRecovery) s = .next t
      ∧ t.boot.recovery = true
      ∧ t.bootStep = 0x1E
      ∧ t.faultPin = true)

/-- R483, R486, R488, R491: on the service port an echo is answered with its data and a good Mihimel frame is executed as
its request; the mailbox doorbell executes the frame in the request buffer, and a bad one is discarded and counted; the
commit of a store makes the snapshot the configuration record, a failed one keeps the older copy and is logged. -/
def Obligations.TransportsAndStore : Prop :=
  (∀ (data : List Byte) (s : State), Serves s .service → s.obj 0x1030 1 = 1 → ∃ t, exec (.servicePortFrame
      ⟨(BitVec.ofNat 128 linkLocal), (.echo data)⟩) s = .next t
      ∧ t.out = s.out ++ [.service data]
      ∧ { t with out := s.out } = s)
  ∧ (∀ (bs : List Byte) (r : MReq) (s : State), Serves s .service → s.obj 0x1030 1 = 1 → parseFrame .service bs = some (0x10,
      false, r) → s.boot.svcPort < 65536 → ∃ t, exec (.servicePortFrame
      ⟨(BitVec.ofNat 128 linkLocal), (.udp (BitVec.ofNat 16 s.boot.svcPort) bs)⟩) s = .next t
      ∧ t = s.request 0x10 false r)
  ∧ (∀ (s : State), Serves s .service → s.obj 0x1030 1 = 1 → ∃ t, exec (.servicePortFrame
      ⟨(BitVec.ofNat 128 linkLocal), .neighbourDiscovery⟩) s = .next t
      ∧ t.out = s.out ++ [.service ((toBytes 16 linkLocal).reverse ++ (Config.identity.drop 0x1A).take 6)]
      ∧ { t with out := s.out } = s)
  ∧ (∀ (adr : BitVec 128) (f : SvcFrame) (s : State), adr.toNat ≠ linkLocal → ∃ t, exec (.servicePortFrame ⟨adr, f⟩) s = .next
      t
      ∧ t = s)
  ∧ (∀ (s : State), Serves s .service → ∃ t, exec (.servicePortFrame ⟨(BitVec.ofNat 128 linkLocal), .other⟩) s = .next t
      ∧ t = s)
  ∧ (∀ (bs : List Byte) (s : State), TablesRise s → Serves s .service → s.boot.svcPort < 65536 → (parseFrame .service
      bs).isNone = true → s.obj 0x1030 5 < 1000 → ∃ t, exec (.servicePortFrame
      ⟨(BitVec.ofNat 128 linkLocal), (.udp (BitVec.ofNat 16 s.boot.svcPort) bs)⟩) s = .next t
      ∧ t.obj 0x1030 5 = s.obj 0x1030 5 + 1
      ∧ { t with dict := s.dict } = s)
  ∧ (∀ (f : SvcFrame) (s : State), s.obj 0x1030 1 = 0 → ∃ t, exec (.servicePortFrame ⟨(BitVec.ofNat 128 linkLocal), f⟩) s =
      .next t
      ∧ t = s)
  ∧ (∀ (r : MReq) (s : State), s.driven = true → s.host.mbBusy = false → parseFrame .mailbox ((List.range 1048).map (fun i =>
      mapGet 0 s.host.req i)) = some (0x10, false, r) → ∃ t, exec (.mbDoorbell 1) s = .next t
      ∧ t = s.request 0x10 false r)
  ∧ (∀ (s : State), TablesRise s → s.driven = true → s.host.mbBusy = false → (parseFrame .mailbox ((List.range 1048).map (fun i
      => mapGet 0 s.host.req i))).isNone = true → s.obj 0x1030 5 < 1000 → ∃ t, exec (.mbDoorbell 1) s = .next t
      ∧ t.obj 0x1030 5 = s.obj 0x1030 5 + 1
      ∧ t.host.mbReady = false
      ∧ t.out = s.out
      ∧ { t with dict := s.dict, host := s.host } = s)
  ∧ (∀ (m : SMap Nat) (ok : Bool) (s : State), s.sys.snap = some m → s.sys.ball ≠ none → s.sys.waitStore = none →
      s.sys.handover = false → ∃ t, exec (.storeCommitDone ok) s = .next t
      ∧ t.sys.snap = none
      ∧ (ok = true → t.flash =
        { s.flash with config := m, configValid := true, configVoid := false, configGen := s.flash.configGen + 1 } ∧ t.flt =
        s.flt)
      ∧ (ok = false → t.flash = s.flash ∧ t.sys.storeFailed = true ∧ t.flt.raised = s.flt.raised ++
        [⟨mkEvent 0x15 sevAdvisory 24 0xFF 0 0, s.gtNow⟩])
      ∧ { t with sys := s.sys, flash := s.flash, flt := { t.flt with raised := s.flt.raised } } = s)
  ∧ (∀ (m : SMap Nat) (ok : Bool) (ty : Nat) (r : MReq) (s : State), s.sys.snap = some m → s.sys.ball ≠ none → s.sys.waitStore
      = some (ty, r) → s.sys.handover = false → ∃ t, exec (.storeCommitDone ok) s = .next t
      ∧ t.sys.waitStore = none
      ∧ .mihimel r.transport (frameBytes ty r true r.more (if ok then rpOk else rpState) []) ∈ t.out
      ∧ (ok = true → t.flash =
        { s.flash with config := m, configValid := true, configVoid := false, configGen := s.flash.configGen + 1 })
      ∧ (ok = false → t.flash = s.flash)
      ∧ { t with sys := s.sys, flash := s.flash, host := s.host, out := s.out, flt := { t.flt with raised := s.flt.raised } } =
        s)

/-- R136, R517, R520 to R523, R525, R527, R538: a link trains to the speed and width allowed; its loss and a function level
reset put the windows, event enables and MSI-X state back and close mailbox sessions; PERST_N acts on the endpoint alone;
a window register places its window; a disabled window answers Unsupported Request; a write through a window lands in
memory and leaves its tiles UNTAGGED; events clear by writing 1; an unmasked vector sends what came while it was masked;
the command register holds Bus Master Enable, which the resets clear (notes/assumptions/58.md). -/
def Obligations.HostLinkAndRegisters : Prop :=
  (∀ (v : Fin 7) (w : Fin 17) (s : State), s.endpoint = true → s.host.perst = false → 4 ≤ min v.val (s.obj 0xA000 2) → w.val
      ∈ [1, 2, 4, 8, 16] → ∃ t, exec (.hostLinkTrain v w) s = .next t
      ∧ t.host.up = true
      ∧ t.host.speed = min v.val (s.obj 0xA000 2)
      ∧ t.host.width = w
      ∧ (s.host.up = false → t.flt = s.flt)
      ∧ (s.host.up = true → w.val < s.host.width → t.flt.raised = s.flt.raised ++
        [⟨hostEvt sevAdvisory 0 (256 * t.host.speed + w), s.gtNow⟩])
      ∧ { t with host := s.host, flt := { t.flt with raised := s.flt.raised } } = s)
  ∧ (∀ (s : State), TablesRise s → s.host.up = true → s.host.reads = [] → s.obj 0xA000 5 < 1000 → ∃ t, exec (.hostLinkDown) s =
      .next t
      ∧ t.host.up = false
      ∧ t.host.eventEn = 0
      ∧ t.host.unmasked = []
      ∧ t.host.busMaster = false
      ∧ (∀ w, w < 4 → t.window w = BitVec.ofNat 64 (field 34 w + 1))
      ∧ (∀ k, k < 4 → (t.session k).any (fun x => x.transport == .mailbox) = false)
      ∧ t.obj 0xA000 5 = s.obj 0xA000 5 + 1
      ∧ t.flt.raised = s.flt.raised ++ [⟨hostEvt sevAdvisory 1 0, s.gtNow⟩]
      ∧ { t with host := s.host, sys := s.sys, dict := s.dict, flt := { t.flt with raised := s.flt.raised } } = s)
  ∧ (∀ (s : State), TablesRise s → s.endpoint = true → s.host.reads = [] → ∃ t, exec (.functionLevelReset) s = .next t
      ∧ t.host.up = s.host.up
      ∧ t.host.event = s.host.event
      ∧ t.host.eventEn = 0
      ∧ t.host.mbBusy = false
      ∧ t.host.busMaster = false
      ∧
        { t.host with eventEn := s.host.eventEn, win := s.host.win, table := s.host.table, unmasked := s.host.unmasked, pend := s.host.pend, mbBusy := s.host.mbBusy, busMaster := s.host.busMaster }
        = s.host
      ∧ (∀ w, w < 4 → t.window w = BitVec.ofNat 64 (field 34 w + 1))
      ∧ (∀ k, k < 4 → (t.session k).any (fun x => x.transport == .mailbox) = false)
      ∧ { t with host := s.host, sys := s.sys } = s)
  ∧ (∀ (low : Bool) (s : State), TablesRise s → s.host.reads = [] → ∃ t, exec (.perst low) s = .next t
      ∧ t.host.perst = low
      ∧ (low = true → t.host.up = false ∧ t.host.eventEn = 0)
      ∧ (low = false → t = { s with host := { s.host with perst := false, configAt := s.time + 100 * tickMs } })
      ∧
        { t with host := s.host, sys := { t.sys with sessions := s.sys.sessions, waitStore := s.sys.waitStore, waitHand := s.sys.waitHand }, dict := s.dict, flt := { t.flt with raised := s.flt.raised } }
        = s)
  ∧ (∀ (d : Fin 16) (c : Fin 32) (off : Fin 0x1000) (n : Nat) (s : State), Reachable s d c → s.endpoint = true → off.val <
      0x400 → 1 ≤ n → off.val + n ≤ 0x1000 → ∃ t, exec (.corePageAccess d c off (.read n)) s = .next t
      ∧ t.out = s.out ++ [.reply 0 ((List.range n).map (fun i => s.coreByte d c (off + i)))]
      ∧ { t with out := s.out } = s)
  ∧ (∀ (off : Fin 0x1000000000) (n : Nat) (s : State), s.endpoint = true → bit (s.window (off.val / 2 ^ 34)) 0 = false → ∃ t,
      exec (.bar2Access off (.read n)) s = .next t
      ∧ t.out = s.out ++ [.unsupported]
      ∧ { t with out := s.out } = s)
  ∧ (∀ (off : Fin 0x1000000000) (d a : Nat) (bs : List Byte) (s : State), TablesRise s → Memory.wf s.mem = true → s.endpoint =
      true → bit (s.window (off.val / 2 ^ 34)) 0 = true → bits (s.window (off.val / 2 ^ 34)) 47 44 = d → bits (s.window
      (off.val / 2 ^ 34)) 43 34 * 2 ^ 34 + off.val % 2 ^ 34 = a → s.dieRuns d = true → regionSpan a bs.length = .hbm →
      s.badWords.any (fun w => decide (16 * w < memKey d a + bs.length) && decide (memKey d a < 16 * w + 16)) = false → bs ≠ []
      → ∃ t, exec (.bar2Access off (.write bs)) s = .next t
      ∧ t.bytes d a bs.length = bs
      ∧ (t.tile d a).st = .untagged
      ∧ (t.tile d a).tag = (s.tile d a).tag
      ∧ (∀ k, (k < memKey d a ∨ memKey d a + bs.length ≤ k) → mapGet 0 t.mem k = mapGet 0 s.mem k)
      ∧ t.out = s.out)
  ∧ (∀ (w : Fin 4) (v : BitVec 64) (s : State), TablesRise s → s.endpoint = true → ∃ t, exec (.hostWindowWrite w v) s = .next t
      ∧ t.window w = BitVec.ofNat 64 (field 34 (bits v 47 34) + bits v 0 0)
      ∧ (∀ k, k ≠ w.val → t.window k = s.window k)
      ∧ { t with host := { t.host with win := s.host.win } } = s)
  ∧ (∀ (v : BitVec 32) (s : State), s.endpoint = true → ∃ t, exec (.hostEventW1c v) s = .next t
      ∧ t.host.event = s.host.event &&& ~~~v
      ∧ { t with host := { t.host with event := s.host.event } } = s)
  ∧ (∀ (v : Fin 256) (s : State), s.endpoint = true → ∃ t, exec (.msixUnmask v) s = .next t
      ∧ v.val ∈ t.host.unmasked
      ∧ v.val ∉ t.host.pend
      ∧ (v.val ∈ s.host.pend → t.out = s.out ++ [.msix v])
      ∧ (v.val ∉ s.host.pend → t.out = s.out)
      ∧ { t with host := { t.host with unmasked := s.host.unmasked, pend := s.host.pend }, out := s.out } = s)
  ∧ (∀ (g : Agent) (bs : List Byte) (s : State), s.endpoint = true → bs.length = 4 → ∃ t, exec (.registerWrite (.bar0 8) g bs)
      s = .next t
      ∧ t.host.eventEn.toNat = ofBytes bs % 32
      ∧ { t with host := { t.host with eventEn := s.host.eventEn } } = s)
  ∧ (∀ (g : Agent) (bs : List Byte) (s : State), s.configServes = true → bs ≠ [] → ∃ t, exec (.registerWrite (.config 4) g bs)
      s = .next t
      ∧ t.host.busMaster = (ofBytes (bs.take 1)).testBit 2
      ∧ { t with host := { t.host with busMaster := s.host.busMaster } } = s)
  ∧ (∀ (d : Fin 16) (i : Fin 4096) (o : Fin 0x8000) (g : Agent) (bs : List Byte) (s : State), TablesRise s → s.dieRuns d = true
      → o.val = 8 * i.val → bs.length = 8 → ofBytes bs ≠ 0 → ∃ t, exec (.registerWrite (.arrival d o) g bs) s = .next t
      ∧ t.arrival d i = BitVec.ofNat 64 (ofBytes bs)
      ∧ (∀ k, k ≠ i.val → t.arrival d k = s.arrival d k)
      ∧ { t with dies := s.dies } = s)

/-- R65, R67, R72 to R74, R78, R79, R82 to R85, R87, R89, R91, R92, R98, R100, R144, R153, R154: a matrix command next in
its queue that may issue, whose blocks pass the checks and whose tiles verify, in every form (USE, FIN, members, formats,
modes, rings), issues, ends OK and has its effect: entries outside those it targets, bytes outside its output and all
else are unchanged. The values: a GEMM of one pass folds the products of row m and column n, in increasing k, into entry
((ACC_BASE + m) mod rows, n), afresh with INIT, and with FIN writes row m rounded once and frees the entries; a CONV of
one pass writes the W96 sum of its pixel; MERGE folds W96 words into entries; DRAIN and ELEM write rows rounded once;
ZERO resets its rows; FLAGS_CLR clears MX_FLAGS. -/
def Obligations.MatrixCommandsRun : Prop :=
  (∀ (d : Fin 16) (c : Fin 32) (k : Cmd) (s : State) (r : Run) (g : Gemm) (a b o : Block), Issues s d c 0 0x10 k → issuedRun
      s d c 0 k = r → gemmOf k.word = g → ((s.core d c).block g.oba).map (fun x => useBase x r) = some a → (s.core d c).block
      g.obb = some b → ((s.core d c).block g.obc).getD { b with elem := .w96 } = o → (g.fin = true → ((s.core d c).block
      g.obc).isSome = true) → gemmOk g a b o = true → useFits r (gemmSpan g a) = true → (∀ j, j < g.members → rowsVerify s d c
      (member a j) g.m a.e0 = true ∧ stationaryVerifies s d c (member b j) = true) → (g.fin = true → ∀ j, j < g.members →
      rowsMerge s d c (member o j) g.m (statN b) = true) → tokensMatch (mkWork s d c r) = true → EntriesOk (s.core d c) → ∃ t,
      exec (.mxGemm d c) s = .next t
      ∧ Issued s t d c 0 k stOk
      ∧ (t.core d c).mx.mode.toNat = g.mode
      ∧ ((g.fin = false ∧ g.members = 1 ∧ a.e0 ≤ kPerPass g.mode a.elem ∧ statN b ≤ modeSide g.mode) → ∀ m, m < g.m → ∀ n, n <
        statN b → (t.core d c).entry ((g.accBase + m) % modeShare g.mode) n = winEntry (if a.elem = .int 8 then .int else
        .float) (foldProducts (a.elem == .int 8) (if g.init then { wexp := if a.elem = .int 8 then 0 else -128 } else entryWin
        ((s.core d c).entry ((g.accBase + m) % modeShare g.mode) n)) (((mkWork s d c r).elems a.elem (blockRow a m)
        (blockScaleRow a (scaleCount a.e0) m) one32 0 a.e0).1.zip ((((mkWork s d c r).stationary b a.e0 0 a.e0 0 (statN
        b)).1[n]?).getD []))).1)
      ∧ ((g.fin = true ∧ g.members = 1 ∧ a.e0 ≤ kPerPass g.mode a.elem ∧ statN b ≤ modeSide g.mode ∧ g.m ≤ modeShare g.mode ∧
        g.sr = false ∧ (o.elem = .fp fp32 ∨ o.elem = .fp fp16 ∨ o.elem = .fp bf16) ∧ o.wrap = 0 ∧ rowBytes o.elem (statN b) ≤
        o.s1 ∧ apart a g.m a.e0 o g.m (statN b) = true) → ∀ m, m < g.m → t.bytes d (lsAddr c (blockRow o m)) (rowBytes o.elem
        (statN b)) = packRow o.elem ((List.range (statN b)).map (fun n => (cvtElem o.elem (satOf (s.obj 0x7040 3 == 1) o.elem
        g.sat) .rn o.scale (plusZero (fpMul (winVal (entryWin (winEntry (if a.elem = .int 8 then .int else .float)
        (foldProducts (a.elem == .int 8) (if g.init then { wexp := if a.elem = .int 8 then 0 else -128 } else entryWin ((s.core
        d c).entry ((g.accBase + m) % modeShare g.mode) n)) (((mkWork s d c r).elems a.elem (blockRow a m) (blockScaleRow a
        (scaleCount a.e0) m) one32 0 a.e0).1.zip ((((mkWork s d c r).stationary b a.e0 0 a.e0 0 (statN b)).1[n]?).getD
        []))).1))) (finScale a b)).1)).code)) ∧ ∀ n, n < statN b → (t.core d c).entry ((g.accBase + m) % modeShare g.mode) n =
        { })
      ∧ (∀ m, m < 1024 → ∀ n, n < 128 → (gemmRects g (statN b)).any (fun x => x.has m n) = false → (t.core d c).entry m n =
        (s.core d c).entry m n)
      ∧ StoresIn s t d c (fun off => g.fin && (List.range g.members).any (fun j => inRows (member o j) g.m (statN b) off))
      ∧ unissued 0
        { t.core d c with acc := (s.core d c).acc, mx := { (t.core d c).mx with mode := (s.core d c).mx.mode, products := (s.core d c).mx.products, gens := (s.core d c).mx.gens } }
        (s.core d c) = s.core d c
      ∧ (∀ k, k ≠ coreKey d c → mapGet { } t.cores k = mapGet { } s.cores k)
      ∧ { unstored t s with cores := s.cores } = s)
  ∧ (∀ (d : Fin 16) (c : Fin 32) (k : Cmd) (s : State) (r : Run) (i f o : Block) (q : Geom) (j : ConvJob), Issues s d c 0 0x11
      k → issuedRun s d c 0 k = r → ((s.core d c).block (convOf k.word).obi).map (fun x => useBase x r) = some i → (s.core d
      c).block (convOf k.word).obf = some f → (s.core d c).block (convOf k.word).obo = some o → geomOf (mapGet 0 (s.core d
      c).ob (convOf k.word).obg) = some q → { k := convOf k.word, q := q, inp := i, fil := f, out := o } = j → convOk j = true
      → useFits r (convSpan j) = true → convReads s d c j = true → convMerges s d c j = true → tokensMatch (mkWork s d c r) =
      true → EntriesOk (s.core d c) → ∃ t, exec (.mxConv d c) s = .next t
      ∧ Issued s t d c 0 k stOk
      ∧ (t.core d c).mx.mode.toNat = j.k.mode
      ∧ ((o.elem = .w96 ∧ j.k.m = 1 ∧ q.g = 1 ∧ q.r = 1 ∧ q.s = 1 ∧ i.e0 ≤ kPerPass j.k.mode i.elem ∧ q.kout ≤ modeSide
        j.k.mode) → ∀ n, n < q.kout → t.bytes d (lsAddr c (convPixel j j.k.m0 + 16 * n)) 16 = toBytes 16 (winWord (foldProducts
        (i.elem == .int 8) { wexp := if i.elem = .int 8 then 0 else -128 } (((mkWork s d c r).convRow j (convOf k.word).m0 0 0
        0 i.e0 ((mkWork s d c r).stationary (j.tap 0 0 0) i.e0 0 i.e0 0 q.kout).1).1.1.zip (((((mkWork s d c r).convRow j
        (convOf k.word).m0 0 0 0 i.e0 ((mkWork s d c r).stationary (j.tap 0 0 0) i.e0 0 i.e0 0 q.kout).1).1.2)[n]?).getD
        []))).1).toNat)
      ∧ (∀ m, m < 1024 → ∀ n, n < 128 → ((List.range (min q.g (modeArrays j.k.mode))).flatMap (fun a => shareRects j.k.mode a
        j.k.accBase j.k.m (min j.kg (modeSide j.k.mode)))).any (fun x => x.has m n) = false → (t.core d c).entry m n = (s.core
        d c).entry m n)
      ∧ StoresIn s t d c (inPixels j)
      ∧ unissued 0
        { t.core d c with acc := (s.core d c).acc, mx := { (t.core d c).mx with mode := (s.core d c).mx.mode, products := (s.core d c).mx.products, gens := (s.core d c).mx.gens } }
        (s.core d c) = s.core d c
      ∧ (∀ k, k ≠ coreKey d c → mapGet { } t.cores k = mapGet { } s.cores k)
      ∧ { unstored t s with cores := s.cores } = s)
  ∧ (∀ (d : Fin 16) (c : Fin 32) (k : Cmd) (s : State) (r : Run) (b : Block), Issues s d c 0 0x12 k → issuedRun s d c 0 k = r →
      ((s.core d c).block (bits k.word 95 92)).map (fun x => useBase x r) = some b → mergeOk b (bits k.word 81 71 + 1) = true →
      useFits r (mergeSpan b (bits k.word 81 71 + 1)) = true → rowsVerify s d c (mergeBlock b) (bits k.word 81 71 + 1) 128 =
      true → tokensMatch (mkWork s d c r) = true → EntriesOk (s.core d c) → ∃ t, exec (.mxMerge d c) s = .next t
      ∧ Issued s t d c 0 k stOk
      ∧ (bits k.word 81 71 < 1024 → ∀ i, i < bits k.word 81 71 + 1 → ∀ n, n < 128 → (t.core d c).entry (rowAt (bits k.word 91
        82) i) n = winEntry ((s.core d c).entry (rowAt (bits k.word 91 82) i) n).fam (mergeWin false (entryWin ((s.core d
        c).entry (rowAt (bits k.word 91 82) i) n)) (wordWin (BitVec.ofNat 128 (ofBytes (s.bytes d (lsAddr c (blockRow
        (mergeBlock b) i + 16 * n)) 16))))).1)
      ∧ (∀ m, m < 1024 → rowNamed (bits k.word 91 82) (bits k.word 81 71 + 1) m = false → ∀ n, n < 128 → (t.core d c).entry m n
        = (s.core d c).entry m n)
      ∧ unissued 0 { t.core d c with acc := (s.core d c).acc } (s.core d c) = s.core d c
      ∧ (∀ k, k ≠ coreKey d c → mapGet { } t.cores k = mapGet { } s.cores k)
      ∧ { t with cores := s.cores } = s)
  ∧ (∀ (d : Fin 16) (c : Fin 32) (k : Cmd) (s : State) (r : Run) (o : Block), Issues s d c 0 0x13 k → issuedRun s d c 0 k = r →
      ((s.core d c).block (bits k.word 10 7)).map (fun x => useBase x r) = some o → drainOk (s.core d c) o k.word = true →
      useFits r (rowsSpan o (drainRows k.word) o.e0) = true → rowsMerge s d c o (drainRows k.word) o.e0 = true → tokensMatch
      (mkWork s d c r) = true → EntriesOk (s.core d c) → ∃ t, exec (.mxDrain d c) s = .next t
      ∧ Issued s t d c 0 k stOk
      ∧ (((o.elem = .fp fp32 ∨ o.elem = .fp fp16 ∨ o.elem = .fp bf16) ∧ bit k.word 5 = false ∧ drainRows k.word ≤ 1024 ∧ o.wrap
        = 0 ∧ rowBytes o.elem o.e0 ≤ o.s1) → ∀ i, i < drainRows k.word → t.bytes d (lsAddr c (blockRow o i)) (rowBytes o.elem
        o.e0) = packRow o.elem ((List.range o.e0).map (fun n => (cvtElem o.elem (satOf (s.obj 0x7040 3 == 1) o.elem (bits
        k.word 4 3)) .rn o.scale (plusZero (fpMul (winVal (entryWin ((s.core d c).entry (rowAt (bits k.word 31 22) i) n)))
        (fpMul (drainScale (bits k.word 95 64)) (drainScale (bits k.word 63 32))).1).1)).code)))
      ∧ ((o.elem = .w96 ∧ drainRows k.word ≤ 1024 ∧ o.wrap = 0 ∧ rowBytes o.elem o.e0 ≤ o.s1) → ∀ i, i < drainRows k.word → ∀
        n, n < o.e0 → t.bytes d (lsAddr c (blockRow o i + 16 * n)) 16 = toBytes 16 (winWord (entryWin ((s.core d c).entry
        (rowAt (bits k.word 31 22) i) n))).toNat)
      ∧ (∀ m, m < 1024 → ∀ n, n < 128 → (t.core d c).entry m n = if bit k.word 6 = true ∧ rowNamed (bits k.word 31 22)
        (drainRows k.word) m = true ∧ n < o.e0 then { } else (s.core d c).entry m n)
      ∧ StoresIn s t d c (inRows o (drainRows k.word) o.e0)
      ∧ unissued 0 { t.core d c with acc := (s.core d c).acc, mx := { (t.core d c).mx with gens := (s.core d c).mx.gens } }
        (s.core d c) = s.core d c
      ∧ (∀ k, k ≠ coreKey d c → mapGet { } t.cores k = mapGet { } s.cores k)
      ∧ { unstored t s with cores := s.cores } = s)
  ∧ (∀ (d : Fin 16) (c : Fin 32) (k : Cmd) (s : State), Issues s d c 0 0x14 k → ∃ t, exec (.mxZero d c) s = .next t
      ∧ Issued s t d c 0 k stOk
      ∧ (∀ m, m < 1024 → ∀ n, n < 128 → (t.core d c).entry m n = if rowNamed (bits k.word 91 82) (bits k.word 81 71 + 1) m =
        true then { } else (s.core d c).entry m n)
      ∧ unissued 0 { t.core d c with acc := (s.core d c).acc } (s.core d c) = s.core d c
      ∧ (∀ k, k ≠ coreKey d c → mapGet { } t.cores k = mapGet { } s.cores k)
      ∧ { t with cores := s.cores } = s)
  ∧ (∀ (d : Fin 16) (c : Fin 32) (k : Cmd) (s : State) (r : Run) (a b e o : Block), Issues s d c 0 0x15 k → issuedRun s d c 0 k
      = r → ((s.core d c).block (bits k.word 95 92)).map (fun x => useBase x r) = some a → ((s.core d c).block (bits k.word 91
      88)).getD noBlock = b → ((s.core d c).block (bits k.word 87 84)).getD noBlock = e → (s.core d c).block (bits k.word 83
      80) = some o → elemOk k.word a ((s.core d c).block (bits k.word 91 88)) ((s.core d c).block (bits k.word 87 84)) o = true
      → useFits r (rowsSpan a (ceilDiv (bits k.word 63 32) a.e0) a.e0) = true → rowsVerify s d c a (ceilDiv (bits k.word 63 32)
      a.e0) a.e0 = true → (elemNeedsB (bits k.word 79 76) = true → if bits k.word 79 76 = 3 then verifies s d c b.base 512 =
      true else rowsVerify s d c b (ceilDiv (bits k.word 63 32) b.e0) b.e0 = true) → (elemNeedsC (bits k.word 79 76) = true →
      if bits k.word 79 76 = 3 then verifies s d c e.base 512 = true else rowsVerify s d c e (ceilDiv (bits k.word 63 32) e.e0)
      e.e0 = true) → rowsMerge s d c o (ceilDiv (bits k.word 63 32) o.e0) o.e0 = true → tokensMatch (mkWork s d c r) = true → ∃
      t, exec (.mxElem d c) s = .next t
      ∧ Issued s t d c 0 k stOk
      ∧ (((o.elem = .fp fp32 ∨ o.elem = .fp fp16 ∨ o.elem = .fp bf16) ∧ bit k.word 75 = false ∧ 1 ≤ bits k.word 63 32 ∧ bits
        k.word 63 32 ≤ o.e0) → t.bytes d (lsAddr c o.base) (rowBytes o.elem (bits k.word 63 32)) = packRow o.elem ((List.range
        (bits k.word 63 32)).map (fun i => (cvtElem o.elem (satOf (s.obj 0x7040 3 == 1) o.elem (bits k.word 74 73)) .rn o.scale
        (elemZero (bits k.word 79 76) ((mkWork s d c r).elemAt a i).1 ((mkWork s d c r).elemOperand (elemNeedsB (bits k.word 79
        76)) (bits k.word 79 76) b i).1 (elemOp (bits k.word 79 76) ((mkWork s d c r).elemAt a i).1 ((mkWork s d c
        r).elemOperand (elemNeedsB (bits k.word 79 76)) (bits k.word 79 76) b i).1 ((mkWork s d c r).elemOperand (elemNeedsC
        (bits k.word 79 76)) (bits k.word 79 76) e i).1).1)).code)))
      ∧ StoresIn s t d c (inRows o (ceilDiv (bits k.word 63 32) o.e0) o.e0)
      ∧ unissued 0 { t.core d c with mx := { (t.core d c).mx with gens := (s.core d c).mx.gens } } (s.core d c) = s.core d c
      ∧ (∀ k, k ≠ coreKey d c → mapGet { } t.cores k = mapGet { } s.cores k)
      ∧ { unstored t s with cores := s.cores } = s)
  ∧ (∀ (d : Fin 16) (c : Fin 32) (k : Cmd) (s : State), Issues s d c 0 0x16 k → (s.core d c).q0.run = [] → ∃ t, exec
      (.mxFlagsClr d c) s = .next t
      ∧ Issued s t d c 0 k stOk
      ∧ (t.core d c).mx.flags = 0
      ∧ unissued 0 { t.core d c with mx := { (t.core d c).mx with flags := (s.core d c).mx.flags } } (s.core d c) = s.core d c
      ∧ (∀ k, k ≠ coreKey d c → mapGet { } t.cores k = mapGet { } s.cores k)
      ∧ { t with cores := s.cores } = s)

/-- R76, R95 to R97, R100, R101: a residue that differs from the prediction or a parity error aborts the command in
execution with FAULT and a fault record; the window reads and writes whole W96 words of entries that no command owns, an
access that waits 4,096 cycles ends with ACC_BUSY; idle leave is released; MX_FLAGS is cleared by ones, MX_FAULT by zero
in CAUSE. The window's status codes are the model's (log entry 7). -/
def Obligations.MatrixRegistersAndChecks : Prop :=
  (∀ (d : Fin 16) (c : Fin 32) (arr : Fin 16) (row : Fin 1024) (col : Fin 128) (p q : BitVec 7) (r : Run) (s : State),
      TablesRise s → (s.core d c).mxRunning r.num = some r → r.owns.any (fun o => o.has row col) = true → p ≠ q → (s.core d
      c).q0.run = [r] → bits (s.core d c).mx.fault 63 56 = 0 → ∃ t, exec (.foldResidueCheck d c ⟨r.num, arr⟩ row col ⟨p, q⟩) s
      = .next t
      ∧ (t.core d c).q0.run = [{ r with status := BitVec.ofNat 8 stFault, busy := false, awaits := [], todo := [] }]
      ∧ bits (t.core d c).mx.fault 63 56 = 1
      ∧ bits (t.core d c).mx.fault 55 52 = arr
      ∧ bits (t.core d c).mx.fault 51 42 = row
      ∧ bits (t.core d c).mx.fault 41 35 = col
      ∧ bits (t.core d c).mx.fault 31 0 = r.num.toNat % 2 ^ 32
      ∧ t.mem = s.mem
      ∧ (∀ τ ∈ r.tiles, (t.tile d (lsAddr c (4096 * τ))).st = .poison)
      ∧ (∀ k, k ≠ coreKey d c → mapGet { } t.cores k = mapGet { } s.cores k))
  ∧ (∀ (d : Fin 16) (c : Fin 32) (arr : Fin 16) (row : Fin 1024) (col : Fin 128) (n : BitVec 64) (p : BitVec 7) (s : State), ∃
      t, exec (.foldResidueCheck d c ⟨n, arr⟩ row col ⟨p, p⟩) s = .next t
      ∧ t = s)
  ∧ (∀ (d : Fin 16) (c : Fin 32) (arr : Fin 16) (row : Fin 1024) (col : Fin 128) (r : Run) (s : State), TablesRise s → (s.core
      d c).q0.run = [r] → (s.core d c).mxRunning r.num = some r → bits (s.core d c).mx.fault 63 56 = 0 → ∃ t, exec
      (.mxRegisterParityError d c ⟨r.num, arr⟩ row col) s = .next t
      ∧ (t.core d c).q0.run = [{ r with status := BitVec.ofNat 8 stFault, busy := false, awaits := [], todo := [] }]
      ∧ bits (t.core d c).mx.fault 63 56 = 4
      ∧ bits (t.core d c).mx.fault 31 0 = r.num.toNat % 2 ^ 32
      ∧ (⟨mkEvent 0x01 sevRecovered d c 4 r.num.toNat, s.gtNow⟩ : Raised) ∈ t.flt.raised
      ∧ t.mem = s.mem
      ∧ (∀ τ ∈ r.tiles, (t.tile d (lsAddr c (4096 * τ))).st = .poison)
      ∧ (∀ k, k ≠ coreKey d c → mapGet { } t.cores k = mapGet { } s.cores k))
  ∧ (∀ (d : Fin 16) (c : Fin 32) (off : Fin 0x200000) (len : Fin 17) (s : State), Reachable s d c → (s.core d c).owned (accRow
      off) (accCol off) = false → entryOk ((s.core d c).entry (accRow off) (accCol off)) = true → ∃ t, exec (.accWindowRead d c
      off len) s = .next t
      ∧ t.out = s.out ++ [.reply 0 (((toBytes 16 (winWord (entryWin ((s.core d c).entry (accRow off) (accCol
        off)))).toNat).drop (off.val % 16)).take (min len (16 - off % 16)))]
      ∧ { t with out := s.out } = s)
  ∧ (∀ (d : Fin 16) (c : Fin 32) (off : Fin 0x200000) (len : Fin 17) (s : State), TablesRise s → Reachable s d c → (s.core d
      c).owned (accRow off) (accCol off) = false → entryOk ((s.core d c).entry (accRow off) (accCol off)) = false → bits
      (s.core d c).mx.fault 63 56 = 0 → ∃ t, exec (.accWindowRead d c off len) s = .next t
      ∧ .reply accFault [] ∈ t.out
      ∧ bits (t.core d c).mx.fault 63 56 = 2
      ∧ bits (t.core d c).mx.fault 51 42 = accRow off
      ∧ bits (t.core d c).mx.fault 41 35 = accCol off
      ∧ (t.core d c).acc = (s.core d c).acc
      ∧ t.mem = s.mem
      ∧ (∀ k, k ≠ coreKey d c → mapGet { } t.cores k = mapGet { } s.cores k))
  ∧ (∀ (d : Fin 16) (c : Fin 32) (off : Fin 0x200000) (len : Fin 17) (s : State), TablesRise s → Reachable s d c → (s.core d
      c).owned (accRow off) (accCol off) = true → ∃ t, exec (.accWindowRead d c off len) s = .next t
      ∧ (t.core d c).mx.waiting = (s.core d c).mx.waiting ++
        [{ off := off, len := min len (16 - off % 16), data := none, since := s.time }]
      ∧ { t.core d c with mx := { (t.core d c).mx with waiting := (s.core d c).mx.waiting } } = s.core d c
      ∧ (∀ k, k ≠ coreKey d c → mapGet { } t.cores k = mapGet { } s.cores k)
      ∧ { t with cores := s.cores } = s)
  ∧ (∀ (d : Fin 16) (c : Fin 32) (off : Fin 0x200000) (data : List Byte) (s : State), TablesRise s → CoreRises (s.core d c) →
      Reachable s d c → (s.core d c).owned (accRow off) (accCol off) = false → off.val % 16 = 0 → data.length = 16 → ∃ t, exec
      (.accWindowWrite d c off data) s = .next t
      ∧ (t.core d c).entry (accRow off) (accCol off) = winEntry .none (wordWin (BitVec.ofNat 128 (ofBytes data)))
      ∧ (∀ j, j ≠ off.val / 16 → mapGet { } (t.core d c).acc j = mapGet { } (s.core d c).acc j)
      ∧ t.out = s.out ++ [.reply 0 []]
      ∧ { t.core d c with acc := (s.core d c).acc } = s.core d c
      ∧ (∀ k, k ≠ coreKey d c → mapGet { } t.cores k = mapGet { } s.cores k)
      ∧ { t with cores := s.cores, out := s.out } = s)
  ∧ (∀ (d : Fin 16) (c : Fin 32) (off : Fin 0x200000) (data : List Byte) (s : State), Reachable s d c → (off.val % 16 ≠ 0 ∨
      data.length ≠ 16) → ∃ t, exec (.accWindowWrite d c off data) s = .next t
      ∧ t.out = s.out ++ [.reply accPartial []]
      ∧ t.flt.raised = s.flt.raised ++ [⟨softEvent d c accPartial.toNat (memKey d (accAddr c off)), s.gtNow⟩]
      ∧ { t with out := s.out, flt := { t.flt with raised := s.flt.raised } } = s)
  ∧ (∀ (d : Fin 16) (c : Fin 32) (off : Fin 0x200000) (data : List Byte) (s : State), TablesRise s → Reachable s d c → (s.core
      d c).owned (accRow off) (accCol off) = true → off.val % 16 = 0 → data.length = 16 → ∃ t, exec (.accWindowWrite d c off
      data) s = .next t
      ∧ (t.core d c).mx.waiting = (s.core d c).mx.waiting ++
        [{ off := off, len := data.length, data := some data, since := s.time }]
      ∧ { t.core d c with mx := { (t.core d c).mx with waiting := (s.core d c).mx.waiting } } = s.core d c
      ∧ (∀ k, k ≠ coreKey d c → mapGet { } t.cores k = mapGet { } s.cores k)
      ∧ { t with cores := s.cores } = s)
  ∧ (∀ (d : Fin 16) (c : Fin 32) (w : AccWait) (ws : List AccWait) (s : State), TablesRise s → s.host.ordered = [] → (s.core d
      c).mx.waiting = w :: ws → w.since + s.cycles d 4096 ≤ s.time → ∃ t, exec (.accBusy d c) s = .next t
      ∧ (t.core d c).mx.waiting = ws
      ∧ t.out = s.out ++ [.reply accBusy []]
      ∧ t.flt.raised = s.flt.raised ++ [⟨softEvent d c accBusy.toNat (memKey d (accAddr c w.off)), s.gtNow⟩]
      ∧ { t.core d c with mx := { (t.core d c).mx with waiting := (s.core d c).mx.waiting } } = s.core d c
      ∧ (∀ k, k ≠ coreKey d c → mapGet { } t.cores k = mapGet { } s.cores k)
      ∧ { t with cores := s.cores, out := s.out, flt := { t.flt with raised := s.flt.raised } } = s)
  ∧ (∀ (d : Fin 16) (c : Fin 32) (w : AccWait) (ws : List AccWait) (s : State), s.host.ordered = [] → (s.core d c).mx.waiting =
      w :: ws → s.time < w.since + s.cycles d 4096 → ∃ t, exec (.accBusy d c) s = .next t
      ∧ t = s)
  ∧ (∀ (d : Fin 16) (c : Fin 32) (w : AccWait) (ws : List AccWait) (s : State), (s.core d c).mx.waiting = w :: ws → ∃ t, exec
      (.accBusy d c) s = .next t
      ∧ t = (s.accBusyOut d c).host.ordered.foldl (fun s x => s.doHeld x.1 x.2)
        { s.accBusyOut d c with host := { (s.accBusyOut d c).host with ordered := [] } })
  ∧ (∀ (d : Fin 16) (c : Fin 32) (m : Nat) (r : Run) (p : Piece) (s : State), TablesRise s → (s.core d c).mx.waiting = [] →
      s.accStuck d c = some (m, r, p) → s.moveRun d m r.num = some r → r.fail = 0 → r.status = 0 → ∃ t, exec (.accBusy d c) s =
      .next t
      ∧ (t.moveRun d m r.num).map (fun r' => r'.todo) = some (r.todo.erase p)
      ∧ (t.moveRun d m r.num).map (fun r' => r'.fail) = some accBusy
      ∧ (t.moveRun d m r.num).map (fun r' => r'.status) = some (if (r.todo.erase p).isEmpty && r.awaits.isEmpty then accBusy
        else 0)
      ∧ (t.core d m).q0 = (s.core d m).q0
      ∧ (t.core d m).q1 = (s.core d m).q1
      ∧ { t.core d m with q2 := (s.core d m).q2 } = s.core d m
      ∧ (∀ k, k ≠ coreKey d m → mapGet { } t.cores k = mapGet { } s.cores k)
      ∧ { t with cores := s.cores } = s)
  ∧ (∀ (d : Fin 16) (c : Fin 32) (s : State), (s.core d c).mx.waiting = [] → s.accStuck d c = none → ∃ t, exec (.accBusy d c) s
      = .next t
      ∧ t = s)
  ∧ (∀ (d : Fin 16) (c : Fin 32) (s : State), TablesRise s → (s.core d c).mx.leave = true → (s.core d c).q0.run = [] → (s.core
      d c).mx.lastCmd + s.obj 0x7050 2 * tickUs ≤ s.time → ∃ t, exec (.mxIdleRelease d c) s = .next t
      ∧ (t.core d c).mx.leave = false
      ∧ t.pwr.held = s.pwr.held.filter (fun h => h.req != .matrixEngine d c)
      ∧ { t.core d c with mx := { (t.core d c).mx with leave := true, lastCmd := (s.core d c).mx.lastCmd } } = s.core d c
      ∧ (∀ k, k ≠ coreKey d c → mapGet { } t.cores k = mapGet { } s.cores k)
      ∧ { t with cores := s.cores, dict := s.dict, pwr := { t.pwr with held := s.pwr.held } } = s)
  ∧ (∀ (d : Fin 16) (c : Fin 32) (v : BitVec 32) (s : State), TablesRise s → Reachable s d c → ∃ t, exec (.mxFlagsW1c d c v) s
      = .next t
      ∧ (t.core d c).mx.flags = (s.core d c).mx.flags &&& ~~~v
      ∧ { t.core d c with mx := { (t.core d c).mx with flags := (s.core d c).mx.flags } } = s.core d c
      ∧ (∀ k, k ≠ coreKey d c → mapGet { } t.cores k = mapGet { } s.cores k)
      ∧ { t with cores := s.cores } = s)
  ∧ (∀ (d : Fin 16) (c : Fin 32) (s : State), TablesRise s → Reachable s d c → ∃ t, exec (.mxFaultClear d c) s = .next t
      ∧ (t.core d c).mx.fault = 0
      ∧ (t.core d c).mx.faultAddr = 0
      ∧
        { t.core d c with mx := { (t.core d c).mx with fault := (s.core d c).mx.fault, faultAddr := (s.core d c).mx.faultAddr } }
        = s.core d c
      ∧ (∀ k, k ≠ coreKey d c → mapGet { } t.cores k = mapGet { } s.cores k)
      ∧ { t with cores := s.cores } = s)

/-- R108, R109, R111, R112, R115 to R118, R120, R121, R125, R144, R156, R558: a vector command next in its queue that may
issue, whose descriptors and fields pass the checks and whose tiles verify, in every form, issues, ends OK and has its
effect: DSET latches a descriptor at chunk 0, moved to a popped handle's tiles by USE; LD and ST move one chunk, rows
packed or not, and step the cursor; OP, CVT and FN give element i the operation on elements i of their sources; SHUF,
SPLAT move lanes; SRED leaves the reduction of a group in its lowest lane; RED writes one element for each row; an
outermost LOOP collects its body and stands at its first command; FLAGS_CLR clears VX_FLAGS. Only issue and these effects
change the state. -/
def Obligations.VectorCommandsRun : Prop :=
  (∀ (d : Fin 16) (c : Fin 32) (k : Cmd) (s : State) (r : Run) (v : BitVec 256) (ds : Desc), Issues s d c 1 0x20 k →
      issuedRun s d c 1 k = r → (if cmdUse k.word then (r.popped.map (fun h => descRebase (descClean (mapGet 0 (s.core d
      c).vx.table (bits k.word 95 91))) (4096 * handleTile h))).getD (descClean (mapGet 0 (s.core d c).vx.table (bits k.word 95
      91))) else descClean (mapGet 0 (s.core d c).vx.table (bits k.word 95 91))) = v → descOf v = some ds → useFits r (descSpan
      ds) = true → ∃ t, exec (.vxDset d c) s = .next t
      ∧ Issued s t d c 1 k stOk
      ∧ mapGet none (t.core d c).vx.latched (bits k.word 95 91) = some
        { desc := v, handle := if cmdUse k.word = true then r.popped else none }
      ∧ (∀ j, j ≠ bits k.word 95 91 → mapGet none (t.core d c).vx.latched j = mapGet none (s.core d c).vx.latched j)
      ∧ unissued 1 { t.core d c with vx := { (t.core d c).vx with latched := (s.core d c).vx.latched } } (s.core d c) = s.core
        d c
      ∧ (∀ k, k ≠ coreKey d c → mapGet { } t.cores k = mapGet { } s.cores k)
      ∧ { t with cores := s.cores } = s)
  ∧ (∀ (d : Fin 16) (c : Fin 32) (k : Cmd) (s : State) (r : Run) (l : Latched) (ds : Desc) (lf : Nat) (segs : List (Nat × Nat ×
      Nat)), Issues s d c 1 0x21 k → issuedRun s d c 1 k = r → (s.core d c).latched (bits k.word 95 91) = some (l, ds) →
      ldFormat ds.elem (bit k.word 86) (bit k.word 85) = lf → l.chunk < descChunks ds (lfElems lf) → chunkSegs ds (lfElems lf)
      l.chunk = segs → segs.all (fun g => segVerifies s d c ds g.1 g.2.1 g.2.2) = true → tokensMatch
      { mkWork s d c r with use := latchedUse l } = true → ∃ t, exec (.vxLd d c) s = .next t
      ∧ Issued s t d c 1 k stOk
      ∧ (∀ i, i < 1024 → i < segsCount segs → (t.core d c).elem (bits k.word 90 87) lf i = (((segs.flatMap (fun g => ((vxWork s
        d c r).descElems l ds g.1 g.2.1 g.2.2).1)).map (fun e => (ldCode lf ds.elem e.1 e.2.1).code % 2 ^ elemWidth
        lf))[i]?).getD 0)
      ∧ (∀ i, i < 1024 → segsCount segs ≤ i → i < lfElems lf → (t.core d c).elem (bits k.word 90 87) lf i = (s.core d c).elem
        (bits k.word 90 87) lf i)
      ∧ (∀ v, v < 16 → v ≠ bits k.word 90 87 → ∀ i, i < 512 → (t.core d c).lane v i = (s.core d c).lane v i)
      ∧ (t.core d c).latched (bits k.word 95 91) = some ({ l with chunk := l.chunk + 1 }, ds)
      ∧ (∀ j, j ≠ bits k.word 95 91 → mapGet none (t.core d c).vx.latched j = mapGet none (s.core d c).vx.latched j)
      ∧ unissued 1
        { t.core d c with vx := { (t.core d c).vx with latched := (s.core d c).vx.latched, regs := (s.core d c).vx.regs } }
        (s.core d c) = s.core d c
      ∧ (∀ k, k ≠ coreKey d c → mapGet { } t.cores k = mapGet { } s.cores k)
      ∧ { t with cores := s.cores } = s)
  ∧ (∀ (d : Fin 16) (c : Fin 32) (k : Cmd) (s : State) (r : Run) (l : Latched) (ds : Desc) (lf : Nat) (segs : List (Nat × Nat ×
      Nat)), Issues s d c 1 0x22 k → issuedRun s d c 1 k = r → (s.core d c).latched (bits k.word 95 91) = some (l, ds) → bits
      k.word 86 84 = lf → lf ≤ 4 → bits k.word 82 81 ≠ 3 → l.chunk < descChunks ds (lfElems lf) → chunkSegs ds (lfElems lf)
      l.chunk = segs → segs.all (fun g => segMerges s d c ds g.1 g.2.1 g.2.2) = true → ∃ t, exec (.vxSt d c) s = .next t
      ∧ Issued s t d c 1 k stOk
      ∧ ((segs.length = 1 ∧ (ds.elem = .fp fp32 ∨ ds.elem = .fp fp16 ∨ ds.elem = .fp bf16 ∨ ds.elem = .int 8 ∨ ds.elem = .int
        32 ∨ ds.elem = .int 64) ∧ bit k.word 83 = false) → t.bytes d (lsAddr c (descRow ds (segs.headD (0, 0, 0)).1 +
        (segs.headD (0, 0, 0)).2.1 * elemBits ds.elem / 8)) (rowBytes ds.elem (segs.headD (0, 0, 0)).2.2) = packRow ds.elem
        ((List.range (segs.headD (0, 0, 0)).2.2).map (fun i => (cvtElem ds.elem (satOf (s.obj 0x7040 3 == 1) ds.elem (bits
        k.word 82 81)) .rn ds.scale (storeZero lf ds.elem (lfVal lf ((s.core d c).elem (bits k.word 90 87) lf i)))).code)))
      ∧ (t.core d c).latched (bits k.word 95 91) = some ({ l with chunk := l.chunk + 1 }, ds)
      ∧ (∀ j, j ≠ bits k.word 95 91 → mapGet none (t.core d c).vx.latched j = mapGet none (s.core d c).vx.latched j)
      ∧ StoresIn s t d c (fun off => segs.any (fun g => inSeg ds g.1 g.2.1 g.2.2 off))
      ∧ unissued 1
        { t.core d c with vx := { (t.core d c).vx with latched := (s.core d c).vx.latched }, mx := { (t.core d c).mx with gens := (s.core d c).mx.gens } }
        (s.core d c) = s.core d c
      ∧ (∀ k, k ≠ coreKey d c → mapGet { } t.cores k = mapGet { } s.cores k)
      ∧ { unstored t s with cores := s.cores } = s)
  ∧ (∀ (d : Fin 16) (c : Fin 32) (k : Cmd) (s : State) (r : Run), Issues s d c 1 0x23 k → issuedRun s d c 1 k = r → bits k.word
      64 62 ≤ 4 → opCodeOk (bits k.word 64 62) (bits k.word 70 65) = true → (bits k.word 91 85 < 16 ∨ bits k.word 91 85 / 32 =
      1) → (opUsesB (bits k.word 70 65) = true → bits k.word 84 78 < 16 ∨ bits k.word 84 78 / 32 = 1) → (opUsesC (bits k.word
      70 65) = true → bits k.word 77 71 < 16 ∨ bits k.word 77 71 / 32 = 1) → ∃ t, exec (.vxOp d c) s = .next t
      ∧ Issued s t d c 1 k stOk
      ∧ (∀ i, i < 1024 → i < lfElems (bits k.word 64 62) → (t.core d c).elem (bits k.word 95 92) (bits k.word 64 62) i =
        (laneOp (bits k.word 64 62) (bits k.word 70 65) (sourceCode (s.core d c) (bits k.word 91 85) (bits k.word 64 62) (bits
        k.word 31 0) i) (if opUsesB (bits k.word 70 65) then sourceCode (s.core d c) (bits k.word 84 78) (bits k.word 64 62)
        (bits k.word 31 0) i else 0) (if opUsesC (bits k.word 70 65) then sourceCode (s.core d c) (bits k.word 77 71) (bits
        k.word 64 62) (bits k.word 31 0) i else 0)).code % 2 ^ elemWidth (bits k.word 64 62))
      ∧ (∀ v, v < 16 → v ≠ bits k.word 95 92 → ∀ i, i < 512 → (t.core d c).lane v i = (s.core d c).lane v i)
      ∧ unissued 1
        { t.core d c with vx := { (t.core d c).vx with regs := (s.core d c).vx.regs, laneOps := (s.core d c).vx.laneOps } }
        (s.core d c) = s.core d c
      ∧ (∀ k, k ≠ coreKey d c → mapGet { } t.cores k = mapGet { } s.cores k)
      ∧ { t with cores := s.cores } = s)
  ∧ (∀ (d : Fin 16) (c : Fin 32) (k : Cmd) (s : State) (r : Run), Issues s d c 1 0x24 k → issuedRun s d c 1 k = r → cvtFormatOk
      (bits k.word 87 85) = true → cvtFormatOk (bits k.word 84 82) = true → bits k.word 80 79 ≠ 3 → ((5 ≤ bits k.word 87 85 ∨ 5
      ≤ bits k.word 84 82) → scaleOk (bits k.word 31 0) = true) → ∃ t, exec (.vxCvt d c) s = .next t
      ∧ Issued s t d c 1 k stOk
      ∧ (bit k.word 81 = false → ∀ i, i < 1024 → i < min (lfElems (bits k.word 87 85)) (lfElems (bits k.word 84 82)) → (t.core
        d c).elem (bits k.word 95 92) (bits k.word 84 82) ((if lfElems (bits k.word 87 85) < lfElems (bits k.word 84 82) then
        512 * bits k.word 78 78 else 0) + i) = (cvtLane (bits k.word 87 85) (bits k.word 84 82) (bits k.word 31 0) ((s.core d
        c).elem (bits k.word 91 88) (bits k.word 87 85) ((if lfElems (bits k.word 84 82) < lfElems (bits k.word 87 85) then 512
        * bits k.word 78 78 else 0) + i)) (satOf (s.obj 0x7040 3 == 1) (if bits k.word 84 82 = 5 ∨ bits k.word 84 82 = 6 then
        .fp8 e4m3 else .fp fp32) (bits k.word 80 79)) .rn).code % 2 ^ elemWidth (bits k.word 84 82))
      ∧ (∀ i, i < 1024 → i < lfElems (bits k.word 84 82) → (i < (if lfElems (bits k.word 87 85) < lfElems (bits k.word 84 82)
        then 512 * bits k.word 78 78 else 0) ∨ (if lfElems (bits k.word 87 85) < lfElems (bits k.word 84 82) then 512 * bits
        k.word 78 78 else 0) + min (lfElems (bits k.word 87 85)) (lfElems (bits k.word 84 82)) ≤ i) → (t.core d c).elem (bits
        k.word 95 92) (bits k.word 84 82) i = (s.core d c).elem (bits k.word 95 92) (bits k.word 84 82) i)
      ∧ (∀ v, v < 16 → v ≠ bits k.word 95 92 → ∀ i, i < 512 → (t.core d c).lane v i = (s.core d c).lane v i)
      ∧ unissued 1
        { t.core d c with vx := { (t.core d c).vx with regs := (s.core d c).vx.regs, laneOps := (s.core d c).vx.laneOps }, mx := { (t.core d c).mx with gens := (s.core d c).mx.gens } }
        (s.core d c) = s.core d c
      ∧ (∀ k, k ≠ coreKey d c → mapGet { } t.cores k = mapGet { } s.cores k)
      ∧ { t with cores := s.cores } = s)
  ∧ (∀ (d : Fin 16) (c : Fin 32) (k : Cmd) (s : State) (r : Run) (f : FpFmt), Issues s d c 1 0x25 k → issuedRun s d c 1 k = r →
      lfFmt (bits k.word 73 71) = some f → bits k.word 73 71 ≤ 2 → bits k.word 77 74 ≤ 9 → (bits k.word 91 85 < 16 ∨ bits
      k.word 91 85 / 32 = 1) → (bits k.word 77 74 = 1 → bits k.word 84 78 < 16 ∨ bits k.word 84 78 / 32 = 1) → ∃ t, exec (.vxFn
      d c) s = .next t
      ∧ Issued s t d c 1 k stOk
      ∧ (∀ i, i < 1024 → i < lfElems (bits k.word 73 71) → (t.core d c).elem (bits k.word 95 92) (bits k.word 73 71) i =
        (fnEval (bits k.word 77 74) f (sourceCode (s.core d c) (bits k.word 91 85) (bits k.word 73 71) (bits k.word 31 0) i)
        (if bits k.word 77 74 = 1 then sourceCode (s.core d c) (bits k.word 84 78) (bits k.word 73 71) (bits k.word 31 0) i
        else 0) (fpDecode f (sourceCode (s.core d c) (bits k.word 91 85) (bits k.word 73 71) (bits k.word 31 0) i)) (fpDecode f
        (if bits k.word 77 74 = 1 then sourceCode (s.core d c) (bits k.word 84 78) (bits k.word 73 71) (bits k.word 31 0) i
        else 0))).code % 2 ^ elemWidth (bits k.word 73 71))
      ∧ (∀ v, v < 16 → v ≠ bits k.word 95 92 → ∀ i, i < 512 → (t.core d c).lane v i = (s.core d c).lane v i)
      ∧ unissued 1
        { t.core d c with vx := { (t.core d c).vx with regs := (s.core d c).vx.regs, laneOps := (s.core d c).vx.laneOps } }
        (s.core d c) = s.core d c
      ∧ (∀ k, k ≠ coreKey d c → mapGet { } t.cores k = mapGet { } s.cores k)
      ∧ { t with cores := s.cores } = s)
  ∧ (∀ (d : Fin 16) (c : Fin 32) (k : Cmd) (s : State) (r : Run), Issues s d c 1 0x26 k → issuedRun s d c 1 k = r → bits k.word
      75 73 ≤ 4 → bits k.word 87 86 ≤ 1 → (bits k.word 87 86 = 0 → bits k.word 85 76 ≤ 8) → ∃ t, exec (.vxShuf d c) s = .next t
      ∧ Issued s t d c 1 k stOk
      ∧ (bits k.word 87 86 = 0 → ∀ l, l < 512 → (t.core d c).lane (bits k.word 95 92) l = (s.core d c).lane (bits k.word 91 88)
        (l ^^^ 2 ^ (bits k.word 85 76)))
      ∧ (bits k.word 87 86 = 1 → ∀ l, l < 512 → (t.core d c).lane (bits k.word 95 92) l = (s.core d c).lane (bits k.word 91 88)
        (if Config.rotateUp then (l + 1024 - bits k.word 85 76) % 512 else (l + bits k.word 85 76) % 512))
      ∧ (∀ v, v < 16 → v ≠ bits k.word 95 92 → ∀ i, i < 512 → (t.core d c).lane v i = (s.core d c).lane v i)
      ∧ unissued 1
        { t.core d c with vx := { (t.core d c).vx with regs := (s.core d c).vx.regs, laneOps := (s.core d c).vx.laneOps } }
        (s.core d c) = s.core d c
      ∧ (∀ k, k ≠ coreKey d c → mapGet { } t.cores k = mapGet { } s.cores k)
      ∧ { t with cores := s.cores } = s)
  ∧ (∀ (d : Fin 16) (c : Fin 32) (k : Cmd) (s : State) (r : Run), Issues s d c 1 0x27 k → issuedRun s d c 1 k = r → 1 ≤ bits
      k.word 78 75 → bits k.word 78 75 ≤ 9 → ∃ t, exec (.vxSplat d c) s = .next t
      ∧ Issued s t d c 1 k stOk
      ∧ (∀ l, l < 512 → (t.core d c).lane (bits k.word 95 92) l = (s.core d c).lane (bits k.word 91 88) (l / 2 ^ bits k.word 78
        75 * 2 ^ bits k.word 78 75 + bits k.word 87 79 % 2 ^ bits k.word 78 75))
      ∧ (∀ v, v < 16 → v ≠ bits k.word 95 92 → ∀ i, i < 512 → (t.core d c).lane v i = (s.core d c).lane v i)
      ∧ unissued 1
        { t.core d c with vx := { (t.core d c).vx with regs := (s.core d c).vx.regs, laneOps := (s.core d c).vx.laneOps } }
        (s.core d c) = s.core d c
      ∧ (∀ k, k ≠ coreKey d c → mapGet { } t.cores k = mapGet { } s.cores k)
      ∧ { t with cores := s.cores } = s)
  ∧ (∀ (d : Fin 16) (c : Fin 32) (k : Cmd) (s : State) (r : Run), Issues s d c 1 0x28 k → issuedRun s d c 1 k = r → 1 ≤ bits
      k.word 87 84 → bits k.word 87 84 ≤ 9 → bits k.word 83 82 ≠ 3 → (bits k.word 81 79 = 0 ∨ bits k.word 81 79 = 3 ∨ bits
      k.word 81 79 = 4) → ∃ t, exec (.vxSred d c) s = .next t
      ∧ Issued s t d c 1 k stOk
      ∧ (∀ i, i < 1024 → i < lfElems (bits k.word 81 79) → i % 2 ^ (if bits k.word 81 79 = 4 then bits k.word 87 84 - 1 else
        bits k.word 87 84) = 0 → (t.core d c).elem (bits k.word 95 92) (bits k.word 81 79) i = (((((butterfly (bits k.word 81
        79) (bits k.word 83 82) (if bits k.word 81 79 = 4 then bits k.word 87 84 - 1 else bits k.word 87 84) ((List.range
        (lfElems (bits k.word 81 79))).map (fun m => (some ((s.core d c).elem (bits k.word 91 88) (bits k.word 81 79) m),
        0))))[i]?).getD (none, 0)).1).getD 0) % 2 ^ elemWidth (bits k.word 81 79))
      ∧ (bits k.word 81 79 = 3 → ∀ l, l < 512 → l % 2 ^ (bits k.word 87 84) = 0 → (((t.core d c).lane (bits k.word 95 92)
        l).toInt = if bits k.word 83 82 = 0 then (BitVec.ofInt 32 (((List.range (2 ^ (bits k.word 87 84))).map (fun i =>
        ((s.core d c).lane (bits k.word 91 88) (l + i)).toInt)).foldl (· + ·) 0)).toInt else ((List.range (2 ^ (bits k.word 87
        84))).map (fun i => ((s.core d c).lane (bits k.word 91 88) (l + i)).toInt)).foldl (if bits k.word 83 82 = 1 then max
        else min) ((s.core d c).lane (bits k.word 91 88) l).toInt))
      ∧ (∀ i, i < 1024 → i < lfElems (bits k.word 81 79) → i % 2 ^ (if bits k.word 81 79 = 4 then bits k.word 87 84 - 1 else
        bits k.word 87 84) ≠ 0 → (t.core d c).elem (bits k.word 95 92) (bits k.word 81 79) i = (s.core d c).elem (bits k.word
        95 92) (bits k.word 81 79) i)
      ∧ (∀ v, v < 16 → v ≠ bits k.word 95 92 → ∀ i, i < 512 → (t.core d c).lane v i = (s.core d c).lane v i)
      ∧ unissued 1
        { t.core d c with vx := { (t.core d c).vx with regs := (s.core d c).vx.regs, laneOps := (s.core d c).vx.laneOps } }
        (s.core d c) = s.core d c
      ∧ (∀ k, k ≠ coreKey d c → mapGet { } t.cores k = mapGet { } s.cores k)
      ∧ { t with cores := s.cores } = s)
  ∧ (∀ (d : Fin 16) (c : Fin 32) (k : Cmd) (s : State) (r : Run) (lo l : Latched) (od ds : Desc), Issues s d c 1 0x29 k →
      issuedRun s d c 1 k = r → (s.core d c).latched (bits k.word 95 91) = some (lo, od) → (s.core d c).latched (bits k.word 90
      86) = some (l, ds) → bits k.word 85 84 ≠ 3 → bits k.word 82 81 ≠ 3 → descRows od = 1 → od.e0 = descRows ds → (List.range
      (descRows ds)).all (fun row => segVerifies s d c ds row 0 ds.e0) = true → tokensMatch
      { mkWork s d c r with use := latchedUse l } = true → segMerges s d c od 0 0 od.e0 = true → ∃ t, exec (.vxRed d c) s =
      .next t
      ∧ Issued s t d c 1 k stOk
      ∧ (((ds.elem = .fp fp32 ∨ ds.elem = .fp fp16 ∨ ds.elem = .fp bf16) ∧ (od.elem = .fp fp32 ∨ od.elem = .fp fp16 ∨ od.elem =
        .fp bf16) ∧ bit k.word 83 = false) → t.bytes d (lsAddr c (descRow od 0)) (rowBytes od.elem (descRows ds)) = packRow
        od.elem ((List.range (descRows ds)).map (fun row => (cvtElem od.elem (satOf (s.obj 0x7040 3 == 1) od.elem (bits k.word
        82 81)) .rn od.scale (storeZero 0 od.elem (fpDecode fp32 (redRow 0 (bits k.word 85 84) (((vxWork s d c r).descElems l
        ds row 0 ds.e0).1.map (fun e => (ldCode 0 ds.elem e.1 e.2.1).code))).1))).code)))
      ∧ StoresIn s t d c (inSeg od 0 0 od.e0)
      ∧ unissued 1
        { t.core d c with vx := { (t.core d c).vx with laneOps := (s.core d c).vx.laneOps }, mx := { (t.core d c).mx with gens := (s.core d c).mx.gens } }
        (s.core d c) = s.core d c
      ∧ (∀ k, k ≠ coreKey d c → mapGet { } t.cores k = mapGet { } s.cores k)
      ∧ { unstored t s with cores := s.cores } = s)
  ∧ (∀ (d : Fin 16) (c : Fin 32) (k : Cmd) (s : State) (r : Run) (rest : List Cmd) (n size : Nat), Issues s d c 1 0x2A k →
      issuedRun s d c 1 k = r → (s.core d c).q1.acc = k :: rest → loopB k.word ≤ rest.length → (rest.take (loopB k.word)).all
      (fun b => b.num != k.num) = true → nestOk (loopB k.word + 1) 0 ((rest.take (loopB k.word)).map Cmd.word) = true →
      (loopIters (s.core d c) k.word ((rest.take (loopB k.word)).map Cmd.word)).toOption = some (n, size) → ∃ t, exec (.vxLoop
      d c) s = .next t
      ∧ (t.core d c).vx.loops =
        [{ loop := k.num, first := k.num + 1, len := loopB k.word, left := n, drv := if loopChunks k.word then some (Fin.ofNat 32 (loopDesc k.word)) else none, csize := size, chunk := if loopChunks k.word then (s.core d c).cursor (Fin.ofNat 32 (loopDesc k.word)) else 0 }]
      ∧ (t.core d c).vx.pos = k.num + 1
      ∧ (t.core d c).q1.acc = rest.drop (loopB k.word)
      ∧ (t.core d c).q1.run.map Run.num = ((s.core d c).q1.run.map Run.num) ++ k.num :: (rest.take (loopB k.word)).map Cmd.num
      ∧ ((t.core d c).q1.run.drop (s.core d c).q1.run.length).all (fun r => r.busy && r.status == 0) = true
      ∧ unissued 1
        { t.core d c with vx := { (t.core d c).vx with loops := (s.core d c).vx.loops, pos := (s.core d c).vx.pos, buf := (s.core d c).vx.buf } }
        (s.core d c) = s.core d c
      ∧ (∀ k, k ≠ coreKey d c → mapGet { } t.cores k = mapGet { } s.cores k)
      ∧ { t with cores := s.cores } = s)
  ∧ (∀ (d : Fin 16) (c : Fin 32) (k : Cmd) (s : State), Issues s d c 1 0x2B k → (s.core d c).q1.run = [] → ∃ t, exec
      (.vxFlagsClr d c) s = .next t
      ∧ Issued s t d c 1 k stOk
      ∧ (t.core d c).vx.flags = 0
      ∧ unissued 1 { t.core d c with vx := { (t.core d c).vx with flags := (s.core d c).vx.flags } } (s.core d c) = s.core d c
      ∧ (∀ k, k ≠ coreKey d c → mapGet { } t.cores k = mapGet { } s.cores k)
      ∧ { t with cores := s.cores } = s)

/-- R122, R124, R126, R127: a check that fails aborts the vector command at work with FAULT and a fault record that keeps
the first fault; leave idle for CMP.VX_IDLE_RELEASE is released; VX_FLAGS is cleared by ones, VX_FAULT by zero in CAUSE.
-/
def Obligations.VectorRegistersAndChecks : Prop :=
  (∀ (d : Fin 16) (c : Fin 32) (cause : BitVec 8) (lane : Fin 512) (vreg : Fin 16) (r : Run) (s : State), TablesRise s →
      (cause = 1 ∨ cause = 2 ∨ cause = 4 ∨ cause = 5 ∨ cause = 6) → (s.core d c).vx.loops = [] → (s.core d c).q1.run = [r] →
      (s.core d c).vxRunning = some r → bits (s.core d c).vx.fault 63 56 = 0 → ∃ t, exec (.vxCheckFault d c cause lane vreg) s
      = .next t
      ∧ (t.core d c).q1.run = [{ r with status := BitVec.ofNat 8 stFault, busy := false, awaits := [], todo := [] }]
      ∧ bits (t.core d c).vx.fault 63 56 = cause.toNat
      ∧ (bits (t.core d c).vx.fault 55 47 = if cause = 6 then 0 else lane.val)
      ∧ (bits (t.core d c).vx.fault 46 43 = if cause = 4 then vreg.val else 0)
      ∧ bits (t.core d c).vx.fault 31 0 = r.num.toNat % 2 ^ 32
      ∧ (⟨mkEvent 0x02 sevRecovered d c cause.toNat r.num.toNat, s.gtNow⟩ : Raised) ∈ t.flt.raised
      ∧ (∀ τ ∈ r.tiles, (t.tile d (lsAddr c (4096 * τ))).st = .poison)
      ∧ t.mem = s.mem
      ∧ (∀ k, k ≠ coreKey d c → mapGet { } t.cores k = mapGet { } s.cores k))
  ∧ (∀ (d : Fin 16) (c : Fin 32) (lane : Fin 512) (vreg : Fin 16) (s : State), TablesRise s → (s.core d c).vxRunning.isSome =
      true → s.obj 0x7060 5 < 1000 → ∃ t, exec (.vxCheckFault d c 0 lane vreg) s = .next t
      ∧ t.obj 0x7060 5 = s.obj 0x7060 5 + 1
      ∧ { t with dict := s.dict } = s)
  ∧ (∀ (d : Fin 16) (c : Fin 32) (cause : BitVec 8) (lane : Fin 512) (vreg : Fin 16) (r : Run) (s : State), TablesRise s →
      (cause = 1 ∨ cause = 2 ∨ cause = 4 ∨ cause = 5 ∨ cause = 6) → ((cause = 1 ∨ cause = 2) → lane.val < (s.core d c).active
      3) → (s.core d c).vx.loops ≠ [] → (s.core d c).vxRunning = some r → r.busy = true → ((s.core d c).q1.run.map
      Run.num).Nodup → bits (s.core d c).vx.fault 63 56 = 0 → ∃ t, exec (.vxCheckFault d c cause lane vreg) s = .next t
      ∧ (t.core d c).vx.loops = []
      ∧ (t.core d c).q1.run.map Run.num = (s.core d c).q1.run.map Run.num
      ∧ (t.core d c).q1.run.all (fun b => !b.busy) = true
      ∧ (t.core d c).q1.run.all (fun b => (s.core d c).q1.run.all (fun a => !(a.num == b.num && a.busy) || b.status ==
        BitVec.ofNat 8 stFault)) = true
      ∧ bits (t.core d c).vx.fault 63 56 = cause.toNat
      ∧ t.mem = s.mem
      ∧ (∀ k, k ≠ coreKey d c → mapGet { } t.cores k = mapGet { } s.cores k))
  ∧ (∀ (d : Fin 16) (c : Fin 32) (s : State), TablesRise s → (s.core d c).vx.leave = true → (s.core d c).q1.run = [] → (s.core
      d c).vx.lastCmd + s.obj 0x7060 2 * tickUs ≤ s.time → ∃ t, exec (.vxIdleRelease d c) s = .next t
      ∧ (t.core d c).vx.leave = false
      ∧ t.pwr.held = s.pwr.held.filter (fun h => h.req != .vectorEngine d c)
      ∧ { t.core d c with vx := { (t.core d c).vx with leave := true, lastCmd := (s.core d c).vx.lastCmd } } = s.core d c
      ∧ (∀ k, k ≠ coreKey d c → mapGet { } t.cores k = mapGet { } s.cores k)
      ∧ { t with cores := s.cores, dict := s.dict, pwr := { t.pwr with held := s.pwr.held } } = s)
  ∧ (∀ (d : Fin 16) (c : Fin 32) (v : BitVec 32) (s : State), TablesRise s → Reachable s d c → ∃ t, exec (.vxFlagsW1c d c v) s
      = .next t
      ∧ (t.core d c).vx.flags = (s.core d c).vx.flags &&& ~~~v
      ∧ { t.core d c with vx := { (t.core d c).vx with flags := (s.core d c).vx.flags } } = s.core d c
      ∧ (∀ k, k ≠ coreKey d c → mapGet { } t.cores k = mapGet { } s.cores k)
      ∧ { t with cores := s.cores } = s)
  ∧ (∀ (d : Fin 16) (c : Fin 32) (s : State), TablesRise s → Reachable s d c → ∃ t, exec (.vxFaultClear d c) s = .next t
      ∧ (t.core d c).vx.fault = 0
      ∧ (t.core d c).vx.faultAddr = 0
      ∧
        { t.core d c with vx := { (t.core d c).vx with fault := (s.core d c).vx.fault, faultAddr := (s.core d c).vx.faultAddr } }
        = s.core d c
      ∧ (∀ k, k ≠ coreKey d c → mapGet { } t.cores k = mapGet { } s.cores k)
      ∧ { t with cores := s.cores } = s)

/-- R104, R110, R112, R113, R115, R122: a command that an open loop has reached, in every form whose operands are in order,
has its effect on the active elements and the loop goes on to the next command: DSET latches, LD and ST move one chunk,
ST only where its chunk has as many elements as are active, OP, CVT and FN compute, SHUF, SPLAT, SRED and RED reduce or
permute active lanes, an inner LOOP opens, FLAGS_CLR waits for its place; NOP, CNT.SET, CNT.ADD, CMP.SET, TQ.PUSH,
AWAIT_GT, HALT and SIG0 act at their place in each iteration; after the last command of a body the iteration begins again
or the loop ends. -/
def Obligations.VectorCommandsInLoops : Prop :=
  (∀ (d : Fin 16) (c : Fin 32) (r : Run) (s : State) (v : BitVec 256) (ds : Desc), AtLoop s d c 0x20 r → Within (s.core d c)
      → (if cmdUse r.word then ((s.loopTake d c r).2.popped.map (fun h => descRebase (descClean (mapGet 0 (s.core d c).vx.table
      (bits r.word 95 91))) (4096 * handleTile h))).getD (descClean (mapGet 0 (s.core d c).vx.table (bits r.word 95 91))) else
      descClean (mapGet 0 (s.core d c).vx.table (bits r.word 95 91))) = v → descOf v = some ds → useFits (s.loopTake d c r).2
      (descSpan ds) = true → ∃ t, exec (.vxDset d c) s = .next t
      ∧ LoopStepped (s.core d c) (t.core d c)
      ∧ mapGet none (t.core d c).vx.latched (bits r.word 95 91) = some
        { desc := v, handle := if cmdUse r.word = true then (s.loopTake d c r).2.popped else none }
      ∧ (∀ j, j ≠ bits r.word 95 91 → mapGet none (t.core d c).vx.latched j = mapGet none (s.core d c).vx.latched j)
      ∧ (∀ k, k ≠ coreKey d c → mapGet { } t.cores k = mapGet { } s.cores k)
      ∧ { t with cores := s.cores } = s)
  ∧ (∀ (d : Fin 16) (c : Fin 32) (r : Run) (s : State) (l : Latched) (ds : Desc) (lf : Nat) (segs : List (Nat × Nat × Nat)),
      AtLoop s d c 0x21 r → Within (s.core d c) → (s.core d c).latched (bits r.word 95 91) = some (l, ds) → ldFormat ds.elem
      (bit r.word 86) (bit r.word 85) = lf → l.chunk < descChunks ds (lfElems lf) → chunkSegs ds (lfElems lf) l.chunk = segs →
      segs.all (fun g => segVerifies s d c ds g.1 g.2.1 g.2.2) = true → tokensMatch { mkWork s d c r with use := latchedUse l }
      = true → ∃ t, exec (.vxLd d c) s = .next t
      ∧ LoopStepped (s.core d c) (t.core d c)
      ∧ (∀ i, i < 1024 → i < min (segsCount segs) ((s.core d c).active lf) → (t.core d c).elem (bits r.word 90 87) lf i =
        (((segs.flatMap (fun g => (((vxWork (s.loopTake d c r).1 d c (s.loopTake d c r).2)).descElems l ds g.1 g.2.1
        g.2.2).1)).map (fun e => (ldCode lf ds.elem e.1 e.2.1).code % 2 ^ elemWidth lf))[i]?).getD 0)
      ∧ (∀ i, i < 1024 → min (segsCount segs) ((s.core d c).active lf) ≤ i → i < lfElems lf → (t.core d c).elem (bits r.word 90
        87) lf i = (s.core d c).elem (bits r.word 90 87) lf i)
      ∧ (t.core d c).latched (bits r.word 95 91) = some ({ l with chunk := l.chunk + 1 }, ds)
      ∧ (∀ v, v < 16 → v ≠ bits r.word 90 87 → ∀ i, i < 512 → (t.core d c).lane v i = (s.core d c).lane v i)
      ∧ (∀ k, k ≠ coreKey d c → mapGet { } t.cores k = mapGet { } s.cores k)
      ∧ { t with cores := s.cores } = s)
  ∧ (∀ (d : Fin 16) (c : Fin 32) (r : Run) (s : State) (l : Latched) (ds : Desc) (lf : Nat) (segs : List (Nat × Nat × Nat)),
      AtLoop s d c 0x22 r → Within (s.core d c) → (s.core d c).latched (bits r.word 95 91) = some (l, ds) → bits r.word 86 84 =
      lf → lf ≤ 4 → bits r.word 82 81 ≠ 3 → l.chunk < descChunks ds (lfElems lf) → chunkSegs ds (lfElems lf) l.chunk = segs →
      segsCount segs = (s.core d c).active lf → ∃ t, exec (.vxSt d c) s = .next t
      ∧ LoopStepped (s.core d c) (t.core d c)
      ∧ (t.core d c).latched (bits r.word 95 91) = some ({ l with chunk := l.chunk + 1 }, ds)
      ∧ (t.core d c).vx.regs = (s.core d c).vx.regs
      ∧ (∀ k, k ≠ coreKey d c → mapGet { } t.cores k = mapGet { } s.cores k)
      ∧ { unstored t s with cores := s.cores } = s)
  ∧ (∀ (d : Fin 16) (c : Fin 32) (r : Run) (s : State), AtLoop s d c 0x23 r → Within (s.core d c) → bits r.word 64 62 ≤ 4 →
      opCodeOk (bits r.word 64 62) (bits r.word 70 65) = true → sourceOk s d c (bits r.word 91 85) = true → (opUsesB (bits
      r.word 70 65) = true → sourceOk s d c (bits r.word 84 78) = true) → (opUsesC (bits r.word 70 65) = true → sourceOk s d c
      (bits r.word 77 71) = true) → ∃ t, exec (.vxOp d c) s = .next t
      ∧ LoopStepped (s.core d c) (t.core d c)
      ∧ ((bits r.word 91 85 / 32 ≤ 1 ∧ (opUsesB (bits r.word 70 65) = true → bits r.word 84 78 / 32 ≤ 1) ∧ (opUsesC (bits
        r.word 70 65) = true → bits r.word 77 71 / 32 ≤ 1)) → ∀ i, i < 1024 → i < (s.core d c).active (bits r.word 64 62) →
        (t.core d c).elem (bits r.word 95 92) (bits r.word 64 62) i = (laneOp (bits r.word 64 62) (bits r.word 70 65)
        (sourceCode (s.core d c) (bits r.word 91 85) (bits r.word 64 62) (bits r.word 31 0) i) (if opUsesB (bits r.word 70 65)
        then sourceCode (s.core d c) (bits r.word 84 78) (bits r.word 64 62) (bits r.word 31 0) i else 0) (if opUsesC (bits
        r.word 70 65) then sourceCode (s.core d c) (bits r.word 77 71) (bits r.word 64 62) (bits r.word 31 0) i else 0)).code %
        2 ^ elemWidth (bits r.word 64 62))
      ∧ (∀ i, i < 1024 → (s.core d c).active (bits r.word 64 62) ≤ i → i < lfElems (bits r.word 64 62) → (t.core d c).elem
        (bits r.word 95 92) (bits r.word 64 62) i = (s.core d c).elem (bits r.word 95 92) (bits r.word 64 62) i)
      ∧ (∀ v, v < 16 → v ≠ bits r.word 95 92 → ∀ i, i < 512 → (t.core d c).lane v i = (s.core d c).lane v i)
      ∧ (∀ k, k ≠ coreKey d c → mapGet { } t.cores k = mapGet { } s.cores k)
      ∧ { t with cores := s.cores } = s)
  ∧ (∀ (d : Fin 16) (c : Fin 32) (r : Run) (s : State), AtLoop s d c 0x24 r → Within (s.core d c) → cvtFormatOk (bits r.word 87
      85) = true → cvtFormatOk (bits r.word 84 82) = true → bits r.word 80 79 ≠ 3 → ((5 ≤ bits r.word 87 85 ∨ 5 ≤ bits r.word
      84 82) → scaleOk (bits r.word 31 0) = true) → ∃ t, exec (.vxCvt d c) s = .next t
      ∧ LoopStepped (s.core d c) (t.core d c)
      ∧ (bit r.word 81 = false → ∀ i, i < 1024 → i < min (min (lfElems (bits r.word 87 85)) (lfElems (bits r.word 84 82)))
        ((s.core d c).active (bits r.word 87 85) - (if lfElems (bits r.word 84 82) < lfElems (bits r.word 87 85) then 512 *
        bits r.word 78 78 else 0)) → (t.core d c).elem (bits r.word 95 92) (bits r.word 84 82) ((if lfElems (bits r.word 87 85)
        < lfElems (bits r.word 84 82) then 512 * bits r.word 78 78 else 0) + i) = (cvtLane (bits r.word 87 85) (bits r.word 84
        82) (bits r.word 31 0) ((s.core d c).elem (bits r.word 91 88) (bits r.word 87 85) ((if lfElems (bits r.word 84 82) <
        lfElems (bits r.word 87 85) then 512 * bits r.word 78 78 else 0) + i)) (satOf (s.obj 0x7040 3 == 1) (if bits r.word 84
        82 = 5 ∨ bits r.word 84 82 = 6 then .fp8 e4m3 else .fp fp32) (bits r.word 80 79)) .rn).code % 2 ^ elemWidth (bits
        r.word 84 82))
      ∧ (∀ v, v < 16 → v ≠ bits r.word 95 92 → ∀ i, i < 512 → (t.core d c).lane v i = (s.core d c).lane v i)
      ∧ (∀ k, k ≠ coreKey d c → mapGet { } t.cores k = mapGet { } s.cores k)
      ∧ { t with cores := s.cores } = s)
  ∧ (∀ (d : Fin 16) (c : Fin 32) (r : Run) (s : State) (f : FpFmt), AtLoop s d c 0x25 r → Within (s.core d c) → lfFmt (bits
      r.word 73 71) = some f → bits r.word 73 71 ≤ 2 → bits r.word 77 74 ≤ 9 → sourceOk s d c (bits r.word 91 85) = true →
      (bits r.word 77 74 = 1 → sourceOk s d c (bits r.word 84 78) = true) → ∃ t, exec (.vxFn d c) s = .next t
      ∧ LoopStepped (s.core d c) (t.core d c)
      ∧ ((bits r.word 91 85 / 32 ≤ 1 ∧ (bits r.word 77 74 = 1 → bits r.word 84 78 / 32 ≤ 1)) → ∀ i, i < 1024 → i < (s.core d
        c).active (bits r.word 73 71) → (t.core d c).elem (bits r.word 95 92) (bits r.word 73 71) i = (fnEval (bits r.word 77
        74) f (sourceCode (s.core d c) (bits r.word 91 85) (bits r.word 73 71) (bits r.word 31 0) i) (if bits r.word 77 74 = 1
        then sourceCode (s.core d c) (bits r.word 84 78) (bits r.word 73 71) (bits r.word 31 0) i else 0) (fpDecode f
        (sourceCode (s.core d c) (bits r.word 91 85) (bits r.word 73 71) (bits r.word 31 0) i)) (fpDecode f (if bits r.word 77
        74 = 1 then sourceCode (s.core d c) (bits r.word 84 78) (bits r.word 73 71) (bits r.word 31 0) i else 0))).code % 2 ^
        elemWidth (bits r.word 73 71))
      ∧ (∀ i, i < 1024 → (s.core d c).active (bits r.word 73 71) ≤ i → i < lfElems (bits r.word 73 71) → (t.core d c).elem
        (bits r.word 95 92) (bits r.word 73 71) i = (s.core d c).elem (bits r.word 95 92) (bits r.word 73 71) i)
      ∧ (∀ v, v < 16 → v ≠ bits r.word 95 92 → ∀ i, i < 512 → (t.core d c).lane v i = (s.core d c).lane v i)
      ∧ (∀ k, k ≠ coreKey d c → mapGet { } t.cores k = mapGet { } s.cores k)
      ∧ { t with cores := s.cores } = s)
  ∧ (∀ (d : Fin 16) (c : Fin 32) (r : Run) (s : State), AtLoop s d c 0x26 r → Within (s.core d c) → bits r.word 75 73 ≤ 4 →
      bits r.word 87 86 ≤ 1 → (bits r.word 87 86 = 0 → bits r.word 85 76 ≤ 8) → ∃ t, exec (.vxShuf d c) s = .next t
      ∧ LoopStepped (s.core d c) (t.core d c)
      ∧ (bits r.word 87 86 = 0 → ∀ l, l < 512 → l < (s.core d c).active 3 → (t.core d c).lane (bits r.word 95 92) l = (s.core d
        c).lane (bits r.word 91 88) (l ^^^ 2 ^ (bits r.word 85 76)))
      ∧ (bits r.word 87 86 = 1 → ∀ l, l < 512 → l < (s.core d c).active 3 → (t.core d c).lane (bits r.word 95 92) l = (s.core d
        c).lane (bits r.word 91 88) (if Config.rotateUp then (l + 1024 - bits r.word 85 76) % 512 else (l + bits r.word 85 76)
        % 512))
      ∧ (∀ l, l < 512 → (s.core d c).active 3 ≤ l → (t.core d c).lane (bits r.word 95 92) l = (s.core d c).lane (bits r.word 95
        92) l)
      ∧ (∀ v, v < 16 → v ≠ bits r.word 95 92 → ∀ i, i < 512 → (t.core d c).lane v i = (s.core d c).lane v i)
      ∧ (∀ k, k ≠ coreKey d c → mapGet { } t.cores k = mapGet { } s.cores k)
      ∧ { t with cores := s.cores } = s)
  ∧ (∀ (d : Fin 16) (c : Fin 32) (r : Run) (s : State), AtLoop s d c 0x27 r → Within (s.core d c) → 1 ≤ bits r.word 78 75 →
      bits r.word 78 75 ≤ 9 → ∃ t, exec (.vxSplat d c) s = .next t
      ∧ LoopStepped (s.core d c) (t.core d c)
      ∧ (∀ l, l < 512 → l < (s.core d c).active 3 → (t.core d c).lane (bits r.word 95 92) l = (s.core d c).lane (bits r.word 91
        88) (l / 2 ^ bits r.word 78 75 * 2 ^ bits r.word 78 75 + bits r.word 87 79 % 2 ^ bits r.word 78 75))
      ∧ (∀ l, l < 512 → (s.core d c).active 3 ≤ l → (t.core d c).lane (bits r.word 95 92) l = (s.core d c).lane (bits r.word 95
        92) l)
      ∧ (∀ v, v < 16 → v ≠ bits r.word 95 92 → ∀ i, i < 512 → (t.core d c).lane v i = (s.core d c).lane v i)
      ∧ (∀ k, k ≠ coreKey d c → mapGet { } t.cores k = mapGet { } s.cores k)
      ∧ { t with cores := s.cores } = s)
  ∧ (∀ (d : Fin 16) (c : Fin 32) (r : Run) (s : State), AtLoop s d c 0x28 r → Within (s.core d c) → 1 ≤ bits r.word 87 84 →
      bits r.word 87 84 ≤ 9 → bits r.word 83 82 ≠ 3 → (bits r.word 81 79 = 0 ∨ bits r.word 81 79 = 3 ∨ bits r.word 81 79 = 4) →
      ∃ t, exec (.vxSred d c) s = .next t
      ∧ LoopStepped (s.core d c) (t.core d c)
      ∧ (∀ i, i < 1024 → i < (s.core d c).active (bits r.word 81 79) → i < lfElems (bits r.word 81 79) → i % 2 ^ (if bits
        r.word 81 79 = 4 then bits r.word 87 84 - 1 else bits r.word 87 84) = 0 → (t.core d c).elem (bits r.word 95 92) (bits
        r.word 81 79) i = (((((butterfly (bits r.word 81 79) (bits r.word 83 82) (if bits r.word 81 79 = 4 then bits r.word 87
        84 - 1 else bits r.word 87 84) ((List.range (lfElems (bits r.word 81 79))).map (fun m => (if m < (s.core d c).active
        (bits r.word 81 79) then some ((s.core d c).elem (bits r.word 91 88) (bits r.word 81 79) m) else none, 0))))[i]?).getD
        (none, 0)).1).getD 0) % 2 ^ elemWidth (bits r.word 81 79))
      ∧ (∀ i, i < 1024 → i < lfElems (bits r.word 81 79) → (i % 2 ^ (if bits r.word 81 79 = 4 then bits r.word 87 84 - 1 else
        bits r.word 87 84) ≠ 0 ∨ (s.core d c).active (bits r.word 81 79) ≤ i) → (t.core d c).elem (bits r.word 95 92) (bits
        r.word 81 79) i = (s.core d c).elem (bits r.word 95 92) (bits r.word 81 79) i)
      ∧ (∀ v, v < 16 → v ≠ bits r.word 95 92 → ∀ i, i < 512 → (t.core d c).lane v i = (s.core d c).lane v i)
      ∧ (∀ k, k ≠ coreKey d c → mapGet { } t.cores k = mapGet { } s.cores k)
      ∧ { t with cores := s.cores } = s)
  ∧ (∀ (d : Fin 16) (c : Fin 32) (r : Run) (s : State) (lo l : Latched) (od ds : Desc), AtLoop s d c 0x29 r → Within (s.core d
      c) → (s.core d c).latched (bits r.word 95 91) = some (lo, od) → (s.core d c).latched (bits r.word 90 86) = some (l, ds) →
      bits r.word 85 84 ≠ 3 → bits r.word 82 81 ≠ 3 → descRows od = 1 → od.e0 = descRows ds → (List.range (descRows ds)).all
      (fun row => segVerifies s d c ds row 0 ds.e0) = true → tokensMatch { mkWork s d c r with use := latchedUse l } = true → ∃
      t, exec (.vxRed d c) s = .next t
      ∧ LoopStepped (s.core d c) (t.core d c)
      ∧ (t.core d c).vx.regs = (s.core d c).vx.regs
      ∧ (t.core d c).vx.latched = (s.core d c).vx.latched
      ∧ (∀ k, k ≠ coreKey d c → mapGet { } t.cores k = mapGet { } s.cores k)
      ∧ { unstored t s with cores := s.cores } = s)
  ∧ (∀ (d : Fin 16) (c : Fin 32) (r : Run) (s : State) (n size : Nat), AtLoop s d c 0x2A r → (loopIters (s.core d c) r.word
      (((s.core d c).q1.run.filter (fun b => decide (r.num.toNat < b.num.toNat) && decide (b.num.toNat ≤ r.num.toNat + loopB
      r.word))).map Run.word)).toOption = some (n, size) → ∃ t, exec (.vxLoop d c) s = .next t
      ∧ (t.core d c).vx.loops =
        { loop := r.num, first := r.num + 1, len := loopB r.word, left := n, drv := if loopChunks r.word then some (Fin.ofNat 32 (loopDesc r.word)) else none, csize := size, chunk := if loopChunks r.word then (s.core d c).cursor (Fin.ofNat 32 (loopDesc r.word)) else 0 }
        :: (s.core d c).vx.loops
      ∧ (t.core d c).vx.pos = (s.core d c).vx.pos + 1
      ∧ (t.core d c).vx.regs = (s.core d c).vx.regs
      ∧ (∀ k, k ≠ coreKey d c → mapGet { } t.cores k = mapGet { } s.cores k)
      ∧ { t with cores := s.cores } = s)
  ∧ (∀ (d : Fin 16) (c : Fin 32) (r : Run) (s : State), AtLoop s d c 0x2B r → Within (s.core d c) → ∃ t, exec (.vxFlagsClr d c)
      s = .next t
      ∧ LoopStepped (s.core d c) (t.core d c)
      ∧ (t.core d c).vx.flags = (s.core d c).vx.flags
      ∧ (t.core d c).vx.regs = (s.core d c).vx.regs
      ∧ (∀ k, k ≠ coreKey d c → mapGet { } t.cores k = mapGet { } s.cores k)
      ∧ { t with cores := s.cores } = s)
  ∧ (∀ (d : Fin 16) (c : Fin 32) (r : Run) (s : State) (f : LoopFrame) (fs : List LoopFrame), AtLoop s d c 0x00 r → (s.core d
      c).vx.loops = f :: fs → (s.core d c).vx.pos + 1 = f.first + BitVec.ofNat 64 f.len → 1 < f.left → ∃ t, exec (.nop d c 1) s
      = .next t
      ∧ (t.core d c).vx.loops = { f with left := f.left - 1, chunk := (f.drv.map (s.core d c).cursor).getD 0 } :: fs
      ∧ (t.core d c).vx.pos = f.first
      ∧ (t.core d c).vx.regs = (s.core d c).vx.regs
      ∧ (∀ k, k ≠ coreKey d c → mapGet { } t.cores k = mapGet { } s.cores k)
      ∧ { t with cores := s.cores } = s)
  ∧ (∀ (d : Fin 16) (c : Fin 32) (r : Run) (s : State) (f : LoopFrame), AtLoop s d c 0x00 r → (s.core d c).vx.loops = [f] →
      (s.core d c).vx.pos + 1 = f.first + BitVec.ofNat 64 f.len → f.left ≤ 1 → (s.core d c).q1.run.all (fun b => b.status == 0
      && b.gath.isEmpty) = true → ∃ t, exec (.nop d c 1) s = .next t
      ∧ (t.core d c).vx.loops = []
      ∧ (t.core d c).q1.run.map Run.num = (s.core d c).q1.run.map Run.num
      ∧ (t.core d c).q1.run.all (fun b => !b.busy && b.status == 0) = true
      ∧ (t.core d c).vx.regs = (s.core d c).vx.regs
      ∧ (∀ k, k ≠ coreKey d c → mapGet { } t.cores k = mapGet { } s.cores k)
      ∧ { t with cores := s.cores } = s)
  ∧ (∀ (d : Fin 16) (c : Fin 32) (r : Run) (s : State), AtLoop s d c 0x00 r → Within (s.core d c) → ∃ t, exec (.nop d c 1) s =
      .next t
      ∧ LoopStepped (s.core d c) (t.core d c)
      ∧ (t.core d c).vx.regs = (s.core d c).vx.regs
      ∧ (t.core d c).cnt = (s.core d c).cnt
      ∧ (t.core d c).tq = ((s.loopTake d c r).1.core d c).tq
      ∧ (t.core d c).cmp = ((s.loopTake d c r).1.core d c).cmp
      ∧ (∀ k, k ≠ coreKey d c → mapGet { } t.cores k = mapGet { } s.cores k)
      ∧ { t with cores := s.cores } = s)
  ∧ (∀ (d : Fin 16) (c : Fin 32) (r : Run) (s : State), AtLoop s d c 0x01 r → Within (s.core d c) → ∃ t, exec (.cntSet d c 1) s
      = .next t
      ∧ LoopStepped (s.core d c) (t.core d c)
      ∧ (t.core d c).vx.regs = (s.core d c).vx.regs
      ∧ (t.core d c).counter (bits r.word 95 94) (bits r.word 93 91) = r.word.setWidth 32
      ∧ (∀ j, j ≠ 8 * bits r.word 95 94 + bits r.word 93 91 → mapGet 0 (t.core d c).cnt j = mapGet 0 (s.core d c).cnt j)
      ∧ (∀ k, k ≠ coreKey d c → mapGet { } t.cores k = mapGet { } s.cores k)
      ∧ { t with cores := s.cores } = s)
  ∧ (∀ (d : Fin 16) (c : Fin 32) (r : Run) (s : State), AtLoop s d c 0x02 r → Within (s.core d c) → ∃ t, exec (.cntAdd d c 1) s
      = .next t
      ∧ LoopStepped (s.core d c) (t.core d c)
      ∧ (t.core d c).vx.regs = (s.core d c).vx.regs
      ∧ (t.core d c).counter (bits r.word 95 94) (bits r.word 93 91) = (s.core d c).counter (bits r.word 95 94) (bits r.word 93
        91) + r.word.setWidth 32
      ∧ (∀ j, j ≠ 8 * bits r.word 95 94 + bits r.word 93 91 → mapGet 0 (t.core d c).cnt j = mapGet 0 (s.core d c).cnt j)
      ∧ (∀ k, k ≠ coreKey d c → mapGet { } t.cores k = mapGet { } s.cores k)
      ∧ { t with cores := s.cores } = s)
  ∧ (∀ (d : Fin 16) (c : Fin 32) (r : Run) (s : State), AtLoop s d c 0x03 r → Within (s.core d c) → ∃ t, exec (.cmpSet d c 1) s
      = .next t
      ∧ LoopStepped (s.core d c) (t.core d c)
      ∧ (t.core d c).vx.regs = (s.core d c).vx.regs
      ∧ (t.core d c).comparator 1 (bits r.word 95 94) = cmpMask (r.word.setWidth 64)
      ∧ (∀ j, j ≠ 4 + bits r.word 95 94 → mapGet 0 (t.core d c).cmp j = mapGet 0 ((s.loopTake d c r).1.core d c).cmp j)
      ∧ (∀ k, k ≠ coreKey d c → mapGet { } t.cores k = mapGet { } s.cores k)
      ∧ { t with cores := s.cores } = s)
  ∧ (∀ (d : Fin 16) (c : Fin 32) (r : Run) (s : State), AtLoop s d c 0x04 r → Within (s.core d c) → handleOk (r.word.setWidth
      64) = true → ∃ t, exec (.tqPush d c 1) s = .next t
      ∧ LoopStepped (s.core d c) (t.core d c)
      ∧ (t.core d c).vx.regs = (s.core d c).vx.regs
      ∧ (t.core d c).tileQueue (bits r.word 95 92) = Machine.tqPush (((s.loopTake d c r).1.core d c).tileQueue (bits r.word 95
        92)) (r.word.setWidth 64)
      ∧ (∀ j, j ≠ bits r.word 95 92 → (t.core d c).tileQueue j = ((s.loopTake d c r).1.core d c).tileQueue j)
      ∧ (∀ k, k ≠ coreKey d c → mapGet { } t.cores k = mapGet { } s.cores k)
      ∧ { t with cores := s.cores } = s)
  ∧ (∀ (d : Fin 16) (c : Fin 32) (r : Run) (s : State), AtLoop s d c 0x05 r → Within (s.core d c) → s.awaitLost d r.word =
      false → ¬ ((if bit r.word 95 then s.localGt d + r.word.setWidth 64 else r.word.setWidth 64) < s.localGt d) → ∃ t, exec
      (.awaitGt d c 1) s = .next t
      ∧ (t.core d c).vx.loops = (s.core d c).vx.loops
      ∧ (t.core d c).vx.pos = (s.core d c).vx.pos
      ∧ (t.core d c).vx.regs = (s.core d c).vx.regs
      ∧ ((t.core d c).findRun 1 r.num).map (fun x => (x.target, x.awaits.contains .gt)) = some ((if bit r.word 95 then
        s.localGt d + r.word.setWidth 64 else r.word.setWidth 64), true)
      ∧ (∀ k, k ≠ coreKey d c → mapGet { } t.cores k = mapGet { } s.cores k)
      ∧ { t with cores := s.cores } = s)
  ∧ (∀ (d : Fin 16) (c : Fin 32) (r : Run) (s : State), AtLoop s d c 0x05 r → Within (s.core d c) → s.awaitLost d r.word =
      false → awaitLateFail r.word = false → (if bit r.word 95 then s.localGt d + r.word.setWidth 64 else r.word.setWidth 64) <
      s.localGt d → ∃ t, exec (.awaitGt d c 1) s = .next t
      ∧ LoopStepped (s.core d c) (t.core d c)
      ∧ (t.core d c).vx.regs = (s.core d c).vx.regs
      ∧ ((t.core d c).findRun 1 r.num).map (·.late) = some true
      ∧ (∀ k, k ≠ coreKey d c → mapGet { } t.cores k = mapGet { } s.cores k)
      ∧ { t with cores := s.cores } = s)
  ∧ (∀ (d : Fin 16) (c : Fin 32) (r : Run) (s : State), AtLoop s d c 0x07 r → Within (s.core d c) → ∃ t, exec (.halt d c 1) s =
      .next t
      ∧ LoopStepped (s.core d c) (t.core d c)
      ∧ (t.core d c).vx.regs = (s.core d c).vx.regs
      ∧ (t.core d c).cnt = (s.core d c).cnt
      ∧ (∀ k, k ≠ coreKey d c → mapGet { } t.cores k = mapGet { } s.cores k)
      ∧ { t with cores := s.cores } = s)
  ∧ (∀ (d : Fin 16) (c : Fin 32) (r : Run) (s : State), AtLoop s d c 0x06 r → Within (s.core d c) → s.ownModule (bits r.word 95
      80) = true → s.fenced = false → s.moduleId < 2 ^ 16 → s.epoch < 2 ^ 32 → ∃ t, exec (.sig0 d c 1) s = .next t
      ∧ LoopStepped (s.core d c) (t.core d c)
      ∧ (t.core d c).vx.regs = (s.core d c).vx.regs
      ∧ (t.fab.frames.getLast?).map (fun f => (f.1, bits f.2 195 191, bits f.2 189 188, bits f.2 187 185, bits f.2 127 96)) =
        some (bits r.word 79 76, bits r.word 75 71, bits r.word 69 68, bits r.word 67 65, bits r.word 31 0)
      ∧ (∀ k, k ≠ coreKey d c → mapGet { } t.cores k = mapGet { } s.cores k)
      ∧ t.fab.frames.dropLast = s.fab.frames
      ∧
        { t with cores := s.cores, lane := { t.lane with bundles := s.lane.bundles, cur := s.lane.cur }, fab := { t.fab with frames := s.fab.frames } }
        = s)

/-- R133, R134, R151 and Table 5 of ch.05: a write of Q_TAIL stores it, and a tail more than the ring ahead of the head
halts the queue with RING; configuration registers take legal values while the queue is disabled and empty, an illegal
one is ignored and logged; ENABLE, HALT, DISCARD and RESUME do as Table 5 says, RESUME of HALT_FAULT only once its fault
record is clear. -/
def Obligations.QueueRegistersWork : Prop :=
  (∀ (d : Fin 16) (c : Fin 32) (e : Fin 3) (v : BitVec 32) (s : State), TablesRise s → Reachable s d c → s.hostWriteHeld =
      false → ((v - ((s.core d c).q e).head).toNat ≤ 2 ^ ((s.core d c).q e).size.toNat ∨ ((s.core d c).q e).halt ≠ none) → ∃ t,
      exec (.qTailWrite d c e v) s = .next t
      ∧ ((t.core d c).q e).tail = v
      ∧ { ((t.core d c).setQ e { (t.core d c).q e with tail := ((s.core d c).q e).tail }) with sm := (s.core d c).sm } = s.core
        d c
      ∧ (∀ k, k ≠ coreKey d c → mapGet { } t.cores k = mapGet { } s.cores k)
      ∧ { t with cores := s.cores } = s)
  ∧ (∀ (d : Fin 16) (c : Fin 32) (e : Fin 3) (v : BitVec 32) (s : State), TablesRise s → Reachable s d c → s.hostWriteHeld =
      false → 2 ^ ((s.core d c).q e).size.toNat < (v - ((s.core d c).q e).head).toNat → ((s.core d c).q e).halt = none → ∃ t,
      exec (.qTailWrite d c e v) s = .next t
      ∧ ((t.core d c).q e).tail = v
      ∧ ((t.core d c).q e).halt = some .cmd
      ∧ bits ((t.core d c).q e).err 31 24 = stRing
      ∧ ((t.core d c).q e).acc = ((s.core d c).q e).acc
      ∧ bit (t.core d c).tc.irqPend 9 = true
      ∧ (∀ k, k ≠ coreKey d c → mapGet { } t.cores k = mapGet { } s.cores k)
      ∧ { t with cores := s.cores, host := s.host, out := s.out } = s)
  ∧ (∀ (d : Fin 16) (c : Fin 32) (e : Fin 3) (v : BitVec 32) (s : State), s.hostWriteHeld = true → ∃ t, exec (.qTailWrite d c e
      v) s = .next t
      ∧ t =
        { s with host := { s.host with ordered := s.host.ordered ++ [(d.val, .local_ (ctlAddr c (0x100 * e.val + 0x10)) .host false (.write (toBytes 4 v.toNat)))] } })
  ∧ (∀ (d : Fin 16) (c : Fin 32) (e : Fin 3) (v : BitVec 64) (s : State), TablesRise s → Reachable s d c → ringBaseOk (v.toNat
      % 2 ^ 44) = true → ((s.core d c).q e).enable = false → ((s.core d c).q e).acc = [] → ((s.core d c).q e).run = [] → ∃ t,
      exec (.queueConfigWrite d c e .qBase v) s = .next t
      ∧ ((t.core d c).q e).base.toNat = v.toNat % 2 ^ 44
      ∧ (t.core d c).setQ e { (t.core d c).q e with base := ((s.core d c).q e).base } = s.core d c
      ∧ (∀ k, k ≠ coreKey d c → mapGet { } t.cores k = mapGet { } s.cores k)
      ∧ { t with cores := s.cores } = s)
  ∧ (∀ (d : Fin 16) (c : Fin 32) (e : Fin 3) (v : BitVec 64) (s : State), TablesRise s → Reachable s d c → 6 ≤ v.toNat % 2 ^ 32
      → v.toNat % 2 ^ 32 ≤ 16 → ((s.core d c).q e).enable = false → ((s.core d c).q e).acc = [] → ((s.core d c).q e).run = [] →
      ∃ t, exec (.queueConfigWrite d c e .qSize v) s = .next t
      ∧ ((t.core d c).q e).size = v.setWidth 32
      ∧ (t.core d c).setQ e { (t.core d c).q e with size := ((s.core d c).q e).size } = s.core d c
      ∧ { t with cores := s.cores } = s)
  ∧ (∀ (d : Fin 16) (c : Fin 32) (e : Fin 3) (v : BitVec 64) (s : State), TablesRise s → Reachable s d c → v.toNat % 4096 = 0 →
      regionOf (v.toNat % 2 ^ 44) ≠ .hole → ((s.core d c).q e).enable = false → ((s.core d c).q e).acc = [] → ((s.core d c).q
      e).run = [] → ∃ t, exec (.queueConfigWrite d c e .cBase v) s = .next t
      ∧ ((t.core d c).q e).cBase.toNat = v.toNat % 2 ^ 44
      ∧ (t.core d c).setQ e { (t.core d c).q e with cBase := ((s.core d c).q e).cBase } = s.core d c
      ∧ (∀ k, k ≠ coreKey d c → mapGet { } t.cores k = mapGet { } s.cores k)
      ∧ { t with cores := s.cores } = s)
  ∧ (∀ (d : Fin 16) (c : Fin 32) (e : Fin 3) (v : BitVec 64) (s : State), TablesRise s → Reachable s d c → (v.toNat % 2 ^ 32 =
      0 ∨ 6 ≤ v.toNat % 2 ^ 32) → v.toNat % 2 ^ 32 ≤ 16 → ((s.core d c).q e).enable = false → ((s.core d c).q e).acc = [] →
      ((s.core d c).q e).run = [] → ∃ t, exec (.queueConfigWrite d c e .cSize v) s = .next t
      ∧ ((t.core d c).q e).cSize = v.setWidth 32
      ∧ (t.core d c).setQ e { (t.core d c).q e with cSize := ((s.core d c).q e).cSize } = s.core d c
      ∧ (∀ k, k ≠ coreKey d c → mapGet { } t.cores k = mapGet { } s.cores k)
      ∧ { t with cores := s.cores } = s)
  ∧ (∀ (d : Fin 16) (c : Fin 32) (e : Fin 3) (reg : QCfgReg) (v : BitVec 64) (s : State), Reachable s d c → (cfgOk reg (if reg
      = .qSize ∨ reg = .cSize then v.toNat % 2 ^ 32 else v.toNat) = false) → ∃ t, exec (.queueConfigWrite d c e reg v) s =
      .next t
      ∧ (t.flt.raised = s.flt.raised ++
        [⟨softEvent d c 0 (if reg = .qSize ∨ reg = .cSize then v.toNat % 2 ^ 32 else v.toNat), s.gtNow⟩])
      ∧ { t with flt := { t.flt with raised := s.flt.raised } } = s)
  ∧ (∀ (d : Fin 16) (c : Fin 32) (e : Fin 3) (reg : QCfgReg) (v : BitVec 64) (s : State), Reachable s d c → ((s.core d c).q
      e).enable = true → ∃ t, exec (.queueConfigWrite d c e reg v) s = .next t
      ∧ t.cores = s.cores
      ∧ { t with flt := { t.flt with raised := s.flt.raised } } = s)
  ∧ (∀ (d : Fin 16) (c : Fin 32) (e : Fin 3) (on : Bool) (s : State), TablesRise s → Reachable s d c → ∃ t, exec (.qCtrlEnable
      d c e on) s = .next t
      ∧ ((t.core d c).q e).enable = on
      ∧ { (t.core d c).setQ e { (t.core d c).q e with enable := ((s.core d c).q e).enable } with sm := (s.core d c).sm } =
        s.core d c
      ∧ (∀ k, k ≠ coreKey d c → mapGet { } t.cores k = mapGet { } s.cores k)
      ∧ { t with cores := s.cores } = s)
  ∧ (∀ (d : Fin 16) (c : Fin 32) (e : Fin 3) (s : State), TablesRise s → Reachable s d c → (((s.core d c).q e).halt = some .cmd
      ∨ ((s.core d c).q e).halt = some .req ∨ (((s.core d c).q e).halt = some .fault ∧ (s.core d c).faultCause e = 0)) → ∃ t,
      exec (.qCtrlResume d c e) s = .next t
      ∧ ((t.core d c).q e).halt = none
      ∧ { (t.core d c).setQ e { (t.core d c).q e with halt := ((s.core d c).q e).halt } with sm := (s.core d c).sm } = s.core d
        c
      ∧ (∀ k, k ≠ coreKey d c → mapGet { } t.cores k = mapGet { } s.cores k)
      ∧ { t with cores := s.cores } = s)
  ∧ (∀ (d : Fin 16) (c : Fin 32) (e : Fin 3) (s : State), Reachable s d c → (((s.core d c).q e).halt = none ∨ ((s.core d c).q
      e).halt = some .sync ∨ (((s.core d c).q e).halt = some .fault ∧ (s.core d c).faultCause e ≠ 0)) → TablesRise s → ∃ t,
      exec (.qCtrlResume d c e) s = .next t
      ∧ { t.core d c with sm := (s.core d c).sm } = s.core d c
      ∧ (∀ k, k ≠ coreKey d c → mapGet { } t.cores k = mapGet { } s.cores k)
      ∧ { t with cores := s.cores } = s)
  ∧ (∀ (d : Fin 16) (c : Fin 32) (e : Fin 3) (s : State), TablesRise s → Reachable s d c → (((s.core d c).q e).halt ≠ none ∨
      ((s.core d c).q e).enable = false) → ∃ t, exec (.qCtrlDiscard d c e) s = .next t
      ∧ ((t.core d c).q e).acc = []
      ∧ ((t.core d c).q e).head = ((s.core d c).q e).tail
      ∧
        { (t.core d c).setQ e { (t.core d c).q e with acc := ((s.core d c).q e).acc, head := ((s.core d c).q e).head } with sm := (s.core d c).sm }
        = s.core d c
      ∧ (∀ k, k ≠ coreKey d c → mapGet { } t.cores k = mapGet { } s.cores k)
      ∧ { t with cores := s.cores } = s)
  ∧ (∀ (d : Fin 16) (c : Fin 32) (e : Fin 3) (s : State), Reachable s d c → ((s.core d c).q e).halt = none → ((s.core d c).q
      e).enable = true → ∃ t, exec (.qCtrlDiscard d c e) s = .next t
      ∧ t = s)
  ∧ (∀ (d : Fin 16) (c : Fin 32) (e : Fin 3) (s : State), TablesRise s → Reachable s d c → ((s.core d c).q e).halt = none → ∃
      t, exec (.qCtrlHalt d c e) s = .next t
      ∧ ((t.core d c).q e).halt = some .req
      ∧
        { (t.core d c).setQ e { (t.core d c).q e with halt := ((s.core d c).q e).halt } with tc := { (t.core d c).tc with irqPend := (s.core d c).tc.irqPend } }
        = s.core d c
      ∧ bit (t.core d c).tc.irqPend 9 = true
      ∧ (∀ k, k ≠ coreKey d c → mapGet { } t.cores k = mapGet { } s.cores k)
      ∧ { t with cores := s.cores, host := s.host, out := s.out } = s)
  ∧ (∀ (d : Fin 16) (c : Fin 32) (e : Fin 3) (s : State), Reachable s d c → ((s.core d c).q e).halt ≠ none → ∃ t, exec
      (.qCtrlHalt d c e) s = .next t
      ∧ t = s)

/-- R131, R133, R143, R149 to R151: an enabled queue reads its next slot, numbers the command and accepts it; a command
whose work is done completes: its flags join the engine's, its counter gains 1, its slot takes its handle, its number of
completions rises; with a completion ring its record is written at the tail; a status that is not OK halts the queue with
that status in Q_ERR. -/
def Obligations.CommandsFetchAndComplete : Prop :=
  (∀ (d : Fin 16) (c : Fin 32) (e : Fin 3) (s : State), TablesRise s → s.mayFetch d c e = true → ((s.core d c).q e).overrun =
      false → fetchable (regionSpan (((s.core d c).q e).slotAddr ((s.core d c).q e).head.toNat) 16) = true → s.badIn d
      (((s.core d c).q e).slotAddr ((s.core d c).q e).head.toNat) 16 = false → ∃ t, exec (.commandFetch d c e) s = .next t
      ∧ ((t.core d c).q e).acc = ((s.core d c).q e).acc ++
        [{ num := ((s.core d c).q e).count, word := BitVec.ofNat 128 (ofBytes (s.bytes d (((s.core d c).q e).slotAddr ((s.core d c).q e).head.toNat) 16)) }]
      ∧ ((t.core d c).q e).count = ((s.core d c).q e).count + 1
      ∧ ((t.core d c).q e).head = ((s.core d c).q e).head + 1
      ∧
        { (t.core d c).setQ e { (t.core d c).q e with acc := ((s.core d c).q e).acc, count := ((s.core d c).q e).count, head := ((s.core d c).q e).head } with sm := (s.core d c).sm }
        = s.core d c
      ∧ (∀ k, k ≠ coreKey d c → mapGet { } t.cores k = mapGet { } s.cores k)
      ∧ { t with cores := s.cores } = s)
  ∧ (∀ (d : Fin 16) (c : Fin 32) (e : Fin 3) (s : State), TablesRise s → s.mayFetch d c e = true → ((s.core d c).q e).overrun =
      false → fetchable (regionSpan (((s.core d c).q e).slotAddr ((s.core d c).q e).head.toNat) 16) = false → ∃ t, exec
      (.commandFetch d c e) s = .next t
      ∧ ((t.core d c).q e).halt = some .cmd
      ∧ bits ((t.core d c).q e).err 31 24 = stAddrHole
      ∧ ((t.core d c).q e).acc = ((s.core d c).q e).acc
      ∧ (t.flt.raised.getLast?).map (·.ev) = some (softEvent d c stAddrHole (((s.core d c).q e).slotAddr ((s.core d c).q
        e).head.toNat))
      ∧ (∀ k, k ≠ coreKey d c → mapGet { } t.cores k = mapGet { } s.cores k)
      ∧ { t with cores := s.cores, host := s.host, out := s.out, flt := { t.flt with raised := s.flt.raised } } = s)
  ∧ (∀ (d : Fin 16) (c : Fin 32) (e : Fin 3) (s : State), TablesRise s → s.mayFetch d c e = true → ((s.core d c).q e).overrun =
      false → fetchable (regionSpan (((s.core d c).q e).slotAddr ((s.core d c).q e).head.toNat) 16) = true → s.badIn d
      (((s.core d c).q e).slotAddr ((s.core d c).q e).head.toNat) 16 = true → ∃ t, exec (.commandFetch d c e) s = .next t
      ∧ ((t.core d c).q e).halt = some .cmd
      ∧ bits ((t.core d c).q e).err 31 24 = stParity
      ∧ ((t.core d c).q e).acc = ((s.core d c).q e).acc
      ∧ ((t.core d c).q e).head = ((s.core d c).q e).head
      ∧ (t.tile d (((s.core d c).q e).slotAddr ((s.core d c).q e).head.toNat / 4096 * 4096)).st = .poison
      ∧ (∀ k, k ≠ coreKey d c → mapGet { } t.cores k = mapGet { } s.cores k)
      ∧ t.mem = s.mem)
  ∧ (∀ (d : Fin 16) (c : Fin 32) (e : Fin 3) (s : State), TablesRise s → s.mayFetch d c e = true → ((s.core d c).q e).overrun =
      true → ∃ t, exec (.commandFetch d c e) s = .next t
      ∧ ((t.core d c).q e).halt = some .cmd
      ∧ bits ((t.core d c).q e).err 31 24 = stRing
      ∧ ((t.core d c).q e).acc = ((s.core d c).q e).acc
      ∧ ((t.core d c).q e).head = ((s.core d c).q e).head
      ∧ (∀ k, k ≠ coreKey d c → mapGet { } t.cores k = mapGet { } s.cores k)
      ∧ { t with cores := s.cores, host := s.host, out := s.out } = s)
  ∧ (∀ (d : Fin 16) (c : Fin 32) (e : Fin 3) (num : BitVec 64) (r : Run) (s : State), TablesRise s → CoreRises (s.core d c) →
      Completing s d c e num r → r.status = 0 → cmdOp r.word ≠ 0x07 → cmdIrq r.word = false → ((s.core d c).q e).cSize = 0 → ∃
      t, exec (.commandCompletion d c e num) s = .next t
      ∧ ((t.core d c).q e).run = ((s.core d c).q e).run.filter (fun x => x.num != num)
      ∧ ((t.core d c).q e).done = ((s.core d c).q e).done + 1
      ∧
        { (t.core d c).q e with run := ((s.core d c).q e).run, done := ((s.core d c).q e).done, busySince := ((s.core d c).q e).busySince }
        = (s.core d c).q e
      ∧ (t.core d c).mx.flags = (s.core d c).mx.flags ||| (if e.val = 0 then r.flags else 0)
      ∧ ((t.core d c).vx.flags = (if e.val = 1 then (if r.body = true ∧ cmdOp r.word = 0x2B ∧ r.status = 0 then 0 else (s.core
        d c).vx.flags ||| r.flags) else (s.core d c).vx.flags))
      ∧ (t.core d c).counter (cmdSeng r.word) (cmdScnt r.word) = (s.core d c).counter (cmdSeng r.word) (cmdScnt r.word) + (if
        cmdSigCnt r.word = true then 1 else 0)
      ∧ (∀ j, j ≠ 8 * cmdSeng r.word + cmdScnt r.word → mapGet 0 (t.core d c).cnt j = mapGet 0 (s.core d c).cnt j)
      ∧ (r.slot = true → (t.core d c).tileQueue (cmdStq r.word) = tqFill ((s.core d c).tileQueue (cmdStq r.word)) e num (if
        r.status = 0 then tilesHandle num.toNat e r.tiles else mkHandle num.toNat e 0 0 true))
      ∧ (∀ j, j ≠ cmdStq r.word → (t.core d c).tileQueue j = (s.core d c).tileQueue j)
      ∧ (r.slot = false → (t.core d c).tq = (s.core d c).tq)
      ∧ uncompleted e (t.core d c) (s.core d c) = s.core d c
      ∧ (∀ k, k ≠ coreKey d c → mapGet { } t.cores k = mapGet { } s.cores k)
      ∧ (∀ i, i < 16 → { t.die i with flows := (s.die i).flows } = s.die i)
      ∧ (e.val = 2 → (t.die d).flows = (s.die d).flows.filter (fun f => f.2.1 != c.val || f.2.2 != num) ∨ (t.die d).flows =
        (s.die d).flows)
      ∧ { t with cores := s.cores, dies := s.dies } = s)
  ∧ (∀ (d : Fin 16) (c : Fin 32) (e : Fin 3) (num : BitVec 64) (r : Run) (s : State), TablesRise s → CoreRises (s.core d c) →
      Completing s d c e num r → r.slot = true → ((s.core d c).q e).cSize = 0 → ∃ t, exec (.commandCompletion d c e num) s =
      .next t
      ∧ ((t.core d c).q e).run = ((s.core d c).q e).run.filter (fun x => x.num != num)
      ∧ ((t.core d c).q e).done = ((s.core d c).q e).done + 1
      ∧ (r.slot = true → (t.core d c).tileQueue (cmdStq r.word) = tqFill ((s.core d c).tileQueue (cmdStq r.word)) e num (if
        r.status = 0 then tilesHandle num.toNat e r.tiles else mkHandle num.toNat e 0 0 true))
      ∧ (∀ j, j ≠ cmdStq r.word → (t.core d c).tileQueue j = (s.core d c).tileQueue j)
      ∧ (r.slot = false → (t.core d c).tq = (s.core d c).tq)
      ∧ uncompleted e (t.core d c) (s.core d c) = s.core d c
      ∧ (∀ k, k ≠ coreKey d c → mapGet { } t.cores k = mapGet { } s.cores k))
  ∧ (∀ (d : Fin 16) (c : Fin 32) (e : Fin 3) (num : BitVec 64) (r : Run) (s : State), TablesRise s → CoreRises (s.core d c) →
      Completing s d c e num r → Memory.wf s.mem = true → s.dieRuns d = true → ((s.core d c).q e).cSize ≠ 0 → ((s.core d c).q
      e).cTail - ((s.core d c).q e).cHead ≠ BitVec.ofNat 32 (2 ^ ((s.core d c).q e).cSize.toNat) → fetchable (regionSpan
      (((s.core d c).q e).cBase.toNat % 2 ^ 44 + 16 * (((s.core d c).q e).cTail.toNat % 2 ^ ((s.core d c).q e).cSize.toNat))
      16) = true → (regionCore (regionSpan (((s.core d c).q e).cBase.toNat % 2 ^ 44 + 16 * (((s.core d c).q e).cTail.toNat % 2
      ^ ((s.core d c).q e).cSize.toNat)) 16)).all (fun k => !s.coreOut d k && !s.substituting d k) = true → ∃ t, exec
      (.commandCompletion d c e num) s = .next t
      ∧ ((t.core d c).q e).run = ((s.core d c).q e).run.filter (fun x => x.num != num)
      ∧ ((t.core d c).q e).done = ((s.core d c).q e).done + 1
      ∧ ((t.core d c).q e).cTail = ((s.core d c).q e).cTail + 1
      ∧ ofBytes (t.bytes d (((s.core d c).q e).cBase.toNat % 2 ^ 44 + 16 * (((s.core d c).q e).cTail.toNat % 2 ^ ((s.core d
        c).q e).cSize.toNat)) 16) = complRecord r e (bits (s.localGt d) 47 8) (r.slot && r.status != 0) % 2 ^ 128
      ∧ (∀ i, i < 16 → ∀ a, a < 2 ^ 44 → (i ≠ d.val ∨ a < ((s.core d c).q e).cBase.toNat % 2 ^ 44 + 16 * (((s.core d c).q
        e).cTail.toNat % 2 ^ ((s.core d c).q e).cSize.toNat) ∨ ((s.core d c).q e).cBase.toNat % 2 ^ 44 + 16 * (((s.core d c).q
        e).cTail.toNat % 2 ^ ((s.core d c).q e).cSize.toNat) + 16 ≤ a) → t.byte i a = s.byte i a)
      ∧ uncompleted e (t.core d c) (s.core d c) = s.core d c
      ∧ (∀ k, k ≠ coreKey d c → mapGet { } t.cores k = mapGet { } s.cores k))
  ∧ (∀ (d : Fin 16) (c : Fin 32) (e : Fin 3) (num : BitVec 64) (r : Run) (s : State), TablesRise s → CoreRises (s.core d c) →
      Completing s d c e num r → ((s.core d c).q e).cSize ≠ 0 → ((s.core d c).q e).cTail - ((s.core d c).q e).cHead =
      BitVec.ofNat 32 (2 ^ ((s.core d c).q e).cSize.toNat) → ∃ t, exec (.commandCompletion d c e num) s = .next t
      ∧ ((t.core d c).q e).run = ((s.core d c).q e).run.filter (fun x => x.num != num)
      ∧ ((t.core d c).q e).done = ((s.core d c).q e).done + 1
      ∧ ((t.core d c).q e).cLost = ((s.core d c).q e).cLost + 1
      ∧ ((t.core d c).q e).cTail = ((s.core d c).q e).cTail
      ∧ uncompleted e (t.core d c) (s.core d c) = s.core d c
      ∧ (∀ k, k ≠ coreKey d c → mapGet { } t.cores k = mapGet { } s.cores k)
      ∧ t.mem = s.mem)
  ∧ (∀ (d : Fin 16) (c : Fin 32) (e : Fin 3) (num : BitVec 64) (r : Run) (s : State), TablesRise s → CoreRises (s.core d c) →
      Completing s d c e num r → r.status = 0 → cmdOp r.word ≠ 0x07 → cmdIrq r.word = true → ((s.core d c).q e).cSize = 0 → ∃
      t, exec (.commandCompletion d c e num) s = .next t
      ∧ ((t.core d c).q e).run = ((s.core d c).q e).run.filter (fun x => x.num != num)
      ∧ ((t.core d c).q e).done = ((s.core d c).q e).done + 1
      ∧ (bit ((s.core d c).q e).irq 30 = true → bit (t.core d c).tc.irqPend e = true)
      ∧ (bit ((s.core d c).q e).irq 31 = true → (bits ((s.core d c).q e).irq 7 0 ∈ s.host.unmasked → t.out = s.out ++ [.msix
        (bits ((s.core d c).q e).irq 7 0)]) ∧ (bits ((s.core d c).q e).irq 7 0 ∉ s.host.unmasked → bits ((s.core d c).q e).irq
        7 0 ∈ t.host.pend))
      ∧ (t.core d c).mx.flags = (s.core d c).mx.flags ||| (if e.val = 0 then r.flags else 0)
      ∧ ((t.core d c).vx.flags = (if e.val = 1 then (if r.body = true ∧ cmdOp r.word = 0x2B ∧ r.status = 0 then 0 else (s.core
        d c).vx.flags ||| r.flags) else (s.core d c).vx.flags))
      ∧ (t.core d c).counter (cmdSeng r.word) (cmdScnt r.word) = (s.core d c).counter (cmdSeng r.word) (cmdScnt r.word) + (if
        cmdSigCnt r.word = true then 1 else 0)
      ∧ (∀ j, j ≠ 8 * cmdSeng r.word + cmdScnt r.word → mapGet 0 (t.core d c).cnt j = mapGet 0 (s.core d c).cnt j)
      ∧ (r.slot = true → (t.core d c).tileQueue (cmdStq r.word) = tqFill ((s.core d c).tileQueue (cmdStq r.word)) e num (if
        r.status = 0 then tilesHandle num.toNat e r.tiles else mkHandle num.toNat e 0 0 true))
      ∧ (∀ j, j ≠ cmdStq r.word → (t.core d c).tileQueue j = (s.core d c).tileQueue j)
      ∧ (r.slot = false → (t.core d c).tq = (s.core d c).tq)
      ∧ uncompleted e (t.core d c) (s.core d c) = s.core d c
      ∧ (∀ k, k ≠ coreKey d c → mapGet { } t.cores k = mapGet { } s.cores k)
      ∧ { t with cores := s.cores, dies := s.dies, host := s.host, out := s.out } = s)
  ∧ (∀ (d : Fin 16) (c : Fin 32) (e : Fin 2) (num : BitVec 64) (r : Run) (s : State), TablesRise s → CoreRises (s.core d c) →
      (s.core d c).findRun e num = some r → mayComplete ((s.core d c).q e) e r = true → ((s.core d c).next e).all (fun k =>
      k.num != num) = true → (e.val = 1 → (s.core d c).vx.loops = []) → (e.val = 0 → (s.core d c).mx.waiting = [] ∧
      s.host.ordered = []) → Quiet s d → r.status = 0 → r.level = 1 → r.ins.all (fun τ => r.tiles.contains τ || (s.verify d
      (lsAddr c (4096 * τ)) 1).isNone) = true → r.tiles.all (fun τ => decide (τ < 2048)) = true → cmdIrq r.word = false →
      ((s.core d c).q e).cSize = 0 → ∃ t, exec (.commandCompletion d c (e.castLE (by decide)) num) s = .next t
      ∧ ((t.core d c).q e).run = ((s.core d c).q e).run.filter (fun x => x.num != num)
      ∧ ((t.core d c).q e).done = ((s.core d c).q e).done + 1
      ∧ (∀ τ : Fin 2048, (t.tile d (lsAddr c (4096 * τ.val))).st = (if τ.val ∈ r.tiles ∧ (s.tile d (lsAddr c (4096 *
        τ.val))).st = .open ∧ bits (s.tile d (lsAddr c (4096 * τ.val))).tag 63 48 = num.toNat % 2 ^ 16 then .valid else (s.tile
        d (lsAddr c (4096 * τ.val))).st))
      ∧ (∀ k, k ≠ coreKey d c → mapGet { } t.cores k = mapGet { } s.cores k)
      ∧ t.mem = s.mem)
  ∧ (∀ (d : Fin 16) (c : Fin 32) (e : Fin 3) (num : BitVec 64) (r : Run) (s : State), TablesRise s → CoreRises (s.core d c) →
      Completing s d c e num r → r.status ≠ 0 → ((s.core d c).q e).halt = none → ((s.core d c).q e).cSize = 0 → ∃ t, exec
      (.commandCompletion d c e num) s = .next t
      ∧ ((t.core d c).q e).run = ((s.core d c).q e).run.filter (fun x => x.num != num)
      ∧ ((t.core d c).q e).done = ((s.core d c).q e).done + 1
      ∧ (((t.core d c).q e).halt = some (if r.status = 0x07 ∨ r.status = 0x0C then .fault else .cmd))
      ∧ bits ((t.core d c).q e).err 31 24 = r.status.toNat
      ∧ bits ((t.core d c).q e).err 23 16 = cmdOp r.word
      ∧ (t.core d c).cnt = (s.core d c).cnt
      ∧ bit (t.core d c).tc.irqPend 9 = true
      ∧ (r.slot = true → (t.core d c).tileQueue (cmdStq r.word) = tqFill ((s.core d c).tileQueue (cmdStq r.word)) e num (if
        r.status = 0 then tilesHandle num.toNat e r.tiles else mkHandle num.toNat e 0 0 true))
      ∧ (∀ j, j ≠ cmdStq r.word → (t.core d c).tileQueue j = (s.core d c).tileQueue j)
      ∧ (r.slot = false → (t.core d c).tq = (s.core d c).tq)
      ∧ uncompleted e (t.core d c) (s.core d c) = s.core d c
      ∧ (∀ k, k ≠ coreKey d c → mapGet { } t.cores k = mapGet { } s.cores k))

/-- R132, R141, R146, R147, R152, R159, R306 and Table 13 of ch.05: each issues from the head of any of the three queues;
its wait pops a handle or steps a comparator and its signal reserves a slot; CNT.SET, CNT.ADD, CMP.SET and TQ.PUSH change
what they name; AWAIT_GT waits for its target, is LATE past it and fails with GT_LOST where local GT is UNSET; HALT stops
later issue; SIG0 sends its add to its die. -/
def Obligations.CommonCommandsRun : Prop :=
  (∀ (d : Fin 16) (c : Fin 32) (e : Fin 3) (k : Cmd) (s : State), Issues s d c e 0x00 k → ∃ t, exec (.nop d c e) s = .next t
      ∧ Issued s t d c e k stOk
      ∧ (t.core d c).tq = ((s.core d c).takeWait e k).1.tq
      ∧ (t.core d c).cmp = ((s.core d c).takeWait e k).1.cmp
      ∧ unissued e (t.core d c) (s.core d c) = s.core d c
      ∧ (∀ k, k ≠ coreKey d c → mapGet { } t.cores k = mapGet { } s.cores k)
      ∧ { t with cores := s.cores } = s)
  ∧ (∀ (d : Fin 16) (c : Fin 32) (e : Fin 3) (k : Cmd) (h : BitVec 64) (s : State), Issues s d c e 0x00 k → cmdWait k.word = 1
      → cmdSigTq k.word = false → tqHead ((s.core d c).tileQueue (cmdWsel k.word)) = some h → ∃ t, exec (.nop d c e) s = .next
      t
      ∧ ((t.core d c).tileQueue (cmdWsel k.word)).slots = ((s.core d c).tileQueue (cmdWsel k.word)).slots.tail
      ∧ (((t.core d c).q e).run.getLast?).map Run.popped = some (some h)
      ∧ (∀ j, j ≠ cmdWsel k.word → (t.core d c).tileQueue j = (s.core d c).tileQueue j))
  ∧ (∀ (d : Fin 16) (c : Fin 32) (e : Fin 3) (k : Cmd) (s : State), Issues s d c e 0x00 k → cmdWait k.word = 2 → ∃ t, exec
      (.nop d c e) s = .next t
      ∧ s.cmpHolds d c e (cmdWsel k.word % 4) = true
      ∧ bits ((t.core d c).comparator e (cmdWsel k.word % 4)) 31 0 = (bits ((s.core d c).comparator e (cmdWsel k.word % 4)) 31
        0 + bits ((s.core d c).comparator e (cmdWsel k.word % 4)) 59 52) % 2 ^ 32
      ∧ bits ((t.core d c).comparator e (cmdWsel k.word % 4)) 63 32 = bits ((s.core d c).comparator e (cmdWsel k.word % 4)) 63
        32
      ∧ (∀ j, j ≠ 4 * e.val + cmdWsel k.word % 4 → mapGet 0 (t.core d c).cmp j = mapGet 0 (s.core d c).cmp j))
  ∧ (∀ (d : Fin 16) (c : Fin 32) (e : Fin 3) (k : Cmd) (s : State), Issues s d c e 0x01 k → ∃ t, exec (.cntSet d c e) s = .next
      t
      ∧ Issued s t d c e k stOk
      ∧ (t.core d c).counter (bits k.word 95 94) (bits k.word 93 91) = k.word.setWidth 32
      ∧ (∀ j, j ≠ 8 * bits k.word 95 94 + bits k.word 93 91 → mapGet 0 (t.core d c).cnt j = mapGet 0 (s.core d c).cnt j)
      ∧ unissued e
        { t.core d c with cnt := (s.core d c).cnt, tc := { (t.core d c).tc with irqPend := (s.core d c).tc.irqPend } } (s.core
        d c) = s.core d c
      ∧ (∀ i, i < 4 → bit (t.core d c).tc.irqPend (3 + i) = (bit (s.core d c).tc.irqPend (3 + i) || (!s.cmpHolds d c 3 i &&
        t.cmpHolds d c 3 i)))
      ∧ (∀ k, k ≠ coreKey d c → mapGet { } t.cores k = mapGet { } s.cores k)
      ∧ { t with cores := s.cores } = s)
  ∧ (∀ (d : Fin 16) (c : Fin 32) (e : Fin 3) (k : Cmd) (s : State), Issues s d c e 0x02 k → ∃ t, exec (.cntAdd d c e) s = .next
      t
      ∧ Issued s t d c e k stOk
      ∧ (t.core d c).counter (bits k.word 95 94) (bits k.word 93 91) = (s.core d c).counter (bits k.word 95 94) (bits k.word 93
        91) + k.word.setWidth 32
      ∧ (∀ j, j ≠ 8 * bits k.word 95 94 + bits k.word 93 91 → mapGet 0 (t.core d c).cnt j = mapGet 0 (s.core d c).cnt j)
      ∧ unissued e
        { t.core d c with cnt := (s.core d c).cnt, tc := { (t.core d c).tc with irqPend := (s.core d c).tc.irqPend } } (s.core
        d c) = s.core d c
      ∧ (∀ i, i < 4 → bit (t.core d c).tc.irqPend (3 + i) = (bit (s.core d c).tc.irqPend (3 + i) || (!s.cmpHolds d c 3 i &&
        t.cmpHolds d c 3 i)))
      ∧ (∀ k, k ≠ coreKey d c → mapGet { } t.cores k = mapGet { } s.cores k)
      ∧ { t with cores := s.cores } = s)
  ∧ (∀ (d : Fin 16) (c : Fin 32) (e : Fin 3) (k : Cmd) (s : State), Issues s d c e 0x03 k → ∃ t, exec (.cmpSet d c e) s = .next
      t
      ∧ Issued s t d c e k stOk
      ∧ (t.core d c).comparator e (bits k.word 95 94) = cmpMask (k.word.setWidth 64)
      ∧ (∀ j, j ≠ 4 * e.val + bits k.word 95 94 → mapGet 0 (t.core d c).cmp j = mapGet 0 ((s.core d c).takeWait e k).1.cmp j)
      ∧ unissued e (t.core d c) (s.core d c) = s.core d c
      ∧ (∀ k, k ≠ coreKey d c → mapGet { } t.cores k = mapGet { } s.cores k)
      ∧ { t with cores := s.cores } = s)
  ∧ (∀ (d : Fin 16) (c : Fin 32) (e : Fin 3) (k : Cmd) (s : State), Issues s d c e 0x04 k → handleOk (k.word.setWidth 64) =
      true → ∃ t, exec (.tqPush d c e) s = .next t
      ∧ Issued s t d c e k stOk
      ∧ ((t.core d c).tileQueue (bits k.word 95 92)).slots = (((s.core d c).takeWait e k).1.tileQueue (bits k.word 95
        92)).slots ++ [{ eng := 4, num := 0, handle := some (putBits (k.word.setWidth 64) 30 11 0) }]
      ∧ (∀ j, j ≠ bits k.word 95 92 → (t.core d c).tileQueue j = ((s.core d c).takeWait e k).1.tileQueue j)
      ∧ unissued e (t.core d c) (s.core d c) = s.core d c
      ∧ (∀ k, k ≠ coreKey d c → mapGet { } t.cores k = mapGet { } s.cores k)
      ∧ { t with cores := s.cores } = s)
  ∧ (∀ (d : Fin 16) (c : Fin 32) (e : Fin 3) (k : Cmd) (s : State), Issues s d c e 0x04 k → handleOk (k.word.setWidth 64) =
      false → ∃ t, exec (.tqPush d c e) s = .next t
      ∧ Issued s t d c e k stDesc
      ∧ (t.core d c).tq = ((s.core d c).takeWait e k).1.tq
      ∧ unissued e (t.core d c) (s.core d c) = s.core d c
      ∧ (∀ k, k ≠ coreKey d c → mapGet { } t.cores k = mapGet { } s.cores k)
      ∧ { t with cores := s.cores } = s)
  ∧ (∀ (d : Fin 16) (c : Fin 32) (e : Fin 3) (k : Cmd) (s : State), Issues s d c e 0x05 k → s.awaitLost d k.word = false → ¬
      ((if bit k.word 95 then s.localGt d + k.word.setWidth 64 else k.word.setWidth 64) < s.localGt d) → ∃ t, exec (.awaitGt d
      c e) s = .next t
      ∧ Issued s t d c e k stOk
      ∧ (((t.core d c).q e).run.getLast?).map (fun r => (r.target, r.awaits)) = some (if bit k.word 95 then s.localGt d +
        k.word.setWidth 64 else k.word.setWidth 64, [.gt])
      ∧ unissued e (t.core d c) (s.core d c) = s.core d c
      ∧ (∀ k, k ≠ coreKey d c → mapGet { } t.cores k = mapGet { } s.cores k)
      ∧ { t with cores := s.cores } = s)
  ∧ (∀ (d : Fin 16) (c : Fin 32) (e : Fin 3) (k : Cmd) (s : State), Issues s d c e 0x05 k → s.awaitLost d k.word = false → (if
      bit k.word 95 then s.localGt d + k.word.setWidth 64 else k.word.setWidth 64) < s.localGt d → ∃ t, exec (.awaitGt d c e) s
      = .next t
      ∧ Issued s t d c e k (if awaitLateFail k.word then stGtLate else stOk)
      ∧ (((t.core d c).q e).run.getLast?).map (fun r => (r.late, r.awaits)) = some (!awaitLateFail k.word, [])
      ∧ unissued e (t.core d c) (s.core d c) = s.core d c
      ∧ (∀ k, k ≠ coreKey d c → mapGet { } t.cores k = mapGet { } s.cores k)
      ∧ { t with cores := s.cores } = s)
  ∧ (∀ (d : Fin 16) (c : Fin 32) (e : Fin 3) (k : Cmd) (s : State), Issues s d c e 0x05 k → (s.gtState d = 0 ∨ (awaitStrict
      k.word = true ∧ s.gtValid d = false)) → ∃ t, exec (.awaitGt d c e) s = .next t
      ∧ Issued s t d c e k stGtLost
      ∧ unissued e (t.core d c) (s.core d c) = s.core d c
      ∧ (∀ k, k ≠ coreKey d c → mapGet { } t.cores k = mapGet { } s.cores k)
      ∧ { t with cores := s.cores } = s)
  ∧ (∀ (d : Fin 16) (c : Fin 32) (e : Fin 3) (num : BitVec 64) (r : Run) (s : State), TablesRise s → CoreRises (s.core d c) →
      (s.core d c).findRun e num = some r → r.awaits.contains .gt = true → s.awaitLost d r.word = false → s.gt.hold = none →
      r.target ≤ s.localGt d → (e.val = 1 → (s.core d c).vx.loops = [] ∨ (s.core d c).vx.pos ≠ num) → ∃ t, exec (.awaitGtFire d
      c e num) s = .next t
      ∧ ((t.core d c).q e).run = ((s.core d c).q e).run.map (fun x => if x.num = num then
        { x with awaits := x.awaits.filter (· != .gt) } else x)
      ∧ (t.core d c).setQ e ((s.core d c).q e) = s.core d c
      ∧ (∀ k, k ≠ coreKey d c → mapGet { } t.cores k = mapGet { } s.cores k)
      ∧ { t with cores := s.cores } = s)
  ∧ (∀ (d : Fin 16) (c : Fin 32) (e : Fin 3) (num : BitVec 64) (r : Run) (s : State), TablesRise s → CoreRises (s.core d c) →
      (s.core d c).findRun e num = some r → r.awaits.contains .gt = true → (s.gtState d = 0 ∨ (awaitStrict r.word = true ∧
      s.gtValid d = false)) → (e.val = 1 → (s.core d c).vx.loops = [] ∨ (s.core d c).vx.pos ≠ num) → ∃ t, exec (.awaitGtFire d
      c e num) s = .next t
      ∧ ((t.core d c).q e).run = ((s.core d c).q e).run.map (fun x => if x.num = num then
        { x with status := 0x0F, busy := false, awaits := [], todo := [] } else x)
      ∧ (t.core d c).setQ e ((s.core d c).q e) = s.core d c
      ∧ (∀ k, k ≠ coreKey d c → mapGet { } t.cores k = mapGet { } s.cores k)
      ∧ { t with cores := s.cores } = s)
  ∧ (∀ (d : Fin 16) (c : Fin 32) (num : BitVec 64) (r : Run) (s : State), TablesRise s → CoreRises (s.core d c) → (s.core d
      c).findRun 1 num = some r → r.awaits.contains .gt = true → r.status = 0 → s.awaitLost d r.word = false → s.gt.hold = none
      → r.target ≤ s.localGt d → (s.core d c).vx.loops ≠ [] → (s.core d c).vx.pos = num → Within (s.core d c) → ∃ t, exec
      (.awaitGtFire d c 1 num) s = .next t
      ∧ LoopStepped (s.core d c) (t.core d c)
      ∧ (((t.core d c).findRun 1 num).map (·.awaits)) = some (r.awaits.filter (· != .gt))
      ∧ (∀ k, k ≠ coreKey d c → mapGet { } t.cores k = mapGet { } s.cores k)
      ∧ { t with cores := s.cores } = s)
  ∧ (∀ (d : Fin 16) (c : Fin 32) (e : Fin 3) (k : Cmd) (s : State), Issues s d c e 0x07 k → ∃ t, exec (.halt d c e) s = .next t
      ∧ Issued s t d c e k stOk
      ∧ ((t.core d c).q e).run.any runBlocks = true
      ∧ unissued e (t.core d c) (s.core d c) = s.core d c
      ∧ (∀ k, k ≠ coreKey d c → mapGet { } t.cores k = mapGet { } s.cores k)
      ∧ { t with cores := s.cores } = s)
  ∧ (∀ (d : Fin 16) (c : Fin 32) (e : Fin 3) (num : BitVec 64) (r : Run) (s : State), TablesRise s → CoreRises (s.core d c) →
      Completing s d c e num r → r.status = 0 → cmdOp r.word = 0x07 → ((s.core d c).q e).halt = none → ((s.core d c).q e).cSize
      = 0 → ∃ t, exec (.commandCompletion d c e num) s = .next t
      ∧ ((t.core d c).q e).run = ((s.core d c).q e).run.filter (fun x => x.num != num)
      ∧ ((t.core d c).q e).done = ((s.core d c).q e).done + 1
      ∧ ((t.core d c).q e).halt = some .req
      ∧ bit (t.core d c).tc.irqPend 9 = true
      ∧ (t.core d c).counter (cmdSeng r.word) (cmdScnt r.word) = (s.core d c).counter (cmdSeng r.word) (cmdScnt r.word) + (if
        cmdSigCnt r.word = true then 1 else 0)
      ∧ (∀ j, j ≠ 8 * cmdSeng r.word + cmdScnt r.word → mapGet 0 (t.core d c).cnt j = mapGet 0 (s.core d c).cnt j)
      ∧ (r.slot = true → (t.core d c).tileQueue (cmdStq r.word) = tqFill ((s.core d c).tileQueue (cmdStq r.word)) e num (if
        r.status = 0 then tilesHandle num.toNat e r.tiles else mkHandle num.toNat e 0 0 true))
      ∧ (∀ j, j ≠ cmdStq r.word → (t.core d c).tileQueue j = (s.core d c).tileQueue j)
      ∧ (r.slot = false → (t.core d c).tq = (s.core d c).tq)
      ∧ uncompleted e (t.core d c) (s.core d c) = s.core d c
      ∧ (∀ k, k ≠ coreKey d c → mapGet { } t.cores k = mapGet { } s.cores k))
  ∧ (∀ (d : Fin 16) (c : Fin 32) (e : Fin 3) (k : Cmd) (s : State), Issues s d c e 0x06 k → s.ownModule (bits k.word 95 80) =
      true → s.fenced = false → s.moduleId < 2 ^ 16 → s.epoch < 2 ^ 32 → ∃ t, exec (.sig0 d c e) s = .next t
      ∧ Issued s t d c e k stOk
      ∧ (t.fab.frames.getLast?).map (fun f => (f.1, bits f.2 195 191, bits f.2 189 188, bits f.2 187 185, bits f.2 127 96)) =
        some (bits k.word 79 76, bits k.word 75 71, bits k.word 69 68, bits k.word 67 65, bits k.word 31 0)
      ∧ unissued e (t.core d c) (s.core d c) = s.core d c
      ∧ t.fab.frames.dropLast = s.fab.frames
      ∧ (∀ k, k ≠ coreKey d c → mapGet { } t.cores k = mapGet { } s.cores k)
      ∧
        { t with cores := s.cores, lane := { t.lane with bundles := s.lane.bundles, cur := s.lane.cur }, fab := { t.fab with frames := s.fab.frames } }
        = s)
  ∧ (∀ (d : Fin 16) (c : Fin 32) (e : Fin 3) (k : Cmd) (s : State), Issues s d c e 0x06 k → s.ownModule (bits k.word 95 80) =
      false → s.hasId = false → ∃ t, exec (.sig0 d c e) s = .next t
      ∧ Issued s t d c e k 0x42
      ∧ unissued e (t.core d c) (s.core d c) = s.core d c
      ∧ (∀ k, k ≠ coreKey d c → mapGet { } t.cores k = mapGet { } s.cores k)
      ∧ { t with cores := s.cores } = s)
  ∧ (∀ (d : Fin 16) (c : Fin 32) (e : Fin 3) (k : Cmd) (s : State), Issues s d c e 0x06 k → s.ownModule (bits k.word 95 80) =
      false → s.hasId = true → routeValid (s.routeAt (homeLight d) (bits k.word 95 80)) = false → ∃ t, exec (.sig0 d c e) s =
      .next t
      ∧ Issued s t d c e k 0x40
      ∧ unissued e (t.core d c) (s.core d c) = s.core d c
      ∧ (∀ k, k ≠ coreKey d c → mapGet { } t.cores k = mapGet { } s.cores k)
      ∧ { t with cores := s.cores } = s)
  ∧ (∀ (d : Fin 16) (c : Fin 32) (e : Fin 3) (k : Cmd) (s : State), Issues s d c e 0x06 k → s.ownModule (bits k.word 95 80) =
      false → s.hasId = true → routeValid (s.routeAt (homeLight d) (bits k.word 95 80)) = true → ∃ t, exec (.sig0 d c e) s =
      .next t
      ∧ Issued s t d c e k stOk
      ∧ unissued e (t.core d c) (s.core d c) = s.core d c
      ∧ (∀ k, k ≠ coreKey d c → mapGet { } t.cores k = mapGet { } s.cores k)
      ∧
        { t with cores := s.cores, lane := { t.lane with bundles := s.lane.bundles, cur := s.lane.cur }, fab := s.fab, ports := s.ports, dict := s.dict, out := s.out }
        = s)
  ∧ (∀ (d : Fin 16) (c : Fin 32) (f : LoopFrame) (r : Run) (n : Nat) (s : State), TablesRise s → Reachable s d c → (s.core d
      c).vx.loops = [f] → (s.core d c).findRun 1 (s.core d c).vx.pos = some r → cmdOp r.word = 0x00 → (s.core d c).q1.enable =
      true → (s.core d c).q1.halt = none → r.awaits = [] → r.status = 0 → r.waited = true → (s.core d c).vx.pos + 1 = f.first +
      BitVec.ofNat 64 f.len → f.left = n + 2 → f.drv = none → ∃ t, exec (.nop d c 1) s = .next t
      ∧ (t.core d c).vx.loops = [{ f with left := n + 1, chunk := 0 }]
      ∧ (t.core d c).vx.pos = f.first
      ∧ (t.core d c).q1.acc = (s.core d c).q1.acc
      ∧ (∀ k, k ≠ coreKey d c → mapGet { } t.cores k = mapGet { } s.cores k)
      ∧ { t with cores := s.cores } = s)

/-- R141, R151, R162 to R166 and Tables 9, 24 and 26 of ch.05: TQ_PUSH appends a handle or counts it lost, TQ_POP answers
the head and removes it; RUN starts the tidy core at address 0; doorbell and pending bits; the CRC helper; a lockstep
mismatch or 1 ms without an instruction stops the tidy core; the sync monitor halts every queue, and RELEASE lets them go
on; a command 1 ms without progress ends with HANG; a parity error in shared queue state halts every queue with PARITY.
-/
def Obligations.TidyCoreRegistersWork : Prop :=
  (∀ (d : Fin 16) (c : Fin 32) (q : Fin 16) (h : BitVec 64) (s : State), TablesRise s → CoreRises (s.core d c) → Reachable s
      d c → s.hostWriteHeld = false → ∃ t, exec (.tqPushWrite d c q h) s = .next t
      ∧ (((t.core d c).tileQueue q).slots = if ((s.core d c).tileQueue q).slots.length < 64 then ((s.core d c).tileQueue
        q).slots ++ [{ eng := 4, num := 0, handle := some (putBits h 30 11 0) }] else ((s.core d c).tileQueue q).slots)
      ∧ (((t.core d c).tileQueue q).lost.toNat = if ((s.core d c).tileQueue q).slots.length < 64 then ((s.core d c).tileQueue
        q).lost.toNat else min 255 (((s.core d c).tileQueue q).lost.toNat + 1))
      ∧ (∀ j, j ≠ q.val → (t.core d c).tileQueue j = (s.core d c).tileQueue j)
      ∧ { t.core d c with tq := (s.core d c).tq, sm := (s.core d c).sm } = s.core d c
      ∧ (∀ k, k ≠ coreKey d c → mapGet { } t.cores k = mapGet { } s.cores k)
      ∧ { t with cores := s.cores } = s)
  ∧ (∀ (d : Fin 16) (c : Fin 32) (q : Fin 16) (s : State), TablesRise s → CoreRises (s.core d c) → Reachable s d c → ∃ t, exec
      (.tqPopRead d c q) s = .next t
      ∧ t.out = s.out ++ [.reply 0 (toBytes 8 ((tqHead ((s.core d c).tileQueue q)).getD (BitVec.allOnes 64)).toNat)]
      ∧ (((t.core d c).tileQueue q).slots = if (tqHead ((s.core d c).tileQueue q)).isSome then ((s.core d c).tileQueue
        q).slots.tail else ((s.core d c).tileQueue q).slots)
      ∧ (∀ j, j ≠ q.val → (t.core d c).tileQueue j = (s.core d c).tileQueue j)
      ∧ { t.core d c with tq := (s.core d c).tq } = s.core d c
      ∧ (∀ k, k ≠ coreKey d c → mapGet { } t.cores k = mapGet { } s.cores k)
      ∧ { t with cores := s.cores, out := s.out } = s)
  ∧ (∀ (d : Fin 16) (c : Fin 32) (s : State), TablesRise s → Reachable s d c → ∃ t, exec (.mvFaultClear d c) s = .next t
      ∧ (t.core d c).mvFault = 0
      ∧ (t.core d c).mvFaultAddr = 0
      ∧ { t.core d c with mvFault := (s.core d c).mvFault, mvFaultAddr := (s.core d c).mvFaultAddr } = s.core d c
      ∧ (∀ k, k ≠ coreKey d c → mapGet { } t.cores k = mapGet { } s.cores k)
      ∧ { t with cores := s.cores } = s)
  ∧ (∀ (d : Fin 16) (c : Fin 32) (s : State), TablesRise s → Reachable s d c → (s.core d c).tc.runBit = false → (s.core d
      c).tc.st ≠ .lockstep → ∃ t, exec (.tcRun d c true) s = .next t
      ∧ (t.core d c).tc = { (s.core d c).tc with runBit := true, st := .running, pc := 0, stale := [], lastRetire := s.time }
      ∧ { t.core d c with tc := (s.core d c).tc } = s.core d c
      ∧ (∀ k, k ≠ coreKey d c → mapGet { } t.cores k = mapGet { } s.cores k)
      ∧ { t with cores := s.cores } = s)
  ∧ (∀ (d : Fin 16) (c : Fin 32) (s : State), TablesRise s → Reachable s d c → (s.core d c).tc.st ≠ .lockstep → ∃ t, exec
      (.tcRun d c false) s = .next t
      ∧ (t.core d c).tc = { (s.core d c).tc with runBit := false, st := .stopped }
      ∧ { t.core d c with tc := (s.core d c).tc } = s.core d c
      ∧ { t with cores := s.cores } = s)
  ∧ (∀ (d : Fin 16) (c : Fin 32) (s : State), TablesRise s → Reachable s d c → ∃ t, exec (.tcStep d c) s = .next t
      ∧ (t.core d c).tc = { (s.core d c).tc with stepDue := (s.core d c).tc.stepDue || (s.core d c).tc.st == .stopped }
      ∧ { t.core d c with tc := (s.core d c).tc } = s.core d c
      ∧ (∀ k, k ≠ coreKey d c → mapGet { } t.cores k = mapGet { } s.cores k)
      ∧ { t with cores := s.cores } = s)
  ∧ (∀ (d : Fin 16) (c : Fin 32) (s : State), TablesRise s → Reachable s d c → ∃ t, exec (.tcDoorbell d c) s = .next t
      ∧ (t.core d c).tc = { (s.core d c).tc with irqPend := (s.core d c).tc.irqPend ||| 0x80 }
      ∧ { t.core d c with tc := (s.core d c).tc } = s.core d c
      ∧ (∀ k, k ≠ coreKey d c → mapGet { } t.cores k = mapGet { } s.cores k)
      ∧ { t with cores := s.cores } = s)
  ∧ (∀ (d : Fin 16) (c : Fin 32) (v : BitVec 32) (s : State), TablesRise s → Reachable s d c → ∃ t, exec (.tcIrqPendW1c d c v)
      s = .next t
      ∧ (t.core d c).tc = { (s.core d c).tc with irqPend := (s.core d c).tc.irqPend &&& ~~~v }
      ∧ { t.core d c with tc := (s.core d c).tc } = s.core d c
      ∧ (∀ k, k ≠ coreKey d c → mapGet { } t.cores k = mapGet { } s.cores k)
      ∧ { t with cores := s.cores } = s)
  ∧ (∀ (d : Fin 16) (c : Fin 32) (v : BitVec 32) (s : State), TablesRise s → Reachable s d c → ∃ t, exec (.tcCrcSrc d c v) s =
      .next t
      ∧ (t.core d c).tc = { (s.core d c).tc with crcBusy := some (v.toNat % lsBytes / 4096, s.time) }
      ∧ { t.core d c with tc := (s.core d c).tc } = s.core d c
      ∧ (∀ k, k ≠ coreKey d c → mapGet { } t.cores k = mapGet { } s.cores k)
      ∧ { t with cores := s.cores } = s)
  ∧ (∀ (d : Fin 16) (c : Fin 32) (q since : Nat) (s : State), TablesRise s → (s.core d c).tc.crcBusy = some (q, since) → since
      + s.cycles d 32 ≤ s.time → s.badIn d (lsAddr c (4096 * q)) 4096 = false → ∃ t, exec (.tcCrcDone d c) s = .next t
      ∧ (t.core d c).tc =
        { (s.core d c).tc with crcBusy := none, crc := BitVec.ofNat 32 (crc32c (s.bytes d (lsAddr c (4096 * q)) 4096)) }
      ∧ { t.core d c with tc := (s.core d c).tc } = s.core d c
      ∧ (∀ k, k ≠ coreKey d c → mapGet { } t.cores k = mapGet { } s.cores k)
      ∧ { t with cores := s.cores } = s)
  ∧ (∀ (d : Fin 16) (c : Fin 32) (s : State), TablesRise s → s.dieRuns d = true → ∃ t, exec (.tcLockstepMismatch d c) s = .next
      t
      ∧ (t.core d c).tc = { (s.core d c).tc with st := .lockstep }
      ∧ { t.core d c with tc := (s.core d c).tc } = s.core d c
      ∧ (⟨mkEvent 0x03 sevRecovered d c 0 0, s.gtNow⟩ : Raised) ∈ t.flt.raised
      ∧ (∀ k, k ≠ coreKey d c → mapGet { } t.cores k = mapGet { } s.cores k)
      ∧ { t with cores := s.cores, dict := s.dict, dies := s.dies, flt := { t.flt with raised := s.flt.raised } } = s)
  ∧ (∀ (d : Fin 16) (c : Fin 32) (s : State), TablesRise s → (s.core d c).tc.st = .running → (s.core d c).tc.lastRetire +
      tickMs ≤ s.time → ∃ t, exec (.tcNoRetire d c) s = .next t
      ∧ (t.core d c).tc = { (s.core d c).tc with runBit := false, st := .stopped }
      ∧ { t.core d c with tc := (s.core d c).tc } = s.core d c
      ∧ t.flt.raised = s.flt.raised ++ [⟨mkEvent 0x04 sevRecovered d c stHang 0, s.gtNow⟩]
      ∧ (∀ k, k ≠ coreKey d c → mapGet { } t.cores k = mapGet { } s.cores k)
      ∧ { t with cores := s.cores, flt := { t.flt with raised := s.flt.raised } } = s)
  ∧ (∀ (d : Fin 16) (c : Fin 32) (s : State), TablesRise s → s.syncDead d c = true → ∃ t, exec (.syncDeadlock d c) s = .next t
      ∧ (∀ e, e < 3 → ((t.core d c).q e) = { (s.core d c).q e with halt := some .sync, beforeSync := ((s.core d c).q e).halt })
      ∧ (t.core d c).tc.runBit = false
      ∧ (t.core d c).sm.fired = true
      ∧ (t.core d c).sm.firings.toNat = min (2 ^ 31 - 1) ((s.core d c).sm.firings.toNat + 1)
      ∧ (t.core d c).sm.runBefore = (s.core d c).tc.runBit
      ∧
        { t.core d c with q0 := (s.core d c).q0, q1 := (s.core d c).q1, q2 := (s.core d c).q2, tc := (s.core d c).tc, sm := (s.core d c).sm }
        = s.core d c
      ∧ (∀ k, k ≠ coreKey d c → mapGet { } t.cores k = mapGet { } s.cores k)
      ∧ { t with cores := s.cores, dict := s.dict, host := s.host, out := s.out, flt := { t.flt with raised := s.flt.raised } }
        = s)
  ∧ (∀ (d : Fin 16) (c : Fin 32) (s : State), TablesRise s → Reachable s d c → (s.core d c).sm.fired = true → ∃ t, exec
      (.smRelease d c) s = .next t
      ∧ (∀ e, e < 3 → ((t.core d c).q e) = if ((s.core d c).q e).halt = some .sync then
        { (s.core d c).q e with halt := ((s.core d c).q e).beforeSync, beforeSync := none } else (s.core d c).q e)
      ∧ (t.core d c).sm.fired = false
      ∧ (t.core d c).tc.runBit = ((s.core d c).tc.runBit || (s.core d c).sm.runBefore)
      ∧
        { t.core d c with q0 := (s.core d c).q0, q1 := (s.core d c).q1, q2 := (s.core d c).q2, tc := (s.core d c).tc, sm := (s.core d c).sm }
        = s.core d c
      ∧ (∀ k, k ≠ coreKey d c → mapGet { } t.cores k = mapGet { } s.cores k)
      ∧ { t with cores := s.cores } = s)
  ∧ (∀ (d : Fin 16) (c : Fin 32) (e : Fin 3) (num : BitVec 64) (r : Run) (s : State), TablesRise s → CoreRises (s.core d c) →
      (s.core d c).findRun e num = some r → hangs s.time r = true → r.busy = false → r.tiles.all (fun τ => decide (τ < 2048)) =
      true → ∃ t, exec (.hangWatchdog d c e num) s = .next t
      ∧ ((t.core d c).q e).run = ((s.core d c).q e).run.map (fun x => if x.num = num then
        { x with status := BitVec.ofNat 8 stHang, busy := false, awaits := [], todo := [] } else x)
      ∧ (t.core d c).setQ e ((s.core d c).q e) = s.core d c
      ∧ (⟨mkEvent 0x04 sevRecovered d c stHang num.toNat, s.gtNow⟩ : Raised) ∈ t.flt.raised
      ∧ (e.val < 2 → ∀ τ ∈ r.tiles, (t.tile d (lsAddr c (4096 * τ))).st = .poison)
      ∧ (∀ k, k ≠ coreKey d c → mapGet { } t.cores k = mapGet { } s.cores k)
      ∧
        { t with cores := s.cores, tiles := s.tiles, dict := s.dict, dies := s.dies, flt := { t.flt with raised := s.flt.raised } }
        = s)
  ∧ (∀ (d : Fin 16) (c : Fin 32) (num : BitVec 64) (r : Run) (s : State), TablesRise s → (s.core d c).findRun 1 num = some r →
      hangs s.time r = true → r.busy = true → ∃ t, exec (.hangWatchdog d c 1 num) s = .next t
      ∧ (t.core d c).q1.run.length = (s.core d c).q1.run.length
      ∧ (t.core d c).q1.run.all (fun x => !x.busy) = true
      ∧ (t.core d c).q1.run.map (fun x => (x.num, x.word, x.status)) = (s.core d c).q1.run.map (fun x => (x.num, x.word, if
        x.busy then BitVec.ofNat 8 stHang else x.status))
      ∧ (t.core d c).vx.loops = []
      ∧ (⟨mkEvent 0x04 sevRecovered d c stHang num.toNat, s.gtNow⟩ : Raised) ∈ t.flt.raised
      ∧ (∀ k, k ≠ coreKey d c → mapGet { } t.cores k = mapGet { } s.cores k)
      ∧ { t with cores := s.cores, dict := s.dict, dies := s.dies, flt := { t.flt with raised := s.flt.raised } } = s)
  ∧ (∀ (d : Fin 16) (c : Fin 32) (q : Fin 16) (s : State), TablesRise s → (s.core d c).q0.halt = none → (s.core d c).q1.halt =
      none → (s.core d c).q2.halt = none → ∃ t, exec (.queueParityError d c (.tileQueue q)) s = .next t
      ∧ (∀ e, e < 3 → (((t.core d c).q e).halt = some .cmd ∧ bits ((t.core d c).q e).err 31 24 = stParity ∧ ((t.core d c).q
        e).acc = ((s.core d c).q e).acc))
      ∧ (∀ k, k ≠ coreKey d c → mapGet { } t.cores k = mapGet { } s.cores k)
      ∧
        { t with cores := s.cores, dict := s.dict, dies := s.dies, host := s.host, out := s.out, flt := { t.flt with raised := s.flt.raised } }
        = s)
  ∧ (∀ (d : Fin 16) (c : Fin 32) (g : Fin 4) (i : Fin 8) (s : State), TablesRise s → (s.core d c).q0.halt = none → (s.core d
      c).q1.halt = none → (s.core d c).q2.halt = none → ∃ t, exec (.queueParityError d c (.counter g i)) s = .next t
      ∧ (∀ e, e < 3 → (((t.core d c).q e).halt = some .cmd ∧ bits ((t.core d c).q e).err 31 24 = stParity ∧ ((t.core d c).q
        e).acc = ((s.core d c).q e).acc))
      ∧ (∀ k, k ≠ coreKey d c → mapGet { } t.cores k = mapGet { } s.cores k)
      ∧
        { t with cores := s.cores, dict := s.dict, dies := s.dies, host := s.host, out := s.out, flt := { t.flt with raised := s.flt.raised } }
        = s)
  ∧ (∀ (d : Fin 16) (c : Fin 32) (g : Fin 4) (i : Fin 4) (s : State), TablesRise s → (s.core d c).q0.halt = none → (s.core d
      c).q1.halt = none → (s.core d c).q2.halt = none → ∃ t, exec (.queueParityError d c (.comparator g i)) s = .next t
      ∧ (∀ e, e < 3 → (((t.core d c).q e).halt = some .cmd ∧ bits ((t.core d c).q e).err 31 24 = stParity ∧ ((t.core d c).q
        e).acc = ((s.core d c).q e).acc))
      ∧ (∀ k, k ≠ coreKey d c → mapGet { } t.cores k = mapGet { } s.cores k)
      ∧
        { t with cores := s.cores, dict := s.dict, dies := s.dies, host := s.host, out := s.out, flt := { t.flt with raised := s.flt.raised } }
        = s)
  ∧ (∀ (d : Fin 16) (c : Fin 32) (e : Fin 3) (num : BitVec 64) (s : State), TablesRise s → ∃ t, exec (.queueParityError d c
      (.command e num)) s = .next t
      ∧ ((t.core d c).q e).acc = ((s.core d c).q e).acc.map (fun k => if k.num = num then { k with parity := true } else k)
      ∧ ((t.core d c).q e).halt = ((s.core d c).q e).halt
      ∧ (∀ k, k ≠ coreKey d c → mapGet { } t.cores k = mapGet { } s.cores k))
  ∧ (∀ (d : Fin 16) (c : Fin 32) (e : Fin 3) (s : State), TablesRise s → ((s.core d c).q e).halt = none → ∃ t, exec
      (.queueParityError d c (.ringPointer e)) s = .next t
      ∧ ((t.core d c).q e).halt = some .cmd
      ∧ bits ((t.core d c).q e).err 31 24 = stParity
      ∧ (∀ i, i < 3 → i ≠ e.val → (t.core d c).q i = (s.core d c).q i)
      ∧ (∀ k, k ≠ coreKey d c → mapGet { } t.cores k = mapGet { } s.cores k)
      ∧
        { t with cores := s.cores, dict := s.dict, dies := s.dies, host := s.host, out := s.out, flt := { t.flt with raised := s.flt.raised } }
        = s)
  ∧ (∀ (d : Fin 16) (c : Fin 32) (num : BitVec 64) (r : Run) (desc : Bool) (s : State), TablesRise s → CoreRises (s.core d c) →
      (s.core d c).findRun 2 num = some r → r.status = 0 → bits (s.core d c).mvFault 63 56 = 0 → ∃ t, exec (.queueParityError d
      c (if desc = true then .moveDesc num else .moveData num)) s = .next t
      ∧ (t.core d c).q2.run = (s.core d c).q2.run.map (fun x => if x.num = num then
        { x with status := 0x07, busy := false, awaits := [], todo := [] } else x)
      ∧ (bits (t.core d c).mvFault 63 56 = (if desc = true then 3 else 2))
      ∧ bits (t.core d c).mvFault 31 0 = num.toNat % 2 ^ 32
      ∧ (∀ k, k ≠ coreKey d c → mapGet { } t.cores k = mapGet { } s.cores k)
      ∧ { t with cores := s.cores, dies := s.dies, flt := { t.flt with raised := s.flt.raised } } = s)

/-- R161 and Tables 22 and 23 of ch.05, with the RISC-V encodings the rule names (DEDUCED, log entry 10): a running tidy
core fetches from instruction memory at its pc; register and immediate arithmetic write rd and go on at pc + 4; a branch
or jump goes to its target; loads and stores reach the local store of its core; ECALL and undefined words trap to mtvec
with pc saved in mepc; MRET returns. x0 reads zero. -/
def Obligations.TidyCoreRunsRv32 : Prop :=
  (∀ (d : Fin 16) (c : Fin 32) (v : BitVec 32) (s : State), TidyFetches s d c v → bits v 6 0 = 0x33 → bits v 14 12 = 0 → bits
      v 31 25 = 0 → ∃ t, exec (.tidyCoreInstruction d c) s = .next t
      ∧ (∀ i, i < 32 → (t.core d c).tc.reg i = if i = bits v 11 7 ∧ i ≠ 0 then ((s.core d c).tc.reg (bits v 19 15)) + ((s.core
        d c).tc.reg (bits v 24 20)) else (s.core d c).tc.reg i)
      ∧ (t.core d c).tc.pc = (s.core d c).tc.pc + 4
      ∧ (t.core d c).tc.minstret = (s.core d c).tc.minstret + 1
      ∧ { t.core d c with tc := unretired (t.core d c).tc (s.core d c).tc } = s.core d c
      ∧ (∀ k, k ≠ coreKey d c → mapGet { } t.cores k = mapGet { } s.cores k)
      ∧ { t with cores := s.cores } = s)
  ∧ (∀ (d : Fin 16) (c : Fin 32) (v : BitVec 32) (s : State), TidyFetches s d c v → bits v 6 0 = 0x33 → bits v 31 25 = 0 → ∃ t,
      exec (.tidyCoreInstruction d c) s = .next t
      ∧ (∀ i, i < 32 → (t.core d c).tc.reg i = if i = bits v 11 7 ∧ i ≠ 0 then tcAlu (bits v 14 12) false ((s.core d c).tc.reg
        (bits v 19 15)) ((s.core d c).tc.reg (bits v 24 20)) else (s.core d c).tc.reg i)
      ∧ (t.core d c).tc.pc = (s.core d c).tc.pc + 4
      ∧ (t.core d c).tc.minstret = (s.core d c).tc.minstret + 1
      ∧ { t.core d c with tc := unretired (t.core d c).tc (s.core d c).tc } = s.core d c
      ∧ (∀ k, k ≠ coreKey d c → mapGet { } t.cores k = mapGet { } s.cores k)
      ∧ { t with cores := s.cores } = s)
  ∧ (∀ (d : Fin 16) (c : Fin 32) (v : BitVec 32) (s : State), TidyFetches s d c v → bits v 6 0 = 0x33 → bits v 31 25 = 0x20 →
      (bits v 14 12 = 0 ∨ bits v 14 12 = 5) → ∃ t, exec (.tidyCoreInstruction d c) s = .next t
      ∧ (∀ i, i < 32 → (t.core d c).tc.reg i = if i = bits v 11 7 ∧ i ≠ 0 then tcAlu (bits v 14 12) true ((s.core d c).tc.reg
        (bits v 19 15)) ((s.core d c).tc.reg (bits v 24 20)) else (s.core d c).tc.reg i)
      ∧ (t.core d c).tc.pc = (s.core d c).tc.pc + 4
      ∧ (t.core d c).tc.minstret = (s.core d c).tc.minstret + 1
      ∧ { t.core d c with tc := unretired (t.core d c).tc (s.core d c).tc } = s.core d c
      ∧ (∀ k, k ≠ coreKey d c → mapGet { } t.cores k = mapGet { } s.cores k)
      ∧ { t with cores := s.cores } = s)
  ∧ (∀ (d : Fin 16) (c : Fin 32) (v : BitVec 32) (s : State), TidyFetches s d c v → bits v 6 0 = 0x33 → bits v 31 25 = 1 → ∃ t,
      exec (.tidyCoreInstruction d c) s = .next t
      ∧ (∀ i, i < 32 → (t.core d c).tc.reg i = if i = bits v 11 7 ∧ i ≠ 0 then tcMul (bits v 14 12) ((s.core d c).tc.reg (bits
        v 19 15)) ((s.core d c).tc.reg (bits v 24 20)) else (s.core d c).tc.reg i)
      ∧ (t.core d c).tc.pc = (s.core d c).tc.pc + 4
      ∧ (t.core d c).tc.minstret = (s.core d c).tc.minstret + 1
      ∧ { t.core d c with tc := unretired (t.core d c).tc (s.core d c).tc } = s.core d c
      ∧ (∀ k, k ≠ coreKey d c → mapGet { } t.cores k = mapGet { } s.cores k)
      ∧ { t with cores := s.cores } = s)
  ∧ (∀ (d : Fin 16) (c : Fin 32) (v : BitVec 32) (s : State), TidyFetches s d c v → bits v 6 0 = 0x33 → bits v 31 25 = 1 → bits
      v 14 12 = 4 → ((s.core d c).tc.reg (bits v 24 20)) = 0 → ∃ t, exec (.tidyCoreInstruction d c) s = .next t
      ∧ (∀ i, i < 32 → (t.core d c).tc.reg i = if i = bits v 11 7 ∧ i ≠ 0 then 0xFFFFFFFF else (s.core d c).tc.reg i)
      ∧ (t.core d c).tc.pc = (s.core d c).tc.pc + 4
      ∧ (t.core d c).tc.minstret = (s.core d c).tc.minstret + 1
      ∧ { t.core d c with tc := unretired (t.core d c).tc (s.core d c).tc } = s.core d c
      ∧ (∀ k, k ≠ coreKey d c → mapGet { } t.cores k = mapGet { } s.cores k)
      ∧ { t with cores := s.cores } = s)
  ∧ (∀ (d : Fin 16) (c : Fin 32) (v : BitVec 32) (s : State), TidyFetches s d c v → bits v 6 0 = 0x13 → bits v 14 12 ≠ 1 → bits
      v 14 12 ≠ 5 → ∃ t, exec (.tidyCoreInstruction d c) s = .next t
      ∧ (∀ i, i < 32 → (t.core d c).tc.reg i = if i = bits v 11 7 ∧ i ≠ 0 then tcAlu (bits v 14 12) false ((s.core d c).tc.reg
        (bits v 19 15)) (BitVec.ofInt 32 (signed 12 (bits v 31 20))) else (s.core d c).tc.reg i)
      ∧ (t.core d c).tc.pc = (s.core d c).tc.pc + 4
      ∧ (t.core d c).tc.minstret = (s.core d c).tc.minstret + 1
      ∧ { t.core d c with tc := unretired (t.core d c).tc (s.core d c).tc } = s.core d c
      ∧ (∀ k, k ≠ coreKey d c → mapGet { } t.cores k = mapGet { } s.cores k)
      ∧ { t with cores := s.cores } = s)
  ∧ (∀ (d : Fin 16) (c : Fin 32) (v : BitVec 32) (s : State), TidyFetches s d c v → bits v 6 0 = 0x13 → (bits v 14 12 = 1 ∨
      bits v 14 12 = 5) → (bits v 31 25 = 0 ∨ (bits v 14 12 = 5 ∧ bits v 31 25 = 0x20)) → ∃ t, exec (.tidyCoreInstruction d c)
      s = .next t
      ∧ (∀ i, i < 32 → (t.core d c).tc.reg i = if i = bits v 11 7 ∧ i ≠ 0 then tcAlu (bits v 14 12) (bits v 31 25 == 0x20)
        ((s.core d c).tc.reg (bits v 19 15)) (BitVec.ofInt 32 (signed 12 (bits v 31 20))) else (s.core d c).tc.reg i)
      ∧ (t.core d c).tc.pc = (s.core d c).tc.pc + 4
      ∧ (t.core d c).tc.minstret = (s.core d c).tc.minstret + 1
      ∧ { t.core d c with tc := unretired (t.core d c).tc (s.core d c).tc } = s.core d c
      ∧ (∀ k, k ≠ coreKey d c → mapGet { } t.cores k = mapGet { } s.cores k)
      ∧ { t with cores := s.cores } = s)
  ∧ (∀ (d : Fin 16) (c : Fin 32) (v : BitVec 32) (s : State), TidyFetches s d c v → bits v 6 0 = 0x37 → ∃ t, exec
      (.tidyCoreInstruction d c) s = .next t
      ∧ (∀ i, i < 32 → (t.core d c).tc.reg i = if i = bits v 11 7 ∧ i ≠ 0 then BitVec.ofNat 32 (bits v 31 12 * 4096) else
        (s.core d c).tc.reg i)
      ∧ (t.core d c).tc.pc = (s.core d c).tc.pc + 4
      ∧ (t.core d c).tc.minstret = (s.core d c).tc.minstret + 1
      ∧ { t.core d c with tc := unretired (t.core d c).tc (s.core d c).tc } = s.core d c
      ∧ (∀ k, k ≠ coreKey d c → mapGet { } t.cores k = mapGet { } s.cores k)
      ∧ { t with cores := s.cores } = s)
  ∧ (∀ (d : Fin 16) (c : Fin 32) (v : BitVec 32) (s : State), TidyFetches s d c v → bits v 6 0 = 0x17 → ∃ t, exec
      (.tidyCoreInstruction d c) s = .next t
      ∧ (∀ i, i < 32 → (t.core d c).tc.reg i = if i = bits v 11 7 ∧ i ≠ 0 then (s.core d c).tc.pc + BitVec.ofNat 32 (bits v 31
        12 * 4096) else (s.core d c).tc.reg i)
      ∧ (t.core d c).tc.pc = (s.core d c).tc.pc + 4
      ∧ (t.core d c).tc.minstret = (s.core d c).tc.minstret + 1
      ∧ { t.core d c with tc := unretired (t.core d c).tc (s.core d c).tc } = s.core d c
      ∧ (∀ k, k ≠ coreKey d c → mapGet { } t.cores k = mapGet { } s.cores k)
      ∧ { t with cores := s.cores } = s)
  ∧ (∀ (d : Fin 16) (c : Fin 32) (v : BitVec 32) (s : State), TidyFetches s d c v → bits v 6 0 = 0x6F → ∃ t, exec
      (.tidyCoreInstruction d c) s = .next t
      ∧ (∀ i, i < 32 → (t.core d c).tc.reg i = if i = bits v 11 7 ∧ i ≠ 0 then (s.core d c).tc.pc + 4 else (s.core d c).tc.reg
        i)
      ∧ (t.core d c).tc.pc = putBits ((s.core d c).tc.pc + BitVec.ofInt 32 (signed 21 (bits v 31 31 * 2 ^ 20 + bits v 30 21 * 2
        + bits v 20 20 * 2048 + bits v 19 12 * 4096))) 0 0 0
      ∧ (t.core d c).tc.minstret = (s.core d c).tc.minstret + 1
      ∧ { t.core d c with tc := unretired (t.core d c).tc (s.core d c).tc } = s.core d c
      ∧ (∀ k, k ≠ coreKey d c → mapGet { } t.cores k = mapGet { } s.cores k)
      ∧ { t with cores := s.cores } = s)
  ∧ (∀ (d : Fin 16) (c : Fin 32) (v : BitVec 32) (s : State), TidyFetches s d c v → bits v 6 0 = 0x67 → bits v 14 12 = 0 → ∃ t,
      exec (.tidyCoreInstruction d c) s = .next t
      ∧ (∀ i, i < 32 → (t.core d c).tc.reg i = if i = bits v 11 7 ∧ i ≠ 0 then (s.core d c).tc.pc + 4 else (s.core d c).tc.reg
        i)
      ∧ (t.core d c).tc.pc = putBits (((s.core d c).tc.reg (bits v 19 15)) + (BitVec.ofInt 32 (signed 12 (bits v 31 20)))) 0 0
        0
      ∧ (t.core d c).tc.minstret = (s.core d c).tc.minstret + 1
      ∧ { t.core d c with tc := unretired (t.core d c).tc (s.core d c).tc } = s.core d c
      ∧ (∀ k, k ≠ coreKey d c → mapGet { } t.cores k = mapGet { } s.cores k)
      ∧ { t with cores := s.cores } = s)
  ∧ (∀ (d : Fin 16) (c : Fin 32) (v : BitVec 32) (s : State), TidyFetches s d c v → bits v 6 0 = 0x63 → bits v 14 12 ≤ 1 →
      (bits v 14 12 = 0) = (((s.core d c).tc.reg (bits v 19 15)) = ((s.core d c).tc.reg (bits v 24 20))) → ∃ t, exec
      (.tidyCoreInstruction d c) s = .next t
      ∧ (∀ i, i < 32 → (t.core d c).tc.reg i = (s.core d c).tc.reg i)
      ∧ (t.core d c).tc.pc = (s.core d c).tc.pc + BitVec.ofInt 32 (signed 13 (bits v 31 31 * 4096 + bits v 30 25 * 32 + bits v
        11 8 * 2 + bits v 7 7 * 2048))
      ∧ { t.core d c with tc := unretired (t.core d c).tc (s.core d c).tc } = s.core d c
      ∧ (∀ k, k ≠ coreKey d c → mapGet { } t.cores k = mapGet { } s.cores k)
      ∧ { t with cores := s.cores } = s)
  ∧ (∀ (d : Fin 16) (c : Fin 32) (v : BitVec 32) (s : State), TidyFetches s d c v → bits v 6 0 = 0x63 → bits v 14 12 ≤ 1 →
      (bits v 14 12 = 0) = (((s.core d c).tc.reg (bits v 19 15)) ≠ ((s.core d c).tc.reg (bits v 24 20))) → ∃ t, exec
      (.tidyCoreInstruction d c) s = .next t
      ∧ (∀ i, i < 32 → (t.core d c).tc.reg i = (s.core d c).tc.reg i)
      ∧ (t.core d c).tc.pc = (s.core d c).tc.pc + 4
      ∧ { t.core d c with tc := unretired (t.core d c).tc (s.core d c).tc } = s.core d c
      ∧ (∀ k, k ≠ coreKey d c → mapGet { } t.cores k = mapGet { } s.cores k)
      ∧ { t with cores := s.cores } = s)
  ∧ (∀ (d : Fin 16) (c : Fin 32) (v : BitVec 32) (s : State), TidyFetches s d c v → bits v 6 0 = 0x03 → bits v 14 12 = 2 →
      0x10000000 ≤ (((s.core d c).tc.reg (bits v 19 15)) + (BitVec.ofInt 32 (signed 12 (bits v 31 20)))).toNat → (((s.core d
      c).tc.reg (bits v 19 15)) + (BitVec.ofInt 32 (signed 12 (bits v 31 20)))).toNat + 4 ≤ 0x10800000 → s.badIn d (lsAddr c
      ((((s.core d c).tc.reg (bits v 19 15)) + (BitVec.ofInt 32 (signed 12 (bits v 31 20)))).toNat - 0x10000000)) 4 = false → ∃
      t, exec (.tidyCoreInstruction d c) s = .next t
      ∧ (∀ i, i < 32 → (t.core d c).tc.reg i = if i = bits v 11 7 ∧ i ≠ 0 then BitVec.ofNat 32 (ofBytes (s.bytes d (lsAddr c
        ((((s.core d c).tc.reg (bits v 19 15)) + (BitVec.ofInt 32 (signed 12 (bits v 31 20)))).toNat - 0x10000000)) 4)) else
        (s.core d c).tc.reg i)
      ∧ (t.core d c).tc.pc = (s.core d c).tc.pc + 4
      ∧ (t.core d c).tc.minstret = (s.core d c).tc.minstret + 1
      ∧ { t.core d c with tc := unretired (t.core d c).tc (s.core d c).tc } = s.core d c
      ∧ (∀ k, k ≠ coreKey d c → mapGet { } t.cores k = mapGet { } s.cores k)
      ∧ { t with cores := s.cores } = s)
  ∧ (∀ (d : Fin 16) (c : Fin 32) (v : BitVec 32) (s : State), TidyFetches s d c v → Memory.wf s.mem = true → bits v 6 0 = 0x23
      → bits v 14 12 = 2 → 0x10000000 ≤ (((s.core d c).tc.reg (bits v 19 15)) + BitVec.ofInt 32 (signed 12 (bits v 31 25 * 32 +
      bits v 11 7))).toNat → (((s.core d c).tc.reg (bits v 19 15)) + BitVec.ofInt 32 (signed 12 (bits v 31 25 * 32 + bits v 11
      7))).toNat + 4 ≤ 0x10800000 → s.badWords = [] → ∃ t, exec (.tidyCoreInstruction d c) s = .next t
      ∧ ofBytes (t.bytes d (lsAddr c ((((s.core d c).tc.reg (bits v 19 15)) + BitVec.ofInt 32 (signed 12 (bits v 31 25 * 32 +
        bits v 11 7))).toNat - 0x10000000)) 4) = ((s.core d c).tc.reg (bits v 24 20)).toNat
      ∧ (∀ k, (k < memKey d (lsAddr c ((((s.core d c).tc.reg (bits v 19 15)) + BitVec.ofInt 32 (signed 12 (bits v 31 25 * 32 +
        bits v 11 7))).toNat - 0x10000000)) ∨ memKey d (lsAddr c ((((s.core d c).tc.reg (bits v 19 15)) + BitVec.ofInt 32
        (signed 12 (bits v 31 25 * 32 + bits v 11 7))).toNat - 0x10000000)) + 4 ≤ k) → mapGet 0 t.mem k = mapGet 0 s.mem k)
      ∧ (∀ i, i < 32 → (t.core d c).tc.reg i = (s.core d c).tc.reg i)
      ∧ (t.core d c).tc.pc = (s.core d c).tc.pc + 4
      ∧ (t.tile d (lsAddr c ((((s.core d c).tc.reg (bits v 19 15)) + BitVec.ofInt 32 (signed 12 (bits v 31 25 * 32 + bits v 11
        7))).toNat - 0x10000000))).st = .untagged
      ∧ { t.core d c with tc := unretired (t.core d c).tc (s.core d c).tc, sm := (s.core d c).sm } = s.core d c
      ∧ (∀ k, k ≠ coreKey d c → mapGet { } t.cores k = mapGet { } s.cores k))
  ∧ (∀ (d : Fin 16) (c : Fin 32) (v : BitVec 32) (s : State), TidyFetches s d c v → v = 0x00000073 → ∃ t, exec
      (.tidyCoreInstruction d c) s = .next t
      ∧ (t.core d c).tc.pc = (s.core d c).tc.mtvec
      ∧ (t.core d c).tc.mepc = (s.core d c).tc.pc
      ∧ (t.core d c).tc.mcause = 11
      ∧ (t.core d c).tc.mtval = 0
      ∧ (t.core d c).tc.mpie = false
      ∧ (t.core d c).tc.mie = false
      ∧
        { t.core d c with tc := { (t.core d c).tc with pc := (s.core d c).tc.pc, mepc := (s.core d c).tc.mepc, mcause := (s.core d c).tc.mcause, mtval := (s.core d c).tc.mtval, mpie := (s.core d c).tc.mpie, mie := (s.core d c).tc.mie } }
        = s.core d c
      ∧ (∀ k, k ≠ coreKey d c → mapGet { } t.cores k = mapGet { } s.cores k)
      ∧ { t with cores := s.cores } = s)
  ∧ (∀ (d : Fin 16) (c : Fin 32) (v : BitVec 32) (s : State), TidyFetches s d c v → bits v 6 0 = 0x7F → ∃ t, exec
      (.tidyCoreInstruction d c) s = .next t
      ∧ (t.core d c).tc.pc = (s.core d c).tc.mtvec
      ∧ (t.core d c).tc.mepc = (s.core d c).tc.pc
      ∧ (t.core d c).tc.mcause = 2
      ∧ (t.core d c).tc.mtval = v
      ∧ (t.core d c).tc.mpie = false
      ∧ (t.core d c).tc.mie = false
      ∧
        { t.core d c with tc := { (t.core d c).tc with pc := (s.core d c).tc.pc, mepc := (s.core d c).tc.mepc, mcause := (s.core d c).tc.mcause, mtval := (s.core d c).tc.mtval, mpie := (s.core d c).tc.mpie, mie := (s.core d c).tc.mie } }
        = s.core d c
      ∧ (∀ k, k ≠ coreKey d c → mapGet { } t.cores k = mapGet { } s.cores k)
      ∧ { t with cores := s.cores } = s)
  ∧ (∀ (d : Fin 16) (c : Fin 32) (v : BitVec 32) (s : State), TidyFetches s d c v → v = 0x30200073 → ∃ t, exec
      (.tidyCoreInstruction d c) s = .next t
      ∧ (t.core d c).tc.pc = putBits (s.core d c).tc.mepc 0 0 0
      ∧ (t.core d c).tc.mie = (s.core d c).tc.mpie
      ∧ (t.core d c).tc.mpie = true
      ∧ (t.core d c).tc.x = (s.core d c).tc.x
      ∧ (∀ k, k ≠ coreKey d c → mapGet { } t.cores k = mapGet { } s.cores k)
      ∧ { t with cores := s.cores } = s)
  ∧ (∀ (d : Fin 16) (c : Fin 32) (v : BitVec 32) (s : State), TidyFetches s d c v → v = 0x10500073 → ∃ t, exec
      (.tidyCoreInstruction d c) s = .next t
      ∧ ((t.core d c).tc.st = (if (s.core d c).tc.meie = true ∧ s.tcExtIrq d c = true then .running else .wfi))
      ∧ (t.core d c).tc.pc = (s.core d c).tc.pc + 4
      ∧ { t.core d c with tc := { unretired (t.core d c).tc (s.core d c).tc with st := (s.core d c).tc.st } } = s.core d c
      ∧ (∀ k, k ≠ coreKey d c → mapGet { } t.cores k = mapGet { } s.cores k)
      ∧ { t with cores := s.cores } = s)
  ∧ (∀ (d : Fin 16) (c : Fin 32) (s : State), s.dieClocked d = false → ∃ t, exec (.tidyCoreInstruction d c) s = .next t
      ∧ t = s)
  ∧ (∀ (d : Fin 16) (c : Fin 32) (s : State), TablesRise s → CoreRises (s.core d c) → s.dieClocked d = true → s.coreOut d c =
      false → s.substituting d c = false → (s.core d c).tc.st = .running → (s.core d c).tc.mie = true → (s.core d c).tc.meie =
      true → s.tcExtIrq d c = true → 0x40000 ≤ (s.core d c).tc.mtvec.toNat → (s.core d c).tc.mtvec.toNat < 0x10000000 → ∃ t,
      exec (.tidyCoreInstruction d c) s = .next t
      ∧ (t.core d c).tc.mcause = 1
      ∧ (t.core d c).tc.mepc = (s.core d c).tc.mtvec
      ∧ (t.core d c).tc.mie = false
      ∧ (t.core d c).tc.mpie = false
      ∧ (t.core d c).tc.pc = (s.core d c).tc.mtvec
      ∧ (∀ k, k ≠ coreKey d c → mapGet { } t.cores k = mapGet { } s.cores k))

/-- R157, R334, R338, R345, R350, R356 and Table 19 of ch.05: a raw copy or fill within the die's own HBM puts the bytes in
their place and leaves every other byte; a copy to another die sends a WRITE with the bytes in whole lines under a free
TXN and awaits its answer; an atomic on the own die applies its operation and returns the old value; INVAL empties the
line cache; a claim takes an armed slot once. -/
def Obligations.MoveCommandsRun : Prop :=
  (∀ (d : Fin 16) (c : Fin 32) (k : Cmd) (a b n : Nat) (s : State), Issues s d c 2 0x40 k → TablesRise s → Memory.wf s.mem =
      true → NoBadData s → cmdUse k.word = false → bits k.word 76 75 = 2 → bit k.word 74 = false → bit k.word 89 = false →
      tdRows (s.td d c (bits k.word 95 90)) = 1 → tdTile (s.td d c (bits k.word 95 90)) = false → tdSrcHost (s.td d c (bits
      k.word 95 90)) = false → tdDstHost (s.td d c (bits k.word 95 90)) = false → tdLen (s.td d c (bits k.word 95 90)) = n → 0
      < n → s.placeOf d ((tdSrc (s.td d c (bits k.word 95 90)) + bits k.word 63 32) % 2 ^ 64) = .loc a → s.placeOf d ((tdDst
      (s.td d c (bits k.word 95 90)) + bits k.word 31 0) % 2 ^ 64) = .loc b → a + n ≤ 0x6000000000 → b + n ≤ 0x6000000000 → (a
      + n ≤ b ∨ b + n ≤ a) → ∃ t, exec (.mvCopy d c) s = .next t
      ∧ Issued s t d c 2 k stOk
      ∧ (∀ i, i < n → t.byte d (b + i) = s.byte d (a + i))
      ∧ (∀ j, (j < memKey d b ∨ memKey d b + n ≤ j) → mapGet 0 t.mem j = mapGet 0 s.mem j)
      ∧ (((t.core d c).q 2).run.getLast?).map (fun r => (r.todo, r.awaits)) = some ([], [])
      ∧ (t.tile d b).st = .untagged
      ∧ (t.core d c).mvBytes = (s.core d c).mvBytes + BitVec.ofNat 64 n
      ∧ unissued 2 { t.core d c with mvBytes := (s.core d c).mvBytes } (s.core d c) = s.core d c
      ∧ (∀ k, k ≠ coreKey d c → mapGet { } t.cores k = mapGet { } s.cores k)
      ∧ { unstored t s with cores := s.cores, dies := s.dies } = s)
  ∧ (∀ (d : Fin 16) (c : Fin 32) (k : Cmd) (a b n m h x : Nat) (s : State), Issues s d c 2 0x40 k → TablesRise s → DieRises
      (s.die d) → NoBadData s → cmdUse k.word = false → bits k.word 76 75 = 2 → bit k.word 74 = false → bit k.word 89 = false →
      tdRows (s.td d c (bits k.word 95 90)) = 1 → tdTile (s.td d c (bits k.word 95 90)) = false → tdSrcHost (s.td d c (bits
      k.word 95 90)) = false → tdDstHost (s.td d c (bits k.word 95 90)) = false → tdLen (s.td d c (bits k.word 95 90)) = n → 0
      < n → s.placeOf d ((tdSrc (s.td d c (bits k.word 95 90)) + bits k.word 63 32) % 2 ^ 64) = .loc a → s.placeOf d ((tdDst
      (s.td d c (bits k.word 95 90)) + bits k.word 31 0) % 2 ^ 64) = .remote m h b → (s.ownModule m = true ∨ (s.hasId = true ∧
      routeValid (s.route m) = true)) → a + n ≤ 0x6000000000 → b % 4096 + n ≤ 4096 → s.freeTxn d = some x → ∃ t, exec (.mvCopy
      d c) s = .next t
      ∧ Issued s t d c 2 k stOk
      ∧ (((t.core d c).q 2).run.getLast?).map (fun r => (r.todo, r.awaits)) = some ([], [.txn (BitVec.ofNat 15 x)])
      ∧ (t.txn d x).map (fun y => (y.kind, y.core, y.num)) = some (.write, c.val, k.num)
      ∧ (t.txn d x).map (fun y => (y.pkt.op, y.pkt.dstModule, y.pkt.dstDie, y.pkt.addr)) = some (0x02, BitVec.ofNat 16 m,
        BitVec.ofNat 4 h, BitVec.ofNat 44 b)
      ∧ (t.txn d x).map (fun y => y.pkt.payload) = some (linePayload b (s.bytes d a n))
      ∧ t.mem = s.mem
      ∧ (∀ k, k ≠ coreKey d c → mapGet { } t.cores k = mapGet { } s.cores k))
  ∧ (∀ (d : Fin 16) (c : Fin 32) (k : Cmd) (a b n : Nat) (s : State), Issues s d c 2 0x40 k → NoBadData s → cmdUse k.word =
      false → bits k.word 76 75 = 2 → bit k.word 74 = false → bit k.word 89 = false → tdRows (s.td d c (bits k.word 95 90)) = 1
      → tdTile (s.td d c (bits k.word 95 90)) = false → tdSrcHost (s.td d c (bits k.word 95 90)) = false → tdDstHost (s.td d c
      (bits k.word 95 90)) = true → tdLen (s.td d c (bits k.word 95 90)) = n → 0 < n → s.placeOf d ((tdSrc (s.td d c (bits
      k.word 95 90)) + bits k.word 63 32) % 2 ^ 64) = .loc a → tdDst (s.td d c (bits k.word 95 90)) + bits k.word 31 0 = b → b
      < 2 ^ 64 → inMemory s d a n = true → b % 4096 + n ≤ 4096 → s.hostReached = true → ∃ t, exec (.mvCopy d c) s = .next t
      ∧ Issued s t d c 2 k stOk
      ∧ t.out = s.out ++ [.dmaWrite b (s.bytes d a n)]
      ∧ (((t.core d c).q 2).run.getLast?).map (fun r => (r.todo, r.awaits)) = some ([], [])
      ∧ unissued 2 { t.core d c with mvBytes := (s.core d c).mvBytes } (s.core d c) = s.core d c
      ∧ (∀ k, k ≠ coreKey d c → mapGet { } t.cores k = mapGet { } s.cores k)
      ∧ { t with cores := s.cores, out := s.out } = s)
  ∧ (∀ (d : Fin 16) (c : Fin 32) (k : Cmd) (a b n m h x : Nat) (s : State), Issues s d c 2 0x40 k → TablesRise s → DieRises
      (s.die d) → cmdUse k.word = false → bits k.word 76 75 = 2 → bit k.word 74 = false → bit k.word 89 = false → tdRows (s.td
      d c (bits k.word 95 90)) = 1 → tdTile (s.td d c (bits k.word 95 90)) = false → tdSrcHost (s.td d c (bits k.word 95 90)) =
      false → tdDstHost (s.td d c (bits k.word 95 90)) = false → tdLen (s.td d c (bits k.word 95 90)) = n → 0 < n → s.placeOf d
      ((tdSrc (s.td d c (bits k.word 95 90)) + bits k.word 63 32) % 2 ^ 64) = .remote m h a → s.placeOf d ((tdDst (s.td d c
      (bits k.word 95 90)) + bits k.word 31 0) % 2 ^ 64) = .loc b → s.ownModule m = true → (tdDst (s.td d c (bits k.word 95
      90)) + bits k.word 31 0) % 4096 + n ≤ 4096 → a % 128 + n ≤ 4096 → s.freeTxn d = some x → ∃ t, exec (.mvCopy d c) s =
      .next t
      ∧ Issued s t d c 2 k stOk
      ∧ (((t.core d c).q 2).run.getLast?).map (fun r => (r.todo, r.awaits)) = some ([], [.txn (BitVec.ofNat 15 x)])
      ∧ (t.txn d x).map (fun y => (y.kind, y.core, y.num, y.piece.len)) = some (.read, c.val, k.num, n)
      ∧ (t.txn d x).map (fun y => (y.pkt.op, y.pkt.dstModule, y.pkt.dstDie)) = some (0x01, BitVec.ofNat 16 m, BitVec.ofNat 4 h)
      ∧ t.mem = s.mem
      ∧ (∀ k, k ≠ coreKey d c → mapGet { } t.cores k = mapGet { } s.cores k))
  ∧ (∀ (d : Fin 16) (c : Fin 32) (k : Cmd) (s : State) (r : Run) (ps : List Piece), Issues s d c 2 0x40 k → TablesRise s →
      Memory.wf s.mem = true → NoBadData s → (bit k.word 74 = true → s.freeFlow d ≠ none) → issuedRun s d c 2 k = r →
      movePieces (s.copySpec d c r) = ps → copyBad k.word (s.td d c (bits k.word 95 90)) false = false → r.useTiles.all (fun h
      => !(if bit k.word 73 then useShort h (bits k.word 31 0) (tdLen (s.td d c (bits k.word 95 90))) (tdRows (s.td d c (bits
      k.word 95 90))) (tdDStride (s.td d c (bits k.word 95 90))) else useShort h (bits k.word 63 32) (tdLen (s.td d c (bits
      k.word 95 90))) (tdRows (s.td d c (bits k.word 95 90))) (tdSStride (s.td d c (bits k.word 95 90))))) = true →
      s.fabricStatus ps = 0 → ps.all (pieceOk s d c r) = true → ∃ t, exec (.mvCopy d c) s = .next t
      ∧ Issued s t d c 2 k stOk
      ∧ (((t.core d c).q 2).run.getLast?).map (fun y => (y.tiles, y.cls, y.bound, y.arr)) = some (ownTiles c ps, (s.bindSlot d
        c (bits k.word 76 75)).1, (s.bindSlot d c (bits k.word 76 75)).2, if bit k.word 89 = true then some (bits k.word 88 77)
        else none)
      ∧ StoresAt s t d (inPieces ps)
      ∧ unissued 2
        { t.core d c with mvBytes := (s.core d c).mvBytes, tc := { (t.core d c).tc with irqPend := (s.core d c).tc.irqPend } }
        (s.core d c) = s.core d c
      ∧ (bit k.word 89 = false → (∀ k, k ≠ coreKey d c → mapGet { } t.cores k = mapGet { } s.cores k)))
  ∧ (∀ (d : Fin 16) (c : Fin 32) (k : Cmd) (b n : Nat) (s : State), Issues s d c 2 0x41 k → TablesRise s → Memory.wf s.mem =
      true → NoBadData s → tdRows (s.td d c (bits k.word 95 90)) = 1 → tdTile (s.td d c (bits k.word 95 90)) = false →
      tdDstHost (s.td d c (bits k.word 95 90)) = false → tdLen (s.td d c (bits k.word 95 90)) = n → 0 < n → s.placeOf d (tdDst
      (s.td d c (bits k.word 95 90)) % 2 ^ 64) = .loc b → b + n ≤ 0x6000000000 → ∃ t, exec (.mvFill d c) s = .next t
      ∧ Issued s t d c 2 k stOk
      ∧ (∀ i, i < n → t.byte d (b + i) = BitVec.ofNat 8 (bits k.word 63 0 / 256 ^ ((i : Nat) % 8)))
      ∧ (∀ j, (j < memKey d b ∨ memKey d b + n ≤ j) → mapGet 0 t.mem j = mapGet 0 s.mem j)
      ∧ (((t.core d c).q 2).run.getLast?).map (fun r => (r.todo, r.awaits)) = some ([], [])
      ∧ unissued 2 { t.core d c with mvBytes := (s.core d c).mvBytes } (s.core d c) = s.core d c
      ∧ { unstored t s with cores := s.cores, dies := s.dies } = s)
  ∧ (∀ (d : Fin 16) (c : Fin 32) (k : Cmd) (s : State) (r : Run) (ps : List Piece), Issues s d c 2 0x41 k → TablesRise s →
      Memory.wf s.mem = true → NoBadData s → issuedRun s d c 2 k = r → movePieces (s.fillSpec d c r) = ps → copyBad k.word
      (s.td d c (bits k.word 95 90)) true = false → s.fabricStatus ps = 0 → ps.all (pieceOk s d c r) = true → ∃ t, exec
      (.mvFill d c) s = .next t
      ∧ Issued s t d c 2 k stOk
      ∧ (((t.core d c).q 2).run.getLast?).map (·.tiles) = some (ownTiles c ps)
      ∧ StoresAt s t d (inPieces ps)
      ∧ unissued 2 { t.core d c with mvBytes := (s.core d c).mvBytes } (s.core d c) = s.core d c
      ∧ (∀ k, k ≠ coreKey d c → mapGet { } t.cores k = mapGet { } s.cores k))
  ∧ (∀ (d : Fin 16) (c : Fin 32) (k : Cmd) (a : Nat) (s : State), Issues s d c 2 0x42 k → TablesRise s → s.coreOut d c = false
      → s.substituting d c = false → Memory.wf s.mem = true → NoBadData s → s.freeTxn d ≠ none → bits k.word 95 92 ≤ 7 → bits
      k.word 85 63 % 8 = 0 → bits k.word 62 40 % 8 = 0 → bits k.word 85 63 + (if bits k.word 95 92 = 2 then 16 else 8) ≤
      lsBytes → s.dstPlace d c (bits k.word 91 86) (bits k.word 31 0) = .loc a → a % 8 = 0 → inMemory s d a 8 = true → (a + 8 ≤
      lsAddr c (bits k.word 62 40) ∨ lsAddr c (bits k.word 62 40) + 8 ≤ a) → ∃ t, exec (.mvAtomic d c) s = .next t
      ∧ Issued s t d c 2 k stOk
      ∧ ofBytes (t.bytes d a 8) = (atomicNew (bits k.word 95 92) (BitVec.ofNat 64 (ofBytes (s.bytes d a 8))) (BitVec.ofNat 64
        (ofBytes (s.bytes d (lsAddr c (bits k.word 85 63)) 8))) (BitVec.ofNat 64 (if bits k.word 95 92 = 2 then ofBytes
        (s.bytes d (lsAddr c (bits k.word 85 63) + 8) 8) else 0))).toNat
      ∧ t.bytes d (lsAddr c (bits k.word 62 40)) 8 = s.bytes d a 8
      ∧ (∀ j, (j < memKey d a ∨ memKey d a + 8 ≤ j) → (j < memKey d (lsAddr c (bits k.word 62 40)) ∨ memKey d (lsAddr c (bits
        k.word 62 40)) + 8 ≤ j) → mapGet 0 t.mem j = mapGet 0 s.mem j)
      ∧ (∀ k, k ≠ coreKey d c → mapGet { } t.cores k = mapGet { } s.cores k)
      ∧ unissued 2 { t.core d c with mvBytes := (s.core d c).mvBytes } (s.core d c) = s.core d c
      ∧ { unstored t s with cores := s.cores, dies := s.dies } = s)
  ∧ (∀ (d : Fin 16) (c : Fin 32) (k : Cmd) (a m h x : Nat) (s : State), Issues s d c 2 0x42 k → TablesRise s → DieRises (s.die
      d) → s.coreOut d c = false → s.substituting d c = false → NoBadData s → s.freeTxn d = some x → bits k.word 95 92 ≤ 7 →
      bits k.word 85 63 % 8 = 0 → bits k.word 62 40 % 8 = 0 → bits k.word 85 63 + (if bits k.word 95 92 = 2 then 16 else 8) ≤
      lsBytes → s.dstPlace d c (bits k.word 91 86) (bits k.word 31 0) = .remote m h a → (s.ownModule m = true ∨ (s.hasId = true
      ∧ routeValid (s.route m) = true)) → a % 8 = 0 → ∃ t, exec (.mvAtomic d c) s = .next t
      ∧ Issued s t d c 2 k stOk
      ∧ (((t.core d c).q 2).run.getLast?).map (·.awaits) = some [.txn (BitVec.ofNat 15 x)]
      ∧ (t.txn d x).map (fun y => (y.kind, y.core, y.num)) = some (.atomic (bits k.word 62 40), c.val, k.num)
      ∧ (t.txn d x).map (fun y => (y.pkt.op, y.pkt.dstModule, y.pkt.dstDie, y.pkt.addr, y.pkt.opx)) = some (0x04, BitVec.ofNat
        16 m, BitVec.ofNat 4 h, BitVec.ofNat 44 a, BitVec.ofNat 64 (bits k.word 95 92))
      ∧ (t.txn d x).map (fun y => y.pkt.payload.take 8) = some (s.bytes d (lsAddr c (bits k.word 85 63)) 8)
      ∧ t.mem = s.mem
      ∧ unissued 2 (t.core d c) (s.core d c) = s.core d c
      ∧ (∀ k, k ≠ coreKey d c → mapGet { } t.cores k = mapGet { } s.cores k))
  ∧ (∀ (d : Fin 16) (c : Fin 32) (k : Cmd) (a : Nat) (s : State), Issues s d c 2 0x42 k → s.freeTxn d ≠ none → s.atomicWaits d
      c = false → bits k.word 95 92 ≤ 7 → bits k.word 85 63 % 8 = 0 → bits k.word 62 40 % 8 = 0 → s.dstPlace d c (bits k.word
      91 86) (bits k.word 31 0) = .loc a → a % 8 ≠ 0 → ∃ t, exec (.mvAtomic d c) s = .next t
      ∧ Issued s t d c 2 k 0x4A
      ∧ unissued 2 (t.core d c) (s.core d c) = s.core d c
      ∧ (∀ k, k ≠ coreKey d c → mapGet { } t.cores k = mapGet { } s.cores k)
      ∧ { t with cores := s.cores } = s)
  ∧ (∀ (d : Fin 16) (c : Fin 32) (k : Cmd) (s : State), Issues s d c 2 0x43 k → TablesRise s → bits k.word 31 0 = 0 → ∃ t, exec
      (.mvInval d c) s = .next t
      ∧ Issued s t d c 2 k stOk
      ∧ (∀ j, j < 131072 → (mapGet none (t.die d).rlc j).isNone = true)
      ∧ unissued 2 (t.core d c) (s.core d c) = s.core d c
      ∧ (∀ k, k ≠ coreKey d c → mapGet { } t.cores k = mapGet { } s.cores k)
      ∧ (∀ k, k ≠ d.val → t.die k = s.die k)
      ∧ { t with cores := s.cores, dies := s.dies } = s)
  ∧ (∀ (d : Fin 16) (c : Fin 32) (k : Cmd) (m h a : Nat) (s : State), Issues s d c 2 0x43 k → TablesRise s → bits k.word 31 0 ≠
      0 → s.dstPlace d c (bits k.word 95 90) (bits k.word 63 32) = .remote m h a → ∃ t, exec (.mvInval d c) s = .next t
      ∧ Issued s t d c 2 k stOk
      ∧ (t.die d).rlc = (s.die d).rlc.filter (fun kv => (kv.2.map (fun l => !lineIn m h a (bits k.word 31 0) l)).getD false)
      ∧ unissued 2 (t.core d c) (s.core d c) = s.core d c
      ∧ (∀ k, k ≠ coreKey d c → mapGet { } t.cores k = mapGet { } s.cores k)
      ∧ (∀ k, k ≠ d.val → t.die k = s.die k)
      ∧ { t with cores := s.cores, dies := s.dies } = s)
  ∧ (∀ (d : Fin 16) (c : Fin 32) (k : Cmd) (a : Nat) (s : State), Issues s d c 2 0x43 k → bits k.word 31 0 ≠ 0 → s.dstPlace d c
      (bits k.word 95 90) (bits k.word 63 32) = .loc a → ∃ t, exec (.mvInval d c) s = .next t
      ∧ Issued s t d c 2 k stOk
      ∧ unissued 2 (t.core d c) (s.core d c) = s.core d c
      ∧ (∀ k, k ≠ coreKey d c → mapGet { } t.cores k = mapGet { } s.cores k)
      ∧ { t with cores := s.cores } = s)
  ∧ (∀ (d : Fin 16) (c : Fin 32) (k : Cmd) (s : State), Issues s d c 2 0x44 k → ∃ t, exec (.mvFence d c) s = .next t
      ∧ Issued s t d c 2 k stOk
      ∧ unissued 2 (t.core d c) (s.core d c) = s.core d c
      ∧ (∀ k, k ≠ coreKey d c → mapGet { } t.cores k = mapGet { } s.cores k)
      ∧ { t with cores := s.cores } = s)
  ∧ (∀ (d : Fin 16) (c : Fin 32) (k : Cmd) (a : Nat) (r : Fin 64) (s : State), Issues s d c 2 0x46 k → TablesRise s → DieRises
      (s.die d) → s.freeTxn d ≠ none → s.dstPlace d c (bits k.word 95 90) (bits k.word 31 0) = .loc a → raceArmed (s.race d r)
      = true → raceClaimed (s.race d r) = false → raceBase (s.race d r) = a → (∀ j : Fin 64, j < r → ¬ (raceArmed (s.race d j)
      = true ∧ raceBase (s.race d j) = a)) → s.moduleId < 2 ^ 16 → ∃ t, exec (.mvClaim d c) s = .next t
      ∧ Issued s t d c 2 k stOk
      ∧ raceClaimed (t.race d r) = true
      ∧ raceModule (t.race d r) = s.moduleId
      ∧ raceDie (t.race d r) = d
      ∧ bits (t.race d r) 191 128 = (s.localGt d).toNat
      ∧ (∀ j, j ≠ r.val → mapGet 0 (t.die d).race j = mapGet 0 (s.die d).race j)
      ∧ unissued 2 (t.core d c) (s.core d c) = s.core d c
      ∧ (∀ k, k ≠ coreKey d c → mapGet { } t.cores k = mapGet { } s.cores k)
      ∧ (∀ k, k ≠ d.val → t.die k = s.die k)
      ∧ { t with cores := s.cores, dies := s.dies } = s)
  ∧ (∀ (d : Fin 16) (c : Fin 32) (k : Cmd) (a : Nat) (r : Fin 64) (s : State), Issues s d c 2 0x46 k → TablesRise s → s.freeTxn
      d ≠ none → s.dstPlace d c (bits k.word 95 90) (bits k.word 31 0) = .loc a → raceArmed (s.race d r) = true → raceClaimed
      (s.race d r) = true → raceBase (s.race d r) = a → (raceModule (s.race d r) ≠ s.moduleId ∨ raceDie (s.race d r) ≠ d.val) →
      (∀ j : Fin 64, j < r → ¬ (raceArmed (s.race d j) = true ∧ raceBase (s.race d j) = a)) → ∃ t, exec (.mvClaim d c) s =
      .next t
      ∧ Issued s t d c 2 k 0x4B
      ∧ (t.die d).race = (s.die d).race
      ∧ unissued 2 (t.core d c) (s.core d c) = s.core d c
      ∧ (∀ k, k ≠ coreKey d c → mapGet { } t.cores k = mapGet { } s.cores k)
      ∧ { t with cores := s.cores, dict := s.dict } = s)
  ∧ (∀ (d : Fin 16) (c : Fin 32) (k : Cmd) (a : Nat) (r : Fin 64) (s : State), Issues s d c 2 0x46 k → s.freeTxn d ≠ none →
      s.dstPlace d c (bits k.word 95 90) (bits k.word 31 0) = .loc a → raceArmed (s.race d r) = true → raceClaimed (s.race d r)
      = true → raceBase (s.race d r) = a → raceModule (s.race d r) = s.moduleId → raceDie (s.race d r) = d.val → (∀ j : Fin 64,
      j < r → ¬ (raceArmed (s.race d j) = true ∧ raceBase (s.race d j) = a)) → ∃ t, exec (.mvClaim d c) s = .next t
      ∧ Issued s t d c 2 k stOk
      ∧ unissued 2 (t.core d c) (s.core d c) = s.core d c
      ∧ (∀ k, k ≠ coreKey d c → mapGet { } t.cores k = mapGet { } s.cores k)
      ∧ { t with cores := s.cores } = s)
  ∧ (∀ (d : Fin 16) (c : Fin 32) (k : Cmd) (a : Nat) (s : State), Issues s d c 2 0x46 k → s.freeTxn d ≠ none → s.dstPlace d c
      (bits k.word 95 90) (bits k.word 31 0) = .loc a → (∀ j : Fin 64, ¬ (raceArmed (s.race d j) = true ∧ raceBase (s.race d j)
      = a)) → ∃ t, exec (.mvClaim d c) s = .next t
      ∧ Issued s t d c 2 k 0x4C
      ∧ unissued 2 (t.core d c) (s.core d c) = s.core d c
      ∧ (∀ k, k ≠ coreKey d c → mapGet { } t.cores k = mapGet { } s.cores k)
      ∧ { t with cores := s.cores } = s)
  ∧ (∀ (d : Fin 16) (c : Fin 32) (k : Cmd) (a m h x : Nat) (s : State), Issues s d c 2 0x46 k → TablesRise s → DieRises (s.die
      d) → s.freeTxn d = some x → s.dstPlace d c (bits k.word 95 90) (bits k.word 31 0) = .remote m h a → (s.ownModule m = true
      ∨ (s.hasId = true ∧ routeValid (s.route m) = true)) → ∃ t, exec (.mvClaim d c) s = .next t
      ∧ Issued s t d c 2 k stOk
      ∧ (((t.core d c).q 2).run.getLast?).map (·.awaits) = some [.txn (BitVec.ofNat 15 x)]
      ∧ (t.txn d x).map (fun y => (y.kind, y.core, y.num)) = some (.claim, c.val, k.num)
      ∧ (t.txn d x).map (fun y => (y.pkt.op, y.pkt.dstModule, y.pkt.dstDie, y.pkt.addr)) = some (0x05, BitVec.ofNat 16 m,
        BitVec.ofNat 4 h, BitVec.ofNat 44 a)
      ∧ t.mem = s.mem
      ∧ unissued 2 (t.core d c) (s.core d c) = s.core d c
      ∧ (∀ k, k ≠ coreKey d c → mapGet { } t.cores k = mapGet { } s.cores k))

/-- R239, R240, R316, R329, R339, R341, R526: a bound move is opened at its slot and goes as class 2 after its admission
close; an answer frees its transaction and its data or status reach the move, the first bad status ending it; after CMP's
timeout a request is given up with ACK_TIMEOUT and its number stays taken; a refused ordered packet is sent again after 2
µs; packets held 100 µs are given up; host data land, an error or a timeout ends the move with HOST. -/
def Obligations.MovesAreAnswered : Prop :=
  (∀ (d : Fin 16) (i : Fin 16) (c : Fin 32) (r : Run) (s : State), TablesRise s → s.boundMoves d i = [(c.val, r)] → (s.core d
      c).findRun 2 r.num = some r → r.todo = [] → r.fail = 0 → rsValid (s.rs d i) = true → s.gtRuns d = true → s.slotOpen d
      r.bound = true → ∃ t, exec (.slotStart d i) s = .next t
      ∧ (t.core d c).q2.run = (s.core d c).q2.run.map (fun y => if y.num = r.num then { y with opened := true } else y)
      ∧ { t.core d c with q2 := (s.core d c).q2 } = s.core d c
      ∧ (∀ k, k ≠ coreKey d c → mapGet { } t.cores k = mapGet { } s.cores k)
      ∧ { t with cores := s.cores } = s)
  ∧ (∀ (d : Fin 16) (i : Fin 16) (c : Fin 32) (r : Run) (p : Piece) (a b n : Nat) (s : State), TablesRise s → DieRises (s.die
      d) → Memory.wf s.mem = true → NoBadData s → s.dieRuns d = true → s.boundMoves d i = [(c.val, r)] → (s.core d c).q2.run =
      [r] → r.todo = [p] → r.status = 0 → r.arr = none → r.fail = 0 → r.bound = some (i.val, n) → p.src = .loc a → p.dst = .loc
      b → p.tile = false → 0 < p.len → a + p.len ≤ 0x6000000000 → b + p.len ≤ 0x6000000000 → s.gtRuns d = true → rsSlotClose
      (s.rs d i) n ≤ (s.localGt d).toNat → ∃ t, exec (.admissionClose d i) s = .next t
      ∧ (t.core d c).q2.run = [{ r with bound := none, opened := true, cls := 2, todo := [], progress := s.time }]
      ∧ t.bytes d b p.len = s.bytes d a p.len
      ∧ bits (t.rs d i) 31 0 = min (2 ^ 32 - 1) (bits (s.rs d i) 31 0 + 1)
      ∧ bits (t.rs d i) 255 32 = bits (s.rs d i) 255 32
      ∧ (∀ k, k ≠ coreKey d c → mapGet { } t.cores k = mapGet { } s.cores k)
      ∧ { t with cores := s.cores, dies := s.dies, mem := s.mem, tiles := s.tiles, dict := s.dict } = s)
  ∧ (∀ (l : Fin 8) (h : Held) (s : State), Rises s.dict → s.retryHeld.fab.held = [h] → s.retryHeld.obj 0x5000 0x0A + 1 < 2 ^ 32
      → h.own = false → h.light = l.val → h.since + 100 * tickUs ≤ s.time → ∃ t, exec (.relayHoldExpire l) s = .next t
      ∧ t.fab.held = []
      ∧ t.obj 0x5000 0x0A = s.retryHeld.obj 0x5000 0x0A + 1
      ∧ { t with fab := { t.fab with held := s.retryHeld.fab.held }, dict := s.retryHeld.dict } = s.retryHeld)
  ∧ (∀ (l : Fin 8) (s : State), s.fab.held = [] → ∃ t, exec (.relayHoldExpire l) s = .next t
      ∧ t = s)
  ∧ (∀ (d : Fin 16) (n : BitVec 15) (x : Txn) (b : Nat) (s : State), TablesRise s → DieRises (s.die d) → s.txn d n.toNat = some
      x → x.busyAt = some b → x.abandoned = false → b + 2 * tickUs ≤ s.time → (s.die d).txns = [(n.toNat, some x)] → ∃ t, exec
      (.reorderBusyResend d n) s = .next t
      ∧ (t.txn d n.toNat).map (fun y => (y.busyAt, y.sent, y.kind, y.core, y.num)) = some (none, s.time, x.kind, x.core, x.num)
      ∧ (t.txn d n.toNat).map (fun y => (y.pkt.txn, y.pkt.op, y.pkt.pseq, y.pkt.payload)) = some (n, x.pkt.op, x.pkt.pseq,
        x.pkt.payload)
      ∧ t.cores = s.cores
      ∧ t.mem = s.mem)
  ∧ (∀ (d : Fin 16) (k : Packet) (x : Txn) (c : Fin 32) (r : Run) (s : State), TablesRise s → DieRises (s.die d) → Quiet s d →
      s.dieRuns d = true → s.fab.inner.contains (d.val, k) = true → opResponse k.op.toNat = true → k.hchk = k.check → s.txn d
      k.txn.toNat = some x → x.abandoned = false → answers k x = true → respStatus k = 0 → x.kind = .write → x.core = c.val →
      (s.core d c).findRun 2 x.num = some r → isLoc x.piece.dst = false → r.fail = 0 → ∃ t, exec (.responseReceive d k) s =
      .next t
      ∧ t.fab.inner = s.fab.inner.erase (d.val, k)
      ∧ t.txn d k.txn.toNat = none
      ∧ (t.core d c).q2.run = (s.core d c).q2.run.map (fun y => if y.num = x.num then
        { y with awaits := y.awaits.filter (· != .txn k.txn), progress := s.time } else y)
      ∧ (t.core d c).mvBytes = (s.core d c).mvBytes + BitVec.ofNat 64 x.piece.len
      ∧ (∀ k, k ≠ coreKey d c → mapGet { } t.cores k = mapGet { } s.cores k)
      ∧ { t with cores := s.cores, dies := s.dies, fab := { t.fab with inner := s.fab.inner } } = s)
  ∧ (∀ (d : Fin 16) (k : Packet) (x : Txn) (c : Fin 32) (r : Run) (s : State), TablesRise s → DieRises (s.die d) → Quiet s d →
      s.dieRuns d = true → s.fab.inner.contains (d.val, k) = true → opResponse k.op.toNat = true → k.hchk = k.check → s.txn d
      k.txn.toNat = some x → x.abandoned = false → answers k x = true → respStatus k ≠ 0 → respStatus k ≠ 0x4E → x.kind ≠
      .mirror → x.core = c.val → (s.core d c).findRun 2 x.num = some r → r.awaits = [.txn k.txn] → r.fail = 0 → r.status = 0 →
      ∃ t, exec (.responseReceive d k) s = .next t
      ∧ t.fab.inner = s.fab.inner.erase (d.val, k)
      ∧ t.txn d k.txn.toNat = none
      ∧ ((t.core d c).findRun 2 x.num).map (fun y => (y.status.toNat, y.awaits)) = some (respStatus k, [])
      ∧ (∀ k, k ≠ coreKey d c → mapGet { } t.cores k = mapGet { } s.cores k)
      ∧ { t with cores := s.cores, dies := s.dies, fab := { t.fab with inner := s.fab.inner } } = s)
  ∧ (∀ (d : Fin 16) (k : Packet) (x : Txn) (c : Fin 32) (r : Run) (m h a b : Nat) (s : State), TablesRise s → DieRises (s.die
      d) → Quiet s d → s.dieRuns d = true → s.fab.inner.contains (d.val, k) = true → opResponse k.op.toNat = true → k.hchk =
      k.check → s.txn d k.txn.toNat = some x → x.abandoned = false → answers k x = true → respStatus k = 0 → Memory.wf s.mem =
      true → NoBadData s → x.kind = .read → x.core = c.val → x.fill = [] → k.tile = false → (s.core d c).findRun 2 x.num = some
      r → x.piece.src = .remote m h a → x.piece.dst = .loc b → inMemory s d b x.piece.len = true → 0 < x.piece.len → a % 128 +
      x.piece.len ≤ k.payload.length → r.arr = none → r.status = 0 → r.fail = 0 → ∃ t, exec (.responseReceive d k) s = .next t
      ∧ t.fab.inner = s.fab.inner.erase (d.val, k)
      ∧ t.txn d k.txn.toNat = none
      ∧ t.bytes d b x.piece.len = (k.payload.drop (a % 128)).take x.piece.len
      ∧ StoresAt s t d (inPieces [x.piece])
      ∧ (t.core d c).q2.run = (s.core d c).q2.run.map (fun y => if y.num = x.num then
        { y with awaits := y.awaits.filter (· != .txn k.txn), progress := s.time } else y)
      ∧ (t.core d c).mvBytes = (s.core d c).mvBytes + BitVec.ofNat 64 x.piece.len
      ∧ (∀ k, k ≠ coreKey d c → mapGet { } t.cores k = mapGet { } s.cores k)
      ∧ { unstored t s with cores := s.cores, dies := s.dies, fab := { t.fab with inner := s.fab.inner } } = s)
  ∧ (∀ (d : Fin 16) (k : Packet) (x : Txn) (c : Fin 32) (r : Run) (res : Nat) (s : State), TablesRise s → DieRises (s.die d) →
      Quiet s d → s.dieRuns d = true → s.fab.inner.contains (d.val, k) = true → opResponse k.op.toNat = true → k.hchk = k.check
      → s.txn d k.txn.toNat = some x → x.abandoned = false → answers k x = true → respStatus k = 0 → Memory.wf s.mem = true →
      NoBadData s → x.kind = .atomic res → x.core = c.val → (s.core d c).findRun 2 x.num = some r → isLoc x.piece.dst = false →
      res + 8 ≤ lsBytes → 8 ≤ k.payload.length → r.fail = 0 → ∃ t, exec (.responseReceive d k) s = .next t
      ∧ t.fab.inner = s.fab.inner.erase (d.val, k)
      ∧ t.txn d k.txn.toNat = none
      ∧ t.bytes d (lsAddr c res) 8 = k.payload.take 8
      ∧ StoresIn s t d c (fun off => decide (res ≤ off) && decide (off < res + 8))
      ∧ (t.core d c).q2.run = (s.core d c).q2.run.map (fun y => if y.num = x.num then
        { y with awaits := y.awaits.filter (· != .txn k.txn), progress := s.time } else y)
      ∧ (∀ k, k ≠ coreKey d c → mapGet { } t.cores k = mapGet { } s.cores k)
      ∧ { unstored t s with cores := s.cores, dies := s.dies, fab := { t.fab with inner := s.fab.inner } } = s)
  ∧ (∀ (d : Fin 16) (k : Packet) (x : Txn) (s : State), TablesRise s → DieRises (s.die d) → Quiet s d → s.dieRuns d = true →
      s.fab.inner.contains (d.val, k) = true → opResponse k.op.toNat = true → k.hchk = k.check → s.txn d k.txn.toNat = some x →
      x.abandoned = false → answers k x = true → respStatus k = 0x4E → ∃ t, exec (.responseReceive d k) s = .next t
      ∧ t.fab.inner = s.fab.inner.erase (d.val, k)
      ∧ t.txn d k.txn.toNat = some { x with busyAt := some s.time }
      ∧ { t with dies := s.dies, fab := { t.fab with inner := s.fab.inner } } = s)
  ∧ (∀ (d : Fin 16) (n : BitVec 15) (x : Txn) (c : Fin 32) (r : Run) (s : State), TablesRise s → DieRises (s.die d) → Quiet s d
      → s.txn d n.toNat = some x → x.abandoned = false → x.kind ≠ .mirror → x.core = c.val → (s.core d c).findRun 2 x.num =
      some r → x.sent + s.ackTicks ≤ s.time → r.awaits = [.txn n] → r.fail = 0 → r.status = 0 → ∃ t, exec (.ackTimeout d n) s =
      .next t
      ∧ t.txn d n.toNat = some { x with abandoned := true }
      ∧ ((t.core d c).findRun 2 x.num).map (fun y => (y.status.toNat, y.awaits)) = some (0x48, [])
      ∧ t.flt.raised = s.flt.raised ++ [⟨mkEvent 0x11 sevRecovered d c 0x48 x.pkt.addr.toNat, s.gtNow⟩]
      ∧ (∀ k, k ≠ coreKey d c → mapGet { } t.cores k = mapGet { } s.cores k)
      ∧ { t with cores := s.cores, dies := s.dies, dict := s.dict, flt := { t.flt with raised := s.flt.raised } } = s)
  ∧ (∀ (g : Nat) (bs : List Byte) (h : HostRead) (d : Fin 16) (c : Fin 32) (r : Run) (b : Nat) (s : State), TablesRise s →
      Memory.wf s.mem = true → NoBadData s → Quiet s d → s.dieRuns d = true → s.host.reads.find? (fun y => y.tag == g) = some h
      → h.die = d.val → h.core = c.val → (s.core d c).findRun 2 h.num = some r → bs.length = h.piece.len → h.piece.tile = false
      → h.piece.dst = .loc b → 0 < bs.length → inMemory s d b bs.length = true → r.arr = none → r.status = 0 → r.fail = 0 → ∃
      t, exec (.hostCompletion g (.data bs)) s = .next t
      ∧ t.host.reads = s.host.reads.filter (fun y => y.tag != g)
      ∧ t.bytes d b bs.length = bs
      ∧ (∀ j, (j < memKey d b ∨ memKey d b + bs.length ≤ j) → mapGet 0 t.mem j = mapGet 0 s.mem j)
      ∧ (t.core d c).q2.run = (s.core d c).q2.run.map (fun y => if y.num = h.num then
        { y with awaits := y.awaits.filter (· != .hostRead g), progress := s.time } else y)
      ∧ (∀ k, k ≠ coreKey d c → mapGet { } t.cores k = mapGet { } s.cores k)
      ∧ { unstored t s with cores := s.cores, dies := s.dies, host := { t.host with reads := s.host.reads } } = s)
  ∧ (∀ (g : Nat) (cpl : Cpl) (h : HostRead) (d : Fin 16) (c : Fin 32) (r : Run) (s : State), TablesRise s → Quiet s d →
      s.host.reads.find? (fun y => y.tag == g) = some h → h.die = d.val → h.core = c.val → (s.core d c).findRun 2 h.num = some
      r → isData cpl = false → r.awaits = [.hostRead g] → r.fail = 0 → r.status = 0 → ∃ t, exec (.hostCompletion g cpl) s =
      .next t
      ∧ t.host.reads = s.host.reads.filter (fun y => y.tag != g)
      ∧ ((t.core d c).findRun 2 h.num).map (fun y => (y.status.toNat, y.awaits)) = some (stHost, [])
      ∧ t.mem = s.mem
      ∧ (∀ k, k ≠ coreKey d c → mapGet { } t.cores k = mapGet { } s.cores k)
      ∧ { t with cores := s.cores, dict := s.dict, host := { t.host with reads := s.host.reads } } = s)
  ∧ (∀ (g : Nat) (h : HostRead) (d : Fin 16) (c : Fin 32) (r : Run) (s : State), TablesRise s → Quiet s d → s.host.reads.find?
      (fun y => y.tag == g) = some h → h.die = d.val → h.core = c.val → (s.core d c).findRun 2 h.num = some r → h.sent + s.obj
      0xA800 1 * tickMs ≤ s.time → r.awaits = [.hostRead g] → r.fail = 0 → r.status = 0 → ∃ t, exec (.hostCplTimeout g) s =
      .next t
      ∧ t.host.reads = s.host.reads.filter (fun y => y.tag != g)
      ∧ ((t.core d c).findRun 2 h.num).map (fun y => (y.status.toNat, y.awaits)) = some (stHost, [])
      ∧ t.mem = s.mem
      ∧ (∀ k, k ≠ coreKey d c → mapGet { } t.cores k = mapGet { } s.cores k)
      ∧ { t with cores := s.cores, dict := s.dict, host := { t.host with reads := s.host.reads } } = s)

/-- R179, R183, R184, R186, R187: a whole aligned tag write stores the tag with its reserved bits clear and makes the tile
VALID, any other is discarded and logged; a verifying read that finds an uncorrectable word aborts the command that uses
the tile, marks the tile POISON and halts the command with status 0x0A's cause; a scrub timer that is due reads the next
VALID tile from its cursor, moves the cursor past it, and marks a bad tile POISON, counts it and logs it. -/
def Obligations.TagsVerifyAndScrub : Prop :=
  (∀ (d : Fin 16) (c : Fin 32) (off : Fin 0x4000) (bs : List Byte) (s : State), Rises s.tiles → Reachable s d c → off.val % 8
      = 0 → bs.length = 8 → ∃ t, exec (.tagWrite d c off bs) s = .next t
      ∧ t.tile d (lsAddr c (4096 * (off.val / 8))) = { tag := putBits (BitVec.ofNat 64 (ofBytes bs)) 43 40 0, st := .valid }
      ∧ (∀ k, k ≠ tileKey d (lsAddr c (4096 * (off.val / 8))) → mapGet { } t.tiles k = mapGet { } s.tiles k)
      ∧ (∀ k ∈ t.badTags, k ∈ s.badTags)
      ∧ tileKey d (lsAddr c (4096 * (off.val / 8))) ∉ t.badTags
      ∧ { t with tiles := s.tiles, badTags := s.badTags, races := s.races } = s)
  ∧ (∀ (d : Fin 16) (c : Fin 32) (off : Fin 0x4000) (bs : List Byte) (s : State), Reachable s d c → (off.val % 8 ≠ 0 ∨
      bs.length ≠ 8) → ∃ t, exec (.tagWrite d c off bs) s = .next t
      ∧ t.flt.raised.map (fun r => r.ev.site.toNat) = s.flt.raised.map (fun r => r.ev.site.toNat) ++ [0x17]
      ∧ { t with flt := { t.flt with raised := s.flt.raised } } = s)
  ∧ (∀ (d : Fin 16) (c : Fin 32) (τ : Fin 2048) (s : State), s.dieRuns d = true → (s.core d c).consumer 0 τ.val = none →
      (s.core d c).consumer 1 τ.val = none → ∃ t, exec (.verifyingRead d (.ls c τ) false .clean) s = .next t
      ∧ t = s)
  ∧ (∀ (d : Fin 16) (c : Fin 32) (τ : Fin 2048) (off : Fin 4096) (r : Run) (s : State), TablesRise s → s.dieRuns d = true →
      CoreRises (s.core d c) → (s.core d c).consumer 0 τ = some r → r.tiles = [] → s.badTags = [] → r.level ≠ 1 → bits (s.core
      d c).mx.fault 63 56 = 0 → ∃ t, exec (.verifyingRead d (.ls c τ) false (.uncorrectable off)) s = .next t
      ∧ (t.core d c).q0.run.map (fun x => (x.num, x.status)) = (s.core d c).q0.run.map (fun x => (x.num, if x.num = r.num then
        BitVec.ofNat 8 stFault else x.status))
      ∧ bits (t.core d c).mx.fault 63 56 = 3
      ∧ bits (t.core d c).mx.fault 31 0 = r.num.toNat % 2 ^ 32
      ∧ t.tile d (lsAddr c (4096 * τ.val)) = { s.tile d (lsAddr c (4096 * τ.val)) with st := .poison }
      ∧ memKey d (lsAddr c (4096 * τ.val) + off.val) / 16 ∈ t.badWords
      ∧ t.flt.raised.map (fun x => (x.ev.site.toNat, x.ev.cause.toNat)) = s.flt.raised.map (fun x => (x.ev.site.toNat,
        x.ev.cause.toNat)) ++ [(0x06, reasonEcc)]
      ∧ (∀ k, k ≠ coreKey d c → mapGet { } t.cores k = mapGet { } s.cores k)
      ∧
        { t with cores := s.cores, tiles := s.tiles, badWords := s.badWords, badTags := s.badTags, races := s.races, dict := s.dict, flt := { t.flt with raised := s.flt.raised } }
        = s)
  ∧ (∀ (d : Fin 16) (c : Fin 32) (τ : Fin 2048) (off : Fin 4096) (r : Run) (s : State), TablesRise s → s.dieRuns d = true →
      CoreRises (s.core d c) → (s.core d c).consumer 0 τ = none → (s.core d c).consumer 1 τ = some r → (s.core d c).vx.loops =
      [] → r.tiles = [] → s.badTags = [] → r.level ≠ 1 → bits (s.core d c).vx.fault 63 56 = 0 → ∃ t, exec (.verifyingRead d
      (.ls c τ) false (.uncorrectable off)) s = .next t
      ∧ (t.core d c).q1.run.map (fun x => (x.num, x.status)) = (s.core d c).q1.run.map (fun x => (x.num, if x.num = r.num then
        BitVec.ofNat 8 stFault else x.status))
      ∧ bits (t.core d c).vx.fault 63 56 = 3
      ∧ t.tile d (lsAddr c (4096 * τ.val)) = { s.tile d (lsAddr c (4096 * τ.val)) with st := .poison }
      ∧ memKey d (lsAddr c (4096 * τ.val) + off.val) / 16 ∈ t.badWords
      ∧ t.flt.raised.map (fun x => (x.ev.site.toNat, x.ev.cause.toNat)) = s.flt.raised.map (fun x => (x.ev.site.toNat,
        x.ev.cause.toNat)) ++ [(0x06, reasonEcc)]
      ∧ (∀ k, k ≠ coreKey d c → mapGet { } t.cores k = mapGet { } s.cores k)
      ∧
        { t with cores := s.cores, tiles := s.tiles, badWords := s.badWords, badTags := s.badTags, races := s.races, dict := s.dict, flt := { t.flt with raised := s.flt.raised } }
        = s)
  ∧ (∀ (d : Fin 16) (c : Fin 32) (τ : Fin 2048) (r : Run) (s : State), TablesRise s → s.dieRuns d = true → CoreRises (s.core d
      c) → (s.core d c).consumer 0 τ = some r → r.level = 0 → r.tiles = [] → bits (s.core d c).mx.fault 63 56 = 0 → ∃ t, exec
      (.verifyingRead d (.ls c τ) true .clean) s = .next t
      ∧ (t.core d c).q0.run.map (fun x => (x.num, x.status)) = (s.core d c).q0.run.map (fun x => (x.num, if x.num = r.num then
        BitVec.ofNat 8 stFault else x.status))
      ∧ bits (t.core d c).mx.fault 63 56 = 3
      ∧ (t.tile d (lsAddr c (4096 * τ.val))).st = (s.tile d (lsAddr c (4096 * τ.val))).st
      ∧ t.flt.raised.map (fun x => x.ev.cause.toNat) = s.flt.raised.map (fun x => x.ev.cause.toNat) ++ [reasonRace]
      ∧ (∀ k, k ≠ coreKey d c → mapGet { } t.cores k = mapGet { } s.cores k)
      ∧
        { t with cores := s.cores, tiles := s.tiles, badTags := s.badTags, races := s.races, dict := s.dict, flt := { t.flt with raised := s.flt.raised } }
        = s)
  ∧ (∀ (d : Fin 16) (c : Fin 32) (τ : Fin 2048) (raced : Bool) (off : Fin 4096) (s : State), s.dieRuns d = true → (s.core d
      c).consumer 0 τ.val = none → (s.core d c).consumer 1 τ.val = none → ∃ t, exec (.verifyingRead d (.ls c τ) raced
      (.uncorrectable off)) s = .next t
      ∧ memKey d (lsAddr c (4096 * τ.val) + off.val) / 16 ∈ t.badWords
      ∧ (raced = true → tileKey d (lsAddr c (4096 * τ.val)) ∈ t.races)
      ∧ { t with badWords := s.badWords, races := s.races } = s)
  ∧ (∀ (d : Fin 16) (c : Fin 32) (τ : Fin 2048) (s : State), s.dieRuns d = true → (s.core d c).consumer 0 τ.val = none →
      (s.core d c).consumer 1 τ.val = none → ∃ t, exec (.verifyingRead d (.ls c τ) false .tagUncorrectable) s = .next t
      ∧ tileKey d (lsAddr c (4096 * τ.val)) ∈ t.badTags
      ∧ { t with badTags := s.badTags } = s)
  ∧ (∀ (d : Fin 16) (τ : Fin 0x6000000) (off : Fin 4096) (s : State), TablesRise s → s.dieRuns d = true → s.obj 0x6020 2 + 1 <
      2 ^ 32 → ∃ t, exec (.verifyingRead d (.hbm τ) false (.uncorrectable off)) s = .next t
      ∧ memKey d (4096 * τ.val + off.val) / 32 ∈ t.badBursts
      ∧ (hbmDecode (4096 * τ.val + off.val)).key ∈ (t.die d).rowBad
      ∧ t.obj 0x6020 2 = s.obj 0x6020 2 + 1
      ∧ t.flt.raised = s.flt.raised ++
        [⟨mkEvent 0x07 sevRecovered d 0xFF reasonEcc (hbmDecode (4096 * τ.val + off.val)).detail, s.gtNow⟩]
      ∧ (∀ k, k ≠ d.val → t.die k = s.die k)
      ∧ { t with badBursts := s.badBursts, dies := s.dies, dict := s.dict, flt := { t.flt with raised := s.flt.raised } } = s)
  ∧ (∀ (d : Fin 16) (τ : Fin 0x6000000) (off : Fin 4096) (s : State), TablesRise s → DieRises (s.die d) → s.dieRuns d = true →
      s.obj 0x6020 1 + 1 < 2 ^ 32 → ∃ t, exec (.verifyingRead d (.hbm τ) false (.corrected off)) s = .next t
      ∧ t.obj 0x6020 1 = s.obj 0x6020 1 + 1
      ∧ (mapGet [] (t.die d).rowErrs (hbmDecode (4096 * τ.val + off.val)).key).getLast? = some s.time
      ∧ (∀ k, k ≠ d.val → t.die k = s.die k)
      ∧ { t with dies := s.dies, dict := s.dict } = s)
  ∧ (∀ (d : Fin 16) (τ : TileRef) (raced : Bool) (e : Ecc) (s : State), s.dieRuns d = false → ∃ t, exec (.verifyingRead d τ
      raced e) s = .next t
      ∧ t = s)
  ∧ (∀ (d : Fin 16) (c : Fin 32) (n : Fin 2048) (s : State), TablesRise s → s.dieRuns d = true → s.coreOut d c = false →
      (s.core d c).scrubAt + s.scrubPace (4 * tickUs) ≤ s.time → s.nextValid (tileKey d (lsAddr c 0) + (s.core d c).scrub)
      (tileKey d (lsAddr c 0) + 2048) = some (tileKey d (lsAddr c 0) + n.val) → s.verify d (lsAddr c (4096 * n.val)) 0 = none →
      ∃ t, exec (.lsScrub d c false .clean) s = .next t
      ∧ t.core d c = { s.core d c with scrub := n.val + 1, scrubAt := s.time }
      ∧ (∀ k, k ≠ coreKey d c → mapGet { } t.cores k = mapGet { } s.cores k)
      ∧ { t with cores := s.cores } = s)
  ∧ (∀ (d : Fin 16) (c : Fin 32) (n : Fin 2048) (off : Fin 4096) (s : State), TablesRise s → s.dieRuns d = true → s.coreOut d c
      = false → s.badTags = [] → (s.core d c).scrubAt + s.scrubPace (4 * tickUs) ≤ s.time → s.nextValid (tileKey d (lsAddr c 0)
      + (s.core d c).scrub) (tileKey d (lsAddr c 0) + 2048) = some (tileKey d (lsAddr c 0) + n.val) → s.obj 0x6010 4 + 1 < 2 ^
      32 → (s.tile d (lsAddr c (4096 * n.val))).st = .valid → ∃ t, exec (.lsScrub d c false (.uncorrectable off)) s = .next t
      ∧ t.core d c = { s.core d c with scrub := n.val + 1, scrubAt := s.time }
      ∧ t.tile d (lsAddr c (4096 * n.val)) = { s.tile d (lsAddr c (4096 * n.val)) with st := .poison }
      ∧ t.obj 0x6010 4 = s.obj 0x6010 4 + 1
      ∧ t.flt.raised.map (fun x => (x.ev.site.toNat, x.ev.cause.toNat)) = s.flt.raised.map (fun x => (x.ev.site.toNat,
        x.ev.cause.toNat)) ++ [(0x06, reasonEcc)]
      ∧ (∀ k, k ≠ coreKey d c → mapGet { } t.cores k = mapGet { } s.cores k)
      ∧
        { t with cores := s.cores, tiles := s.tiles, badWords := s.badWords, badTags := s.badTags, races := s.races, dict := s.dict, flt := { t.flt with raised := s.flt.raised } }
        = s)
  ∧ (∀ (d : Fin 16) (c : Fin 32) (raced : Bool) (e : Ecc) (s : State), TablesRise s → s.dieRuns d = true → s.coreOut d c =
      false → (s.core d c).scrubAt + s.scrubPace (4 * tickUs) ≤ s.time → s.nextValid (tileKey d (lsAddr c 0)) (tileKey d
      (lsAddr c 0) + 2048) = none → s.nextValid (tileKey d (lsAddr c 0) + (s.core d c).scrub) (tileKey d (lsAddr c 0) + 2048) =
      none → ∃ t, exec (.lsScrub d c raced e) s = .next t
      ∧ t.core d c = { s.core d c with scrub := 0, scrubAt := s.time }
      ∧ (∀ k, k ≠ coreKey d c → mapGet { } t.cores k = mapGet { } s.cores k)
      ∧ { t with cores := s.cores, dict := s.dict } = s)
  ∧ (∀ (d : Fin 16) (c : Fin 32) (raced : Bool) (e : Ecc) (s : State), s.time < (s.core d c).scrubAt + s.scrubPace (4 * tickUs)
      → ∃ t, exec (.lsScrub d c raced e) s = .next t
      ∧ t = s)
  ∧ (∀ (d : Fin 16) (n : Fin 0x6000000) (s : State), TablesRise s → s.dieRuns d = true → (s.die d).scrubAt + s.scrubPace (4096
      * tickUs / 10) ≤ s.time → s.nextValid (tileKey d 0 + (s.die d).scrub) (tileKey d 0 + 0x6000000) = some (tileKey d 0 +
      n.val) → (s.hbmBusy d = false ∨ s.scrubDue d + 100 * tickUs ≤ s.time) → s.verify d (4096 * n.val) 0 = none → ∃ t, exec
      (.hbmScrub d false .clean) s = .next t
      ∧ t.die d = { s.die d with scrub := n.val + 1, scrubAt := s.time }
      ∧ (∀ k, k ≠ d.val → t.die k = s.die k)
      ∧ { t with dies := s.dies } = s)
  ∧ (∀ (d : Fin 16) (raced : Bool) (e : Ecc) (s : State), s.hbmBusy d = true → s.time < s.scrubDue d + 100 * tickUs → ∃ t, exec
      (.hbmScrub d raced e) s = .next t
      ∧ t = s)
  ∧ (∀ (d : Fin 16) (n : Fin 0x6000000) (off : Fin 4096) (s : State), TablesRise s → s.dieRuns d = true → s.badTags = [] →
      (s.die d).scrubAt + s.scrubPace (4096 * tickUs / 10) ≤ s.time → s.hbmBusy d = false → s.nextValid (tileKey d 0 + (s.die
      d).scrub) (tileKey d 0 + 0x6000000) = some (tileKey d 0 + n.val) → (s.tile d (4096 * n.val)).st = .valid → s.obj 0x6010 4
      + 1 < 2 ^ 32 → ∃ t, exec (.hbmScrub d false (.uncorrectable off)) s = .next t
      ∧ (t.die d).scrub = n.val + 1
      ∧ (t.die d).scrubAt = s.time
      ∧ t.tile d (4096 * n.val) = { s.tile d (4096 * n.val) with st := .poison }
      ∧ memKey d (4096 * n.val + off.val) / 32 ∈ t.badBursts
      ∧ t.obj 0x6010 4 = s.obj 0x6010 4 + 1
      ∧ t.flt.raised.map (fun x => (x.ev.site.toNat, x.ev.cause.toNat)) = s.flt.raised.map (fun x => (x.ev.site.toNat,
        x.ev.cause.toNat)) ++ [(0x07, reasonEcc)]
      ∧ (∀ k, k ≠ d.val → t.die k = s.die k)
      ∧
        { t with dies := s.dies, tiles := s.tiles, badBursts := s.badBursts, badTags := s.badTags, races := s.races, dict := s.dict, flt := { t.flt with raised := s.flt.raised } }
        = s)
  ∧ (∀ (d : Fin 16) (raced : Bool) (e : Ecc) (s : State), s.time < (s.die d).scrubAt + s.scrubPace (4096 * tickUs / 10) → ∃ t,
      exec (.hbmScrub d raced e) s = .next t
      ∧ t = s)

/-- R198, R199, R202, R203, R205, R206, R209: a whole-burst write with at most one parity failure is stored; a read of
severity 1 counts against its row; a second parity failure poisons the burst and a write then has no effect; an access to
a sleeping die asks it to wake. The next bank of a pseudo-channel is refreshed when the interval of the band has passed;
a temperature sample sets the band by Table 4. A row whose corrected errors of the last 24 hours reach the limit, or that
returned severity 2, is repaired while a spare of its bank is left; a lane with 16 failures in a second likewise, and
with no spare left a DEGRADED event is raised. -/
def Obligations.HbmAccessRefreshRepair : Prop :=
  (∀ (d : Fin 16) (ag : HbmAgent) (a : Fin 0x6000000000) (bs : List Byte) (sev : Fin 3) (p : List (Fin 74)) (s : State),
      Memory.wf s.mem = true → TablesRise s → s.dieRuns d = true → (s.die d).hbmWait = [] → bs.length = 32 → a.val % 32 = 0 →
      p.length ≤ 1 → ∃ t, exec (.hbmAccess ⟨d, ag⟩ a bs sev p) s = .next t
      ∧ t.bytes d a 32 = bs
      ∧ (∀ k, (k < memKey d a ∨ memKey d a + 32 ≤ k) → mapGet 0 t.mem k = mapGet 0 s.mem k)
      ∧ (t.tile d a).st = .untagged
      ∧ t.badIn d a 32 = false
      ∧ (t.die d).hbmWait = []
      ∧ (∀ k, k ≠ d.val → t.die k = s.die k)
      ∧ { unstored t s with dies := s.dies, dict := s.dict, flt := { t.flt with raised := s.flt.raised } } = s)
  ∧ (∀ (d : Fin 16) (ag : HbmAgent) (a : Fin 0x6000000000) (bs : List Byte) (p : List (Fin 74)) (s : State), Memory.wf s.mem =
      true → TablesRise s → s.dieRuns d = true → (s.die d).hbmWait = [] → 0 < bs.length → a.val % 32 + bs.length < 33 →
      bs.length < 32 → p.length ≤ 1 → ∃ t, exec (.hbmAccess ⟨d, ag⟩ a bs 0 p) s = .next t
      ∧ t.bytes d a bs.length = bs
      ∧ (∀ k, (k < memKey d a ∨ memKey d a + bs.length ≤ k) → mapGet 0 t.mem k = mapGet 0 s.mem k)
      ∧ (t.tile d a).st = .untagged
      ∧ (∀ k, k ≠ d.val → t.die k = s.die k)
      ∧ { unstored t s with dies := s.dies, dict := s.dict, flt := { t.flt with raised := s.flt.raised } } = s)
  ∧ (∀ (d : Fin 16) (ag : HbmAgent) (a : Fin 0x6000000000) (p : List (Fin 74)) (s : State), TablesRise s → s.dieRuns d = true →
      (s.die d).hbmWait = [] → s.time < s.scrubDue d + 100 * tickUs → p.length ≤ 1 → ∃ t, exec (.hbmAccess ⟨d, ag⟩ a [] 0 p) s
      = .next t
      ∧ t.mem = s.mem
      ∧ (∀ k, k ≠ d.val → t.die k = s.die k)
      ∧ { t.die d with refresh := (s.die d).refresh, hbmTurn := (s.die d).hbmTurn } = s.die d
      ∧ { t with dies := s.dies, dict := s.dict } = s)
  ∧ (∀ (d : Fin 16) (ag : HbmAgent) (a : Fin 0x6000000000) (s : State), DieRises (s.die d) → TablesRise s → s.dieRuns d = true
      → (s.die d).hbmWait = [] → s.time < s.scrubDue d + 100 * tickUs → s.obj 0x6020 1 + 1 < 2 ^ 32 → ∃ t, exec (.hbmAccess
      ⟨d, ag⟩ a [] 1 []) s = .next t
      ∧ (mapGet [] (t.die d).rowErrs (hbmDecode a).key).getLast? = some s.time
      ∧ (mapGet [] (t.die d).rowErrs (hbmDecode a).key).dropLast = (mapGet [] (s.die d).rowErrs (hbmDecode a).key).filter (fun
        τ => decide (s.time < τ + 86400 * tickS))
      ∧ t.obj 0x6020 1 = s.obj 0x6020 1 + 1
      ∧ (∀ k, k ≠ d.val → t.die k = s.die k)
      ∧ { t with dies := s.dies, dict := s.dict } = s)
  ∧ (∀ (d : Fin 16) (ag : HbmAgent) (a : Fin 0x6000000000) (s : State), TablesRise s → s.dieRuns d = true → (s.die d).hbmWait =
      [] → s.time < s.scrubDue d + 100 * tickUs → s.obj 0x6020 2 + 1 < 2 ^ 32 → ∃ t, exec (.hbmAccess ⟨d, ag⟩ a [] 2 []) s =
      .next t
      ∧ memKey d a / 32 ∈ t.badBursts
      ∧ (hbmDecode a).key ∈ (t.die d).rowBad
      ∧ t.obj 0x6020 2 = s.obj 0x6020 2 + 1
      ∧ t.flt.raised = s.flt.raised ++ [⟨mkEvent 0x07 sevRecovered d 0xFF reasonEcc (hbmDecode a).detail, s.gtNow⟩]
      ∧ (∀ k, k ≠ d.val → t.die k = s.die k)
      ∧ { t with dies := s.dies, dict := s.dict, badBursts := s.badBursts, flt := { t.flt with raised := s.flt.raised } } = s)
  ∧ (∀ (d : Fin 16) (ag : HbmAgent) (a : Fin 0x6000000000) (bs : List Byte) (sev : Fin 3) (p1 p2 : Fin 74) (s : State),
      TablesRise s → s.dieRuns d = true → (s.die d).hbmWait = [] → s.time < s.scrubDue d + 100 * tickUs → s.obj 0x6020 3 + 2 <
      2 ^ 32 → ∃ t, exec (.hbmAccess ⟨d, ag⟩ a bs sev [p1, p2]) s = .next t
      ∧ memKey d a / 32 ∈ t.badBursts
      ∧ t.obj 0x6020 3 = s.obj 0x6020 3 + 2
      ∧ t.flt.raised = s.flt.raised ++ [⟨mkEvent 0x07 sevRecovered d 0xFF reasonEcc (hbmDecode a).detail, s.gtNow⟩]
      ∧ t.mem = s.mem
      ∧ t.tiles = s.tiles
      ∧ (∀ k, k ≠ d.val → t.die k = s.die k))
  ∧ (∀ (d : Fin 16) (ag : HbmAgent) (a : Fin 0x6000000000) (bs : List Byte) (sev : Fin 3) (p : List (Fin 74)) (s : State),
      Rises s.dies → s.dieRuns d = false → (s.die d).everActive = true → (s.die d).pstate ≠ 5 → ∃ t, exec (.hbmAccess ⟨d, ag⟩ a
      bs sev p) s = .next t
      ∧ (t.die d).asked.isSome = true
      ∧ (t.die d).hbmWait = (s.die d).hbmWait ++ [⟨ag, a.val, bs, sev.val, p⟩]
      ∧ { t.die d with asked := (s.die d).asked, hbmWait := (s.die d).hbmWait } = s.die d
      ∧ (∀ k, k ≠ d.val → t.die k = s.die k)
      ∧ { t with dies := s.dies } = s)
  ∧ (∀ (d : Fin 16) (ag : HbmAgent) (a : Fin 0x6000000000) (bs : List Byte) (sev : Fin 3) (p : List (Fin 74)) (s : State),
      ((s.die d).everActive = false ∨ (s.die d).pstate = 5) → ∃ t, exec (.hbmAccess ⟨d, ag⟩ a bs sev p) s = .next t
      ∧ t = s)
  ∧ (∀ (d : Fin 16) (st : Fin 4) (ch : Fin 32) (pc : Fin 2) (s : State), Rises s.dies → DieRises (s.die d) → s.dieRuns d = true
      → 15625 ≤ (s.time - (mapGet (0, 0) (s.die d).refresh (st.val + 4 * ch.val + 128 * pc.val)).2) * s.band d st → ∃ t, exec
      (.hbmRefresh d st ch pc) s = .next t
      ∧ mapGet (0, 0) (t.die d).refresh (st.val + 4 * ch.val + 128 * pc.val) = (((mapGet (0, 0) (s.die d).refresh (st.val + 4 *
        ch.val + 128 * pc.val)).1 + 1) % 64, s.time)
      ∧ (∀ k, k ≠ st.val + 4 * ch.val + 128 * pc.val → mapGet (0, 0) (t.die d).refresh k = mapGet (0, 0) (s.die d).refresh k)
      ∧ { t.die d with refresh := (s.die d).refresh } = s.die d
      ∧ (∀ k, k ≠ d.val → t.die k = s.die k)
      ∧ { t with dies := s.dies } = s)
  ∧ (∀ (d : Fin 16) (st : Fin 4) (v : Int) (vs : List Int) (s : State), Rises s.dies → DieRises (s.die d) → Rises s.dict →
      s.dieRuns d = true → ∃ t, exec (.hbmSensorSample d st (v :: vs)) s = .next t
      ∧ mapGet 0 (t.die d).hotStack st.val = hottest (v :: vs)
      ∧ t.band d st = bandNext (if st.val ∈ (s.die d).resumed then 1 else s.band d st) (hottest (v :: vs))
      ∧ (t.die d).resumed = (s.die d).resumed.filter (· != st.val)
      ∧ (∀ n ∈ v :: vs, n ≤ hottest (v :: vs))
      ∧ (∀ k, k ≠ objKey 0x6021 (4 * d.val + st.val + 1) → mapGet 0 t.dict k = mapGet 0 s.dict k)
      ∧ { t.die d with hotStack := (s.die d).hotStack, resumed := (s.die d).resumed } = s.die d
      ∧ (∀ k, k ≠ d.val → t.die k = s.die k)
      ∧ { t with dies := s.dies, dict := s.dict } = s)
  ∧ (∀ (d : Fin 16) (r : RowRef) (s : State), TablesRise s → DieRises (s.die d) → s.dieRuns d = true → s.obj 0x6820 2 = 1 →
      ((s.die d).rowBad.contains (rowRefKey r) = true ∨ s.obj 0x6820 1 ≤ ((mapGet [] (s.die d).rowErrs (rowRefKey r)).filter
      (fun τ => decide (s.time < τ + 86400 * tickS))).length) → 0 < (s.die d).spareRows (rowRefKey r / 24576) → ∃ t, exec
      (.hbmRowRepair d r) s = .next t
      ∧ (t.die d).rows = (s.die d).rows ++ [rowRefKey r]
      ∧ (t.die d).rowBad.contains (rowRefKey r) = false
      ∧ mapGet [] (t.die d).rowErrs (rowRefKey r) = []
      ∧ t.flt.raised = s.flt.raised ++ [⟨mkEvent 0x07 sevNote d 0xFF 0 (rowRefKey r), s.gtNow⟩]
      ∧ t.mem = s.mem
      ∧ (∀ k, k ≠ d.val → t.die k = s.die k)
      ∧ { t with dies := s.dies, dict := s.dict, flt := { t.flt with raised := s.flt.raised } } = s)
  ∧ (∀ (d : Fin 16) (r : RowRef) (s : State), (s.die d).rowBad = [] → (mapGet [] (s.die d).rowErrs (rowRefKey r)).length <
      s.obj 0x6820 1 → ∃ t, exec (.hbmRowRepair d r) s = .next t
      ∧ t = s)
  ∧ (∀ (d : Fin 16) (l : LaneRef) (s : State), TablesRise s → DieRises (s.die d) → s.dieRuns d = true → (s.obj 0x6820 2 = 1 ∨
      (s.die d).spareFor (laneKey l.stack l.chan l.lane) = 0) → 16 ≤ ((mapGet [] (s.die d).laneErrs (laneKey l.stack l.chan
      l.lane)).filter (fun τ => decide (s.time < τ + tickS))).length → ∃ t, exec (.hbmLaneRepair d l) s = .next t
      ∧ (t.die d).lanes = (s.die d).lanes ++ (if 0 < (s.die d).spareFor (laneKey l.stack l.chan l.lane) then [laneKey l.stack
        l.chan l.lane] else [])
      ∧ mapGet [] (t.die d).laneErrs (laneKey l.stack l.chan l.lane) = []
      ∧ t.flt.raised = s.flt.raised ++
        [⟨mkEvent 0x07 (if 0 < (s.die d).spareFor (laneKey l.stack l.chan l.lane) then sevNote else sevDegraded) d 0xFF 0 (laneKey l.stack l.chan l.lane), s.gtNow⟩]
      ∧ (∀ k, k ≠ d.val → t.die k = s.die k)
      ∧ { t with dies := s.dies, dict := s.dict, flt := { t.flt with raised := s.flt.raised } } = s)

/-- R390, R391, R401, R473: a change made in service is written over the older copy of the die's record with the next
generation, by the ball's holder; a write that fails its check keeps the record, raises an event and is tried again after
10 s. -/
def Obligations.RepairRecordsWritten : Prop :=
  (∀ (n : Fin 25) (s : State), Rises s.flash.recs → s.sys.ball ≠ none → (mapGet { } s.flash.recs n.val).best ≠ some
      (s.recBody n.val false) → ∃ t, exec (.repairRecordUpdate n true) s = .next t
      ∧ mapGet { } t.flash.recs n.val = (mapGet { } s.flash.recs n.val).put (s.recBody n.val false)
      ∧ ((mapGet { } t.flash.recs n.val).a.body = s.recBody n.val false ∨ (mapGet { } t.flash.recs n.val).b.body = s.recBody
        n.val false)
      ∧ (mapGet { } t.flash.recs n.val).retryAt = none
      ∧ { t with flash := { t.flash with recs := s.flash.recs } } = s)
  ∧ (∀ (n : Fin 25) (s : State), Rises s.flash.recs → s.sys.ball ≠ none → (mapGet { } s.flash.recs n.val).best ≠ some
      (s.recBody n.val false) → ∃ t, exec (.repairRecordUpdate n false) s = .next t
      ∧ mapGet { } t.flash.recs n.val = { mapGet { } s.flash.recs n.val with retryAt := some (s.time + 10 * tickS) }
      ∧ t.flt.raised = s.flt.raised ++ [⟨mkEvent 0x15 sevAdvisory 24 n.val 1 0, s.gtNow⟩]
      ∧ { t with flash := { t.flash with recs := s.flash.recs }, flt := { t.flt with raised := s.flt.raised } } = s)
  ∧ (∀ (n : Fin 25) (τ : Nat) (s : State), Rises s.flash.recs → s.sys.ball ≠ none → (mapGet { } s.flash.recs n.val).retryAt =
      some τ → τ ≤ s.time → ∃ t, exec (.recordWriteRetry n true) s = .next t
      ∧ mapGet { } t.flash.recs n.val = (mapGet { } s.flash.recs n.val).put (s.recBody n.val false)
      ∧ { t with flash := { t.flash with recs := s.flash.recs } } = s)
  ∧ (∀ (n : Fin 25) (ok : Bool) (τ : Nat) (s : State), (mapGet { } s.flash.recs n.val).retryAt = some τ → s.time < τ → ∃ t,
      exec (.recordWriteRetry n ok) s = .next t
      ∧ t = s)

/-- R219, R220, R222, R225: on a port whose link is up a whistle of Table 2 leaves with GT as T_TX; a whistle received is
taken into the port, its delay from the four times, its fields from the frame; a LOCKED module whose upstream port stays
eligible follows that port; 256 exchanges on λS and 256 on λ0 are averaged and CAL is set. -/
def Obligations.WhistlesAndCalibration : Prop :=
  (∀ (p : Fin 128) (s : State), s.linkUp p = true → s.fenced = false → (s.portSt p ≠ 6 ∨ (s.port p).onL0 = false) → s.gtNow <
      2 ^ 64 → s.moduleId < 2 ^ 16 → s.epoch < 2 ^ 32 → ∃ t, exec (.whistleSend p) s = .next t
      ∧ t.out = s.out ++ [.frame p (s.whistleFrame p) (s.whistleL0 p) (frameWord (s.whistleL0 p) (s.whistleFrame p))]
      ∧ bits (s.whistleFrame p) 255 248 = 1 ∧ bits (s.whistleFrame p) 247 244 = s.gt.st.toNat ∧ bits (s.whistleFrame p) 231 224
        = s.gt.hops.toNat
      ∧ bits (s.whistleFrame p) 191 128 = s.gtNow ∧ bits (s.whistleFrame p) 207 192 = s.moduleId ∧ bits (s.whistleFrame p) 31 0
        = s.epoch
      ∧ bits (s.whistleFrame p) 127 64 = (s.gtPort p).ttx.toNat
      ∧ s.whistleL0 p = ((s.port p).onL0 || (!(s.gtPort p).cal && (s.gtPort p).nS == 256))
      ∧ { t with out := s.out } = s)
  ∧ (∀ (p : Fin 128) (s : State), (s.linkUp p = false ∨ s.fenced = true ∨ (s.portSt p = 6 ∧ (s.port p).onL0 = true)) → ∃ t,
      exec (.whistleSend p) s = .next t
      ∧ t = s)
  ∧ (∀ (p : Fin 128) (f : BitVec 256) (st : BitVec 64) (l0 : Bool) (s : State) (x : GtPort), Rises s.gt.ports → s.linkUp p =
      true → bits f 255 248 = 1 → bits f 31 0 = s.epoch → mapGet 0 s.flt.ump.suspects (bits f 207 192) = 0 → s.gt.referee =
      false → s.gt.st = 1 → s.gt.up = some p.val → s.gt.waiting = false → s.gt.notBefore ≤ s.time → (s.gtPort p).cal = true →
      bit f 242 = true → bits f 247 244 = 1 → bits f 231 224 < 63 → (s.gtPort p).hear f st s.time l0 = x → (((x.ttx.toNat :
      Int) + (if (s.port p).onL0 = true then x.delay0 else x.delayS)).toNat : Int) - s.gtNow ≤ 512 → ∃ t, exec (.whistleReceive
      p ⟨f, l0⟩ st) s = .next t
      ∧ t.gtPort p = x
      ∧ (t.gtPort p).seen = true
      ∧ (t.gtPort p).stamp = st.toNat
      ∧ (t.gtPort p).ttx.toNat = bits f 191 128
      ∧ t.gt.up = some p.val
      ∧ t.gt.referee = false
      ∧ t.gt.hops.toNat = bits f 231 224 + 1
      ∧ t.gt.ref.toNat = bits f 223 208
      ∧ t.gt.lastStamp = s.time
      ∧ t.gt.st = 1
      ∧ (t.gtFine % (2 ^ 64 * 1000000) = s.gtFine % (2 ^ 64 * 1000000) ∨ s.gt.hold ≠ none)
      ∧ t.gt.at_ = s.time
      ∧ -20 ≤ t.gt.ppm ∧ t.gt.ppm ≤ 20
      ∧ (∀ q, q ≠ p.val → t.gtPort q = s.gtPort q)
      ∧ { t with gt := s.gt, flt := { t.flt with raised := s.flt.raised } } = s)
  ∧ (∀ (p : Fin 128) (f : BitVec 256) (st : BitVec 64) (s : State), Rises s.gt.ports → s.linkUp p = true → bits f 255 248 = 1 →
      bits f 31 0 = s.epoch → mapGet 0 s.flt.ump.suspects (bits f 207 192) = 0 → s.gt.referee = false → s.gt.st ≠ 1 →
      s.gt.waiting = true → (s.gtPort p).cal = false → (s.gtPort p).nS < 256 → bits f 247 244 ≠ 1 → (bits f 127 64 ≠ 0 ∨ bits f
      63 32 ≠ 0) → ∃ t, exec (.whistleReceive p ⟨f, false⟩ st) s = .next t
      ∧ (t.gtPort p).nS = (s.gtPort p).nS + 1
      ∧ (t.gtPort p).delayS = (s.gtPort p).delayS + (((st.toNat : Int) - bits f 127 64) - bits f 63 32) / 2
      ∧ (t.gtPort p).offset = (bits f 191 128 : Int) + (((st.toNat : Int) - bits f 127 64) - bits f 63 32) / 2 - st.toNat
      ∧ (∀ q, q ≠ p.val → t.gtPort q = s.gtPort q)
      ∧ { t with gt := { t.gt with ports := s.gt.ports } } = s)
  ∧ (∀ (p : Fin 128) (f : BitVec 256) (st : BitVec 64) (s : State), Rises s.gt.ports → s.linkUp p = true → bits f 255 248 = 1 →
      bits f 31 0 = s.epoch → mapGet 0 s.flt.ump.suspects (bits f 207 192) = 0 → s.gt.referee = false → s.gt.st ≠ 1 →
      s.gt.waiting = true → (s.gtPort p).cal = false → (s.gtPort p).n0 < 256 → bits f 247 244 ≠ 1 → (bits f 127 64 ≠ 0 ∨ bits f
      63 32 ≠ 0) → ∃ t, exec (.whistleReceive p ⟨f, true⟩ st) s = .next t
      ∧ (t.gtPort p).n0 = (s.gtPort p).n0 + 1
      ∧ (t.gtPort p).delay0 = (s.gtPort p).delay0 + (((st.toNat : Int) - bits f 127 64) - bits f 63 32) / 2
      ∧ (∀ q, q ≠ p.val → t.gtPort q = s.gtPort q)
      ∧ { t with gt := { t.gt with ports := s.gt.ports } } = s)
  ∧ (∀ (p : Fin 128) (f : BitVec 256) (st : BitVec 64) (l0 : Bool) (s : State) (x : GtPort), s.linkUp p = true → bits f 255 248
      = 1 → bits f 31 0 = s.epoch → mapGet 0 s.flt.ump.suspects (bits f 207 192) = 0 → s.gt.referee = false → s.gt.st = 0 →
      s.gt.hold = none → s.gt.waiting = false → s.gt.notBefore ≤ s.time → s.gt.ports = [(p.val, s.gtPort p)] → (s.gtPort p).cal
      = true → bit f 242 = true → bits f 247 244 = 1 → bits f 231 224 < 63 → NoTargets s → (s.gtPort p).hear f st s.time l0 = x
      → ∃ t, exec (.whistleReceive p ⟨f, l0⟩ st) s = .next t
      ∧ t.gt.st = 1
      ∧ t.gt.up = some p.val
      ∧ t.gt.hops.toNat = bits f 231 224 + 1
      ∧ t.gt.ref.toNat = bits f 223 208
      ∧ t.gtNow = ((x.ttx.toNat : Int) + (if (s.port p).onL0 = true then x.delay0 else x.delayS)).toNat % 2 ^ 64
      ∧ { t with gt := s.gt } = s)
  ∧ (∀ (p : Fin 128) (s : State), Rises s.gt.ports → s.linkUp p = true → (s.gtPort p).cal = false → (s.gtPort p).nS = 256 →
      (s.gtPort p).n0 = 256 → ∃ t, exec (.linkCalibrationDone p) s = .next t
      ∧ t.gtPort p = { s.gtPort p with cal := true, delayS := (s.gtPort p).delayS / 256, delay0 := (s.gtPort p).delay0 / 256 }
      ∧ (∀ q, q ≠ p.val → t.gtPort q = s.gtPort q)
      ∧ { t with gt := { t.gt with ports := s.gt.ports } } = s)

/-- R217, R223, R224, R228 to R232: 10 µs without a usable stamp leave LOCKED for HOLDOVER with GT running on, without a
step; after 20 µs new whistles may count; a hold ends LOCKED at the held GT; a candidate that has heard no LOCKED whistle
for its time becomes referee; GT.SET steps GT forward at the referee and is refused elsewhere or backwards; a PPS edge
applies a pending setting or slews by at most 1 ppm; TIME_IN_10M drives the rate while within 10 ppm. -/
def Obligations.GameTimeLockAndLoss : Prop :=
  (∀ (s : State), Rises s.dict → s.gt.st = 1 → s.gt.referee = false → s.gt.lastStamp + 10 * tickUs ≤ s.time → NoTargets s →
      Unbound s → s.obj 0x5100 7 + 1 < 2 ^ 32 → ∃ t, exec (.gtLossOfLock) s = .next t
      ∧ t.gt.st = 2
      ∧ t.gt.up = none
      ∧ t.gt.waiting = true
      ∧ t.gt.since = s.time
      ∧ t.gt.base = s.gtNow
      ∧ (t.gtFine % (2 ^ 64 * 1000000) = s.gtFine % (2 ^ 64 * 1000000) ∨ s.gt.hold ≠ none)
      ∧ t.gt.slew = 0
      ∧ t.gt.at_ = s.time
      ∧ t.gt.ppm = s.gt.ppm
      ∧ t.obj 0x5100 7 = s.obj 0x5100 7 + 1
      ∧ (t.flt.raised.map (fun x => x.ev.site.toNat)) = s.flt.raised.map (fun x => x.ev.site.toNat) ++ [0x0F]
      ∧ { t with gt := s.gt, dict := s.dict, flt := { t.flt with raised := s.flt.raised } } = s)
  ∧ (∀ (d : Fin 16) (e : Fin 64) (w : BitVec 256) (s : State), TablesRise s → s.gt.st = 1 → s.gt.referee = false →
      s.gt.lastStamp + 10 * tickUs ≤ s.time → s.awaiting = [] → Unbound s → (s.die d).ko = [(e.val, w)] → koArmed w = true →
      koStrict w = true → ∃ t, exec (.gtLossOfLock) s = .next t
      ∧ t.gt.st = 2
      ∧ koArmed (t.ko d e) = false
      ∧ bits (t.ko d e) 195 192 = koLost
      ∧ bits (t.ko d e) 191 0 = bits w 191 0
      ∧ t.mem = s.mem
      ∧ t.cores = s.cores)
  ∧ (∀ (d : Fin 16) (c : Fin 32) (r : Run) (i n : Nat) (s : State), TablesRise s → s.gt.st = 1 → s.gt.referee = false →
      s.gt.lastStamp + 10 * tickUs ≤ s.time → NoTargets s → (∀ k : Fin 16, Quiet s k.val) → (s.core d c).q2.run = [r] → r.bound
      = some (i, n) → rsStrict (s.rs d i) = true → ∃ t, exec (.gtLossOfLock) s = .next t
      ∧ (t.core d c).q2.run = [{ r with bound := none, opened := true }]
      ∧ t.mem = s.mem)
  ∧ (∀ (s : State), (s.gt.st ≠ 1 ∨ s.gt.referee = true ∨ s.time < s.gt.lastStamp + 10 * tickUs) → ∃ t, exec (.gtLossOfLock) s =
      .next t
      ∧ t = s)
  ∧ (∀ (s : State), s.gt.st = 2 → s.gt.waiting = true → s.gt.since + 20 * tickUs ≤ s.time → ∃ t, exec (.holdoverWaitEnd) s =
      .next t
      ∧ t = { s with gt := { s.gt with waiting := false, notBefore := s.time } })
  ∧ (∀ (τ : Nat) (s : State), s.gt.hold = some τ → τ ≤ s.time → NoTargets s → ∃ t, exec (.gtHoldEnd) s = .next t
      ∧ t.gt.st = 1
      ∧ t.gt.hold = none
      ∧ t.gt.base = s.gt.base
      ∧ t.gt.frac = s.gt.frac
      ∧ (s.gt.frac < 1000000 → t.gtNow = s.gt.base % 2 ^ 64)
      ∧ { t with gt := { t.gt with st := s.gt.st, hold := s.gt.hold, at_ := s.gt.at_, lastStamp := s.gt.lastStamp } } = s)
  ∧ (∀ (τ : Nat) (d : Fin 16) (e : Fin 64) (w : BitVec 256) (s : State), TablesRise s → DieRises (s.die d) → s.gt.hold = some τ
      → τ ≤ s.time → s.awaiting = [] → (∀ k : Fin 16, k ≠ d → (s.die k.val).ko = []) → (s.die d).ko = [(e.val, w)] → (s.die
      d).gtResync = false → koArmed w = true → koAction w = 3 → koPeriodic w = false → koLateSkip w = false → s.gt.frac <
      1000000 → koTarget w + 128 ≤ s.gt.base → s.gt.base < 2 ^ 64 → ∃ t, exec (.gtHoldEnd) s = .next t
      ∧ t.gt.st = 1
      ∧ koArmed (t.ko d e) = false
      ∧ bits (t.ko d e) 195 192 = koFiredLate
      ∧ t.arrival d (bits w 233 222) = s.arrival d (bits w 233 222) + BitVec.ofNat 64 (bits w 191 128)
      ∧ (∀ k, k ≠ d.val → t.die k = s.die k))
  ∧ (∀ (s : State), (s.gt.st = 2 ∨ (s.gt.st = 0 ∧ (s.obj 0xB000 1 = 11 ∨ s.obj 0xB000 1 = 12))) → s.gt.referee = false →
      NoTargets s → s.obj 0x5101 1 < 255 → (if s.gt.st = 0 then max s.gt.lastLocked s.gt.since else s.gt.lastLocked) + (s.obj
      0x5900 1 + 20 * s.obj 0x5101 1) * tickUs ≤ s.time → ∃ t, exec (.refereeTakeover) s = .next t
      ∧ t.gt.st = 1
      ∧ t.gt.referee = true
      ∧ t.gt.rank.toNat = s.obj 0x5101 1
      ∧ t.gt.ref = BitVec.ofNat 16 s.moduleId
      ∧ t.gt.hops = 0
      ∧ t.gt.base = s.gtNow
      ∧ t.gt.at_ = s.time
      ∧ t.gt.up = none
      ∧ t.gt.hold = none
      ∧ t.gt.ppm = 0
      ∧ { t with gt := s.gt } = s)
  ∧ (∀ (s : State), ∃ t, exec (.timeFrame) s = .next t
      ∧ t = s)
  ∧ (∀ (d : Fin 16) (s : State), Rises s.dies → s.dieRuns d = true → (s.die d).gtResync = true → (s.die d).ko = [] → ∃ t, exec
      (.dieGtResync d) s = .next t
      ∧ t.die d = { s.die d with gtResync := false }
      ∧ t.gtState d = s.gt.st
      ∧ (∀ k, k ≠ d.val → t.die k = s.die k)
      ∧ { t with dies := s.dies } = s)
  ∧ (∀ (d : Fin 16) (s : State), (s.dieRuns d = false ∨ (s.die d).gtResync = false) → ∃ t, exec (.dieGtResync d) s = .next t
      ∧ t = s)
  ∧ (∀ (n : Nat) (v : BitVec 64) (s : State), s.gt.referee = true → s.gt.ppsSet = some v → s.gtNow ≤ v.toNat * 256 + s.gtNow %
      256 → NoTargets s → ∃ t, exec (.ppsEdge n) s = .next t
      ∧ t.gt.ppsSet = none
      ∧ t.gt.base = (v.toNat * 256 + s.gtNow % 256) % 2 ^ 64
      ∧ t.gt.at_ = s.time
      ∧ t.gt.hold = none
      ∧ t.gt.st = 1
      ∧ { t with gt := s.gt } = s)
  ∧ (∀ (n : Nat) (s : State), s.gt.referee = true → s.gt.ppsSet = none → s.obj 0x5101 2 = 1 → 1000 ≤ n → n ≤ 500000000 →
      ((nearestSecond s.gtNow : Int) - s.gtNow).natAbs ≤ 256000 → ∃ t, exec (.ppsEdge n) s = .next t
      ∧ t.gt.base = s.gtNow
      ∧ t.gt.at_ = s.time
      ∧ t.gt.ppsBad = 0
      ∧ -1 ≤ t.gt.slew ∧ t.gt.slew ≤ 1
      ∧ (s.gt.st ≠ 0 → s.gt.hold = none → t.gtFine % (2 ^ 64 * 1000000) = s.gtFine % (2 ^ 64 * 1000000))
      ∧
        { t with gt := { t.gt with base := s.gt.base, at_ := s.gt.at_, frac := s.gt.frac, ppsBad := s.gt.ppsBad, slew := s.gt.slew } }
        = s)
  ∧ (∀ (n : Nat) (s : State), s.gt.referee = true → s.gt.ppsSet = none → s.obj 0x5101 2 = 1 → 1000 ≤ n → n ≤ 500000000 → 256000
      < ((nearestSecond s.gtNow : Int) - s.gtNow).natAbs → s.gt.ppsBad < 2 → ∃ t, exec (.ppsEdge n) s = .next t
      ∧ t = { s with gt := { s.gt with ppsBad := s.gt.ppsBad + 1 } })
  ∧ (∀ (n : Nat) (s : State), s.gt.referee = true → s.gt.st ≠ 0 → s.gt.ppsSet = none → s.obj 0x5101 2 = 1 → 1000 ≤ n → n ≤
      500000000 → 256000 < (nearestSecond s.gtNow : Int) - s.gtNow → s.gt.ppsBad = 2 → NoTargets s → ∃ t, exec (.ppsEdge n) s =
      .next t
      ∧ t.gt.base = nearestSecond s.gtNow % 2 ^ 64
      ∧ t.gt.at_ = s.time
      ∧ t.gt.ppsBad = 0
      ∧ t.gt.slew = 0
      ∧ (t.flt.raised.map (fun x => x.ev.site.toNat)) = s.flt.raised.map (fun x => x.ev.site.toNat) ++ [0x0F]
      ∧ { t with gt := s.gt, flt := { t.flt with raised := s.flt.raised } } = s)
  ∧ (∀ (n : Nat) (s : State), s.gt.referee = true → s.gt.st ≠ 0 → s.gt.ppsSet = none → s.obj 0x5101 2 = 1 → 1000 ≤ n → n ≤
      500000000 → (nearestSecond s.gtNow : Int) - s.gtNow < -256000 → s.gt.ppsBad = 2 → NoTargets s → Unbound s → ∃ t, exec
      (.ppsEdge n) s = .next t
      ∧ t.gt.hold = some (s.time + (s.gtNow - nearestSecond s.gtNow))
      ∧ t.gt.st = 2
      ∧ t.gt.base = s.gtNow
      ∧ t.gt.ppsBad = 0
      ∧ { t with gt := s.gt, flt := { t.flt with raised := s.flt.raised } } = s)
  ∧ (∀ (n : Nat) (s : State), (s.gt.referee = false ∨ (s.gt.ppsSet = none ∧ (s.obj 0x5101 2 ≠ 1 ∨ n < 1000 ∨ 500000000 < n))) →
      ∃ t, exec (.ppsEdge n) s = .next t
      ∧ t = s)
  ∧ (∀ (v : Int) (s : State), s.gt.referee = true → s.obj 0x5101 2 = 1 → -10 ≤ v → v ≤ 10 → ∃ t, exec (.tenMhzMonitor true v) s
      = .next t
      ∧ t = { s with gt := { s.gt with base := s.gtNow, frac := t.gt.frac, at_ := s.time, ppm := v, tenMhz := true } }
      ∧ (s.gt.st ≠ 0 → s.gt.hold = none → t.gtFine % (2 ^ 64 * 1000000) = s.gtFine % (2 ^ 64 * 1000000)))
  ∧ (∀ (b : Bool) (v : Int) (s : State), s.gt.referee = true → s.obj 0x5101 2 = 1 → (b = false ∨ 10 < v ∨ v < -10) → ∃ t, exec
      (.tenMhzMonitor b v) s = .next t
      ∧ t.gt = { s.gt with base := s.gtNow, frac := t.gt.frac, at_ := s.time, ppm := 0, tenMhz := false }
      ∧ (s.gt.st ≠ 0 → s.gt.hold = none → t.gtFine % (2 ^ 64 * 1000000) = s.gtFine % (2 ^ 64 * 1000000))
      ∧ (t.flt.raised.map (fun x => x.ev.site.toNat)) = s.flt.raised.map (fun x => x.ev.site.toNat) ++ [0x0F]
      ∧ { t with gt := s.gt, flt := { t.flt with raised := s.flt.raised } } = s)
  ∧ (∀ (s : State), s.gt.referee = true → s.obj 0x5101 2 = 1 → ∃ t, exec (.timeIn10mReturn) s = .next t
      ∧ t =
        { s with gt := { s.gt with base := s.gtNow, frac := t.gt.frac, at_ := s.time, ppm := tenMhzBack s.time, tenMhz := true } }
      ∧ (s.gt.st ≠ 0 → s.gt.hold = none → t.gtFine % (2 ^ 64 * 1000000) = s.gtFine % (2 ^ 64 * 1000000))
      ∧ -10 ≤ tenMhzBack s.time ∧ tenMhzBack s.time ≤ 10)
  ∧ (∀ (s : State), (s.gt.referee = false ∨ s.obj 0x5101 2 ≠ 1) → ∃ t, exec (.timeIn10mReturn) s = .next t
      ∧ t = s)
  ∧ (∀ (b : Bool) (v : Int) (s : State), (s.gt.referee = false ∨ s.obj 0x5101 2 ≠ 1) → ∃ t, exec (.tenMhzMonitor b v) s = .next
      t
      ∧ t = s)
  ∧ (∀ (v : BitVec 64) (s : State), Writable s → s.gt.referee = true → s.gtNow ≤ v.toNat * 256 + s.gtNow % 256 → v.toNat < 2 ^
      56 → NoTargets s → ∃ t, exec (.gtSet v) s = .next t
      ∧ t.gt =
        { s.gt with base := v.toNat * 256 + s.gtNow % 256, frac := 0, at_ := s.time, hold := none, st := 1, ports := t.gt.ports }
      ∧ t.gtNow = v.toNat * 256 + s.gtNow % 256
      ∧ t.sys.lastStatus = rpOk
      ∧ { t with gt := s.gt, sys := { t.sys with lastStatus := s.sys.lastStatus } } = s)
  ∧ (∀ (v : BitVec 64) (s : State), Writable s → (s.gt.referee = false ∨ v.toNat * 256 + s.gtNow % 256 < s.gtNow ∨ 2 ^ 56 ≤
      v.toNat) → ∃ t, exec (.gtSet v) s = .next t
      ∧ t.gt = s.gt
      ∧ (t.sys.lastStatus = (if s.gt.referee = false then rpState else rpRange))
      ∧ { t with flt := { t.flt with raised := s.flt.raised }, sys := { t.sys with lastStatus := s.sys.lastStatus } } = s)
  ∧ (∀ (v : BitVec 64) (s : State), Writable s → s.gt.referee = true → v.toNat < 2 ^ 56 → s.gtNow ≤ v.toNat * 256 + s.gtNow %
      256 → ∃ t, exec (.gtSetAtPps v) s = .next t
      ∧ t = { s with gt := { s.gt with ppsSet := some v }, sys := { s.sys with lastStatus := rpOk } })
  ∧ (∀ (v : BitVec 64) (s : State), Writable s → (s.gt.referee = false ∨ v.toNat * 256 + s.gtNow % 256 < s.gtNow ∨ 2 ^ 56 ≤
      v.toNat) → ∃ t, exec (.gtSetAtPps v) s = .next t
      ∧ t.gt = s.gt
      ∧ (t.sys.lastStatus = (if s.gt.referee = false then rpState else rpRange))
      ∧ { t with flt := { t.flt with raised := s.flt.raised }, sys := { t.sys with lastStatus := s.sys.lastStatus } } = s)

/-- R233 to R238: a top word with ARMED arms an entry with FIRES 0 and STATUS ARMED, or refuses it (an action of 4 or more,
a period under 100); one whose target has passed fires late at once; ARMED = 0 disarms; a target reached fires its action
once, in order, one-shot entries clear ARMED and count the firing. A round schedule with a legal top word comes into
force, VALID = 0 ends it, and the unit clears VALID after the last period. -/
def Obligations.KickoffsAndRounds : Prop :=
  (∀ (d : Fin 16) (e : Fin 64) (top : BitVec 64) (w : BitVec 256) (s : State), TablesRise s → DieRises (s.die d) → koArmed
      (s.ko d e) = false → w = putBits (putBits (s.ko d e) 255 196 (bits top 63 4)) 221 196 0 → bit top 63 = true → koAction w
      ≤ 3 → (¬ (koPeriodic w = true ∧ koPeriod w < 100)) → (koAction w ≤ 2 → s.coreOut d (koCore w) = false) → (koStrict w =
      true → s.gtState d ≠ 2) → (s.gtState d = 0 ∨ s.gt.hold ≠ none ∨ (s.localGt d).toNat ≤ koTarget w) → ∃ t, exec
      (.kickoffArm d e top) s = .next t
      ∧ t.ko d e = putBits (koStatus w koStArmed) 15 0 0
      ∧ koArmed (t.ko d e) = true
      ∧ (∀ j, j ≠ e.val → t.ko d j = s.ko d j)
      ∧ { t.die d with ko := (s.die d).ko } = s.die d
      ∧ (∀ k, k ≠ d.val → t.die k = s.die k)
      ∧ { t with dies := s.dies } = s)
  ∧ (∀ (d : Fin 16) (e : Fin 64) (top : BitVec 64) (w : BitVec 256) (s : State), TablesRise s → DieRises (s.die d) → koArmed
      (s.ko d e) = false → w = putBits (putBits (s.ko d e) 255 196 (bits top 63 4)) 221 196 0 → bit top 63 = true → (4 ≤
      koAction w ∨ (koPeriodic w = true ∧ koPeriod w < 100) ∨ (koAction w ≤ 2 ∧ s.coreOut d (koCore w) = true)) → ∃ t, exec
      (.kickoffArm d e top) s = .next t
      ∧ koArmed (t.ko d e) = false
      ∧ bits (t.ko d e) 195 192 = koRefused
      ∧ (∀ j, j ≠ e.val → t.ko d j = s.ko d j)
      ∧ { t.die d with ko := (s.die d).ko } = s.die d
      ∧ (∀ k, k ≠ d.val → t.die k = s.die k)
      ∧ { t with dies := s.dies } = s)
  ∧ (∀ (d : Fin 16) (e : Fin 64) (top : BitVec 64) (w : BitVec 256) (s : State), TablesRise s → DieRises (s.die d) → koArmed
      (s.ko d e) = false → w = putBits (putBits (s.ko d e) 255 196 (bits top 63 4)) 221 196 0 → bit top 63 = true → koAction w
      ≤ 3 → (¬ (koPeriodic w = true ∧ koPeriod w < 100)) → (koAction w ≤ 2 → s.coreOut d (koCore w) = false) → koStrict w =
      true → s.gtState d = 2 → ∃ t, exec (.kickoffArm d e top) s = .next t
      ∧ koArmed (t.ko d e) = false
      ∧ bits (t.ko d e) 195 192 = koLost
      ∧ (∀ j, j ≠ e.val → t.ko d j = s.ko d j)
      ∧ { t.die d with ko := (s.die d).ko } = s.die d
      ∧ (∀ k, k ≠ d.val → t.die k = s.die k)
      ∧ { t with dies := s.dies } = s)
  ∧ (∀ (d : Fin 16) (e : Fin 64) (top : BitVec 64) (w : BitVec 256) (s : State), TablesRise s → DieRises (s.die d) → koArmed
      (s.ko d e) = false → w = putBits (putBits (s.ko d e) 255 196 (bits top 63 4)) 221 196 0 → bit top 63 = true → koAction w
      ≤ 3 → (¬ (koPeriodic w = true ∧ koPeriod w < 100)) → (koAction w ≤ 2 → s.coreOut d (koCore w) = false) → koPeriodic w =
      false → koLateSkip w = true → s.gtState d = 1 → s.gt.hold = none → koTarget w < (s.localGt d).toNat → s.obj 0x5100 8 + 1
      < 2 ^ 32 → ∃ t, exec (.kickoffArm d e top) s = .next t
      ∧ koArmed (t.ko d e) = false
      ∧ bits (t.ko d e) 195 192 = koSkipped
      ∧ bits (t.ko d e) 15 0 = 0
      ∧ t.obj 0x5100 8 = s.obj 0x5100 8 + 1
      ∧ (∀ j, j ≠ e.val → t.ko d j = s.ko d j)
      ∧ { t.die d with ko := (s.die d).ko } = s.die d
      ∧ (∀ k, k ≠ d.val → t.die k = s.die k)
      ∧ { t with dies := s.dies, dict := s.dict } = s)
  ∧ (∀ (d : Fin 16) (e : Fin 64) (top : BitVec 64) (s : State), koArmed (s.ko d e) = true → bit top 63 = true → ∃ t, exec
      (.kickoffArm d e top) s = .next t
      ∧ (t.flt.raised.map (fun x => x.ev.site.toNat)) = s.flt.raised.map (fun x => x.ev.site.toNat) ++ [0x17]
      ∧ { t with flt := { t.flt with raised := s.flt.raised } } = s)
  ∧ (∀ (d : Fin 16) (e : Fin 64) (top : BitVec 64) (w : BitVec 256) (s : State), TablesRise s → DieRises (s.die d) → koArmed
      (s.ko d e) = false → w = putBits (putBits (s.ko d e) 255 196 (bits top 63 4)) 221 196 0 → bit top 63 = true → koAction w
      = 3 → koPeriodic w = false → koLateSkip w = false → s.gtState d = 1 → s.gt.hold = none → koTarget w < (s.localGt d).toNat
      → s.obj 0x5100 8 + 1 < 2 ^ 32 → ∃ t, exec (.kickoffArm d e top) s = .next t
      ∧ koArmed (t.ko d e) = false
      ∧ bits (t.ko d e) 195 192 = koFiredLate
      ∧ bits (t.ko d e) 15 0 = 1
      ∧ t.arrival d (bits w 233 222) = s.arrival d (bits w 233 222) + BitVec.ofNat 64 (bits w 191 128)
      ∧ t.obj 0x5100 8 = s.obj 0x5100 8 + 1
      ∧ (∀ j, j ≠ e.val → t.ko d j = s.ko d j)
      ∧ (∀ k, k ≠ d.val → t.die k = s.die k)
      ∧ KeepsCores s t
      ∧ { t with dies := s.dies, dict := s.dict, cores := s.cores } = s)
  ∧ (∀ (d : Fin 16) (e : Fin 64) (top : BitVec 64) (s : State), TablesRise s → DieRises (s.die d) → bit top 63 = false →
      (koArmed (s.ko d e) = false ∨ s.gtState d = 0 ∨ s.gt.hold ≠ none ∨ (s.localGt d).toNat < koTarget (s.ko d e)) → ∃ t, exec
      (.kickoffDisarm d e top) s = .next t
      ∧ koArmed (t.ko d e) = false
      ∧ bits (t.ko d e) 195 192 = koIdle
      ∧ bits (t.ko d e) 191 0 = bits (s.ko d e) 191 0
      ∧ (∀ j, j ≠ e.val → t.ko d j = s.ko d j)
      ∧ { t.die d with ko := (s.die d).ko } = s.die d
      ∧ (∀ k, k ≠ d.val → t.die k = s.die k)
      ∧ { t with dies := s.dies } = s)
  ∧ (∀ (d : Fin 16) (e : Fin 64) (s : State), TablesRise s → DieRises (s.die d) → s.gtRuns d = true → (s.koDue d (s.localGt
      d).toNat).head? = some e.val → koAction (s.ko d e) = 3 → koPeriodic (s.ko d e) = false → bits (s.ko d e) 15 0 < 0xFFFF →
      ∃ t, exec (.kickoffFire d e) s = .next t
      ∧ t.arrival d (bits (s.ko d e) 233 222) = s.arrival d (bits (s.ko d e) 233 222) + BitVec.ofNat 64 (bits (s.ko d e) 191
        128)
      ∧ (∀ k, k ≠ bits (s.ko d e) 233 222 → t.arrival d k = s.arrival d k)
      ∧ koArmed (t.ko d e) = false
      ∧ bits (t.ko d e) 195 192 = koFired
      ∧ bits (t.ko d e) 15 0 = bits (s.ko d e) 15 0 + 1
      ∧ { t.die d with ko := (s.die d).ko, arrival := (s.die d).arrival } = s.die d
      ∧ (∀ k, k ≠ d.val → t.die k = s.die k)
      ∧ (∀ j, j ≠ e.val → t.ko d j = s.ko d j)
      ∧ KeepsCores s t
      ∧ { t with dies := s.dies, cores := s.cores } = s)
  ∧ (∀ (d : Fin 16) (e : Fin 64) (c : Fin 32) (s : State), TablesRise s → DieRises (s.die d) → s.gtRuns d = true → (s.koDue d
      (s.localGt d).toNat).head? = some e.val → koPeriodic (s.ko d e) = false → koAction (s.ko d e) = 0 → koCore (s.ko d e) =
      c.val → s.coreOut d c = false → s.substituting d c = false → ∃ t, exec (.kickoffFire d e) s = .next t
      ∧ (t.core d c).counter (bits (s.ko d e) 242 241) (bits (s.ko d e) 240 238) = (s.core d c).counter (bits (s.ko d e) 242
        241) (bits (s.ko d e) 240 238) + (BitVec.ofNat 64 (bits (s.ko d e) 191 128)).setWidth 32
      ∧
        { t.core d c with cnt := (s.core d c).cnt, sm := (s.core d c).sm, tc := { (t.core d c).tc with irqPend := (s.core d c).tc.irqPend } }
        = s.core d c
      ∧ koArmed (t.ko d e) = false
      ∧ bits (t.ko d e) 195 192 = koFired
      ∧ (∀ j, j ≠ e.val → t.ko d j = s.ko d j)
      ∧ { t.die d with ko := (s.die d).ko } = s.die d
      ∧ (∀ k, k ≠ d.val → t.die k = s.die k)
      ∧ (∀ k, k ≠ coreKey d c → mapGet { } t.cores k = mapGet { } s.cores k)
      ∧ { t with dies := s.dies, cores := s.cores } = s)
  ∧ (∀ (d : Fin 16) (e : Fin 64) (c : Fin 32) (s : State), TablesRise s → DieRises (s.die d) → s.gtRuns d = true → (s.koDue d
      (s.localGt d).toNat).head? = some e.val → koPeriodic (s.ko d e) = false → koAction (s.ko d e) = 1 → koCore (s.ko d e) =
      c.val → s.coreOut d c = false → s.substituting d c = false → ((s.core d c).tileQueue (bits (s.ko d e) 237
      234)).slots.length < 64 → ∃ t, exec (.kickoffFire d e) s = .next t
      ∧ ((t.core d c).tileQueue (bits (s.ko d e) 237 234)).slots = ((s.core d c).tileQueue (bits (s.ko d e) 237 234)).slots ++
        [{ eng := 4, num := 0, handle := some (putBits (BitVec.ofNat 64 (bits (s.ko d e) 191 128)) 30 11 0) }]
      ∧ { t.core d c with tq := (s.core d c).tq, sm := (s.core d c).sm } = s.core d c
      ∧ koArmed (t.ko d e) = false
      ∧ bits (t.ko d e) 195 192 = koFired
      ∧ (∀ j, j ≠ e.val → t.ko d j = s.ko d j)
      ∧ { t.die d with ko := (s.die d).ko } = s.die d
      ∧ (∀ k, k ≠ d.val → t.die k = s.die k)
      ∧ (∀ k, k ≠ coreKey d c → mapGet { } t.cores k = mapGet { } s.cores k)
      ∧ { t with dies := s.dies, cores := s.cores } = s)
  ∧ (∀ (d : Fin 16) (e : Fin 64) (c : Fin 32) (s : State), TablesRise s → DieRises (s.die d) → s.gtRuns d = true → (s.koDue d
      (s.localGt d).toNat).head? = some e.val → koPeriodic (s.ko d e) = false → koAction (s.ko d e) = 2 → koCore (s.ko d e) =
      c.val → s.coreOut d c = false → s.substituting d c = false → ∃ t, exec (.kickoffFire d e) s = .next t
      ∧ bit (t.core d c).tc.irqPend 8 = true
      ∧ { t.core d c with tc := { (t.core d c).tc with irqPend := (s.core d c).tc.irqPend }, sm := (s.core d c).sm } = s.core d
        c
      ∧ koArmed (t.ko d e) = false
      ∧ bits (t.ko d e) 195 192 = koFired
      ∧ (∀ j, j ≠ e.val → t.ko d j = s.ko d j)
      ∧ { t.die d with ko := (s.die d).ko } = s.die d
      ∧ (∀ k, k ≠ d.val → t.die k = s.die k)
      ∧ (∀ k, k ≠ coreKey d c → mapGet { } t.cores k = mapGet { } s.cores k)
      ∧ { t with dies := s.dies, cores := s.cores } = s)
  ∧ (∀ (d : Fin 16) (e : Fin 64) (s : State), TablesRise s → DieRises (s.die d) → s.gtRuns d = true → (s.koDue d (s.localGt
      d).toNat).head? = some e.val → koPeriodic (s.ko d e) = true → koCount (s.ko d e) = 0 → koAction (s.ko d e) = 3 → 100 ≤
      koPeriod (s.ko d e) → (s.localGt d).toNat + 256 * koPeriod (s.ko d e) < 2 ^ 64 → ∃ t, exec (.kickoffFire d e) s = .next t
      ∧ koArmed (t.ko d e) = true
      ∧ bits (t.ko d e) 195 192 = koFired
      ∧ (s.localGt d).toNat < koTarget (t.ko d e)
      ∧ (koTarget (t.ko d e) - koTarget (s.ko d e)) % (256 * koPeriod (s.ko d e)) = 0
      ∧ koTarget (t.ko d e) ≤ (s.localGt d).toNat + 256 * koPeriod (s.ko d e)
      ∧ t.arrival d (bits (s.ko d e) 233 222) = s.arrival d (bits (s.ko d e) 233 222) + BitVec.ofNat 64 (bits (s.ko d e) 191
        128)
      ∧ (∀ j, j ≠ e.val → t.ko d j = s.ko d j)
      ∧ KeepsCores s t
      ∧ (∀ k, k ≠ d.val → t.die k = s.die k))
  ∧ (∀ (d : Fin 16) (e : Fin 64) (s : State), ((s.localGt d).toNat < koTarget (s.ko d e) ∨ koArmed (s.ko d e) = false ∨
      s.gtRuns d = false) → ∃ t, exec (.kickoffFire d e) s = .next t
      ∧ t = s)
  ∧ (∀ (d : Fin 16) (i : Fin 16) (top : BitVec 64) (w : BitVec 256) (s : State), Rises s.dies → DieRises (s.die d) → w =
      putBits (putBits (s.rs d i) 255 192 top.toNat) 253 240 0 → bit top 63 = true → rsValid (s.rs d i) = false → 1 ≤ rsSlots w
      → 200 ≤ rsSlotNs w → rsGuard w + 100 ≤ rsSlotNs w → (∀ j : Fin 16, j ≠ i → rsValid (s.rs d j.val) = true → rsMask (s.rs d
      j.val) &&& rsMask w = 0) → ∃ t, exec (.roundScheduleValidate d i top) s = .next t
      ∧ t.rs d i = w
      ∧ rsValid (t.rs d i) = true
      ∧ (∀ j, j ≠ i.val → t.rs d j = s.rs d j)
      ∧ { t.die d with rs := (s.die d).rs } = s.die d
      ∧ (∀ k, k ≠ d.val → t.die k = s.die k)
      ∧ { t with dies := s.dies } = s)
  ∧ (∀ (d : Fin 16) (i : Fin 16) (top : BitVec 64) (s : State), bit top 63 = true → (rsSlotNs (putBits (putBits (s.rs d i) 255
      192 top.toNat) 253 240 0) < 200 ∨ rsValid (s.rs d i) = true ∨ rsSlots (putBits (putBits (s.rs d i) 255 192 top.toNat) 253
      240 0) = 0 ∨ rsSlotNs (putBits (putBits (s.rs d i) 255 192 top.toNat) 253 240 0) < rsGuard (s.rs d i) + 100 ∨
      ((List.range 16).any (fun j => j != i.val && rsValid (s.rs d j) && (rsMask (s.rs d j) &&& rsMask (s.rs d i)) != 0)) =
      true) → ∃ t, exec (.roundScheduleValidate d i top) s = .next t
      ∧ (t.flt.raised.map (fun x => x.ev.site.toNat)) = s.flt.raised.map (fun x => x.ev.site.toNat) ++ [0x17]
      ∧ { t with flt := { t.flt with raised := s.flt.raised } } = s)
  ∧ (∀ (d : Fin 16) (i : Fin 16) (top : BitVec 64) (s : State), Rises s.dies → DieRises (s.die d) → bit top 63 = false → ∃ t,
      exec (.roundScheduleInvalidate d i top) s = .next t
      ∧ t.rs d i = putBits (putBits (s.rs d i) 255 192 top.toNat) 253 240 0
      ∧ rsValid (t.rs d i) = false
      ∧ (∀ j, j ≠ i.val → t.rs d j = s.rs d j)
      ∧ { t.die d with rs := (s.die d).rs } = s.die d
      ∧ (∀ k, k ≠ d.val → t.die k = s.die k)
      ∧ { t with dies := s.dies } = s)
  ∧ (∀ (d : Fin 16) (i : Fin 16) (s : State), Rises s.dies → DieRises (s.die d) → rsValid (s.rs d i) = true → rsPeriods (s.rs d
      i) ≠ 0 → s.gtRuns d = true → rsStart (s.rs d i) + rsPeriods (s.rs d i) * rsSlots (s.rs d i) * (256 * rsSlotNs (s.rs d i))
      ≤ (s.localGt d).toNat → ∃ t, exec (.roundScheduleExpire d i) s = .next t
      ∧ t.rs d i = putBit (s.rs d i) 255 false
      ∧ rsValid (t.rs d i) = false
      ∧ (∀ j, j ≠ i.val → t.rs d j = s.rs d j)
      ∧ (∀ k, k ≠ d.val → t.die k = s.die k)
      ∧ { t with dies := s.dies } = s)

/-- R252 to R255, R264 to R267: a comb whose start holds leave locks to the feed selected and gives the leave back; a
standby that fails its check is retired; a die whose feed is lost selects the other; fades are filtered over 8 samples
and raise the advisory, begin the changeover at -3 dB, or without a standby leave the ports to λS at -4.5 dB; a
changeover pauses a port after sending its link-pause notice, resumes it in its old state, and with the last port makes
the other comb active; a standby test asks for leave and retires a standby that fails. -/
def Obligations.CombsAndFeeds : Prop :=
  (∀ (l : Fin 8) (pilot : Bool) (s : State), Rises s.lights → Rises s.dict → s.pwr.has (.combStart l) = true → ((s.light
      l).st = 0 ∨ (s.light l).st = 4) → ∃ t, exec (.combLock ⟨l, false⟩ pilot) s = .next t
      ∧ t.light l = { s.light l with st := s.combRef, feed := s.pickFeed, feedSince := s.time }
      ∧ t.pwr = { s.pwr with held := s.pwr.held.filter (fun h => h.req != .combStart l) }
      ∧ t.obj 0x2000 4 = t.pwr.heldWatts
      ∧ KeepsObjects s t [objKey 0x2000 4]
      ∧ (∀ k, k ≠ l.val → t.light k = s.light k)
      ∧ { t with lights := s.lights, pwr := s.pwr, dict := s.dict } = s)
  ∧ (∀ (l : Fin 8) (standby pilot : Bool) (s : State), s.pwr.has (.combStart l) = false → ∃ t, exec (.combLock ⟨l, standby⟩
      pilot) s = .next t
      ∧ t = s)
  ∧ (∀ (l : Fin 8) (pilot : Bool) (s : State), 1 ≤ (s.light l).st → (s.light l).st ≤ 3 → ∃ t, exec (.combLock ⟨l, false⟩ pilot)
      s = .next t
      ∧ t = s)
  ∧ (∀ (l : Fin 8) (s : State), Rises s.lights → Rises s.dict → s.pwr.has (.combStart l) = true → ((s.light l).change ≠ none ∨
      (s.light l).testing = true) → ∃ t, exec (.combLock ⟨l, true⟩ true) s = .next t
      ∧ t.light l =
        { s.light l with standbyOn := some s.time, change := (s.light l).change.map (fun c => { c with standbyLocked := true }) }
      ∧ t.pwr = { s.pwr with held := s.pwr.held.filter (fun h => h.req != .combStart l) }
      ∧ KeepsObjects s t [objKey 0x2000 4]
      ∧ (∀ k, k ≠ l.val → t.light k = s.light k)
      ∧ { t with lights := s.lights, pwr := s.pwr, dict := s.dict } = s)
  ∧ (∀ (l : Fin 8) (s : State), Rises s.lights → Rises s.dict → s.pwr.has (.combStart l) = true → ((s.light l).change ≠ none ∨
      (s.light l).testing = true) → ∃ t, exec (.combLock ⟨l, true⟩ false) s = .next t
      ∧ t.light l =
        { s.light l with standby := false, standbyOn := none, testing := false, lastTest := s.time, change := none, st := if (s.light l).change.isSome then s.combRef else (s.light l).st }
      ∧ t.obj 0x4112 (l + 1) = 0
      ∧ t.flt.raised = s.flt.raised ++
        [⟨mkEvent 0x0A sevDegraded (16 + l) 0xFF (if (s.light l).change.isSome then 1 else 3) 0, s.gtNow⟩]
      ∧ t.pwr = { s.pwr with held := s.pwr.held.filter (fun h => h.req != .combStart l) }
      ∧ KeepsObjects s t [objKey 0x2000 4, objKey 0x7010 5, objKey 0x7010 6, objKey 0x7010 7, objKey 0x4112 (l + 1)]
      ∧ (∀ k, k ≠ l.val → t.light k = s.light k)
      ∧ { t with lights := s.lights, pwr := s.pwr, dict := s.dict, flt := { t.flt with raised := s.flt.raised } } = s)
  ∧ (∀ (l : Fin 8) (s : State), Rises s.lights → Rises s.dict → s.pwr.has (.combStart l) = true → s.bootStep = 8 → (s.light
      l).st = 0 → (s.light l).standby = true → (s.light l).change = none → (s.light l).testing = false → ∃ t, exec (.combLock
      ⟨l, true⟩ true) s = .next t
      ∧ t.light l =
        { s.light l with active := 1 - (s.light l).active, standby := false, st := s.combRef, feed := s.pickFeed, feedSince := s.time }
      ∧ t.obj 0x4112 (l + 1) = 0
      ∧ t.pwr = { s.pwr with held := s.pwr.held.filter (fun h => h.req != .combStart l) }
      ∧ KeepsObjects s t [objKey 0x2000 4, objKey 0x7010 5, objKey 0x7010 6, objKey 0x7010 7, objKey 0x4112 (l + 1)]
      ∧ (∀ k, k ≠ l.val → t.light k = s.light k)
      ∧ { t with lights := s.lights, pwr := s.pwr, dict := s.dict } = s)
  ∧ (∀ (l : Fin 8) (pilot : Bool) (s : State), (s.light l).change = none → (s.light l).testing = false → (pilot = false ∨
      s.bootStep ≠ 8 ∨ (s.light l).st ≠ 0 ∨ (s.light l).standby = false) → ∃ t, exec (.combLock ⟨l, true⟩ pilot) s = .next t
      ∧ t = s)
  ∧ (∀ (feed : Fin 2) (s : State), Rises s.lights → s.elm.present feed = true → ∃ t, exec (.elmFeedLost feed) s = .next t
      ∧ t.elm.present feed = false
      ∧ t.elm.present (1 - feed.val) = s.elm.present (1 - feed.val)
      ∧ (∀ l, l < 8 → (t.light l).feed = (if (s.light l).st = 0 ∨ ((s.light l).feed.any (fun f => t.elm.present f)) = true then
        (s.light l).feed else t.pickFeed))
      ∧ (∀ l, l < 8 → (t.light l).st = (if (s.light l).st = 1 ∨ (s.light l).st = 2 then t.combRef else (s.light l).st))
      ∧ (∀ l, l < 8 → { t.light l with feed := (s.light l).feed, feedSince := (s.light l).feedSince, st := (s.light l).st } =
        s.light l)
      ∧ t.flt.raised = s.flt.raised ++ [⟨mkEvent 0x0B sevAdvisory 0xFF 0xFF 0 feed, s.gtNow⟩]
      ∧ { t with elm := s.elm, lights := s.lights, flt := { t.flt with raised := s.flt.raised } } = s)
  ∧ (∀ (feed : Fin 2) (s : State), Rises s.lights → s.elm.present feed = false → ∃ t, exec (.elmFeedReturn feed) s = .next t
      ∧ t.elm.present feed = true
      ∧ t.elm.present (1 - feed.val) = s.elm.present (1 - feed.val)
      ∧ (if feed.val = 0 then t.elm.backA else t.elm.backB) = some s.time
      ∧ (∀ l, l < 8 → (t.light l).feed = (if (s.light l).st = 0 ∨ ((s.light l).feed.any (fun f => t.elm.present f)) = true then
        (s.light l).feed else t.pickFeed))
      ∧ (∀ l, l < 8 → (t.light l).st = (if (s.light l).st = 1 ∨ (s.light l).st = 2 then t.combRef else (s.light l).st))
      ∧ (∀ l, l < 8 → { t.light l with feed := (s.light l).feed, feedSince := (s.light l).feedSince, st := (s.light l).st } =
        s.light l)
      ∧ { t with elm := s.elm, lights := s.lights } = s)
  ∧ (∀ (feed : Fin 2) (s : State), s.elm.present feed = false → ∃ t, exec (.elmFeedLost feed) s = .next t
      ∧ t = s)
  ∧ (∀ (feed : Fin 2) (s : State), s.elm.present feed = true → ∃ t, exec (.elmFeedReturn feed) s = .next t
      ∧ t = s)
  ∧ (∀ (l : Fin 8) (s : State), Rises s.lights → s.elm.present (s.obj 0x4100 2) = true → (if s.obj 0x4100 2 = 0 then
      s.elm.backA else s.elm.backB).all (fun τ => decide (τ + 10 * tickMs ≤ s.time)) = true → (s.light l).st ≠ 0 → ∃ t, exec
      (.elmPreferredReturn l) s = .next t
      ∧ t.light l =
        { s.light l with feed := some (s.obj 0x4100 2), feedSince := if (s.light l).feed = some (s.obj 0x4100 2) then (s.light l).feedSince else s.time }
      ∧ (∀ k, k ≠ l.val → t.light k = s.light k)
      ∧ { t with lights := s.lights } = s)
  ∧ (∀ (l : Fin 8) (τ : Nat) (s : State), (s.elm.present (s.obj 0x4100 2) = false ∨ (if s.obj 0x4100 2 = 0 then s.elm.backA
      else s.elm.backB) = some τ) → (s.elm.present (s.obj 0x4100 2) = true → s.time < τ + 10 * tickMs) → ∃ t, exec
      (.elmPreferredReturn l) s = .next t
      ∧ t = s)
  ∧ (∀ (p : Fin 128) (s : State), Rises s.ports → ∃ t, exec (.lambdaSLost p) s = .next t
      ∧ t.port p = { s.port p with onL0 := true, l0At := s.time }
      ∧ (∀ k, k ≠ p.val → t.port k = s.port k)
      ∧ { t with ports := s.ports } = s)
  ∧ (∀ (p : Fin 128) (s : State), Rises s.ports → s.pickFeed ≠ none → (s.bank (s.bankOf p)).lamWorks = true → (s.light (p.val /
      16)).feedSince + 10 * tickMs ≤ s.time → ((s.bank (s.bankOf p)).ring true 36).since + 10 * tickMs ≤ s.time → ((s.bank
      (s.bankOf p)).ring false 36).since + 10 * tickMs ≤ s.time → (s.port p).l0At + 10 * tickMs ≤ s.time → ∃ t, exec
      (.lambdaSReturn p) s = .next t
      ∧ t.port p = { s.port p with onL0 := false }
      ∧ (∀ k, k ≠ p.val → t.port k = s.port k)
      ∧ { t with ports := s.ports } = s)
  ∧ (∀ (p : Fin 128) (s : State), (s.pickFeed = none ∨ (s.bank (s.bankOf p)).lamWorks = false ∨ s.time < (s.port p).l0At + 10 *
      tickMs) → ∃ t, exec (.lambdaSReturn p) s = .next t
      ∧ t = s)
  ∧ (∀ (l : Fin 8) (vs : List Int) (s : State) (x : LightSt) (fade : Int), Rises s.lights → x = (s.light l).measure (s.light
      l).active vs → s.lit (17 * l.val) = true → vs.length = 36 → ((s.light l).unmeasured (s.light l).active = false ∨ (s.light
      l).record = true) → fade = meanInt ((meanInt (x.fadesOf vs) :: (s.light l).fades).take 8) → signed 32 (s.obj 0x4100 4) <
      fade → -300 < fade → ∃ t, exec (.combMonitorSample ⟨l, false⟩ vs) s = .next t
      ∧ (t.light l).fades = (meanInt (x.fadesOf vs) :: (s.light l).fades).take 8
      ∧ ((t.light l).advised = (if signed 32 (s.obj 0x4100 4) + 50 ≤ fade then false else (s.light l).advised))
      ∧ ((t.light l).crossed = (if -250 ≤ fade then false else (s.light l).crossed))
      ∧ (∀ i, i < 36 → (t.light l).failedLines.contains i = ((s.light l).failedLines.contains i || decide (((x.fadesOf
        vs)[i]?).getD 0 ≤ -450)))
      ∧ (∀ i, i < 36 → mapGet none (t.light l).powers (lineKey (s.light l).active i) = mapGet none x.powers (lineKey (s.light
        l).active i))
      ∧ { t.light l with fades := x.fades, advised := x.advised, crossed := x.crossed, failedLines := x.failedLines } = x
      ∧ (∀ k, k ≠ l.val → t.light k = s.light k)
      ∧ { t with lights := s.lights } = s)
  ∧ (∀ (l : Fin 8) (vs : List Int) (s : State) (x : LightSt) (fade : Int), Rises s.lights → x = (s.light l).measure (s.light
      l).active vs → s.lit (17 * l.val) = true → vs.length = 36 → ((s.light l).unmeasured (s.light l).active = false ∨ (s.light
      l).record = true) → fade = meanInt ((meanInt (x.fadesOf vs) :: (s.light l).fades).take 8) → fade ≤ signed 32 (s.obj
      0x4100 4) → -300 < fade → (s.light l).advised = false → ∃ t, exec (.combMonitorSample ⟨l, false⟩ vs) s = .next t
      ∧ (t.light l).advised = true
      ∧ (t.light l).fades = (meanInt (x.fadesOf vs) :: (s.light l).fades).take 8
      ∧ t.flt.raised = s.flt.raised ++ [⟨mkEvent 0x0A sevAdvisory (16 + l) 0xFF 0 0, s.gtNow⟩]
      ∧ { t.light l with fades := x.fades, advised := x.advised, crossed := x.crossed, failedLines := x.failedLines } = x
      ∧ (∀ k, k ≠ l.val → t.light k = s.light k)
      ∧ { t with lights := s.lights, flt := { t.flt with raised := s.flt.raised } } = s)
  ∧ (∀ (l : Fin 8) (vs : List Int) (s : State) (x : LightSt) (fade : Int), Rises s.lights → x = (s.light l).measure (s.light
      l).active vs → s.lit (17 * l.val) = true → vs.length = 36 → ((s.light l).unmeasured (s.light l).active = false ∨ (s.light
      l).record = true) → fade = meanInt ((meanInt (x.fadesOf vs) :: (s.light l).fades).take 8) → fade ≤ -300 → (s.light
      l).advised = true → (s.light l).crossed = false → (s.light l).change = none → (s.light l).standby = true → ∃ t, exec
      (.combMonitorSample ⟨l, false⟩ vs) s = .next t
      ∧ (t.light l).st = 3
      ∧ (t.light l).change = some { todo := s.changeOrder l, standbyLocked := (s.light l).standbyOn.isSome }
      ∧ (t.light l).crossed = true
      ∧ (t.light l).testing = false
      ∧
        { t.light l with fades := x.fades, advised := x.advised, crossed := x.crossed, st := x.st, change := x.change, testing := x.testing }
        = x
      ∧ ((s.light l).standbyOn = none → t.pwr.has (.combStart l) = true ∨ t.pwr.asks (.combStart l) = true)
      ∧ (∀ k, k ≠ l.val → t.light k = s.light k)
      ∧
        { t with lights := s.lights, pwr := { t.pwr with arrivals := s.pwr.arrivals }, dict := s.dict, flt := { t.flt with raised := s.flt.raised } }
        = s)
  ∧ (∀ (l : Fin 8) (vs : List Int) (s : State) (x : LightSt) (fade : Int), Rises s.lights → x = (s.light l).measure (s.light
      l).active vs → s.lit (17 * l.val) = true → vs.length = 36 → ((s.light l).unmeasured (s.light l).active = false ∨ (s.light
      l).record = true) → fade = meanInt ((meanInt (x.fadesOf vs) :: (s.light l).fades).take 8) → fade ≤ -300 → -450 < fade →
      (s.light l).advised = true → (s.light l).crossed = false → (s.light l).change = none → (s.light l).standby = false → ∃ t,
      exec (.combMonitorSample ⟨l, false⟩ vs) s = .next t
      ∧ (t.light l).st = (s.light l).st
      ∧ (t.light l).change = none
      ∧ (t.light l).crossed = true
      ∧ t.flt.raised = s.flt.raised ++ [⟨mkEvent 0x0A sevDegraded (16 + l) 0xFF 1 0, s.gtNow⟩]
      ∧ (∀ k, k ≠ l.val → t.light k = s.light k)
      ∧ { t with lights := s.lights, flt := { t.flt with raised := s.flt.raised } } = s)
  ∧ (∀ (l : Fin 8) (vs : List Int) (s : State) (x : LightSt) (fade : Int), Rises s.lights → Rises s.banks → x = (s.light
      l).measure (s.light l).active vs → s.lit (17 * l.val) = true → vs.length = 36 → ((s.light l).unmeasured (s.light
      l).active = false ∨ (s.light l).record = true) → fade = meanInt ((meanInt (x.fadesOf vs) :: (s.light l).fades).take 8) →
      fade ≤ -450 → (s.light l).advised = true → (s.light l).crossed = true → (s.light l).change = none → (s.light l).standby =
      false → ∃ t, exec (.combMonitorSample ⟨l, false⟩ vs) s = .next t
      ∧ (∀ i, i < 16 → t.portSt (16 * l.val + i) = (if s.portSt (16 * l.val + i) = 3 ∨ s.portSt (16 * l.val + i) = 4 then (if
        (s.bank (s.bankOf (16 * l.val + i))).lamWorks = true then 5 else 7) else s.portSt (16 * l.val + i)))
      ∧ (t.light l).st = (s.light l).st
      ∧ (∀ k, k ≠ l.val → t.light k = s.light k)
      ∧ { t with lights := s.lights, banks := s.banks, flt := { t.flt with raised := s.flt.raised } } = s)
  ∧ (∀ (l : Fin 8) (vs : List Int) (s : State), Rises s.lights → Rises (s.light l).refs → Rises (s.light l).firsts → s.lit (17
      * l.val) = true → vs.length = 36 → (s.light l).unmeasured (s.light l).active = true → (s.light l).record = false →
      (s.light l).fades = [] → signed 32 (s.obj 0x4100 4) < 0 → ∃ t, exec (.combMonitorSample ⟨l, false⟩ vs) s = .next t
      ∧ (t.light l).fades = [0]
      ∧ (t.light l).refs = (s.light l).refs
      ∧ (∀ i, i < 36 → mapGet none (t.light l).firsts (lineKey (s.light l).active i) = vs[i]?)
      ∧ t.flt.raised = s.flt.raised ++ [⟨mkEvent 0x15 sevAdvisory (16 + l) 0xFF 2 0, s.gtNow⟩]
      ∧ (∀ k, k ≠ l.val → t.light k = s.light k)
      ∧ { t with lights := s.lights, flt := { t.flt with raised := s.flt.raised } } = s)
  ∧ (∀ (l : Fin 8) (vs : List Int) (s : State), Rises s.lights → vs.length = 36 → (s.light l).standbyOn ≠ none → ∃ t, exec
      (.combMonitorSample ⟨l, true⟩ vs) s = .next t
      ∧ t.light l = (s.light l).measure (1 - (s.light l).active) vs
      ∧ (∀ k, k ≠ l.val → t.light k = s.light k)
      ∧ { t with lights := s.lights } = s)
  ∧ (∀ (l : Fin 8) (standby : Bool) (vs : List Int) (s : State), (if standby = true then (s.light l).standbyOn = none else
      s.lit (17 * l.val) = false) → ∃ t, exec (.combMonitorSample ⟨l, standby⟩ vs) s = .next t
      ∧ t = s)
  ∧ (∀ (l : Fin 8) (p : Fin 128) (c : Changeover) (rest : List Nat) (s : State), Rises s.lights → Rises s.banks → BankRises
      (s.bank (s.bankOf p)) → (s.light l).change = some c → c.standbyLocked = true → c.now = none → (c.at_ = 0 ∨ c.at_ + 10 *
      tickUs ≤ s.time) → c.todo = p.val :: rest → 3 ≤ (s.bank (s.bankOf p)).st → (s.bank (s.bankOf p)).st ≤ 6 → (s.bank
      (s.bankOf p)).searching = false → ∃ t, exec (.portPause l) s = .next t
      ∧ t.portSt p = 6
      ∧ (t.bank (s.bankOf p)).before = s.portSt p
      ∧ (t.bank (s.bankOf p)).comb = 1 - (s.light l).active
      ∧ (∀ i, i < 36 → ((t.bank (s.bankOf p)).ring true i).locked = false)
      ∧ (t.bank (s.bankOf p)).ring true 36 = (s.bank (s.bankOf p)).ring true 36
      ∧
        { t.bank (s.bankOf p) with st := (s.bank (s.bankOf p)).st, before := (s.bank (s.bankOf p)).before, comb := (s.bank (s.bankOf p)).comb, tx := (s.bank (s.bankOf p)).tx }
        = s.bank (s.bankOf p)
      ∧ t.light l = { s.light l with change := some { c with todo := rest, now := some p.val, at_ := s.time } }
      ∧ t.out = (s.sendFrame p (BitVec.ofNat 256 (field 248 3 + field 216 s.moduleId + field 209 p.val + field 192 pauseNs +
        s.epoch))).out
      ∧ (∀ k, k ≠ s.bankOf p → t.bank k = s.bank k)
      ∧ (∀ k, k ≠ l.val → t.light k = s.light k)
      ∧ { t with out := s.out, banks := s.banks, lights := s.lights } = s)
  ∧ (∀ (l : Fin 8) (s : State), (s.light l).change.all (fun c => !c.standbyLocked || c.now.isSome || (c.at_ != 0 && decide
      (s.time < c.at_ + 10 * tickUs))) = true → ∃ t, exec (.portPause l) s = .next t
      ∧ t = s)
  ∧ (∀ (l : Fin 8) (p : Fin 128) (c : Changeover) (s : State), TablesRise s → (s.light l).change = some c → c.standbyLocked =
      true → c.now = none → (c.at_ = 0 ∨ c.at_ + 10 * tickUs ≤ s.time) → c.todo = [p.val] → (s.portSt p ≤ 2 ∨ s.portSt p = 7) →
      s.obj 0x4100 9 + 1 < 2 ^ 16 → ∃ t, exec (.portPause l) s = .next t
      ∧ t.bank (s.bankOf p) = { s.bank (s.bankOf p) with comb := 1 - (s.light l).active }
      ∧ (∀ k, k ≠ s.bankOf p → t.bank k = s.bank k)
      ∧ t.light l =
        { s.light l with active := 1 - (s.light l).active, standby := false, standbyOn := none, change := none, st := s.combRef, fades := [], advised := false, crossed := false, failedLines := [] }
      ∧ (∀ k, k ≠ l.val → t.light k = s.light k)
      ∧ t.obj 0x4112 (l + 1) = 0
      ∧ t.obj 0x4100 9 = s.obj 0x4100 9 + 1
      ∧ t.flt.raised = s.flt.raised ++ [⟨mkEvent 0x0A sevAdvisory (16 + l) 0xFF 2 0, s.gtNow⟩]
      ∧ KeepsObjects s t [objKey 0x4100 9, objKey 0x7010 5, objKey 0x7010 6, objKey 0x7010 7, objKey 0x4112 (l + 1)]
      ∧ { t with banks := s.banks, lights := s.lights, dict := s.dict, flt := { t.flt with raised := s.flt.raised } } = s)
  ∧ (∀ (l : Fin 8) (p : Fin 128) (c : Changeover) (s : State), Rises s.lights → (s.light l).change = some c → c.standbyLocked =
      true → c.now = none → (c.at_ = 0 ∨ c.at_ + 10 * tickUs ≤ s.time) → c.todo = [p.val] → 3 ≤ (s.bank (s.bankOf p)).st →
      (s.bank (s.bankOf p)).st ≤ 6 → (s.bank (s.bankOf p)).searching = true → ∃ t, exec (.portPause l) s = .next t
      ∧ t.light l = s.light l
      ∧ (∀ k, k ≠ l.val → t.light k = s.light k)
      ∧ { t with lights := s.lights } = s)
  ∧ (∀ (l : Fin 8) (p : Fin 128) (c : Changeover) (s : State), Rises s.lights → Rises s.banks → (s.light l).change = some c →
      c.now = some p.val → c.todo ≠ [] → s.portSt p = 6 → ∃ t, exec (.portResume l) s = .next t
      ∧ t.bank (s.bankOf p) =
        { s.bank (s.bankOf p) with st := (s.bank (s.bankOf p)).before, before := 0, tx := (s.bank (s.bankOf p)).tx.map (fun kv => (kv.1, if kv.1 < 36 ∧ ((s.bank (s.bankOf p)).laneOf true kv.1).isSome = true then { kv.2 with locked := true } else kv.2)) }
      ∧ t.light l = { s.light l with change := some { c with now := none, at_ := s.time } }
      ∧ (∀ k, k ≠ s.bankOf p → t.bank k = s.bank k)
      ∧ (∀ k, k ≠ l.val → t.light k = s.light k)
      ∧ { t with banks := s.banks, lights := s.lights } = s)
  ∧ (∀ (l : Fin 8) (p : Fin 128) (c : Changeover) (s : State), TablesRise s → (s.light l).change = some c → c.now = some p.val
      → c.todo = [] → s.portSt p = 6 → s.obj 0x4100 9 + 1 < 2 ^ 16 → ∃ t, exec (.portResume l) s = .next t
      ∧ t.portSt p = (s.bank (s.bankOf p)).before
      ∧ t.light l =
        { s.light l with active := 1 - (s.light l).active, standby := false, standbyOn := none, change := none, st := s.combRef, fades := [], advised := false, crossed := false, failedLines := [] }
      ∧ (∀ k, k ≠ s.bankOf p → t.bank k = s.bank k)
      ∧ (∀ k, k ≠ l.val → t.light k = s.light k)
      ∧ t.obj 0x4112 (l + 1) = 0
      ∧ t.obj 0x4100 9 = s.obj 0x4100 9 + 1
      ∧ t.flt.raised = s.flt.raised ++ [⟨mkEvent 0x0A sevAdvisory (16 + l) 0xFF 2 0, s.gtNow⟩]
      ∧ KeepsObjects s t [objKey 0x4100 9, objKey 0x7010 5, objKey 0x7010 6, objKey 0x7010 7, objKey 0x4112 (l + 1)]
      ∧ { t with banks := s.banks, lights := s.lights, dict := s.dict, flt := { t.flt with raised := s.flt.raised } } = s)
  ∧ (∀ (l : Fin 8) (s : State), (s.light l).change.all (fun c => c.now.isNone) = true → ∃ t, exec (.portResume l) s = .next t
      ∧ t = s)
  ∧ (∀ (p : Fin 128) (f : BitVec 256) (s : State), Rises s.ports → bits f 255 248 = 3 → s.linkUp p = true → ∃ t, exec
      (.linkPauseNotice p f) s = .next t
      ∧ t.port p = { s.port p with pauseUntil := s.time + bits f 207 192 * tickNs + 10 * tickUs }
      ∧ (∀ k, k ≠ p.val → t.port k = s.port k)
      ∧ { t with ports := s.ports } = s)
  ∧ (∀ (p : Fin 128) (f : BitVec 256) (s : State), (bits f 255 248 ≠ 3 ∨ s.linkUp p = false) → ∃ t, exec (.linkPauseNotice p f)
      s = .next t
      ∧ t = s)
  ∧ (∀ (l : Fin 8) (s : State), Rises s.lights → (s.light l).standby = true → (s.light l).change = none → (s.light l).testing =
      false → ((s.light l).st = 1 ∨ (s.light l).st = 2) → (s.light l).lastTest + s.obj 0x4900 3 * 86400 * tickS ≤ s.time → ∃ t,
      exec (.standbyTest l) s = .next t
      ∧ t.light l = { s.light l with testing := true }
      ∧ (t.pwr.has (.combStart l) = true ∨ t.pwr.asks (.combStart l) = true)
      ∧ (∀ k, k ≠ l.val → t.light k = s.light k)
      ∧ KeepsObjects s t [objKey 0x2000 4, objKey 0x2000 5]
      ∧ { t with lights := s.lights, pwr := { t.pwr with arrivals := s.pwr.arrivals }, dict := s.dict } = s)
  ∧ (∀ (l : Fin 8) (s : State), ((s.light l).standby = false ∨ (s.light l).change ≠ none ∨ (s.light l).testing = true ∨ s.time
      < (s.light l).lastTest + s.obj 0x4900 3 * 86400 * tickS) → ∃ t, exec (.standbyTest l) s = .next t
      ∧ t = s)
  ∧ (∀ (l : Fin 8) (τ : Nat) (s : State), Rises s.lights → (s.light l).standbyOn = some τ → (s.light l).testing = true → τ + 10
      * tickS ≤ s.time → ∃ t, exec (.standbyTestEnd l true) s = .next t
      ∧ t.light l = { s.light l with testing := false, standbyOn := none, lastTest := s.time }
      ∧ (∀ k, k ≠ l.val → t.light k = s.light k)
      ∧ { t with lights := s.lights } = s)
  ∧ (∀ (l : Fin 8) (τ : Nat) (s : State), TablesRise s → (s.light l).standbyOn = some τ → (s.light l).testing = true → τ + 10 *
      tickS ≤ s.time → ∃ t, exec (.standbyTestEnd l false) s = .next t
      ∧ t.light l = { s.light l with standby := false, standbyOn := none, testing := false, lastTest := s.time }
      ∧ (∀ k, k ≠ l.val → t.light k = s.light k)
      ∧ t.obj 0x4112 (l + 1) = 0
      ∧ t.flt.raised = s.flt.raised ++ [⟨mkEvent 0x0A sevDegraded (16 + l) 0xFF 3 0, s.gtNow⟩]
      ∧ KeepsObjects s t [objKey 0x7010 5, objKey 0x7010 6, objKey 0x7010 7, objKey 0x4112 (l + 1)]
      ∧ { t with lights := s.lights, dict := s.dict, flt := { t.flt with raised := s.flt.raised } } = s)
  ∧ (∀ (l : Fin 8) (s : State), TablesRise s → (s.light l).standbyOn = none → (s.light l).testing = true → s.pwr.has
      (.combStart l) = true → ∃ t, exec (.standbyTestEnd l false) s = .next t
      ∧ t.light l = { s.light l with standby := false, testing := false, lastTest := s.time }
      ∧ t.pwr = { s.pwr with held := s.pwr.held.filter (fun h => h.req != .combStart l) }
      ∧ t.obj 0x4112 (l + 1) = 0
      ∧ t.flt.raised = s.flt.raised ++ [⟨mkEvent 0x0A sevDegraded (16 + l) 0xFF 3 0, s.gtNow⟩]
      ∧ (∀ k, k ≠ l.val → t.light k = s.light k)
      ∧ { t with lights := s.lights, pwr := s.pwr, dict := s.dict, flt := { t.flt with raised := s.flt.raised } } = s)
  ∧ (∀ (l : Fin 8) (pass : Bool) (s : State), ((s.light l).testing = false ∨ (s.light l).standbyOn.any (fun τ => decide (s.time
      < τ + 10 * tickS)) = true) → ∃ t, exec (.standbyTestEnd l pass) s = .next t
      ∧ t = s)

/-- R256 to R263: a transmit ring locks where its pilot is seen, in increasing line order; a receive ring locks on its
confirmed line; a search beyond the recorded setting asks for leave first; a mislock takes the lane out of service and is
counted; a search that finds the ring brings its lane back, the second failure gives it up; a failed line's lane moves
onto a spare line, trained from identity idles; a failed bank's port moves onto the free spare bank, and without one, or
where the fault lies beyond the module, shows SIGNAL_ONLY or FAILED. -/
def Obligations.RingsAndLanes : Prop :=
  (∀ (b : Fin 136) (i : Fin 37) (v : Nat) (s : State), Rises s.banks → Rises s.dict → BankRises (s.bank b) → s.lit b = true →
      ((s.bank b).ring true i).locked = false → (∀ j : Fin 37, j < i → ((s.bank b).ring true j.val).locked = true ∨ 0 <
      ((s.bank b).ring true j.val).fails) → v ≤ 4200000 → (v = ((s.bank b).ring true i).setting ∨ s.sweeps b = true) → ∃ t,
      exec (.transmitRingAssign b i v i) s = .next t
      ∧ t.bank b = ((s.bank b).setRing true i { setting := v, locked := true, since := s.time }).train
      ∧ (t.bank b).ring true i = { setting := v, locked := true, since := s.time }
      ∧ (∀ k, k ≠ b.val → t.bank k = s.bank k)
      ∧ KeepsObjects s t [objKey 0x2000 4]
      ∧ { t with banks := s.banks, pwr := { t.pwr with held := s.pwr.held }, dict := s.dict } = s)
  ∧ (∀ (b : Fin 136) (i k : Fin 37) (v : Nat) (s : State), Rises s.banks → Rises s.dict → BankRises (s.bank b) → s.lit b = true
      → ((s.bank b).ring true i).locked = false → (∀ j : Fin 37, j < i → ((s.bank b).ring true j.val).locked = true ∨ 0 <
      ((s.bank b).ring true j.val).fails) → v ≤ 4200000 → (v = ((s.bank b).ring true i).setting ∨ s.sweeps b = true) → k ≠ i →
      ∃ t, exec (.transmitRingAssign b i v k) s = .next t
      ∧ (t.bank b).ring true i = { (s.bank b).ring true i with fails := ((s.bank b).ring true i).fails + 1 }
      ∧ t.bank b = ((s.bank b).setRing true i
        { (s.bank b).ring true i with fails := ((s.bank b).ring true i).fails + 1 }).train
      ∧ (∀ k, k ≠ b.val → t.bank k = s.bank k)
      ∧ KeepsObjects s t [objKey 0x2000 4]
      ∧ { t with banks := s.banks, pwr := { t.pwr with held := s.pwr.held }, dict := s.dict } = s)
  ∧ (∀ (b : Fin 136) (i k : Fin 37) (v : Nat) (s : State), s.lit b = true → ((s.bank b).ring true i).locked = false → (∀ j :
      Fin 37, j < i → ((s.bank b).ring true j.val).locked = true ∨ 0 < ((s.bank b).ring true j.val).fails) → v ≤ 4200000 → v ≠
      ((s.bank b).ring true i).setting → s.sweeps b = false → ∃ t, exec (.transmitRingAssign b i v k) s = .next t
      ∧ t.pwr.asks (.ringSweep (Fin.ofNat 8 (bankLight b))) = true
      ∧ { t with pwr := { t.pwr with arrivals := s.pwr.arrivals }, dict := s.dict } = s)
  ∧ (∀ (b : Fin 136) (i j k : Fin 37) (v : Nat) (s : State), (s.lit b = false ∨ ((s.bank b).ring true i).locked = true ∨ (j < i
      ∧ (s.bank b).ring true j = { })) → ∃ t, exec (.transmitRingAssign b i v k) s = .next t
      ∧ t = s)
  ∧ (∀ (b : Fin 136) (i : Fin 37) (v : Nat) (s : State), Rises s.banks → Rises s.dict → BankRises (s.bank b) → (s.bank b).st =
      2 → ((s.bank b).ring false i).locked = false → v ≤ 4200000 → (((s.bank b).ring false i).near v = true ∨ s.sweeps b =
      true) → ∃ t, exec (.receiveRingSearch b i v true) s = .next t
      ∧ t.bank b = (((s.bank b).setRing false i { setting := v, locked := true, since := s.time }).idleAt i s.time).train
      ∧ (t.bank b).ring false i = { setting := v, locked := true, since := s.time }
      ∧ (i.val = 36 → mapGet 0 (t.bank b).idle 32 = s.time)
      ∧ (∀ k, k ≠ b.val → t.bank k = s.bank k)
      ∧ KeepsObjects s t [objKey 0x2000 4]
      ∧ { t with banks := s.banks, pwr := { t.pwr with held := s.pwr.held }, dict := s.dict } = s)
  ∧ (∀ (b : Fin 136) (i : Fin 37) (v : Nat) (s : State), Rises s.banks → Rises s.dict → BankRises (s.bank b) → (s.bank b).st =
      2 → (s.bank b).before ≠ 0 → ((s.bank b).ring false i).locked = false → v ≤ 4200000 → (((s.bank b).ring false i).near v =
      true ∨ s.sweeps b = true) → ∃ t, exec (.receiveRingSearch b i v false) s = .next t
      ∧ (t.bank b).ring false i = { (s.bank b).ring false i with fails := ((s.bank b).ring false i).fails + 1 }
      ∧ ((t.bank b).rxOut = (if 1 ≤ ((s.bank b).ring false i).fails then ((s.bank b).laneOf false i).elim (s.bank b).rxOut (fun
        n => setIns n (s.bank b).rxOut) else (s.bank b).rxOut))
      ∧ { t.bank b with rx := (s.bank b).rx, rxOut := (s.bank b).rxOut } = s.bank b
      ∧ (∀ k, k ≠ b.val → t.bank k = s.bank k)
      ∧ KeepsObjects s t [objKey 0x2000 4]
      ∧ { t with banks := s.banks, pwr := { t.pwr with held := s.pwr.held }, dict := s.dict } = s)
  ∧ (∀ (b : Fin 136) (i : Fin 37) (n v : Nat) (s : State), Rises s.banks → Rises s.dict → BankRises (s.bank b) → (s.bank b).st
      = 2 → (s.bank b).before = 0 → ((s.bank b).ring false i).locked = false → v ≤ 4200000 → (((s.bank b).ring false i).near v
      = true ∨ s.sweeps b = true) → (s.bank b).laneOf false i = some n → 1 ≤ ((s.bank b).ring false i).fails → ∃ t, exec
      (.receiveRingSearch b i v false) s = .next t
      ∧ (t.bank b).rxOut.contains n = true
      ∧ ((t.bank b).st = (if (t.bank b).confirmed true = true ∧ (t.bank b).confirmed false = true ∧ 24 ≤ (t.bank b).lanesLeft
        then 4 else 2))
      ∧ (∀ k, k ≠ b.val → t.bank k = s.bank k)
      ∧ { t with banks := s.banks, pwr := { t.pwr with held := s.pwr.held }, dict := s.dict } = s)
  ∧ (∀ (b : Fin 136) (i : Fin 37) (v : Nat) (ok : Bool) (s : State), (s.bank b).st = 2 → ((s.bank b).ring false i).locked =
      false → v ≤ 4200000 → ((s.bank b).ring false i).near v = false → s.sweeps b = false → ∃ t, exec (.receiveRingSearch b i v
      ok) s = .next t
      ∧ t.pwr.asks (.ringSweep (Fin.ofNat 8 (bankLight b))) = true
      ∧ { t with pwr := { t.pwr with arrivals := s.pwr.arrivals }, dict := s.dict } = s)
  ∧ (∀ (b : Fin 136) (i : Fin 37) (v : Nat) (ok : Bool) (s : State), ((s.bank b).st ≠ 2 ∨ ((s.bank b).ring false i).locked =
      true) → ∃ t, exec (.receiveRingSearch b i v ok) s = .next t
      ∧ t = s)
  ∧ (∀ (b : Fin 136) (s : State), Rises s.banks → (s.bank b).st = 2 → (s.bank b).since + 60 * tickS ≤ s.time → ∃ t, exec
      (.portTrainTimeout b) s = .next t
      ∧ t.bank b = { s.bank b with st := 1, before := 0, dark := true, light := none, pulse := 0 }
      ∧ (∀ k, k ≠ b.val → t.bank k = s.bank k)
      ∧ { t with banks := s.banks } = s)
  ∧ (∀ (b : Fin 136) (s : State), ((s.bank b).st ≠ 2 ∨ s.time < (s.bank b).since + 60 * tickS) → ∃ t, exec (.portTrainTimeout
      b) s = .next t
      ∧ t = s)
  ∧ (∀ (b : Fin 136) (tx : Bool) (i : Fin 37) (at_ v : Nat) (s : State), Rises s.banks → Rises s.ports → BankRises (s.bank b) →
      ((s.bank b).ring tx i).locked = true → (at_ ≤ 210000 ∨ 3990000 ≤ at_) → (v = at_ + 4000000 ∨ v + 4000000 = at_) → v ≤
      4200000 → ∃ t, exec (.ringFsrMove b tx i ⟨at_, v⟩) s = .next t
      ∧ (t.bank b).ring tx i =
        { (s.bank b).ring tx i with setting := v, locked := false, searching := true, since := s.time, wrong := 0 }
      ∧ (∀ n, n < 32 → (s.bank b).laneOf tx i = some n → ((t.bank b).out tx).contains n = true)
      ∧ (t.pwr.has (.ringSweep (Fin.ofNat 8 (bankLight b))) = true ∨ t.pwr.asks (.ringSweep (Fin.ofNat 8 (bankLight b))) =
        true)
      ∧ (∀ k, k < 128 → t.port k = (if i.val = 36 ∧ s.portOfBank b = some k then { s.port k with onL0 := true, l0At := s.time }
        else s.port k))
      ∧ (∀ k, k ≠ b.val → t.bank k = s.bank k)
      ∧ { t with banks := s.banks, ports := s.ports, pwr := { t.pwr with arrivals := s.pwr.arrivals }, dict := s.dict } = s)
  ∧ (∀ (b : Fin 136) (tx : Bool) (i : Fin 37) (at_ v : Nat) (s : State), (((s.bank b).ring tx i).locked = false ∨ (210000 < at_
      ∧ at_ < 3990000) ∨ (v ≠ at_ + 4000000 ∧ v + 4000000 ≠ at_)) → ∃ t, exec (.ringFsrMove b tx i ⟨at_, v⟩) s = .next t
      ∧ t = s)
  ∧ (∀ (b : Fin 136) (i k : Fin 37) (s : State), Rises s.banks → BankRises (s.bank b) → ((s.bank b).ring true i).locked = true
      → ∃ t, exec (.pilotCheck b i k) s = .next t
      ∧ (t.bank b).ring true i =
        { (s.bank b).ring true i with wrong := if k = i then 0 else ((s.bank b).ring true i).wrong + 1 }
      ∧ { t.bank b with tx := (s.bank b).tx } = s.bank b
      ∧ (∀ j, j ≠ b.val → t.bank j = s.bank j)
      ∧ { t with banks := s.banks } = s)
  ∧ (∀ (b : Fin 136) (i k : Fin 37) (s : State), ((s.bank b).ring true i).locked = false → ∃ t, exec (.pilotCheck b i k) s =
      .next t
      ∧ t = s)
  ∧ (∀ (b : Fin 136) (tx : Bool) (i : Fin 37) (s : State), TablesRise s → BankRises (s.bank b) → ((s.bank b).ring tx i).locked
      = true → ((if tx = true then 2 ≤ ((s.bank b).ring true i).wrong else 1 ≤ ((s.bank b).ring false i).wrong ∨ ((s.bank
      b).idleKey i).any (fun n => decide (mapGet 0 (s.bank b).idle n + 589824 * tickNs ≤ s.time)) = true)) → s.obj 0x4100 7 + 1
      < 2 ^ 32 → ∃ t, exec (.ringMislock b tx i) s = .next t
      ∧ (t.bank b).ring tx i = { (s.bank b).ring tx i with locked := false, searching := true, since := s.time, wrong := 0 }
      ∧ (∀ n, n < 32 → (s.bank b).laneOf tx i = some n → ((t.bank b).out tx).contains n = true)
      ∧ (t.pwr.has (.ringSweep (Fin.ofNat 8 (bankLight b))) = true ∨ t.pwr.asks (.ringSweep (Fin.ofNat 8 (bankLight b))) =
        true)
      ∧ (∀ k, k < 128 → t.port k = (if i.val = 36 ∧ s.portOfBank b = some k then { s.port k with onL0 := true, l0At := s.time }
        else s.port k))
      ∧ t.obj 0x4100 7 = s.obj 0x4100 7 + 1
      ∧ t.flt.raised = s.flt.raised ++ [⟨mkEvent 0x09 sevNote (16 + bankLight b) b 0 i, s.gtNow⟩]
      ∧ (∀ k, k ≠ b.val → t.bank k = s.bank k)
      ∧ KeepsObjects s t [objKey 0x4100 7, objKey 0x2000 4, objKey 0x2000 5]
      ∧
        { t with banks := s.banks, ports := s.ports, pwr := { t.pwr with arrivals := s.pwr.arrivals }, dict := s.dict, flt := { t.flt with raised := s.flt.raised } }
        = s)
  ∧ (∀ (b : Fin 136) (tx : Bool) (i : Fin 37) (s : State), (((s.bank b).ring tx i).locked = false ∨ (((s.bank b).ring tx
      i).wrong = 0 ∧ ((s.bank b).idleKey i).all (fun n => decide (s.time < mapGet 0 (s.bank b).idle n + 589824 * tickNs)) =
      true)) → ∃ t, exec (.ringMislock b tx i) s = .next t
      ∧ t = s)
  ∧ (∀ (b : Fin 136) (tx : Bool) (i : Fin 37) (v : Nat) (s : State), Rises s.banks → Rises s.dict → BankRises (s.bank b) →
      ((s.bank b).ring tx i).searching = true → s.sweeps b = true → v ≤ ((s.bank b).ring tx i).setting + 420000 → ((s.bank
      b).ring tx i).setting ≤ v + 420000 → ∃ t, exec (.ringResearchDone b tx i true v) s = .next t
      ∧ (t.bank b).ring tx i = { setting := v, locked := true, since := s.time }
      ∧ (t.bank b).out tx = ((s.bank b).laneOf tx i).elim ((s.bank b).out tx) (fun n => ((s.bank b).out tx).filter (· != n))
      ∧ ((t.bank b).idle = (if tx = true then (s.bank b).idle else ((s.bank b).idleKey i).elim (s.bank b).idle (fun n => mapSet
        0 (s.bank b).idle n s.time)))
      ∧ (t.bank b).ring (!tx) i = (s.bank b).ring (!tx) i
      ∧ (∀ k, k ≠ b.val → t.bank k = s.bank k)
      ∧ KeepsObjects s t [objKey 0x2000 4]
      ∧ { t with banks := s.banks, pwr := { t.pwr with held := s.pwr.held }, dict := s.dict } = s)
  ∧ (∀ (b : Fin 136) (tx found : Bool) (i : Fin 37) (v : Nat) (s : State), Rises s.banks → Rises s.dict → BankRises (s.bank b)
      → ((s.bank b).ring tx i).searching = true → s.sweeps b = true → (found = false ∨ ((s.bank b).ring tx i).near v = false) →
      ∃ t, exec (.ringResearchDone b tx i found v) s = .next t
      ∧ ((t.bank b).ring tx i = (if 1 ≤ ((s.bank b).ring tx i).fails then
        { (s.bank b).ring tx i with searching := false, fails := 2 } else
        { (s.bank b).ring tx i with fails := 1, since := s.time }))
      ∧ { t.bank b with tx := (s.bank b).tx, rx := (s.bank b).rx } = s.bank b
      ∧ (t.bank b).ring (!tx) i = (s.bank b).ring (!tx) i
      ∧ (∀ k, k ≠ b.val → t.bank k = s.bank k)
      ∧ KeepsObjects s t [objKey 0x2000 4]
      ∧ { t with banks := s.banks, pwr := { t.pwr with held := s.pwr.held }, dict := s.dict } = s)
  ∧ (∀ (b : Fin 136) (tx found : Bool) (i : Fin 37) (v : Nat) (s : State), ((s.bank b).ring tx i).searching = true → s.sweeps b
      = false → ∃ t, exec (.ringResearchDone b tx i found v) s = .next t
      ∧ t.pwr.asks (.ringSweep (Fin.ofNat 8 (bankLight b))) = true
      ∧ { t with pwr := { t.pwr with arrivals := s.pwr.arrivals }, dict := s.dict } = s)
  ∧ (∀ (b : Fin 136) (tx found : Bool) (i : Fin 37) (v : Nat) (s : State), ((s.bank b).ring tx i).searching = false → ∃ t, exec
      (.ringResearchDone b tx i found v) s = .next t
      ∧ t = s)
  ∧ (∀ (p : Fin 128) (tx : Bool) (n : Fin 32) (agreed : Option (Fin 4)) (x : Nat) (s : State), TablesRise s → BankRises (s.bank
      (s.bankOf p)) → (agreed = none → s.lineFailed (s.bankOf p) tx ((s.bank (s.bankOf p)).lineOf tx n) = true) → s.freeLine
      (s.bankOf p) tx agreed = some x → s.obj 0x4100 8 + 1 < 2 ^ 32 → ∃ t, exec (.laneSubstitution p tx ⟨n, agreed⟩) s = .next
      t
      ∧ (t.bank (s.bankOf p)).lineOf tx n = x
      ∧ (t.bank (s.bankOf p)).ring tx x =
        { (s.bank (s.bankOf p)).ring tx x with locked := false, searching := true, since := s.time, wrong := 0, fails := 0 }
      ∧ ((t.bank (s.bankOf p)).out tx).contains n.val = true
      ∧ ((t.bank (s.bankOf p)).spareUse tx).contains x = true
      ∧ (t.pwr.has (.ringSweep (Fin.ofNat 8 (bankLight (s.bankOf p)))) = true ∨ t.pwr.asks (.ringSweep (Fin.ofNat 8 (bankLight
        (s.bankOf p)))) = true)
      ∧ (t.port p).voq.take (s.port p).voq.length = (s.port p).voq
      ∧ (((t.port p).voq.drop (s.port p).voq.length).map (fun k => (k.op, k.cls)) = (if agreed = none then [(0x40, 3)] else
        []))
      ∧ t.obj 0x4100 8 = s.obj 0x4100 8 + 1
      ∧ t.flt.raised = s.flt.raised ++
        [⟨mkEvent 0x09 sevAdvisory (16 + bankLight (s.bankOf p)) (s.bankOf p) 1 (64 * tx.toNat + n), s.gtNow⟩]
      ∧ (∀ k, k ≠ s.bankOf p → t.bank k = s.bank k)
      ∧ { t.port p with voq := (s.port p).voq } = s.port p
      ∧ (∀ k, k ≠ p.val → t.port k = s.port k)
      ∧ KeepsObjects s t [objKey 0x4100 8, objKey 0x2000 4, objKey 0x2000 5, objKey 0x7010 5, objKey 0x7010 6, objKey 0x7010 7]
      ∧
        { t with banks := s.banks, ports := s.ports, pwr := { t.pwr with arrivals := s.pwr.arrivals }, dict := s.dict, flt := { t.flt with raised := s.flt.raised } }
        = s)
  ∧ (∀ (p : Fin 128) (tx : Bool) (n : Fin 32) (s : State), Rises s.banks → s.lineFailed (s.bankOf p) tx ((s.bank (s.bankOf
      p)).lineOf tx n) = true → s.freeLine (s.bankOf p) tx none = none → ∃ t, exec (.laneSubstitution p tx ⟨n, none⟩) s = .next
      t
      ∧ ((t.bank (s.bankOf p)).out tx).contains n.val = true
      ∧ (t.bank (s.bankOf p)).lineOf tx n = (s.bank (s.bankOf p)).lineOf tx n
      ∧ (∀ k, k ≠ s.bankOf p → t.bank k = s.bank k)
      ∧ { t with banks := s.banks } = s)
  ∧ (∀ (p : Fin 128) (tx : Bool) (n : Fin 32) (agreed : Option (Fin 4)) (s : State), (if agreed = none then s.lineFailed
      (s.bankOf p) tx ((s.bank (s.bankOf p)).lineOf tx n) = false else s.freeLine (s.bankOf p) tx agreed = none) → ∃ t, exec
      (.laneSubstitution p tx ⟨n, agreed⟩) s = .next t
      ∧ t = s)
  ∧ (∀ (p : Fin 128) (s : State), TablesRise s → s.bankFailed (s.bankOf p) = true → s.bankOf p ≠ spareBank (bankLight (s.bankOf
      p)) → s.spareFree (bankLight (s.bankOf p)) = true → ∃ t, exec (.bankSubstitution ⟨p, false⟩) s = .next t
      ∧ t.bankOf p = spareBank (bankLight (s.bankOf p))
      ∧ (t.bank (s.bankOf p)).st = 7
      ∧ (t.bank (s.bankOf p)).dark = true
      ∧ (t.bank (s.bankOf p)).partner = (s.bank (s.bankOf p)).partner
      ∧ t.portSt p = 2
      ∧ (t.bank (spareBank (bankLight (s.bankOf p)))).dark = false
      ∧ (t.bank (spareBank (bankLight (s.bankOf p)))).since = s.time
      ∧ (t.bank (spareBank (bankLight (s.bankOf p)))).comb = (s.light (bankLight (s.bankOf p))).active
      ∧ (∀ k, k ≠ s.bankOf p ∧ k ≠ spareBank (bankLight (s.bankOf p)) → t.bank k = s.bank k)
      ∧ t.flt.raised = s.flt.raised ++
        [⟨mkEvent 0x09 sevAdvisory (16 + bankLight (s.bankOf p)) (s.bankOf p) 2 (spareBank (bankLight (s.bankOf p))), s.gtNow⟩]
      ∧ KeepsObjects s t [objKey 0x4121 (p + 1), objKey 0x7010 5, objKey 0x7010 6, objKey 0x7010 7]
      ∧
        { t with banks := s.banks, ports := s.ports, gt := { t.gt with ports := s.gt.ports }, dict := s.dict, flt := { t.flt with raised := s.flt.raised } }
        = s)
  ∧ (∀ (p : Fin 128) (beyond : Bool) (s : State), Rises s.banks → s.bankFailed (s.bankOf p) = true → (beyond = true ∨
      s.spareFree (bankLight (s.bankOf p)) = false ∨ s.bankOf p = spareBank (bankLight (s.bankOf p))) → ∃ t, exec
      (.bankSubstitution ⟨p, beyond⟩) s = .next t
      ∧ (t.portSt p = (if (s.bank (s.bankOf p)).lamWorks = true then 5 else 7))
      ∧ t.bankOf p = s.bankOf p
      ∧ (t.bank (s.bankOf p)).partner = (s.bank (s.bankOf p)).partner
      ∧ (∀ k, k ≠ s.bankOf p → t.bank k = s.bank k)
      ∧ t.flt.raised = s.flt.raised ++
        [⟨mkEvent 0x09 sevDegraded (16 + bankLight (s.bankOf p)) (s.bankOf p) (if (s.bank (s.bankOf p)).lamWorks = true then 5 else 7) (s.bankOf p), s.gtNow⟩]
      ∧ { t with banks := s.banks, flt := { t.flt with raised := s.flt.raised } } = s)
  ∧ (∀ (p : Fin 128) (beyond : Bool) (s : State), s.bankFailed (s.bankOf p) = false → ∃ t, exec (.bankSubstitution ⟨p, beyond⟩)
      s = .next t
      ∧ t = s)
  ∧ (∀ (l : Fin 8) (m : BitVec 16) (q : BitVec 7) (p : Fin 128) (s : State), TablesRise s → s.spareFree l = true → s.lit
      (spareBank l) = true → s.lostTo l m q = some p.val → ∃ t, exec (.spareBankLight l m q) s = .next t
      ∧ t.bankOf p = spareBank l
      ∧ t.portSt p = 2
      ∧ (t.bank (spareBank l)).partner = some (m, q)
      ∧ (t.bank (spareBank l)).since = s.time
      ∧ (t.bank (spareBank l)).comb = (s.light l).active
      ∧ (t.bank (s.bankOf p)).st = 7
      ∧ (∀ k, k ≠ s.bankOf p ∧ k ≠ spareBank l → t.bank k = s.bank k)
      ∧ KeepsObjects s t [objKey 0x4121 (p + 1), objKey 0x7010 5, objKey 0x7010 6, objKey 0x7010 7]
      ∧
        { t with banks := s.banks, ports := s.ports, gt := { t.gt with ports := s.gt.ports }, dict := s.dict, flt := { t.flt with raised := s.flt.raised } }
        = s)
  ∧ (∀ (l : Fin 8) (m : BitVec 16) (q : BitVec 7) (s : State), Rises s.banks → s.spareFree l = true → s.lit (spareBank l) =
      true → s.lostTo l m q = none → ∃ t, exec (.spareBankLight l m q) s = .next t
      ∧ t.bank (spareBank l) =
        { s.bank (spareBank l) with st := 2, before := 0, dark := false, since := s.time, light := some s.time, partner := some (m, q), comb := (s.light l).active }
      ∧ (∀ k, k ≠ spareBank l → t.bank k = s.bank k)
      ∧ t.flt.raised = s.flt.raised ++ [⟨mkEvent 0x09 sevNote (16 + bankLight (spareBank l)) (spareBank l) 3 m.toNat, s.gtNow⟩]
      ∧ { t with banks := s.banks, flt := { t.flt with raised := s.flt.raised } } = s)
  ∧ (∀ (l : Fin 8) (m : BitVec 16) (q : BitVec 7) (s : State), (s.spareFree l = false ∨ s.lit (spareBank l) = false) → ∃ t,
      exec (.spareBankLight l m q) s = .next t
      ∧ t = s)

/-- R248 to R250, R255, R258, R259, R268 to R270: loss of the partner sends a bank to PROBE, dark, and calibration begins
again; in PROBE a pulse goes out every 500 ms and an answer begins TRAIN; a NAKed frame and every later one are replayed,
and a frame replayed 8 times retrains the port; lanes that fail a retraining leave service; codewords are corrected,
identity idles name the partner, a frame on λS is taken where its CRC agrees, and data of a lane enters its deskew
buffer; commissioning records powers and ring settings and is refused while a comb is not locked to the ELM or a port is
not UP. -/
def Obligations.LinksTrainAndRetrain : Prop :=
  (∀ (p : Fin 128) (line : Fin 37) (n : Nat) (w : BitVec 288) (s : State), Rises s.banks → 2 ≤ (s.bank (s.bankOf p)).st →
      (s.bank (s.bankOf p)).st < 7 → bchRem (w.toNat ^^^ kindMask 1) = 0 → line.val ≠ 0 → bchRem w.toNat ≠ 0 → idleOk (idlePart
      w) = true → (s.bank (s.bankOf p)).idleKey line = some n → bits (idlePart w) 246 242 = n % 32 → bits (idlePart w) 241 236
      = (if line.val = 36 then 63 else line.val) → ∃ t, exec (.codewordReceive p line w) s = .next t
      ∧ t.bank (s.bankOf p) =
        { s.bank (s.bankOf p) with partner := some (BitVec.ofNat 16 (bits (idlePart w) 269 254), BitVec.ofNat 7 (bits (idlePart w) 253 247)), idle := mapSet 0 (s.bank (s.bankOf p)).idle n s.time }
      ∧ (∀ k, k ≠ s.bankOf p → t.bank k = s.bank k)
      ∧ { t with banks := s.banks } = s)
  ∧ (∀ (p : Fin 128) (line : Fin 37) (n : Nat) (w : BitVec 288) (s : State), Rises s.banks → BankRises (s.bank (s.bankOf p)) →
      2 ≤ (s.bank (s.bankOf p)).st → (s.bank (s.bankOf p)).st < 7 → bchRem (w.toNat ^^^ kindMask 1) = 0 → line.val ≠ 0 → bchRem
      w.toNat ≠ 0 → idleOk (idlePart w) = true → (s.bank (s.bankOf p)).idleKey line = some n → (bits (idlePart w) 246 242 ≠ n %
      32 ∨ bits (idlePart w) 241 236 ≠ (if line.val = 36 then 63 else line.val)) → ∃ t, exec (.codewordReceive p line w) s =
      .next t
      ∧ (t.bank (s.bankOf p)).ring false line =
        { (s.bank (s.bankOf p)).ring false line with wrong := ((s.bank (s.bankOf p)).ring false line).wrong + 1 }
      ∧ { t.bank (s.bankOf p) with partner := (s.bank (s.bankOf p)).partner, rx := (s.bank (s.bankOf p)).rx } = s.bank
        (s.bankOf p)
      ∧ (∀ k, k ≠ s.bankOf p → t.bank k = s.bank k)
      ∧ { t with banks := s.banks } = s)
  ∧ (∀ (p : Fin 128) (n : Nat) (w : BitVec 288) (f : BitVec 256) (s : State), Rises s.ports → Rises s.dict → 3 ≤ (s.bank
      (s.bankOf p)).st → (s.bank (s.bankOf p)).st ≤ 6 → bchDecode w 0 = some (n, framePayload f) → (n = 0 ∨ (n = 1 ∧ bchRem
      (w.toNat ^^^ kindMask 1) ≠ 0)) → bits f 255 248 = 3 → s.obj 0x4100 0x0B + 1 < 2 ^ 32 → ∃ t, exec (.codewordReceive p 36
      w) s = .next t
      ∧ t.port p = { s.port p with pauseUntil := s.time + bits f 207 192 * tickNs + 10 * tickUs }
      ∧ (∀ k, k ≠ p.val → t.port k = s.port k)
      ∧ t.obj 0x4100 0x0B = s.obj 0x4100 0x0B + n
      ∧ KeepsObjects s t [objKey 0x4100 0x0B]
      ∧ { t with ports := s.ports, dict := s.dict } = s)
  ∧ (∀ (p : Fin 128) (w : BitVec 288) (s : State), Rises s.dict → 2 ≤ (s.bank (s.bankOf p)).st → (s.bank (s.bankOf p)).st < 7 →
      bchRem w.toNat = 0 → w.toNat / 2 ^ 18 % 2 ^ 14 ≠ crc14 (BitVec.ofNat 256 (w.toNat / 2 ^ 32)) → s.obj 0x4100 0x0C + 1 < 2
      ^ 32 → ∃ t, exec (.codewordReceive p 36 w) s = .next t
      ∧ t.obj 0x4100 0x0C = s.obj 0x4100 0x0C + 1
      ∧ KeepsObjects s t [objKey 0x4100 0x0C]
      ∧ { t with dict := s.dict } = s)
  ∧ (∀ (p : Fin 128) (line : Fin 36) (n : Fin 32) (m : Nat) (w : BitVec 288) (s : State), TablesRise s → BankRises (s.bank
      (s.bankOf p)) → 2 ≤ (s.bank (s.bankOf p)).st → (s.bank (s.bankOf p)).st < 7 → (s.bank (s.bankOf p)).laneOf false line.val
      = some n.val → bchRem w.toNat = 0 → m < 32 → m ≠ n.val → (s.bank (s.bankOf p)).rxOut.contains m = false → mapGet []
      (s.bank (s.bankOf p)).deskew m = [] → (mapGet [] (s.bank (s.bankOf p)).deskew n.val).length < 64 → ∃ t, exec
      (.codewordReceive p line.castSucc w) s = .next t
      ∧ mapGet [] (t.bank (s.bankOf p)).deskew n.val = mapGet [] (s.bank (s.bankOf p)).deskew n.val ++ [BitVec.ofNat 270
        (w.toNat / 2 ^ 18)]
      ∧ (∀ k, k ≠ n.val → mapGet [] (t.bank (s.bankOf p)).deskew k = mapGet [] (s.bank (s.bankOf p)).deskew k)
      ∧ { t.bank (s.bankOf p) with deskew := (s.bank (s.bankOf p)).deskew } = s.bank (s.bankOf p)
      ∧ (∀ k, k ≠ s.bankOf p → t.bank k = s.bank k)
      ∧ { t with banks := s.banks, ports := s.ports } = s.unitsIn p [])
  ∧ (∀ (p : Fin 128) (line : Fin 37) (w : BitVec 288) (s : State), ((s.bank (s.bankOf p)).st < 2 ∨ (s.bank (s.bankOf p)).st =
      7) → ∃ t, exec (.codewordReceive p line w) s = .next t
      ∧ t = s)
  ∧ (∀ (p : Fin 128) (n : Fin 37) (s : State), (s.bank (s.bankOf p)).dark = false → 2 ≤ (s.bank (s.bankOf p)).st → (s.bank
      (s.bankOf p)).st ≤ 6 → (n.val ≠ 36 → (s.bank (s.bankOf p)).st = 2 ∨ ((s.bank (s.bankOf p)).st ≤ 4 ∧ ((s.bank (s.bankOf
      p)).laneOf true n).isSome = true)) → ∃ t, exec (.identityIdleSend p n) s = .next t
      ∧ t = { s with out := s.out ++ [.identityIdle (s.bankOf p) n (s.idleWord p n)] })
  ∧ (∀ (p : Fin 128) (n : Fin 37) (s : State), ((s.bank (s.bankOf p)).dark = true ∨ (s.bank (s.bankOf p)).st < 2 ∨ 6 < (s.bank
      (s.bankOf p)).st ∨ (n.val ≠ 36 ∧ 5 ≤ (s.bank (s.bankOf p)).st)) → ∃ t, exec (.identityIdleSend p n) s = .next t
      ∧ t = s)
  ∧ (∀ (b : Fin 136) (s : State), TablesRise s → 2 ≤ (s.bank b).st → (s.bank b).st < 7 → s.obj 0x4100 0x0A + 1 < 2 ^ 32 → ∃ t,
      exec (.partnerLoss b) s = .next t
      ∧ (t.bank b).st = 1
      ∧ (t.bank b).dark = true
      ∧ (t.bank b).idle = []
      ∧ (t.bank b).deskew = []
      ∧ (t.bank b).rx.all (fun kv => !kv.2.locked) = true
      ∧ (t.bank b).tx = (s.bank b).tx
      ∧ (∀ p, p < 128 → s.portOfBank b = some p → (t.gtPort p).cal = false ∧ (t.gtPort p).nS = 0 ∧ (t.gtPort p).n0 = 0)
      ∧ (∀ p, p < 128 → t.port p = (if s.portOfBank b = some p then { s.port p with txBits := { }, txLane := 0, rxBits := { } }
        else s.port p))
      ∧ t.obj 0x4100 0x0A = s.obj 0x4100 0x0A + 1
      ∧ t.flt.raised = s.flt.raised ++ [⟨mkEvent 0x09 sevNote (16 + bankLight b) b 4 0, s.gtNow⟩]
      ∧ (∀ k, k ≠ b.val → t.bank k = s.bank k)
      ∧ KeepsObjects s t [objKey 0x4100 0x0A]
      ∧
        { t with banks := s.banks, ports := s.ports, dict := s.dict, gt := { t.gt with ports := s.gt.ports }, flt := { t.flt with raised := s.flt.raised } }
        = s)
  ∧ (∀ (b : Fin 136) (s : State), ((s.bank b).st < 2 ∨ (s.bank b).st = 7) → ∃ t, exec (.partnerLoss b) s = .next t
      ∧ t = s)
  ∧ (∀ (b : Fin 136) (s : State), Rises s.banks → (s.bank b).st = 1 → s.lit b = true → ((s.bank b).pulse = 0 ∨ (s.bank b).pulse
      - 1 + 500 * tickMs ≤ s.time) → ∃ t, exec (.probePulse b) s = .next t
      ∧ t.bank b = { s.bank b with pulse := s.time + 1 }
      ∧ t.out = s.out ++ [.probe b]
      ∧ (∀ k, k ≠ b.val → t.bank k = s.bank k)
      ∧ { t with banks := s.banks, out := s.out } = s)
  ∧ (∀ (b : Fin 136) (s : State), ((s.bank b).st ≠ 1 ∨ s.lit b = false ∨ (1 ≤ (s.bank b).pulse ∧ s.time + 1 < (s.bank b).pulse
      + 500 * tickMs)) → ∃ t, exec (.probePulse b) s = .next t
      ∧ t = s)
  ∧ (∀ (b : Fin 136) (s : State), Rises s.banks → Rises s.ports → Rises s.gt.ports → (s.bank b).st = 1 → s.lit b = true → ∃ t,
      exec (.probeAnswer b) s = .next t
      ∧ t.bank b = { s.bank b with st := 2, dark := false, since := s.time, light := some s.time }
      ∧ (∀ k, k ≠ b.val → t.bank k = s.bank k)
      ∧ (∀ p, p < 128 → t.gtPort p = (if s.portOfBank b = some p then
        { s.gtPort p with cal := false, nS := 0, n0 := 0, delayS := 0, delay0 := 0 } else s.gtPort p))
      ∧ (∀ p, p < 128 → t.port p = (if s.portOfBank b = some p then { s.port p with txBits := { }, txLane := 0, rxBits := { } }
        else s.port p))
      ∧ { t with banks := s.banks, ports := s.ports, gt := { t.gt with ports := s.gt.ports } } = s)
  ∧ (∀ (b : Fin 136) (s : State), ((s.bank b).st ≠ 1 ∨ s.lit b = false) → ∃ t, exec (.probeAnswer b) s = .next t
      ∧ t = s)
  ∧ (∀ (p : Fin 128) (q : BitVec 16) (later : List Sent) (s : State), TablesRise s → (s.port p).nakIn = some q → (s.port
      p).retry.any (fun f => f.seq == q) = true → later = (s.port p).retry.filter (fun f => decide ((f.seq - q).toNat <
      0x8000)) → s.obj 0x4100 0x0D + later.length < 2 ^ 32 → ∃ t, exec (.linkFrameReplay p q) s = .next t
      ∧ t.port p =
        { s.port p with resend := later, nakIn := none, replays := if (s.port p).replaySeq = q then (s.port p).replays + 1 else 1, replaySeq := q }
      ∧ t.obj 0x4100 0x0D = s.obj 0x4100 0x0D + later.length
      ∧ t.flt.raised = s.flt.raised ++ [⟨mkEvent 0x09 sevNote (16 + p.val / 16) p 0 q.toNat, s.gtNow⟩]
      ∧ (∀ k, k ≠ p.val → t.port k = s.port k)
      ∧ KeepsObjects s t [objKey 0x4100 0x0D]
      ∧ { t with ports := s.ports, dict := s.dict, flt := { t.flt with raised := s.flt.raised } } = s)
  ∧ (∀ (p : Fin 128) (q : BitVec 16) (s : State), ((s.port p).nakIn ≠ some q ∨ (s.port p).retry.any (fun f => f.seq == q) =
      false) → ∃ t, exec (.linkFrameReplay p q) s = .next t
      ∧ t = s)
  ∧ (∀ (p : Fin 128) (s : State), Rises s.banks → Rises s.ports → (s.portSt p = 3 ∨ s.portSt p = 4) → 8 ≤ (s.port p).replays →
      ∃ t, exec (.portRetrain p) s = .next t
      ∧ t.bank (s.bankOf p) = { s.bank (s.bankOf p) with before := s.portSt p, st := 2, since := s.time, deskew := [] }
      ∧ t.port p = { s.port p with txBits := { }, txLane := 0, rxBits := { } }
      ∧ t.linkUp p = true
      ∧ (∀ k, k ≠ s.bankOf p → t.bank k = s.bank k)
      ∧ (∀ k, k ≠ p.val → t.port k = s.port k)
      ∧ { t with banks := s.banks, ports := s.ports } = s)
  ∧ (∀ (p : Fin 128) (s : State), ((s.portSt p ≠ 3 ∧ s.portSt p ≠ 4) ∨ (s.port p).replays < 8) → ∃ t, exec (.portRetrain p) s =
      .next t
      ∧ t = s)
  ∧ (∀ (p : Fin 128) (s : State), Rises s.banks → Rises s.ports → s.portSt p = 2 → (s.bank (s.bankOf p)).before ≠ 0 → ∃ t, exec
      (.portRetrainDone p true [] []) s = .next t
      ∧ t.bank (s.bankOf p) = { s.bank (s.bankOf p) with st := (s.bank (s.bankOf p)).upState, before := 0 }
      ∧ t.port p = { s.port p with replays := 0 }
      ∧ (∀ k, k ≠ s.bankOf p → t.bank k = s.bank k)
      ∧ (∀ k, k ≠ p.val → t.port k = s.port k)
      ∧ { t with banks := s.banks, ports := s.ports } = s)
  ∧ (∀ (p : Fin 128) (tx rx : List (Fin 32)) (s : State), Rises s.banks → Rises s.ports → BankRises (s.bank (s.bankOf p)) →
      s.portSt p = 2 → (s.bank (s.bankOf p)).before ≠ 0 → (s.bank (s.bankOf p)).txLine = [] → (s.bank (s.bankOf p)).rxLine = []
      → ∃ t, exec (.portRetrainDone p true tx rx) s = .next t
      ∧ (∀ n ∈ tx, (t.bank (s.bankOf p)).txOut.contains n.val = true ∧ ((t.bank (s.bankOf p)).ring true n.val).searching =
        true)
      ∧ (∀ n ∈ rx, (t.bank (s.bankOf p)).rxOut.contains n.val = true ∧ ((t.bank (s.bankOf p)).ring false n.val).searching =
        true)
      ∧ t.portSt p = (t.bank (s.bankOf p)).upState
      ∧ (t.bank (s.bankOf p)).before = 0
      ∧ t.port p = { s.port p with replays := 0 }
      ∧ (∀ k, k ≠ s.bankOf p → t.bank k = s.bank k)
      ∧ (∀ k, k ≠ p.val → t.port k = s.port k)
      ∧ { t with banks := s.banks, ports := s.ports, pwr := { t.pwr with arrivals := s.pwr.arrivals }, dict := s.dict } = s)
  ∧ (∀ (p : Fin 128) (tx rx : List (Fin 32)) (s : State), Rises s.banks → s.portSt p = 2 → (s.bank (s.bankOf p)).before ≠ 0 → ∃
      t, exec (.portRetrainDone p false tx rx) s = .next t
      ∧ t.bank (s.bankOf p) =
        { s.bank (s.bankOf p) with failed := ((s.bank (s.bankOf p)).failed ++ [s.time]).filter (fun τ => decide (s.time ≤ τ + tickS)), since := s.time }
      ∧ (∀ k, k ≠ s.bankOf p → t.bank k = s.bank k)
      ∧ { t with banks := s.banks } = s)
  ∧ (∀ (p : Fin 128) (ok : Bool) (tx rx : List (Fin 32)) (s : State), (s.portSt p ≠ 2 ∨ (s.bank (s.bankOf p)).before = 0) → ∃
      t, exec (.portRetrainDone p ok tx rx) s = .next t
      ∧ t = s)
  ∧ (∀ (s : State), KeysRise s → Writable s → (∀ l : Fin 8, (s.light l.val).st = 1) → (∀ p : Fin 128, s.portSt p.val = 3 ∨
      s.portSt p.val = 0 ∨ s.portSt p.val = 1 ∨ s.portSt p.val = 7) → ∃ t, exec (.optCommission 1) s = .next t
      ∧ t.sys.lastStatus = rpOk
      ∧ t.obj 0x4100 0x0E = s.gtNow
      ∧ (∀ l, l < 8 → { t.light l with refs := (s.light l).refs } = { s.light l with record := true, fades := [] })
      ∧ (∀ l, l < 8 → (t.light l).refs = (s.light l).powers.foldl (fun m kv => mapSet none m kv.1 kv.2) (s.light l).refs)
      ∧ (∀ l, l < 8 → (mapGet { } t.flash.recs (16 + l)).retryAt = none)
      ∧ t.flt.raised = s.flt.raised ++ [⟨softEvent 24 0xFF 0x4900 (field 8 0x4900 + 1), s.gtNow⟩]
      ∧ KeepsObjects s t [objKey 0x4100 0x0E]
      ∧
        { t with lights := s.lights, flash := { t.flash with recs := s.flash.recs }, dict := s.dict, flt := { t.flt with raised := s.flt.raised }, sys := { t.sys with lastStatus := s.sys.lastStatus } }
        = s)
  ∧ (∀ (v : BitVec 8) (s : State), Writable s → (v ≠ 1 ∨ (∃ l : Fin 8, (s.light l.val).st ≠ 1) ∨ ∃ p : Fin 128, s.portSt p.val
      ≠ 0 ∧ s.portSt p.val ≠ 1 ∧ s.portSt p.val ≠ 3 ∧ s.portSt p.val ≠ 7) → ∃ t, exec (.optCommission v) s = .next t
      ∧ t = { s with sys := { s.sys with lastStatus := if v ≠ 1 then rpRange else rpState } })
  ∧ (∀ (s : State), Rises s.flash.recs → s.elm.refreshAt + 86400 * tickS ≤ s.time → s.sys.ball ≠ none → ∃ t, exec
      (.ringRecordRefresh) s = .next t
      ∧ t.elm = { s.elm with refreshAt := s.time }
      ∧ (∀ (k : Fin 136) (tx : Bool) (i : Fin 37), (t.bank k.val).ring tx i = ((s.bank k.val).ring tx i).drifted s.time k.val
        tx i.val)
      ∧ (∀ (k : Fin 136), { t.bank k.val with tx := (s.bank k.val).tx, rx := (s.bank k.val).rx } = s.bank k.val)
      ∧ t.lights = s.lights
      ∧ (∀ l, l < 8 → (s.light l).record = false → mapGet { } t.flash.recs (16 + l) = mapGet { } s.flash.recs (16 + l))
      ∧ (∀ l, l < 8 → (s.light l).record = true → (mapGet { } t.flash.recs (16 + l)).retryAt = none)
      ∧ { t with elm := s.elm, banks := s.banks, flash := { t.flash with recs := s.flash.recs } } = s)
  ∧ (∀ (s : State), (s.time < s.elm.refreshAt + 86400 * tickS ∨ s.sys.ball = none) → ∃ t, exec (.ringRecordRefresh) s = .next t
      ∧ t = s)

/-- R276, R277, R279, R281 to R288: a good flit with the next SEQ is delivered and acknowledges the other direction; one
that fails its parity or CRC is NAKed in the other direction and its parity errors are noted on the physical lanes; a NAK
resends from the flit named; training replaces failed lanes and takes the widest width left; a flit replayed 8 times
retrains its bundle; a lane with 8 errors in 2 µs leaves for a spare of its half; a half short of lanes takes the bundle
to the width left, and a bundle that is disabled hands over the flits it holds; a lost role passes to the first bundle of
another. -/
def Obligations.FlitsAndBundles : Prop :=
  (∀ (e : Fin 53) (b : Fin 16) (rev : Bool) (f : BitVec 2048) (s : State), Rises s.lane.bundles → s.bundleWorks e b = true →
      b.val < bundlesOf e → parityFails f = [] → flitCrcOk (flitBody f) = true → (fbType (flitBody f) = 1 ∨ (fbType (flitBody
      f) = 2 ∧ (s.bundle e b).role = 1)) → fbSeq (flitBody f) = ((s.bundle e b).dir rev).got + 1 → ∃ t, exec (.flitReceive e b
      rev f) s = .next t
      ∧ ((t.bundle e b).dir rev).got = fbSeq (flitBody f)
      ∧ ((t.bundle e b).dir rev).nak = none
      ∧ ((t.bundle e b).dir rev).rx = ((s.bundle e b).dir rev).rx ++ [(BitVec.ofNat 8 (fbType (flitBody f)), BitVec.ofNat 1920
        ((flitBody f).toNat / 2 ^ 64))]
      ∧ ((t.bundle e b).dir rev).lanes = ((s.bundle e b).dir rev).lanes
      ∧ (t.bundle e b).dir (!rev) = ((s.bundle e b).dir (!rev)).acked (fbAck (flitBody f))
      ∧ { t.bundle e b with fwd := (s.bundle e b).fwd, rev := (s.bundle e b).rev } = s.bundle e b
      ∧ (∀ k, k ≠ 16 * e.val + b.val → mapGet { } t.lane.bundles k = mapGet { } s.lane.bundles k)
      ∧ { t with lane := { t.lane with bundles := s.lane.bundles } } = s)
  ∧ (∀ (e : Fin 53) (b : Fin 16) (rev : Bool) (f : BitVec 2048) (s : State), Rises s.lane.bundles → s.bundleWorks e b = true →
      b.val < bundlesOf e → parityFails f = [] → flitCrcOk (flitBody f) = true → fbType (flitBody f) = 1 → fbSeq (flitBody f) =
      ((s.bundle e b).dir rev).got → ∃ t, exec (.flitReceive e b rev f) s = .next t
      ∧ { (t.bundle e b).dir rev with sent := ((s.bundle e b).dir rev).sent } = (s.bundle e b).dir rev
      ∧ (t.bundle e b).dir (!rev) = ((s.bundle e b).dir (!rev)).acked (fbAck (flitBody f))
      ∧ (∀ k, k ≠ 16 * e.val + b.val → mapGet { } t.lane.bundles k = mapGet { } s.lane.bundles k)
      ∧ { t with lane := { t.lane with bundles := s.lane.bundles } } = s)
  ∧ (∀ (e : Fin 53) (b : Fin 16) (rev : Bool) (f : BitVec 2048) (s : State), Rises s.lane.bundles → s.bundleWorks e b = true →
      b.val < bundlesOf e → (parityFails f ≠ [] ∨ flitCrcOk (flitBody f) = false) → ∃ t, exec (.flitReceive e b rev f) s =
      .next t
      ∧ ((t.bundle e b).dir rev).nak = some (((s.bundle e b).dir rev).got + 1)
      ∧ { (t.bundle e b).dir rev with nak := ((s.bundle e b).dir rev).nak, errs := ((s.bundle e b).dir rev).errs } = (s.bundle
        e b).dir rev
      ∧ (parityFails f = [] → ((t.bundle e b).dir rev).errs = ((s.bundle e b).dir rev).errs)
      ∧ (t.bundle e b).dir (!rev) = (s.bundle e b).dir (!rev)
      ∧ t.out = s.out ++ [.flit e b (!rev) (flitBodyOf 0 3 ((s.bundle e b).dir (!rev)).sent ((s.bundle e b).dir rev).got)]
      ∧ (∀ k, k ≠ 16 * e.val + b.val → mapGet { } t.lane.bundles k = mapGet { } s.lane.bundles k)
      ∧ { t with out := s.out, lane := { t.lane with bundles := s.lane.bundles } } = s)
  ∧ (∀ (e : Fin 53) (b : Fin 16) (rev : Bool) (i : Fin 64) (n : Nat) (f : BitVec 2048) (s : State), Rises s.lane.bundles →
      Rises ((s.bundle e b).dir rev).errs → s.bundleWorks e b = true → b.val < bundlesOf e → parityFails f = [i.val] → n =
      ((s.bundle e b).dir rev).lanes.physOf (if (s.bundle e b).width = 1 then i.val else i.val % 32 + 32 * ((s.bundle e
      b).width - 2)) → ∃ t, exec (.flitReceive e b rev f) s = .next t
      ∧ mapGet [] ((t.bundle e b).dir rev).errs n = (mapGet [] ((s.bundle e b).dir rev).errs n).filter (fun τ => decide (s.time
        ≤ τ + 2 * tickUs)) ++ [s.time]
      ∧ (∀ k, k ≠ n → mapGet [] ((t.bundle e b).dir rev).errs k = mapGet [] ((s.bundle e b).dir rev).errs k))
  ∧ (∀ (e : Fin 53) (b : Fin 16) (rev : Bool) (k : Nat) (f : BitVec 2048) (s : State), Rises s.lane.bundles → s.bundleWorks e b
      = true → b.val < bundlesOf e → parityFails f = [] → flitCrcOk (flitBody f) = true → fbType (flitBody f) = 1 → 1 ≤ k → k <
      2048 → fbSeq (flitBody f) = ((s.bundle e b).dir rev).got + 1 + BitVec.ofNat 12 k → ∃ t, exec (.flitReceive e b rev f) s =
      .next t
      ∧ ((t.bundle e b).dir rev).nak = some (((s.bundle e b).dir rev).got + 1)
      ∧ ((t.bundle e b).dir rev).got = ((s.bundle e b).dir rev).got
      ∧ ((t.bundle e b).dir rev).rx = ((s.bundle e b).dir rev).rx
      ∧ (t.bundle e b).dir (!rev) = ((s.bundle e b).dir (!rev)).acked (fbAck (flitBody f))
      ∧ { t with lane := { t.lane with bundles := s.lane.bundles } } = s)
  ∧ (∀ (e : Fin 53) (b : Fin 16) (rev : Bool) (f : BitVec 2048) (s : State), Rises s.lane.bundles → s.bundleWorks e b = true →
      b.val < bundlesOf e → parityFails f = [] → flitCrcOk (flitBody f) = true → fbType (flitBody f) = 4 → ∃ t, exec
      (.flitReceive e b rev f) s = .next t
      ∧ (t.bundle e b).width = 0
      ∧ (t.bundle e b).dir rev = (s.bundle e b).dir rev
      ∧ (t.bundle e b).dir (!rev) = ((s.bundle e b).dir (!rev)).acked (fbAck (flitBody f))
      ∧ (t.bundle e b).role = (s.bundle e b).role
      ∧ { t with lane := { t.lane with bundles := s.lane.bundles } } = s)
  ∧ (∀ (e : Fin 53) (b : Fin 16) (rev : Bool) (f : BitVec 2048) (s : State), (s.bundleWorks e b = false ∨ bundlesOf e ≤ b.val ∨
      (parityFails f = [] ∧ flitCrcOk (flitBody f) = true ∧ fbType (flitBody f) = 2 ∧ (s.bundle e b).role ≠ 1)) → ∃ t, exec
      (.flitReceive e b rev f) s = .next t
      ∧ t = s)
  ∧ (∀ (e : Fin 53) (b : Fin 16) (rev : Bool) (q : BitVec 12) (fs : List Flit) (s : State), TablesRise s → s.bundleWorks e b =
      true → b.val < bundlesOf e → fs = ((s.bundle e b).dir rev).retry.filter (fun f => seqUpTo q f.seq) → fs ≠ [] → s.obj
      0x5200 4 + fs.length < 2 ^ 32 → ∃ t, exec (.flitNak e b rev q) s = .next t
      ∧ t.out = s.out ++ fs.map (fun f => .flit e b rev (flitBodyOf f.pay f.ty f.seq ((s.bundle e b).dir (!rev)).got))
      ∧ t.obj 0x5200 4 = s.obj 0x5200 4 + fs.length
      ∧ (t.bundle e b).dir rev =
        { (s.bundle e b).dir rev with replays := if ((s.bundle e b).dir rev).replaySeq = q then ((s.bundle e b).dir rev).replays + 1 else 1, replaySeq := q }
      ∧ (t.bundle e b).dir (!rev) = (s.bundle e b).dir (!rev)
      ∧ t.flt.raised = s.flt.raised ++ [⟨mkEvent 0x08 sevNote (edgeEnds e).1 e 0 b, s.gtNow⟩]
      ∧ (∀ k, k ≠ 16 * e.val + b.val → mapGet { } t.lane.bundles k = mapGet { } s.lane.bundles k)
      ∧ KeepsObjects s t [objKey 0x5200 4]
      ∧
        { t with out := s.out, dict := s.dict, lane := { t.lane with bundles := s.lane.bundles }, flt := { t.flt with raised := s.flt.raised } }
        = s)
  ∧ (∀ (e : Fin 53) (b : Fin 16) (rev : Bool) (q : BitVec 12) (s : State), (s.bundleWorks e b = false ∨ bundlesOf e ≤ b.val ∨
      ((s.bundle e b).dir rev).retry = []) → ∃ t, exec (.flitNak e b rev q) s = .next t
      ∧ t = s)
  ∧ (∀ (e : Fin 53) (b : Fin 16) (ns : List (Bool × Fin 68)) (s : State), TablesRise s → (s.bundle e b).width = 0 → b.val <
      bundlesOf e → s.canTrain (edgeEnds e).1 = true → s.canTrain (edgeEnds e).2 = true → 7 ≤ s.bootStep → s.bootStep ≤ 12 →
      (s.bootStep = 7 → ∀ k ∈ [(edgeEnds e).1, (edgeEnds e).2], s.pwr.has (.startLanes (Fin.ofNat 25 k)) = true) → s.fab.stuck
      = [] → ∃ t, exec (.bundleTraining e b ns) s = .next t
      ∧ (t.bundle e b).width = (t.bundle e b).widest
      ∧ (t.bundle e b).last = (t.bundle e b).width
      ∧ (t.bundle e b).role = (s.bundle e b).role
      ∧ (∀ p ∈ ns, ((t.bundle e b).dir p.1).lanes.bad.contains p.2.val = true)
      ∧ (t.bundle e b).fwd.errs = [] ∧ (t.bundle e b).rev.errs = [] ∧ (t.bundle e b).fwd.replays = 0 ∧ (t.bundle e
        b).rev.replays = 0
      ∧ ((t.bundle e b).width ≠ 4 → (t.bundle e b).fwd.retry = (s.bundle e b).fwd.retry ∧ (t.bundle e b).rev.retry = (s.bundle
        e b).rev.retry ∧ t.out = s.out ∧ { t.lane with bundles := s.lane.bundles } = s.lane)
      ∧ ((t.bundle e b).width = 4 → (s.bundle e b).last ≠ 4 → t.flt.raised.getLast? = some
        ⟨mkEvent 0x08 sevDegraded (edgeEnds e).1 e 2 b, s.gtNow⟩)
      ∧ ((t.bundle e b).width = 1 → (s.bundle e b).last = 0 → t.flt = s.flt)
      ∧
        { t with out := s.out, dict := s.dict, lane := { t.lane with bundles := s.lane.bundles, cur := s.lane.cur }, flt := { t.flt with raised := s.flt.raised } }
        = s)
  ∧ (∀ (e : Fin 53) (b : Fin 16) (ns : List (Bool × Fin 68)) (s : State), ((s.bundle e b).width ≠ 0 ∨ bundlesOf e ≤ b.val ∨
      s.bootStep < 7 ∨ s.canTrain (edgeEnds e).1 = false ∨ s.canTrain (edgeEnds e).2 = false) → ∃ t, exec (.bundleTraining e b
      ns) s = .next t
      ∧ t = s)
  ∧ (∀ (e : Fin 53) (b : Fin 16) (rev : Bool) (s : State), Rises s.lane.bundles → s.bundleWorks e b = true → 8 ≤ ((s.bundle e
      b).dir rev).replays → ∃ t, exec (.bundleRetrain e b rev) s = .next t
      ∧ t.bundle e b = { s.bundle e b with width := 0 }
      ∧ t.out = s.out ++ [.flit e b rev (flitBodyOf 0 4 ((s.bundle e b).dir rev).sent ((s.bundle e b).dir (!rev)).got)]
      ∧ (∀ k, k ≠ 16 * e.val + b.val → mapGet { } t.lane.bundles k = mapGet { } s.lane.bundles k)
      ∧ { t with out := s.out, lane := { t.lane with bundles := s.lane.bundles } } = s)
  ∧ (∀ (e : Fin 53) (b : Fin 16) (rev : Bool) (s : State), (s.bundleWorks e b = false ∨ ((s.bundle e b).dir rev).replays < 8) →
      ∃ t, exec (.bundleRetrain e b rev) s = .next t
      ∧ t = s)
  ∧ (∀ (e : Fin 53) (b : Fin 16) (rev : Bool) (n : Fin 68) (s : State), TablesRise s → ((s.bundle e b).width = 1 ∨ (s.bundle e
      b).width = 2 + n.val / 34) → 8 ≤ (mapGet [] ((s.bundle e b).dir rev).errs n.val).length → Rises ((s.bundle e b).dir
      rev).errs → ((s.bundle e b).dir rev).lanes.bad.contains n.val = false → 32 < ((s.bundle e b).dir rev).lanes.goodIn (n.val
      / 34) → (s.bundle e b).last ≠ 0 → s.obj 0x5200 1 + 1 < 2 ^ 32 → ∃ t, exec (.panelLaneFailed e ⟨b, rev⟩ n) s = .next t
      ∧ ((t.bundle e b).dir rev).lanes = ((s.bundle e b).dir rev).lanes.replace n
      ∧ ((t.bundle e b).dir rev).lanes.bad.contains n.val = true
      ∧ (((s.bundle e b).dir rev).lanes = { } → n.val % 34 < 32 → ((t.bundle e b).dir rev).lanes.physOf (n.val % 34 + 32 *
        (n.val / 34)) = 34 * (n.val / 34) + 32)
      ∧ mapGet [] ((t.bundle e b).dir rev).errs n.val = []
      ∧ (t.bundle e b).dir (!rev) = (s.bundle e b).dir (!rev)
      ∧ (t.bundle e b).width = (s.bundle e b).width
      ∧ t.obj 0x5200 1 = s.obj 0x5200 1 + 1
      ∧ t.flt.raised = s.flt.raised ++
        [⟨mkEvent 0x08 sevAdvisory (edgeEnds e).1 e 0 (field 16 rev.toNat + 256 * b.val + n.val), s.gtNow⟩]
      ∧ (∀ k, k ≠ 16 * e.val + b.val → mapGet { } t.lane.bundles k = mapGet { } s.lane.bundles k)
      ∧ KeepsObjects s t [objKey 0x5200 1, objKey 0x7010 2]
      ∧
        { t with dict := s.dict, lane := { t.lane with bundles := s.lane.bundles }, flt := { t.flt with raised := s.flt.raised } }
        = s)
  ∧ (∀ (e : Fin 53) (b : Fin 16) (rev : Bool) (n : Fin 68) (s : State), TablesRise s → ((s.bundle e b).width = 1 ∨ (s.bundle e
      b).width = 2 + n.val / 34) → 8 ≤ (mapGet [] ((s.bundle e b).dir rev).errs n.val).length → ((s.bundle e b).dir
      rev).lanes.bad.contains n.val = false → ((s.bundle e b).dir rev).lanes.goodIn (n.val / 34) = 32 → ∃ t, exec
      (.panelLaneFailed e ⟨b, rev⟩ n) s = .next t
      ∧ ((t.bundle e b).dir rev).lanes.bad.contains n.val = true
      ∧ (t.bundle e b).goodIn (n.val / 34) < 32
      ∧ (t.bundle e b).dir (!rev) = (s.bundle e b).dir (!rev)
      ∧ (∀ k, k ≠ 16 * e.val + b.val → mapGet { } t.lane.bundles k = mapGet { } s.lane.bundles k)
      ∧ KeepsObjects s t [objKey 0x7010 2]
      ∧ { t with dict := s.dict, lane := { t.lane with bundles := s.lane.bundles } } = s)
  ∧ (∀ (e : Fin 53) (b : Fin 16) (rev : Bool) (n : Fin 68) (s : State), (s.bundleWorks e b = false ∨ (mapGet [] ((s.bundle e
      b).dir rev).errs n.val).length < 8) → ∃ t, exec (.panelLaneFailed e ⟨b, rev⟩ n) s = .next t
      ∧ t = s)
  ∧ (∀ (e : Fin 53) (b : Fin 16) (w : Nat) (s : State), TablesRise s → (s.bundle e b).widest = w → (w = 2 ∨ w = 3) → ((s.bundle
      e b).width = 1 ∨ (s.bundle e b).width = 5 - w) → (s.bundle e b).last = (s.bundle e b).width → s.obj 0x5200 2 + 1 < 2 ^ 32
      → ∃ t, exec (.bundleHalfWidth e b) s = .next t
      ∧ t.bundle e b = { s.bundle e b with width := w, last := w }
      ∧ t.obj 0x5200 2 = s.obj 0x5200 2 + 1
      ∧ t.flt.raised = s.flt.raised ++ [⟨mkEvent 0x08 sevDegraded (edgeEnds e).1 e 1 b, s.gtNow⟩]
      ∧ (∀ k, k ≠ 16 * e.val + b.val → mapGet { } t.lane.bundles k = mapGet { } s.lane.bundles k)
      ∧ KeepsObjects s t [objKey 0x5200 2, objKey 0x7010 2]
      ∧
        { t with dict := s.dict, lane := { t.lane with bundles := s.lane.bundles }, flt := { t.flt with raised := s.flt.raised } }
        = s)
  ∧ (∀ (e : Fin 53) (b : Fin 16) (s : State), TablesRise s → s.bundleWorks e b = true → (s.bundle e b).widest = 4 → (s.bundle e
      b).last = (s.bundle e b).width → (∀ k : Fin 16, k ≠ b → (s.bundle e k).role ≠ (s.bundle e b).role ∨ s.bundleWorks e k =
      false) → ∃ t, exec (.bundleHalfWidth e b) s = .next t
      ∧ t.bundle e b = { s.bundle e b with width := 4, last := 4 }
      ∧ t.flt.raised = s.flt.raised ++ [⟨mkEvent 0x08 sevDegraded (edgeEnds e).1 e 2 b, s.gtNow⟩]
      ∧ (∀ k, k ≠ 16 * e.val + b.val → mapGet { } t.lane.bundles k = mapGet { } s.lane.bundles k)
      ∧ KeepsObjects s t [objKey 0x7010 2]
      ∧
        { t with dict := s.dict, lane := { t.lane with bundles := s.lane.bundles }, flt := { t.flt with raised := s.flt.raised } }
        = s)
  ∧ (∀ (e : Fin 53) (b c : Fin 16) (f : Flit) (s : State), TablesRise s → s.bundleWorks e b = true → (s.bundle e b).widest = 4
      → b.val < bundlesOf e → c.val < bundlesOf e → c ≠ b → s.bundleWorks e c = true → (s.bundle e c).role = (s.bundle e
      b).role → (∀ k : Fin 16, k ≠ b → k ≠ c → (s.bundle e k).role ≠ (s.bundle e b).role) → (s.bundle e b).fwd.retry = [f] →
      (s.bundle e b).rev.retry = [] → (s.bundle e c).fwd.retry.length < 256 → s.obj 0x5200 4 + 1 < 2 ^ 32 → ∃ t, exec
      (.bundleHalfWidth e b) s = .next t
      ∧ (t.bundle e b).width = 4
      ∧ (t.bundle e b).fwd.retry = []
      ∧ (t.bundle e c).fwd =
        { (s.bundle e c).fwd with sent := (s.bundle e c).fwd.sent + 1, retry := (s.bundle e c).fwd.retry ++ [{ f with seq := (s.bundle e c).fwd.sent + 1 }] }
      ∧ (t.bundle e c).rev = (s.bundle e c).rev
      ∧ t.out = s.out ++ [.flit e c false (flitBodyOf f.pay f.ty ((s.bundle e c).fwd.sent + 1) (s.bundle e c).rev.got)]
      ∧ t.obj 0x5200 4 = s.obj 0x5200 4 + 1
      ∧
        { t with out := s.out, dict := s.dict, lane := { t.lane with bundles := s.lane.bundles, cur := s.lane.cur }, flt := { t.flt with raised := s.flt.raised } }
        = s)
  ∧ (∀ (e : Fin 53) (b : Fin 16) (s : State), (s.bundleWorks e b = false ∨ (32 ≤ (s.bundle e b).goodIn 0 ∧ 32 ≤ (s.bundle e
      b).goodIn 1)) → ∃ t, exec (.bundleHalfWidth e b) s = .next t
      ∧ t = s)
  ∧ (∀ (e : Fin 53) (b : Fin 16) (s : State), Rises s.lane.bundles → s.roleLost e 1 = true → s.firstOf e 3 = some b.val → (∀ k
      : Fin 16, (s.bundle e k).width = 4 → (s.bundle e k).fwd.retry = [] ∧ (s.bundle e k).rev.retry = []) → ∃ t, exec
      (.roleRefill e) s = .next t
      ∧ (t.bundle e b).role = 1
      ∧ (∀ k, k < 16 → { t.bundle e k with role := (s.bundle e k).role } = s.bundle e k)
      ∧ (∀ k, k < 16 → k ≠ b.val → (s.bundle e k).role ≠ 2 → t.bundle e k = s.bundle e k)
      ∧ { t with lane := { t.lane with bundles := s.lane.bundles } } = s)
  ∧ (∀ (e : Fin 53) (b c : Fin 16) (s : State), Rises s.lane.bundles → (s.bundle e c).role = 1 → (s.bundle e c).width ≠ 4 →
      c.val < bundlesOf e → s.roleLost e 3 = true → s.firstOf e 2 = some b.val → (∀ k : Fin 16, (s.bundle e k).width = 4 →
      (s.bundle e k).fwd.retry = [] ∧ (s.bundle e k).rev.retry = []) → ∃ t, exec (.roleRefill e) s = .next t
      ∧ t.bundle e b = { s.bundle e b with role := 3 }
      ∧ (∀ k, k < 16 → k ≠ b.val → t.bundle e k = s.bundle e k)
      ∧ { t with lane := { t.lane with bundles := s.lane.bundles } } = s)
  ∧ (∀ (e : Fin 53) (b c : Fin 16) (s : State), (s.bundle e b).role = 1 → (s.bundle e b).width ≠ 4 → b.val < bundlesOf e →
      (s.bundle e c).role = 3 → (s.bundle e c).width ≠ 4 → c.val < bundlesOf e → (∀ k : Fin 16, (s.bundle e k).width = 4 →
      (s.bundle e k).fwd.retry = [] ∧ (s.bundle e k).rev.retry = []) → ∃ t, exec (.roleRefill e) s = .next t
      ∧ t = s)

/-- R287, R289, R290, R292, R310: each port's effective weight is the number of its transmit lanes in service, none where
it is not eligible or its light die is cut off, and the routers learn the half-width bundles; routers learn which mesh
edges are down, each edge newly lost and the second ring edge is an event; the lane test is refused while the module is
ready, a queue is enabled or a port is on, and at its end failing edges are shown, failing lanes are logged and every
bundle trains again. -/
def Obligations.LaneMapsAndTests : Prop :=
  (∀ (s : State), s.fab.held = [] → ∃ t, exec (.routeWeightUpdate) s = .next t
      ∧ (∀ p, p < 128 → mapGet 0 t.fab.eff p = (if s.eligible p 1 = true ∧ ¬ (s.edgeDown (24 + 2 * (p / 16)) = true ∧
        s.edgeDown (25 + 2 * (p / 16)) = true) then (s.bank (s.bankOf p)).lanesTx else 0))
      ∧ t.lane.halves = (s.lane.bundles.filter (fun kv => kv.2.width == 2 || kv.2.width == 3)).map (·.1)
      ∧ { t with fab := { t.fab with eff := s.fab.eff }, lane := { t.lane with halves := s.lane.halves } } = s)
  ∧ (∀ (s : State), (∀ e : Fin 40, s.edgeLost e.val = false) → (∀ e : Fin 13, s.edgeLost (40 + e.val) = false) → s.fab.stuck =
      [] → ∃ t, exec (.detourLoad) s = .next t
      ∧ (∀ e, e < 24 → t.lane.detours.contains e = s.edgeDown e)
      ∧ t.lane.ringDown = false
      ∧ { t with lane := { t.lane with detours := s.lane.detours, ringDown := s.lane.ringDown } } = s)
  ∧ (∀ (e : Fin 40) (s : State), s.edgeLost e = true → (∀ k : Fin 53, k.val ≠ e.val → s.edgeLost k.val = false) →
      s.lane.detours.contains e.val = false → s.fab.stuck = [] → ∃ t, exec (.detourLoad) s = .next t
      ∧ t.lane.detours.contains e.val = true
      ∧ t.flt.raised = s.flt.raised ++ [⟨mkEvent 0x08 sevDegraded (edgeEnds e).1 e 3 0, s.gtNow⟩]
      ∧ t.lane.ringDown = false
      ∧
        { t with lane := { t.lane with detours := s.lane.detours, ringDown := s.lane.ringDown }, flt := { t.flt with raised := s.flt.raised } }
        = s)
  ∧ (∀ (a b : Fin 13) (s : State), a < b → s.edgeLost (40 + a.val) = true → s.edgeLost (40 + b.val) = true → (∀ k : Fin 40,
      s.edgeLost k.val = false) → s.lane.ringDown = false → s.fab.stuck = [] → ∃ t, exec (.detourLoad) s = .next t
      ∧ t.lane.ringDown = true
      ∧ t.flt.raised = s.flt.raised ++ [⟨mkEvent 0x08 sevDegraded 24 0xFF 4 0, s.gtNow⟩]
      ∧
        { t with lane := { t.lane with detours := s.lane.detours, ringDown := s.lane.ringDown }, flt := { t.flt with raised := s.flt.raised } }
        = s)
  ∧ (∀ (v : BitVec 8) (s : State), TablesRise s → Writable s → s.bootStep ≠ 12 → s.queuesOff = true → (∀ b : Fin 136, (s.bank
      b.val).st = 0) → (v = 1 ∨ v = 2) → ∃ t, exec (.laneTestMode v) s = .next t
      ∧ t.sys.lastStatus = rpOk
      ∧ t.obj 0x5A00 1 = v.toNat
      ∧ t.lane = { s.lane with test := v.toNat, testAt := s.time }
      ∧ t.flt.raised = s.flt.raised ++ [⟨softEvent 24 0xFF 0x5A00 (field 8 0x5A00 + 1), s.gtNow⟩]
      ∧ KeepsObjects s t [objKey 0x5A00 1]
      ∧
        { t with lane := s.lane, dict := s.dict, sys := { t.sys with lastStatus := s.sys.lastStatus }, flt := { t.flt with raised := s.flt.raised } }
        = s)
  ∧ (∀ (v : BitVec 8) (s : State), Writable s → (s.bootStep = 12 ∨ s.queuesOff = false ∨ (s.bank 0).st ≠ 0 ∨ 2 < v.toNat) → v ≠
      0 → ∃ t, exec (.laneTestMode v) s = .next t
      ∧ t = { s with sys := { s.sys with lastStatus := if 2 < v.toNat then rpRange else rpState } })
  ∧ (∀ (s : State), TablesRise s → Writable s → s.lane.test ≠ 0 → ∃ t, exec (.laneTestMode 0) s = .next t
      ∧ t.sys.lastStatus = rpOk
      ∧ t.obj 0x5A00 1 = 0
      ∧ t.lane =
        { s.lane with test := 0, bundles := s.lane.bundles.map (fun kv => (kv.1, if kv.2.width = 4 then kv.2 else { kv.2 with width := 0 })) }
      ∧ KeepsObjects s t [objKey 0x5A00 1]
      ∧
        { t with lane := s.lane, dict := s.dict, sys := { t.sys with lastStatus := s.sys.lastStatus }, flt := { t.flt with raised := s.flt.raised } }
        = s)
  ∧ (∀ (ns : List PanelLane) (s : State), TablesRise s → s.lane.test ≠ 0 → s.lane.testAt + tickS ≤ s.time → ∃ t, exec
      (.laneTestEnd ns) s = .next t
      ∧ t.lane.test = 0
      ∧ t.obj 0x5A00 1 = 0
      ∧ (∀ e, e < 53 → (t.obj 0x5A00 2).testBit e = ns.any (fun f => f.edge.val == e))
      ∧ t.lane.bundles = s.lane.bundles.map (fun kv => (kv.1, if kv.2.width = 4 then kv.2 else { kv.2 with width := 0 }))
      ∧ t.flt.raised = s.flt.raised ++ ns.map (fun f =>
        ⟨mkEvent 0x08 sevNote (edgeEnds f.edge).1 f.edge 5 (field 16 f.rev.toNat + 256 * f.bundle.val + f.lane.val), s.gtNow⟩)
      ∧ KeepsObjects s t [objKey 0x5A00 1, objKey 0x5A00 2]
      ∧
        { t with dict := s.dict, lane := { t.lane with bundles := s.lane.bundles, test := s.lane.test }, flt := { t.flt with raised := s.flt.raised } }
        = s)
  ∧ (∀ (ns : List PanelLane) (s : State), (s.lane.test = 0 ∨ s.time < s.lane.testAt + tickS) → ∃ t, exec (.laneTestEnd ns) s =
      .next t
      ∧ t = s)

/-- R250, R299, R300, R303, R307, R318 to R322: a good frame with the next LFSEQ enters the ingress buffer and its ACK
empties the retry buffer; a bad one or a gap is NAKed, one that has come before is dropped, one that finds the buffer
full is NAKed and counted; a frame sent carries the next LFSEQ, ACK, NAK and the CRC, stays in the retry buffer and is
dealt to the lanes, replays go first, class 3 before the others; a link-state frame states the port's levels and those
received are taken; frames held by XOFF start when it clears; a routed frame asked for is sent again or counted lost; a
class in XOFF for 1 ms is logged. -/
def Obligations.LinkFramesCarryPackets : Prop :=
  (∀ (p : Fin 128) (x : BitVec 64) (k : Packet) (s : State), Rises s.ports → (s.portSt p = 3 ∨ s.portSt p = 4 ∨ s.portSt p =
      6) → bits x 23 16 = k.len32 → bits x 63 48 = ((s.port p).lfGot + 1).toNat → s.fenced = false → occupancy (s.port p)
      k.cls.toNat + k.size ≤ 262144 → ∃ t, exec (.linkFrameReceive p x k (frameCrc x k)) s = .next t
      ∧ (t.port p).lfGot = (s.port p).lfGot + 1
      ∧ (t.port p).nak = false
      ∧ (t.port p).ingress = (s.port p).ingress ++ [k]
      ∧ (114688 ≤ occupancy (s.port p) k.cls.toNat + k.size → bit (t.port p).xoffOut k.cls.toNat = true)
      ∧ (occupancy (s.port p) k.cls.toNat + k.size < 65536 → bit (t.port p).xoffOut k.cls.toNat = false)
      ∧ (t.port p).lsDue = ((s.port p).lsDue || bit (t.port p).xoffOut k.cls.toNat != bit (s.port p).xoffOut k.cls.toNat)
      ∧ (t.port p).retry = (s.port p).retry.filter (fun f => !decide ((BitVec.ofNat 16 (bits x 47 32) - f.seq).toNat < 0x8000))
      ∧ (t.port p).resend = (s.port p).resend.filter (fun f => !decide ((BitVec.ofNat 16 (bits x 47 32) - f.seq).toNat <
        0x8000))
      ∧ ((t.port p).nakIn = (if bit x 31 = true then some (BitVec.ofNat 16 (bits x 47 32) + 1) else none))
      ∧ (t.port p).voq = (s.port p).voq
      ∧ (∀ q, q ≠ p.val → t.port q = s.port q)
      ∧ { t with ports := s.ports } = s)
  ∧ (∀ (p : Fin 128) (x : BitVec 64) (k : Packet) (c : BitVec 32) (s : State), Rises s.ports → (s.portSt p = 3 ∨ s.portSt p = 4
      ∨ s.portSt p = 6) → (c ≠ frameCrc x k ∨ bits x 23 16 ≠ k.len32) → ∃ t, exec (.linkFrameReceive p x k c) s = .next t
      ∧ t.port p = { s.port p with nak := true, lsDue := true }
      ∧ t.flt.raised = s.flt.raised ++ [⟨mkEvent 0x10 sevNote (16 + p.val / 16) p 0 (bits x 63 48), s.gtNow⟩]
      ∧ (∀ q, q ≠ p.val → t.port q = s.port q)
      ∧ { t with ports := s.ports, flt := { t.flt with raised := s.flt.raised } } = s)
  ∧ (∀ (p : Fin 128) (x : BitVec 64) (k : Packet) (n : Nat) (s : State), Rises s.ports → (s.portSt p = 3 ∨ s.portSt p = 4 ∨
      s.portSt p = 6) → bits x 23 16 = k.len32 → 1 ≤ n → n < 0x8000 → BitVec.ofNat 16 (bits x 63 48) = (s.port p).lfGot + 1 +
      BitVec.ofNat 16 n → ∃ t, exec (.linkFrameReceive p x k (frameCrc x k)) s = .next t
      ∧ (t.port p).nak = true
      ∧ (t.port p).lsDue = true
      ∧ (t.port p).lfGot = (s.port p).lfGot
      ∧ (t.port p).ingress = (s.port p).ingress
      ∧ (∀ q, q ≠ p.val → t.port q = s.port q)
      ∧ { t with ports := s.ports } = s)
  ∧ (∀ (p : Fin 128) (x : BitVec 64) (k : Packet) (s : State), Rises s.ports → (s.portSt p = 3 ∨ s.portSt p = 4 ∨ s.portSt p =
      6) → bits x 23 16 = k.len32 → BitVec.ofNat 16 (bits x 63 48) = (s.port p).lfGot → ∃ t, exec (.linkFrameReceive p x k
      (frameCrc x k)) s = .next t
      ∧ (t.port p).lfGot = (s.port p).lfGot
      ∧ (t.port p).nak = (s.port p).nak
      ∧ (t.port p).ingress = (s.port p).ingress
      ∧ (∀ q, q ≠ p.val → t.port q = s.port q)
      ∧ { t with ports := s.ports } = s)
  ∧ (∀ (p : Fin 128) (x : BitVec 64) (k : Packet) (s : State), TablesRise s → (s.portSt p = 3 ∨ s.portSt p = 4 ∨ s.portSt p =
      6) → bits x 23 16 = k.len32 → bits x 63 48 = ((s.port p).lfGot + 1).toNat → s.fenced = false → 262144 < occupancy (s.port
      p) k.cls.toNat + k.size → s.obj 0x5000 0x0B + 1 < 2 ^ 32 → ∃ t, exec (.linkFrameReceive p x k (frameCrc x k)) s = .next t
      ∧ (t.port p).lfGot = (s.port p).lfGot
      ∧ (t.port p).nak = true
      ∧ (t.port p).lsDue = true
      ∧ (t.port p).ingress = (s.port p).ingress
      ∧ t.obj 0x5000 0x0B = s.obj 0x5000 0x0B + 1
      ∧ KeepsObjects s t [objKey 0x5000 0x0B]
      ∧ { t with ports := s.ports, dict := s.dict } = s)
  ∧ (∀ (p : Fin 128) (x : BitVec 64) (k : Packet) (s : State), TablesRise s → (s.portSt p = 3 ∨ s.portSt p = 4 ∨ s.portSt p =
      6) → bits x 23 16 = k.len32 → bits x 63 48 = ((s.port p).lfGot + 1).toNat → s.fenced = true → s.obj 0x5000 7 + 1 < 2 ^ 32
      → ∃ t, exec (.linkFrameReceive p x k (frameCrc x k)) s = .next t
      ∧ (t.port p).lfGot = (s.port p).lfGot + 1
      ∧ (t.port p).nak = false
      ∧ (t.port p).ingress = (s.port p).ingress
      ∧ t.obj 0x5000 7 = s.obj 0x5000 7 + 1
      ∧ KeepsObjects s t [objKey 0x5000 7]
      ∧ { t with ports := s.ports, dict := s.dict } = s)
  ∧ (∀ (p : Fin 128) (x : BitVec 64) (k : Packet) (c : BitVec 32) (s : State), s.portSt p ≠ 3 → s.portSt p ≠ 4 → s.portSt p ≠ 6
      → ∃ t, exec (.linkFrameReceive p x k c) s = .next t
      ∧ t = s)
  ∧ (∀ (p : Fin 128) (f : Sent) (fs : List Sent) (s : State) (x : BitVec 64) (b : Bits), Rises s.ports → (s.portSt p = 3 ∨
      s.portSt p = 4) → (s.port p).resend = f :: fs → x = framePrefix f.seq (s.port p).lfGot (s.port p).nak f.pkt → (b = (if fs
      = [] ∧ (s.port p).voq = [] then ((s.port p).txBits.addBytes (linkBytes x f.pkt)).fill else (s.port p).txBits.addBytes
      (linkBytes x f.pkt))) → ∃ t, exec (.linkFrameSend p) s = .next t
      ∧ { t.port p with txLane := (s.port p).txLane } =
        { s.port p with resend := fs, ackSent := (s.port p).lfGot, txBits := b.units.2 }
      ∧ t.out = s.out ++ [.linkFrame p x f.pkt (frameCrc x f.pkt) (s.dealUnits p b.units.1).1]
      ∧ (∀ q, q ≠ p.val → t.port q = s.port q)
      ∧ { t with ports := s.ports, out := s.out } = s)
  ∧ (∀ (p : Fin 128) (k : Packet) (s : State) (x : BitVec 64) (b : Bits), Rises s.ports → (s.portSt p = 3 ∨ s.portSt p = 4) →
      s.fenced = false → (s.port p).resend = [] → (s.port p).voq = [k] → k.cls ≠ 0 → s.xoff p k.cls.toNat = false → retryBytes
      (s.port p) + frameSize k ≤ 262144 → x = framePrefix (s.port p).lfNext (s.port p).lfGot (s.port p).nak k → b = ((s.port
      p).txBits.addBytes (linkBytes x k)).fill → ∃ t, exec (.linkFrameSend p) s = .next t
      ∧ (t.port p).voq = []
      ∧ (t.port p).lfNext = (s.port p).lfNext + 1
      ∧ (t.port p).retry = (s.port p).retry ++ [{ seq := (s.port p).lfNext, pkt := k }]
      ∧ (t.port p).ackSent = (s.port p).lfGot
      ∧ (t.port p).win = ((s.port p).win.filter (fun w => decide (s.time < w.1 + 10 * tickUs))) ++ [(s.time, frameSize k, k.cls
        == 3)]
      ∧ (t.port p).txBits = b.units.2
      ∧ t.out = s.out ++ [.linkFrame p x k (frameCrc x k) (s.dealUnits p b.units.1).1]
      ∧
        { t.port p with voq := (s.port p).voq, lfNext := (s.port p).lfNext, retry := (s.port p).retry, ackSent := (s.port p).ackSent, win := (s.port p).win, txBits := (s.port p).txBits, txLane := (s.port p).txLane, deficit := (s.port p).deficit, turn := (s.port p).turn, vcDeficit := (s.port p).vcDeficit, vcTurn := (s.port p).vcTurn }
        = s.port p
      ∧ (∀ q, q ≠ p.val → t.port q = s.port q)
      ∧ { t with ports := s.ports, out := s.out } = s)
  ∧ (∀ (p : Fin 128) (j k : Packet) (s : State), Rises s.ports → (s.portSt p = 3 ∨ s.portSt p = 4) → s.fenced = false → (s.port
      p).resend = [] → (s.port p).voq = [j, k] → j.cls ≠ 3 → k.cls = 3 → s.xoff p 3 = false → (s.port p).win = [] → retryBytes
      (s.port p) + frameSize k ≤ 262144 → ∃ t, exec (.linkFrameSend p) s = .next t
      ∧ (t.port p).voq = [j]
      ∧ (t.port p).retry = (s.port p).retry ++ [{ seq := (s.port p).lfNext, pkt := k }]
      ∧ (t.port p).lfNext = (s.port p).lfNext + 1
      ∧ (∀ q, q ≠ p.val → t.port q = s.port q)
      ∧ { t with ports := s.ports, out := s.out } = s)
  ∧ (∀ (p : Fin 128) (s : State), ((s.portSt p ≠ 3 ∧ s.portSt p ≠ 4) ∨ ((s.port p).resend = [] ∧ (s.fenced = true ∨ (s.port
      p).voq = []))) → ∃ t, exec (.linkFrameSend p) s = .next t
      ∧ t = s)
  ∧ (∀ (p : Fin 128) (s : State), Rises s.ports → s.linkUp p = true → ((s.port p).lsDue = true ∨ ((s.port p).lfGot ≠ (s.port
      p).ackSent ∧ (s.port p).lsAt + 250 * tickNs ≤ s.time) ∨ (s.port p).lsAt + tickUs ≤ s.time) → ∃ t, exec (.linkStateSend p)
      s = .next t
      ∧ t.port p = { s.port p with lsAt := s.time, lsDue := false, ackSent := (s.port p).lfGot }
      ∧ t.out = s.out ++ [.frame p (s.linkState p) (s.port p).onL0 (frameWord (s.port p).onL0 (s.linkState p))]
      ∧ (∀ q, q ≠ p.val → t.port q = s.port q)
      ∧ { t with ports := s.ports, out := s.out } = s)
  ∧ (∀ (p : Fin 128) (s : State) (f : BitVec 256), s.linkUp p = true → (s.port p).lsDue = true → (s.port p).missing = [] → f =
      BitVec.ofNat 256 (field 248 2 + field 244 (s.portSt p) + field 240 (s.port p).xoffOut.toNat + field 224 (s.port
      p).lfGot.toNat + field 223 (s.port p).nak.toNat + field 200 s.moduleId + field 192 ((s.port p).lseqNext - 1).toNat +
      s.epoch) → ∃ t, exec (.linkStateSend p) s = .next t
      ∧ t.out = s.out ++ [.frame p f (s.port p).onL0 (frameWord (s.port p).onL0 f)])
  ∧ (∀ (p : Fin 128) (s : State), (s.linkUp p = false ∨ ((s.port p).lsDue = false ∧ (s.port p).lfGot = (s.port p).ackSent ∧
      s.time < (s.port p).lsAt + tickUs)) → ∃ t, exec (.linkStateSend p) s = .next t
      ∧ t = s)
  ∧ (∀ (p : Fin 128) (f : BitVec 256) (s : State) (gap : Nat), Rises s.ports → s.linkUp p = true → bits f 255 248 = 2 →
      s.fab.held = [] → (s.port p).wait0 = [] → gap = (BitVec.ofNat 8 (bits f 199 192) + 1 - (s.port p).lseqWant).toNat → ∃ t,
      exec (.linkStateReceive p f) s = .next t
      ∧ (t.port p).xoffIn.toNat = bits f 243 240
      ∧ (t.port p).retry = (s.port p).retry.filter (fun x => !decide ((BitVec.ofNat 16 (bits f 239 224) - x.seq).toNat <
        0x8000))
      ∧ ((t.port p).nakIn = (if bit f 223 = true then some (BitVec.ofNat 16 (bits f 239 224) + 1) else none))
      ∧ (t.port p).ask = (List.range (bits f 183 180)).map (fun i => BitVec.ofNat 8 (bits f 191 184) + BitVec.ofNat 8 i)
      ∧ (t.port p).missing = (s.port p).missing ++ (if gap < 128 then (List.range gap).map (fun i => (s.port p).lseqWant +
        BitVec.ofNat 8 i) else [])
      ∧ ((t.port p).lseqWant = (if gap < 128 then BitVec.ofNat 8 (bits f 199 192) + 1 else (s.port p).lseqWant))
      ∧ (t.port p).ingress = (s.port p).ingress
      ∧ (∀ q, q ≠ p.val → t.port q = s.port q)
      ∧ { t with ports := s.ports } = s)
  ∧ (∀ (p : Fin 128) (f g : BitVec 256) (s : State), Rises s.ports → s.linkUp p = true → bits f 255 248 = 2 → bit f 240 = false
      → s.fab.held = [] → (s.port p).wait0 = [(g, none)] → (s.port p).own0 = 0 → (s.port p).start0 = 0 → ∃ t, exec
      (.linkStateReceive p f) s = .next t
      ∧ (t.port p).wait0 = []
      ∧ (t.port p).lseqNext = (s.port p).lseqNext + 1
      ∧ (t.port p).sent0 = (putBits g 247 240 (s.port p).lseqNext.toNat :: (s.port p).sent0).take 64
      ∧ t.out = s.out ++ [.routed p (putBits g 247 240 (s.port p).lseqNext.toNat) s.time (s.port p).onL0 (frameWord (s.port
        p).onL0 (putBits g 247 240 (s.port p).lseqNext.toNat))]
      ∧ (∀ q, q ≠ p.val → t.port q = s.port q)
      ∧ { t with ports := s.ports, out := s.out } = s)
  ∧ (∀ (p : Fin 128) (f : BitVec 256) (s : State), (s.linkUp p = false ∨ bits f 255 248 ≠ 2) → ∃ t, exec (.linkStateReceive p
      f) s = .next t
      ∧ t = s)
  ∧ (∀ (p : Fin 128) (n : BitVec 8) (f : BitVec 256) (s : State), TablesRise s → (s.port p).ask.contains n = true → (s.port
      p).sent0.find? (fun f => fLseq f == n.toNat) = some f → s.obj 0x5000 0x0E + 1 < 2 ^ 32 → ∃ t, exec (.class0Resend p n) s
      = .next t
      ∧ t.out = s.out ++ [.routed p f s.time (s.port p).onL0 (frameWord (s.port p).onL0 f)]
      ∧ t.port p = { s.port p with ask := (s.port p).ask.filter (· != n) }
      ∧ (∀ q, q ≠ p.val → t.port q = s.port q)
      ∧ t.obj 0x5000 0x0E = s.obj 0x5000 0x0E + 1
      ∧ t.flt.raised = s.flt.raised ++ [⟨mkEvent 0x10 sevNote (16 + p.val / 16) p 2 n.toNat, s.gtNow⟩]
      ∧ KeepsObjects s t [objKey 0x5000 0x0E]
      ∧ { t with ports := s.ports, out := s.out, dict := s.dict, flt := { t.flt with raised := s.flt.raised } } = s)
  ∧ (∀ (p : Fin 128) (n : BitVec 8) (s : State), TablesRise s → (s.port p).ask.contains n = true → (s.port p).sent0.find? (fun
      f => fLseq f == n.toNat) = none → s.obj 0x5000 0x0F + 1 < 2 ^ 32 → ∃ t, exec (.class0Resend p n) s = .next t
      ∧ t.out = s.out
      ∧ t.port p = { s.port p with ask := (s.port p).ask.filter (· != n) }
      ∧ t.obj 0x5000 0x0F = s.obj 0x5000 0x0F + 1
      ∧ t.flt.raised = s.flt.raised ++ [⟨mkEvent 0x10 sevRecovered (16 + p.val / 16) p 2 n.toNat, s.gtNow⟩]
      ∧ KeepsObjects s t [objKey 0x5000 0x0F]
      ∧ { t with ports := s.ports, dict := s.dict, flt := { t.flt with raised := s.flt.raised } } = s)
  ∧ (∀ (p : Fin 128) (n : BitVec 8) (s : State), (s.port p).ask.contains n = false → ∃ t, exec (.class0Resend p n) s = .next t
      ∧ t = s)
  ∧ (∀ (p : Fin 128) (c : Fin 4) (s : State), TablesRise s → Rises (s.port p).xoffSince → s.xoff p c = true → mapGet 0 (s.port
      p).xoffSince c.val ≠ 0 → mapGet 0 (s.port p).xoffSince c.val - 1 + tickMs ≤ s.time → s.obj 0x5000 0x0C + 1 < 2 ^ 32 → ∃
      t, exec (.fabStall p c) s = .next t
      ∧ mapGet 0 (t.port p).xoffSince c.val = 0
      ∧ { t.port p with xoffSince := (s.port p).xoffSince } = s.port p
      ∧ t.obj 0x5000 0x0C = s.obj 0x5000 0x0C + 1
      ∧ t.flt.raised = s.flt.raised ++ [⟨mkEvent 0x10 sevAdvisory (16 + p.val / 16) p 3 c, s.gtNow⟩]
      ∧ (∀ q, q ≠ p.val → t.port q = s.port q)
      ∧ KeepsObjects s t [objKey 0x5000 0x0C]
      ∧ { t with ports := s.ports, dict := s.dict, flt := { t.flt with raised := s.flt.raised } } = s)
  ∧ (∀ (p : Fin 128) (c : Fin 4) (s : State), (s.xoff p c = false ∨ mapGet 0 (s.port p).xoffSince c.val = 0 ∨ s.time < mapGet 0
      (s.port p).xoffSince c.val - 1 + tickMs) → ∃ t, exec (.fabStall p c) s = .next t
      ∧ t = s)

/-- R24, R289, R295, R296, R298, R301, R306, R307, R309, R313, R321, R324, R327, R329, R349: a module ID is taken while
every queue is off; a route entry takes effect and its generation advances; a packet at ingress for this module crosses
the panel to its die, or waits where a down edge cuts its path; one whose header check fails, of an older epoch or past
the hop limit is discarded and counted; one for another module leaves by a port its route names or is held; a class-0
frame for this module is delivered, one that has come before is dropped, missing ones are asked for, one of a reserved
kind is counted; a FLAG adds to its counter, or waits for its die to wake. -/
def Obligations.RoutesAndPackets : Prop :=
  (∀ (v : BitVec 16) (s : State), Rises s.dict → Writable s → s.queuesOff = true → v ≠ 0xFFFF → ∃ t, exec (.fabModuleId v) s
      = .next t
      ∧ t.moduleId = v.toNat
      ∧ t.sys.lastStatus = rpOk
      ∧ KeepsObjects s t [objKey 0x5000 1]
      ∧ { t with dict := s.dict, sys := { t.sys with lastStatus := s.sys.lastStatus } } = s)
  ∧ (∀ (v : BitVec 16) (s : State), Writable s → (v = 0xFFFF ∨ s.queuesOff = false) → ∃ t, exec (.fabModuleId v) s = .next t
      ∧ t = { s with sys := { s.sys with lastStatus := if v = 0xFFFF then rpRange else rpState } })
  ∧ (∀ (m : BitVec 16) (e : BitVec 512) (s : State), Rises s.fab.routes → s.fab.held = [] → ∃ t, exec (.routeEntryWrite m e) s
      = .next t
      ∧ t.route m.toNat = putBits e 126 0 0
      ∧ (Rises s.fab.old → mapGet (0, 0) t.fab.old m.toNat = (s.time + 1, s.route m.toNat))
      ∧ t.fab.genDue = true
      ∧ (∀ k, k ≠ m.toNat → t.route k = s.route k)
      ∧ { t with fab := { t.fab with routes := s.fab.routes, old := s.fab.old, genDue := s.fab.genDue } } = s)
  ∧ (∀ (s : State), Rises s.dict → s.fab.genDue = true → ∃ t, exec (.routeGenerationAdvance) s = .next t
      ∧ t.obj 0x5000 6 = (s.obj 0x5000 6 + 1) % 2 ^ 32
      ∧ t.fab = { s.fab with old := [], genDue := false }
      ∧ KeepsObjects s t [objKey 0x5000 6]
      ∧ { t with fab := s.fab, dict := s.dict } = s)
  ∧ (∀ (s : State), s.fab.genDue = false → ∃ t, exec (.routeGenerationAdvance) s = .next t
      ∧ t = s)
  ∧ (∀ (p : Fin 128) (k : Packet) (s : State), Rises s.ports → (s.port p).ingress.find? (fun j => j.cls == k.cls) = some k →
      s.homeFull k = false → s.fenced = false → k.op ≠ 0x40 → k.hchk = k.check → s.staleEpoch k.epoch.toNat = false → s.hasId =
      true → k.dstModule.toNat = s.moduleId → opDefined k.op.toNat = true → Joined s (16 + p.val / 16) (innerKey k) → ∃ t, exec
      (.packetIngress p k) s = .next t
      ∧ t.fab.inner = s.fab.inner ++ [(innerKey k, k)]
      ∧ (t.port p).ingress = (s.port p).ingress.erase k
      ∧ { t.port p with ingress := (s.port p).ingress, xoffOut := (s.port p).xoffOut, lsDue := (s.port p).lsDue } = s.port p
      ∧ (∀ q, q ≠ p.val → t.port q = s.port q)
      ∧ { uncarried t s with ports := s.ports, fab := { t.fab with inner := s.fab.inner } } = s)
  ∧ (∀ (p : Fin 128) (k : Packet) (s : State), Rises s.ports → (s.port p).ingress.find? (fun j => j.cls == k.cls) = some k →
      s.homeFull k = false → s.fenced = false → k.op ≠ 0x40 → k.hchk = k.check → s.staleEpoch k.epoch.toNat = false → s.hasId =
      true → k.dstModule.toNat = s.moduleId → opDefined k.op.toNat = true → ¬ Joined s (16 + p.val / 16) (innerKey k) → ∃ t,
      exec (.packetIngress p k) s = .next t
      ∧ t.fab.stuck = s.fab.stuck ++ [{ src := 16 + p.val / 16, dst := innerKey k, pkt := k, out := none }]
      ∧ (t.port p).ingress = (s.port p).ingress.erase k
      ∧ (∀ q, q ≠ p.val → t.port q = s.port q)
      ∧ { t with ports := s.ports, fab := { t.fab with stuck := s.fab.stuck } } = s)
  ∧ (∀ (p : Fin 128) (k : Packet) (s : State), Rises s.ports → (s.port p).ingress.find? (fun j => j.cls == k.cls) = some k →
      s.homeFull k = false → s.fenced = false → k.op ≠ 0x40 → k.hchk = k.check → s.staleEpoch k.epoch.toNat = false → s.hasId =
      true → k.dstModule.toNat = s.moduleId → opDefined k.op.toNat = false → ∃ t, exec (.packetIngress p k) s = .next t
      ∧ t.flt.raised = s.flt.raised ++ [⟨mkEvent 0x10 sevNote k.dstDie.toNat 0xFF 1 k.op.toNat, s.gtNow⟩]
      ∧ (t.port p).ingress = (s.port p).ingress.erase k
      ∧ (∀ q, q ≠ p.val → t.port q = s.port q)
      ∧ { t with ports := s.ports, flt := { t.flt with raised := s.flt.raised } } = s)
  ∧ (∀ (p : Fin 128) (k : Packet) (s : State), TablesRise s → (s.port p).ingress.find? (fun j => j.cls == k.cls) = some k →
      s.homeFull k = false → s.fenced = false → k.op ≠ 0x40 → k.hchk ≠ k.check → s.obj 0x5000 8 + 1 < 2 ^ 32 → ∃ t, exec
      (.packetIngress p k) s = .next t
      ∧ t.obj 0x5000 8 = s.obj 0x5000 8 + 1
      ∧ t.flt.raised = s.flt.raised ++ [⟨mkEvent 0x10 sevRecovered (16 + p.val / 16) p 0 k.srcModule.toNat, s.gtNow⟩]
      ∧ (t.port p).ingress = (s.port p).ingress.erase k
      ∧ (∀ q, q ≠ p.val → t.port q = s.port q)
      ∧ KeepsObjects s t [objKey 0x5000 8]
      ∧ { t with ports := s.ports, dict := s.dict, flt := { t.flt with raised := s.flt.raised } } = s)
  ∧ (∀ (p : Fin 128) (k : Packet) (s : State), Rises s.ports → (s.port p).ingress.find? (fun j => j.cls == k.cls) = some k →
      s.homeFull k = false → s.fenced = false → k.op = 0x40 → ∃ t, exec (.packetIngress p k) s = .next t
      ∧ (t.port p).ingress = (s.port p).ingress.erase k
      ∧ (∀ q, q ≠ p.val → t.port q = s.port q)
      ∧ { t with ports := s.ports } = s)
  ∧ (∀ (p : Fin 128) (k : Packet) (s : State), ((s.port p).ingress.find? (fun j => j.cls == k.cls) ≠ some k ∨ s.homeFull k =
      true) → ∃ t, exec (.packetIngress p k) s = .next t
      ∧ t = s)
  ∧ (∀ (p : Fin 128) (k : Packet) (s : State), TablesRise s → (s.port p).ingress.find? (fun j => j.cls == k.cls) = some k →
      s.homeFull k = false → (s.fenced = true ∨ (k.op ≠ 0x40 ∧ k.hchk = k.check ∧ s.staleEpoch k.epoch.toNat = true)) → s.obj
      0x5000 7 + 1 < 2 ^ 32 → ∃ t, exec (.packetIngress p k) s = .next t
      ∧ t.obj 0x5000 7 = s.obj 0x5000 7 + 1
      ∧ (t.port p).ingress = (s.port p).ingress.erase k
      ∧ (∀ q, q ≠ p.val → t.port q = s.port q)
      ∧ KeepsObjects s t [objKey 0x5000 7]
      ∧ { t with ports := s.ports, dict := s.dict } = s)
  ∧ (∀ (p : Fin 128) (k : Packet) (s : State), TablesRise s → (s.port p).ingress.find? (fun j => j.cls == k.cls) = some k →
      Rises (s.light (p.val / 16)).hopLog → s.homeFull k = false → s.fenced = false → k.op ≠ 0x40 → k.hchk = k.check →
      s.staleEpoch k.epoch.toNat = false → k.dstModule.toNat ≠ s.moduleId → s.obj 0x5000 5 < k.hops.toNat + 1 → s.obj 0x5000 9
      + 1 < 2 ^ 32 → ∃ t, exec (.packetIngress p k) s = .next t
      ∧ t.obj 0x5000 9 = s.obj 0x5000 9 + 1
      ∧ (t.port p).ingress = (s.port p).ingress.erase k
      ∧ (t.flt.raised = s.flt.raised ++ (if mapGet 0 (s.light (p.val / 16)).hopLog k.srcModule.toNat = 0 ∨ mapGet 0 (s.light
        (p.val / 16)).hopLog k.srcModule.toNat - 1 + tickS ≤ s.time then
        [⟨mkEvent 0x10 sevNote (16 + p.val / 16) 0xFF 0 k.srcModule.toNat, s.gtNow⟩] else []))
      ∧ t.fab = s.fab
      ∧ (∀ q, q ≠ p.val → t.port q = s.port q)
      ∧ (∀ l, l ≠ p.val / 16 → t.light l = s.light l)
      ∧ KeepsObjects s t [objKey 0x5000 9]
      ∧ { t with ports := s.ports, lights := s.lights, dict := s.dict, flt := { t.flt with raised := s.flt.raised } } = s)
  ∧ (∀ (p : Fin 128) (k : Packet) (s : State), TablesRise s → (s.port p).ingress = [k] → s.homeFull k = false → s.fenced =
      false → k.op ≠ 0x40 → k.hchk = k.check → s.staleEpoch k.epoch.toNat = false → k.dstModule.toNat ≠ s.moduleId →
      k.hops.toNat + 1 ≤ s.obj 0x5000 5 → k.hops.toNat < 15 → routeValid (s.route k.dstModule.toNat) = false → s.fab.old = [] →
      ∃ t, exec (.packetIngress p k) s = .next t
      ∧ t.fab.held = s.fab.held ++
        [{ light := lightOf p, pkt := { k with hops := k.hops + 1 }, since := s.time, own := false }]
      ∧ (t.port p).ingress = []
      ∧ (∀ q, q ≠ p.val → t.port q = s.port q)
      ∧ { t with ports := s.ports, fab := { t.fab with held := s.fab.held } } = s)
  ∧ (∀ (p q : Fin 128) (k : Packet) (s : State), TablesRise s → (s.port p).ingress = [k] → q ≠ p → q.val / 16 = p.val / 16 →
      s.homeFull k = false → s.fenced = false → k.op ≠ 0x40 → k.hchk = k.check → s.staleEpoch k.epoch.toNat = false →
      k.dstModule.toNat ≠ s.moduleId → k.hops.toNat + 1 ≤ s.obj 0x5000 5 → k.hops.toNat < 15 → s.usable (p.val / 16) (s.routeAt
      (p.val / 16) k.dstModule.toNat) k.cls.toNat = [q.val] → s.xoff q k.cls.toNat = false → s.obj 0x6830 2 = 0 → s.obj 0x5000
      0x12 + 1 < 2 ^ 32 → ∃ t, exec (.packetIngress p k) s = .next t
      ∧ (t.port p).ingress = []
      ∧ (t.port q).voq = (s.port q).voq ++ [{ k with hops := k.hops + 1 }]
      ∧ { t.port q with voq := (s.port q).voq } = s.port q
      ∧ (∀ j, j ≠ p.val ∧ j ≠ q.val → t.port j = s.port j)
      ∧ t.obj 0x5000 0x12 = s.obj 0x5000 0x12 + 1
      ∧ (∀ l, l < 8 → { t.light l with cur := (s.light l).cur } = s.light l)
      ∧ KeepsObjects s t [objKey 0x5000 0x12]
      ∧ { t with ports := s.ports, lights := s.lights, dict := s.dict } = s)
  ∧ (∀ (p : Fin 128) (f : BitVec 256) (s : State), Rises s.ports → s.linkUp p = true → kindRouted (fKind f) = true → s.held0 p
      + 32 ≤ 65536 → fLseq f = (s.port p).lseqWant.toNat → s.fenced = false → s.staleEpoch (fEpoch f) = false → s.hasId = true
      → fDst f = s.moduleId → ∃ t, exec (.class0FrameReceive p f) s = .next t
      ∧ t.fab.frames = s.fab.frames ++ [(if 0x10 ≤ fKind f ∧ fKind f ≤ 0x1F then 24 else fDie f, f)]
      ∧ t.port p = { s.port p with lseqWant := (s.port p).lseqWant + 1 }
      ∧ (∀ q, q ≠ p.val → t.port q = s.port q)
      ∧ { uncarried t s with ports := s.ports, fab := { t.fab with frames := s.fab.frames } } = s)
  ∧ (∀ (p : Fin 128) (n : Nat) (f : BitVec 256) (s : State), Rises s.ports → s.linkUp p = true → kindRouted (fKind f) = true →
      s.held0 p + 32 ≤ 65536 → 1 ≤ n → n < 128 → BitVec.ofNat 8 (fLseq f) = (s.port p).lseqWant + BitVec.ofNat 8 n → s.fenced =
      false → s.staleEpoch (fEpoch f) = false → s.hasId = true → fDst f = s.moduleId → ∃ t, exec (.class0FrameReceive p f) s =
      .next t
      ∧ t.fab.frames = s.fab.frames ++ [(if 0x10 ≤ fKind f ∧ fKind f ≤ 0x1F then 24 else fDie f, f)]
      ∧ t.port p =
        { s.port p with lseqWant := BitVec.ofNat 8 (fLseq f) + 1, lsDue := true, missing := (s.port p).missing ++ (List.range n).map (fun i => (s.port p).lseqWant + BitVec.ofNat 8 i) }
      ∧ { uncarried t s with ports := s.ports, fab := { t.fab with frames := s.fab.frames } } = s)
  ∧ (∀ (p : Fin 128) (f : BitVec 256) (s : State), kindRouted (fKind f) = true → s.held0 p + 32 ≤ 65536 → 128 ≤ (BitVec.ofNat 8
      (fLseq f) - (s.port p).lseqWant).toNat → (s.port p).missing.contains (BitVec.ofNat 8 (fLseq f)) = false → ∃ t, exec
      (.class0FrameReceive p f) s = .next t
      ∧ t = s)
  ∧ (∀ (p : Fin 128) (f : BitVec 256) (s : State), TablesRise s → s.linkUp p = true → kindRouted (fKind f) = true → s.held0 p +
      32 ≤ 65536 → fLseq f = (s.port p).lseqWant.toNat → (s.fenced = true ∨ s.staleEpoch (fEpoch f) = true) → s.obj 0x5000 7 +
      1 < 2 ^ 32 → ∃ t, exec (.class0FrameReceive p f) s = .next t
      ∧ t.obj 0x5000 7 = s.obj 0x5000 7 + 1
      ∧ t.port p = { s.port p with lseqWant := (s.port p).lseqWant + 1 }
      ∧ KeepsObjects s t [objKey 0x5000 7]
      ∧ { t with ports := s.ports, dict := s.dict } = s)
  ∧ (∀ (p : Fin 128) (f : BitVec 256) (s : State), Rises s.ports → s.linkUp p = true → fKind f = 3 → ∃ t, exec
      (.class0FrameReceive p f) s = .next t
      ∧ t.port p = { s.port p with pauseUntil := s.time + bits f 207 192 * tickNs + 10 * tickUs }
      ∧ (∀ q, q ≠ p.val → t.port q = s.port q)
      ∧ { t with ports := s.ports } = s)
  ∧ (∀ (p : Fin 128) (f : BitVec 256) (s : State), s.linkUp p = false → ∃ t, exec (.class0FrameReceive p f) s = .next t
      ∧ t = s)
  ∧ (∀ (p : Fin 128) (f : BitVec 256) (s : State), Rises s.dict → s.linkUp p = true → kindRouted (fKind f) = false → kindLink
      (fKind f) = false → s.obj 0x5000 0x11 + 1 < 2 ^ 32 → ∃ t, exec (.class0FrameReceive p f) s = .next t
      ∧ t.obj 0x5000 0x11 = s.obj 0x5000 0x11 + 1
      ∧ KeepsObjects s t [objKey 0x5000 0x11]
      ∧ { t with dict := s.dict } = s)
  ∧ (∀ (d : Fin 16) (f : BitVec 256) (s : State), Rises s.dies → Rises s.cores → DieRises (s.die d) → fKind f = 4 →
      s.fab.frames.contains (d.val, f) = true → s.dieRuns d = true → bit f 190 = true → ∃ t, exec (.flagAdd d f) s = .next t
      ∧ t.arrival d (bits f 184 173) = s.arrival d (bits f 184 173) + BitVec.ofNat 64 (bits f 127 96)
      ∧ (∀ k, k ≠ bits f 184 173 → t.arrival d k = s.arrival d k)
      ∧ t.fab.frames = s.fab.frames.erase (d.val, f)
      ∧ KeepsCores s t
      ∧ (∀ k, k ≠ d.val → t.die k = s.die k)
      ∧ { t.die d with arrival := (s.die d).arrival } = s.die d
      ∧ { t with dies := s.dies, cores := s.cores, fab := { t.fab with frames := s.fab.frames } } = s)
  ∧ (∀ (d : Fin 16) (f : BitVec 256) (s : State), Rises s.cores → CoreRises (s.core d (bits f 195 191)) → fKind f = 4 →
      s.fab.frames.contains (d.val, f) = true → Reachable s d (bits f 195 191) → bit f 190 = false → bits f 189 188 < 3 → ∃ t,
      exec (.flagAdd d f) s = .next t
      ∧ (t.core d (bits f 195 191)).counter (bits f 189 188) (bits f 187 185) = (s.core d (bits f 195 191)).counter (bits f 189
        188) (bits f 187 185) + BitVec.ofNat 32 (bits f 127 96)
      ∧ t.fab.frames = s.fab.frames.erase (d.val, f)
      ∧ (∀ e i, e < 3 → i < 8 → e ≠ bits f 189 188 ∨ i ≠ bits f 187 185 → (t.core d (bits f 195 191)).counter e i = (s.core d
        (bits f 195 191)).counter e i)
      ∧
        { t.core d (bits f 195 191) with cnt := (s.core d (bits f 195 191)).cnt, tc := { (t.core d (bits f 195 191)).tc with irqPend := (s.core d (bits f 195 191)).tc.irqPend }, sm := { (t.core d (bits f 195 191)).sm with lastAct := (s.core d (bits f 195 191)).sm.lastAct } }
        = s.core d (bits f 195 191)
      ∧ (∀ k, k ≠ coreKey d (bits f 195 191) → mapGet { } t.cores k = mapGet { } s.cores k)
      ∧ { t with cores := s.cores, fab := { t.fab with frames := s.fab.frames } } = s)
  ∧ (∀ (d : Fin 16) (f : BitVec 256) (s : State), Rises s.dies → fKind f = 4 → s.fab.frames.contains (d.val, f) = true →
      s.dieRuns d = false → ∃ t, exec (.flagAdd d f) s = .next t
      ∧ t.die d = { s.die d with asked := some ((s.die d).asked.getD s.time) }
      ∧ (∀ k, k ≠ d.val → t.die k = s.die k)
      ∧ { t with dies := s.dies } = s)
  ∧ (∀ (d : Fin 16) (f : BitVec 256) (s : State), (fKind f ≠ 4 ∨ s.fab.frames.contains (d.val, f) = false) → ∃ t, exec
      (.flagAdd d f) s = .next t
      ∧ t = s)

/-- R202, R315, R316, R335, R336, R337, R344, R346, R347, R349, R350, R354 to R357: a request that its home accepts joins
the line queue, one whose addresses are refused is answered with the status, one at a sleeping die asks it to wake and
waits; a line operation reads 128 bytes, stores the bytes written and nothing else, makes one atomic update that answers
the old value, or claims a race slot, whose guard refuses the writes of others; contexts idle for 10 µs close; an
original of a merged request gets its answer, a late response is counted; an entry past its time is freed; RLC_ENABLE
empties the caches; race slots arm within their bounds and disarm. -/
def Obligations.RemoteMemoryAtHome : Prop :=
  (∀ (d : Fin 16) (k : Packet) (s : State), Rises s.dies → s.fab.inner.contains (d.val, k) = true → opRequest k.op.toNat =
      true → s.dieRuns d = true → (s.die d).lineq.length + (reqLines k).length ≤ 1024 → k.hchk = k.check → k.ord = false →
      s.reqStatus d k = 0 → reqLines k ≠ [] → ∃ t, exec (.remoteRequestReceive d k) s = .next t
      ∧ t.fab.inner = s.fab.inner.erase (d.val, k)
      ∧ (t.die d).home = (s.die d).home ++ [{ id := (s.die d).homeNext, pkt := k, todo := reqLines k }]
      ∧ (t.die d).lineq = (s.die d).lineq ++ (reqLines k).map (fun l => ((s.die d).homeNext, l))
      ∧ { t.die d with home := (s.die d).home, homeNext := (s.die d).homeNext, lineq := (s.die d).lineq } = s.die d
      ∧ (∀ k, k ≠ d.val → t.die k = s.die k)
      ∧ { t with dies := s.dies, fab := { t.fab with inner := s.fab.inner } } = s)
  ∧ (∀ (d : Fin 16) (k : Packet) (s : State), Rises s.dies → s.fab.inner.contains (d.val, k) = true → opRequest k.op.toNat =
      true → s.dieRuns d = true → (s.die d).lineq.length + (reqLines k).length ≤ 1024 → k.hchk = k.check → k.ord = true →
      k.first = true → (s.die d).reorder = [] → s.reqStatus d k = 0 → reqLines k ≠ [] → ∃ t, exec (.remoteRequestReceive d k) s
      = .next t
      ∧ t.fab.inner = s.fab.inner.erase (d.val, k)
      ∧ (t.die d).reorder = [{ m := k.srcModule, d := k.srcDie, flow := k.flow, last := s.time }]
      ∧ (t.die d).lineq = (s.die d).lineq ++ (reqLines k).map (fun l => ((s.die d).homeNext, l))
      ∧ (∀ k, k ≠ d.val → t.die k = s.die k)
      ∧ { t with dies := s.dies, fab := { t.fab with inner := s.fab.inner } } = s)
  ∧ (∀ (d : Fin 16) (k : Packet) (s : State), TablesRise s → s.fab.inner = [(d.val, k)] → k.op = 2 → s.dieRuns d = true →
      (s.die d).lineq.length + (reqLines k).length ≤ 1024 → k.hchk = k.check → k.ord = true → k.first = false → (s.die
      d).reorder = [] → s.fenced = false → s.ownModule k.srcModule.toNat = true → Joined s d k.srcDie.toNat → s.obj 0x5000 0x0D
      + 1 < 2 ^ 32 → ∃ t, exec (.remoteRequestReceive d k) s = .next t
      ∧ t.fab.inner.map (fun x => (x.1, x.2.op, x.2.txn, x.2.opx, x.2.payload)) = [(k.srcDie.toNat, 0x12, k.txn, 0x4E, [])]
      ∧ t.obj 0x5000 0x0D = s.obj 0x5000 0x0D + 1
      ∧ KeepsObjects s t [objKey 0x5000 0x0D]
      ∧ { uncarried t s with dict := s.dict, fab := { t.fab with inner := s.fab.inner } } = s)
  ∧ (∀ (d : Fin 16) (k : Packet) (s : State), TablesRise s → s.fab.inner.contains (d.val, k) = true → opRequest k.op.toNat =
      true → s.dieRuns d = true → (s.die d).lineq.length + (reqLines k).length ≤ 1024 → k.hchk ≠ k.check → s.obj 0x5000 8 + 1 <
      2 ^ 32 → ∃ t, exec (.remoteRequestReceive d k) s = .next t
      ∧ t.fab.inner = s.fab.inner.erase (d.val, k)
      ∧ t.obj 0x5000 8 = s.obj 0x5000 8 + 1
      ∧ t.flt.raised = s.flt.raised ++ [⟨mkEvent 0x10 sevRecovered d 0xFF 0 k.srcModule.toNat, s.gtNow⟩]
      ∧ KeepsObjects s t [objKey 0x5000 8]
      ∧ { t with dict := s.dict, fab := { t.fab with inner := s.fab.inner }, flt := { t.flt with raised := s.flt.raised } } = s)
  ∧ (∀ (d : Fin 16) (k : Packet) (s : State), Rises s.dies → s.fab.inner.contains (d.val, k) = true → opRequest k.op.toNat =
      true → s.dieRuns d = false → ∃ t, exec (.remoteRequestReceive d k) s = .next t
      ∧ t.die d = { s.die d with asked := some ((s.die d).asked.getD s.time) }
      ∧ (∀ k, k ≠ d.val → t.die k = s.die k)
      ∧ { t with dies := s.dies } = s)
  ∧ (∀ (d : Fin 16) (k : Packet) (s : State), (s.fab.inner.contains (d.val, k) = false ∨ opRequest k.op.toNat = false ∨
      (s.dieRuns d = true ∧ 1024 < (s.die d).lineq.length + (reqLines k).length)) → ∃ t, exec (.remoteRequestReceive d k) s =
      .next t
      ∧ t = s)
  ∧ (∀ (d : Fin 16) (k : Packet) (s : State), Rises s.dies → s.fab.inner = [(d.val, k)] → k.op = 1 → s.dieRuns d = true →
      (s.die d).lineq.length + (reqLines k).length ≤ 1024 → k.hchk = k.check → k.ord = false → wantTile k = false → s.reqStatus
      d k = 0x0A → Joined s d k.srcDie.toNat → s.fenced = false → s.ownModule k.srcModule.toNat = true → ∃ t, exec
      (.remoteRequestReceive d k) s = .next t
      ∧ t.fab.inner.map (fun x => (x.1, x.2.op, x.2.txn, x.2.opx, x.2.payload)) = [(k.srcDie.toNat, 0x11, k.txn, 0x0A, [])]
      ∧ t.fab.inner.map (fun x => x.2.dstModule) = [k.srcModule]
      ∧ t.flt.raised = s.flt.raised ++
        [⟨softEvent d (s.issuer k) 0x0A (field 48 k.srcModule.toNat + field 44 k.srcDie.toNat + k.addr.toNat), s.gtNow⟩]
      ∧ { t.die d with home := (s.die d).home, homeNext := (s.die d).homeNext } = s.die d
      ∧ (t.die d).lineq = (s.die d).lineq
      ∧ t.mem = s.mem
      ∧ (∀ k, k ≠ d.val → t.die k = s.die k)
      ∧
        { uncarried t s with dies := s.dies, fab := { t.fab with inner := s.fab.inner }, flt := { t.flt with raised := s.flt.raised } }
        = s)
  ∧ (∀ (d : Fin 16) (h : HomeOp) (line : Nat) (s : State), Rises s.dies → NoBadData s → s.dieRuns d = true → (s.die d).lineq =
      [(h.id, line)] → (s.die d).home = [h] → mapGet 0 (s.die d).lineAt line = 0 → regionOf (128 * line) = .hbm → h.todo =
      [line] → h.got = [] → h.st = 0 → h.pkt.op = 1 → h.pkt.ord = false → wantTile h.pkt = false → Joined s d
      (h.pkt.srcDie.toNat) → s.fenced = false → s.ownModule h.pkt.srcModule.toNat = true → ∃ t, exec (.lineOperation d 0) s =
      .next t
      ∧ t.fab.inner.dropLast = s.fab.inner
      ∧ t.fab.inner.getLast?.map (fun x => (x.1, x.2.op, x.2.txn, x.2.opx, x.2.payload)) = some (h.pkt.srcDie.toNat, 0x11,
        h.pkt.txn, 0, s.bytes d (128 * line) 128)
      ∧ (t.die d).lineq = []
      ∧ (t.die d).home = []
      ∧ (∀ k, k ≠ d.val → t.die k = s.die k)
      ∧ { t.die d with lineq := (s.die d).lineq, home := (s.die d).home, lineAt := (s.die d).lineAt } = s.die d
      ∧ { uncarried t s with dies := s.dies, fab := { t.fab with inner := s.fab.inner } } = s)
  ∧ (∀ (d : Fin 16) (h : HomeOp) (line a : Nat) (bs : List Byte) (s : State), TablesRise s → Memory.wf s.mem = true → NoBadData
      s → s.dieRuns d = true → (s.die d).lineq = [(h.id, line)] → (s.die d).home = [h] → mapGet 0 (s.die d).lineAt line = 0 →
      regionOf (128 * line) = .hbm → regionOf a = .hbm → lineWrite h.pkt line = (a, bs) → bs.length ≤ 128 → a % 128 + bs.length
      ≤ 128 → s.guardOf d (128 * line) = none → h.todo = [line] → h.st = 0 → h.pkt.op = 2 → h.pkt.ord = false → h.pkt.tile =
      false → Joined s d (h.pkt.srcDie.toNat) → s.fenced = false → s.ownModule h.pkt.srcModule.toNat = true → ∃ t, exec
      (.lineOperation d 0) s = .next t
      ∧ t.bytes d a bs.length = bs
      ∧ (∀ k, (k < memKey d a ∨ memKey d a + bs.length ≤ k) → mapGet 0 t.mem k = mapGet 0 s.mem k)
      ∧ (bs ≠ [] → (t.tile d a).st = .untagged)
      ∧ t.fab.inner.dropLast = s.fab.inner
      ∧ t.fab.inner.getLast?.map (fun x => (x.1, x.2.op, x.2.txn, x.2.opx, x.2.payload)) = some (h.pkt.srcDie.toNat, 0x12,
        h.pkt.txn, 0, [])
      ∧ (t.die d).lineq = []
      ∧ (t.die d).home = []
      ∧ (∀ k, k ≠ d.val → t.die k = s.die k)
      ∧ { unstored (uncarried t s) s with dies := s.dies, fab := { t.fab with inner := s.fab.inner } } = s)
  ∧ (∀ (d : Fin 16) (h : HomeOp) (line : Nat) (s : State), TablesRise s → Memory.wf s.mem = true → NoBadData s → s.dieRuns d =
      true → (s.die d).lineq = [(h.id, line)] → (s.die d).home = [h] → mapGet 0 (s.die d).lineAt line = 0 → regionOf (128 *
      line) = .hbm → regionOf h.pkt.addr.toNat = .hbm → h.pkt.addr.toNat % 8 = 0 → s.guardOf d (128 * line) = none → h.todo =
      [line] → h.st = 0 → h.pkt.op = 4 → h.pkt.ord = false → h.pkt.tile = false → Joined s d (h.pkt.srcDie.toNat) → s.fenced =
      false → s.ownModule h.pkt.srcModule.toNat = true → ∃ t, exec (.lineOperation d 0) s = .next t
      ∧ t.bytes d h.pkt.addr.toNat 8 = toBytes 8 (atomicNew (bits h.pkt.opx 2 0) (BitVec.ofNat 64 (ofBytes (s.bytes d
        h.pkt.addr.toNat 8))) (BitVec.ofNat 64 (ofBytes (h.pkt.payload.take 8))) (BitVec.ofNat 64 (ofBytes ((h.pkt.payload.drop
        8).take 8)))).toNat
      ∧ (∀ k, (k < memKey d h.pkt.addr.toNat ∨ memKey d h.pkt.addr.toNat + 8 ≤ k) → mapGet 0 t.mem k = mapGet 0 s.mem k)
      ∧ t.fab.inner.getLast?.map (fun x => (x.1, x.2.op, x.2.txn, x.2.opx, x.2.payload.take 8)) = some (h.pkt.srcDie.toNat,
        0x14, h.pkt.txn, 0, s.bytes d h.pkt.addr.toNat 8)
      ∧ (∀ k, k ≠ d.val → t.die k = s.die k)
      ∧ { unstored (uncarried t s) s with dies := s.dies, fab := { t.fab with inner := s.fab.inner } } = s)
  ∧ (∀ (d : Fin 16) (r : Fin 64) (h : HomeOp) (line : Nat) (s : State), TablesRise s → DieRises (s.die d) → s.dieRuns d = true
      → (s.die d).lineq = [(h.id, line)] → (s.die d).home = [h] → mapGet 0 (s.die d).lineAt line = 0 → regionOf (128 * line) =
      .hbm → h.todo = [line] → h.st = 0 → h.pkt.op = 5 → h.pkt.ord = false → h.pkt.tile = false → (List.range 64).find? (fun r
      => raceArmed (s.race d r) && raceBase (s.race d r) == h.pkt.addr.toNat) = some r.val → Joined s d h.pkt.srcDie.toNat →
      s.fenced = false → s.ownModule h.pkt.srcModule.toNat = true → s.obj 0x6030 0x0A + 1 < 2 ^ 32 → ∃ t, exec (.lineOperation
      d 0) s = .next t
      ∧ raceClaimed (t.race d r) = true
      ∧ raceArmed (t.race d r) = true
      ∧ (raceClaimed (s.race d r) = false → raceModule (t.race d r) = h.pkt.srcModule.toNat ∧ raceDie (t.race d r) =
        h.pkt.srcDie.toNat)
      ∧ (raceClaimed (s.race d r) = true → t.race d r = s.race d r)
      ∧ t.fab.inner.dropLast = s.fab.inner
      ∧ t.fab.inner.getLast?.map (fun x => (x.1, x.2.op, x.2.txn, x.2.opx.toNat, x.2.payload)) = some (h.pkt.srcDie.toNat,
        0x15, h.pkt.txn, if raceClaimed (s.race d r) = true ∧ ¬ (raceModule (s.race d r) = h.pkt.srcModule.toNat ∧ raceDie
        (s.race d r) = h.pkt.srcDie.toNat) then 0x4B else 0, [])
      ∧ (∀ j, j ≠ r.val → t.race d j = s.race d j)
      ∧ (∀ k, k ≠ d.val → t.die k = s.die k)
      ∧ { uncarried t s with dies := s.dies, dict := s.dict, fab := { t.fab with inner := s.fab.inner } } = s)
  ∧ (∀ (d : Fin 16) (r : Fin 64) (h : HomeOp) (line : Nat) (s : State), TablesRise s → DieRises (s.die d) → s.dieRuns d = true
      → (s.die d).lineq = [(h.id, line)] → (s.die d).home = [h] → mapGet 0 (s.die d).lineAt line = 0 → regionOf (128 * line) =
      .hbm → h.todo = [line] → h.st = 0 → (h.pkt.op = 2 ∨ h.pkt.op = 4) → h.pkt.ord = false → h.pkt.tile = false → s.guardOf d
      (128 * line) = some r.val → (¬ (raceClaimed (s.race d r) = true ∧ raceModule (s.race d r) = h.pkt.srcModule.toNat ∧
      raceDie (s.race d r) = h.pkt.srcDie.toNat)) → Joined s d h.pkt.srcDie.toNat → s.fenced = false → s.ownModule
      h.pkt.srcModule.toNat = true → s.obj 0x6030 9 + 1 < 2 ^ 32 → ∃ t, exec (.lineOperation d 0) s = .next t
      ∧ bits (t.race d r) 223 192 = satAdd 32 (bits (s.race d r) 223 192) 1
      ∧ t.obj 0x6030 9 = s.obj 0x6030 9 + 1
      ∧ t.fab.inner.dropLast = s.fab.inner
      ∧ t.fab.inner.getLast?.map (fun x => (x.1, x.2.op, x.2.txn, x.2.opx, x.2.payload)) = some (h.pkt.srcDie.toNat, h.pkt.op +
        0x10, h.pkt.txn, 0x4D, [])
      ∧ (∀ j, j ≠ r.val → t.race d j = s.race d j)
      ∧ KeepsObjects s t [objKey 0x6030 9]
      ∧ (∀ k, k ≠ d.val → t.die k = s.die k)
      ∧ { uncarried t s with dies := s.dies, dict := s.dict, fab := { t.fab with inner := s.fab.inner } } = s)
  ∧ (∀ (d : Fin 16) (i : Fin 1024) (s : State), (s.die d).lineq[i.val]?.all (fun x => !s.dieRuns d || (mapGet 0 (s.die
      d).lineAt x.2 != 0 && decide (s.time < mapGet 0 (s.die d).lineAt x.2 - 1 + 640))) = true → ∃ t, exec (.lineOperation d i)
      s = .next t
      ∧ t = s)
  ∧ (∀ (d : Fin 16) (m : BitVec 16) (k : BitVec 4) (f : BitVec 8) (r : Reorder) (s : State), Rises s.dies → (s.die d).reorder =
      [r] → r.m = m → r.d = k → r.flow = f → r.last + 10 * tickUs ≤ s.time → ∃ t, exec (.reorderContextClose d m k f) s = .next
      t
      ∧ t.die d = { s.die d with reorder := [] }
      ∧ (∀ k, k ≠ d.val → t.die k = s.die k)
      ∧ { t with dies := s.dies } = s)
  ∧ (∀ (d : Fin 16) (m : BitVec 16) (k : BitVec 4) (f : BitVec 8) (s : State), Rises s.dies → (∀ r ∈ (s.die d).reorder, s.time
      < r.last + 10 * tickUs) → ∃ t, exec (.reorderContextClose d m k f) s = .next t
      ∧ t.die d = s.die d
      ∧ (∀ k, k ≠ d.val → t.die k = s.die k)
      ∧ { t with dies := s.dies } = s)
  ∧ (∀ (l : Fin 8) (k : Packet) (o : MergeOrig) (e : MergeEntry) (s : State), Rises s.lights → Rises (s.light l).merge →
      s.fab.inner = [(16 + l.val, k)] → mapGet none (s.light l).merge k.txn.toNat = some e → e.origs = [o] → (o.op = 1 ∨ o.op =
      2) → Joined s (16 + l.val) o.d.toNat → s.fenced = false → s.ownModule o.m.toNat = true → ∃ t, exec (.mergedResponse l k)
      s = .next t
      ∧ t.fab.inner.map (fun x => (x.1, x.2.op, x.2.txn, x.2.opx, x.2.payload)) = [(o.d.toNat, o.op + 0x10, o.txn, k.opx,
        k.payload)]
      ∧ t.fab.inner.map (fun x => x.2.dstModule) = [o.m]
      ∧ mapGet none (t.light l).merge k.txn.toNat = none
      ∧ (∀ j, j ≠ l.val → t.light j = s.light j)
      ∧ { uncarried t s with lights := s.lights, fab := { t.fab with inner := s.fab.inner } } = s)
  ∧ (∀ (l : Fin 8) (k : Packet) (a b : MergeOrig) (e : MergeEntry) (s : State), Rises s.lights → Rises (s.light l).merge →
      s.fab.inner = [(16 + l.val, k)] → mapGet none (s.light l).merge k.txn.toNat = some e → e.origs = [a, b] → a.op = 4 → b.op
      = 4 → 8 ≤ k.payload.length → Joined s (16 + l.val) a.d.toNat → Joined s (16 + l.val) b.d.toNat → s.fenced = false →
      s.ownModule a.m.toNat = true → s.ownModule b.m.toNat = true → ∃ t, exec (.mergedResponse l k) s = .next t
      ∧ t.fab.inner.map (fun x => (x.1, x.2.op, x.2.txn)) = [(a.d.toNat, 0x14, a.txn), (b.d.toNat, 0x14, b.txn)]
      ∧ t.fab.inner.map (fun x => BitVec.ofNat 64 (ofBytes (x.2.payload.take 8))) = [BitVec.ofNat 64 (ofBytes (k.payload.take
        8)), BitVec.ofNat 64 (ofBytes (k.payload.take 8)) + a.add]
      ∧ mapGet none (t.light l).merge k.txn.toNat = none
      ∧ { uncarried t s with lights := s.lights, fab := { t.fab with inner := s.fab.inner } } = s)
  ∧ (∀ (l : Fin 8) (k : Packet) (s : State), TablesRise s → s.fab.inner.contains (16 + l.val, k) = true → mapGet none (s.light
      l).merge k.txn.toNat = none → s.obj 0x6030 5 + 1 < 2 ^ 32 → ∃ t, exec (.mergedResponse l k) s = .next t
      ∧ t.fab.inner = s.fab.inner.erase (16 + l.val, k)
      ∧ t.obj 0x6030 5 = s.obj 0x6030 5 + 1
      ∧ KeepsObjects s t [objKey 0x6030 5]
      ∧ { t with dict := s.dict, fab := { t.fab with inner := s.fab.inner } } = s)
  ∧ (∀ (l : Fin 8) (k : Packet) (s : State), s.fab.inner.contains (16 + l.val, k) = false → ∃ t, exec (.mergedResponse l k) s =
      .next t
      ∧ t = s)
  ∧ (∀ (l : Fin 8) (n : Fin 512) (e : MergeEntry) (s : State), Rises s.lights → Rises (s.light l).merge → mapGet none (s.light
      l).merge n.val = some e → e.since + s.ackTicks ≤ s.time → ∃ t, exec (.mergeEntryTimeout l n) s = .next t
      ∧ mapGet none (t.light l).merge n.val = none
      ∧ (∀ j, j ≠ n.val → mapGet none (t.light l).merge j = mapGet none (s.light l).merge j)
      ∧ (∀ j, j ≠ l.val → t.light j = s.light j)
      ∧ { t.light l with merge := (s.light l).merge } = s.light l
      ∧ { t with lights := s.lights } = s)
  ∧ (∀ (l : Fin 8) (n : Fin 512) (s : State), (mapGet none (s.light l).merge n.val).all (fun e => decide (s.time < e.since +
      s.ackTicks)) = true → ∃ t, exec (.mergeEntryTimeout l n) s = .next t
      ∧ t = s)
  ∧ (∀ (v : BitVec 8) (s : State), TablesRise s → (∀ d : Fin 16, DieRises (s.die d.val)) → Writable s → v.toNat ≤ 1 → ∃ t, exec
      (.memRlcEnable v) s = .next t
      ∧ t.obj 0x6030 1 = v.toNat
      ∧ t.sys.lastStatus = rpOk
      ∧ (∀ d, d < 16 → (t.die d).rlc = [])
      ∧ (∀ d, d < 16 → { t.die d with rlc := (s.die d).rlc, txns := (s.die d).txns } = s.die d)
      ∧ KeepsObjects s t [objKey 0x6030 1]
      ∧ { t with dies := s.dies, dict := s.dict, sys := { t.sys with lastStatus := s.sys.lastStatus } } = s)
  ∧ (∀ (v : BitVec 8) (s : State), Writable s → 1 < v.toNat → ∃ t, exec (.memRlcEnable v) s = .next t
      ∧ t = { s with sys := { s.sys with lastStatus := rpRange } })
  ∧ (∀ (d : Fin 16) (r : Fin 64) (top : BitVec 64) (s : State), Rises s.dies → Rises (s.die d).race → bit top 63 = true →
      s.raceBad d r (raceTop (s.race d r) top) = false → ∃ t, exec (.raceSlotArm d r top) s = .next t
      ∧ raceArmed (t.race d r) = true
      ∧ raceClaimed (t.race d r) = false
      ∧ raceBase (t.race d r) = raceBase (s.race d r)
      ∧ raceLen (t.race d r) = raceLen (s.race d r)
      ∧ bits (t.race d r) 223 192 = 0
      ∧ (∀ j, j ≠ r.val → t.race d j = s.race d j)
      ∧ { t.die d with race := (s.die d).race } = s.die d
      ∧ (∀ k, k ≠ d.val → t.die k = s.die k)
      ∧ bits (t.race d r) 191 128 = 0
      ∧ bits (t.race d r) 247 228 = 0
      ∧ bit (t.race d r) 253 = false
      ∧ { t with dies := s.dies } = s)
  ∧ (∀ (d : Fin 16) (r : Fin 64) (top : BitVec 64) (s : State), Rises s.dies → Rises (s.die d).race → bit top 63 = true →
      (raceLen (s.race d r) = 0 ∨ raceLen (s.race d r) % 128 ≠ 0 ∨ raceBase (s.race d r) % 128 ≠ 0 ∨ remoteRange (raceBase
      (s.race d r)) (raceLen (s.race d r)) = false ∨ (s.die d).race.any (fun kv => kv.1 != r.val && raceArmed kv.2 && decide
      (raceBase (s.race d r) < raceBase kv.2 + raceLen kv.2) && decide (raceBase kv.2 < raceBase (s.race d r) + raceLen (s.race
      d r))) = true) → ∃ t, exec (.raceSlotArm d r top) s = .next t
      ∧ raceArmed (t.race d r) = false
      ∧ bit (t.race d r) 253 = true
      ∧ (∀ j, j ≠ r.val → t.race d j = s.race d j)
      ∧ (∀ k, k ≠ d.val → t.die k = s.die k)
      ∧ bits (t.race d r) 252 0 = bits (s.race d r) 252 0
      ∧ bit (t.race d r) 254 = bit (s.race d r) 254
      ∧ { t.die d with race := (s.die d).race } = s.die d
      ∧ { t with dies := s.dies } = s)
  ∧ (∀ (d : Fin 16) (r : Fin 64) (top : BitVec 64) (s : State), Rises s.dies → Rises (s.die d).race → bit top 63 = false → ∃ t,
      exec (.raceSlotDisarm d r top) s = .next t
      ∧ raceArmed (t.race d r) = false
      ∧ bits (t.race d r) 254 0 = bits (s.race d r) 254 0
      ∧ (∀ j, j ≠ r.val → t.race d j = s.race d j)
      ∧ (∀ k, k ≠ d.val → t.die k = s.die k)
      ∧ { t.die d with race := (s.die d).race } = s.die d
      ∧ { t with dies := s.dies } = s)
  ∧ (∀ (d : Fin 16) (r : Fin 64) (top : BitVec 64) (s : State), bit top 63 = false → ∃ t, exec (.raceSlotArm d r top) s = .next
      t
      ∧ t = s)
  ∧ (∀ (d : Fin 16) (r : Fin 64) (top : BitVec 64) (s : State), bit top 63 = true → ∃ t, exec (.raceSlotDisarm d r top) s =
      .next t
      ∧ t = s)

/-- R360 to R363, R383, R385: a top word with VALID starts validation; REFORM takes the members out that the view has out
and closes the list up; a good list gives the entry its epoch, digest and SEQ 0 and sets VALID, a bad one sets the error
bit and leaves VALID clear; VALID = 0 ends a group that is idle and is discarded while a collective runs; verdicts not
acknowledged for 2 µs are sent again, an acknowledged one no more; a verdict of a past SEQ leaves after 1 s. -/
def Obligations.GroupsValidateAndEnd : Prop :=
  (∀ (d : Fin 16) (g : Fin 256) (top : BitVec 64) (s : State), Rises s.dies → DieRises (s.die d) → bit top 63 = true → gValid
      (s.group d g) = false → ∃ t, exec (.groupValidate d g top) s = .next t
      ∧ t.group d g = groupTop (s.group d g) top
      ∧ mapGet 0 (t.die d).col.validating g.val = s.time + 1
      ∧ (∀ k, k ≠ g.val → t.group d k = s.group d k)
      ∧ { t.die d with col := { (t.die d).col with groups := (s.die d).col.groups, validating := (s.die d).col.validating } } =
        s.die d
      ∧ (∀ k, k ≠ d.val → t.die k = s.die k)
      ∧ { t with dies := s.dies } = s)
  ∧ (∀ (d : Fin 16) (g : Fin 256) (top : BitVec 64) (s : State), Rises s.dies → Rises (s.die d).col.groups → bit top 63 = true
      → gValid (s.group d g) = true → ∃ t, exec (.groupValidate d g top) s = .next t
      ∧ t.group d g = putBit (s.group d g) 510 (bit top 62)
      ∧ t.flt.raised = s.flt.raised ++ [⟨softEvent d 0xFF 0 (memKey d (0x080400020000 + 0x40 * g)), s.gtNow⟩]
      ∧ (∀ k, k ≠ g.val → t.group d k = s.group d k)
      ∧ { t.die d with col := { (t.die d).col with groups := (s.die d).col.groups } } = s.die d
      ∧ (∀ k, k ≠ d.val → t.die k = s.die k)
      ∧ { t with dies := s.dies, flt := { t.flt with raised := s.flt.raised } } = s)
  ∧ (∀ (d : Fin 16) (g : Fin 256) (top : BitVec 64) (s : State), bit top 63 = false → ∃ t, exec (.groupValidate d g top) s =
      .next t
      ∧ t = s)
  ∧ (∀ (d : Fin 16) (g : Fin 256) (w : BitVec 512) (s : State), Rises s.dies → DieRises (s.die d) → mapGet 0 (s.die
      d).col.validating g.val ≠ 0 → w = s.group d g → bit w 510 = false → s.groupBad d w = false → ∃ t, exec
      (.groupValidationDone d g) s = .next t
      ∧ gValid (t.group d g) = true
      ∧ bit (t.group d g) 509 = false
      ∧ gDigest (t.group d g) = (listDigest (gGid w) (s.members d w)).toNat
      ∧ gEpoch (t.group d g) = s.epoch % 2 ^ 32
      ∧ gSeq (t.group d g) = 0
      ∧ (gRank (t.group d g), gSize (t.group d g), gList (t.group d g), gGid (t.group d g), gTimeout (t.group d g)) = (gRank w,
        gSize w, gList w, gGid w, gTimeout w)
      ∧ mapGet 0 (t.die d).col.validating g.val = 0
      ∧ (∀ k, k ≠ g.val → t.group d k = s.group d k)
      ∧ (∀ k, k ≠ d.val → t.die k = s.die k)
      ∧ { t.die d with col := { (t.die d).col with groups := (s.die d).col.groups, validating := (s.die d).col.validating } } =
        s.die d
      ∧ { t with dies := s.dies } = s)
  ∧ (∀ (d : Fin 16) (g : Fin 256) (w : BitVec 512) (keep : List Nat) (r : Nat) (s : State), TablesRise s → Memory.wf s.mem =
      true → DieRises (s.die d) → mapGet 0 (s.die d).col.validating g.val ≠ 0 → w = s.group d g → bit w 510 = true →
      s.flt.out.contains s.moduleId = false → s.hasId = true → 1 ≤ gSize w → gSize w ≤ 65536 → listInHbm w = true → keep =
      (s.members d w).filter (fun e => !s.flt.out.contains (memberModule e)) → keep.findIdx? (fun e => memberModule e * 16 +
      memberDie e == s.moduleId * 16 + d.val) = some r → noTwice (keep.map (fun e => memberModule e * 16 + memberDie e)) = true
      → ∃ t, exec (.groupValidationDone d g) s = .next t
      ∧ gValid (t.group d g) = true
      ∧ (gSize (t.group d g), gRank (t.group d g)) = (keep.length, r)
      ∧ bit (t.group d g) 509 = false
      ∧ t.bytes d (gList w) (4 * keep.length) = keep.flatMap (toBytes 4)
      ∧ gDigest (t.group d g) = (listDigest (gGid w) keep).toNat
      ∧ gEpoch (t.group d g) = s.epoch % 2 ^ 32
      ∧ gSeq (t.group d g) = 0
      ∧ (gList (t.group d g), gGid (t.group d g), gTimeout (t.group d g)) = (gList w, gGid w, gTimeout w)
      ∧ mapGet 0 (t.die d).col.validating g.val = 0
      ∧ (∀ k, k ≠ g.val → t.group d k = s.group d k)
      ∧ StoresAt s t d (fun a => decide (gList w ≤ a) && decide (a < gList w + 4 * keep.length))
      ∧ (∀ k, k ≠ d.val → t.die k = s.die k)
      ∧ { unstored t s with dies := s.dies } = s)
  ∧ (∀ (d : Fin 16) (g : Fin 256) (s : State), Rises s.dies → DieRises (s.die d) → mapGet 0 (s.die d).col.validating g.val ≠ 0
      → (bit (s.group d g) 510 = false ∨ s.flt.out.contains s.moduleId = true) → (s.groupBad d (s.group d g) = true ∨ (bit
      (s.group d g) 510 = true ∧ s.flt.out.contains s.moduleId = true)) → ∃ t, exec (.groupValidationDone d g) s = .next t
      ∧ gValid (t.group d g) = false
      ∧ bit (t.group d g) 509 = true
      ∧ mapGet 0 (t.die d).col.validating g.val = 0
      ∧ (∀ k, k ≠ g.val → t.group d k = s.group d k)
      ∧ (∀ k, k ≠ d.val → t.die k = s.die k)
      ∧ { t with dies := s.dies } = s)
  ∧ (∀ (d : Fin 16) (g : Fin 256) (s : State), mapGet 0 (s.die d).col.validating g.val = 0 → ∃ t, exec (.groupValidationDone d
      g) s = .next t
      ∧ t = s)
  ∧ (∀ (d : Fin 16) (g : Fin 256) (top : BitVec 64) (s : State), Rises s.dies → DieRises (s.die d) → bit top 63 = false →
      gValid (s.group d g) = true → gPhase (s.group d g) = 0 → ∃ t, exec (.groupEnd d g top) s = .next t
      ∧ gValid (t.group d g) = false
      ∧ bits (t.group d g) 509 0 = bits (s.group d g) 509 0
      ∧ (t.die d).col.buf = (s.die d).col.buf.filter (fun k => k.flow.toNat != g.val)
      ∧ (t.die d).col.early = (s.die d).col.early.filter (fun f => bits f 191 184 != g.val)
      ∧ (∀ k, k ≠ g.val → t.group d k = s.group d k)
      ∧ (∀ k, k ≠ d.val → t.die k = s.die k)
      ∧
        { t.die d with col := { (t.die d).col with groups := (s.die d).col.groups, buf := (s.die d).col.buf, early := (s.die d).col.early } }
        = s.die d
      ∧ { t with dies := s.dies } = s)
  ∧ (∀ (d : Fin 16) (g : Fin 256) (top : BitVec 64) (s : State), bit top 63 = false → gValid (s.group d g) = true → gPhase
      (s.group d g) ≠ 0 → ∃ t, exec (.groupEnd d g top) s = .next t
      ∧ t.flt.raised = s.flt.raised ++ [⟨softEvent d 0xFF 0 (memKey d (0x080400020000 + 0x40 * g)), s.gtNow⟩]
      ∧ { t with flt := { t.flt with raised := s.flt.raised } } = s)
  ∧ (∀ (d : Fin 16) (g : Fin 256) (top : BitVec 64) (s : State), Rises s.dies → DieRises (s.die d) → bit top 63 = false →
      gValid (s.group d g) = false → ∃ t, exec (.groupEnd d g top) s = .next t
      ∧ t.group d g = groupTop (s.group d g) top
      ∧ mapGet 0 (t.die d).col.validating g.val = 0
      ∧ (∀ k, k ≠ g.val → t.group d k = s.group d k)
      ∧ { t.die d with col := { (t.die d).col with groups := (s.die d).col.groups, validating := (s.die d).col.validating } } =
        s.die d
      ∧ (∀ k, k ≠ d.val → t.die k = s.die k)
      ∧ { t with dies := s.dies } = s)
  ∧ (∀ (d : Fin 16) (g : Fin 256) (top : BitVec 64) (s : State), bit top 63 = true → ∃ t, exec (.groupEnd d g top) s = .next t
      ∧ t = s)
  ∧ (∀ (d : Fin 16) (f : BitVec 256) (s : State), Rises s.dies → fKind f = 0x25 → s.fab.frames.contains (d.val, f) = true →
      s.dieRuns d = true → ∃ t, exec (.verdictAckReceive d f) s = .next t
      ∧ (t.die d).col.verdicts = (s.die d).col.verdicts.filter (fun v => !(v.g == cfGroup f && v.seq.toNat % 65536 == cfSeq f
        && v.m == fSrc f && v.d == cfSrcDie f))
      ∧ { t.die d with col := { (t.die d).col with verdicts := (s.die d).col.verdicts } } = s.die d
      ∧ t.fab.frames = s.fab.frames.erase (d.val, f)
      ∧ (∀ k, k ≠ d.val → t.die k = s.die k)
      ∧ { t with dies := s.dies, fab := { t.fab with frames := s.fab.frames } } = s)
  ∧ (∀ (d : Fin 16) (f : BitVec 256) (s : State), Rises s.dies → fKind f = 0x25 → s.fab.frames.contains (d.val, f) = true →
      s.dieRuns d = false → ∃ t, exec (.verdictAckReceive d f) s = .next t
      ∧ t.die d = { s.die d with asked := some ((s.die d).asked.getD s.time) }
      ∧ (∀ k, k ≠ d.val → t.die k = s.die k)
      ∧ { t with dies := s.dies } = s)
  ∧ (∀ (d : Fin 16) (f : BitVec 256) (s : State), (fKind f ≠ 0x25 ∨ s.fab.frames.contains (d.val, f) = false) → ∃ t, exec
      (.verdictAckReceive d f) s = .next t
      ∧ t = s)
  ∧ (∀ (d : Fin 16) (g : Fin 256) (due : List VerdictOut) (s : State), Rises s.dies → s.fenced = false → due = (s.die
      d).col.verdicts.filter (fun v => v.g == g.val && decide (v.at_ + 2 * tickUs ≤ s.time)) → due.all (fun v => decide
      (v.status < 256) && decide (v.stage < 4) && decide (v.m < 65536) && decide (v.d < 16) && s.ownModule v.m) = true → ∃ t,
      exec (.verdictResend d g) s = .next t
      ∧ (t.die d).col =
        { (s.die d).col with verdicts := (s.die d).col.verdicts.map (fun v => if v.g = g.val ∧ v.at_ + 2 * tickUs ≤ s.time then { v with at_ := s.time } else v) }
      ∧ t.fab.frames.take s.fab.frames.length = s.fab.frames
      ∧ (t.fab.frames.drop s.fab.frames.length).map (fun x => (x.1, fKind x.2, fDst x.2, cfGroup x.2, cfSeq x.2)) = due.map
        (fun v => (v.d, 0x24, v.m, g.val, v.seq.toNat % 65536))
      ∧ (t.fab.frames.drop s.fab.frames.length).map (fun x => (bits x.2 127 120, bits x.2 119 118, bits x.2 63 0, fSrc x.2,
        cfSrcDie x.2)) = due.map (fun v => (v.status, v.stage, v.tgo.toNat, s.moduleId % 65536, d.val))
      ∧ { t.die d with col := (s.die d).col } = s.die d
      ∧ (∀ k, k ≠ d.val → t.die k = s.die k)
      ∧ { uncarried t s with dies := s.dies, fab := { t.fab with frames := s.fab.frames } } = s)
  ∧ (∀ (d : Fin 16) (g : Fin 256) (s : State), Rises s.dies → ∃ t, exec (.verdictRetentionExpire d g) s = .next t
      ∧ (t.die d).col =
        { (s.die d).col with kept := (s.die d).col.kept.filter (fun k => !(k.g == g.val && decide (k.at_ + tickS ≤ s.time) && (!gValid (s.group d g) || k.seq != gSeq (s.group d g)))) }
      ∧ { t.die d with col := (s.die d).col } = s.die d
      ∧ (∀ k, k ≠ d.val → t.die k = s.die k)
      ∧ { t with dies := s.dies } = s)

/-- R365, R369 to R371, R376, R379, R381 to R386: MV.COLL on an idle valid group starts its huddle: a group of one finishes
a barrier at once, a member with a parent sends its three huddle frames up; a huddle frame is kept until every child's
are in, then the member forwards the combination or, as root, decides GO or an end; a verdict ends the collective with
its status and is acknowledged; a vote for a kept verdict is answered; a huddle that times out ends TIMEOUT at the root,
a data phase that times out votes TIMEOUT; a chunk is staged and acknowledged, its acknowledgement stops its timer, one
not acknowledged is sent again; a round whose data are missing is late. -/
def Obligations.CollectivesRun : Prop :=
  (∀ (d : Fin 16) (c : Fin 32) (k : Cmd) (g : Fin 256) (s : State), Issues s d c 2 0x45 k → TablesRise s → DieRises (s.die d)
      → g.val = bits k.word 95 88 → s.coll d g = none → gValid (s.group d g) = true → gPhase (s.group d g) = 0 → gSize (s.group
      d g) = 1 → gRank (s.group d g) = 0 → cOp (s.td d c (bits k.word 87 82)) = 7 → s.collCause d (s.collJob d g (s.td d c
      (bits k.word 87 82))) = 0 → (s.die d).col.kept = [] → (s.die d).col.early = [] → (s.die d).col.buf = [] → s.flt.out = []
      → s.obj 0x5300 4 + 1 < 2 ^ 32 → ∃ t, exec (.mvColl d c) s = .next t
      ∧ Issued s t d c 2 k stOk
      ∧ t.coll d g = none
      ∧ gSeq (t.group d g) = gSeq (s.group d g) + 1
      ∧ bits (t.group d g) 223 216 = 0
      ∧ gPhase (t.group d g) = 0
      ∧ t.obj 0x5300 4 = s.obj 0x5300 4 + 1
      ∧ unissued 2 (t.core d c) (s.core d c) = s.core d c
      ∧ KeepsObjects s t [objKey 0x5300 4]
      ∧ { t.die d with col := (s.die d).col } = s.die d
      ∧ (∀ k, k ≠ coreKey d c → mapGet { } t.cores k = mapGet { } s.cores k)
      ∧ (∀ k, k ≠ d.val → t.die k = s.die k)
      ∧ { uncarried t s with cores := s.cores, dies := s.dies, dict := s.dict } = s)
  ∧ (∀ (d : Fin 16) (c : Fin 32) (k : Cmd) (s : State), Issues s d c 2 0x45 k → s.coll d (bits k.word 95 88) = none → gValid
      (s.group d (bits k.word 95 88)) = false → ∃ t, exec (.mvColl d c) s = .next t
      ∧ Issued s t d c 2 k 0x65
      ∧ unissued 2 (t.core d c) (s.core d c) = s.core d c
      ∧ (∀ k, k ≠ coreKey d c → mapGet { } t.cores k = mapGet { } s.cores k)
      ∧ { t with cores := s.cores } = s)
  ∧ (∀ (d : Fin 16) (c : Fin 32) (s : State), s.collWaits d c = true → ∃ t, exec (.mvColl d c) s = .next t
      ∧ t = s)
  ∧ (∀ (d : Fin 16) (c : Fin 32) (k : Cmd) (g : Fin 256) (v : Kept) (s : State), Issues s d c 2 0x45 k → TablesRise s →
      DieRises (s.die d) → g.val = bits k.word 95 88 → s.coll d g = none → gValid (s.group d g) = true → s.keptVerdict d g
      (gSeq (s.group d g)).toNat = some v → v.status < 256 → s.collCause d (s.collJob d g (s.td d c (bits k.word 87 82))) = 0 →
      ∃ t, exec (.mvColl d c) s = .next t
      ∧ Issued s t d c 2 k v.status
      ∧ t.coll d g = none
      ∧ gSeq (t.group d g) = gSeq (s.group d g) + 1
      ∧ bits (t.group d g) 223 216 = v.status
      ∧ gPhase (t.group d g) = 0
      ∧ KeepsObjects s t [objKey 0x5300 4, objKey 0x5300 5, objKey 0x5300 6, objKey 0x5300 7, objKey 0x5300 8]
      ∧ unissued 2 (t.core d c) (s.core d c) = s.core d c
      ∧ { t.die d with col := (s.die d).col } = s.die d
      ∧ (∀ k, k ≠ coreKey d c → mapGet { } t.cores k = mapGet { } s.cores k)
      ∧ (∀ k, k ≠ d.val → t.die k = s.die k)
      ∧ { t with cores := s.cores, dies := s.dies, dict := s.dict } = s)
  ∧ (∀ (d : Fin 16) (c : Fin 32) (k : Cmd) (g : Fin 256) (s : State), Issues s d c 2 0x45 k → TablesRise s → DieRises (s.die d)
      → g.val = bits k.word 95 88 → s.coll d g = none → gValid (s.group d g) = true → (s.die d).col.kept = [] → (s.die
      d).col.early = [] → s.treeKidsOf d g ≠ [] → ∃ t, exec (.mvColl d c) s = .next t
      ∧ Issued s t d c 2 k stOk
      ∧ (((t.core d c).q 2).run.getLast?).map (fun r => r.awaits) = some [.group g]
      ∧ (t.coll d g).map (fun x => (x.phase, x.up, x.num, x.core, x.seq)) = some (1, false, k.num, c.val, gSeq (s.group d g))
      ∧ (t.coll d g).map (fun x => (x.desc, x.cause, x.since, x.frames)) = some (s.td d c (bits k.word 87 82), s.collCause d
        (s.collJob d g (s.td d c (bits k.word 87 82))), s.time, [])
      ∧ gPhase (t.group d g) = 1
      ∧ { t.die d with col := { (t.die d).col with groups := (s.die d).col.groups, active := (s.die d).col.active } } = s.die d
      ∧ unissued 2 (t.core d c) (s.core d c) = s.core d c
      ∧ (∀ k, k ≠ coreKey d c → mapGet { } t.cores k = mapGet { } s.cores k)
      ∧ (∀ k, k ≠ d.val → t.die k = s.die k)
      ∧ { t with cores := s.cores, dies := s.dies } = s)
  ∧ (∀ (d : Fin 16) (c : Fin 32) (k : Cmd) (g : Fin 256) (p : Nat) (s : State), Issues s d c 2 0x45 k → TablesRise s → DieRises
      (s.die d) → g.val = bits k.word 95 88 → s.coll d g = none → gValid (s.group d g) = true → (s.die d).col.kept = [] →
      (s.die d).col.early = [] → s.flt.out = [] → s.fenced = false → s.treeUpOf d g = some p → s.treeKidsOf d g = [] →
      s.ownModule (memberModule (s.member d (s.group d g) p)) = true → ∃ t, exec (.mvColl d c) s = .next t
      ∧ Issued s t d c 2 k stOk
      ∧ (((t.core d c).q 2).run.getLast?).map (fun r => r.awaits) = some [.group g]
      ∧ (t.coll d g).map (fun x => (x.phase, x.up, x.num, x.core, x.seq)) = some (1, true, k.num, c.val, gSeq (s.group d g))
      ∧ gPhase (t.group d g) = 1
      ∧ (t.fab.frames.drop s.fab.frames.length).map (fun x => (x.1, fKind x.2, cfGroup x.2)) = [(memberDie (s.member d (s.group
        d g) p), 0x20, g.val), (memberDie (s.member d (s.group d g) p), 0x21, g.val), (memberDie (s.member d (s.group d g) p),
        0x22, g.val)]
      ∧ t.fab.frames.take s.fab.frames.length = s.fab.frames
      ∧ unissued 2 (t.core d c) (s.core d c) = s.core d c
      ∧ { t.die d with col := { (t.die d).col with groups := (s.die d).col.groups, active := (s.die d).col.active } } = s.die d
      ∧ (∀ k, k ≠ coreKey d c → mapGet { } t.cores k = mapGet { } s.cores k)
      ∧ (∀ k, k ≠ d.val → t.die k = s.die k)
      ∧ { uncarried t s with cores := s.cores, dies := s.dies, fab := { t.fab with frames := s.fab.frames } } = s)
  ∧ (∀ (d : Fin 16) (f : BitVec 256) (c : Coll) (s : State), Rises s.dies → DieRises (s.die d) → (0x20 ≤ fKind f ∧ fKind f ≤
      0x22) → s.fab.frames.contains (d.val, f) = true → s.dieRuns d = true → s.coll d (cfGroup f) = some c → c.phase = 1 → c.up
      = false → c.broken = false → seqPast (cfSeq f) c.seq.toNat = false → (s.treeKidsOf d (cfGroup f)).any (fun k =>
      !((s.huddleOf d (cfGroup f) (c.frames ++ [f]) k 0x20).isSome && (s.huddleOf d (cfGroup f) (c.frames ++ [f]) k
      0x21).isSome && (s.huddleOf d (cfGroup f) (c.frames ++ [f]) k 0x22).isSome) && !c.votes.any (fun v => v.rank == k)) =
      true → ∃ t, exec (.huddleFrameReceive d f) s = .next t
      ∧ t.coll d (cfGroup f) = some { c with frames := c.frames ++ [f] }
      ∧ t.fab.frames = s.fab.frames.erase (d.val, f)
      ∧ { t.die d with col := { (t.die d).col with active := (s.die d).col.active } } = s.die d
      ∧ (∀ k, k ≠ d.val → t.die k = s.die k)
      ∧ { t with dies := s.dies, fab := { t.fab with frames := s.fab.frames } } = s)
  ∧ (∀ (d : Fin 16) (f fa fb fc : BitVec 256) (c : Coll) (k p : Nat) (s : State), TablesRise s → DieRises (s.die d) → (0x20 ≤
      fKind f ∧ fKind f ≤ 0x22) → s.fab.frames.contains (d.val, f) = true → s.dieRuns d = true → s.fenced = false → s.coll d
      (cfGroup f) = some c → c.phase = 1 → c.up = false → c.broken = false → c.votes = [] → seqPast (cfSeq f) c.seq.toNat =
      false → s.treeKidsOf d (cfGroup f) = [k] → s.huddleOf d (cfGroup f) (c.frames ++ [f]) k 0x20 = some fa → s.huddleOf d
      (cfGroup f) (c.frames ++ [f]) k 0x21 = some fb → s.huddleOf d (cfGroup f) (c.frames ++ [f]) k 0x22 = some fc → s.treeUpOf
      d (cfGroup f) = some p → s.ownModule (memberModule (s.member d (s.group d (cfGroup f)) p)) = true → ∃ t, exec
      (.huddleFrameReceive d f) s = .next t
      ∧ t.coll d (cfGroup f) = some { c with frames := c.frames ++ [f], up := true }
      ∧ t.fab.frames.take (s.fab.frames.length - 1) = s.fab.frames.erase (d.val, f)
      ∧ (t.fab.frames.drop (s.fab.frames.length - 1)).map (fun x => (x.1, fKind x.2, cfGroup x.2, cfSeq x.2)) = [0x20, 0x21,
        0x22].map (fun j => (memberDie (s.member d (s.group d (cfGroup f)) p), j, cfGroup f, c.seq.toNat % 65536))
      ∧ (t.fab.frames.drop (s.fab.frames.length - 1)).map (fun x => (bits x.2 127 64, bits x.2 63 0)) = [(bits c.desc 127 57 *
        2 ^ 57 / 2 ^ 64, bits c.desc 63 57 * 2 ^ 57 + field 25 c.sched.toNat + field 24 (c.differs (gDigest (s.group d (cfGroup
        f))) fa fb || c.cause != 0).toNat + field 23 (bit fa 23).toNat + field 22 (s.groupBroken d (cfGroup f) || bit fa
        22).toNat), (c.sig.toNat, gDigest (s.group d (cfGroup f))), (0, (c.balance + BitVec.ofNat 64 (bits fc 63 0)).toNat)]
      ∧ { t.die d with col := { (t.die d).col with active := (s.die d).col.active } } = s.die d
      ∧ (∀ k, k ≠ d.val → t.die k = s.die k)
      ∧ { uncarried t s with dies := s.dies, fab := { t.fab with frames := s.fab.frames } } = s)
  ∧ (∀ (d : Fin 16) (f fa fb fc : BitVec 256) (c : Coll) (k : Nat) (s : State), TablesRise s → DieRises (s.die d) → (0x20 ≤
      fKind f ∧ fKind f ≤ 0x22) → s.fab.frames.contains (d.val, f) = true → s.dieRuns d = true → s.fenced = false → s.coll d
      (cfGroup f) = some c → c.phase = 1 → c.up = false → c.broken = false → c.votes = [] → seqPast (cfSeq f) c.seq.toNat =
      false → s.treeKidsOf d (cfGroup f) = [k] → s.huddleOf d (cfGroup f) (c.frames ++ [f]) k 0x20 = some fa → s.huddleOf d
      (cfGroup f) (c.frames ++ [f]) k 0x21 = some fb → s.huddleOf d (cfGroup f) (c.frames ++ [f]) k 0x22 = some fc → s.treeUpOf
      d (cfGroup f) = none → s.ownModule (memberModule (s.member d (s.group d (cfGroup f)) k)) = true → c.differs (gDigest
      (s.group d (cfGroup f))) fa fb = false → c.cause = 0 → bit fa 23 = false → bit fa 22 = false → s.groupBroken d (cfGroup
      f) = false → (c.balance + BitVec.ofNat 64 (bits fc 63 0)) = 0 → cOp c.desc = 7 → c.flight = [] → c.outcome = 0 → c.voted
      = false → ∃ t, exec (.huddleFrameReceive d f) s = .next t
      ∧ t.coll d (cfGroup f) = some
        { c with frames := c.frames ++ [f], up := true, phase := 3, since := s.time, tgo := s.localGt d }
      ∧ gPhase (t.group d (cfGroup f)) = 3
      ∧ t.fab.frames.dropLast = s.fab.frames.erase (d.val, f)
      ∧ t.fab.frames.getLast?.map (fun x => (x.1, fKind x.2, cfGroup x.2, cfSeq x.2)) = some (memberDie (s.member d (s.group d
        (cfGroup f)) k), 0x24, cfGroup f, c.seq.toNat % 65536)
      ∧ t.fab.frames.getLast?.map (fun x => (bits x.2 127 120, bits x.2 119 118, bits x.2 63 0)) = some (0, 1, (s.localGt
        d).toNat)
      ∧ (t.die d).col.verdicts.getLast?.map (fun v => (v.g, v.seq, v.status, v.stage, v.at_)) = some (cfGroup f, c.seq, 0, 1,
        s.time)
      ∧ { t.die d with col := (s.die d).col } = s.die d
      ∧ (∀ k, k ≠ d.val → t.die k = s.die k)
      ∧ { uncarried t s with dies := s.dies, fab := { t.fab with frames := s.fab.frames } } = s)
  ∧ (∀ (d : Fin 16) (f fa fb fc : BitVec 256) (c : Coll) (k st : Nat) (s : State), TablesRise s → DieRises (s.die d) → (0x20 ≤
      fKind f ∧ fKind f ≤ 0x22) → s.fab.frames.contains (d.val, f) = true → s.dieRuns d = true → s.fenced = false → s.coll d
      (cfGroup f) = some c → c.phase = 1 → c.up = false → c.broken = false → c.votes = [] → seqPast (cfSeq f) c.seq.toNat =
      false → s.treeKidsOf d (cfGroup f) = [k] → s.huddleOf d (cfGroup f) (c.frames ++ [f]) k 0x20 = some fa → s.huddleOf d
      (cfGroup f) (c.frames ++ [f]) k 0x21 = some fb → s.huddleOf d (cfGroup f) (c.frames ++ [f]) k 0x22 = some fc → s.treeUpOf
      d (cfGroup f) = none → s.ownModule (memberModule (s.member d (s.group d (cfGroup f)) k)) = true → st = huddleVerdict
      (s.groupBroken d (cfGroup f) || bit fa 22) (c.differs (gDigest (s.group d (cfGroup f))) fa fb || c.cause != 0) (bit fa
      23) (c.balance + BitVec.ofNat 64 (bits fc 63 0)) → st ≠ 0 → ∃ t, exec (.huddleFrameReceive d f) s = .next t
      ∧ t.coll d (cfGroup f) = none
      ∧ bits (t.group d (cfGroup f)) 223 216 = st
      ∧ gSeq (t.group d (cfGroup f)) = gSeq (s.group d (cfGroup f)) + 1
      ∧ gPhase (t.group d (cfGroup f)) = 0
      ∧ t.fab.frames.dropLast = s.fab.frames.erase (d.val, f)
      ∧ t.fab.frames.getLast?.map (fun x => (x.1, fKind x.2, cfGroup x.2, cfSeq x.2)) = some (memberDie (s.member d (s.group d
        (cfGroup f)) k), 0x24, cfGroup f, c.seq.toNat % 65536)
      ∧ t.fab.frames.getLast?.map (fun x => (bits x.2 127 120, bits x.2 119 118)) = some (st, 1)
      ∧ (t.die d).col.kept.getLast? = some { g := cfGroup f, seq := c.seq, status := st, at_ := s.time }
      ∧ t.core d c.core = (s.core d c.core).modRun 2 c.num (fun r =>
        { r with progress := s.time, status := BitVec.ofNat 8 st, busy := false, awaits := [], todo := [] })
      ∧ (∀ k, k ≠ coreKey d c.core → mapGet { } t.cores k = mapGet { } s.cores k)
      ∧ KeepsObjects s t [objKey 0x5300 4, objKey 0x5300 5, objKey 0x5300 6, objKey 0x5300 7, objKey 0x5300 8]
      ∧ { t.die d with col := (s.die d).col } = s.die d
      ∧ (∀ k, k ≠ d.val → t.die k = s.die k)
      ∧ { uncarried t s with cores := s.cores, dies := s.dies, dict := s.dict, fab := { t.fab with frames := s.fab.frames } } =
        s)
  ∧ (∀ (d : Fin 16) (f : BitVec 256) (s : State), Rises s.dies → (0x20 ≤ fKind f ∧ fKind f ≤ 0x22) → s.fab.frames.contains
      (d.val, f) = true → s.dieRuns d = true → s.coll d (cfGroup f) = none → (gValid (s.group d (cfGroup f)) = false ∨ seqPast
      (cfSeq f) (gSeq (s.group d (cfGroup f))).toNat = false) → ∃ t, exec (.huddleFrameReceive d f) s = .next t
      ∧ (t.die d).col = { (s.die d).col with early := (s.die d).col.early ++ [f] }
      ∧ t.fab.frames = s.fab.frames.erase (d.val, f)
      ∧ { t.die d with col := (s.die d).col } = s.die d
      ∧ (∀ k, k ≠ d.val → t.die k = s.die k)
      ∧ { t with dies := s.dies, fab := { t.fab with frames := s.fab.frames } } = s)
  ∧ (∀ (d : Fin 16) (f : BitVec 256) (s : State), (0x20 ≤ fKind f ∧ fKind f ≤ 0x22) → s.fab.frames.contains (d.val, f) = true →
      s.dieRuns d = true → s.coll d (cfGroup f) = none → gValid (s.group d (cfGroup f)) = true → seqPast (cfSeq f) (gSeq
      (s.group d (cfGroup f))).toNat = true → ∃ t, exec (.huddleFrameReceive d f) s = .next t
      ∧ t = { s with fab := { s.fab with frames := s.fab.frames.erase (d.val, f) } })
  ∧ (∀ (d : Fin 16) (f : BitVec 256) (s : State), ((fKind f < 0x20 ∨ 0x22 < fKind f) ∨ s.fab.frames.contains (d.val, f) =
      false) → ∃ t, exec (.huddleFrameReceive d f) s = .next t
      ∧ t = s)
  ∧ (∀ (d : Fin 16) (f : BitVec 256) (s : State), Rises s.dies → ((0x20 ≤ fKind f ∧ fKind f ≤ 0x22)) → s.fab.frames.contains
      (d.val, f) = true → s.dieRuns d = false → ∃ t, exec (.huddleFrameReceive d f) s = .next t
      ∧ t.die d = { s.die d with asked := some ((s.die d).asked.getD s.time) }
      ∧ (∀ k, k ≠ d.val → t.die k = s.die k)
      ∧ { t with dies := s.dies } = s)
  ∧ (∀ (d : Fin 16) (f : BitVec 256) (c : Coll) (st sub : Nat) (s : State), TablesRise s → DieRises (s.die d) → fKind f = 0x24
      → s.fab.frames.contains (d.val, f) = true → s.dieRuns d = true → s.fenced = false → s.ownModule (fSrc f) = true → s.coll
      d (cfGroup f) = some c → cfSeq f = c.seq.toNat % 65536 → bits f 127 120 = st → (st, sub) ∈ [(0x60, 5), (0x64, 6), (0x62,
      7), (0x63, 7), (0x61, 8)] → s.treeKidsOf d (cfGroup f) = [] → s.obj 0x5300 4 + 1 < 2 ^ 32 → s.obj 0x5300 sub + 1 < 2 ^ 32
      → ∃ t, exec (.verdictReceive d f) s = .next t
      ∧ t.coll d (cfGroup f) = none
      ∧ bits (t.group d (cfGroup f)) 223 216 = st
      ∧ gSeq (t.group d (cfGroup f)) = gSeq (s.group d (cfGroup f)) + 1
      ∧ t.fab.frames.dropLast = s.fab.frames.erase (d.val, f)
      ∧ t.fab.frames.getLast?.map (fun x => (x.1, fKind x.2, cfGroup x.2, cfSeq x.2)) = some (cfSrcDie f, 0x25, cfGroup f,
        cfSeq f)
      ∧ t.obj 0x5300 sub = s.obj 0x5300 sub + 1
      ∧ t.obj 0x5300 4 = s.obj 0x5300 4 + 1
      ∧ KeepsObjects s t [objKey 0x5300 4, objKey 0x5300 sub]
      ∧ (t.die d).col.kept.getLast? = some { g := cfGroup f, seq := c.seq, status := st, at_ := s.time }
      ∧ t.core d c.core = (s.core d c.core).modRun 2 c.num (fun r =>
        { r with progress := s.time, status := BitVec.ofNat 8 st, busy := false, awaits := [], todo := [] })
      ∧ (∀ k, k ≠ coreKey d c.core → mapGet { } t.cores k = mapGet { } s.cores k)
      ∧ { t.die d with col := (s.die d).col } = s.die d
      ∧ (∀ k, k ≠ d.val → t.die k = s.die k)
      ∧ { uncarried t s with cores := s.cores, dies := s.dies, dict := s.dict, fab := { t.fab with frames := s.fab.frames } } =
        s)
  ∧ (∀ (d : Fin 16) (f : BitVec 256) (c : Coll) (s : State), TablesRise s → DieRises (s.die d) → fKind f = 0x24 →
      s.fab.frames.contains (d.val, f) = true → s.dieRuns d = true → s.fenced = false → s.ownModule (fSrc f) = true → s.coll d
      (cfGroup f) = some c → cfSeq f = c.seq.toNat % 65536 → bits f 127 120 = 0 → bits f 119 118 = 2 → s.treeKidsOf d (cfGroup
      f) = [] → s.obj 0x5300 4 + 1 < 2 ^ 32 → ∃ t, exec (.verdictReceive d f) s = .next t
      ∧ t.coll d (cfGroup f) = none
      ∧ bits (t.group d (cfGroup f)) 223 216 = 0
      ∧ gSeq (t.group d (cfGroup f)) = gSeq (s.group d (cfGroup f)) + 1
      ∧ gPhase (t.group d (cfGroup f)) = 0
      ∧ t.fab.frames.take (s.fab.frames.length - 1) = s.fab.frames.erase (d.val, f)
      ∧ (t.fab.frames.drop (s.fab.frames.length - 1)).map (fun x => (x.1, fKind x.2, cfGroup x.2, cfSeq x.2)) = [(cfSrcDie f,
        0x25, cfGroup f, cfSeq f)]
      ∧ t.obj 0x5300 4 = s.obj 0x5300 4 + 1
      ∧ KeepsObjects s t [objKey 0x5300 4]
      ∧ (t.die d).col.kept.getLast? = some { g := cfGroup f, seq := c.seq, status := 0, at_ := s.time }
      ∧ t.core d c.core = (s.core d c.core).modRun 2 c.num (fun r =>
        { r with progress := s.time, awaits := r.awaits.filter (· != .group (cfGroup f)), tiles := s.collTiles d (cfGroup f) c })
      ∧ (∀ k, k ≠ coreKey d c.core → mapGet { } t.cores k = mapGet { } s.cores k)
      ∧ { t.die d with col := (s.die d).col } = s.die d
      ∧ (∀ k, k ≠ d.val → t.die k = s.die k)
      ∧ { uncarried t s with cores := s.cores, dies := s.dies, dict := s.dict, fab := { t.fab with frames := s.fab.frames } } =
        s)
  ∧ (∀ (d : Fin 16) (f : BitVec 256) (c : Coll) (p : Nat) (s : State), TablesRise s → DieRises (s.die d) → fKind f = 0x24 →
      s.fab.frames.contains (d.val, f) = true → s.dieRuns d = true → s.fenced = false → s.ownModule (fSrc f) = true → s.coll d
      (cfGroup f) = some c → cfSeq f = c.seq.toNat % 65536 → bits f 127 120 = 0 → bits f 119 118 = 1 → c.phase = 1 → c.broken =
      false → c.voted = false → c.outcome = 0 → c.flight = [] → c.votes = [] → cOp c.desc = 7 → s.treeKidsOf d (cfGroup f) = []
      → s.treeUpOf d (cfGroup f) = some p → s.ownModule (memberModule (s.member d (s.group d (cfGroup f)) p)) = true → ∃ t,
      exec (.verdictReceive d f) s = .next t
      ∧ t.coll d (cfGroup f) = some { c with phase := 3, since := s.time, tgo := BitVec.ofNat 64 (bits f 63 0), voted := true }
      ∧ gPhase (t.group d (cfGroup f)) = 3
      ∧ t.fab.frames.take (s.fab.frames.length - 1) = s.fab.frames.erase (d.val, f)
      ∧ (t.fab.frames.drop (s.fab.frames.length - 1)).map (fun x => (x.1, fKind x.2, cfGroup x.2, cfSeq x.2)) = [(cfSrcDie f,
        0x25, cfGroup f, cfSeq f), (memberDie (s.member d (s.group d (cfGroup f)) p), 0x23, cfGroup f, c.seq.toNat % 65536)]
      ∧ t.fab.frames.getLast?.map (fun x => (bits x.2 127 120, bit x.2 119, bit x.2 118)) = some (0, false, false)
      ∧ { t.die d with col := { (t.die d).col with groups := (s.die d).col.groups, active := (s.die d).col.active } } = s.die d
      ∧ (∀ k, k ≠ d.val → t.die k = s.die k)
      ∧ { uncarried t s with dies := s.dies, fab := { t.fab with frames := s.fab.frames } } = s)
  ∧ (∀ (d : Fin 16) (f : BitVec 256) (s : State), TablesRise s → DieRises (s.die d) → fKind f = 0x24 → s.fab.frames.contains
      (d.val, f) = true → s.dieRuns d = true → s.fenced = false → s.ownModule (fSrc f) = true → s.coll d (cfGroup f) = none →
      gValid (s.group d (cfGroup f)) = true → cfSeq f = (gSeq (s.group d (cfGroup f))).toNat % 65536 → (bits f 127 120 ≠ 0 ∨
      bits f 119 118 ≠ 1) → s.keptVerdict d (cfGroup f) (gSeq (s.group d (cfGroup f))).toNat = none → s.treeKidsOf d (cfGroup
      f) = [] → ∃ t, exec (.verdictReceive d f) s = .next t
      ∧ (t.die d).col =
        { (s.die d).col with kept := (s.die d).col.kept ++ [{ g := cfGroup f, seq := gSeq (s.group d (cfGroup f)), status := bits f 127 120, at_ := s.time }] }
      ∧ t.fab.frames.take (s.fab.frames.length - 1) = s.fab.frames.erase (d.val, f)
      ∧ (t.fab.frames.drop (s.fab.frames.length - 1)).map (fun x => (x.1, fKind x.2, cfGroup x.2, cfSeq x.2)) = [(cfSrcDie f,
        0x25, cfGroup f, cfSeq f)]
      ∧ { t.die d with col := (s.die d).col } = s.die d
      ∧ (∀ k, k ≠ d.val → t.die k = s.die k)
      ∧ { uncarried t s with dies := s.dies, fab := { t.fab with frames := s.fab.frames } } = s)
  ∧ (∀ (d : Fin 16) (f : BitVec 256) (s : State), TablesRise s → DieRises (s.die d) → fKind f = 0x24 → s.fab.frames.contains
      (d.val, f) = true → s.dieRuns d = true → s.fenced = false → s.ownModule (fSrc f) = true → ((s.coll d (cfGroup f)).any
      (fun c => cfSeq f != c.seq.toNat % 65536 || (bits f 119 118 == 1 && bits f 127 120 == 0 && c.phase != 1)) = true ∨
      (s.coll d (cfGroup f) = none ∧ (gValid (s.group d (cfGroup f)) = false ∨ cfSeq f ≠ (gSeq (s.group d (cfGroup f))).toNat %
      65536))) → ∃ t, exec (.verdictReceive d f) s = .next t
      ∧ t.fab.frames.take (s.fab.frames.length - 1) = s.fab.frames.erase (d.val, f)
      ∧ (t.fab.frames.drop (s.fab.frames.length - 1)).map (fun x => (x.1, fKind x.2, cfGroup x.2, cfSeq x.2)) = [(cfSrcDie f,
        0x25, cfGroup f, cfSeq f)]
      ∧ { uncarried t s with fab := { t.fab with frames := s.fab.frames } } = s)
  ∧ (∀ (d : Fin 16) (f : BitVec 256) (s : State), (fKind f ≠ 0x24 ∨ s.fab.frames.contains (d.val, f) = false) → ∃ t, exec
      (.verdictReceive d f) s = .next t
      ∧ t = s)
  ∧ (∀ (d : Fin 16) (f : BitVec 256) (s : State), Rises s.dies → fKind f = 0x24 → s.fab.frames.contains (d.val, f) = true →
      s.dieRuns d = false → ∃ t, exec (.verdictReceive d f) s = .next t
      ∧ t.die d = { s.die d with asked := some ((s.die d).asked.getD s.time) }
      ∧ (∀ k, k ≠ d.val → t.die k = s.die k)
      ∧ { t with dies := s.dies } = s)
  ∧ (∀ (d : Fin 16) (f : BitVec 256) (k : Kept) (s : State), fKind f = 0x23 → s.fab.frames.contains (d.val, f) = true →
      s.dieRuns d = true → s.fenced = false → s.ownModule (fSrc f) = true → s.coll d (cfGroup f) = none → s.keptVerdict d
      (cfGroup f) (cfSeq f) = some k → k.status < 256 → ∃ t, exec (.voteReceive d f) s = .next t
      ∧ t.fab.frames.dropLast = s.fab.frames.erase (d.val, f)
      ∧ t.fab.frames.getLast?.map (fun x => (x.1, fKind x.2, cfGroup x.2, cfSeq x.2, bits x.2 127 120)) = some (cfSrcDie f,
        0x24, cfGroup f, cfSeq f, k.status)
      ∧ { uncarried t s with fab := { t.fab with frames := s.fab.frames } } = s)
  ∧ (∀ (d : Fin 16) (f : BitVec 256) (c : Coll) (r : Nat) (s : State), Rises s.dies → DieRises (s.die d) → fKind f = 0x23 →
      s.fab.frames.contains (d.val, f) = true → s.dieRuns d = true → s.coll d (cfGroup f) = some c → cfSeq f = c.seq.toNat %
      65536 → s.senderRank d (cfGroup f) f = some r → ((c.phase = 2 ∧ c.broken = false) ∨ (c.phase = 3 ∧ (s.treeKidsOf d
      (cfGroup f)).any (fun k => !s.kidVoted d (cfGroup f)
      { c with votes := c.votes.filter (fun x => x.rank != r) ++ [{ rank := r, status := bits f 127 120, held := bit f 119, broken := bit f 118 }] }
      k) = true)) → ∃ t, exec (.voteReceive d f) s = .next t
      ∧ t.coll d (cfGroup f) = some
        { c with votes := c.votes.filter (fun x => x.rank != r) ++ [{ rank := r, status := bits f 127 120, held := bit f 119, broken := bit f 118 }] }
      ∧ t.fab.frames = s.fab.frames.erase (d.val, f)
      ∧ { t.die d with col := { (t.die d).col with active := (s.die d).col.active } } = s.die d
      ∧ (∀ k, k ≠ d.val → t.die k = s.die k)
      ∧ { t with dies := s.dies, fab := { t.fab with frames := s.fab.frames } } = s)
  ∧ (∀ (d : Fin 16) (f : BitVec 256) (c : Coll) (r p : Nat) (s : State), TablesRise s → DieRises (s.die d) → fKind f = 0x23 →
      s.fab.frames.contains (d.val, f) = true → s.dieRuns d = true → s.fenced = false → s.coll d (cfGroup f) = some c → cfSeq f
      = c.seq.toNat % 65536 → s.senderRank d (cfGroup f) f = some r → c.phase = 3 → c.broken = false → c.voted = false →
      c.votes = [] → c.outcome < 256 → bit f 119 = false → s.treeKidsOf d (cfGroup f) = [r] → s.treeUpOf d (cfGroup f) = some p
      → s.ownModule (memberModule (s.member d (s.group d (cfGroup f)) p)) = true → ∃ t, exec (.voteReceive d f) s = .next t
      ∧ t.coll d (cfGroup f) = some
        { c with voted := true, votes := [{ rank := r, status := bits f 127 120, held := false, broken := bit f 118 }] }
      ∧ t.fab.frames.dropLast = s.fab.frames.erase (d.val, f)
      ∧ t.fab.frames.getLast?.map (fun x => (x.1, fKind x.2, cfGroup x.2, cfSeq x.2)) = some (memberDie (s.member d (s.group d
        (cfGroup f)) p), 0x23, cfGroup f, c.seq.toNat % 65536)
      ∧ t.fab.frames.getLast?.map (fun x => (bits x.2 127 120, bit x.2 119, bit x.2 118)) = some (worst c.outcome (bits f 127
        120), false, bit f 118)
      ∧ { t.die d with col := { (t.die d).col with active := (s.die d).col.active } } = s.die d
      ∧ (∀ k, k ≠ d.val → t.die k = s.die k)
      ∧ { uncarried t s with dies := s.dies, fab := { t.fab with frames := s.fab.frames } } = s)
  ∧ (∀ (d : Fin 16) (f : BitVec 256) (c : Coll) (r st : Nat) (s : State), TablesRise s → DieRises (s.die d) → fKind f = 0x23 →
      s.fab.frames.contains (d.val, f) = true → s.dieRuns d = true → s.fenced = false → s.coll d (cfGroup f) = some c → cfSeq f
      = c.seq.toNat % 65536 → s.senderRank d (cfGroup f) f = some r → c.phase = 3 → c.broken = false → c.voted = false →
      c.votes = [] → c.outcome < 256 → bit f 119 = false → s.treeKidsOf d (cfGroup f) = [r] → s.treeUpOf d (cfGroup f) = none →
      s.ownModule (memberModule (s.member d (s.group d (cfGroup f)) r)) = true → st = (if bit f 118 then 0x61 else worst
      c.outcome (bits f 127 120)) → ∃ t, exec (.voteReceive d f) s = .next t
      ∧ t.coll d (cfGroup f) = none
      ∧ bits (t.group d (cfGroup f)) 223 216 = st
      ∧ gSeq (t.group d (cfGroup f)) = gSeq (s.group d (cfGroup f)) + 1
      ∧ gPhase (t.group d (cfGroup f)) = 0
      ∧ t.fab.frames.dropLast = s.fab.frames.erase (d.val, f)
      ∧ t.fab.frames.getLast?.map (fun x => (x.1, fKind x.2, cfGroup x.2, cfSeq x.2)) = some (memberDie (s.member d (s.group d
        (cfGroup f)) r), 0x24, cfGroup f, c.seq.toNat % 65536)
      ∧ t.fab.frames.getLast?.map (fun x => (bits x.2 127 120, bits x.2 119 118)) = some (st, 2)
      ∧ (t.die d).col.kept.getLast? = some { g := cfGroup f, seq := c.seq, status := st, at_ := s.time }
      ∧ ((t.core d c.core).q 2).run.map (fun r => if r.num = c.num then r.status else 0) = ((s.core d c.core).q 2).run.map (fun
        r => if r.num = c.num then (if st = 0 then r.status else BitVec.ofNat 8 st) else 0)
      ∧ (∀ k, k ≠ coreKey d c.core → mapGet { } t.cores k = mapGet { } s.cores k)
      ∧ KeepsObjects s t [objKey 0x5300 4, objKey 0x5300 5, objKey 0x5300 6, objKey 0x5300 7, objKey 0x5300 8]
      ∧ { t.die d with col := (s.die d).col } = s.die d
      ∧ (∀ k, k ≠ d.val → t.die k = s.die k)
      ∧ { uncarried t s with cores := s.cores, dies := s.dies, dict := s.dict, fab := { t.fab with frames := s.fab.frames } } =
        s)
  ∧ (∀ (d : Fin 16) (f : BitVec 256) (s : State), TablesRise s → DieRises (s.die d) → fKind f = 0x23 → s.fab.frames.contains
      (d.val, f) = true → s.dieRuns d = true → s.coll d (cfGroup f) = none → s.keptVerdict d (cfGroup f) (cfSeq f) = none →
      gValid (s.group d (cfGroup f)) = true → seqPast (cfSeq f) (gSeq (s.group d (cfGroup f))).toNat = false → ∃ t, exec
      (.voteReceive d f) s = .next t
      ∧ (t.die d).col = { (s.die d).col with early := (s.die d).col.early ++ [f] }
      ∧ t.fab.frames = s.fab.frames.erase (d.val, f)
      ∧ { t.die d with col := (s.die d).col } = s.die d
      ∧ (∀ k, k ≠ d.val → t.die k = s.die k)
      ∧ { t with dies := s.dies, fab := { t.fab with frames := s.fab.frames } } = s)
  ∧ (∀ (d : Fin 16) (f : BitVec 256) (s : State), TablesRise s → DieRises (s.die d) → fKind f = 0x23 → s.fab.frames.contains
      (d.val, f) = true → s.dieRuns d = true → s.coll d (cfGroup f) = none → s.keptVerdict d (cfGroup f) (cfSeq f) = none →
      (gValid (s.group d (cfGroup f)) = false ∨ seqPast (cfSeq f) (gSeq (s.group d (cfGroup f))).toNat = true) → ∃ t, exec
      (.voteReceive d f) s = .next t
      ∧ t = { s with fab := { s.fab with frames := s.fab.frames.erase (d.val, f) } })
  ∧ (∀ (d : Fin 16) (f : BitVec 256) (s : State), (fKind f ≠ 0x23 ∨ s.fab.frames.contains (d.val, f) = false) → ∃ t, exec
      (.voteReceive d f) s = .next t
      ∧ t = s)
  ∧ (∀ (d : Fin 16) (f : BitVec 256) (s : State), Rises s.dies → fKind f = 0x23 → s.fab.frames.contains (d.val, f) = true →
      s.dieRuns d = false → ∃ t, exec (.voteReceive d f) s = .next t
      ∧ t.die d = { s.die d with asked := some ((s.die d).asked.getD s.time) }
      ∧ (∀ k, k ≠ d.val → t.die k = s.die k)
      ∧ { t with dies := s.dies } = s)
  ∧ (∀ (d : Fin 16) (g : Fin 256) (c : Coll) (k : Nat) (s : State), TablesRise s → DieRises (s.die d) → s.coll d g = some c →
      c.phase = 1 → c.up = false → c.broken = false → c.cause = 0 → c.balance = 0 → c.frames = [] → c.votes = [] →
      s.groupBroken d g = false → c.since + s.collT d g ≤ s.time → s.treeUpOf d g = none → s.treeKidsOf d g = [k] → s.fenced =
      false → s.ownModule (memberModule (s.member d (s.group d g) k)) = true → s.obj 0x5300 4 + 1 < 2 ^ 32 → s.obj 0x5300 7 + 1
      < 2 ^ 32 → ∃ t, exec (.huddleTimeout d g) s = .next t
      ∧ t.coll d g = none
      ∧ bits (t.group d g) 223 216 = 0x62
      ∧ gSeq (t.group d g) = gSeq (s.group d g) + 1
      ∧ (t.fab.frames.drop s.fab.frames.length).map (fun x => (x.1, fKind x.2, cfGroup x.2, bits x.2 127 120)) = [(memberDie
        (s.member d (s.group d g) k), 0x24, g.val, 0x62)]
      ∧ t.obj 0x5300 7 = s.obj 0x5300 7 + 1
      ∧ KeepsObjects s t [objKey 0x5300 4, objKey 0x5300 7]
      ∧ t.core d c.core = (s.core d c.core).modRun 2 c.num (fun r =>
        { r with progress := s.time, status := BitVec.ofNat 8 0x62, busy := false, awaits := [], todo := [] })
      ∧ (∀ k, k ≠ coreKey d c.core → mapGet { } t.cores k = mapGet { } s.cores k)
      ∧ { t.die d with col := (s.die d).col } = s.die d
      ∧ (∀ k, k ≠ d.val → t.die k = s.die k)
      ∧ { uncarried t s with cores := s.cores, dies := s.dies, dict := s.dict, fab := { t.fab with frames := s.fab.frames } } =
        s)
  ∧ (∀ (d : Fin 16) (g : Fin 256) (c : Coll) (p : Nat) (s : State), TablesRise s → DieRises (s.die d) → s.coll d g = some c →
      c.phase = 1 → c.up = false → c.broken = false → c.frames = [] → c.votes = [] → c.since + s.collT d g ≤ s.time →
      s.treeUpOf d g = some p → s.fenced = false → s.ownModule (memberModule (s.member d (s.group d g) p)) = true → ∃ t, exec
      (.huddleTimeout d g) s = .next t
      ∧ t.coll d g = some { c with up := true }
      ∧ t.fab.frames.take s.fab.frames.length = s.fab.frames
      ∧ (t.fab.frames.drop s.fab.frames.length).map (fun x => (x.1, fKind x.2, cfGroup x.2, cfSeq x.2)) = [0x20, 0x21,
        0x22].map (fun j => (memberDie (s.member d (s.group d g) p), j, g.val, c.seq.toNat % 65536))
      ∧ ((t.fab.frames.drop s.fab.frames.length).head?).map (fun x => (bit x.2 24, bit x.2 23, bit x.2 22)) = some (c.cause !=
        0, true, s.groupBroken d g)
      ∧ { t.die d with col := { (t.die d).col with active := (s.die d).col.active } } = s.die d
      ∧ (∀ k, k ≠ d.val → t.die k = s.die k)
      ∧ { uncarried t s with dies := s.dies, fab := { t.fab with frames := s.fab.frames } } = s)
  ∧ (∀ (d : Fin 16) (g : Fin 256) (c : Coll) (p : Nat) (s : State), TablesRise s → DieRises (s.die d) → s.coll d g = some c →
      c.phase = 1 → c.broken = true → c.voted = false → c.votes = [] → c.since + s.collT d g ≤ s.time → s.treeUpOf d g = some p
      → s.fenced = false → s.ownModule (memberModule (s.member d (s.group d g) p)) = true → ∃ t, exec (.huddleTimeout d g) s =
      .next t
      ∧ t.coll d g = some { c with voted := true }
      ∧ t.fab.frames.dropLast = s.fab.frames
      ∧ t.fab.frames.getLast?.map (fun x => (x.1, fKind x.2, cfGroup x.2, cfSeq x.2)) = some (memberDie (s.member d (s.group d
        g) p), 0x23, g.val, c.seq.toNat % 65536)
      ∧ t.fab.frames.getLast?.map (fun x => (bits x.2 127 120, bit x.2 119, bit x.2 118)) = some (0x61, false, true)
      ∧ { t.die d with col := { (t.die d).col with active := (s.die d).col.active } } = s.die d
      ∧ (∀ k, k ≠ d.val → t.die k = s.die k)
      ∧ { uncarried t s with dies := s.dies, fab := { t.fab with frames := s.fab.frames } } = s)
  ∧ (∀ (d : Fin 16) (g : Fin 256) (s : State), (s.coll d g).all (fun c => c.phase != 1 || decide (s.time < c.since + s.collT d
      g) || (c.up && !c.broken) || (c.broken && c.voted)) = true → ∃ t, exec (.huddleTimeout d g) s = .next t
      ∧ t = s)
  ∧ (∀ (d : Fin 16) (g : Fin 256) (c : Coll) (p : Nat) (s : State), TablesRise s → DieRises (s.die d) → s.coll d g = some c →
      c.phase = 2 → c.broken = false → c.voted = false → c.outcome < 256 → c.votes = [] → c.since + s.collT d g ≤ s.time →
      s.treeUpOf d g = some p → s.treeKidsOf d g = [] → s.fenced = false → s.ownModule (memberModule (s.member d (s.group d g)
      p)) = true → ∃ t, exec (.dataPhaseTimeout d g) s = .next t
      ∧ t.coll d g = some { c with outcome := worst c.outcome 0x63, phase := 3, voted := true }
      ∧ gPhase (t.group d g) = 3
      ∧ (t.fab.frames.drop s.fab.frames.length).map (fun x => (x.1, fKind x.2, cfGroup x.2, bits x.2 127 120)) = [(memberDie
        (s.member d (s.group d g) p), 0x23, g.val, worst c.outcome 0x63)]
      ∧ { t.die d with col := { (t.die d).col with groups := (s.die d).col.groups, active := (s.die d).col.active } } = s.die d
      ∧ (∀ k, k ≠ d.val → t.die k = s.die k)
      ∧ { uncarried t s with dies := s.dies, fab := { t.fab with frames := s.fab.frames } } = s)
  ∧ (∀ (d : Fin 16) (g : Fin 256) (c : Coll) (s : State), TablesRise s → DieRises (s.die d) → s.coll d g = some c → c.phase = 2
      → c.since + s.collT d g ≤ s.time → (s.treeKidsOf d g).any (fun k => !s.kidVoted d g c k) = true → ∃ t, exec
      (.dataPhaseTimeout d g) s = .next t
      ∧ t.coll d g = some { c with outcome := worst c.outcome 0x63, phase := 3 }
      ∧ gPhase (t.group d g) = 3
      ∧ { t.die d with col := { (t.die d).col with groups := (s.die d).col.groups, active := (s.die d).col.active } } = s.die d
      ∧ (∀ k, k ≠ d.val → t.die k = s.die k)
      ∧ { t with dies := s.dies } = s)
  ∧ (∀ (d : Fin 16) (g : Fin 256) (s : State), (s.coll d g).all (fun c => c.phase != 2 || decide (s.time < c.since + s.collT d
      g)) = true → ∃ t, exec (.dataPhaseTimeout d g) s = .next t
      ∧ t = s)
  ∧ (∀ (d : Fin 16) (k : Packet) (residue : Bool) (s : State), TablesRise s → DieRises (s.die d) → s.fab.inner.contains (d.val,
      k) = true → k.op = 0x20 → s.dieRuns d = true → k.hchk = k.check → s.fenced = false → s.ownModule k.srcModule.toNat = true
      → Joined s d k.srcDie.toNat → ((s.coll d k.flow.toNat = none ∧ gValid (s.group d k.flow.toNat) = true ∧ (k.pseq.toNat +
      4096 - (gSeq (s.group d k.flow.toNat)).toNat % 4096) % 4096 < 2048) ∨ (s.coll d k.flow.toNat).any (fun c => c.owns
      k.flow.toNat k && c.phase == 1 && !c.broken && !c.residue && !c.got.contains (chunkStep k, k.addr.toNat)) = true) →
      (s.die d).col.buf.any (fun b => b.flow == k.flow && b.pseq == k.pseq && chunkStep b == chunkStep k && b.addr == k.addr) =
      false → (s.die d).col.staged + k.payload.length ≤ 4194304 → ∃ t, exec (.collDataReceive d ⟨k, residue⟩) s = .next t
      ∧ (t.die d).col = { (s.die d).col with buf := (s.die d).col.buf ++ [k] }
      ∧ t.fab.inner.dropLast = s.fab.inner.erase (d.val, k)
      ∧ t.fab.inner.getLast?.map (fun x => (x.1, x.2.op, x.2.flow, x.2.pseq, x.2.addr)) = some (k.srcDie.toNat, 0x21, k.flow,
        k.pseq, k.addr)
      ∧ t.fab.inner.getLast?.map (fun x => (x.2.dstModule, chunkStep x.2)) = some (k.srcModule, chunkStep k)
      ∧ { t.die d with col := (s.die d).col } = s.die d
      ∧ (∀ k, k ≠ d.val → t.die k = s.die k)
      ∧ { uncarried t s with dies := s.dies, fab := { t.fab with inner := s.fab.inner } } = s)
  ∧ (∀ (d : Fin 16) (k : Packet) (residue : Bool) (s : State), TablesRise s → DieRises (s.die d) → s.fab.inner.contains (d.val,
      k) = true → k.op = 0x20 → s.dieRuns d = true → k.hchk = k.check → s.fenced = false → s.ownModule k.srcModule.toNat = true
      → Joined s d k.srcDie.toNat → ((s.coll d k.flow.toNat = none ∧ gValid (s.group d k.flow.toNat) = true ∧ ((s.die
      d).col.buf.any (fun b => b.flow == k.flow && b.pseq == k.pseq && chunkStep b == chunkStep k && b.addr == k.addr) = true ∨
      2048 ≤ (k.pseq.toNat + 4096 - (gSeq (s.group d k.flow.toNat)).toNat % 4096) % 4096)) ∨ (s.coll d k.flow.toNat).any (fun c
      => c.owns k.flow.toNat k && !c.residue && (c.phase == 3 || c.broken || (s.die d).col.buf.any (fun b => b.flow == k.flow
      && b.pseq == k.pseq && chunkStep b == chunkStep k && b.addr == k.addr) || c.got.contains (chunkStep k, k.addr.toNat))) =
      true) → ∃ t, exec (.collDataReceive d ⟨k, residue⟩) s = .next t
      ∧ t.fab.inner.dropLast = s.fab.inner.erase (d.val, k)
      ∧ t.fab.inner.getLast?.map (fun x => (x.1, x.2.op, x.2.flow, x.2.pseq, x.2.addr)) = some (k.srcDie.toNat, 0x21, k.flow,
        k.pseq, k.addr)
      ∧ t.fab.inner.getLast?.map (fun x => (x.2.dstModule, chunkStep x.2)) = some (k.srcModule, chunkStep k)
      ∧ { uncarried t s with fab := { t.fab with inner := s.fab.inner } } = s)
  ∧ (∀ (d : Fin 16) (k : Packet) (residue : Bool) (s : State), TablesRise s → DieRises (s.die d) → s.fab.inner.contains (d.val,
      k) = true → k.op = 0x20 → s.dieRuns d = true → k.hchk = k.check → s.coll d k.flow.toNat = none → (gValid (s.group d
      k.flow.toNat) = false ∨ ((s.die d).col.buf.any (fun b => b.flow == k.flow && b.pseq == k.pseq && chunkStep b == chunkStep
      k && b.addr == k.addr) = false ∧ (k.pseq.toNat + 4096 - (gSeq (s.group d k.flow.toNat)).toNat % 4096) % 4096 < 2048 ∧
      4194304 < (s.die d).col.staged + k.payload.length)) → ∃ t, exec (.collDataReceive d ⟨k, residue⟩) s = .next t
      ∧ t = { s with fab := { s.fab with inner := s.fab.inner.erase (d.val, k) } })
  ∧ (∀ (d : Fin 16) (k : Packet) (residue : Bool) (s : State), TablesRise s → s.fab.inner.contains (d.val, k) = true → k.op =
      0x20 → s.dieRuns d = true → k.hchk ≠ k.check → s.obj 0x5000 8 + 1 < 2 ^ 32 → ∃ t, exec (.collDataReceive d ⟨k, residue⟩)
      s = .next t
      ∧ t.fab.inner = s.fab.inner.erase (d.val, k)
      ∧ t.obj 0x5000 8 = s.obj 0x5000 8 + 1
      ∧ KeepsObjects s t [objKey 0x5000 8]
      ∧ t.flt.raised = s.flt.raised ++ [⟨mkEvent 0x10 sevRecovered d 0xFF 0 k.srcModule.toNat, s.gtNow⟩]
      ∧ t.dies = s.dies
      ∧ { t with dict := s.dict, flt := { t.flt with raised := s.flt.raised }, fab := { t.fab with inner := s.fab.inner } } = s)
  ∧ (∀ (d : Fin 16) (k : Packet) (residue : Bool) (s : State), (k.op ≠ 0x20 ∨ s.fab.inner.contains (d.val, k) = false) → ∃ t,
      exec (.collDataReceive d ⟨k, residue⟩) s = .next t
      ∧ t = s)
  ∧ (∀ (d : Fin 16) (k : Packet) (residue : Bool) (s : State), Rises s.dies → s.fab.inner.contains (d.val, k) = true → k.op =
      0x20 → s.dieRuns d = false → ∃ t, exec (.collDataReceive d ⟨k, residue⟩) s = .next t
      ∧ t.die d = { s.die d with asked := some ((s.die d).asked.getD s.time) }
      ∧ (∀ k, k ≠ d.val → t.die k = s.die k)
      ∧ { t with dies := s.dies } = s)
  ∧ (∀ (d : Fin 16) (k : Packet) (residue : Bool) (c : Coll) (x : Chunk) (a : Nat) (s : State), TablesRise s → DieRises (s.die
      d) → s.fab.inner.contains (d.val, k) = true → k.op = 0x20 → s.dieRuns d = true → k.hchk = k.check → s.fenced = false →
      s.ownModule k.srcModule.toNat = true → Joined s d k.srcDie.toNat → s.coll d k.flow.toNat = some c → c.owns k.flow.toNat k
      = true → c.phase = 2 → c.broken = false → c.flight ≠ [] → (s.die d).col.buf = [] → k.payload.length ≤ 4194304 →
      c.got.contains (chunkStep k, k.addr.toNat) = false → (s.collJob d k.flow.toNat c.desc).chunkOf k = some x → ((s.collJob d
      k.flow.toNat c.desc).plan.1.flatMap (s.collJob d k.flow.toNat c.desc).chunks).all (fun y => c.put.contains (y.hop.step,
      y.off)) = true → chunkPoison k = false → chunkGood k = true → (chunkBytes k).length = x.len → x.hop.kind = 1 → cTiled
      c.desc = false → s.ownAddr d (cDst c.desc) = some a → inMemory s d (a + x.hop.lo + x.off) x.len = true → ∃ t, exec
      (.collDataReceive d ⟨k, residue⟩) s = .next t
      ∧ t.bytes d (a + x.hop.lo + x.off) x.len = chunkBytes k
      ∧ StoresAt s t d (fun i => decide (a + x.hop.lo + x.off ≤ i) && decide (i < a + x.hop.lo + x.off + x.len))
      ∧ t.coll d k.flow.toNat = some
        { c with residue := false, got := c.got ++ [(x.hop.step, x.off)], sums := c.sums.filter (fun y => !rangesMeet y.1 y.2.1 (a + x.hop.lo + x.off) x.len) ++ [(a + x.hop.lo + x.off, x.len, bits k.opx 63 32)] }
      ∧ (t.die d).col.buf = []
      ∧ t.fab.inner.dropLast = s.fab.inner.erase (d.val, k)
      ∧ t.fab.inner.getLast?.map (fun x => (x.1, x.2.op, x.2.flow, x.2.pseq, x.2.addr)) = some (k.srcDie.toNat, 0x21, k.flow,
        k.pseq, k.addr)
      ∧ t.fab.inner.getLast?.map (fun x => (x.2.dstModule, chunkStep x.2)) = some (k.srcModule, chunkStep k)
      ∧ (∀ k, k ≠ d.val → t.die k = s.die k)
      ∧ { unstored (uncarried t s) s with dies := s.dies, fab := { t.fab with inner := s.fab.inner } } = s)
  ∧ (∀ (d : Fin 16) (k : Packet) (residue : Bool) (c : Coll) (x : Chunk) (a b lo n : Nat) (s : State), TablesRise s → DieRises
      (s.die d) → s.fab.inner.contains (d.val, k) = true → k.op = 0x20 → s.dieRuns d = true → k.hchk = k.check → s.fenced =
      false → s.ownModule k.srcModule.toNat = true → Joined s d k.srcDie.toNat → s.coll d k.flow.toNat = some c → c.owns
      k.flow.toNat k = true → c.phase = 2 → c.broken = false → c.flight ≠ [] → (s.die d).col.buf = [] → k.payload.length ≤
      4194304 → c.got.contains (chunkStep k, k.addr.toNat) = false → (s.collJob d k.flow.toNat c.desc).chunkOf k = some x →
      ((s.collJob d k.flow.toNat c.desc).plan.1.flatMap (s.collJob d k.flow.toNat c.desc).chunks).all (fun y => c.put.contains
      (y.hop.step, y.off)) = true → chunkPoison k = false → chunkGood k = true → (chunkBytes k).length = x.len → NoBadData s →
      residue = false → x.hop.kind = 0 → x.hop.last = true → x.hop.lo + x.off / (s.collJob d k.flow.toNat c.desc).bc = lo →
      x.len / (s.collJob d k.flow.toNat c.desc).bc = n → (List.range n).all (fun i => ((s.collJob d k.flow.toNat
      c.desc).lastAdd x.hop.step (lo + i)).isNone) = true → c.isBad 0 ((s.collJob d k.flow.toNat c.desc).span x).1 ((s.collJob
      d k.flow.toNat c.desc).span x).2 = false → cTiled c.desc = false → s.ownAddr d (cSrc c.desc) = some a → s.ownAddr d (cDst
      c.desc) = some b → inMemory s d (b + (s.collJob d k.flow.toNat c.desc).elemAt lo) ((s.collJob d k.flow.toNat c.desc).b *
      n) = true → ∃ t, exec (.collDataReceive d ⟨k, residue⟩) s = .next t
      ∧ t.bytes d (b + (s.collJob d k.flow.toNat c.desc).elemAt lo) ((s.collJob d k.flow.toNat c.desc).b * n) = ((unitsOf
        (s.collJob d k.flow.toNat c.desc).bc (chunkBytes k)).zip ((unitsOf (s.collJob d k.flow.toNat c.desc).b (s.bytes d (a +
        (s.collJob d k.flow.toNat c.desc).b * lo) ((s.collJob d k.flow.toNat c.desc).b * n))).map (s.collJob d k.flow.toNat
        c.desc).toCarry)).flatMap (fun y => toBytes (s.collJob d k.flow.toNat c.desc).b ((s.collJob d k.flow.toNat
        c.desc).ofCarry ((s.collJob d k.flow.toNat c.desc).meet y.1 y.2)))
      ∧ StoresAt s t d (fun i => decide (b + (s.collJob d k.flow.toNat c.desc).elemAt lo ≤ i) && decide (i < b + (s.collJob d
        k.flow.toNat c.desc).elemAt lo + (s.collJob d k.flow.toNat c.desc).b * n))
      ∧ t.coll d k.flow.toNat = some { c with residue := false, got := c.got ++ [(x.hop.step, x.off)] }
      ∧ t.fab.inner.dropLast = s.fab.inner.erase (d.val, k)
      ∧ t.fab.inner.getLast?.map (fun x => (x.1, x.2.op, x.2.flow, x.2.pseq, x.2.addr)) = some (k.srcDie.toNat, 0x21, k.flow,
        k.pseq, k.addr)
      ∧ t.fab.inner.getLast?.map (fun x => (x.2.dstModule, chunkStep x.2)) = some (k.srcModule, chunkStep k)
      ∧ (∀ k, k ≠ d.val → t.die k = s.die k)
      ∧ { unstored (uncarried t s) s with dies := s.dies, fab := { t.fab with inner := s.fab.inner } } = s)
  ∧ (∀ (d : Fin 16) (k : Packet) (residue : Bool) (c : Coll) (x : Chunk) (s : State), TablesRise s → DieRises (s.die d) →
      s.fab.inner.contains (d.val, k) = true → k.op = 0x20 → s.dieRuns d = true → k.hchk = k.check → s.fenced = false →
      s.ownModule k.srcModule.toNat = true → Joined s d k.srcDie.toNat → s.coll d k.flow.toNat = some c → c.owns k.flow.toNat k
      = true → c.phase = 2 → c.broken = false → c.flight ≠ [] → (s.die d).col.buf = [] → k.payload.length ≤ 4194304 →
      c.got.contains (chunkStep k, k.addr.toNat) = false → (s.collJob d k.flow.toNat c.desc).chunkOf k = some x → ((s.collJob d
      k.flow.toNat c.desc).plan.1.flatMap (s.collJob d k.flow.toNat c.desc).chunks).all (fun y => c.put.contains (y.hop.step,
      y.off)) = true → ((chunkPoison k = true ∨ chunkGood k = false ∨ (chunkBytes k).length ≠ x.len) ∨ (x.hop.kind = 0 ∧
      residue = true ∧ NoBadData s ∧ cTiled c.desc = false)) → ∃ t, exec (.collDataReceive d ⟨k, residue⟩) s = .next t
      ∧ t.coll d k.flow.toNat = some
        { c with residue := false, outcome := worst c.outcome 0x64, got := c.got ++ [(x.hop.step, x.off)], bad := c.bad ++ [(if x.hop.kind = 0 then 0 else 1, ((s.collJob d k.flow.toNat c.desc).span x).1, ((s.collJob d k.flow.toNat c.desc).span x).2)] ++ (if x.hop.kind = 0 ∧ x.hop.last then [(1, ((s.collJob d k.flow.toNat c.desc).span x).1, ((s.collJob d k.flow.toNat c.desc).span x).2)] else []) }
      ∧ t.flt.raised = s.flt.raised ++ [⟨mkEvent 0x12 sevRecovered d k.flow.toNat 0x64 x.off, s.gtNow⟩]
      ∧ t.fab.inner.dropLast = s.fab.inner.erase (d.val, k)
      ∧ t.fab.inner.getLast?.map (fun x => (x.1, x.2.op, x.2.flow, x.2.pseq, x.2.addr)) = some (k.srcDie.toNat, 0x21, k.flow,
        k.pseq, k.addr)
      ∧ t.fab.inner.getLast?.map (fun x => (x.2.dstModule, chunkStep x.2)) = some (k.srcModule, chunkStep k)
      ∧ { t.die d with col := { (t.die d).col with active := (s.die d).col.active } } = s.die d
      ∧ (∀ k, k ≠ d.val → t.die k = s.die k)
      ∧
        { uncarried t s with dies := s.dies, flt := { t.flt with raised := s.flt.raised }, fab := { t.fab with inner := s.fab.inner } }
        = s)
  ∧ (∀ (d : Fin 16) (k : Packet) (c : Coll) (s : State), Rises s.dies → DieRises (s.die d) → s.fab.inner.contains (d.val, k) =
      true → k.op = 0x21 → s.dieRuns d = true → k.hchk = k.check → s.coll d k.flow.toNat = some c → k.pseq.toNat = c.seq.toNat
      % 4096 → (c.phase ≠ 2 ∨ c.flight.filter (fun f => !(chunkStep f.pkt == chunkStep k && f.pkt.addr == k.addr &&
      f.pkt.dstModule == k.srcModule && f.pkt.dstDie == k.srcDie)) ≠ []) → ∃ t, exec (.collAckReceive d k) s = .next t
      ∧ t.coll d k.flow.toNat = some
        { c with flight := c.flight.filter (fun f => !(chunkStep f.pkt == chunkStep k && f.pkt.addr == k.addr && f.pkt.dstModule == k.srcModule && f.pkt.dstDie == k.srcDie)) }
      ∧ t.fab.inner = s.fab.inner.erase (d.val, k)
      ∧ { t.die d with col := { (t.die d).col with active := (s.die d).col.active } } = s.die d
      ∧ (∀ k, k ≠ d.val → t.die k = s.die k)
      ∧ { t with dies := s.dies, fab := { t.fab with inner := s.fab.inner } } = s)
  ∧ (∀ (d : Fin 16) (k : Packet) (c : Coll) (s : State), TablesRise s → DieRises (s.die d) → s.fab.inner.contains (d.val, k) =
      true → k.op = 0x21 → s.dieRuns d = true → k.hchk = k.check → s.coll d k.flow.toNat = some c → c.owns k.flow.toNat k =
      true → c.phase = 2 → c.broken = false → c.flight.all (fun f => chunkStep f.pkt == chunkStep k && f.pkt.addr == k.addr &&
      f.pkt.dstModule == k.srcModule && f.pkt.dstDie == k.srcDie) = true → ((s.collJob d k.flow.toNat c.desc).plan.1.flatMap
      (s.collJob d k.flow.toNat c.desc).chunks).all (fun y => c.put.contains (y.hop.step, y.off)) = true → ((s.collJob d
      k.flow.toNat c.desc).plan.2.flatMap (s.collJob d k.flow.toNat c.desc).chunks).all (fun y => c.got.contains (y.hop.step,
      y.off)) = true → cTiled c.desc = false → (s.treeKidsOf d k.flow.toNat).any (fun i => !s.kidVoted d k.flow.toNat c i) =
      true → ∃ t, exec (.collAckReceive d k) s = .next t
      ∧ t.coll d k.flow.toNat = some { c with flight := [], phase := 3 }
      ∧ gPhase (t.group d k.flow.toNat) = 3
      ∧ t.fab.inner = s.fab.inner.erase (d.val, k)
      ∧ { t.die d with col := { (t.die d).col with active := (s.die d).col.active, groups := (s.die d).col.groups } } = s.die d
      ∧ (∀ k, k ≠ d.val → t.die k = s.die k)
      ∧ { t with dies := s.dies, fab := { t.fab with inner := s.fab.inner } } = s)
  ∧ (∀ (d : Fin 16) (k : Packet) (s : State), s.fab.inner.contains (d.val, k) = true → k.op = 0x21 → s.dieRuns d = true →
      k.hchk = k.check → (s.coll d k.flow.toNat).any (fun c => c.owns k.flow.toNat k) = false → ∃ t, exec (.collAckReceive d k)
      s = .next t
      ∧ t = { s with fab := { s.fab with inner := s.fab.inner.erase (d.val, k) } })
  ∧ (∀ (d : Fin 16) (k : Packet) (s : State), (k.op ≠ 0x21 ∨ s.fab.inner.contains (d.val, k) = false) → ∃ t, exec
      (.collAckReceive d k) s = .next t
      ∧ t = s)
  ∧ (∀ (d : Fin 16) (k : Packet) (s : State), Rises s.dies → s.fab.inner.contains (d.val, k) = true → k.op = 0x21 → s.dieRuns d
      = false → ∃ t, exec (.collAckReceive d k) s = .next t
      ∧ t.die d = { s.die d with asked := some ((s.die d).asked.getD s.time) }
      ∧ (∀ k, k ≠ d.val → t.die k = s.die k)
      ∧ { t with dies := s.dies } = s)
  ∧ (∀ (d : Fin 16) (k : Packet) (s : State), Rises s.dict → s.fab.inner.contains (d.val, k) = true → k.op = 0x21 → s.dieRuns d
      = true → k.hchk ≠ k.check → s.obj 0x5000 8 + 1 < 2 ^ 32 → ∃ t, exec (.collAckReceive d k) s = .next t
      ∧ t.fab.inner = s.fab.inner.erase (d.val, k)
      ∧ t.obj 0x5000 8 = s.obj 0x5000 8 + 1
      ∧ KeepsObjects s t [objKey 0x5000 8]
      ∧ t.flt.raised = s.flt.raised ++ [⟨mkEvent 0x10 sevRecovered d 0xFF 0 k.srcModule.toNat, s.gtNow⟩]
      ∧ { t with dict := s.dict, flt := { t.flt with raised := s.flt.raised }, fab := { t.fab with inner := s.fab.inner } } = s)
  ∧ (∀ (d : Fin 16) (g : Fin 256) (c : Coll) (due : List ColSent) (s : State), Rises s.dies → DieRises (s.die d) → s.coll d g =
      some c → 2 ≤ c.phase → due = c.flight.filter (fun f => decide (f.at_ + s.obj 0x5B00 1 * tickUs ≤ s.time)) → s.fenced =
      false → due.all (fun f => s.ownModule f.pkt.dstModule.toNat && f.pkt.op == 0x20 && (s.packetPath d
      f.pkt.dstDie.toNat).any (fun p => !s.pathShut p)) = true → ∃ t, exec (.chunkResend d g) s = .next t
      ∧ t.coll d g = some
        { c with flight := c.flight.map (fun f => if f.at_ + s.obj 0x5B00 1 * tickUs ≤ s.time then { f with at_ := s.time } else f) }
      ∧ t.fab.inner.take s.fab.inner.length = s.fab.inner
      ∧ (t.fab.inner.drop s.fab.inner.length).map (fun x => (x.1, x.2.op, x.2.flow)) = due.map (fun f => (f.pkt.dstDie.toNat,
        f.pkt.op, f.pkt.flow))
      ∧ (t.fab.inner.drop s.fab.inner.length).map (fun x => (x.2.pseq, x.2.addr, x.2.payload)) = due.map (fun f => (f.pkt.pseq,
        f.pkt.addr, f.pkt.payload))
      ∧ { t.die d with col := { (t.die d).col with active := (s.die d).col.active } } = s.die d
      ∧ (∀ k, k ≠ d.val → t.die k = s.die k)
      ∧ { uncarried t s with dies := s.dies, fab := { t.fab with inner := s.fab.inner } } = s)
  ∧ (∀ (d : Fin 16) (g : Fin 256) (s : State), (s.coll d g).all (fun c => decide (c.phase < 2)) = true → ∃ t, exec
      (.chunkResend d g) s = .next t
      ∧ t = s)
  ∧ (∀ (d : Fin 16) (g : Fin 256) (c : Coll) (e : BitVec 256) (s : State), TablesRise s → DieRises (s.die d) → s.coll d g =
      some c → c.phase = 2 → cAlgo c.desc = 2 → c.rounds = 1 → s.gtRuns d = true → e = s.rs d (cRs c.desc) → rsSlotStart e
      ((s.collJob d g c.desc).roundSlot e c.tgo.toNat (s.obj 0x5300 3) c.rounds) ≤ (s.localGt d).toNat → (s.die d).col.buf = []
      → ((s.collJob d g c.desc).plan.1.flatMap (s.collJob d g c.desc).chunks).all (fun x => c.put.contains (x.hop.step, x.off)
      || !(s.collJob d g c.desc).ready c.got x) = true → ((s.collJob d g c.desc).plan.1.filter (fun h => h.step == 1)).any (fun
      h => ((s.collJob d g c.desc).chunks h).any (fun x => !(s.collJob d g c.desc).ready c.got x && !c.put.contains
      (x.hop.step, x.off))) = true → s.obj 0x5100 9 + 1 < 2 ^ 32 → ∃ t, exec (.roundStart d g) s = .next t
      ∧ t.coll d g = some { c with rounds := 2, late := c.late ++ [1] }
      ∧ t.obj 0x5100 9 = s.obj 0x5100 9 + 1
      ∧ KeepsObjects s t [objKey 0x5100 9]
      ∧ { t.die d with col := { (t.die d).col with active := (s.die d).col.active } } = s.die d
      ∧ (∀ k, k ≠ d.val → t.die k = s.die k)
      ∧ { t with dies := s.dies, dict := s.dict } = s)
  ∧ (∀ (d : Fin 16) (g : Fin 256) (c : Coll) (x : Chunk) (a : Nat) (s : State), TablesRise s → DieRises (s.die d) → s.coll d g
      = some c → c.phase = 2 → c.broken = false → cAlgo c.desc = 2 → cTiled c.desc = false → NoBadData s → s.gtRuns d = true →
      rsSlotStart (s.rs d (cRs c.desc)) ((s.collJob d g c.desc).roundSlot (s.rs d (cRs c.desc)) c.tgo.toNat (s.obj 0x5300 3)
      c.rounds) ≤ (s.localGt d).toNat → (s.die d).col.buf = [] → (s.collJob d g c.desc).plan.1.flatMap (s.collJob d g
      c.desc).chunks = [x] → x.hop.kind = 2 → x.hop.step = c.rounds → c.put = [] → c.flight = [] → s.ownAddr d (cSrc c.desc) =
      some a → s.fenced = false → s.ownModule (memberModule (s.member d (s.group d g) x.hop.peer)) = true → Joined s d
      (memberDie (s.member d (s.group d g) x.hop.peer)) → ∃ t, exec (.roundStart d g) s = .next t
      ∧ (t.coll d g).map (fun y => { y with flight := [] }) = some
        { c with rounds := c.rounds + 1, put := [(x.hop.step, x.off)] }
      ∧ (t.coll d g).map (fun y => y.flight.map (fun z => (z.pkt.op, z.pkt.flow, z.pkt.addr, z.at_))) = some [(0x20,
        BitVec.ofNat 8 g, BitVec.ofNat 44 x.off, s.time)]
      ∧ t.fab.inner.dropLast = s.fab.inner
      ∧ t.fab.inner.getLast?.map (fun y => (y.1, y.2.op, y.2.flow, y.2.pseq)) = some (memberDie (s.member d (s.group d g)
        x.hop.peer), 0x20, BitVec.ofNat 8 g, BitVec.ofNat 12 c.seq.toNat)
      ∧ t.fab.inner.getLast?.map (fun y => (chunkStep y.2, chunkPoison y.2, y.2.addr, y.2.cls)) = some (x.hop.step % 65536,
        false, BitVec.ofNat 44 x.off, 1)
      ∧ t.fab.inner.getLast?.map (fun y => (y.2.payload, bits y.2.opx 63 32)) = some (s.bytes d (a + x.hop.lo + x.off) x.len ++
        List.replicate (128 * ceilDiv x.len 128 - x.len) 0, crc32c (s.bytes d (a + x.hop.lo + x.off) x.len))
      ∧ { t.die d with col := { (t.die d).col with active := (s.die d).col.active } } = s.die d
      ∧ (∀ k, k ≠ d.val → t.die k = s.die k)
      ∧ { uncarried t s with dies := s.dies, fab := { t.fab with inner := s.fab.inner } } = s)
  ∧ (∀ (d : Fin 16) (g : Fin 256) (s : State), (s.coll d g).all (fun c => c.phase != 2 || cAlgo c.desc != 2 || !s.gtRuns d ||
      (s.collJob d g c.desc).plan.1.all (fun h => decide (h.step < c.rounds)) || decide ((s.localGt d).toNat < rsSlotStart
      (s.rs d (cRs c.desc)) ((s.collJob d g c.desc).roundSlot (s.rs d (cRs c.desc)) c.tgo.toNat (s.obj 0x5300 3) c.rounds))) =
      true → ∃ t, exec (.roundStart d g) s = .next t
      ∧ t = s)

/-- R394 to R399: the core detected first halts its engines, its tidy core stops and the spare chosen is the one fewest
grid steps from the slot, the lower number winning; a command written names a core; when the drain has ended leave is
asked for the spare, 15 W at priority 1; commands still in execution after 100 µs are aborted; a spare that passes takes
the core over, in its reset state; one that fails is retired and the next tried; with none left the core is out. -/
def Obligations.CoresAreSubstituted : Prop :=
  (∀ (d : Fin 16) (c : Fin 32) (slot : Nat) (rest : List Nat) (s : State), TablesRise s → s.dieRuns d = true → (s.die
      d).subst = none → (s.die d).substDue = c.val :: rest → s.flt.ump.forced = none → s.slotOf d c = some slot → s.spares d ≠
      [] → ∃ t, exec (.coreSubstitution d c) s = .next t
      ∧ (t.die d).subst = some { core := c, slot := slot, spare := (s.nearestSpare d slot).getD 36, since := s.time }
      ∧ (s.spares d).contains ((s.nearestSpare d slot).getD 36) = true
      ∧ (∀ j ∈ s.spares d, slotSteps slot ((s.nearestSpare d slot).getD 36) < slotSteps slot j ∨ (slotSteps slot
        ((s.nearestSpare d slot).getD 36) = slotSteps slot j ∧ (s.nearestSpare d slot).getD 36 ≤ j))
      ∧ (t.die d).substDue = rest.filter (· != c.val)
      ∧ { t.die d with subst := (s.die d).subst, substDue := (s.die d).substDue } = s.die d
      ∧ (∀ e, e < 3 → ((t.core d c).q e).halt = some ((((s.core d c).q e).halt).getD .req))
      ∧ ((t.core d c).tc.runBit, (t.core d c).tc.x, (t.core d c).tc.pc) = (false, (s.core d c).tc.x, (s.core d c).tc.pc)
      ∧ ((t.core d c).q0.run, (t.core d c).q1.run, (t.core d c).q2.run) = ((s.core d c).q0.run, (s.core d c).q1.run, (s.core d
        c).q2.run)
      ∧ (∀ k, k ≠ coreKey d c → mapGet { } t.cores k = mapGet { } s.cores k)
      ∧ (∀ k, k ≠ d.val → t.die k = s.die k)
      ∧ { t with dies := s.dies, cores := s.cores, host := s.host, out := s.out } = s)
  ∧ (∀ (d : Fin 16) (c : Fin 32) (rest : List Nat) (s : State), Rises s.dies → s.dieRuns d = true → (s.die d).subst = none →
      (s.die d).substDue = c.val :: rest → s.flt.ump.forced = none → s.slotOf d c = none → ∃ t, exec (.coreSubstitution d c) s
      = .next t
      ∧ t.die d =
        { s.die d with substDue := rest.filter (· != c.val), substFirst := (s.die d).substFirst && !(rest.filter (· != c.val)).isEmpty }
      ∧ (∀ k, k ≠ d.val → t.die k = s.die k)
      ∧ { t with dies := s.dies } = s)
  ∧ (∀ (d : Fin 16) (c : Fin 32) (s : State), (s.dieRuns d = false ∨ (s.die d).subst.isSome = true ∨ (s.die d).substDue.head? ≠
      some c.val ∨ s.flt.ump.forced.isSome = true) → ∃ t, exec (.coreSubstitution d c) s = .next t
      ∧ t = s)
  ∧ (∀ (d : Fin 16) (c : Fin 32) (slot : Nat) (rest : List Nat) (s : State), TablesRise s → s.dieRuns d = true → (s.die
      d).subst = none → (s.die d).substDue = c.val :: rest → (s.die d).heldActs = [] → Quiet s d → s.host.ordered = [] →
      Memory.wf s.mem = true → s.flt.ump.forced = none → s.slotOf d c = some slot → s.spares d = [] → ∃ t, exec
      (.coreSubstitution d c) s = .next t
      ∧ t.coreOut d c = true
      ∧ (t.die d).retired.contains slot = true
      ∧ (t.die d).subst = none
      ∧ t.flt.raised = s.flt.raised ++ [⟨mkEvent 0x19 sevDegraded d c 3 slot, s.gtNow⟩]
      ∧ (t.core d c).q0 = { } ∧ (t.core d c).q1 = { } ∧ (t.core d c).q2 = { } ∧ (t.core d c).acc = []
      ∧ (∀ a, a < 2 ^ 44 → regionCore (regionOf a) = some c.val → t.byte d a = 0)
      ∧ (∀ a, a < 2 ^ 44 → regionCore (regionOf a) ≠ some c.val → t.byte d a = s.byte d a)
      ∧ (t.die d).substDue = rest.filter (· != c.val)
      ∧ KeepsObjects s t [objKey 0x7000 1, objKey 0x7000 2, objKey 0x7010 1, objKey 0x2000 4]
      ∧ (∀ k, k ≠ coreKey d c → mapGet { } t.cores k = mapGet { } s.cores k)
      ∧ (∀ k, k ≠ d.val → t.die k = s.die k)
      ∧ (t.lights, t.banks, t.ports) = (s.lights, s.banks, s.ports))
  ∧ (∀ (v : BitVec 16) (s : State), Rises s.dies → Writable s → v.toNat / 256 < 16 → v.toNat % 256 < 32 → s.coreOut (v.toNat /
      256) (v.toNat % 256) = false → s.spares (v.toNat / 256) ≠ [] → s.substituting (v.toNat / 256) (v.toNat % 256) = false →
      (s.die (v.toNat / 256)).substDue.contains (v.toNat % 256) = false → ∃ t, exec (.coreSubstitute v) s = .next t
      ∧ t.die (v.toNat / 256) = { s.die (v.toNat / 256) with substDue := (s.die (v.toNat / 256)).substDue ++ [v.toNat % 256] }
      ∧ t.sys.lastStatus = rpOk
      ∧ (∀ k, k ≠ v.toNat / 256 → t.die k = s.die k)
      ∧ t.flt.raised = s.flt.raised ++ [⟨softEvent 24 0xFF 0x7800 (field 8 0x7800 + 3), s.gtNow⟩]
      ∧
        { t with dies := s.dies, sys := { t.sys with lastStatus := s.sys.lastStatus }, flt := { t.flt with raised := s.flt.raised } }
        = s)
  ∧ (∀ (v : BitVec 16) (s : State), Writable s → v.toNat / 256 < 16 → v.toNat % 256 < 32 → s.coreOut (v.toNat / 256) (v.toNat %
      256) = false → s.spares (v.toNat / 256) ≠ [] → (s.substituting (v.toNat / 256) (v.toNat % 256) = true ∨ (s.die (v.toNat /
      256)).substDue.contains (v.toNat % 256) = true) → ∃ t, exec (.coreSubstitute v) s = .next t
      ∧ t.sys.lastStatus = rpOk
      ∧ t.flt.raised = s.flt.raised ++ [⟨softEvent 24 0xFF 0x7800 (field 8 0x7800 + 3), s.gtNow⟩]
      ∧ { t with sys := { t.sys with lastStatus := s.sys.lastStatus }, flt := { t.flt with raised := s.flt.raised } } = s)
  ∧ (∀ (v : BitVec 16) (s : State), (s.sys.ball = none ∨ s.obj 0xB000 1 ≤ 2) → ∃ t, exec (.coreSubstitute v) s = .next t
      ∧ (t = (if s.sys.ball = none then s else { s with sys := { s.sys with lastStatus := rpState } })))
  ∧ (∀ (v : BitVec 16) (s : State), Writable s → (16 ≤ v.toNat / 256 ∨ 32 ≤ v.toNat % 256) → ∃ t, exec (.coreSubstitute v) s =
      .next t
      ∧ t = { s with sys := { s.sys with lastStatus := rpRange } })
  ∧ (∀ (v : BitVec 16) (s : State), Writable s → v.toNat / 256 < 16 → v.toNat % 256 < 32 → (s.coreOut (v.toNat / 256) (v.toNat
      % 256) = true ∨ s.spares (v.toNat / 256) = []) → ∃ t, exec (.coreSubstitute v) s = .next t
      ∧ t = { s with sys := { s.sys with lastStatus := rpState } })
  ∧ (∀ (d : Fin 16) (x : Subst) (s : State), Rises s.dies → (s.die d).subst = some x → x.drained = false → s.flt.ump.forced =
      none → (s.core d x.core).running = [] → s.pwr.has (.spareSlot d) = false → s.pwr.asks (.spareSlot d) = false → ∃ t, exec
      (.substitutionDrainEnd d) s = .next t
      ∧ t.die d = { s.die d with subst := some { x with drained := true } }
      ∧ t.pwr =
        { s.pwr with arrivals := s.pwr.arrivals ++ [{ req := .spareSlot d, watts := s.obj 0x7000 3, prio := 1, since := s.time }] }
      ∧ KeepsObjects s t [objKey 0x2000 4, objKey 0x2000 5]
      ∧ (∀ k, k ≠ d.val → t.die k = s.die k)
      ∧ { t with dies := s.dies, pwr := s.pwr, dict := s.dict } = s)
  ∧ (∀ (d : Fin 16) (s : State), (s.flt.ump.forced.isSome = true ∨ (s.die d).subst.all (fun x => x.drained || (!(s.core d
      x.core).running.isEmpty && decide (s.time < x.since + 100 * tickUs))) = true) → ∃ t, exec (.substitutionDrainEnd d) s =
      .next t
      ∧ t = s)
  ∧ (∀ (d : Fin 16) (x : Subst) (s : State), TablesRise s → (s.die d).subst = some x → x.drained = false → s.flt.ump.forced =
      none → x.core < 32 → x.since + 100 * tickUs ≤ s.time → (s.core d x.core).running ≠ [] → (s.core d x.core).running.all
      (fun y => s.ownRing d x.core y.1) = true → (s.die d).col.active = [] → (s.die d).txns = [] → s.pwr.has (.spareSlot d) =
      false → s.pwr.asks (.spareSlot d) = false → ∃ t, exec (.substitutionDrainEnd d) s = .next t
      ∧ (t.core d x.core).running = []
      ∧ t.die d = { s.die d with subst := some { x with drained := true } }
      ∧ t.flt.raised = s.flt.raised ++ (s.core d x.core).running.map (fun y =>
        ⟨mkEvent 0x19 sevAdvisory d x.core 1 y.2.num.toNat, s.gtNow⟩)
      ∧ t.pwr =
        { s.pwr with arrivals := s.pwr.arrivals ++ [{ req := .spareSlot d, watts := s.obj 0x7000 3, prio := 1, since := s.time }] }
      ∧ t.core d x.core = (((s.core d x.core).modQ 0 (fun q => { q with run := [] })).modQ 1 (fun q =>
        { q with run := [] })).modQ 2 (fun q => { q with run := [] })
      ∧ (∀ k, k ≠ coreKey d x.core → mapGet { } t.cores k = mapGet { } s.cores k)
      ∧ KeepsObjects s t [objKey 0x2000 4, objKey 0x2000 5]
      ∧ (∀ k, k ≠ d.val → t.die k = s.die k)
      ∧ { t with dies := s.dies, cores := s.cores, pwr := s.pwr, dict := s.dict, flt := { t.flt with raised := s.flt.raised } }
        = s)
  ∧ (∀ (d : Fin 16) (x : Subst) (e : Fin 3) (r : Run) (s : State), TablesRise s → Memory.wf s.mem = true → (s.die d).subst =
      some x → x.drained = false → s.flt.ump.forced = none → x.core < 32 → x.since + 100 * tickUs ≤ s.time → (s.core d
      x.core).running = [(e.val, r)] → s.ownRing d x.core e = false → ((s.core d x.core).q e).cSize ≠ 0 → ((s.core d x.core).q
      e).cTail - ((s.core d x.core).q e).cHead ≠ BitVec.ofNat 32 (2 ^ ((s.core d x.core).q e).cSize.toNat) → inHbm (((s.core d
      x.core).q e).cBase.toNat % 2 ^ 44 + 16 * (((s.core d x.core).q e).cTail.toNat % 2 ^ ((s.core d x.core).q e).cSize.toNat)
      + 15) = true → (s.die d).col.active = [] → (s.die d).txns = [] → ∃ t, exec (.substitutionDrainEnd d) s = .next t
      ∧ (t.core d x.core).running = []
      ∧ ((t.core d x.core).q e).cTail = ((s.core d x.core).q e).cTail + 1
      ∧ ofBytes (t.bytes d (((s.core d x.core).q e).cBase.toNat % 2 ^ 44 + 16 * (((s.core d x.core).q e).cTail.toNat % 2 ^
        ((s.core d x.core).q e).cSize.toNat)) 16) = complRecord { r with status := BitVec.ofNat 8 stFault } e (bits (s.localGt
        d) 47 8) r.slot % 2 ^ 128
      ∧ StoresAt s t d (fun a => decide (((s.core d x.core).q e).cBase.toNat % 2 ^ 44 + 16 * (((s.core d x.core).q
        e).cTail.toNat % 2 ^ ((s.core d x.core).q e).cSize.toNat) ≤ a) && decide (a < ((s.core d x.core).q e).cBase.toNat % 2 ^
        44 + 16 * (((s.core d x.core).q e).cTail.toNat % 2 ^ ((s.core d x.core).q e).cSize.toNat) + 16))
      ∧ (t.die d).subst = some { x with drained := true }
      ∧ t.flt.raised.getLast? = some ⟨mkEvent 0x19 sevAdvisory d x.core 1 r.num.toNat, s.gtNow⟩
      ∧ (∀ k, k ≠ coreKey d x.core → mapGet { } t.cores k = mapGet { } s.cores k)
      ∧ KeepsObjects s t [objKey 0x2000 4, objKey 0x2000 5]
      ∧ (∀ k, k ≠ d.val → t.die k = s.die k))
  ∧ (∀ (d : Fin 16) (x : Subst) (s : State), TablesRise s → Memory.wf s.mem = true → (s.die d).subst = some x → x.drained =
      true → x.leave = true → s.flt.ump.forced = none → x.core < 32 → x.spare < 36 → Rises (s.die d).coreMap → (s.die
      d).heldActs = [] → Quiet s d → s.host.ordered = [] → s.obj 0x7000 1 + 1 < 2 ^ 32 → ∃ t, exec (.spareSelfTestDone d true)
      s = .next t
      ∧ t.slotOf d x.core = some x.spare
      ∧ (t.die d).retired.contains x.slot = true
      ∧ (t.die d).subst = none
      ∧ t.core d x.core = { mx := { gens := s.seeds d x.core (s.obj 0x7040 1 == 1) } }
      ∧ (∀ a, a < 2 ^ 44 → regionCore (regionOf a) = some x.core → t.byte d a = 0)
      ∧ (∀ a, a < 2 ^ 44 → regionCore (regionOf a) ≠ some x.core → t.byte d a = s.byte d a)
      ∧ t.obj 0x7000 1 = s.obj 0x7000 1 + 1
      ∧ t.flt.raised = s.flt.raised ++ [⟨mkEvent 0x19 sevAdvisory d x.core 0 x.spare, s.gtNow⟩]
      ∧ (∀ k, k ≠ coreKey d x.core → mapGet { } t.cores k = mapGet { } s.cores k)
      ∧ KeepsObjects s t [objKey 0x7000 1, objKey 0x7000 2, objKey 0x7010 1, objKey 0x2000 4]
      ∧ (∀ k, k ≠ d.val → t.die k = s.die k)
      ∧ (t.lights, t.banks, t.ports) = (s.lights, s.banks, s.ports))
  ∧ (∀ (d : Fin 16) (pass : Bool) (s : State), (s.flt.ump.forced.isSome = true ∨ (s.die d).subst.all (fun x => !x.drained ||
      !x.leave) = true) → ∃ t, exec (.spareSelfTestDone d pass) s = .next t
      ∧ t = s)
  ∧ (∀ (d : Fin 16) (x : Subst) (s : State), Rises s.dies → Rises s.dict → (s.die d).subst = some x → x.drained = true →
      x.leave = true → s.flt.ump.forced = none → (s.spares d).any (· != x.spare) = true → ∃ t, exec (.spareSelfTestDone d
      false) s = .next t
      ∧ (t.die d).subst.map (fun y => { y with spare := x.spare }) = some { x with tried := x.tried ++ [x.spare] }
      ∧ (t.die d).subst.map (fun y => (s.spares d).contains y.spare && y.spare != x.spare) = some true
      ∧ (t.die d).retired.contains x.spare = true
      ∧ t.flt.raised = s.flt.raised ++ [⟨mkEvent 0x19 sevAdvisory d x.core 2 x.spare, s.gtNow⟩]
      ∧ { t.die d with subst := (s.die d).subst, retired := (s.die d).retired } = s.die d
      ∧ KeepsObjects s t [objKey 0x7000 2, objKey 0x7010 1]
      ∧ (∀ k, k ≠ d.val → t.die k = s.die k)
      ∧ { t with dies := s.dies, dict := s.dict, flt := { t.flt with raised := s.flt.raised } } = s)
  ∧ (∀ (d : Fin 16) (x : Subst) (s : State), TablesRise s → (s.die d).subst = some x → x.drained = true → x.leave = true →
      s.flt.ump.forced = none → x.core < 32 → (s.die d).heldActs = [] → Quiet s d → s.host.ordered = [] → (s.spares d).all (·
      == x.spare) = true → ∃ t, exec (.spareSelfTestDone d false) s = .next t
      ∧ t.coreOut d x.core = true
      ∧ (t.die d).subst = none
      ∧ (t.die d).retired.contains x.spare = true
      ∧ (t.die d).retired.contains x.slot = true
      ∧ t.flt.raised.drop s.flt.raised.length = [⟨mkEvent 0x19 sevAdvisory d x.core 2 x.spare, s.gtNow⟩,
        ⟨mkEvent 0x19 sevDegraded d x.core 3 x.slot, s.gtNow⟩]
      ∧ (∀ k, k ≠ coreKey d x.core → mapGet { } t.cores k = mapGet { } s.cores k)
      ∧ KeepsObjects s t [objKey 0x7000 1, objKey 0x7000 2, objKey 0x7010 1, objKey 0x2000 4]
      ∧ (∀ k, k ≠ d.val → t.die k = s.die k))

/-- R405 to R410: a checker that misses its injected error is reported UNMASKED, one that catches it leaves no trace; the
steward takes an event into a free place of the ring under the next SEQ, counts it at its site, and copies DEGRADED and
above to the flash log; it coalesces an event into an entry in handling that agrees with it; with all 256 in handling one
below UNMASKED is dropped; an UNMASKED event of a module in play forces its withdrawal; handling ends after 1 s or on
acknowledgement; OVERFLOW is cleared by 0, and 1 is refused. -/
def Obligations.FaultsAreLogged : Prop :=
  (∀ (k : Fin 25) (s : State), ∃ t, exec (.checkerSelfTest k true) s = .next t
      ∧ t = s)
  ∧ (∀ (k : Fin 25) (s : State), ∃ t, exec (.checkerSelfTest k false) s = .next t
      ∧ t = { s with flt := { s.flt with raised := s.flt.raised ++ [⟨mkEvent 0x16 sevUnmasked k 0xFF 0 0, s.gtNow⟩] } })
  ∧ (∀ (ev : Event) (gt : Nat) (i : Fin 256) (g : Nat) (s : State), Rises s.flt.log → Rises s.dict → s.sys.ball ≠ none → Rises
      s.spokes → s.flt.raised.find? (fun r => r.ev == ev) = some ⟨ev, gt⟩ → (g = (if 24 ≤ ev.source.toNat ∨ ev.soft = true ∨
      ev.site = 0x13 then gt else (s.spoke ev.source.toNat).alarmGt.getD gt)) → ev.sev.toNat ≠ sevUnmasked → ((List.range
      256).all (fun j => ((s.logAt j).map (fun e => e.open_ s.time && sameEntry e.word ev)).getD false == false)) = true →
      ((s.logAt i = none ∧ (List.range i).all (fun j => (s.logAt j).isSome) = true) ∨ ((List.range 256).all (fun j => (s.logAt
      j).isSome) = true ∧ s.oldest (fun e => !e.open_ s.time) = some i.val)) → s.obj 0x8010 ev.site.toNat + 1 < 2 ^ 32 → ∃ t,
      exec (.errorLogEvent ev) s = .next t
      ∧ t.logAt i = some { word := logWord ((s.logHead + 1) % 2 ^ 32) ⟨ev, g⟩, at_ := s.time }
      ∧ (∀ j, j ≠ i.val → t.logAt j = s.logAt j)
      ∧ t.logHead = (s.logHead + 1) % 2 ^ 32
      ∧ t.obj 0x8010 ev.site.toNat = s.obj 0x8010 ev.site.toNat + 1
      ∧ t.flt.raised = s.flt.raised.erase ⟨ev, gt⟩
      ∧
        ({ t.spoke ev.source.toNat with alarmGt := (if 24 ≤ ev.source.toNat ∨ ev.soft = true ∨ ev.site = 0x13 then (s.spoke ev.source.toNat).alarmGt else none) }
        = t.spoke ev.source.toNat)
      ∧ (∀ j, j ≠ ev.source.toNat → t.spoke j = s.spoke j)
      ∧ KeepsObjects s t [objKey 0x8010 ev.site.toNat, objKey 0x8000 9]
      ∧ (t.flash.log = if sevDegraded ≤ ev.sev.toNat then (logWord ((s.logHead + 1) % 2 ^ 32) ⟨ev, g⟩ :: s.flash.log).take 4096
        else s.flash.log)
      ∧ (t.flt.recovered = (if ev.sev.toNat = sevRecovered ∧ ev.soft = false then s.flt.recovered ++ [s.time] else
        s.flt.recovered))
      ∧ (t.flt.advisory = (if ev.sev.toNat = sevAdvisory ∧ ev.soft = false then s.flt.advisory ++ [s.time] else
        s.flt.advisory))
      ∧
        { t with flt := { t.flt with log := s.flt.log, raised := s.flt.raised, recovered := s.flt.recovered, advisory := s.flt.advisory }, spokes := s.spokes, dict := s.dict, flash := { t.flash with log := s.flash.log }, host := s.host, out := s.out }
        = s)
  ∧ (∀ (ev : Event) (gt : Nat) (i : Fin 256) (e : LogEntry) (g : Nat) (s : State), Rises s.flt.log → Rises s.dict → s.sys.ball
      ≠ none → Rises s.spokes → s.flt.raised.find? (fun r => r.ev == ev) = some ⟨ev, gt⟩ → (g = (if 24 ≤ ev.source.toNat ∨
      ev.soft = true ∨ ev.site = 0x13 then gt else (s.spoke ev.source.toNat).alarmGt.getD gt)) → ev.sev.toNat ≠ sevUnmasked →
      s.logAt i = some e → e.open_ s.time = true → sameEntry e.word ev = true → ((List.range i).all (fun j => ((s.logAt j).map
      (fun e => e.open_ s.time && sameEntry e.word ev)).getD false == false)) = true → s.obj 0x8010 ev.site.toNat + 1 < 2 ^ 32
      → ∃ t, exec (.errorLogEvent ev) s = .next t
      ∧ t.logAt i = some { e with word := coalesce e.word g }
      ∧ (∀ j, j ≠ i.val → t.logAt j = s.logAt j)
      ∧ t.logHead = s.logHead
      ∧ t.obj 0x8010 ev.site.toNat = s.obj 0x8010 ev.site.toNat + 1
      ∧ t.flt.raised = s.flt.raised.erase ⟨ev, gt⟩
      ∧ (∀ j, j ≠ ev.source.toNat → t.spoke j = s.spoke j)
      ∧ KeepsObjects s t [objKey 0x8010 ev.site.toNat]
      ∧
        { t with flt := { t.flt with log := s.flt.log, raised := s.flt.raised, recovered := s.flt.recovered, advisory := s.flt.advisory }, spokes := s.spokes, dict := s.dict }
        = s)
  ∧ (∀ (ev : Event) (gt : Nat) (s : State), Rises s.flt.log → Rises s.dict → s.sys.ball ≠ none → Rises s.spokes →
      s.flt.raised.find? (fun r => r.ev == ev) = some ⟨ev, gt⟩ → ev.sev.toNat < sevUnmasked → s.flt.log.map (·.1) = List.range
      256 → (s.flt.log.all (fun kv => (kv.2.map (fun e => e.open_ s.time && !(sameEntry e.word ev))).getD false)) = true →
      s.obj 0x8010 ev.site.toNat + 1 < 2 ^ 32 → s.obj 0x8000 0x0C + 1 < 2 ^ 32 → ∃ t, exec (.errorLogEvent ev) s = .next t
      ∧ t.flt.log = s.flt.log
      ∧ (t.obj 0x8000 0x0B, t.obj 0x8000 0x0C) = (1, s.obj 0x8000 0x0C + 1)
      ∧ t.logHead = s.logHead
      ∧ t.flt.raised = s.flt.raised.erase ⟨ev, gt⟩
      ∧ t.obj 0x8010 ev.site.toNat = s.obj 0x8010 ev.site.toNat + 1
      ∧ (∀ j, j ≠ ev.source.toNat → t.spoke j = s.spoke j)
      ∧ KeepsObjects s t [objKey 0x8010 ev.site.toNat, objKey 0x8000 0x0B, objKey 0x8000 0x0C]
      ∧
        { t with flt := { t.flt with log := s.flt.log, raised := s.flt.raised, recovered := s.flt.recovered, advisory := s.flt.advisory }, spokes := s.spokes, dict := s.dict }
        = s)
  ∧ (∀ (ev : Event) (gt : Nat) (i : Fin 256) (s : State), Rises s.flt.log → Rises s.dict → s.sys.ball ≠ none →
      s.flt.raised.find? (fun r => r.ev == ev) = some ⟨ev, gt⟩ → sevUnmasked < ev.sev.toNat → (24 ≤ ev.source.toNat ∨ ev.soft =
      true ∨ ev.site = 0x13) → s.flt.log.map (·.1) = List.range 256 → (s.flt.log.all (fun kv => (kv.2.map (fun e => e.open_
      s.time && !(sameEntry e.word ev) && decide (4 ≤ leSev e.word) && decide (leSev e.word ≤ ev.sev.toNat))).getD false)) =
      true → s.flt.log.any (fun kv => (kv.2.map (fun e => leSev e.word == 4)).getD false) = true → s.oldest (fun e => leSev
      e.word == 4) = some i.val → s.obj 0x8010 ev.site.toNat + 1 < 2 ^ 32 → ∃ t, exec (.errorLogEvent ev) s = .next t
      ∧ t.logAt i = some { word := logWord ((s.logHead + 1) % 2 ^ 32) ⟨ev, gt⟩, at_ := s.time }
      ∧ (∀ j, j ≠ i.val → t.logAt j = s.logAt j)
      ∧ (t.obj 0x8000 0x0B, t.logHead) = (1, (s.logHead + 1) % 2 ^ 32)
      ∧ t.obj 0x8010 ev.site.toNat = s.obj 0x8010 ev.site.toNat + 1
      ∧ t.flt.raised = s.flt.raised.erase ⟨ev, gt⟩
      ∧ t.flash = { s.flash with log := (logWord ((s.logHead + 1) % 2 ^ 32) ⟨ev, gt⟩ :: s.flash.log).take 4096 }
      ∧ KeepsObjects s t [objKey 0x8010 ev.site.toNat, objKey 0x8000 0x0B, objKey 0x8000 9]
      ∧
        { t with flt := { t.flt with log := s.flt.log, raised := s.flt.raised }, dict := s.dict, flash := s.flash, host := s.host, out := s.out }
        = s)
  ∧ (∀ (ev : Event) (s : State), (s.sys.ball = none ∨ s.flt.raised.any (fun r => r.ev == ev) = false) → ∃ t, exec
      (.errorLogEvent ev) s = .next t
      ∧ t = s)
  ∧ (∀ (ev : Event) (gt : Nat) (s : State), s.sys.ball ≠ none → s.flt.raised.find? (fun r => r.ev == ev) = some ⟨ev, gt⟩ →
      ev.sev.toNat = sevUnmasked → s.memberState = 2 → Rises s.dict → ∃ t, exec (.errorLogEvent ev) s = .next t
      ∧ t.flt.ump.forced = some (s.flt.ump.forced.getD s.time)
      ∧ (t.flt.ump.askedAt, t.flt.ump.forceDue) = (s.time, false)
      ∧ t.flt.raised = s.flt.raised.erase ⟨ev, gt⟩
      ∧ (t.cores, t.dies, t.mem) = (s.cores, s.dies, s.mem))
  ∧ (∀ (ev : Event) (gt : Nat) (s : State), s.sys.ball ≠ none → s.flt.raised.find? (fun r => r.ev == ev) = some ⟨ev, gt⟩ →
      ev.sev.toNat = sevUnmasked → s.memberState ≤ 1 → Rises s.dict → ∃ t, exec (.errorLogEvent ev) s = .next t
      ∧ t.flt.ump = { s.flt.ump with forceDue := true }
      ∧ t.flt.raised = s.flt.raised.erase ⟨ev, gt⟩
      ∧ (t.cores, t.dies, t.mem, t.fab) = (s.cores, s.dies, s.mem, s.fab))
  ∧ (∀ (i : Fin 256) (e : LogEntry) (s : State), Rises s.flt.log → s.logAt i = some e → e.handling = true → e.at_ + tickS ≤
      s.time → ∃ t, exec (.logHandlingExpire i) s = .next t
      ∧ t.logAt i = some { e with handling := false }
      ∧ (∀ j, j ≠ i.val → t.logAt j = s.logAt j)
      ∧ { t with flt := { t.flt with log := s.flt.log } } = s)
  ∧ (∀ (i : Fin 256) (s : State), (s.logAt i).all (fun e => !e.handling || decide (s.time < e.at_ + tickS)) = true → ∃ t, exec
      (.logHandlingExpire i) s = .next t
      ∧ t = s)
  ∧ (∀ (v : BitVec 32) (s : State), Rises s.flt.log → Writable s → ∃ t, exec (.fltLogAck v) s = .next t
      ∧ (∀ i, i < 256 → t.logAt i = (s.logAt i).map (fun e => if (v - BitVec.ofNat 32 (leSeq e.word)).toNat < 2 ^ 31 then
        { e with word := putBit e.word 219 true, handling := false } else e))
      ∧ t.sys.lastStatus = rpOk
      ∧ { t with flt := { t.flt with log := s.flt.log }, sys := { t.sys with lastStatus := s.sys.lastStatus } } = s)
  ∧ (∀ (s : State), Rises s.dict → Writable s → ∃ t, exec (.fltLogOverflow 0) s = .next t
      ∧ t.obj 0x8000 0x0B = 0
      ∧ t.sys.lastStatus = rpOk
      ∧ (∀ k, k ≠ objKey 0x8000 0x0B → mapGet 0 t.dict k = mapGet 0 s.dict k)
      ∧ { t with dict := s.dict, sys := { t.sys with lastStatus := s.sys.lastStatus } } = s)
  ∧ (∀ (v : BitVec 8) (s : State), Writable s → v ≠ 0 → ∃ t, exec (.fltLogOverflow v) s = .next t
      ∧ t = { s with sys := { s.sys with lastStatus := rpRange } })
  ∧ (∀ (v : BitVec 32) (s : State), (s.sys.ball = none ∨ s.obj 0xB000 1 ≤ 2) → ∃ t, exec (.fltLogAck v) s = .next t
      ∧ (t = (if s.sys.ball = none then s else { s with sys := { s.sys with lastStatus := rpState } })))
  ∧ (∀ (v : BitVec 8) (s : State), (s.sys.ball = none ∨ s.obj 0xB000 1 ≤ 2) → ∃ t, exec (.fltLogOverflow v) s = .next t
      ∧ (t = (if s.sys.ball = none then s else { s with sys := { s.sys with lastStatus := rpState } })))

/-- R411 to R421: a suspected partner is accused to umpire and backup; the umpire keeps ROSTERs and accusations and, at the
quorum, declares the accused out: the epoch rises by one, the RECORD goes out on every port, the line caches are
invalidated; a module that receives the next RECORD adopts it and sends it on, holds a later one and asks for those
missing, and fences itself when it is named; EPOCH_REQ is answered with the records kept or the whole view; a beacon is
sent every 10 µs and forwarded once; without beacons a module in play fences itself, cause ISOLATED; the first listed
module opens epoch 1, the second after 1 s. -/
def Obligations.ViewChangesByRecord : Prop :=
  (∀ (m : BitVec 16) (s : State), Rises s.flt.ump.suspects → s.memberState = 2 → s.suspects m.toNat = true → (mapGet 0
      s.flt.ump.suspects m.toNat = 0 ∨ mapGet 0 s.flt.ump.suspects m.toNat - 1 + 10 * tickUs ≤ s.time) → s.umpireNow =
      s.moduleId → s.backupNow = 0xFFFF → s.moduleId < 0xFFFF → s.epoch < 2 ^ 32 → ∃ t, exec (.partnerSuspect m) s = .next t
      ∧ t.fab.frames = s.fab.frames ++ [(24, BitVec.ofNat 256 (field 248 0x10 + field 216 s.moduleId + field 200 s.moduleId +
        field 128 s.epoch + field 112 m.toNat))]
      ∧ mapGet 0 t.flt.ump.suspects m.toNat = s.time + 1
      ∧ (∀ k, k ≠ m.toNat → mapGet 0 t.flt.ump.suspects k = mapGet 0 s.flt.ump.suspects k)
      ∧
        { t with fab := { t.fab with frames := s.fab.frames }, flt := { t.flt with ump := { t.flt.ump with suspects := s.flt.ump.suspects } } }
        = s)
  ∧ (∀ (m : BitVec 16) (p : Nat) (s : State), Rises s.flt.ump.suspects → s.memberState = 2 → s.suspects m.toNat = true →
      (mapGet 0 s.flt.ump.suspects m.toNat = 0 ∨ mapGet 0 s.flt.ump.suspects m.toNat - 1 + 10 * tickUs ≤ s.time) → Routes s 0 0
      s.umpireNow p → s.backupNow = 0xFFFF → s.umpireNow < 0xFFFF → s.moduleId < 0x10000 → s.epoch < 2 ^ 32 → ∃ t, exec
      (.partnerSuspect m) s = .next t
      ∧ LeftBy s t p (BitVec.ofNat 256 (field 248 0x10 + field 216 s.umpireNow + field 200 s.moduleId + field 128 s.epoch +
        field 112 m.toNat))
      ∧ mapGet 0 t.flt.ump.suspects m.toNat = s.time + 1
      ∧ (∀ k, k ≠ m.toNat → mapGet 0 t.flt.ump.suspects k = mapGet 0 s.flt.ump.suspects k)
      ∧ KeepsObjects s t [objKey 0x5000 0x10]
      ∧
        { uncarried t s with ports := s.ports, out := s.out, dict := s.dict, flt := { t.flt with ump := { t.flt.ump with suspects := s.flt.ump.suspects } } }
        = s)
  ∧ (∀ (m : BitVec 16) (s : State), (s.memberState ≠ 2 ∨ s.suspects m.toNat = false ∨ (mapGet 0 s.flt.ump.suspects m.toNat ≠ 0
      ∧ s.time < mapGet 0 s.flt.ump.suspects m.toNat - 1 + 10 * tickUs)) → ∃ t, exec (.partnerSuspect m) s = .next t
      ∧ t = s)
  ∧ (∀ (f : BitVec 256) (s : State), fKind f = 0x10 → s.fab.frames.contains (24, f) = true → s.isUmpire = true → bits f 127 112
      ≠ s.moduleId → s.flt.out.contains (bits f 127 112) = false → bit f 111 = false → (s.accusers (bits f 127 112)).length + 1
      < s.quorum (bits f 127 112) → ∃ t, exec (.accuseReceive f) s = .next t
      ∧ t.flt.ump.accused = s.flt.ump.accused.filter (fun a => !(a.1 == fSrc f && a.2.1 == bits f 127 112)) ++ [(fSrc f, bits f
        127 112, s.time)]
      ∧ t.fab.frames = s.fab.frames.erase (24, f)
      ∧
        { t with fab := { t.fab with frames := s.fab.frames }, flt := { t.flt with ump := { t.flt.ump with accused := s.flt.ump.accused } } }
        = s)
  ∧ (∀ (f : BitVec 256) (s : State), fKind f = 0x10 → s.fab.frames.contains (24, f) = true → s.isUmpire = true → bits f 127 112
      ≠ s.moduleId → s.flt.out.contains (bits f 127 112) = false → bit f 111 = true → (s.accusers (bits f 127 112)).length <
      s.quorum (bits f 127 112) → ∃ t, exec (.accuseReceive f) s = .next t
      ∧ t.flt.ump.accused = s.flt.ump.accused.filter (fun a => !(a.1 == fSrc f && a.2.1 == bits f 127 112))
      ∧ t.epoch = s.epoch
      ∧
        { t with fab := { t.fab with frames := s.fab.frames }, flt := { t.flt with ump := { t.flt.ump with accused := s.flt.ump.accused } } }
        = s)
  ∧ (∀ (f : BitVec 256) (s : State), TablesRise s → NoGroups s → IdsFit s → fKind f = 0x10 → s.fab.frames.contains (24, f) =
      true → s.isUmpire = true → bits f 127 112 ≠ s.moduleId → s.flt.out.contains (bits f 127 112) = false → bit f 111 = false
      → s.inPlay (fSrc f) = true → s.quorum (bits f 127 112) ≤ ((s.accusers (bits f 127 112)).filter (· != fSrc f)).length + 1
      → ∃ t, exec (.accuseReceive f) s = .next t
      ∧ ViewAt t ((s.epoch + 1) % 2 ^ 32) (setIns (bits f 127 112) s.flt.out)
      ∧ t.out = s.out ++ s.openPorts.map (fun p => sentOn s p (s.record true 1 (bits f 127 112) ((s.epoch + 1) % 2 ^ 32) 0))
      ∧ { unviewed t s with fab := { t.fab with frames := s.fab.frames } } = s
      ∧ KeepsObjects s t [objKey 0x5000 2, objKey 0x8002 8]
      ∧ KeepsDies s t)
  ∧ (∀ (f : BitVec 256) (s : State), TablesRise s → NoGroups s → IdsFit s → fKind f = 0x10 → s.fab.frames.contains (24, f) =
      true → s.isUmpire = false → s.isBackup = true → bits f 127 112 = s.umpireNow → bit f 111 = false → s.epoch < 2 ^ 32 →
      s.flt.out.contains (fSrc f) = false → s.quorum s.umpireNow ≤ ((s.accusers s.umpireNow).filter (· != fSrc f)).length + 1 →
      ∃ t, exec (.accuseReceive f) s = .next t
      ∧ ViewAt t ((s.epoch + 256) % 2 ^ 32) (setIns s.umpireNow s.flt.out)
      ∧ t.umpireNow = s.moduleId
      ∧ t.flt.ump.umpireAt = s.time
      ∧ t.out = s.out ++ s.openPorts.map (fun p => sentOn s p (s.record true 1 s.umpireNow ((s.epoch + 256) % 2 ^ 32) s.epoch))
      ∧ { unviewed t s with fab := { t.fab with frames := s.fab.frames } } = s
      ∧ KeepsObjects s t [objKey 0x5000 2, objKey 0x8002 8]
      ∧ KeepsDies s t)
  ∧ (∀ (f : BitVec 256) (s : State), fKind f = 0x10 → s.fab.frames.contains (24, f) = true → (s.flt.out.contains (bits f 127
      112) = true ∨ ((s.isUmpire = false ∨ bits f 127 112 = s.moduleId) ∧ (s.isBackup = false ∨ bits f 127 112 ≠ s.umpireNow)))
      → ∃ t, exec (.accuseReceive f) s = .next t
      ∧ t = { s with fab := { s.fab with frames := s.fab.frames.erase (24, f) } })
  ∧ (∀ (f : BitVec 256) (s : State), (fKind f ≠ 0x10 ∨ s.fab.frames.contains (24, f) = false) → ∃ t, exec (.accuseReceive f) s
      = .next t
      ∧ t = s)
  ∧ (∀ (s : State), s.memberState = 2 → (s.flt.ump.rosterDue = true ∨ s.flt.ump.rosterLast ≠ (s.activePartners.length, s.obj
      0x8000 6) ∨ s.flt.ump.rosterAt + tickMs ≤ s.time) → s.umpireNow = s.moduleId → s.backupNow = 0xFFFF → s.moduleId < 0xFFFF
      → s.epoch < 2 ^ 32 → s.obj 0x8000 6 < 0x10000 → ∃ t, exec (.rosterSend) s = .next t
      ∧ t.fab.frames = s.fab.frames ++ [(24, BitVec.ofNat 256 (field 248 0x11 + field 216 s.moduleId + field 200 s.moduleId +
        field 128 s.epoch + field 120 (s.activePartners.length % 256) + field 104 (s.obj 0x8000 6)))]
      ∧ (t.flt.ump.rosterLast, t.flt.ump.rosterAt, t.flt.ump.rosterDue) = ((s.activePartners.length, s.obj 0x8000 6), s.time,
        false)
      ∧
        { t with fab := { t.fab with frames := s.fab.frames }, flt := { t.flt with ump := { t.flt.ump with rosterLast := s.flt.ump.rosterLast, rosterAt := s.flt.ump.rosterAt, rosterDue := s.flt.ump.rosterDue } } }
        = s)
  ∧ (∀ (p : Nat) (s : State), s.memberState = 2 → (s.flt.ump.rosterDue = true ∨ s.flt.ump.rosterLast ≠
      (s.activePartners.length, s.obj 0x8000 6) ∨ s.flt.ump.rosterAt + tickMs ≤ s.time) → Routes s 0 0 s.umpireNow p →
      s.backupNow = 0xFFFF → s.umpireNow < 0xFFFF → s.moduleId < 0x10000 → s.epoch < 2 ^ 32 → s.obj 0x8000 6 < 0x10000 → ∃ t,
      exec (.rosterSend) s = .next t
      ∧ LeftBy s t p (BitVec.ofNat 256 (field 248 0x11 + field 216 s.umpireNow + field 200 s.moduleId + field 128 s.epoch +
        field 120 (s.activePartners.length % 256) + field 104 (s.obj 0x8000 6)))
      ∧ (t.flt.ump.rosterLast, t.flt.ump.rosterAt, t.flt.ump.rosterDue) = ((s.activePartners.length, s.obj 0x8000 6), s.time,
        false)
      ∧ KeepsObjects s t [objKey 0x5000 0x10]
      ∧
        { uncarried t s with ports := s.ports, out := s.out, dict := s.dict, flt := { t.flt with ump := { t.flt.ump with rosterLast := s.flt.ump.rosterLast, rosterAt := s.flt.ump.rosterAt, rosterDue := s.flt.ump.rosterDue } } }
        = s)
  ∧ (∀ (s : State), (s.memberState ≠ 2 ∨ (s.flt.ump.rosterDue = false ∧ s.flt.ump.rosterLast = (s.activePartners.length, s.obj
      0x8000 6) ∧ s.time < s.flt.ump.rosterAt + tickMs)) → ∃ t, exec (.rosterSend) s = .next t
      ∧ t = s)
  ∧ (∀ (f : BitVec 256) (s : State), Rises s.flt.ump.rosters → fKind f = 0x11 → s.fab.frames.contains (24, f) = true →
      (s.isUmpire = true ∨ s.isBackup = true) → ((s.accusers (fSrc f)).length < max 3 (bits f 127 120 / 2 + 1) ∨
      s.flt.out.contains (fSrc f) = true ∨ fSrc f = s.moduleId ∨ (s.isUmpire = false ∧ fSrc f ≠ s.umpireNow)) → ∃ t, exec
      (.rosterReceive f) s = .next t
      ∧ mapGet (0, 0) t.flt.ump.rosters (fSrc f) = (bits f 127 120 + 1, bits f 119 104)
      ∧ (∀ k, k ≠ fSrc f → mapGet (0, 0) t.flt.ump.rosters k = mapGet (0, 0) s.flt.ump.rosters k)
      ∧ t.fab.frames = s.fab.frames.erase (24, f)
      ∧
        { t with fab := { t.fab with frames := s.fab.frames }, flt := { t.flt with ump := { t.flt.ump with rosters := s.flt.ump.rosters } } }
        = s)
  ∧ (∀ (f : BitVec 256) (s : State), TablesRise s → NoGroups s → IdsFit s → Rises s.flt.ump.rosters → fKind f = 0x11 →
      s.fab.frames.contains (24, f) = true → s.isUmpire = true → fSrc f ≠ s.moduleId → s.flt.out.contains (fSrc f) = false →
      max 3 (bits f 127 120 / 2 + 1) ≤ (s.accusers (fSrc f)).length → ∃ t, exec (.rosterReceive f) s = .next t
      ∧ ViewAt t ((s.epoch + 1) % 2 ^ 32) (setIns (fSrc f) s.flt.out)
      ∧ t.out = s.out ++ s.openPorts.map (fun p => sentOn s p (s.record true 1 (fSrc f) ((s.epoch + 1) % 2 ^ 32) 0))
      ∧ mapGet (0, 0) t.flt.ump.rosters (fSrc f) = (bits f 127 120 + 1, bits f 119 104)
      ∧ { unviewed t s with fab := { t.fab with frames := s.fab.frames } } = s
      ∧ KeepsObjects s t [objKey 0x5000 2, objKey 0x8002 8]
      ∧ KeepsDies s t)
  ∧ (∀ (f : BitVec 256) (s : State), fKind f = 0x11 → s.fab.frames.contains (24, f) = true → s.isUmpire = false → s.isBackup =
      false → ∃ t, exec (.rosterReceive f) s = .next t
      ∧ t = { s with fab := { s.fab with frames := s.fab.frames.erase (24, f) } })
  ∧ (∀ (f : BitVec 256) (s : State), (fKind f ≠ 0x11 ∨ s.fab.frames.contains (24, f) = false) → ∃ t, exec (.rosterReceive f) s
      = .next t
      ∧ t = s)
  ∧ (∀ (p : Fin 128) (f : BitVec 256) (s : State), TablesRise s → NoGroups s → s.linkUp p = true → s.fenced = false → fKind f =
      0x12 → recDigest f = s.umpireDigest → recBase f = 0 → recEpoch f = (s.epoch + 1) % 2 ^ 32 → recUmpire f = s.umpireNow →
      s.umpireNow ≠ 0xFFFF → recSubject f ≠ s.moduleId → s.flt.ump.early = [] → ∃ t, exec (.recordReceive p f) s = .next t
      ∧ ViewAt t (recEpoch f) (if recOut f then setIns (recSubject f) s.flt.out else s.flt.out.filter (· != recSubject f))
      ∧ t.flt.ump.records = (f :: s.flt.ump.records).take 64
      ∧ t.out = s.out ++ (s.openPorts.filter (· != p.val)).map (fun q => sentOn s q f)
      ∧ unviewed t s = s
      ∧ KeepsObjects s t [objKey 0x5000 2, objKey 0x8002 8]
      ∧ KeepsDies s t)
  ∧ (∀ (p : Fin 128) (f : BitVec 256) (s : State), TablesRise s → NoGroups s → s.linkUp p = true → s.fenced = false → fKind f =
      0x12 → recDigest f = s.umpireDigest → recBase f ≠ 0 → recEpoch f = (recBase f + 256) % 2 ^ 32 → laterEpoch (recBase f)
      s.epoch = false → laterEpoch (recEpoch f) s.epoch = true → (s.voidAbove (recBase f)).takeoverOk f = true → recSubject f ≠
      s.moduleId → s.flt.ump.early = [] → ∃ t, exec (.recordReceive p f) s = .next t
      ∧ ViewAt t (recEpoch f) (setIns (recSubject f) (s.voidAbove (recBase f)).flt.out)
      ∧ t.out = s.out ++ (s.openPorts.filter (· != p.val)).map (fun q => sentOn s q f)
      ∧ unviewed t s = s
      ∧ KeepsObjects s t [objKey 0x5000 2, objKey 0x8002 8]
      ∧ KeepsDies s t)
  ∧ (∀ (p : Fin 128) (f : BitVec 256) (s : State), TablesRise s → NoGroups s → NoCollective s → s.linkUp p = true →
      s.memberState = 2 → fKind f = 0x12 → recDigest f = s.umpireDigest → recBase f = 0 → recEpoch f = (s.epoch + 1) % 2 ^ 32 →
      recUmpire f = s.umpireNow → s.umpireNow ≠ 0xFFFF → recOut f = true → recSubject f = s.moduleId → s.hasId = true →
      s.flt.ump.early = [] → ∃ t, exec (.recordReceive p f) s = .next t
      ∧ FencedBy t (recCause f)
      ∧ ViewAt t (recEpoch f) (setIns s.moduleId s.flt.out)
      ∧ (t.mem, t.banks, t.ports) = (s.mem, s.banks, s.ports)
      ∧ KeepsDies s t)
  ∧ (∀ (p : Fin 128) (f : BitVec 256) (s : State), s.linkUp p = true → s.fenced = false → fKind f = 0x12 → recDigest f =
      s.umpireDigest → recBase f = 0 → laterEpoch (recEpoch f) ((s.epoch + 1) % 2 ^ 32) = true → s.flt.ump.early.contains f =
      false → ∃ t, exec (.recordReceive p f) s = .next t
      ∧ t.flt.ump.early = s.flt.ump.early ++ [f]
      ∧ t.out = s.out ++ [sentOn s p (BitVec.ofNat 256 (field 248 0x17 + field 216 ((s.epoch + 1) % 2 ^ 32)))]
      ∧ { t with out := s.out, flt := { t.flt with ump := { t.flt.ump with early := s.flt.ump.early } } } = s)
  ∧ (∀ (p : Fin 128) (f : BitVec 256) (s : State), (fKind f ≠ 0x12 ∨ s.linkUp p = false ∨ (recDigest f = s.umpireDigest ∧
      recBase f = 0 ∧ recEpoch f ≠ (s.epoch + 1) % 2 ^ 32 ∧ (laterEpoch (recEpoch f) ((s.epoch + 1) % 2 ^ 32) = false ∨
      s.flt.ump.early.contains f = true))) → ∃ t, exec (.recordReceive p f) s = .next t
      ∧ t = s)
  ∧ (∀ (p : Fin 128) (f : BitVec 256) (s : State), s.linkUp p = true → fKind f = 0x12 → recDigest f ≠ s.umpireDigest → ∃ t,
      exec (.recordReceive p f) s = .next t
      ∧ t.flt.ump.digestLogged = true
      ∧ (t.flt.raised = (if s.flt.ump.digestLogged then s.flt.raised else s.flt.raised ++
        [⟨moduleEvent 0x0E sevNote 0 (recDigest f), s.gtNow⟩]))
      ∧
        { t with flt := { t.flt with raised := s.flt.raised, ump := { t.flt.ump with digestLogged := s.flt.ump.digestLogged } } }
        = s)
  ∧ (∀ (p : Fin 128) (f : BitVec 256) (s : State), s.linkUp p = true → s.fenced = false → fKind f = 0x17 → bits f 247 216 ≠ 0 →
      laterEpoch (bits f 247 216) s.epoch = false → s.flt.ump.records.any (fun r => !laterEpoch (recEpoch r) (bits f 247 216))
      = true → ∃ t, exec (.epochReqReceive p f) s = .next t
      ∧ t.out = s.out ++ (s.flt.ump.records.reverse.filter (fun r => !laterEpoch (bits f 247 216) (recEpoch r))).map (fun r =>
        sentOn s p r)
      ∧ { t with out := s.out } = s)
  ∧ (∀ (p : Fin 128) (f : BitVec 256) (s : State), s.linkUp p = true → s.fenced = false → fKind f = 0x17 → (bits f 247 216 = 0
      ∨ (laterEpoch (bits f 247 216) s.epoch = false ∧ s.flt.ump.records.all (fun r => laterEpoch (recEpoch r) (bits f 247
      216)) = true)) → ∃ t, exec (.epochReqReceive p f) s = .next t
      ∧ t.out = s.out ++ (List.range 328).map (fun c => sentOn s p (s.viewFrame c))
      ∧ { t with out := s.out } = s)
  ∧ (∀ (p : Fin 128) (f : BitVec 256) (s : State), (fKind f ≠ 0x17 ∨ s.linkUp p = false ∨ s.fenced = true ∨ (bits f 247 216 ≠ 0
      ∧ laterEpoch (bits f 247 216) s.epoch = true)) → ∃ t, exec (.epochReqReceive p f) s = .next t
      ∧ t = s)
  ∧ (∀ (p : Fin 128) (f : BitVec 256) (s : State), Rises s.flt.ump.chunks → s.linkUp p = true → fKind f = 0x18 → (laterEpoch
      (bits f 247 216) s.epoch = true ∨ (s.flt.ump.viewHeld = false ∧ s.memberState = 1)) → bits f 247 216 ≠ 0 → bits f 215 207
      < 328 → s.flt.ump.viewEpoch = bits f 247 216 → (List.range 328).any (fun i => i != bits f 215 207 && (mapGet none
      s.flt.ump.chunks i).isNone) = true → ∃ t, exec (.viewReceive p f) s = .next t
      ∧ mapGet none t.flt.ump.chunks (bits f 215 207) = some (BitVec.ofNat 200 (bits f 199 0))
      ∧ (∀ k, k ≠ bits f 215 207 → mapGet none t.flt.ump.chunks k = mapGet none s.flt.ump.chunks k)
      ∧ { t with flt := { t.flt with ump := { t.flt.ump with chunks := s.flt.ump.chunks } } } = s)
  ∧ (∀ (p : Fin 128) (f : BitVec 256) (s : State), s.linkUp p = true → fKind f = 0x18 → (laterEpoch (bits f 247 216) s.epoch =
      true ∨ (s.flt.ump.viewHeld = false ∧ s.memberState = 1)) → bits f 247 216 ≠ 0 → bits f 215 207 < 328 →
      s.flt.ump.viewEpoch ≠ bits f 247 216 → ∃ t, exec (.viewReceive p f) s = .next t
      ∧ t.flt.ump =
        { s.flt.ump with viewEpoch := bits f 247 216, chunks := [(bits f 215 207, some (BitVec.ofNat 200 (bits f 199 0)))] }
      ∧ { t with flt := { t.flt with ump := s.flt.ump } } = s)
  ∧ (∀ (p : Fin 128) (f : BitVec 256) (s : State), (fKind f ≠ 0x18 ∨ s.linkUp p = false ∨ bits f 247 216 = 0 ∨ 328 ≤ bits f 215
      207 ∨ (laterEpoch (bits f 247 216) s.epoch = false ∧ (s.flt.ump.viewHeld = true ∨ s.memberState ≠ 1))) → ∃ t, exec
      (.viewReceive p f) s = .next t
      ∧ t = s)
  ∧ (∀ (p : Fin 128) (f : BitVec 256) (s : State), TablesRise s → NoGroups s → Rises s.flt.ump.chunks → s.linkUp p = true →
      fKind f = 0x18 → laterEpoch (bits f 247 216) s.epoch = true → bits f 247 216 ≠ 0 → bits f 215 207 < 328 →
      s.flt.ump.viewEpoch = bits f 247 216 → s.flt.ump.chunks.map (·.1) = (List.range 328).filter (· != bits f 215 207) →
      s.flt.ump.chunks.all (fun kv => kv.2.isSome) = true → s.memberState ≠ 2 → s.flt.ump.early = [] → ∃ t, exec (.viewReceive
      p f) s = .next t
      ∧ ViewAt t (bits f 247 216) (chunksOut (mapSet none s.flt.ump.chunks (bits f 215 207) (some (BitVec.ofNat 200 (bits f 199
        0)))))
      ∧ (t.flt.ump.viewHeld, t.flt.ump.chunks, t.flt.ump.records) = (true, [], [])
      ∧ unviewed t s = s
      ∧ KeepsObjects s t [objKey 0x5000 2]
      ∧ KeepsDies s t)
  ∧ (∀ (p : Fin 128) (f : BitVec 256) (out : List Nat) (s : State), TablesRise s → NoGroups s → NoCollective s → Rises
      s.flt.ump.chunks → s.linkUp p = true → fKind f = 0x18 → laterEpoch (bits f 247 216) s.epoch = true → bits f 247 216 ≠ 0 →
      bits f 215 207 < 328 → s.flt.ump.viewEpoch = bits f 247 216 → s.flt.ump.chunks.map (·.1) = (List.range 328).filter (· !=
      bits f 215 207) → s.flt.ump.chunks.all (fun kv => kv.2.isSome) = true → s.memberState = 2 → out = chunksOut (mapSet none
      s.flt.ump.chunks (bits f 215 207) (some (BitVec.ofNat 200 (bits f 199 0)))) → out.contains s.moduleId = true → ∃ t, exec
      (.viewReceive p f) s = .next t
      ∧ FencedBy t (1 + Config.viewCause % 5)
      ∧ ViewAt t (bits f 247 216) out
      ∧ (t.mem, t.banks, t.ports) = (s.mem, s.banks, s.ports)
      ∧ KeepsDies s t)
  ∧ (∀ (s : State), s.isUmpire = true → s.flt.ump.beaconAt + 10 * tickUs ≤ s.time → ∃ t, exec (.beaconSend) s = .next t
      ∧ t.flt.ump.beacon = some ((s.flt.ump.beacon.map (· + 1)).getD 1)
      ∧ t.flt.ump.beaconAt = s.time
      ∧ t.out = s.out ++ s.openPorts.map (fun p => sentOn s p (BitVec.ofNat 256 (field 248 0x13 + field 216 s.epoch + field 200
        s.moduleId + field 168 ((s.flt.ump.beacon.map (· + 1)).getD 1).toNat + field 104 s.umpireDigest)))
      ∧
        { t with out := s.out, flt := { t.flt with ump := { t.flt.ump with beacon := s.flt.ump.beacon, beaconAt := s.flt.ump.beaconAt } } }
        = s)
  ∧ (∀ (s : State), (s.isUmpire = false ∨ s.time < s.flt.ump.beaconAt + 10 * tickUs) → ∃ t, exec (.beaconSend) s = .next t
      ∧ t = s)
  ∧ (∀ (p : Fin 128) (f : BitVec 256) (s : State), s.linkUp p = true → s.fenced = false → fKind f = 0x13 → bits f 167 104 =
      s.umpireDigest → (s.flt.ump.beacon.map (fun b => decide (0 < (BitVec.ofNat 32 (bits f 199 168) - b).toInt))).getD true =
      true → ∃ t, exec (.beaconReceive p f) s = .next t
      ∧ (t.flt.ump.beacon, t.flt.ump.beaconAt) = (some (BitVec.ofNat 32 (bits f 199 168)), s.time)
      ∧ t.out = s.out ++ (s.openPorts.filter (· != p.val)).map (fun q => sentOn s q f)
      ∧
        { t with out := s.out, flt := { t.flt with ump := { t.flt.ump with beacon := s.flt.ump.beacon, beaconAt := s.flt.ump.beaconAt } } }
        = s)
  ∧ (∀ (p : Fin 128) (f : BitVec 256) (s : State), s.linkUp p = true → s.fenced = true → fKind f = 0x13 → bits f 167 104 =
      s.umpireDigest → (s.flt.ump.beacon.map (fun b => decide (0 < (BitVec.ofNat 32 (bits f 199 168) - b).toInt))).getD true =
      true → ∃ t, exec (.beaconReceive p f) s = .next t
      ∧ t.flt.ump = { s.flt.ump with beacon := some (BitVec.ofNat 32 (bits f 199 168)), beaconAt := s.time }
      ∧ { t with flt := { t.flt with ump := s.flt.ump } } = s)
  ∧ (∀ (p : Fin 128) (f : BitVec 256) (s : State), s.linkUp p = true → fKind f = 0x13 → bits f 167 104 ≠ s.umpireDigest → ∃ t,
      exec (.beaconReceive p f) s = .next t
      ∧ t.flt.ump = { s.flt.ump with digestLogged := true }
      ∧ (t.flt.raised = (if s.flt.ump.digestLogged then s.flt.raised else s.flt.raised ++
        [⟨moduleEvent 0x0E sevNote 0 (bits f 167 104), s.gtNow⟩]))
      ∧ { t with flt := { t.flt with raised := s.flt.raised, ump := s.flt.ump } } = s)
  ∧ (∀ (p : Fin 128) (f : BitVec 256) (s : State), (fKind f ≠ 0x13 ∨ s.linkUp p = false) → ∃ t, exec (.beaconReceive p f) s =
      .next t
      ∧ t = s)
  ∧ (∀ (p : Fin 128) (f : BitVec 256) (b : BitVec 32) (s : State), fKind f = 0x13 → bits f 167 104 = s.umpireDigest →
      s.flt.ump.beacon = some b → (BitVec.ofNat 32 (bits f 199 168) - b).toInt ≤ 0 → ∃ t, exec (.beaconReceive p f) s = .next t
      ∧ t = s)
  ∧ (∀ (s : State), TablesRise s → NoCollective s → s.memberState = 2 → ((s.isUmpire = false ∧ s.flt.ump.beaconAt + s.obj
      0x8800 1 * tickUs ≤ s.time) ∨ (s.isUmpire = true ∧ s.alone (s.obj 0x8800 1 * tickUs) = true)) → ∃ t, exec
      (.isolationFence) s = .next t
      ∧ FencedBy t 6
      ∧ (t.epoch, t.flt.out, t.mem, t.dies) = (s.epoch, s.flt.out, s.mem, s.dies))
  ∧ (∀ (s : State), (s.memberState ≠ 2 ∨ (s.isUmpire = false ∧ s.time < s.flt.ump.beaconAt + s.obj 0x8800 1 * tickUs) ∨
      (s.isUmpire = true ∧ (s.activePartners ≠ [] ∨ s.time < s.flt.ump.umpireAt + s.obj 0x8800 1 * tickUs))) → ∃ t, exec
      (.isolationFence) s = .next t
      ∧ t = s)
  ∧ (∀ (rest : List Nat) (s : State), TablesRise s → NoGroups s → s.mayJoin = true → s.memberState ≤ 1 → s.epoch = 0 →
      s.umpireList = s.moduleId :: rest → s.flt.ump.forceDue = false → ∃ t, exec (.epochOpen) s = .next t
      ∧ ViewAt t 1 []
      ∧ t.memberState = 2
      ∧ t.umpireNow = s.moduleId
      ∧ (t.flt.ump.joinDone, t.flt.ump.viewHeld) = (true, true)
      ∧ unviewed t s = s
      ∧ KeepsObjects s t [objKey 0x5000 2, objKey 0x8000 1]
      ∧ KeepsDies s t)
  ∧ (∀ (rest : List Nat) (s : State), TablesRise s → NoGroups s → s.mayJoin = true → s.memberState ≤ 1 → s.epoch = 0 →
      s.umpireList = s.moduleId :: rest → s.flt.ump.forceDue = true → s.moduleId ≠ 0xFFFF → ∃ t, exec (.epochOpen) s = .next t
      ∧ ViewAt t 1 []
      ∧ t.memberState = 2
      ∧ (t.flt.ump.forced, t.flt.ump.forceDue) = (some (s.flt.ump.forced.getD s.time), false)
      ∧ t.fab.frames.dropLast = s.fab.frames
      ∧ t.fab.frames.getLast?.map (fun x => (x.1, fKind x.2, bit x.2 127, bit x.2 126)) = some (24, 0x14, true, false)
      ∧ KeepsObjects s t [objKey 0x5000 2, objKey 0x8000 1]
      ∧ KeepsDies s t)
  ∧ (∀ (s : State), (s.mayJoin = false ∨ 1 < s.memberState ∨ s.epoch ≠ 0 ∨ s.umpireList.head? ≠ some s.moduleId) → ∃ t, exec
      (.epochOpen) s = .next t
      ∧ t = s)
  ∧ (∀ (first : Nat) (rest : List Nat) (s : State), TablesRise s → NoGroups s → s.mayJoin = true → s.memberState ≤ 1 → s.epoch
      = 0 → s.flt.ump.beacon = none → s.flt.ump.readyAt + tickS ≤ s.time → s.umpireList = first :: s.moduleId :: rest → first ≠
      s.moduleId → s.flt.ump.forceDue = false → ∃ t, exec (.umpireStartTimeout) s = .next t
      ∧ ViewAt t 1 [first]
      ∧ t.memberState = 2
      ∧ t.umpireNow = s.moduleId
      ∧ unviewed t s = s
      ∧ KeepsObjects s t [objKey 0x5000 2, objKey 0x8000 1]
      ∧ KeepsDies s t)
  ∧ (∀ (s : State), (s.mayJoin = false ∨ 1 < s.memberState ∨ s.epoch ≠ 0 ∨ s.flt.ump.beacon.isSome = true ∨ s.time <
      s.flt.ump.readyAt + tickS ∨ s.umpireList[1]? ≠ some s.moduleId) → ∃ t, exec (.umpireStartTimeout) s = .next t
      ∧ t = s)

/-- R422 to R428: a module that may join asks for the view, then sends JOIN; the umpire grants a module never joined, holds
one that is out, refuses another digest; an admitted module comes back under a new epoch; GRANTED puts the module in
play; a WITHDRAW below the cap is granted and counted, at the cap degraded, with FORCE or with GO it is a declaration;
SEND_OFF declares out; the score is 1,000 less the penalties and a score below the threshold asks for withdrawal;
degraded service caps the clocks and ends after 60 s of calm; a forced withdrawal unanswered for 1 ms fences. -/
def Obligations.ModulesJoinAndWithdraw : Prop :=
  (∀ (p : Nat) (ps : List Nat) (s : State), Rises s.dict → s.mayJoin = true → s.memberState ≤ 1 → s.flt.ump.joinDone = false
      → s.flt.ump.viewHeld = false → (s.flt.ump.joinAt.map (fun t => decide (t + 100 * tickUs ≤ s.time))).getD true = true →
      s.openPorts = p :: ps → ∃ t, exec (.joinSend) s = .next t
      ∧ t.memberState = 1
      ∧ t.out = s.out ++ [sentOn s p (BitVec.ofNat 256 (field 248 0x17))]
      ∧ t.flt.ump.joinAt = some s.time
      ∧ KeepsObjects s t [objKey 0x8000 1]
      ∧ { t with dict := s.dict, out := s.out, flt := { t.flt with ump := { t.flt.ump with joinAt := s.flt.ump.joinAt } } } = s)
  ∧ (∀ (s : State), Rises s.dict → s.mayJoin = true → s.memberState ≤ 1 → s.flt.ump.joinDone = false → s.flt.ump.viewHeld =
      true → (s.flt.ump.joinAt.map (fun t => decide (t + 100 * tickUs ≤ s.time))).getD true = true → s.umpireNow = s.moduleId →
      s.backupNow = 0xFFFF → s.moduleId < 0xFFFF → s.epoch < 2 ^ 32 → s.obj 0x8000 6 < 0x10000 → ∃ t, exec (.joinSend) s =
      .next t
      ∧ t.memberState = 1
      ∧ t.fab.frames.take (s.fab.frames.length + 1) = s.fab.frames ++ [(24, BitVec.ofNat 256 (field 248 0x15 + field 216
        s.moduleId + field 200 s.moduleId + field 128 s.epoch + field 112 (s.obj 0x8000 6) + field 104 (s.activePartners.length
        % 256) + field 40 s.umpireDigest))]
      ∧ (t.fab.frames.drop (s.fab.frames.length + 1)).map (fun x => (x.1, fKind x.2)) = [(24, 0x11)]
      ∧ (t.flt.ump.joinAt, t.flt.ump.rosterAt) = (some s.time, s.time)
      ∧ KeepsObjects s t [objKey 0x8000 1]
      ∧ (t.fab.frames.drop (s.fab.frames.length + 1)).map (fun x => (bits x.2 127 120, bits x.2 119 104)) =
        [(s.activePartners.length % 256, s.obj 0x8000 6)]
      ∧
        { t with dict := s.dict, fab := { t.fab with frames := s.fab.frames }, flt := { t.flt with ump := { t.flt.ump with joinAt := s.flt.ump.joinAt, rosterLast := s.flt.ump.rosterLast, rosterAt := s.flt.ump.rosterAt, rosterDue := s.flt.ump.rosterDue } } }
        = s)
  ∧ (∀ (p : Nat) (s : State), Rises s.dict → s.mayJoin = true → s.memberState ≤ 1 → s.flt.ump.joinDone = false →
      s.flt.ump.viewHeld = true → (s.flt.ump.joinAt.map (fun t => decide (t + 100 * tickUs ≤ s.time))).getD true = true →
      s.backupNow = 0xFFFF → Routes s 0 0 s.umpireNow p → s.umpireNow < 0xFFFF → s.moduleId < 0x10000 → s.epoch < 2 ^ 32 →
      s.obj 0x8000 6 < 0x10000 → ∃ t, exec (.joinSend) s = .next t
      ∧ t.memberState = 1
      ∧ ((t.out.drop s.out.length).filterMap routedOut).map (fun x => (x.1, fKind x.2, fDst x.2)) = [(p, 0x15, s.umpireNow),
        (p, 0x11, s.umpireNow)]
      ∧ ((t.out.drop s.out.length).filterMap routedOut).map (fun x => (bits x.2 127 112, bits x.2 111 104)) = [(s.obj 0x8000 6,
        s.activePartners.length % 256), (s.activePartners.length % 256 * 256 + s.obj 0x8000 6 / 256, s.obj 0x8000 6 % 256)]
      ∧ ((t.out.drop s.out.length).filterMap routedOut).head?.map (fun x => bits x.2 103 40) = some s.umpireDigest
      ∧ (t.flt.ump.joinAt, t.flt.ump.rosterAt) = (some s.time, s.time)
      ∧ KeepsObjects s t [objKey 0x8000 1, objKey 0x5000 0x10]
      ∧
        { uncarried t s with ports := s.ports, out := s.out, dict := s.dict, flt := { t.flt with ump := { t.flt.ump with joinAt := s.flt.ump.joinAt, rosterLast := s.flt.ump.rosterLast, rosterAt := s.flt.ump.rosterAt, rosterDue := s.flt.ump.rosterDue } } }
        = s)
  ∧ (∀ (s : State), Rises s.dict → s.mayJoin = true → s.memberState ≤ 1 → (s.flt.ump.joinDone = true ∨ (s.flt.ump.joinAt.map
      (fun t => decide (t + 100 * tickUs ≤ s.time))).getD true = false ∨ (s.flt.ump.viewHeld = false ∧ s.openPorts = []) ∨
      (s.flt.ump.viewHeld = true ∧ s.umpireNow = 0xFFFF)) → ∃ t, exec (.joinSend) s = .next t
      ∧ t.memberState = 1
      ∧ KeepsObjects s t [objKey 0x8000 1]
      ∧ { t with dict := s.dict } = s)
  ∧ (∀ (s : State), (s.mayJoin = false ∨ 1 < s.memberState) → ∃ t, exec (.joinSend) s = .next t
      ∧ t = s)
  ∧ (∀ (f : BitVec 256) (s : State), Rises s.flt.ump.joined → fKind f = 0x15 → s.fab.frames.contains (24, f) = true →
      s.isUmpire = true → bits f 103 40 = s.umpireDigest → s.flt.out.contains (fSrc f) = false → s.inPlay (fSrc f) = false →
      fSrc f = s.moduleId → s.epoch < 2 ^ 32 → ∃ t, exec (.joinReceive f) s = .next t
      ∧ mapGet 0 t.flt.ump.joined (fSrc f) = bits f 127 112 + 1
      ∧ (∀ k, k ≠ fSrc f → mapGet 0 t.flt.ump.joined k = mapGet 0 s.flt.ump.joined k)
      ∧ t.fab.frames = s.fab.frames.erase (24, f) ++ [(24, BitVec.ofNat 256 (field 248 0x16 + field 216 s.moduleId + field 200
        s.moduleId + field 128 s.epoch + field 120 0x15))]
      ∧
        { t with fab := { t.fab with frames := s.fab.frames }, flt := { t.flt with ump := { t.flt.ump with joined := s.flt.ump.joined } } }
        = s)
  ∧ (∀ (f : BitVec 256) (p : Nat) (s : State), Rises s.flt.ump.joined → Rises s.flt.ump.heldJoins → Rises s.flt.ump.withdrawn →
      fKind f = 0x15 → s.fab.frames.contains (24, f) = true → s.isUmpire = true → Routes s 0 0 (fSrc f) p → fSrc f < 0xFFFF →
      s.moduleId < 0x10000 → s.epoch < 2 ^ 32 → bits f 103 40 = s.umpireDigest → s.flt.out.contains (fSrc f) = false → s.inPlay
      (fSrc f) = false → ∃ t, exec (.joinReceive f) s = .next t
      ∧ LeftBy s t p (BitVec.ofNat 256 (field 248 0x16 + field 216 (fSrc f) + field 200 s.moduleId + field 128 s.epoch + field
        120 0x15))
      ∧ mapGet 0 t.flt.ump.joined (fSrc f) = bits f 127 112 + 1
      ∧ (∀ k, k ≠ fSrc f → mapGet 0 t.flt.ump.joined k = mapGet 0 s.flt.ump.joined k)
      ∧ t.fab.frames = s.fab.frames.erase (24, f)
      ∧ KeepsObjects s t [objKey 0x5000 0x10]
      ∧
        { uncarried t s with ports := s.ports, out := s.out, dict := s.dict, fab := { t.fab with frames := s.fab.frames }, flt := { t.flt with ump := { t.flt.ump with joined := s.flt.ump.joined } } }
        = s)
  ∧ (∀ (f : BitVec 256) (s : State), Rises s.flt.ump.heldJoins → fKind f = 0x15 → s.fab.frames.contains (24, f) = true →
      s.isUmpire = true → bits f 103 40 = s.umpireDigest → s.flt.out.contains (fSrc f) = true → fSrc f ≠ 0xFFFF → ∃ t, exec
      (.joinReceive f) s = .next t
      ∧ mapGet 0 t.flt.ump.heldJoins (fSrc f) = bits f 127 112 + 1
      ∧ (∀ k, k ≠ fSrc f → mapGet 0 t.flt.ump.heldJoins k = mapGet 0 s.flt.ump.heldJoins k)
      ∧ t.flt.out = s.flt.out
      ∧ (t.epoch, t.flt.ump.joined) = (s.epoch, s.flt.ump.joined)
      ∧ (t.cores, t.dies, t.mem) = (s.cores, s.dies, s.mem))
  ∧ (∀ (f : BitVec 256) (p : Nat) (s : State), Rises s.flt.ump.joined → Rises s.flt.ump.heldJoins → Rises s.flt.ump.withdrawn →
      fKind f = 0x15 → s.fab.frames.contains (24, f) = true → s.isUmpire = true → Routes s 0 0 (fSrc f) p → fSrc f < 0xFFFF →
      s.moduleId < 0x10000 → s.epoch < 2 ^ 32 → bits f 103 40 = s.umpireDigest → s.flt.out.contains (fSrc f) = true → ∃ t, exec
      (.joinReceive f) s = .next t
      ∧ LeftBy s t p (BitVec.ofNat 256 (field 248 0x16 + field 216 (fSrc f) + field 200 s.moduleId + field 128 s.epoch + field
        120 0x15 + field 112 2))
      ∧ mapGet 0 t.flt.ump.heldJoins (fSrc f) = bits f 127 112 + 1
      ∧ (∀ k, k ≠ fSrc f → mapGet 0 t.flt.ump.heldJoins k = mapGet 0 s.flt.ump.heldJoins k)
      ∧ t.fab.frames = s.fab.frames.erase (24, f)
      ∧ KeepsObjects s t [objKey 0x5000 0x10]
      ∧
        { uncarried t s with ports := s.ports, out := s.out, dict := s.dict, fab := { t.fab with frames := s.fab.frames }, flt := { t.flt with ump := { t.flt.ump with heldJoins := s.flt.ump.heldJoins } } }
        = s)
  ∧ (∀ (f : BitVec 256) (p : Nat) (s : State), KeysRise s → NoGroups s → IdsFit s → Rises s.flt.ump.heldJoins → fKind f = 0x15
      → s.fab.frames.contains (24, f) = true → s.isUmpire = true → Routes s 0 0 (fSrc f) p → fSrc f < 0xFFFF → s.moduleId <
      0x10000 → s.epoch < 2 ^ 32 → bits f 103 40 = s.umpireDigest → s.inPlay (fSrc f) = true → fSrc f ≠ s.moduleId → ∃ t, exec
      (.joinReceive f) s = .next t
      ∧ ViewAt t ((s.epoch + 1) % 2 ^ 32) (setIns (fSrc f) s.flt.out)
      ∧ (t.out.take (s.out.length + s.openPorts.length)) = s.out ++ s.openPorts.map (fun q => sentOn s q (s.record true 5 (fSrc
        f) ((s.epoch + 1) % 2 ^ 32) 0))
      ∧ ((t.out.drop (s.out.length + s.openPorts.length)).filterMap routedOut).map (fun x => (x.1, fKind x.2, fDst x.2)) = [(p,
        0x16, fSrc f)]
      ∧ ((t.out.drop (s.out.length + s.openPorts.length)).filterMap routedOut).map (fun x => (bits x.2 127 120, bits x.2 119
        112)) = [(0x15, 2)]
      ∧ mapGet 0 t.flt.ump.heldJoins (fSrc f) = bits f 127 112 + 1
      ∧ t.fab.frames = s.fab.frames.erase (24, f)
      ∧ KeepsDies s t
      ∧ (t.cores, t.mem, t.banks) = (s.cores, s.mem, s.banks))
  ∧ (∀ (f : BitVec 256) (s : State), fKind f = 0x15 → s.fab.frames.contains (24, f) = true → s.isUmpire = true → bits f 103 40
      ≠ s.umpireDigest → fSrc f = s.moduleId → s.epoch < 2 ^ 32 → ∃ t, exec (.joinReceive f) s = .next t
      ∧ t.fab.frames = s.fab.frames.erase (24, f) ++ [(24, BitVec.ofNat 256 (field 248 0x16 + field 216 s.moduleId + field 200
        s.moduleId + field 128 s.epoch + field 120 0x15 + field 112 3))]
      ∧ { t with fab := { t.fab with frames := s.fab.frames } } = s)
  ∧ (∀ (f : BitVec 256) (p : Nat) (s : State), Rises s.flt.ump.joined → Rises s.flt.ump.heldJoins → Rises s.flt.ump.withdrawn →
      fKind f = 0x15 → s.fab.frames.contains (24, f) = true → s.isUmpire = true → Routes s 0 0 (fSrc f) p → fSrc f < 0xFFFF →
      s.moduleId < 0x10000 → s.epoch < 2 ^ 32 → bits f 103 40 ≠ s.umpireDigest → ∃ t, exec (.joinReceive f) s = .next t
      ∧ LeftBy s t p (BitVec.ofNat 256 (field 248 0x16 + field 216 (fSrc f) + field 200 s.moduleId + field 128 s.epoch + field
        120 0x15 + field 112 3))
      ∧ t.fab.frames = s.fab.frames.erase (24, f)
      ∧ KeepsObjects s t [objKey 0x5000 0x10]
      ∧
        { uncarried t s with ports := s.ports, out := s.out, dict := s.dict, fab := { t.fab with frames := s.fab.frames }, flt := { t.flt with ump := s.flt.ump } }
        = s)
  ∧ (∀ (f : BitVec 256) (s : State), (fKind f ≠ 0x15 ∨ s.fab.frames.contains (24, f) = false) → ∃ t, exec (.joinReceive f) s =
      .next t
      ∧ t = s)
  ∧ (∀ (f : BitVec 256) (s : State), fKind f = 0x15 → s.fab.frames.contains (24, f) = true → s.isUmpire = false → ∃ t, exec
      (.joinReceive f) s = .next t
      ∧ t = { s with fab := { s.fab with frames := s.fab.frames.erase (24, f) } })
  ∧ (∀ (f : BitVec 256) (s : State), Rises s.dict → fKind f = 0x16 → s.fab.frames.contains (24, f) = true → fSrc f =
      s.umpireNow → bits f 127 120 = 0x15 → bits f 119 112 = 0 → s.memberState = 1 → s.flt.ump.forceDue = false → ∃ t, exec
      (.answerReceive f) s = .next t
      ∧ t.memberState = 2
      ∧ t.flt.ump.joinDone = true
      ∧ t.fab.frames = s.fab.frames.erase (24, f)
      ∧ KeepsObjects s t [objKey 0x8000 1]
      ∧
        { t with dict := s.dict, fab := { t.fab with frames := s.fab.frames }, flt := { t.flt with ump := { t.flt.ump with joinDone := s.flt.ump.joinDone, beaconAt := s.flt.ump.beaconAt } } }
        = s)
  ∧ (∀ (f : BitVec 256) (s : State), Rises s.dict → fKind f = 0x16 → s.fab.frames.contains (24, f) = true → fSrc f =
      s.umpireNow → bits f 127 120 = 0x15 → bits f 119 112 = 0 → s.memberState = 1 → s.flt.ump.forceDue = true → ∃ t, exec
      (.answerReceive f) s = .next t
      ∧ t.memberState = 2
      ∧ (t.flt.ump.forced, t.flt.ump.forceDue, t.flt.ump.askedAt) = (some (s.flt.ump.forced.getD s.time), false, s.time)
      ∧ (t.cores, t.mem, t.dies, t.banks) = (s.cores, s.mem, s.dies, s.banks))
  ∧ (∀ (f : BitVec 256) (s : State), fKind f = 0x16 → s.fab.frames.contains (24, f) = true → fSrc f = s.umpireNow → bits f 127
      120 = 0x15 → bits f 119 112 ≠ 0 → s.memberState = 1 → ∃ t, exec (.answerReceive f) s = .next t
      ∧ t.flt.ump.joinDone = true
      ∧ t.fab.frames = s.fab.frames.erase (24, f)
      ∧
        { t with fab := { t.fab with frames := s.fab.frames }, flt := { t.flt with ump := { t.flt.ump with joinDone := s.flt.ump.joinDone } } }
        = s)
  ∧ (∀ (f : BitVec 256) (s : State), TablesRise s → fKind f = 0x16 → s.fab.frames.contains (24, f) = true → fSrc f =
      s.umpireNow → bits f 127 120 = 0x14 → bits f 119 112 ≤ 1 → s.memberState = 2 → s.flt.ump.forced = none → s.obj 0x8000 3 ≠
      2 → ∃ t, exec (.answerReceive f) s = .next t
      ∧ t.obj 0x8000 3 = 2 - bits f 119 112
      ∧ t.flt.svc = true
      ∧ (t.flt.ump.goWait = (if bits f 119 112 = 0 then some s.time else s.flt.ump.goWait))
      ∧ (∀ d, d < 16 → t.die d = { s.die d with mhz := min (s.die d).mhz (min (min 1600 s.pwr.cap) (s.obj 0x8800 2)) })
      ∧ (t.flt.ump.goSent = (if bits f 119 112 = 0 then false else s.flt.ump.goSent))
      ∧ (∀ a b, a < 16 → b < 32 →
        { t.core a b with tc := { (t.core a b).tc with mcycle := (s.core a b).tc.mcycle, cycAt := (s.core a b).tc.cycAt } } =
        s.core a b ∨ s.clockCap < (s.die a).mhz ∨ s.obj 0x8800 2 < (s.die a).mhz)
      ∧ t.fab.frames = s.fab.frames.erase (24, f)
      ∧ t.flt.raised = s.flt.raised ++ (if s.verifyLevel = t.verifyLevel then [] else
        [⟨mkEvent 0x05 sevNote 24 0xFF (0x10 + t.verifyLevel) 0, s.gtNow⟩])
      ∧
        { t with dict := s.dict, cores := s.cores, dies := s.dies, fab := { t.fab with frames := s.fab.frames }, flt := { t.flt with svc := s.flt.svc, raised := s.flt.raised, ump := { t.flt.ump with goWait := s.flt.ump.goWait, goSent := s.flt.ump.goSent } } }
        = s)
  ∧ (∀ (f : BitVec 256) (s : State), fKind f = 0x16 → s.fab.frames.contains (24, f) = true → fSrc f = s.umpireNow → bits f 127
      120 = 0x14 → s.memberState = 2 → s.flt.ump.forced.isSome = true → ∃ t, exec (.answerReceive f) s = .next t
      ∧ t.flt.ump = { s.flt.ump with forced := none }
      ∧ t.flt.log = s.flt.log.map (fun kv => (kv.1, kv.2.map (fun e => { e with word := putBit e.word 217 false })))
      ∧ t.fab.frames = s.fab.frames.erase (24, f)
      ∧ { t with fab := { t.fab with frames := s.fab.frames }, flt := { t.flt with ump := s.flt.ump, log := s.flt.log } } = s)
  ∧ (∀ (f : BitVec 256) (s : State), fKind f = 0x16 → s.fab.frames.contains (24, f) = true → fSrc f = s.umpireNow → bits f 127
      120 = 0x14 → s.memberState = 2 → s.flt.ump.forced = none → (s.obj 0x8000 3 = 2 ∨ 1 < bits f 119 112) → ∃ t, exec
      (.answerReceive f) s = .next t
      ∧ t = { s with fab := { s.fab with frames := s.fab.frames.erase (24, f) } })
  ∧ (∀ (f : BitVec 256) (s : State), (fKind f ≠ 0x16 ∨ s.fab.frames.contains (24, f) = false) → ∃ t, exec (.answerReceive f) s
      = .next t
      ∧ t = s)
  ∧ (∀ (f : BitVec 256) (s : State), fKind f = 0x16 → s.fab.frames.contains (24, f) = true → (fSrc f ≠ s.umpireNow ∨ ((bits f
      127 120 ≠ 0x15 ∨ s.memberState ≠ 1) ∧ (bits f 127 120 ≠ 0x14 ∨ s.memberState ≠ 2))) → ∃ t, exec (.answerReceive f) s =
      .next t
      ∧ t = { s with fab := { s.fab with frames := s.fab.frames.erase (24, f) } })
  ∧ (∀ (f : BitVec 256) (s : State), Rises s.flt.ump.withdrawn → fKind f = 0x14 → s.fab.frames.contains (24, f) = true →
      s.isUmpire = true → s.flt.out.contains (fSrc f) = false → bit f 127 = false → mapGet 0 s.flt.ump.withdrawn (fSrc f) = 0 →
      s.regionOut (bits f 111 96) < s.regionCap (bits f 111 96) → fSrc f = s.moduleId → s.epoch < 2 ^ 32 → ∃ t, exec
      (.withdrawReceive f) s = .next t
      ∧ mapGet 0 t.flt.ump.withdrawn (fSrc f) = bits f 111 96 + 1
      ∧ (∀ k, k ≠ fSrc f → mapGet 0 t.flt.ump.withdrawn k = mapGet 0 s.flt.ump.withdrawn k)
      ∧ t.fab.frames = s.fab.frames.erase (24, f) ++ [(24, BitVec.ofNat 256 (field 248 0x16 + field 216 s.moduleId + field 200
        s.moduleId + field 128 s.epoch + field 120 0x14))]
      ∧
        { t with fab := { t.fab with frames := s.fab.frames }, flt := { t.flt with ump := { t.flt.ump with withdrawn := s.flt.ump.withdrawn } } }
        = s)
  ∧ (∀ (f : BitVec 256) (p : Nat) (s : State), Rises s.flt.ump.joined → Rises s.flt.ump.heldJoins → Rises s.flt.ump.withdrawn →
      fKind f = 0x14 → s.fab.frames.contains (24, f) = true → s.isUmpire = true → Routes s 0 0 (fSrc f) p → fSrc f < 0xFFFF →
      s.moduleId < 0x10000 → s.epoch < 2 ^ 32 → s.flt.out.contains (fSrc f) = false → bit f 127 = false → ((mapGet 0
      s.flt.ump.withdrawn (fSrc f) = 0 ∧ s.regionOut (bits f 111 96) < s.regionCap (bits f 111 96)) ∨ (mapGet 0
      s.flt.ump.withdrawn (fSrc f) ≠ 0 ∧ bit f 126 = false)) → ∃ t, exec (.withdrawReceive f) s = .next t
      ∧ LeftBy s t p (BitVec.ofNat 256 (field 248 0x16 + field 216 (fSrc f) + field 200 s.moduleId + field 128 s.epoch + field
        120 0x14))
      ∧ mapGet 0 t.flt.ump.withdrawn (fSrc f) = bits f 111 96 + 1
      ∧ (∀ k, k ≠ fSrc f → mapGet 0 t.flt.ump.withdrawn k = mapGet 0 s.flt.ump.withdrawn k)
      ∧ t.fab.frames = s.fab.frames.erase (24, f)
      ∧ KeepsObjects s t [objKey 0x5000 0x10]
      ∧
        { uncarried t s with ports := s.ports, out := s.out, dict := s.dict, fab := { t.fab with frames := s.fab.frames }, flt := { t.flt with ump := { t.flt.ump with withdrawn := s.flt.ump.withdrawn } } }
        = s)
  ∧ (∀ (f : BitVec 256) (s : State), fKind f = 0x14 → s.fab.frames.contains (24, f) = true → s.isUmpire = true →
      s.flt.out.contains (fSrc f) = false → bit f 127 = false → mapGet 0 s.flt.ump.withdrawn (fSrc f) = 0 → s.regionCap (bits f
      111 96) ≤ s.regionOut (bits f 111 96) → fSrc f = s.moduleId → s.epoch < 2 ^ 32 → ∃ t, exec (.withdrawReceive f) s = .next
      t
      ∧ t.fab.frames = s.fab.frames.erase (24, f) ++ [(24, BitVec.ofNat 256 (field 248 0x16 + field 216 s.moduleId + field 200
        s.moduleId + field 128 s.epoch + field 120 0x14 + field 112 1))]
      ∧ { t with fab := { t.fab with frames := s.fab.frames } } = s)
  ∧ (∀ (f : BitVec 256) (p : Nat) (s : State), Rises s.flt.ump.joined → Rises s.flt.ump.heldJoins → Rises s.flt.ump.withdrawn →
      fKind f = 0x14 → s.fab.frames.contains (24, f) = true → s.isUmpire = true → Routes s 0 0 (fSrc f) p → fSrc f < 0xFFFF →
      s.moduleId < 0x10000 → s.epoch < 2 ^ 32 → s.flt.out.contains (fSrc f) = false → bit f 127 = false → mapGet 0
      s.flt.ump.withdrawn (fSrc f) = 0 → s.regionCap (bits f 111 96) ≤ s.regionOut (bits f 111 96) → ∃ t, exec
      (.withdrawReceive f) s = .next t
      ∧ LeftBy s t p (BitVec.ofNat 256 (field 248 0x16 + field 216 (fSrc f) + field 200 s.moduleId + field 128 s.epoch + field
        120 0x14 + field 112 1))
      ∧ t.fab.frames = s.fab.frames.erase (24, f)
      ∧ KeepsObjects s t [objKey 0x5000 0x10]
      ∧
        { uncarried t s with ports := s.ports, out := s.out, dict := s.dict, fab := { t.fab with frames := s.fab.frames }, flt := { t.flt with ump := s.flt.ump } }
        = s)
  ∧ (∀ (f : BitVec 256) (s : State), TablesRise s → NoGroups s → IdsFit s → fKind f = 0x14 → s.fab.frames.contains (24, f) =
      true → s.isUmpire = true → s.flt.out.contains (fSrc f) = false → fSrc f ≠ s.moduleId → bit f 127 = false → bit f 126 =
      true → mapGet 0 s.flt.ump.withdrawn (fSrc f) ≠ 0 → ∃ t, exec (.withdrawReceive f) s = .next t
      ∧ ViewAt t ((s.epoch + 1) % 2 ^ 32) (setIns (fSrc f) s.flt.out)
      ∧ t.out = s.out ++ s.openPorts.map (fun p => sentOn s p (s.record true 2 (fSrc f) ((s.epoch + 1) % 2 ^ 32) 0))
      ∧ KeepsDies s t
      ∧ KeepsObjects s t [objKey 0x5000 2, objKey 0x8002 8]
      ∧ { unviewed t s with fab := { t.fab with frames := s.fab.frames } } = s)
  ∧ (∀ (f : BitVec 256) (s : State), TablesRise s → NoGroups s → Rises s.flt.ump.withdrawn → IdsFit s → fKind f = 0x14 →
      s.fab.frames.contains (24, f) = true → s.isUmpire = true → s.flt.out.contains (fSrc f) = false → fSrc f ≠ s.moduleId →
      bit f 127 = true → ∃ t, exec (.withdrawReceive f) s = .next t
      ∧ t.epoch = (s.epoch + 1) % 2 ^ 32
      ∧ t.flt.out = setIns (fSrc f) s.flt.out
      ∧ mapGet 0 t.flt.ump.withdrawn (fSrc f) = bits f 111 96 + 1
      ∧ ViewAt t ((s.epoch + 1) % 2 ^ 32) (setIns (fSrc f) s.flt.out)
      ∧ KeepsDies s t
      ∧ (t.cores, t.mem, t.banks) = (s.cores, s.mem, s.banks))
  ∧ (∀ (f : BitVec 256) (s : State), (fKind f ≠ 0x14 ∨ s.fab.frames.contains (24, f) = false) → ∃ t, exec (.withdrawReceive f)
      s = .next t
      ∧ t = s)
  ∧ (∀ (f : BitVec 256) (s : State), fKind f = 0x14 → s.fab.frames.contains (24, f) = true → (s.isUmpire = false ∨
      s.flt.out.contains (fSrc f) = true) → ∃ t, exec (.withdrawReceive f) s = .next t
      ∧ t = { s with fab := { s.fab with frames := s.fab.frames.erase (24, f) } })
  ∧ (∀ (v : BitVec 16) (s : State), TablesRise s → NoGroups s → IdsFit s → Writable s → s.isUmpire = true → s.flt.out.contains
      v.toNat = false → v ≠ 0xFFFF → v.toNat ≠ s.moduleId → ∃ t, exec (.fltSendOff v) s = .next t
      ∧ ViewAt t ((s.epoch + 1) % 2 ^ 32) (setIns v.toNat s.flt.out)
      ∧ t.out = s.out ++ s.openPorts.map (fun p => sentOn s p (s.record true 4 v.toNat ((s.epoch + 1) % 2 ^ 32) 0))
      ∧ t.sys.lastStatus = rpOk
      ∧ KeepsDies s t
      ∧ KeepsObjects s t [objKey 0x5000 2, objKey 0x8002 8]
      ∧ { unviewed t s with sys := { t.sys with lastStatus := s.sys.lastStatus } } = s)
  ∧ (∀ (v : BitVec 16) (s : State), Writable s → (s.isUmpire = false ∨ s.flt.out.contains v.toNat = true) → ∃ t, exec
      (.fltSendOff v) s = .next t
      ∧ t = { s with sys := { s.sys with lastStatus := rpState } })
  ∧ (∀ (v : BitVec 16) (s : State), Writable s → s.isUmpire = true → s.flt.out.contains v.toNat = false → v = 0xFFFF → ∃ t,
      exec (.fltSendOff v) s = .next t
      ∧ t = { s with sys := { s.sys with lastStatus := rpRange } })
  ∧ (∀ (v : BitVec 16) (s : State), TablesRise s → NoGroups s → IdsFit s → Writable s → Rises s.flt.ump.joined → Rises
      s.flt.ump.heldJoins → s.isUmpire = true → v ≠ 0xFFFF → mapGet 0 s.flt.ump.heldJoins v.toNat ≠ 0 → ∃ t, exec (.fltAdmit v)
      s = .next t
      ∧ t.epoch = (s.epoch + 1) % 2 ^ 32
      ∧ t.flt.out = s.flt.out.filter (· != v.toNat)
      ∧ mapGet 0 t.flt.ump.joined v.toNat = mapGet 0 s.flt.ump.heldJoins v.toNat
      ∧ mapGet 0 t.flt.ump.heldJoins v.toNat = 0
      ∧ t.sys.lastStatus = rpOk
      ∧ (t.cores, t.mem, t.banks) = (s.cores, s.mem, s.banks))
  ∧ (∀ (s : State), Writable s → s.isUmpire = true → s.flt.ump.heldJoins = [] → ∃ t, exec (.fltAdmit 0xFFFF) s = .next t
      ∧ t = { s with sys := { s.sys with lastStatus := rpOk } })
  ∧ (∀ (a b : Nat) (s : State), TablesRise s → NoGroups s → IdsFit s → Writable s → Rises s.flt.ump.joined → s.isUmpire = true
      → s.flt.ump.heldJoins.map (·.1) = [a, b] → Rises s.flt.ump.heldJoins → mapGet 0 s.flt.ump.heldJoins a ≠ 0 → mapGet 0
      s.flt.ump.heldJoins b ≠ 0 → ∃ t, exec (.fltAdmit 0xFFFF) s = .next t
      ∧ t.epoch = (s.epoch + 2) % 2 ^ 32
      ∧ t.flt.out = (s.flt.out.filter (· != a)).filter (· != b)
      ∧ (mapGet 0 t.flt.ump.joined a, mapGet 0 t.flt.ump.joined b) = (mapGet 0 s.flt.ump.heldJoins a, mapGet 0
        s.flt.ump.heldJoins b)
      ∧ (mapGet 0 t.flt.ump.heldJoins a, mapGet 0 t.flt.ump.heldJoins b) = (0, 0)
      ∧ t.sys.lastStatus = rpOk
      ∧ (t.cores, t.mem, t.banks) = (s.cores, s.mem, s.banks))
  ∧ (∀ (v : BitVec 16) (s : State), Writable s → (s.isUmpire = false ∨ (v ≠ 0xFFFF ∧ mapGet 0 s.flt.ump.heldJoins v.toNat = 0))
      → ∃ t, exec (.fltAdmit v) s = .next t
      ∧ t = { s with sys := { s.sys with lastStatus := rpState } })
  ∧ (∀ (v : BitVec 16) (s : State), Rises s.flt.ump.withdrawn → Writable s → s.isUmpire = true → ∃ t, exec (.fltWithdrawnClear
      v) s = .next t
      ∧ mapGet 0 t.flt.ump.withdrawn v.toNat = 0
      ∧ (∀ k, k ≠ v.toNat → mapGet 0 t.flt.ump.withdrawn k = mapGet 0 s.flt.ump.withdrawn k)
      ∧ t.sys.lastStatus = rpOk
      ∧
        { t with sys := { t.sys with lastStatus := s.sys.lastStatus }, flt := { t.flt with ump := { t.flt.ump with withdrawn := s.flt.ump.withdrawn } } }
        = s)
  ∧ (∀ (v : BitVec 16) (s : State), Writable s → s.isUmpire = false → ∃ t, exec (.fltWithdrawnClear v) s = .next t
      ∧ t = { s with sys := { s.sys with lastStatus := rpState } })
  ∧ (∀ (s : State), Writable s → s.obj 0x8000 3 = 2 → s.memberState = 2 → s.flt.ump.goSent = false → s.umpireNow = s.moduleId →
      s.moduleId < 0xFFFF → s.epoch < 2 ^ 32 → s.obj 0x8000 6 < 0x10000 → ∃ t, exec (.fltWithdrawGo 1) s = .next t
      ∧ t.fab.frames = s.fab.frames ++ [(24, BitVec.ofNat 256 (field 248 0x14 + field 216 s.moduleId + field 200 s.moduleId +
        field 128 s.epoch + field 126 1 + field 96 (s.obj 0x8000 6) + field 86 (s.obj 0x8000 4 % 1024)))]
      ∧ (t.flt.ump.goSent, t.sys.lastStatus) = (true, rpOk)
      ∧
        { t with sys := { t.sys with lastStatus := s.sys.lastStatus }, fab := { t.fab with frames := s.fab.frames }, flt := { t.flt with ump := { t.flt.ump with goSent := s.flt.ump.goSent, askedAt := s.flt.ump.askedAt } } }
        = s)
  ∧ (∀ (p : Nat) (s : State), Writable s → s.obj 0x8000 3 = 2 → s.memberState = 2 → s.flt.ump.goSent = false → Routes s 0 0
      s.umpireNow p → s.umpireNow < 0xFFFF → s.moduleId < 0x10000 → s.epoch < 2 ^ 32 → s.obj 0x8000 6 < 0x10000 → ∃ t, exec
      (.fltWithdrawGo 1) s = .next t
      ∧ LeftBy s t p (BitVec.ofNat 256 (field 248 0x14 + field 216 (s.umpireNow) + field 200 s.moduleId + field 128 s.epoch +
        field 126 1 + field 96 (s.obj 0x8000 6) + field 86 (s.obj 0x8000 4 % 1024)))
      ∧ (t.flt.ump.goSent, t.sys.lastStatus) = (true, rpOk)
      ∧ KeepsObjects s t [objKey 0x5000 0x10]
      ∧
        { uncarried t s with sys := { t.sys with lastStatus := s.sys.lastStatus }, ports := s.ports, out := s.out, dict := s.dict, flt := { t.flt with ump := { t.flt.ump with goSent := s.flt.ump.goSent, askedAt := s.flt.ump.askedAt } } }
        = s)
  ∧ (∀ (s : State), Writable s → s.obj 0x8000 3 = 2 → s.memberState = 2 → s.flt.ump.goSent = true → ∃ t, exec (.fltWithdrawGo
      1) s = .next t
      ∧ t = { s with sys := { s.sys with lastStatus := rpOk } })
  ∧ (∀ (v : BitVec 8) (s : State), Writable s → (v ≠ 1 ∨ s.obj 0x8000 3 ≠ 2 ∨ s.memberState ≠ 2) → ∃ t, exec (.fltWithdrawGo v)
      s = .next t
      ∧ t = { s with sys := { s.sys with lastStatus := if v = 1 then rpState else rpRange } })
  ∧ (∀ (s : State), Rises s.dict → ((s.obj 0x8000 3 = 0 ∧ (s.memberState ≠ 2 ∨ s.obj 0x8000 5 ≤ 1000 - s.penalty)) ∨ 2 ≤ s.obj
      0x8000 3 ∨ (s.obj 0x8000 3 = 1 ∧ (1000 - s.penalty < s.obj 0x8000 5 + 50 ∨ s.time < s.flt.calmSince.getD s.time + 60 *
      tickS))) → ∃ t, exec (.scoreRecompute) s = .next t
      ∧ t.obj 0x8000 4 = 1000 - s.penalty
      ∧ t.flt.recovered = s.flt.recovered.filter (fun x => decide (s.time - 86400 * tickS ≤ x))
      ∧ t.flt.advisory = s.flt.advisory.filter (fun x => decide (s.time - 86400 * tickS ≤ x))
      ∧ (t.flt.calmSince = (if s.obj 0x8000 5 + 50 ≤ 1000 - s.penalty then some (s.flt.calmSince.getD s.time) else none))
      ∧ KeepsObjects s t [objKey 0x8000 4]
      ∧
        { t with dict := s.dict, flt := { t.flt with recovered := s.flt.recovered, advisory := s.flt.advisory, calmSince := s.flt.calmSince } }
        = s)
  ∧ (∀ (s : State), Rises s.dict → s.memberState = 2 → s.obj 0x8000 3 = 0 → 1000 - s.penalty < s.obj 0x8000 5 → s.umpireNow =
      s.moduleId → s.moduleId < 0xFFFF → s.epoch < 2 ^ 32 → s.obj 0x8000 6 < 0x10000 → ∃ t, exec (.scoreRecompute) s = .next t
      ∧ t.obj 0x8000 4 = 1000 - s.penalty
      ∧ t.fab.frames = s.fab.frames ++ [(24, BitVec.ofNat 256 (field 248 0x14 + field 216 s.moduleId + field 200 s.moduleId +
        field 128 s.epoch + field 96 (s.obj 0x8000 6) + field 86 (1000 - s.penalty)))]
      ∧ t.flt.ump.askedAt = s.time
      ∧ KeepsObjects s t [objKey 0x8000 4]
      ∧
        { t with dict := s.dict, fab := { t.fab with frames := s.fab.frames }, flt := { t.flt with recovered := s.flt.recovered, advisory := s.flt.advisory, calmSince := s.flt.calmSince, ump := { t.flt.ump with askedAt := s.flt.ump.askedAt } } }
        = s)
  ∧ (∀ (p : Nat) (s : State), s.memberState = 2 → s.obj 0x8000 3 = 0 → 1000 - s.penalty < s.obj 0x8000 5 → Routes s 0 0
      s.umpireNow p → s.umpireNow < 0xFFFF → s.moduleId < 0x10000 → s.epoch < 2 ^ 32 → s.obj 0x8000 6 < 0x10000 → ∃ t, exec
      (.scoreRecompute) s = .next t
      ∧ LeftBy s t p (BitVec.ofNat 256 (field 248 0x14 + field 216 (s.umpireNow) + field 200 s.moduleId + field 128 s.epoch +
        field 96 (s.obj 0x8000 6) + field 86 (1000 - s.penalty)))
      ∧ t.obj 0x8000 4 = 1000 - s.penalty
      ∧ t.flt.ump.askedAt = s.time
      ∧ KeepsObjects s t [objKey 0x8000 4, objKey 0x5000 0x10]
      ∧
        { uncarried t s with ports := s.ports, out := s.out, dict := s.dict, flt := { t.flt with recovered := s.flt.recovered, advisory := s.flt.advisory, calmSince := s.flt.calmSince, ump := { t.flt.ump with askedAt := s.flt.ump.askedAt } } }
        = s)
  ∧ (∀ (c : Nat) (s : State), Rises s.dict → s.obj 0x8000 3 = 1 → s.obj 0x8000 5 + 50 ≤ 1000 - s.penalty → s.flt.calmSince =
      some c → c + 60 * tickS ≤ s.time → ∃ t, exec (.scoreRecompute) s = .next t
      ∧ t.obj 0x8000 3 = 0
      ∧ t.flt.svc = false
      ∧ KeepsObjects s t [objKey 0x8000 4, objKey 0x8000 3]
      ∧ (t.cores, t.mem, t.dies) = (s.cores, s.mem, s.dies))
  ∧ (∀ (s : State), s.obj 0x8000 3 = 1 → s.memberState = 2 → s.obj 0x8000 4 < s.obj 0x8000 5 → s.flt.ump.askedAt + 10 * tickS ≤
      s.time → s.umpireNow = s.moduleId → s.moduleId < 0xFFFF → s.epoch < 2 ^ 32 → s.obj 0x8000 6 < 0x10000 → ∃ t, exec
      (.withdrawRetry) s = .next t
      ∧ t.fab.frames = s.fab.frames ++ [(24, BitVec.ofNat 256 (field 248 0x14 + field 216 s.moduleId + field 200 s.moduleId +
        field 128 s.epoch + field 96 (s.obj 0x8000 6) + field 86 (s.obj 0x8000 4 % 1024)))]
      ∧ t.flt.ump.askedAt = s.time
      ∧
        { t with fab := { t.fab with frames := s.fab.frames }, flt := { t.flt with ump := { t.flt.ump with askedAt := s.flt.ump.askedAt } } }
        = s)
  ∧ (∀ (p : Nat) (s : State), s.obj 0x8000 3 = 1 → s.memberState = 2 → s.obj 0x8000 4 < s.obj 0x8000 5 → s.flt.ump.askedAt + 10
      * tickS ≤ s.time → Routes s 0 0 s.umpireNow p → s.umpireNow < 0xFFFF → s.moduleId < 0x10000 → s.epoch < 2 ^ 32 → s.obj
      0x8000 6 < 0x10000 → ∃ t, exec (.withdrawRetry) s = .next t
      ∧ LeftBy s t p (BitVec.ofNat 256 (field 248 0x14 + field 216 (s.umpireNow) + field 200 s.moduleId + field 128 s.epoch +
        field 96 (s.obj 0x8000 6) + field 86 (s.obj 0x8000 4 % 1024)))
      ∧ t.flt.ump.askedAt = s.time
      ∧ KeepsObjects s t [objKey 0x5000 0x10]
      ∧
        { uncarried t s with ports := s.ports, out := s.out, dict := s.dict, flt := { t.flt with ump := { t.flt.ump with askedAt := s.flt.ump.askedAt } } }
        = s)
  ∧ (∀ (s : State), (s.obj 0x8000 3 ≠ 1 ∨ s.memberState ≠ 2 ∨ s.obj 0x8000 5 ≤ s.obj 0x8000 4 ∨ s.time < s.flt.ump.askedAt + 10
      * tickS) → ∃ t, exec (.withdrawRetry) s = .next t
      ∧ t = s)
  ∧ (∀ (c : Nat) (s : State), s.flt.ump.goWait = some c → s.obj 0x8000 3 = 2 → s.memberState = 2 → s.flt.ump.goSent = false → c
      + s.obj 0x8800 3 * tickS ≤ s.time → s.umpireNow = s.moduleId → s.moduleId < 0xFFFF → s.epoch < 2 ^ 32 → s.obj 0x8000 6 <
      0x10000 → ∃ t, exec (.withdrawWaitExpire) s = .next t
      ∧ t.fab.frames = s.fab.frames ++ [(24, BitVec.ofNat 256 (field 248 0x14 + field 216 s.moduleId + field 200 s.moduleId +
        field 128 s.epoch + field 126 1 + field 96 (s.obj 0x8000 6) + field 86 (s.obj 0x8000 4 % 1024)))]
      ∧ t.flt.ump.goSent = true
      ∧
        { t with fab := { t.fab with frames := s.fab.frames }, flt := { t.flt with ump := { t.flt.ump with goSent := s.flt.ump.goSent, askedAt := s.flt.ump.askedAt } } }
        = s)
  ∧ (∀ (p c : Nat) (s : State), s.flt.ump.goWait = some c → s.obj 0x8000 3 = 2 → s.memberState = 2 → s.flt.ump.goSent = false →
      c + s.obj 0x8800 3 * tickS ≤ s.time → Routes s 0 0 s.umpireNow p → s.umpireNow < 0xFFFF → s.moduleId < 0x10000 → s.epoch
      < 2 ^ 32 → s.obj 0x8000 6 < 0x10000 → ∃ t, exec (.withdrawWaitExpire) s = .next t
      ∧ LeftBy s t p (BitVec.ofNat 256 (field 248 0x14 + field 216 (s.umpireNow) + field 200 s.moduleId + field 128 s.epoch +
        field 126 1 + field 96 (s.obj 0x8000 6) + field 86 (s.obj 0x8000 4 % 1024)))
      ∧ (t.flt.ump.goSent, t.flt.ump.askedAt) = (true, s.time)
      ∧ KeepsObjects s t [objKey 0x5000 0x10]
      ∧
        { uncarried t s with ports := s.ports, out := s.out, dict := s.dict, flt := { t.flt with ump := { t.flt.ump with goSent := s.flt.ump.goSent, askedAt := s.flt.ump.askedAt } } }
        = s)
  ∧ (∀ (s : State), s.flt.ump.goWait.all (fun c => s.obj 0x8000 3 != 2 || s.memberState != 2 || s.flt.ump.goSent || decide
      (s.time < c + s.obj 0x8800 3 * tickS)) = true → ∃ t, exec (.withdrawWaitExpire) s = .next t
      ∧ t = s)
  ∧ (∀ (c : Nat) (s : State), TablesRise s → NoCollective s → s.flt.ump.forced = some c → c + tickMs ≤ s.time → s.memberState ≠
      3 → ∃ t, exec (.forcedWithdrawTimeout) s = .next t
      ∧ FencedBy t 3
      ∧ t.flt.ump.forced = none
      ∧ (t.mem, t.dies, t.banks) = (s.mem, s.dies, s.banks))
  ∧ (∀ (s : State), s.flt.ump.forced.all (fun c => decide (s.time < c + tickMs)) = true → ∃ t, exec (.forcedWithdrawTimeout) s
      = .next t
      ∧ t = s)
  ∧ (∀ (c : Nat) (s : State), s.flt.ump.forced = some c → c + tickMs ≤ s.time → s.memberState = 3 → ∃ t, exec
      (.forcedWithdrawTimeout) s = .next t
      ∧ t =
        { s with flt := { s.flt with ump := { s.flt.ump with forced := none }, log := s.flt.log.map (fun kv => (kv.1, kv.2.map (fun e => { e with word := putBit e.word 217 false }))) } })

/-- R429 and R430: with the step log enabled a write of n is accepted when n is the last step plus 1 or none has been
committed, another n is refused and logged as SOFT; it waits while a mirror is in progress; an accepted step is copied,
as whole tiles with class 2, to the same die of the buddy; when all is answered STEP_STATUS shows it mirrored, or
BUDDY_LOST with an ADVISORY entry; a commit that waited then goes on. -/
def Obligations.StepsCommitAndMirror : Prop :=
  (∀ (d : Fin 16) (n : BitVec 64) (s : State), s.dieRuns d = true → s.obj 0x8200 1 = 0 → ∃ t, exec (.stepCommit d n) s =
      .next t
      ∧ t = s)
  ∧ (∀ (d : Fin 16) (n : BitVec 64) (s : State), Rises s.dies → (s.die d).everActive = true → s.dieRuns d = false → (s.die
      d).pstate ≠ 5 → ∃ t, exec (.stepCommit d n) s = .next t
      ∧ (t.die d).heldActs = (s.die d).heldActs ++ [.local_ 0x080400013010 .host false (.write (toBytes 8 n.toNat))]
      ∧ (t.die d).asked = some ((s.die d).asked.getD s.time)
      ∧ { t.die d with heldActs := (s.die d).heldActs, asked := (s.die d).asked } = s.die d
      ∧ (∀ k, k ≠ d.val → t.die k = s.die k)
      ∧ { t with dies := s.dies } = s)
  ∧ (∀ (d : Fin 16) (n : BitVec 64) (s : State), ((s.die d).everActive = false ∨ (s.die d).pstate = 5) → ∃ t, exec (.stepCommit
      d n) s = .next t
      ∧ t = s)
  ∧ (∀ (d : Fin 16) (n : BitVec 64) (s : State), s.dieRuns d = true → s.obj 0x8200 1 = 1 → (s.die d).step.any = true → n ≠
      (s.die d).step.last + 1 → ∃ t, exec (.stepCommit d n) s = .next t
      ∧ t = { s with flt := { s.flt with raised := s.flt.raised ++ [⟨softEvent d 0xFF 0 n.toNat, s.gtNow⟩] } })
  ∧ (∀ (d : Fin 16) (n : BitVec 64) (m : BitVec 64) (s : State), Rises s.dies → s.dieRuns d = true → s.obj 0x8200 1 = 1 →
      (s.die d).step.any = true → n = (s.die d).step.last + 1 → (s.die d).step.busy = some m → ∃ t, exec (.stepCommit d n) s =
      .next t
      ∧ (t.die d).step = { (s.die d).step with wait := some n }
      ∧ { t.die d with step := (s.die d).step } = s.die d
      ∧ (∀ k, k ≠ d.val → t.die k = s.die k)
      ∧ { t with dies := s.dies } = s)
  ∧ (∀ (d : Fin 16) (n : BitVec 64) (s : State), Rises s.dies → s.dieRuns d = true → s.obj 0x8200 1 = 1 → ((s.die d).step.any =
      true → n = (s.die d).step.last + 1) → (s.die d).step.busy = none → 4096 ≤ s.obj 0x8200 4 → s.buddyIn = false → ∃ t, exec
      (.stepCommit d n) s = .next t
      ∧ (t.die d).step =
        { (s.die d).step with last := n, any := true, wait := none, busy := some n, failed := true, todo := [] }
      ∧ { t.die d with step := (s.die d).step } = s.die d
      ∧ (∀ k, k ≠ d.val → t.die k = s.die k)
      ∧ { t with dies := s.dies } = s)
  ∧ (∀ (d : Fin 16) (n : BitVec 64) (m : Fin 32768) (s : State), TablesRise s → Rises (s.die d).txns → s.dieRuns d = true →
      s.obj 0x8200 1 = 1 → ((s.die d).step.any = true → n = (s.die d).step.last + 1) → (s.die d).step.busy = none → s.obj
      0x8200 2 ≠ 0 → s.obj 0x8200 4 = 4096 → s.buddyIn = true → s.freeTxn d = some m.val → (s.die d).step.base.toNat + n.toNat
      % s.obj 0x8200 2 * 4096 + 4096 ≤ 2 ^ 44 → (s.die d).step.mirror.toNat + n.toNat % s.obj 0x8200 2 * 4096 + 4096 ≤ 2 ^ 44 →
      s.obj 0x8200 3 < 0x10000 → ∃ t, exec (.stepCommit d n) s = .next t
      ∧ (t.die d).step =
        { (s.die d).step with last := n, any := true, wait := none, busy := some n, failed := false, todo := [] }
      ∧ (t.txn d m).map (fun x => (x.kind, x.pkt.op, x.pkt.cls, x.pkt.tile)) = some (.mirror, 2, 2, true)
      ∧ (t.txn d m).map (fun x => (x.pkt.dstModule.toNat, x.pkt.dstDie.toNat, x.pkt.addr.toNat)) = some (s.obj 0x8200 3, d.val,
        (s.die d).step.mirror.toNat + n.toNat % s.obj 0x8200 2 * 4096)
      ∧ (t.txn d m).map (·.pkt.payload) = some (s.bytes d ((s.die d).step.base.toNat + n.toNat % s.obj 0x8200 2 * 4096) 4096)
      ∧ (∀ k, k ≠ m.val → t.txn d k = s.txn d k)
      ∧ (t.cores, t.mem, t.flt) = (s.cores, s.mem, s.flt))
  ∧ (∀ (d : Fin 16) (n : BitVec 64) (s : State), Rises s.dies → (s.die d).step.busy = some n → (s.die d).step.failed = false →
      (s.die d).step.wait = none → s.mirrorOpen d = false → ∃ t, exec (.stepMirrorDone d true) s = .next t
      ∧ (t.die d).step = { (s.die d).step with busy := none, buddyLost := false, mirrored := n.setWidth 62 }
      ∧ { t.die d with step := (s.die d).step } = s.die d
      ∧ (∀ k, k ≠ d.val → t.die k = s.die k)
      ∧ { t with dies := s.dies } = s)
  ∧ (∀ (d : Fin 16) (n : BitVec 64) (s : State), Rises s.dies → (s.die d).step.busy = some n → (s.die d).step.failed = true →
      (s.die d).step.wait = none → s.mirrorOpen d = false → ∃ t, exec (.stepMirrorDone d false) s = .next t
      ∧ (t.die d).step = { (s.die d).step with busy := none, failed := false, buddyLost := true }
      ∧ t.flt.raised = s.flt.raised ++ [⟨mkEvent 0x11 sevAdvisory d 0xFF 0 n.toNat, s.gtNow⟩]
      ∧ { t.die d with step := (s.die d).step } = s.die d
      ∧ (∀ k, k ≠ d.val → t.die k = s.die k)
      ∧ { t with dies := s.dies, flt := { t.flt with raised := s.flt.raised } } = s)
  ∧ (∀ (d : Fin 16) (ok : Bool) (s : State), ((s.die d).step.busy = none ∨ s.mirrorOpen d = true ∨ ok = (s.die d).step.failed)
      → ∃ t, exec (.stepMirrorDone d ok) s = .next t
      ∧ t = s)
  ∧ (∀ (d : Fin 16) (n m : BitVec 64) (s : State), Rises s.dies → (s.die d).step.busy = some n → (s.die d).step.failed = false
      → (s.die d).step.wait = some m → s.mirrorOpen d = false → s.buddyIn = false → 4096 ≤ s.obj 0x8200 4 → ∃ t, exec
      (.stepMirrorDone d true) s = .next t
      ∧ (t.die d).step =
        { (s.die d).step with last := m, any := true, wait := none, busy := some m, failed := true, todo := [], buddyLost := false, mirrored := n.setWidth 62 }
      ∧ (∀ k, k ≠ d.val → t.die k = s.die k)
      ∧ { t with dies := s.dies } = s)

/-- R506: a PROVE that fails raises a NOTE with SOFT at site 0x18 and adds one to SEC.AUTH_FAILURES; while fewer than five
stand within the last 60 s the slot stays open; the fifth locks it until 60 s later and raises one ADVISORY; a locked
slot refuses PROVE with AUTH, counting nothing; 60 s later the lock falls. Key slots are 0 to 7, password slots 8 to 11.
-/
def Obligations.FailuresLockSlots : Prop :=
  (∀ (r : MReq) (s : State), TablesRise s → Rises s.sec.fails → Serves s r.transport → r.session = 0 → r.payload.length = 65
      → ofBytes (r.payload.take 1) < 8 → mapGet 0 s.sec.locked (ofBytes (r.payload.take 1)) = 0 → (s.slotRole 1 (ofBytes
      (r.payload.take 1)) = 0xFF ∨ (s.sec.nonces.filter (fun n => n.method == 1 && n.slot == ofBytes (r.payload.take 1) &&
      decide (s.time ≤ n.at_ + 10 * tickS))).all (fun n => !(Config.edVerify (toBytes 32 (s.slotSecret 1 (ofBytes
      (r.payload.take 1)))) (proveMessage n r.transport) (r.payload.drop 1))) = true) → ((mapGet [] s.sec.fails (ofBytes
      (r.payload.take 1))).filter (fun x => decide (s.time < x + 60 * tickS))).length < 4 → s.obj 0x9000 4 + 1 < 2 ^ 32 → ∃ t,
      exec (.proveKey r) s = .next t
      ∧ t.flt.raised = s.flt.raised ++ [⟨mkEvent 0x18 sevNote 24 (ofBytes (r.payload.take 1)) 0 0 true, s.gtNow⟩]
      ∧ t.obj 0x9000 4 = s.obj 0x9000 4 + 1
      ∧ mapGet [] t.sec.fails (ofBytes (r.payload.take 1)) = (mapGet [] s.sec.fails (ofBytes (r.payload.take 1))).filter (fun x
        => decide (s.time < x + 60 * tickS)) ++ [s.time]
      ∧ t.sec.locked = s.sec.locked
      ∧ t.sys.sessions = s.sys.sessions)
  ∧ (∀ (r : MReq) (s : State), TablesRise s → Rises s.sec.fails → Serves s r.transport → r.session = 0 → r.payload.length = 65
      → ofBytes (r.payload.take 1) < 8 → mapGet 0 s.sec.locked (ofBytes (r.payload.take 1)) = 0 → (s.slotRole 1 (ofBytes
      (r.payload.take 1)) = 0xFF ∨ (s.sec.nonces.filter (fun n => n.method == 1 && n.slot == ofBytes (r.payload.take 1) &&
      decide (s.time ≤ n.at_ + 10 * tickS))).all (fun n => !(Config.edVerify (toBytes 32 (s.slotSecret 1 (ofBytes
      (r.payload.take 1)))) (proveMessage n r.transport) (r.payload.drop 1))) = true) → 4 ≤ ((mapGet [] s.sec.fails (ofBytes
      (r.payload.take 1))).filter (fun x => decide (s.time < x + 60 * tickS))).length → s.obj 0x9000 4 + 1 < 2 ^ 32 → ∃ t, exec
      (.proveKey r) s = .next t
      ∧ t.flt.raised.drop s.flt.raised.length = [⟨mkEvent 0x18 sevNote 24 (ofBytes (r.payload.take 1)) 0 0 true, s.gtNow⟩,
        ⟨mkEvent 0x18 sevAdvisory 24 (ofBytes (r.payload.take 1)) 2 0, s.gtNow⟩]
      ∧ t.obj 0x9000 4 = s.obj 0x9000 4 + 1
      ∧ mapGet 0 t.sec.locked (ofBytes (r.payload.take 1)) = s.time + 60 * tickS + 1
      ∧ (∀ k, k ≠ ofBytes (r.payload.take 1) → mapGet 0 t.sec.locked k = mapGet 0 s.sec.locked k)
      ∧ t.sys.sessions = s.sys.sessions)
  ∧ (∀ (r : MReq) (s : State), Serves s r.transport → r.session = 0 → r.payload.length = 65 → ofBytes (r.payload.take 1) < 8 →
      mapGet 0 s.sec.locked (ofBytes (r.payload.take 1)) ≠ 0 → ∃ t, exec (.proveKey r) s = .next t
      ∧ .mihimel r.transport (frameBytes 0x02 r true r.more rpAuth []) ∈ t.out
      ∧ { t with host := s.host, out := s.out } = s)
  ∧ (∀ (r : MReq) (s : State), TablesRise s → Rises s.sec.fails → Serves s r.transport → r.session = 0 → 2 ≤ r.payload.length →
      r.payload.length ≤ 65 → ofBytes (r.payload.take 1) < 4 → mapGet 0 s.sec.locked (8 + ofBytes (r.payload.take 1)) = 0 →
      (s.slotRole 2 (ofBytes (r.payload.take 1)) = 0xFF ∨ (s.sec.nonces.all (fun n => n.method != 2 || n.slot != ofBytes
      (r.payload.take 1) || decide (n.at_ + 10 * tickS < s.time)) = true ∨ Config.sha512 ((toBytes 80 (s.slotSecret 2 (ofBytes
      (r.payload.take 1)))).take 16 ++ r.payload.drop 1) ≠ (toBytes 80 (s.slotSecret 2 (ofBytes (r.payload.take 1)))).drop 16))
      → s.obj 0x9000 4 + 1 < 2 ^ 32 → ∃ t, exec (.provePassword r) s = .next t
      ∧ (t.flt.raised.drop s.flt.raised.length).head? = some
        ⟨mkEvent 0x18 sevNote 24 (8 + ofBytes (r.payload.take 1)) 0 0 true, s.gtNow⟩
      ∧ t.obj 0x9000 4 = s.obj 0x9000 4 + 1
      ∧ (mapGet 0 t.sec.locked (8 + ofBytes (r.payload.take 1)) = if 4 ≤ ((mapGet [] s.sec.fails (8 + ofBytes (r.payload.take
        1))).filter (fun x => decide (s.time < x + 60 * tickS))).length then s.time + 60 * tickS + 1 else 0)
      ∧ t.sys.sessions = s.sys.sessions)
  ∧ (∀ (n : Fin 8) (s : State), Rises s.sec.locked → mapGet 0 s.sec.locked (n.val) ≠ 0 → mapGet 0 s.sec.locked (n.val) ≤ s.time
      + 1 → ∃ t, exec (.slotLockoutEnd (.key n)) s = .next t
      ∧ mapGet 0 t.sec.locked (n.val) = 0
      ∧ (∀ k, k ≠ n.val → mapGet 0 t.sec.locked k = mapGet 0 s.sec.locked k)
      ∧ { t with sec := { t.sec with locked := s.sec.locked } } = s)

/-- R507: OPEN_LOCAL in the mailbox opens a session with the role SEC.MAILBOX_ROLE; with that object at 0xFF it is refused
with AUTH; on the service port it is always refused with AUTH; the default of the object is Owner (3). -/
def Obligations.LocalSessionsTakeTheMailboxRole : Prop :=
  (∀ (r : MReq) (k : Nat) (s : State), Rises s.sys.sessions → Serves s .mailbox → r.transport = .mailbox → r.session = 0 →
      r.payload = [] → s.obj 0x9000 5 ≠ 0xFF → s.freeSession = some k → ∃ t, exec (.openLocal r) s = .next t
      ∧ (t.session k).map (fun x => (x.transport, x.role)) = some (.mailbox, s.obj 0x9000 5)
      ∧ .mihimel .mailbox (frameBytes 0x04 r true r.more rpOk (toBytes 1 (k + 1) ++ toBytes 1 (s.obj 0x9000 5))) ∈ t.out.drop
        s.out.length
      ∧ (∀ j, j ≠ k → t.session j = s.session j)
      ∧ { t with sys := { t.sys with sessions := s.sys.sessions }, host := s.host, out := s.out } = s)
  ∧ (∀ (r : MReq) (s : State), Serves s .mailbox → r.transport = .mailbox → r.session = 0 → r.payload = [] → s.obj 0x9000 5 =
      0xFF → ∃ t, exec (.openLocal r) s = .next t
      ∧ .mihimel .mailbox (frameBytes 0x04 r true r.more rpAuth []) ∈ t.out.drop s.out.length
      ∧ { t with host := s.host, out := s.out } = s)
  ∧ (∀ (r : MReq) (s : State), Serves s .service → r.transport = .service → r.session = 0 → r.payload = [] → ∃ t, exec
      (.openLocal r) s = .next t
      ∧ t = { s with out := s.out ++ [.mihimel .service (frameBytes 0x04 r true r.more rpAuth [])] })
  ∧ (∀ (r : MReq) (s : State), Serves s .mailbox → r.transport = .mailbox → r.session = 0 → r.payload = [] → mapGet (objDefault
      0x9000 5) s.dict (objKey 0x9000 5) = objDefault 0x9000 5 → Rises s.sys.sessions → s.sys.sessions = [] → ∃ t, exec
      (.openLocal r) s = .next t
      ∧ (t.session 0).map (·.role) = some 3)

/-- R481: a READ of an RO object answers ROLE where the session's role lies below the object's Role, and its value
otherwise; an RW object is read with any role; a WO object answers WRITE_ONLY to every session; a WRITE to an RW or WO
object answers ROLE below the object's Role, with no other effect, and from it up is judged by the object's own rules. -/
def Obligations.RolesDecideAccess : Prop :=
  (∀ (r : MReq) (x : Machine.Session) (o : ObjRow) (s : State), Rises s.sys.sessions → NextRequest s r x → r.payload = [] →
      objAt r.index.toNat r.sub.toNat = some o → objSize o.ty ≤ 1024 → (o.acc = .rw ∨ (o.acc = .ro ∧ o.role.code ≤ x.role)) → ∃
      t, exec (.read r) s = .next t
      ∧ .mihimel r.transport (frameBytes 0x10 r true r.more rpOk (s.objBytes r.index.toNat r.sub.toNat)) ∈ t.out.drop
        s.out.length
      ∧ { t with sys := { t.sys with sessions := s.sys.sessions }, host := s.host, out := s.out } = s)
  ∧ (∀ (r : MReq) (x : Machine.Session) (o : ObjRow) (s : State), Rises s.sys.sessions → NextRequest s r x → r.payload = [] →
      objAt r.index.toNat r.sub.toNat = some o → (o.acc = .wo ∨ (o.acc = .ro ∧ x.role < o.role.code)) → ∃ t, exec (.read r) s =
      .next t
      ∧ .mihimel r.transport (frameBytes 0x10 r true r.more (if o.acc = .wo then rpWriteOnly else rpRole) []) ∈ t.out.drop
        s.out.length
      ∧ { t with sys := { t.sys with sessions := s.sys.sessions }, host := s.host, out := s.out } = s)
  ∧ (∀ (r : MReq) (x : Machine.Session) (o : ObjRow) (s : State), Rises s.sys.sessions → NextRequest s r x → r.payload.length ≤
      1024 → objAt r.index.toNat r.sub.toNat = some o → o.acc ≠ .ro → x.role < o.role.code → ∃ t, exec (.write r) s = .next t
      ∧ .mihimel r.transport (frameBytes 0x11 r true r.more rpRole []) ∈ t.out.drop s.out.length
      ∧ { t with sys := { t.sys with sessions := s.sys.sessions }, host := s.host, out := s.out } = s)
  ∧ (∀ (r : MReq) (x : Machine.Session) (o : ObjRow) (s : State), Rises s.sys.sessions → NextRequest s r x → r.payload.length =
      objSize o.ty → r.payload.length ≤ 1024 → objAt r.index.toNat r.sub.toNat = some o → o.acc ≠ .ro → o.role.code ≤ x.role →
      r.index ≠ 0x1010 → r.index ≠ 0x1800 → r.index ≠ 0xB102 → ∃ t, exec (.write r) s = .next t
      ∧ (∃ (w u : State) (st : Nat), w.dict = s.dict ∧ st = (w.objWrite o r.sub.toNat (ofBytes r.payload)).1 ∧ st ≠ rpRole ∧ st
        ≠ rpReadOnly ∧ t = u.mhReply 0x11 r st [] r.more))

/-- A step with command c at the front of the queue is exec of c on the state with the queue's rest; with an empty queue
the block idles and one tick of 1/256 ns of module time passes, nothing else (DESIGN CHOICE, log entry 2). -/
def Obligations.StepRunsFrontCommand : Prop :=
 (∀ (c : Instr) (q : List Instr) (s : State), step { s with pending := c :: q } = exec c { s with pending := q })
  ∧ (∀ s : State, s.pending = [] → step s = .next { s with time := s.time + 1 })

/-- No command faults and none is refused: the spec gives each an effect in every state, which for an event whose
conditions do not hold is none. -/
def Obligations.EveryCommandAnswers : Prop :=
 ∀ (c : Instr) (s : State), ∃ t, exec c s = .next t

/-- R11, R77, R136, R163, R411, R422, R529: at reset no command waits, memory lists nothing and every tile is UNTAGGED,
every queue is disabled and empty, every tidy core is stopped, accumulators and vector registers are in their reset
state, the module has no ID, epoch 0 and is UNJOINED, no controller holds the ball, no session is open, start-up stands
at step 0 and every object reads its default. Registers without a stated reset value hold 0 (DESIGN CHOICE, log entry 1);
reset is the instant power is applied (log entry 4). -/
def Obligations.ResetLeaves : Prop :=
 State.reset.pending = [] ∧ State.reset.mem = [] ∧ (∀ d a, State.reset.byte d a = 0) ∧ (∀ d a, (State.reset.tile d a).st = .untagged)
  ∧ (∀ d c e, ((State.reset.core d c).q e).enable = false ∧ ((State.reset.core d c).q e).acc = [] ∧ ((State.reset.core d c).q e).run = [])
  ∧ (∀ d c, (State.reset.core d c).tc.st = .stopped ∧ (State.reset.core d c).acc = [] ∧ (State.reset.core d c).vx.regs = [])
  ∧ State.reset.moduleId = 0xFFFF ∧ State.reset.epoch = 0 ∧ State.reset.memberState = 0 ∧ State.reset.umpireNow = 0xFFFF
  ∧ State.reset.sys.ball = none ∧ (∀ k, State.reset.session k = none) ∧ State.reset.bootStep = 0
  ∧ (∀ idx sub, State.reset.obj idx sub = objDefault idx sub)

/-- At reset memory has its canonical form, the keys of every table rise, the queue holds no ill-formed command, and no
session is numbered past 4 (R489). -/
def Obligations.ResetMeetsInvariants : Prop :=
 SafeState State.reset ∧ KeysRise State.reset ∧ FourSessions State.reset ∧ (∀ d, DieRises (State.reset.die d))
  ∧ (∀ d c, CoreRises (State.reset.core d c)) ∧ (∀ b, BankRises (State.reset.bank b))

/-- Commands come from outside alone: whatever a command does, the commands that wait stay as they are, so a step takes
exactly the front one off the queue, and a queue of well-formed commands stays one. -/
def Obligations.CommandsKeepTheQueue : Prop :=
 (∀ (c : Instr) (s t : State), exec c s = .next t → t.pending = s.pending)
  ∧ (∀ (c : Instr) (q : List Instr) (s t : State), step { s with pending := c :: q } = .next t → t.pending = q)
  ∧ (∀ s t : State, QueueOk s → step s = .next t → QueueOk t)

/-- R9, R31 to R34, R173, R214: whatever command runs, in any state in which memory has its canonical form, memory has it
afterwards: addresses rise strictly and no listed byte is what an unlisted one reads as, so equal memories are equal
data. -/
def Obligations.MemoryStaysCanonical : Prop :=
 ∀ s t : State, Memory.wf s.mem = true → step s = .next t → Memory.wf t.mem = true

/-- The module's tables (tiles, cores, dies, light dies, banks, ports, spokes, the dictionary, bundles, the error log,
sessions and the others) list each key once, in rising order, after every step from a state in which they do; so a value
stored is the value read back (R9, R480). -/
def Obligations.TablesStayRising : Prop :=
 ∀ s t : State, KeysRise s → step s = .next t → KeysRise t

/-- R489: the module holds at most 4 sessions across both transports, numbered from 1 to 4: every step from a state in
which this holds leaves a state in which it holds. -/
def Obligations.SessionsStayFour : Prop :=
 ∀ s t : State, FourSessions s → step s = .next t → FourSessions t

/-- R421: a fenced module leaves the fence only through MOD_RESET_N or power-off, and no object lifts it. Whatever else is
commanded of a fenced module, it is fenced afterwards; MOD_RESET_N, while the module has power, leaves it UNJOINED. The
analogue trip takes every rail off (R463) and counts as power-off; so does an input below 40 V, where the steward itself
stops (log entry 110). -/
def Obligations.FenceStands : Prop :=
 (∀ (c : Instr) (s t : State), s.fenced = true → c ≠ .powerApplied → c ≠ .modResetAssert → c ≠ .analogueTrip →
      (∀ mv a b p i : Nat, c = .inputMonitor mv a b p i → 40000 ≤ mv) → exec c s = .next t → t.fenced = true)
  ∧ (∀ s : State, s.boot.off = false → Rises s.flash.fixed → mapGet 0 s.flash.fixed (objKey 0x8000 1) = 0 →
      ∃ t, exec .modResetAssert s = .next t ∧ t.memberState = 0)

/-- R487, R488 and Table 4 of ch.18: the frame made of a TYPE, a session, a counter, an object, an offset, MORE and a
payload, with its CRC-32C, is read back as exactly these, on the service port and in the mailbox, whatever follows it in
the mailbox buffer. Every TYPE, field value and payload of a length LENGTH can hold is covered. -/
def Obligations.MihimelFramesRoundTrip : Prop :=
 (∀ (ty : Nat) (r : MReq) (reply more : Bool) (st : Nat), ty < 256 → r.payload.length < 2 ^ 16 →
      parseFrame .service (frameBytes ty r reply more st r.payload) = some (ty, reply, { r with transport := .service, more := more }))
  ∧ (∀ (ty : Nat) (r : MReq) (reply more : Bool) (st : Nat) (rest : List Byte), ty < 256 → r.payload.length < 2 ^ 16 →
      parseFrame .mailbox (frameBytes ty r reply more st r.payload ++ rest) = some (ty, reply, { r with transport := .mailbox, more := more }))

/-- R45, R46: products ±m·2^e folded into an empty window leave, when the value is finite and TRUNC is clear, exactly their
sum; two orders of the same products that are both exact leave the same value; integer accumulation (WEXP 0) is exact
always. Values are compared as whole multiples of 2^g for any g that is no higher than any exponent met. -/
def Obligations.ExactWindowHoldsTheSum : Prop :=
 (∀ (ps : List (Bool × Nat × Int)) (g : Int), (∀ p ∈ ps, g ≤ p.2.2) → g ≤ -512 →
      (foldProducts false { } ps).cls = 0 → (foldProducts false { } ps).trunc = false →
      winIn (foldProducts false { } ps) g = (ps.map (fun p => fpInt p.1 p.2.1 p.2.2 g)).sum)
  ∧ (∀ (ps qs : List (Bool × Nat × Int)) (g : Int), ps.Perm qs → (∀ p ∈ ps, g ≤ p.2.2) → g ≤ -512 →
      (foldProducts false { } ps).cls = 0 → (foldProducts false { } ps).trunc = false →
      (foldProducts false { } qs).cls = 0 → (foldProducts false { } qs).trunc = false →
      winIn (foldProducts false { } ps) g = winIn (foldProducts false { } qs) g)
  ∧ (∀ ps : List (Bool × Nat × Int), (∀ p ∈ ps, 0 ≤ p.2.2) →
      (foldProducts true { wexp := 0 } ps).cls = 0 ∧ (foldProducts true { wexp := 0 } ps).trunc = false
      ∧ (foldProducts true { wexp := 0 } ps).wexp = 0
      ∧ (foldProducts true { wexp := 0 } ps).mant = (ps.map (fun p => fpInt p.1 p.2.1 p.2.2 0)).sum)

/-- R42, R43, R45, R71: a fold that leaves a finite value leaves |MANT| below 2^94 and WEXP between −128 and 127, and never
moves the window down; a window within these bounds written as a W96 word, or into an accumulator entry, reads back as
itself, and the entry passes its residue check (R97; residue of the signed MANT is DEDUCED, log entry 18). -/
def Obligations.WindowsFitTheirWord : Prop :=
 (∀ (a : Win) (neg : Bool) (m : Nat) (e : Int), -128 ≤ a.wexp → (foldFinite false a neg m e).1.cls = 0 → a.cls = 0 →
      (foldFinite false a neg m e).1.mant.natAbs < 2 ^ 94 ∧ a.wexp ≤ (foldFinite false a neg m e).1.wexp
      ∧ (foldFinite false a neg m e).1.wexp ≤ 127)
  ∧ (∀ a : Win, WinFits a → wordWin (winWord a) = a)
  ∧ (∀ (f : Fam) (a : Win), WinFits a → entryWin (winEntry f a) = a ∧ entryOk (winEntry f a) = true)
end

