-- ==== Sys2Proof/Laws/Tables.lean ====
section
/-! SUPPORT. Laws of the sparse tables: what a key reads after another has been stored, and that the rise of the keys and the
canonical form are kept. -/

namespace Sys2Proof.Machine

theorem mapGet_nil {α : Type} (d : α) (i : Nat) : mapGet d [] i = d := rfl

theorem mapGet_below {α : Type} (d : α) (m : SMap α) (i : Nat) (h : ∀ kv ∈ m, i < kv.1) : mapGet d m i = d := by
  induction m with
  | nil => rfl
  | cons kv m ih =>
    have h1 := h kv (by simp)
    simp only [mapGet]
    rw [if_neg (by omega)]
    exact ih (fun x hx => h x (by simp [hx]))

/-- A key reads what was stored at it. -/
theorem mapGet_mapSet_same {α : Type} [DecidableEq α] (d : α) (m : SMap α) (i : Nat) (x : α) (h : Rises m) :
    mapGet d (mapSet d m i x) i = x := by
  induction m with
  | nil => by_cases hx : x = d <;> simp [mapSet, mapGet, hx]
  | cons kv m ih =>
    obtain ⟨k, v⟩ := kv
    have h1 := (List.pairwise_cons.mp h).1
    have h2 := (List.pairwise_cons.mp h).2
    simp only [mapSet]
    split
    · rename_i hik
      by_cases hx : x = d
      · simp only [hx, if_true]
        exact mapGet_below d _ i (by
          intro kv hkv
          rcases List.mem_cons.mp hkv with e | e
          · rw [e]; exact hik
          · have h3 : k < kv.1 := h1 kv e
            omega)
      · simp [hx, mapGet]
    · split
      · rename_i hik
        by_cases hx : x = d
        · simp only [hx, if_true]
          exact mapGet_below d _ i (by intro kv hkv; rw [hik]; exact h1 kv hkv)
        · simp [hx, mapGet]
      · rename_i hlt hne
        simp only [mapGet]
        rw [if_neg (by omega)]
        exact ih h2

/-- Every other key reads what it read before. -/
theorem mapGet_mapSet_ne {α : Type} [DecidableEq α] (d e : α) (m : SMap α) (i j : Nat) (x : α) (h : j ≠ i) :
    mapGet e (mapSet d m i x) j = mapGet e m j := by
  induction m with
  | nil => by_cases hx : x = d <;> simp [mapSet, mapGet, hx, Ne.symm h]
  | cons kv m ih =>
    obtain ⟨k, v⟩ := kv
    simp only [mapSet]
    split
    · by_cases hx : x = d <;> simp [hx, mapGet, Ne.symm h]
    · split
      · rename_i hik
        subst hik
        by_cases hx : x = d <;> simp [hx, mapGet, Ne.symm h]
      · simp [mapGet, ih]

theorem mem_mapSet {α : Type} [DecidableEq α] (d : α) (m : SMap α) (i : Nat) (x : α) (kv : Nat × α)
    (h : kv ∈ mapSet d m i x) : kv = (i, x) ∨ kv ∈ m := by
  induction m with
  | nil => by_cases hx : x = d <;> simp_all [mapSet]
  | cons a m ih =>
    obtain ⟨k, v⟩ := a
    simp only [mapSet] at h
    split at h
    · by_cases hx : x = d <;> simp_all
    · split at h
      · by_cases hx : x = d <;> simp_all
        rcases h with h | h <;> simp [h]
      · rcases List.mem_cons.mp h with h | h
        · simp [h]
        · rcases ih h with h | h <;> simp [h]

/-- Storing keeps the rise of the keys. -/
theorem rises_mapSet {α : Type} [DecidableEq α] (d : α) (m : SMap α) (i : Nat) (x : α) (h : Rises m) :
    Rises (mapSet d m i x) := by
  induction m with
  | nil => by_cases hx : x = d <;> simp [mapSet, hx]
  | cons a m ih =>
    obtain ⟨k, v⟩ := a
    have h1 := (List.pairwise_cons.mp h).1
    have h2 := (List.pairwise_cons.mp h).2
    simp only [mapSet]
    split
    · rename_i hik
      by_cases hx : x = d
      · simpa [hx] using h
      · simp only [hx, if_false]
        refine List.pairwise_cons.mpr ⟨?_, h⟩
        intro kv hkv
        rcases List.mem_cons.mp hkv with e | e
        · subst e; exact hik
        · have h3 : k < kv.1 := h1 kv e
          show i < kv.1
          omega
    · split
      · rename_i hik
        by_cases hx : x = d
        · simpa [hx] using h2
        · simp only [hx, if_false]
          refine List.pairwise_cons.mpr ⟨?_, h2⟩
          intro kv hkv
          show i < kv.1
          rw [hik]; exact h1 kv hkv
      · rename_i hlt hne
        refine List.pairwise_cons.mpr ⟨?_, ih h2⟩
        intro kv hkv
        show k < kv.1
        rcases mem_mapSet d m i x kv hkv with e | e
        · subst e; show k < i; omega
        · exact h1 kv e

/-- Erasing keeps the rise of the keys. -/
theorem rises_mapErase {α : Type} (p : Nat → Bool) (m : SMap α) (h : Rises m) : Rises (mapErase p m) :=
  List.Pairwise.filter _ h

/-- Changing values and not keys keeps the rise of the keys. -/
theorem rises_map {α β : Type} (f : Nat × α → β) (m : SMap α) (h : Rises m) : Rises (m.map (fun kv => (kv.1, f kv))) := by
  induction m with
  | nil => exact List.Pairwise.nil
  | cons a m ih =>
    have h1 := (List.pairwise_cons.mp h).1
    have h2 := (List.pairwise_cons.mp h).2
    simp only [List.map_cons]
    refine List.pairwise_cons.mpr ⟨?_, ih h2⟩
    intro kv hkv
    obtain ⟨b, hb, rfl⟩ := List.mem_map.mp hkv
    exact h1 b hb

/-! ### The canonical form -/

theorem mapWfFrom_none {α : Type} [DecidableEq α] (d : α) (i : Nat) (m : SMap α) (h : mapWfFrom d (some i) m = true) :
    mapWfFrom d none m = true := by
  cases m with
  | nil => rfl
  | cons kv m => obtain ⟨k, v⟩ := kv; simp_all [mapWfFrom]

theorem mapWfFrom_lower {α : Type} [DecidableEq α] (d : α) (i j : Nat) (m : SMap α) (hij : i ≤ j)
    (h : mapWfFrom d (some j) m = true) : mapWfFrom d (some i) m = true := by
  cases m with
  | nil => rfl
  | cons kv m =>
    obtain ⟨k, v⟩ := kv
    simp [mapWfFrom] at h ⊢
    exact ⟨⟨by omega, h.1.2⟩, h.2⟩

theorem mapWfFrom_mapSet {α : Type} [DecidableEq α] (d : α) (m : SMap α) (i : Nat) (x : α) :
    ∀ lo : Option Nat, (∀ l, lo = some l → l < i) → mapWfFrom d lo m = true → mapWfFrom d lo (mapSet d m i x) = true := by
  induction m with
  | nil =>
    intro lo hlo _
    by_cases hx : x = d
    · simp [mapSet, hx, mapWfFrom]
    · cases lo with
      | none => simp [mapSet, hx, mapWfFrom]
      | some l => simp [mapSet, hx, mapWfFrom, hlo l rfl]
  | cons a m ih =>
    obtain ⟨k, v⟩ := a
    intro lo hlo h
    have hv : v ≠ d := by simp [mapWfFrom] at h; exact h.1.2
    have hm : mapWfFrom d (some k) m = true := by simp [mapWfFrom] at h; exact h.2
    simp only [mapSet]
    split
    · rename_i hik
      by_cases hx : x = d
      · simpa [hx] using h
      · cases lo with
        | none => simp [hx, mapWfFrom, hik, hv, hm]
        | some l => simp [hx, mapWfFrom, hik, hv, hm, hlo l rfl]
    · split
      · rename_i hik
        by_cases hx : x = d
        · simp only [hx, if_true]
          cases lo with
          | none => exact mapWfFrom_none d k m hm
          | some l => exact mapWfFrom_lower d l k m (by have := hlo l rfl; omega) hm
        · cases lo with
          | none => simp [hx, mapWfFrom]; rw [hik]; exact hm
          | some l => simp [hx, mapWfFrom, hlo l rfl]; rw [hik]; exact hm
      · rename_i hlt hne
        have h3 := ih (some k) (by intro l hl; simp at hl; omega) hm
        cases lo with
        | none => simp [mapWfFrom, hv, h3]
        | some l => simp [mapWfFrom] at h ⊢; exact ⟨⟨h.1.1, hv⟩, h3⟩

/-- Storing keeps the canonical form. -/
theorem mapWf_mapSet {α : Type} [DecidableEq α] (d : α) (m : SMap α) (i : Nat) (x : α) (h : mapWf d m = true) :
    mapWf d (mapSet d m i x) = true := mapWfFrom_mapSet d m i x none (by simp) h

theorem mapWfFrom_mapErase {α : Type} [DecidableEq α] (d : α) (p : Nat → Bool) (m : SMap α) :
    ∀ lo : Option Nat, mapWfFrom d lo m = true → mapWfFrom d lo (mapErase p m) = true := by
  induction m with
  | nil => intro lo _; rfl
  | cons a m ih =>
    obtain ⟨k, v⟩ := a
    intro lo h
    have hv : v ≠ d := by simp [mapWfFrom] at h; exact h.1.2
    have hm : mapWfFrom d (some k) m = true := by simp [mapWfFrom] at h; exact h.2
    have h3 := ih (some k) hm
    simp only [mapErase, List.filter_cons]
    split
    · cases lo with
      | none => simp only [mapWfFrom, hv, ne_eq, not_false_eq_true, decide_true, Bool.true_and]; exact h3
      | some l => simp [mapWfFrom] at h ⊢; exact ⟨⟨h.1.1, hv⟩, h3⟩
    · cases lo with
      | none => exact mapWfFrom_none d k _ h3
      | some l => exact mapWfFrom_lower d l k _ (by simp [mapWfFrom] at h; omega) h3

/-- Erasing keeps the canonical form. -/
theorem mapWf_mapErase {α : Type} [DecidableEq α] (d : α) (p : Nat → Bool) (m : SMap α) (h : mapWf d m = true) :
    mapWf d (mapErase p m) = true := mapWfFrom_mapErase d p m none h

end Sys2Proof.Machine
end

