-- ==== Sys2Proof/Laws/State.lean ====
section
/-! SUPPORT. What each record update of the state leaves as it was: one lemma for each field and update. -/

namespace Sys2Proof.Machine

variable (s : State)

/-! ### State.setCore -/

@[simp] theorem State.setCore_time (d c : Nat) (x : CoreSt) : (s.setCore d c x).time = s.time := rfl
@[simp] theorem State.setCore_draw (d c : Nat) (x : CoreSt) : (s.setCore d c x).draw = s.draw := rfl
@[simp] theorem State.setCore_mem (d c : Nat) (x : CoreSt) : (s.setCore d c x).mem = s.mem := rfl
@[simp] theorem State.setCore_tiles (d c : Nat) (x : CoreSt) : (s.setCore d c x).tiles = s.tiles := rfl
@[simp] theorem State.setCore_badWords (d c : Nat) (x : CoreSt) : (s.setCore d c x).badWords = s.badWords := rfl
@[simp] theorem State.setCore_badTags (d c : Nat) (x : CoreSt) : (s.setCore d c x).badTags = s.badTags := rfl
@[simp] theorem State.setCore_badBursts (d c : Nat) (x : CoreSt) : (s.setCore d c x).badBursts = s.badBursts := rfl
@[simp] theorem State.setCore_races (d c : Nat) (x : CoreSt) : (s.setCore d c x).races = s.races := rfl
@[simp] theorem State.setCore_dies (d c : Nat) (x : CoreSt) : (s.setCore d c x).dies = s.dies := rfl
@[simp] theorem State.setCore_lights (d c : Nat) (x : CoreSt) : (s.setCore d c x).lights = s.lights := rfl
@[simp] theorem State.setCore_banks (d c : Nat) (x : CoreSt) : (s.setCore d c x).banks = s.banks := rfl
@[simp] theorem State.setCore_ports (d c : Nat) (x : CoreSt) : (s.setCore d c x).ports = s.ports := rfl
@[simp] theorem State.setCore_elm (d c : Nat) (x : CoreSt) : (s.setCore d c x).elm = s.elm := rfl
@[simp] theorem State.setCore_lane (d c : Nat) (x : CoreSt) : (s.setCore d c x).lane = s.lane := rfl
@[simp] theorem State.setCore_spokes (d c : Nat) (x : CoreSt) : (s.setCore d c x).spokes = s.spokes := rfl
@[simp] theorem State.setCore_pwr (d c : Nat) (x : CoreSt) : (s.setCore d c x).pwr = s.pwr := rfl
@[simp] theorem State.setCore_thm (d c : Nat) (x : CoreSt) : (s.setCore d c x).thm = s.thm := rfl
@[simp] theorem State.setCore_boot (d c : Nat) (x : CoreSt) : (s.setCore d c x).boot = s.boot := rfl
@[simp] theorem State.setCore_sys (d c : Nat) (x : CoreSt) : (s.setCore d c x).sys = s.sys := rfl
@[simp] theorem State.setCore_sec (d c : Nat) (x : CoreSt) : (s.setCore d c x).sec = s.sec := rfl
@[simp] theorem State.setCore_flash (d c : Nat) (x : CoreSt) : (s.setCore d c x).flash = s.flash := rfl
@[simp] theorem State.setCore_fab (d c : Nat) (x : CoreSt) : (s.setCore d c x).fab = s.fab := rfl
@[simp] theorem State.setCore_gt (d c : Nat) (x : CoreSt) : (s.setCore d c x).gt = s.gt := rfl
@[simp] theorem State.setCore_flt (d c : Nat) (x : CoreSt) : (s.setCore d c x).flt = s.flt := rfl
@[simp] theorem State.setCore_host (d c : Nat) (x : CoreSt) : (s.setCore d c x).host = s.host := rfl
@[simp] theorem State.setCore_dict (d c : Nat) (x : CoreSt) : (s.setCore d c x).dict = s.dict := rfl
@[simp] theorem State.setCore_out (d c : Nat) (x : CoreSt) : (s.setCore d c x).out = s.out := rfl
@[simp] theorem State.setCore_pending (d c : Nat) (x : CoreSt) : (s.setCore d c x).pending = s.pending := rfl

/-! ### State.modCore -/

@[simp] theorem State.modCore_time (d c : Nat) (f : CoreSt → CoreSt) : (s.modCore d c f).time = s.time := rfl
@[simp] theorem State.modCore_draw (d c : Nat) (f : CoreSt → CoreSt) : (s.modCore d c f).draw = s.draw := rfl
@[simp] theorem State.modCore_mem (d c : Nat) (f : CoreSt → CoreSt) : (s.modCore d c f).mem = s.mem := rfl
@[simp] theorem State.modCore_tiles (d c : Nat) (f : CoreSt → CoreSt) : (s.modCore d c f).tiles = s.tiles := rfl
@[simp] theorem State.modCore_badWords (d c : Nat) (f : CoreSt → CoreSt) : (s.modCore d c f).badWords = s.badWords := rfl
@[simp] theorem State.modCore_badTags (d c : Nat) (f : CoreSt → CoreSt) : (s.modCore d c f).badTags = s.badTags := rfl
@[simp] theorem State.modCore_badBursts (d c : Nat) (f : CoreSt → CoreSt) : (s.modCore d c f).badBursts = s.badBursts := rfl
@[simp] theorem State.modCore_races (d c : Nat) (f : CoreSt → CoreSt) : (s.modCore d c f).races = s.races := rfl
@[simp] theorem State.modCore_dies (d c : Nat) (f : CoreSt → CoreSt) : (s.modCore d c f).dies = s.dies := rfl
@[simp] theorem State.modCore_lights (d c : Nat) (f : CoreSt → CoreSt) : (s.modCore d c f).lights = s.lights := rfl
@[simp] theorem State.modCore_banks (d c : Nat) (f : CoreSt → CoreSt) : (s.modCore d c f).banks = s.banks := rfl
@[simp] theorem State.modCore_ports (d c : Nat) (f : CoreSt → CoreSt) : (s.modCore d c f).ports = s.ports := rfl
@[simp] theorem State.modCore_elm (d c : Nat) (f : CoreSt → CoreSt) : (s.modCore d c f).elm = s.elm := rfl
@[simp] theorem State.modCore_lane (d c : Nat) (f : CoreSt → CoreSt) : (s.modCore d c f).lane = s.lane := rfl
@[simp] theorem State.modCore_spokes (d c : Nat) (f : CoreSt → CoreSt) : (s.modCore d c f).spokes = s.spokes := rfl
@[simp] theorem State.modCore_pwr (d c : Nat) (f : CoreSt → CoreSt) : (s.modCore d c f).pwr = s.pwr := rfl
@[simp] theorem State.modCore_thm (d c : Nat) (f : CoreSt → CoreSt) : (s.modCore d c f).thm = s.thm := rfl
@[simp] theorem State.modCore_boot (d c : Nat) (f : CoreSt → CoreSt) : (s.modCore d c f).boot = s.boot := rfl
@[simp] theorem State.modCore_sys (d c : Nat) (f : CoreSt → CoreSt) : (s.modCore d c f).sys = s.sys := rfl
@[simp] theorem State.modCore_sec (d c : Nat) (f : CoreSt → CoreSt) : (s.modCore d c f).sec = s.sec := rfl
@[simp] theorem State.modCore_flash (d c : Nat) (f : CoreSt → CoreSt) : (s.modCore d c f).flash = s.flash := rfl
@[simp] theorem State.modCore_fab (d c : Nat) (f : CoreSt → CoreSt) : (s.modCore d c f).fab = s.fab := rfl
@[simp] theorem State.modCore_gt (d c : Nat) (f : CoreSt → CoreSt) : (s.modCore d c f).gt = s.gt := rfl
@[simp] theorem State.modCore_flt (d c : Nat) (f : CoreSt → CoreSt) : (s.modCore d c f).flt = s.flt := rfl
@[simp] theorem State.modCore_host (d c : Nat) (f : CoreSt → CoreSt) : (s.modCore d c f).host = s.host := rfl
@[simp] theorem State.modCore_dict (d c : Nat) (f : CoreSt → CoreSt) : (s.modCore d c f).dict = s.dict := rfl
@[simp] theorem State.modCore_out (d c : Nat) (f : CoreSt → CoreSt) : (s.modCore d c f).out = s.out := rfl
@[simp] theorem State.modCore_pending (d c : Nat) (f : CoreSt → CoreSt) : (s.modCore d c f).pending = s.pending := rfl

/-! ### State.setDie -/

@[simp] theorem State.setDie_time (d : Nat) (x : DieSt) : (s.setDie d x).time = s.time := rfl
@[simp] theorem State.setDie_draw (d : Nat) (x : DieSt) : (s.setDie d x).draw = s.draw := rfl
@[simp] theorem State.setDie_mem (d : Nat) (x : DieSt) : (s.setDie d x).mem = s.mem := rfl
@[simp] theorem State.setDie_tiles (d : Nat) (x : DieSt) : (s.setDie d x).tiles = s.tiles := rfl
@[simp] theorem State.setDie_badWords (d : Nat) (x : DieSt) : (s.setDie d x).badWords = s.badWords := rfl
@[simp] theorem State.setDie_badTags (d : Nat) (x : DieSt) : (s.setDie d x).badTags = s.badTags := rfl
@[simp] theorem State.setDie_badBursts (d : Nat) (x : DieSt) : (s.setDie d x).badBursts = s.badBursts := rfl
@[simp] theorem State.setDie_races (d : Nat) (x : DieSt) : (s.setDie d x).races = s.races := rfl
@[simp] theorem State.setDie_cores (d : Nat) (x : DieSt) : (s.setDie d x).cores = s.cores := rfl
@[simp] theorem State.setDie_lights (d : Nat) (x : DieSt) : (s.setDie d x).lights = s.lights := rfl
@[simp] theorem State.setDie_banks (d : Nat) (x : DieSt) : (s.setDie d x).banks = s.banks := rfl
@[simp] theorem State.setDie_ports (d : Nat) (x : DieSt) : (s.setDie d x).ports = s.ports := rfl
@[simp] theorem State.setDie_elm (d : Nat) (x : DieSt) : (s.setDie d x).elm = s.elm := rfl
@[simp] theorem State.setDie_lane (d : Nat) (x : DieSt) : (s.setDie d x).lane = s.lane := rfl
@[simp] theorem State.setDie_spokes (d : Nat) (x : DieSt) : (s.setDie d x).spokes = s.spokes := rfl
@[simp] theorem State.setDie_pwr (d : Nat) (x : DieSt) : (s.setDie d x).pwr = s.pwr := rfl
@[simp] theorem State.setDie_thm (d : Nat) (x : DieSt) : (s.setDie d x).thm = s.thm := rfl
@[simp] theorem State.setDie_boot (d : Nat) (x : DieSt) : (s.setDie d x).boot = s.boot := rfl
@[simp] theorem State.setDie_sys (d : Nat) (x : DieSt) : (s.setDie d x).sys = s.sys := rfl
@[simp] theorem State.setDie_sec (d : Nat) (x : DieSt) : (s.setDie d x).sec = s.sec := rfl
@[simp] theorem State.setDie_flash (d : Nat) (x : DieSt) : (s.setDie d x).flash = s.flash := rfl
@[simp] theorem State.setDie_fab (d : Nat) (x : DieSt) : (s.setDie d x).fab = s.fab := rfl
@[simp] theorem State.setDie_gt (d : Nat) (x : DieSt) : (s.setDie d x).gt = s.gt := rfl
@[simp] theorem State.setDie_flt (d : Nat) (x : DieSt) : (s.setDie d x).flt = s.flt := rfl
@[simp] theorem State.setDie_host (d : Nat) (x : DieSt) : (s.setDie d x).host = s.host := rfl
@[simp] theorem State.setDie_dict (d : Nat) (x : DieSt) : (s.setDie d x).dict = s.dict := rfl
@[simp] theorem State.setDie_out (d : Nat) (x : DieSt) : (s.setDie d x).out = s.out := rfl
@[simp] theorem State.setDie_pending (d : Nat) (x : DieSt) : (s.setDie d x).pending = s.pending := rfl

/-! ### State.modDie -/

@[simp] theorem State.modDie_time (d : Nat) (f : DieSt → DieSt) : (s.modDie d f).time = s.time := rfl
@[simp] theorem State.modDie_draw (d : Nat) (f : DieSt → DieSt) : (s.modDie d f).draw = s.draw := rfl
@[simp] theorem State.modDie_mem (d : Nat) (f : DieSt → DieSt) : (s.modDie d f).mem = s.mem := rfl
@[simp] theorem State.modDie_tiles (d : Nat) (f : DieSt → DieSt) : (s.modDie d f).tiles = s.tiles := rfl
@[simp] theorem State.modDie_badWords (d : Nat) (f : DieSt → DieSt) : (s.modDie d f).badWords = s.badWords := rfl
@[simp] theorem State.modDie_badTags (d : Nat) (f : DieSt → DieSt) : (s.modDie d f).badTags = s.badTags := rfl
@[simp] theorem State.modDie_badBursts (d : Nat) (f : DieSt → DieSt) : (s.modDie d f).badBursts = s.badBursts := rfl
@[simp] theorem State.modDie_races (d : Nat) (f : DieSt → DieSt) : (s.modDie d f).races = s.races := rfl
@[simp] theorem State.modDie_cores (d : Nat) (f : DieSt → DieSt) : (s.modDie d f).cores = s.cores := rfl
@[simp] theorem State.modDie_lights (d : Nat) (f : DieSt → DieSt) : (s.modDie d f).lights = s.lights := rfl
@[simp] theorem State.modDie_banks (d : Nat) (f : DieSt → DieSt) : (s.modDie d f).banks = s.banks := rfl
@[simp] theorem State.modDie_ports (d : Nat) (f : DieSt → DieSt) : (s.modDie d f).ports = s.ports := rfl
@[simp] theorem State.modDie_elm (d : Nat) (f : DieSt → DieSt) : (s.modDie d f).elm = s.elm := rfl
@[simp] theorem State.modDie_lane (d : Nat) (f : DieSt → DieSt) : (s.modDie d f).lane = s.lane := rfl
@[simp] theorem State.modDie_spokes (d : Nat) (f : DieSt → DieSt) : (s.modDie d f).spokes = s.spokes := rfl
@[simp] theorem State.modDie_pwr (d : Nat) (f : DieSt → DieSt) : (s.modDie d f).pwr = s.pwr := rfl
@[simp] theorem State.modDie_thm (d : Nat) (f : DieSt → DieSt) : (s.modDie d f).thm = s.thm := rfl
@[simp] theorem State.modDie_boot (d : Nat) (f : DieSt → DieSt) : (s.modDie d f).boot = s.boot := rfl
@[simp] theorem State.modDie_sys (d : Nat) (f : DieSt → DieSt) : (s.modDie d f).sys = s.sys := rfl
@[simp] theorem State.modDie_sec (d : Nat) (f : DieSt → DieSt) : (s.modDie d f).sec = s.sec := rfl
@[simp] theorem State.modDie_flash (d : Nat) (f : DieSt → DieSt) : (s.modDie d f).flash = s.flash := rfl
@[simp] theorem State.modDie_fab (d : Nat) (f : DieSt → DieSt) : (s.modDie d f).fab = s.fab := rfl
@[simp] theorem State.modDie_gt (d : Nat) (f : DieSt → DieSt) : (s.modDie d f).gt = s.gt := rfl
@[simp] theorem State.modDie_flt (d : Nat) (f : DieSt → DieSt) : (s.modDie d f).flt = s.flt := rfl
@[simp] theorem State.modDie_host (d : Nat) (f : DieSt → DieSt) : (s.modDie d f).host = s.host := rfl
@[simp] theorem State.modDie_dict (d : Nat) (f : DieSt → DieSt) : (s.modDie d f).dict = s.dict := rfl
@[simp] theorem State.modDie_out (d : Nat) (f : DieSt → DieSt) : (s.modDie d f).out = s.out := rfl
@[simp] theorem State.modDie_pending (d : Nat) (f : DieSt → DieSt) : (s.modDie d f).pending = s.pending := rfl

/-! ### State.emit -/

@[simp] theorem State.emit_time (e : Emission) : (s.emit e).time = s.time := rfl
@[simp] theorem State.emit_draw (e : Emission) : (s.emit e).draw = s.draw := rfl
@[simp] theorem State.emit_mem (e : Emission) : (s.emit e).mem = s.mem := rfl
@[simp] theorem State.emit_tiles (e : Emission) : (s.emit e).tiles = s.tiles := rfl
@[simp] theorem State.emit_badWords (e : Emission) : (s.emit e).badWords = s.badWords := rfl
@[simp] theorem State.emit_badTags (e : Emission) : (s.emit e).badTags = s.badTags := rfl
@[simp] theorem State.emit_badBursts (e : Emission) : (s.emit e).badBursts = s.badBursts := rfl
@[simp] theorem State.emit_races (e : Emission) : (s.emit e).races = s.races := rfl
@[simp] theorem State.emit_cores (e : Emission) : (s.emit e).cores = s.cores := rfl
@[simp] theorem State.emit_dies (e : Emission) : (s.emit e).dies = s.dies := rfl
@[simp] theorem State.emit_lights (e : Emission) : (s.emit e).lights = s.lights := rfl
@[simp] theorem State.emit_banks (e : Emission) : (s.emit e).banks = s.banks := rfl
@[simp] theorem State.emit_ports (e : Emission) : (s.emit e).ports = s.ports := rfl
@[simp] theorem State.emit_elm (e : Emission) : (s.emit e).elm = s.elm := rfl
@[simp] theorem State.emit_lane (e : Emission) : (s.emit e).lane = s.lane := rfl
@[simp] theorem State.emit_spokes (e : Emission) : (s.emit e).spokes = s.spokes := rfl
@[simp] theorem State.emit_pwr (e : Emission) : (s.emit e).pwr = s.pwr := rfl
@[simp] theorem State.emit_thm (e : Emission) : (s.emit e).thm = s.thm := rfl
@[simp] theorem State.emit_boot (e : Emission) : (s.emit e).boot = s.boot := rfl
@[simp] theorem State.emit_sys (e : Emission) : (s.emit e).sys = s.sys := rfl
@[simp] theorem State.emit_sec (e : Emission) : (s.emit e).sec = s.sec := rfl
@[simp] theorem State.emit_flash (e : Emission) : (s.emit e).flash = s.flash := rfl
@[simp] theorem State.emit_fab (e : Emission) : (s.emit e).fab = s.fab := rfl
@[simp] theorem State.emit_gt (e : Emission) : (s.emit e).gt = s.gt := rfl
@[simp] theorem State.emit_flt (e : Emission) : (s.emit e).flt = s.flt := rfl
@[simp] theorem State.emit_host (e : Emission) : (s.emit e).host = s.host := rfl
@[simp] theorem State.emit_dict (e : Emission) : (s.emit e).dict = s.dict := rfl
@[simp] theorem State.emit_pending (e : Emission) : (s.emit e).pending = s.pending := rfl

/-! ### State.setObj -/

@[simp] theorem State.setObj_time (i j v : Nat) : (s.setObj i j v).time = s.time := rfl
@[simp] theorem State.setObj_draw (i j v : Nat) : (s.setObj i j v).draw = s.draw := rfl
@[simp] theorem State.setObj_mem (i j v : Nat) : (s.setObj i j v).mem = s.mem := rfl
@[simp] theorem State.setObj_tiles (i j v : Nat) : (s.setObj i j v).tiles = s.tiles := rfl
@[simp] theorem State.setObj_badWords (i j v : Nat) : (s.setObj i j v).badWords = s.badWords := rfl
@[simp] theorem State.setObj_badTags (i j v : Nat) : (s.setObj i j v).badTags = s.badTags := rfl
@[simp] theorem State.setObj_badBursts (i j v : Nat) : (s.setObj i j v).badBursts = s.badBursts := rfl
@[simp] theorem State.setObj_races (i j v : Nat) : (s.setObj i j v).races = s.races := rfl
@[simp] theorem State.setObj_cores (i j v : Nat) : (s.setObj i j v).cores = s.cores := rfl
@[simp] theorem State.setObj_dies (i j v : Nat) : (s.setObj i j v).dies = s.dies := rfl
@[simp] theorem State.setObj_lights (i j v : Nat) : (s.setObj i j v).lights = s.lights := rfl
@[simp] theorem State.setObj_banks (i j v : Nat) : (s.setObj i j v).banks = s.banks := rfl
@[simp] theorem State.setObj_ports (i j v : Nat) : (s.setObj i j v).ports = s.ports := rfl
@[simp] theorem State.setObj_elm (i j v : Nat) : (s.setObj i j v).elm = s.elm := rfl
@[simp] theorem State.setObj_lane (i j v : Nat) : (s.setObj i j v).lane = s.lane := rfl
@[simp] theorem State.setObj_spokes (i j v : Nat) : (s.setObj i j v).spokes = s.spokes := rfl
@[simp] theorem State.setObj_pwr (i j v : Nat) : (s.setObj i j v).pwr = s.pwr := rfl
@[simp] theorem State.setObj_thm (i j v : Nat) : (s.setObj i j v).thm = s.thm := rfl
@[simp] theorem State.setObj_boot (i j v : Nat) : (s.setObj i j v).boot = s.boot := rfl
@[simp] theorem State.setObj_sys (i j v : Nat) : (s.setObj i j v).sys = s.sys := rfl
@[simp] theorem State.setObj_sec (i j v : Nat) : (s.setObj i j v).sec = s.sec := rfl
@[simp] theorem State.setObj_flash (i j v : Nat) : (s.setObj i j v).flash = s.flash := rfl
@[simp] theorem State.setObj_fab (i j v : Nat) : (s.setObj i j v).fab = s.fab := rfl
@[simp] theorem State.setObj_gt (i j v : Nat) : (s.setObj i j v).gt = s.gt := rfl
@[simp] theorem State.setObj_flt (i j v : Nat) : (s.setObj i j v).flt = s.flt := rfl
@[simp] theorem State.setObj_host (i j v : Nat) : (s.setObj i j v).host = s.host := rfl
@[simp] theorem State.setObj_out (i j v : Nat) : (s.setObj i j v).out = s.out := rfl
@[simp] theorem State.setObj_pending (i j v : Nat) : (s.setObj i j v).pending = s.pending := rfl

/-! ### State.bump -/

@[simp] theorem State.bump_time (i j n : Nat) : (s.bump i j n).time = s.time := rfl
@[simp] theorem State.bump_draw (i j n : Nat) : (s.bump i j n).draw = s.draw := rfl
@[simp] theorem State.bump_mem (i j n : Nat) : (s.bump i j n).mem = s.mem := rfl
@[simp] theorem State.bump_tiles (i j n : Nat) : (s.bump i j n).tiles = s.tiles := rfl
@[simp] theorem State.bump_badWords (i j n : Nat) : (s.bump i j n).badWords = s.badWords := rfl
@[simp] theorem State.bump_badTags (i j n : Nat) : (s.bump i j n).badTags = s.badTags := rfl
@[simp] theorem State.bump_badBursts (i j n : Nat) : (s.bump i j n).badBursts = s.badBursts := rfl
@[simp] theorem State.bump_races (i j n : Nat) : (s.bump i j n).races = s.races := rfl
@[simp] theorem State.bump_cores (i j n : Nat) : (s.bump i j n).cores = s.cores := rfl
@[simp] theorem State.bump_dies (i j n : Nat) : (s.bump i j n).dies = s.dies := rfl
@[simp] theorem State.bump_lights (i j n : Nat) : (s.bump i j n).lights = s.lights := rfl
@[simp] theorem State.bump_banks (i j n : Nat) : (s.bump i j n).banks = s.banks := rfl
@[simp] theorem State.bump_ports (i j n : Nat) : (s.bump i j n).ports = s.ports := rfl
@[simp] theorem State.bump_elm (i j n : Nat) : (s.bump i j n).elm = s.elm := rfl
@[simp] theorem State.bump_lane (i j n : Nat) : (s.bump i j n).lane = s.lane := rfl
@[simp] theorem State.bump_spokes (i j n : Nat) : (s.bump i j n).spokes = s.spokes := rfl
@[simp] theorem State.bump_pwr (i j n : Nat) : (s.bump i j n).pwr = s.pwr := rfl
@[simp] theorem State.bump_thm (i j n : Nat) : (s.bump i j n).thm = s.thm := rfl
@[simp] theorem State.bump_boot (i j n : Nat) : (s.bump i j n).boot = s.boot := rfl
@[simp] theorem State.bump_sys (i j n : Nat) : (s.bump i j n).sys = s.sys := rfl
@[simp] theorem State.bump_sec (i j n : Nat) : (s.bump i j n).sec = s.sec := rfl
@[simp] theorem State.bump_flash (i j n : Nat) : (s.bump i j n).flash = s.flash := rfl
@[simp] theorem State.bump_fab (i j n : Nat) : (s.bump i j n).fab = s.fab := rfl
@[simp] theorem State.bump_gt (i j n : Nat) : (s.bump i j n).gt = s.gt := rfl
@[simp] theorem State.bump_flt (i j n : Nat) : (s.bump i j n).flt = s.flt := rfl
@[simp] theorem State.bump_host (i j n : Nat) : (s.bump i j n).host = s.host := rfl
@[simp] theorem State.bump_out (i j n : Nat) : (s.bump i j n).out = s.out := rfl
@[simp] theorem State.bump_pending (i j n : Nat) : (s.bump i j n).pending = s.pending := rfl

/-! ### State.raise -/

@[simp] theorem State.raise_time (e : Event) : (s.raise e).time = s.time := rfl
@[simp] theorem State.raise_draw (e : Event) : (s.raise e).draw = s.draw := rfl
@[simp] theorem State.raise_mem (e : Event) : (s.raise e).mem = s.mem := rfl
@[simp] theorem State.raise_tiles (e : Event) : (s.raise e).tiles = s.tiles := rfl
@[simp] theorem State.raise_badWords (e : Event) : (s.raise e).badWords = s.badWords := rfl
@[simp] theorem State.raise_badTags (e : Event) : (s.raise e).badTags = s.badTags := rfl
@[simp] theorem State.raise_badBursts (e : Event) : (s.raise e).badBursts = s.badBursts := rfl
@[simp] theorem State.raise_races (e : Event) : (s.raise e).races = s.races := rfl
@[simp] theorem State.raise_cores (e : Event) : (s.raise e).cores = s.cores := rfl
@[simp] theorem State.raise_dies (e : Event) : (s.raise e).dies = s.dies := rfl
@[simp] theorem State.raise_lights (e : Event) : (s.raise e).lights = s.lights := rfl
@[simp] theorem State.raise_banks (e : Event) : (s.raise e).banks = s.banks := rfl
@[simp] theorem State.raise_ports (e : Event) : (s.raise e).ports = s.ports := rfl
@[simp] theorem State.raise_elm (e : Event) : (s.raise e).elm = s.elm := rfl
@[simp] theorem State.raise_lane (e : Event) : (s.raise e).lane = s.lane := rfl
@[simp] theorem State.raise_spokes (e : Event) : (s.raise e).spokes = s.spokes := rfl
@[simp] theorem State.raise_pwr (e : Event) : (s.raise e).pwr = s.pwr := rfl
@[simp] theorem State.raise_thm (e : Event) : (s.raise e).thm = s.thm := rfl
@[simp] theorem State.raise_boot (e : Event) : (s.raise e).boot = s.boot := rfl
@[simp] theorem State.raise_sys (e : Event) : (s.raise e).sys = s.sys := rfl
@[simp] theorem State.raise_sec (e : Event) : (s.raise e).sec = s.sec := rfl
@[simp] theorem State.raise_flash (e : Event) : (s.raise e).flash = s.flash := rfl
@[simp] theorem State.raise_fab (e : Event) : (s.raise e).fab = s.fab := rfl
@[simp] theorem State.raise_gt (e : Event) : (s.raise e).gt = s.gt := rfl
@[simp] theorem State.raise_host (e : Event) : (s.raise e).host = s.host := rfl
@[simp] theorem State.raise_dict (e : Event) : (s.raise e).dict = s.dict := rfl
@[simp] theorem State.raise_out (e : Event) : (s.raise e).out = s.out := rfl
@[simp] theorem State.raise_pending (e : Event) : (s.raise e).pending = s.pending := rfl

/-! ### State.putBytes -/

@[simp] theorem State.putBytes_time (d a : Nat) (bs : List Byte) : (s.putBytes d a bs).time = s.time := rfl
@[simp] theorem State.putBytes_draw (d a : Nat) (bs : List Byte) : (s.putBytes d a bs).draw = s.draw := rfl
@[simp] theorem State.putBytes_tiles (d a : Nat) (bs : List Byte) : (s.putBytes d a bs).tiles = s.tiles := rfl
@[simp] theorem State.putBytes_badWords (d a : Nat) (bs : List Byte) : (s.putBytes d a bs).badWords = s.badWords := rfl
@[simp] theorem State.putBytes_badTags (d a : Nat) (bs : List Byte) : (s.putBytes d a bs).badTags = s.badTags := rfl
@[simp] theorem State.putBytes_badBursts (d a : Nat) (bs : List Byte) : (s.putBytes d a bs).badBursts = s.badBursts := rfl
@[simp] theorem State.putBytes_races (d a : Nat) (bs : List Byte) : (s.putBytes d a bs).races = s.races := rfl
@[simp] theorem State.putBytes_cores (d a : Nat) (bs : List Byte) : (s.putBytes d a bs).cores = s.cores := rfl
@[simp] theorem State.putBytes_dies (d a : Nat) (bs : List Byte) : (s.putBytes d a bs).dies = s.dies := rfl
@[simp] theorem State.putBytes_lights (d a : Nat) (bs : List Byte) : (s.putBytes d a bs).lights = s.lights := rfl
@[simp] theorem State.putBytes_banks (d a : Nat) (bs : List Byte) : (s.putBytes d a bs).banks = s.banks := rfl
@[simp] theorem State.putBytes_ports (d a : Nat) (bs : List Byte) : (s.putBytes d a bs).ports = s.ports := rfl
@[simp] theorem State.putBytes_elm (d a : Nat) (bs : List Byte) : (s.putBytes d a bs).elm = s.elm := rfl
@[simp] theorem State.putBytes_lane (d a : Nat) (bs : List Byte) : (s.putBytes d a bs).lane = s.lane := rfl
@[simp] theorem State.putBytes_spokes (d a : Nat) (bs : List Byte) : (s.putBytes d a bs).spokes = s.spokes := rfl
@[simp] theorem State.putBytes_pwr (d a : Nat) (bs : List Byte) : (s.putBytes d a bs).pwr = s.pwr := rfl
@[simp] theorem State.putBytes_thm (d a : Nat) (bs : List Byte) : (s.putBytes d a bs).thm = s.thm := rfl
@[simp] theorem State.putBytes_boot (d a : Nat) (bs : List Byte) : (s.putBytes d a bs).boot = s.boot := rfl
@[simp] theorem State.putBytes_sys (d a : Nat) (bs : List Byte) : (s.putBytes d a bs).sys = s.sys := rfl
@[simp] theorem State.putBytes_sec (d a : Nat) (bs : List Byte) : (s.putBytes d a bs).sec = s.sec := rfl
@[simp] theorem State.putBytes_flash (d a : Nat) (bs : List Byte) : (s.putBytes d a bs).flash = s.flash := rfl
@[simp] theorem State.putBytes_fab (d a : Nat) (bs : List Byte) : (s.putBytes d a bs).fab = s.fab := rfl
@[simp] theorem State.putBytes_gt (d a : Nat) (bs : List Byte) : (s.putBytes d a bs).gt = s.gt := rfl
@[simp] theorem State.putBytes_flt (d a : Nat) (bs : List Byte) : (s.putBytes d a bs).flt = s.flt := rfl
@[simp] theorem State.putBytes_host (d a : Nat) (bs : List Byte) : (s.putBytes d a bs).host = s.host := rfl
@[simp] theorem State.putBytes_dict (d a : Nat) (bs : List Byte) : (s.putBytes d a bs).dict = s.dict := rfl
@[simp] theorem State.putBytes_out (d a : Nat) (bs : List Byte) : (s.putBytes d a bs).out = s.out := rfl
@[simp] theorem State.putBytes_pending (d a : Nat) (bs : List Byte) : (s.putBytes d a bs).pending = s.pending := rfl

/-! ### State.setTile -/

@[simp] theorem State.setTile_time (d a : Nat) (x : TileInfo) : (s.setTile d a x).time = s.time := rfl
@[simp] theorem State.setTile_draw (d a : Nat) (x : TileInfo) : (s.setTile d a x).draw = s.draw := rfl
@[simp] theorem State.setTile_mem (d a : Nat) (x : TileInfo) : (s.setTile d a x).mem = s.mem := rfl
@[simp] theorem State.setTile_badWords (d a : Nat) (x : TileInfo) : (s.setTile d a x).badWords = s.badWords := rfl
@[simp] theorem State.setTile_badTags (d a : Nat) (x : TileInfo) : (s.setTile d a x).badTags = s.badTags := rfl
@[simp] theorem State.setTile_badBursts (d a : Nat) (x : TileInfo) : (s.setTile d a x).badBursts = s.badBursts := rfl
@[simp] theorem State.setTile_races (d a : Nat) (x : TileInfo) : (s.setTile d a x).races = s.races := rfl
@[simp] theorem State.setTile_cores (d a : Nat) (x : TileInfo) : (s.setTile d a x).cores = s.cores := rfl
@[simp] theorem State.setTile_dies (d a : Nat) (x : TileInfo) : (s.setTile d a x).dies = s.dies := rfl
@[simp] theorem State.setTile_lights (d a : Nat) (x : TileInfo) : (s.setTile d a x).lights = s.lights := rfl
@[simp] theorem State.setTile_banks (d a : Nat) (x : TileInfo) : (s.setTile d a x).banks = s.banks := rfl
@[simp] theorem State.setTile_ports (d a : Nat) (x : TileInfo) : (s.setTile d a x).ports = s.ports := rfl
@[simp] theorem State.setTile_elm (d a : Nat) (x : TileInfo) : (s.setTile d a x).elm = s.elm := rfl
@[simp] theorem State.setTile_lane (d a : Nat) (x : TileInfo) : (s.setTile d a x).lane = s.lane := rfl
@[simp] theorem State.setTile_spokes (d a : Nat) (x : TileInfo) : (s.setTile d a x).spokes = s.spokes := rfl
@[simp] theorem State.setTile_pwr (d a : Nat) (x : TileInfo) : (s.setTile d a x).pwr = s.pwr := rfl
@[simp] theorem State.setTile_thm (d a : Nat) (x : TileInfo) : (s.setTile d a x).thm = s.thm := rfl
@[simp] theorem State.setTile_boot (d a : Nat) (x : TileInfo) : (s.setTile d a x).boot = s.boot := rfl
@[simp] theorem State.setTile_sys (d a : Nat) (x : TileInfo) : (s.setTile d a x).sys = s.sys := rfl
@[simp] theorem State.setTile_sec (d a : Nat) (x : TileInfo) : (s.setTile d a x).sec = s.sec := rfl
@[simp] theorem State.setTile_flash (d a : Nat) (x : TileInfo) : (s.setTile d a x).flash = s.flash := rfl
@[simp] theorem State.setTile_fab (d a : Nat) (x : TileInfo) : (s.setTile d a x).fab = s.fab := rfl
@[simp] theorem State.setTile_gt (d a : Nat) (x : TileInfo) : (s.setTile d a x).gt = s.gt := rfl
@[simp] theorem State.setTile_flt (d a : Nat) (x : TileInfo) : (s.setTile d a x).flt = s.flt := rfl
@[simp] theorem State.setTile_host (d a : Nat) (x : TileInfo) : (s.setTile d a x).host = s.host := rfl
@[simp] theorem State.setTile_dict (d a : Nat) (x : TileInfo) : (s.setTile d a x).dict = s.dict := rfl
@[simp] theorem State.setTile_out (d a : Nat) (x : TileInfo) : (s.setTile d a x).out = s.out := rfl
@[simp] theorem State.setTile_pending (d a : Nat) (x : TileInfo) : (s.setTile d a x).pending = s.pending := rfl

/-! ### State.setTileSt -/

@[simp] theorem State.setTileSt_time (d a : Nat) (x : TState) : (s.setTileSt d a x).time = s.time := rfl
@[simp] theorem State.setTileSt_draw (d a : Nat) (x : TState) : (s.setTileSt d a x).draw = s.draw := rfl
@[simp] theorem State.setTileSt_mem (d a : Nat) (x : TState) : (s.setTileSt d a x).mem = s.mem := rfl
@[simp] theorem State.setTileSt_badWords (d a : Nat) (x : TState) : (s.setTileSt d a x).badWords = s.badWords := rfl
@[simp] theorem State.setTileSt_badTags (d a : Nat) (x : TState) : (s.setTileSt d a x).badTags = s.badTags := rfl
@[simp] theorem State.setTileSt_badBursts (d a : Nat) (x : TState) : (s.setTileSt d a x).badBursts = s.badBursts := rfl
@[simp] theorem State.setTileSt_races (d a : Nat) (x : TState) : (s.setTileSt d a x).races = s.races := rfl
@[simp] theorem State.setTileSt_cores (d a : Nat) (x : TState) : (s.setTileSt d a x).cores = s.cores := rfl
@[simp] theorem State.setTileSt_dies (d a : Nat) (x : TState) : (s.setTileSt d a x).dies = s.dies := rfl
@[simp] theorem State.setTileSt_lights (d a : Nat) (x : TState) : (s.setTileSt d a x).lights = s.lights := rfl
@[simp] theorem State.setTileSt_banks (d a : Nat) (x : TState) : (s.setTileSt d a x).banks = s.banks := rfl
@[simp] theorem State.setTileSt_ports (d a : Nat) (x : TState) : (s.setTileSt d a x).ports = s.ports := rfl
@[simp] theorem State.setTileSt_elm (d a : Nat) (x : TState) : (s.setTileSt d a x).elm = s.elm := rfl
@[simp] theorem State.setTileSt_lane (d a : Nat) (x : TState) : (s.setTileSt d a x).lane = s.lane := rfl
@[simp] theorem State.setTileSt_spokes (d a : Nat) (x : TState) : (s.setTileSt d a x).spokes = s.spokes := rfl
@[simp] theorem State.setTileSt_pwr (d a : Nat) (x : TState) : (s.setTileSt d a x).pwr = s.pwr := rfl
@[simp] theorem State.setTileSt_thm (d a : Nat) (x : TState) : (s.setTileSt d a x).thm = s.thm := rfl
@[simp] theorem State.setTileSt_boot (d a : Nat) (x : TState) : (s.setTileSt d a x).boot = s.boot := rfl
@[simp] theorem State.setTileSt_sys (d a : Nat) (x : TState) : (s.setTileSt d a x).sys = s.sys := rfl
@[simp] theorem State.setTileSt_sec (d a : Nat) (x : TState) : (s.setTileSt d a x).sec = s.sec := rfl
@[simp] theorem State.setTileSt_flash (d a : Nat) (x : TState) : (s.setTileSt d a x).flash = s.flash := rfl
@[simp] theorem State.setTileSt_fab (d a : Nat) (x : TState) : (s.setTileSt d a x).fab = s.fab := rfl
@[simp] theorem State.setTileSt_gt (d a : Nat) (x : TState) : (s.setTileSt d a x).gt = s.gt := rfl
@[simp] theorem State.setTileSt_flt (d a : Nat) (x : TState) : (s.setTileSt d a x).flt = s.flt := rfl
@[simp] theorem State.setTileSt_host (d a : Nat) (x : TState) : (s.setTileSt d a x).host = s.host := rfl
@[simp] theorem State.setTileSt_dict (d a : Nat) (x : TState) : (s.setTileSt d a x).dict = s.dict := rfl
@[simp] theorem State.setTileSt_out (d a : Nat) (x : TState) : (s.setTileSt d a x).out = s.out := rfl
@[simp] theorem State.setTileSt_pending (d a : Nat) (x : TState) : (s.setTileSt d a x).pending = s.pending := rfl

/-! ### State.freshen -/

@[simp] theorem State.freshen_time (d a n : Nat) : (s.freshen d a n).time = s.time := rfl
@[simp] theorem State.freshen_draw (d a n : Nat) : (s.freshen d a n).draw = s.draw := rfl
@[simp] theorem State.freshen_mem (d a n : Nat) : (s.freshen d a n).mem = s.mem := rfl
@[simp] theorem State.freshen_tiles (d a n : Nat) : (s.freshen d a n).tiles = s.tiles := rfl
@[simp] theorem State.freshen_badTags (d a n : Nat) : (s.freshen d a n).badTags = s.badTags := rfl
@[simp] theorem State.freshen_races (d a n : Nat) : (s.freshen d a n).races = s.races := rfl
@[simp] theorem State.freshen_cores (d a n : Nat) : (s.freshen d a n).cores = s.cores := rfl
@[simp] theorem State.freshen_dies (d a n : Nat) : (s.freshen d a n).dies = s.dies := rfl
@[simp] theorem State.freshen_lights (d a n : Nat) : (s.freshen d a n).lights = s.lights := rfl
@[simp] theorem State.freshen_banks (d a n : Nat) : (s.freshen d a n).banks = s.banks := rfl
@[simp] theorem State.freshen_ports (d a n : Nat) : (s.freshen d a n).ports = s.ports := rfl
@[simp] theorem State.freshen_elm (d a n : Nat) : (s.freshen d a n).elm = s.elm := rfl
@[simp] theorem State.freshen_lane (d a n : Nat) : (s.freshen d a n).lane = s.lane := rfl
@[simp] theorem State.freshen_spokes (d a n : Nat) : (s.freshen d a n).spokes = s.spokes := rfl
@[simp] theorem State.freshen_pwr (d a n : Nat) : (s.freshen d a n).pwr = s.pwr := rfl
@[simp] theorem State.freshen_thm (d a n : Nat) : (s.freshen d a n).thm = s.thm := rfl
@[simp] theorem State.freshen_boot (d a n : Nat) : (s.freshen d a n).boot = s.boot := rfl
@[simp] theorem State.freshen_sys (d a n : Nat) : (s.freshen d a n).sys = s.sys := rfl
@[simp] theorem State.freshen_sec (d a n : Nat) : (s.freshen d a n).sec = s.sec := rfl
@[simp] theorem State.freshen_flash (d a n : Nat) : (s.freshen d a n).flash = s.flash := rfl
@[simp] theorem State.freshen_fab (d a n : Nat) : (s.freshen d a n).fab = s.fab := rfl
@[simp] theorem State.freshen_gt (d a n : Nat) : (s.freshen d a n).gt = s.gt := rfl
@[simp] theorem State.freshen_flt (d a n : Nat) : (s.freshen d a n).flt = s.flt := rfl
@[simp] theorem State.freshen_host (d a n : Nat) : (s.freshen d a n).host = s.host := rfl
@[simp] theorem State.freshen_dict (d a n : Nat) : (s.freshen d a n).dict = s.dict := rfl
@[simp] theorem State.freshen_out (d a n : Nat) : (s.freshen d a n).out = s.out := rfl
@[simp] theorem State.freshen_pending (d a n : Nat) : (s.freshen d a n).pending = s.pending := rfl

/-! ### State.modBank -/

@[simp] theorem State.modBank_time (b : Nat) (f : BankSt → BankSt) : (s.modBank b f).time = s.time := rfl
@[simp] theorem State.modBank_draw (b : Nat) (f : BankSt → BankSt) : (s.modBank b f).draw = s.draw := rfl
@[simp] theorem State.modBank_mem (b : Nat) (f : BankSt → BankSt) : (s.modBank b f).mem = s.mem := rfl
@[simp] theorem State.modBank_tiles (b : Nat) (f : BankSt → BankSt) : (s.modBank b f).tiles = s.tiles := rfl
@[simp] theorem State.modBank_badWords (b : Nat) (f : BankSt → BankSt) : (s.modBank b f).badWords = s.badWords := rfl
@[simp] theorem State.modBank_badTags (b : Nat) (f : BankSt → BankSt) : (s.modBank b f).badTags = s.badTags := rfl
@[simp] theorem State.modBank_badBursts (b : Nat) (f : BankSt → BankSt) : (s.modBank b f).badBursts = s.badBursts := rfl
@[simp] theorem State.modBank_races (b : Nat) (f : BankSt → BankSt) : (s.modBank b f).races = s.races := rfl
@[simp] theorem State.modBank_cores (b : Nat) (f : BankSt → BankSt) : (s.modBank b f).cores = s.cores := rfl
@[simp] theorem State.modBank_dies (b : Nat) (f : BankSt → BankSt) : (s.modBank b f).dies = s.dies := rfl
@[simp] theorem State.modBank_lights (b : Nat) (f : BankSt → BankSt) : (s.modBank b f).lights = s.lights := rfl
@[simp] theorem State.modBank_ports (b : Nat) (f : BankSt → BankSt) : (s.modBank b f).ports = s.ports := rfl
@[simp] theorem State.modBank_elm (b : Nat) (f : BankSt → BankSt) : (s.modBank b f).elm = s.elm := rfl
@[simp] theorem State.modBank_lane (b : Nat) (f : BankSt → BankSt) : (s.modBank b f).lane = s.lane := rfl
@[simp] theorem State.modBank_spokes (b : Nat) (f : BankSt → BankSt) : (s.modBank b f).spokes = s.spokes := rfl
@[simp] theorem State.modBank_pwr (b : Nat) (f : BankSt → BankSt) : (s.modBank b f).pwr = s.pwr := rfl
@[simp] theorem State.modBank_thm (b : Nat) (f : BankSt → BankSt) : (s.modBank b f).thm = s.thm := rfl
@[simp] theorem State.modBank_boot (b : Nat) (f : BankSt → BankSt) : (s.modBank b f).boot = s.boot := rfl
@[simp] theorem State.modBank_sys (b : Nat) (f : BankSt → BankSt) : (s.modBank b f).sys = s.sys := rfl
@[simp] theorem State.modBank_sec (b : Nat) (f : BankSt → BankSt) : (s.modBank b f).sec = s.sec := rfl
@[simp] theorem State.modBank_flash (b : Nat) (f : BankSt → BankSt) : (s.modBank b f).flash = s.flash := rfl
@[simp] theorem State.modBank_fab (b : Nat) (f : BankSt → BankSt) : (s.modBank b f).fab = s.fab := rfl
@[simp] theorem State.modBank_gt (b : Nat) (f : BankSt → BankSt) : (s.modBank b f).gt = s.gt := rfl
@[simp] theorem State.modBank_flt (b : Nat) (f : BankSt → BankSt) : (s.modBank b f).flt = s.flt := rfl
@[simp] theorem State.modBank_host (b : Nat) (f : BankSt → BankSt) : (s.modBank b f).host = s.host := rfl
@[simp] theorem State.modBank_dict (b : Nat) (f : BankSt → BankSt) : (s.modBank b f).dict = s.dict := rfl
@[simp] theorem State.modBank_out (b : Nat) (f : BankSt → BankSt) : (s.modBank b f).out = s.out := rfl
@[simp] theorem State.modBank_pending (b : Nat) (f : BankSt → BankSt) : (s.modBank b f).pending = s.pending := rfl

/-! ### State.modPort -/

@[simp] theorem State.modPort_time (p : Nat) (f : PortSt → PortSt) : (s.modPort p f).time = s.time := rfl
@[simp] theorem State.modPort_draw (p : Nat) (f : PortSt → PortSt) : (s.modPort p f).draw = s.draw := rfl
@[simp] theorem State.modPort_mem (p : Nat) (f : PortSt → PortSt) : (s.modPort p f).mem = s.mem := rfl
@[simp] theorem State.modPort_tiles (p : Nat) (f : PortSt → PortSt) : (s.modPort p f).tiles = s.tiles := rfl
@[simp] theorem State.modPort_badWords (p : Nat) (f : PortSt → PortSt) : (s.modPort p f).badWords = s.badWords := rfl
@[simp] theorem State.modPort_badTags (p : Nat) (f : PortSt → PortSt) : (s.modPort p f).badTags = s.badTags := rfl
@[simp] theorem State.modPort_badBursts (p : Nat) (f : PortSt → PortSt) : (s.modPort p f).badBursts = s.badBursts := rfl
@[simp] theorem State.modPort_races (p : Nat) (f : PortSt → PortSt) : (s.modPort p f).races = s.races := rfl
@[simp] theorem State.modPort_cores (p : Nat) (f : PortSt → PortSt) : (s.modPort p f).cores = s.cores := rfl
@[simp] theorem State.modPort_dies (p : Nat) (f : PortSt → PortSt) : (s.modPort p f).dies = s.dies := rfl
@[simp] theorem State.modPort_lights (p : Nat) (f : PortSt → PortSt) : (s.modPort p f).lights = s.lights := rfl
@[simp] theorem State.modPort_banks (p : Nat) (f : PortSt → PortSt) : (s.modPort p f).banks = s.banks := rfl
@[simp] theorem State.modPort_elm (p : Nat) (f : PortSt → PortSt) : (s.modPort p f).elm = s.elm := rfl
@[simp] theorem State.modPort_lane (p : Nat) (f : PortSt → PortSt) : (s.modPort p f).lane = s.lane := rfl
@[simp] theorem State.modPort_spokes (p : Nat) (f : PortSt → PortSt) : (s.modPort p f).spokes = s.spokes := rfl
@[simp] theorem State.modPort_pwr (p : Nat) (f : PortSt → PortSt) : (s.modPort p f).pwr = s.pwr := rfl
@[simp] theorem State.modPort_thm (p : Nat) (f : PortSt → PortSt) : (s.modPort p f).thm = s.thm := rfl
@[simp] theorem State.modPort_boot (p : Nat) (f : PortSt → PortSt) : (s.modPort p f).boot = s.boot := rfl
@[simp] theorem State.modPort_sys (p : Nat) (f : PortSt → PortSt) : (s.modPort p f).sys = s.sys := rfl
@[simp] theorem State.modPort_sec (p : Nat) (f : PortSt → PortSt) : (s.modPort p f).sec = s.sec := rfl
@[simp] theorem State.modPort_flash (p : Nat) (f : PortSt → PortSt) : (s.modPort p f).flash = s.flash := rfl
@[simp] theorem State.modPort_fab (p : Nat) (f : PortSt → PortSt) : (s.modPort p f).fab = s.fab := rfl
@[simp] theorem State.modPort_gt (p : Nat) (f : PortSt → PortSt) : (s.modPort p f).gt = s.gt := rfl
@[simp] theorem State.modPort_flt (p : Nat) (f : PortSt → PortSt) : (s.modPort p f).flt = s.flt := rfl
@[simp] theorem State.modPort_host (p : Nat) (f : PortSt → PortSt) : (s.modPort p f).host = s.host := rfl
@[simp] theorem State.modPort_dict (p : Nat) (f : PortSt → PortSt) : (s.modPort p f).dict = s.dict := rfl
@[simp] theorem State.modPort_out (p : Nat) (f : PortSt → PortSt) : (s.modPort p f).out = s.out := rfl
@[simp] theorem State.modPort_pending (p : Nat) (f : PortSt → PortSt) : (s.modPort p f).pending = s.pending := rfl

/-! ### State.modLight -/

@[simp] theorem State.modLight_time (l : Nat) (f : LightSt → LightSt) : (s.modLight l f).time = s.time := rfl
@[simp] theorem State.modLight_draw (l : Nat) (f : LightSt → LightSt) : (s.modLight l f).draw = s.draw := rfl
@[simp] theorem State.modLight_mem (l : Nat) (f : LightSt → LightSt) : (s.modLight l f).mem = s.mem := rfl
@[simp] theorem State.modLight_tiles (l : Nat) (f : LightSt → LightSt) : (s.modLight l f).tiles = s.tiles := rfl
@[simp] theorem State.modLight_badWords (l : Nat) (f : LightSt → LightSt) : (s.modLight l f).badWords = s.badWords := rfl
@[simp] theorem State.modLight_badTags (l : Nat) (f : LightSt → LightSt) : (s.modLight l f).badTags = s.badTags := rfl
@[simp] theorem State.modLight_badBursts (l : Nat) (f : LightSt → LightSt) : (s.modLight l f).badBursts = s.badBursts := rfl
@[simp] theorem State.modLight_races (l : Nat) (f : LightSt → LightSt) : (s.modLight l f).races = s.races := rfl
@[simp] theorem State.modLight_cores (l : Nat) (f : LightSt → LightSt) : (s.modLight l f).cores = s.cores := rfl
@[simp] theorem State.modLight_dies (l : Nat) (f : LightSt → LightSt) : (s.modLight l f).dies = s.dies := rfl
@[simp] theorem State.modLight_banks (l : Nat) (f : LightSt → LightSt) : (s.modLight l f).banks = s.banks := rfl
@[simp] theorem State.modLight_ports (l : Nat) (f : LightSt → LightSt) : (s.modLight l f).ports = s.ports := rfl
@[simp] theorem State.modLight_elm (l : Nat) (f : LightSt → LightSt) : (s.modLight l f).elm = s.elm := rfl
@[simp] theorem State.modLight_lane (l : Nat) (f : LightSt → LightSt) : (s.modLight l f).lane = s.lane := rfl
@[simp] theorem State.modLight_spokes (l : Nat) (f : LightSt → LightSt) : (s.modLight l f).spokes = s.spokes := rfl
@[simp] theorem State.modLight_pwr (l : Nat) (f : LightSt → LightSt) : (s.modLight l f).pwr = s.pwr := rfl
@[simp] theorem State.modLight_thm (l : Nat) (f : LightSt → LightSt) : (s.modLight l f).thm = s.thm := rfl
@[simp] theorem State.modLight_boot (l : Nat) (f : LightSt → LightSt) : (s.modLight l f).boot = s.boot := rfl
@[simp] theorem State.modLight_sys (l : Nat) (f : LightSt → LightSt) : (s.modLight l f).sys = s.sys := rfl
@[simp] theorem State.modLight_sec (l : Nat) (f : LightSt → LightSt) : (s.modLight l f).sec = s.sec := rfl
@[simp] theorem State.modLight_flash (l : Nat) (f : LightSt → LightSt) : (s.modLight l f).flash = s.flash := rfl
@[simp] theorem State.modLight_fab (l : Nat) (f : LightSt → LightSt) : (s.modLight l f).fab = s.fab := rfl
@[simp] theorem State.modLight_gt (l : Nat) (f : LightSt → LightSt) : (s.modLight l f).gt = s.gt := rfl
@[simp] theorem State.modLight_flt (l : Nat) (f : LightSt → LightSt) : (s.modLight l f).flt = s.flt := rfl
@[simp] theorem State.modLight_host (l : Nat) (f : LightSt → LightSt) : (s.modLight l f).host = s.host := rfl
@[simp] theorem State.modLight_dict (l : Nat) (f : LightSt → LightSt) : (s.modLight l f).dict = s.dict := rfl
@[simp] theorem State.modLight_out (l : Nat) (f : LightSt → LightSt) : (s.modLight l f).out = s.out := rfl
@[simp] theorem State.modLight_pending (l : Nat) (f : LightSt → LightSt) : (s.modLight l f).pending = s.pending := rfl

/-! ### State.modBundle -/

@[simp] theorem State.modBundle_time (e b : Nat) (f : BundleSt → BundleSt) : (s.modBundle e b f).time = s.time := rfl
@[simp] theorem State.modBundle_draw (e b : Nat) (f : BundleSt → BundleSt) : (s.modBundle e b f).draw = s.draw := rfl
@[simp] theorem State.modBundle_mem (e b : Nat) (f : BundleSt → BundleSt) : (s.modBundle e b f).mem = s.mem := rfl
@[simp] theorem State.modBundle_tiles (e b : Nat) (f : BundleSt → BundleSt) : (s.modBundle e b f).tiles = s.tiles := rfl
@[simp] theorem State.modBundle_badWords (e b : Nat) (f : BundleSt → BundleSt) : (s.modBundle e b f).badWords = s.badWords := rfl
@[simp] theorem State.modBundle_badTags (e b : Nat) (f : BundleSt → BundleSt) : (s.modBundle e b f).badTags = s.badTags := rfl
@[simp] theorem State.modBundle_badBursts (e b : Nat) (f : BundleSt → BundleSt) : (s.modBundle e b f).badBursts = s.badBursts := rfl
@[simp] theorem State.modBundle_races (e b : Nat) (f : BundleSt → BundleSt) : (s.modBundle e b f).races = s.races := rfl
@[simp] theorem State.modBundle_cores (e b : Nat) (f : BundleSt → BundleSt) : (s.modBundle e b f).cores = s.cores := rfl
@[simp] theorem State.modBundle_dies (e b : Nat) (f : BundleSt → BundleSt) : (s.modBundle e b f).dies = s.dies := rfl
@[simp] theorem State.modBundle_lights (e b : Nat) (f : BundleSt → BundleSt) : (s.modBundle e b f).lights = s.lights := rfl
@[simp] theorem State.modBundle_banks (e b : Nat) (f : BundleSt → BundleSt) : (s.modBundle e b f).banks = s.banks := rfl
@[simp] theorem State.modBundle_ports (e b : Nat) (f : BundleSt → BundleSt) : (s.modBundle e b f).ports = s.ports := rfl
@[simp] theorem State.modBundle_elm (e b : Nat) (f : BundleSt → BundleSt) : (s.modBundle e b f).elm = s.elm := rfl
@[simp] theorem State.modBundle_spokes (e b : Nat) (f : BundleSt → BundleSt) : (s.modBundle e b f).spokes = s.spokes := rfl
@[simp] theorem State.modBundle_pwr (e b : Nat) (f : BundleSt → BundleSt) : (s.modBundle e b f).pwr = s.pwr := rfl
@[simp] theorem State.modBundle_thm (e b : Nat) (f : BundleSt → BundleSt) : (s.modBundle e b f).thm = s.thm := rfl
@[simp] theorem State.modBundle_boot (e b : Nat) (f : BundleSt → BundleSt) : (s.modBundle e b f).boot = s.boot := rfl
@[simp] theorem State.modBundle_sys (e b : Nat) (f : BundleSt → BundleSt) : (s.modBundle e b f).sys = s.sys := rfl
@[simp] theorem State.modBundle_sec (e b : Nat) (f : BundleSt → BundleSt) : (s.modBundle e b f).sec = s.sec := rfl
@[simp] theorem State.modBundle_flash (e b : Nat) (f : BundleSt → BundleSt) : (s.modBundle e b f).flash = s.flash := rfl
@[simp] theorem State.modBundle_fab (e b : Nat) (f : BundleSt → BundleSt) : (s.modBundle e b f).fab = s.fab := rfl
@[simp] theorem State.modBundle_gt (e b : Nat) (f : BundleSt → BundleSt) : (s.modBundle e b f).gt = s.gt := rfl
@[simp] theorem State.modBundle_flt (e b : Nat) (f : BundleSt → BundleSt) : (s.modBundle e b f).flt = s.flt := rfl
@[simp] theorem State.modBundle_host (e b : Nat) (f : BundleSt → BundleSt) : (s.modBundle e b f).host = s.host := rfl
@[simp] theorem State.modBundle_dict (e b : Nat) (f : BundleSt → BundleSt) : (s.modBundle e b f).dict = s.dict := rfl
@[simp] theorem State.modBundle_out (e b : Nat) (f : BundleSt → BundleSt) : (s.modBundle e b f).out = s.out := rfl
@[simp] theorem State.modBundle_pending (e b : Nat) (f : BundleSt → BundleSt) : (s.modBundle e b f).pending = s.pending := rfl

/-! ### State.modSpoke -/

@[simp] theorem State.modSpoke_time (k : Nat) (f : SpokeSt → SpokeSt) : (s.modSpoke k f).time = s.time := rfl
@[simp] theorem State.modSpoke_draw (k : Nat) (f : SpokeSt → SpokeSt) : (s.modSpoke k f).draw = s.draw := rfl
@[simp] theorem State.modSpoke_mem (k : Nat) (f : SpokeSt → SpokeSt) : (s.modSpoke k f).mem = s.mem := rfl
@[simp] theorem State.modSpoke_tiles (k : Nat) (f : SpokeSt → SpokeSt) : (s.modSpoke k f).tiles = s.tiles := rfl
@[simp] theorem State.modSpoke_badWords (k : Nat) (f : SpokeSt → SpokeSt) : (s.modSpoke k f).badWords = s.badWords := rfl
@[simp] theorem State.modSpoke_badTags (k : Nat) (f : SpokeSt → SpokeSt) : (s.modSpoke k f).badTags = s.badTags := rfl
@[simp] theorem State.modSpoke_badBursts (k : Nat) (f : SpokeSt → SpokeSt) : (s.modSpoke k f).badBursts = s.badBursts := rfl
@[simp] theorem State.modSpoke_races (k : Nat) (f : SpokeSt → SpokeSt) : (s.modSpoke k f).races = s.races := rfl
@[simp] theorem State.modSpoke_cores (k : Nat) (f : SpokeSt → SpokeSt) : (s.modSpoke k f).cores = s.cores := rfl
@[simp] theorem State.modSpoke_dies (k : Nat) (f : SpokeSt → SpokeSt) : (s.modSpoke k f).dies = s.dies := rfl
@[simp] theorem State.modSpoke_lights (k : Nat) (f : SpokeSt → SpokeSt) : (s.modSpoke k f).lights = s.lights := rfl
@[simp] theorem State.modSpoke_banks (k : Nat) (f : SpokeSt → SpokeSt) : (s.modSpoke k f).banks = s.banks := rfl
@[simp] theorem State.modSpoke_ports (k : Nat) (f : SpokeSt → SpokeSt) : (s.modSpoke k f).ports = s.ports := rfl
@[simp] theorem State.modSpoke_elm (k : Nat) (f : SpokeSt → SpokeSt) : (s.modSpoke k f).elm = s.elm := rfl
@[simp] theorem State.modSpoke_lane (k : Nat) (f : SpokeSt → SpokeSt) : (s.modSpoke k f).lane = s.lane := rfl
@[simp] theorem State.modSpoke_pwr (k : Nat) (f : SpokeSt → SpokeSt) : (s.modSpoke k f).pwr = s.pwr := rfl
@[simp] theorem State.modSpoke_thm (k : Nat) (f : SpokeSt → SpokeSt) : (s.modSpoke k f).thm = s.thm := rfl
@[simp] theorem State.modSpoke_boot (k : Nat) (f : SpokeSt → SpokeSt) : (s.modSpoke k f).boot = s.boot := rfl
@[simp] theorem State.modSpoke_sys (k : Nat) (f : SpokeSt → SpokeSt) : (s.modSpoke k f).sys = s.sys := rfl
@[simp] theorem State.modSpoke_sec (k : Nat) (f : SpokeSt → SpokeSt) : (s.modSpoke k f).sec = s.sec := rfl
@[simp] theorem State.modSpoke_flash (k : Nat) (f : SpokeSt → SpokeSt) : (s.modSpoke k f).flash = s.flash := rfl
@[simp] theorem State.modSpoke_fab (k : Nat) (f : SpokeSt → SpokeSt) : (s.modSpoke k f).fab = s.fab := rfl
@[simp] theorem State.modSpoke_gt (k : Nat) (f : SpokeSt → SpokeSt) : (s.modSpoke k f).gt = s.gt := rfl
@[simp] theorem State.modSpoke_flt (k : Nat) (f : SpokeSt → SpokeSt) : (s.modSpoke k f).flt = s.flt := rfl
@[simp] theorem State.modSpoke_host (k : Nat) (f : SpokeSt → SpokeSt) : (s.modSpoke k f).host = s.host := rfl
@[simp] theorem State.modSpoke_dict (k : Nat) (f : SpokeSt → SpokeSt) : (s.modSpoke k f).dict = s.dict := rfl
@[simp] theorem State.modSpoke_out (k : Nat) (f : SpokeSt → SpokeSt) : (s.modSpoke k f).out = s.out := rfl
@[simp] theorem State.modSpoke_pending (k : Nat) (f : SpokeSt → SpokeSt) : (s.modSpoke k f).pending = s.pending := rfl

/-! ### State.modGtPort -/

@[simp] theorem State.modGtPort_time (p : Nat) (f : GtPort → GtPort) : (s.modGtPort p f).time = s.time := rfl
@[simp] theorem State.modGtPort_draw (p : Nat) (f : GtPort → GtPort) : (s.modGtPort p f).draw = s.draw := rfl
@[simp] theorem State.modGtPort_mem (p : Nat) (f : GtPort → GtPort) : (s.modGtPort p f).mem = s.mem := rfl
@[simp] theorem State.modGtPort_tiles (p : Nat) (f : GtPort → GtPort) : (s.modGtPort p f).tiles = s.tiles := rfl
@[simp] theorem State.modGtPort_badWords (p : Nat) (f : GtPort → GtPort) : (s.modGtPort p f).badWords = s.badWords := rfl
@[simp] theorem State.modGtPort_badTags (p : Nat) (f : GtPort → GtPort) : (s.modGtPort p f).badTags = s.badTags := rfl
@[simp] theorem State.modGtPort_badBursts (p : Nat) (f : GtPort → GtPort) : (s.modGtPort p f).badBursts = s.badBursts := rfl
@[simp] theorem State.modGtPort_races (p : Nat) (f : GtPort → GtPort) : (s.modGtPort p f).races = s.races := rfl
@[simp] theorem State.modGtPort_cores (p : Nat) (f : GtPort → GtPort) : (s.modGtPort p f).cores = s.cores := rfl
@[simp] theorem State.modGtPort_dies (p : Nat) (f : GtPort → GtPort) : (s.modGtPort p f).dies = s.dies := rfl
@[simp] theorem State.modGtPort_lights (p : Nat) (f : GtPort → GtPort) : (s.modGtPort p f).lights = s.lights := rfl
@[simp] theorem State.modGtPort_banks (p : Nat) (f : GtPort → GtPort) : (s.modGtPort p f).banks = s.banks := rfl
@[simp] theorem State.modGtPort_ports (p : Nat) (f : GtPort → GtPort) : (s.modGtPort p f).ports = s.ports := rfl
@[simp] theorem State.modGtPort_elm (p : Nat) (f : GtPort → GtPort) : (s.modGtPort p f).elm = s.elm := rfl
@[simp] theorem State.modGtPort_lane (p : Nat) (f : GtPort → GtPort) : (s.modGtPort p f).lane = s.lane := rfl
@[simp] theorem State.modGtPort_spokes (p : Nat) (f : GtPort → GtPort) : (s.modGtPort p f).spokes = s.spokes := rfl
@[simp] theorem State.modGtPort_pwr (p : Nat) (f : GtPort → GtPort) : (s.modGtPort p f).pwr = s.pwr := rfl
@[simp] theorem State.modGtPort_thm (p : Nat) (f : GtPort → GtPort) : (s.modGtPort p f).thm = s.thm := rfl
@[simp] theorem State.modGtPort_boot (p : Nat) (f : GtPort → GtPort) : (s.modGtPort p f).boot = s.boot := rfl
@[simp] theorem State.modGtPort_sys (p : Nat) (f : GtPort → GtPort) : (s.modGtPort p f).sys = s.sys := rfl
@[simp] theorem State.modGtPort_sec (p : Nat) (f : GtPort → GtPort) : (s.modGtPort p f).sec = s.sec := rfl
@[simp] theorem State.modGtPort_flash (p : Nat) (f : GtPort → GtPort) : (s.modGtPort p f).flash = s.flash := rfl
@[simp] theorem State.modGtPort_fab (p : Nat) (f : GtPort → GtPort) : (s.modGtPort p f).fab = s.fab := rfl
@[simp] theorem State.modGtPort_flt (p : Nat) (f : GtPort → GtPort) : (s.modGtPort p f).flt = s.flt := rfl
@[simp] theorem State.modGtPort_host (p : Nat) (f : GtPort → GtPort) : (s.modGtPort p f).host = s.host := rfl
@[simp] theorem State.modGtPort_dict (p : Nat) (f : GtPort → GtPort) : (s.modGtPort p f).dict = s.dict := rfl
@[simp] theorem State.modGtPort_out (p : Nat) (f : GtPort → GtPort) : (s.modGtPort p f).out = s.out := rfl
@[simp] theorem State.modGtPort_pending (p : Nat) (f : GtPort → GtPort) : (s.modGtPort p f).pending = s.pending := rfl

/-! ### State.setLog -/

@[simp] theorem State.setLog_time (i : Nat) (e : LogEntry) : (s.setLog i e).time = s.time := rfl
@[simp] theorem State.setLog_draw (i : Nat) (e : LogEntry) : (s.setLog i e).draw = s.draw := rfl
@[simp] theorem State.setLog_mem (i : Nat) (e : LogEntry) : (s.setLog i e).mem = s.mem := rfl
@[simp] theorem State.setLog_tiles (i : Nat) (e : LogEntry) : (s.setLog i e).tiles = s.tiles := rfl
@[simp] theorem State.setLog_badWords (i : Nat) (e : LogEntry) : (s.setLog i e).badWords = s.badWords := rfl
@[simp] theorem State.setLog_badTags (i : Nat) (e : LogEntry) : (s.setLog i e).badTags = s.badTags := rfl
@[simp] theorem State.setLog_badBursts (i : Nat) (e : LogEntry) : (s.setLog i e).badBursts = s.badBursts := rfl
@[simp] theorem State.setLog_races (i : Nat) (e : LogEntry) : (s.setLog i e).races = s.races := rfl
@[simp] theorem State.setLog_cores (i : Nat) (e : LogEntry) : (s.setLog i e).cores = s.cores := rfl
@[simp] theorem State.setLog_dies (i : Nat) (e : LogEntry) : (s.setLog i e).dies = s.dies := rfl
@[simp] theorem State.setLog_lights (i : Nat) (e : LogEntry) : (s.setLog i e).lights = s.lights := rfl
@[simp] theorem State.setLog_banks (i : Nat) (e : LogEntry) : (s.setLog i e).banks = s.banks := rfl
@[simp] theorem State.setLog_ports (i : Nat) (e : LogEntry) : (s.setLog i e).ports = s.ports := rfl
@[simp] theorem State.setLog_elm (i : Nat) (e : LogEntry) : (s.setLog i e).elm = s.elm := rfl
@[simp] theorem State.setLog_lane (i : Nat) (e : LogEntry) : (s.setLog i e).lane = s.lane := rfl
@[simp] theorem State.setLog_spokes (i : Nat) (e : LogEntry) : (s.setLog i e).spokes = s.spokes := rfl
@[simp] theorem State.setLog_pwr (i : Nat) (e : LogEntry) : (s.setLog i e).pwr = s.pwr := rfl
@[simp] theorem State.setLog_thm (i : Nat) (e : LogEntry) : (s.setLog i e).thm = s.thm := rfl
@[simp] theorem State.setLog_boot (i : Nat) (e : LogEntry) : (s.setLog i e).boot = s.boot := rfl
@[simp] theorem State.setLog_sys (i : Nat) (e : LogEntry) : (s.setLog i e).sys = s.sys := rfl
@[simp] theorem State.setLog_sec (i : Nat) (e : LogEntry) : (s.setLog i e).sec = s.sec := rfl
@[simp] theorem State.setLog_flash (i : Nat) (e : LogEntry) : (s.setLog i e).flash = s.flash := rfl
@[simp] theorem State.setLog_fab (i : Nat) (e : LogEntry) : (s.setLog i e).fab = s.fab := rfl
@[simp] theorem State.setLog_gt (i : Nat) (e : LogEntry) : (s.setLog i e).gt = s.gt := rfl
@[simp] theorem State.setLog_host (i : Nat) (e : LogEntry) : (s.setLog i e).host = s.host := rfl
@[simp] theorem State.setLog_dict (i : Nat) (e : LogEntry) : (s.setLog i e).dict = s.dict := rfl
@[simp] theorem State.setLog_out (i : Nat) (e : LogEntry) : (s.setLog i e).out = s.out := rfl
@[simp] theorem State.setLog_pending (i : Nat) (e : LogEntry) : (s.setLog i e).pending = s.pending := rfl

/-! ### Interrupts -/

@[simp] theorem State.raiseVec_time (v : Nat) : (s.raiseVec v).time = s.time := by unfold State.raiseVec; split <;> rfl
@[simp] theorem State.raiseVec_draw (v : Nat) : (s.raiseVec v).draw = s.draw := by unfold State.raiseVec; split <;> rfl
@[simp] theorem State.raiseVec_mem (v : Nat) : (s.raiseVec v).mem = s.mem := by unfold State.raiseVec; split <;> rfl
@[simp] theorem State.raiseVec_tiles (v : Nat) : (s.raiseVec v).tiles = s.tiles := by unfold State.raiseVec; split <;> rfl
@[simp] theorem State.raiseVec_badWords (v : Nat) : (s.raiseVec v).badWords = s.badWords := by unfold State.raiseVec; split <;> rfl
@[simp] theorem State.raiseVec_badTags (v : Nat) : (s.raiseVec v).badTags = s.badTags := by unfold State.raiseVec; split <;> rfl
@[simp] theorem State.raiseVec_badBursts (v : Nat) : (s.raiseVec v).badBursts = s.badBursts := by unfold State.raiseVec; split <;> rfl
@[simp] theorem State.raiseVec_races (v : Nat) : (s.raiseVec v).races = s.races := by unfold State.raiseVec; split <;> rfl
@[simp] theorem State.raiseVec_cores (v : Nat) : (s.raiseVec v).cores = s.cores := by unfold State.raiseVec; split <;> rfl
@[simp] theorem State.raiseVec_dies (v : Nat) : (s.raiseVec v).dies = s.dies := by unfold State.raiseVec; split <;> rfl
@[simp] theorem State.raiseVec_lights (v : Nat) : (s.raiseVec v).lights = s.lights := by unfold State.raiseVec; split <;> rfl
@[simp] theorem State.raiseVec_banks (v : Nat) : (s.raiseVec v).banks = s.banks := by unfold State.raiseVec; split <;> rfl
@[simp] theorem State.raiseVec_ports (v : Nat) : (s.raiseVec v).ports = s.ports := by unfold State.raiseVec; split <;> rfl
@[simp] theorem State.raiseVec_elm (v : Nat) : (s.raiseVec v).elm = s.elm := by unfold State.raiseVec; split <;> rfl
@[simp] theorem State.raiseVec_lane (v : Nat) : (s.raiseVec v).lane = s.lane := by unfold State.raiseVec; split <;> rfl
@[simp] theorem State.raiseVec_spokes (v : Nat) : (s.raiseVec v).spokes = s.spokes := by unfold State.raiseVec; split <;> rfl
@[simp] theorem State.raiseVec_pwr (v : Nat) : (s.raiseVec v).pwr = s.pwr := by unfold State.raiseVec; split <;> rfl
@[simp] theorem State.raiseVec_thm (v : Nat) : (s.raiseVec v).thm = s.thm := by unfold State.raiseVec; split <;> rfl
@[simp] theorem State.raiseVec_boot (v : Nat) : (s.raiseVec v).boot = s.boot := by unfold State.raiseVec; split <;> rfl
@[simp] theorem State.raiseVec_sys (v : Nat) : (s.raiseVec v).sys = s.sys := by unfold State.raiseVec; split <;> rfl
@[simp] theorem State.raiseVec_sec (v : Nat) : (s.raiseVec v).sec = s.sec := by unfold State.raiseVec; split <;> rfl
@[simp] theorem State.raiseVec_flash (v : Nat) : (s.raiseVec v).flash = s.flash := by unfold State.raiseVec; split <;> rfl
@[simp] theorem State.raiseVec_fab (v : Nat) : (s.raiseVec v).fab = s.fab := by unfold State.raiseVec; split <;> rfl
@[simp] theorem State.raiseVec_gt (v : Nat) : (s.raiseVec v).gt = s.gt := by unfold State.raiseVec; split <;> rfl
@[simp] theorem State.raiseVec_flt (v : Nat) : (s.raiseVec v).flt = s.flt := by unfold State.raiseVec; split <;> rfl
@[simp] theorem State.raiseVec_dict (v : Nat) : (s.raiseVec v).dict = s.dict := by unfold State.raiseVec; split <;> rfl
@[simp] theorem State.raiseVec_pending (v : Nat) : (s.raiseVec v).pending = s.pending := by unfold State.raiseVec; split <;> rfl
@[simp] theorem State.hostEvent_time (b : Nat) : (s.hostEvent b).time = s.time := by unfold State.hostEvent; split <;> simp
@[simp] theorem State.hostEvent_draw (b : Nat) : (s.hostEvent b).draw = s.draw := by unfold State.hostEvent; split <;> simp
@[simp] theorem State.hostEvent_mem (b : Nat) : (s.hostEvent b).mem = s.mem := by unfold State.hostEvent; split <;> simp
@[simp] theorem State.hostEvent_tiles (b : Nat) : (s.hostEvent b).tiles = s.tiles := by unfold State.hostEvent; split <;> simp
@[simp] theorem State.hostEvent_badWords (b : Nat) : (s.hostEvent b).badWords = s.badWords := by unfold State.hostEvent; split <;> simp
@[simp] theorem State.hostEvent_badTags (b : Nat) : (s.hostEvent b).badTags = s.badTags := by unfold State.hostEvent; split <;> simp
@[simp] theorem State.hostEvent_badBursts (b : Nat) : (s.hostEvent b).badBursts = s.badBursts := by unfold State.hostEvent; split <;> simp
@[simp] theorem State.hostEvent_races (b : Nat) : (s.hostEvent b).races = s.races := by unfold State.hostEvent; split <;> simp
@[simp] theorem State.hostEvent_cores (b : Nat) : (s.hostEvent b).cores = s.cores := by unfold State.hostEvent; split <;> simp
@[simp] theorem State.hostEvent_dies (b : Nat) : (s.hostEvent b).dies = s.dies := by unfold State.hostEvent; split <;> simp
@[simp] theorem State.hostEvent_lights (b : Nat) : (s.hostEvent b).lights = s.lights := by unfold State.hostEvent; split <;> simp
@[simp] theorem State.hostEvent_banks (b : Nat) : (s.hostEvent b).banks = s.banks := by unfold State.hostEvent; split <;> simp
@[simp] theorem State.hostEvent_ports (b : Nat) : (s.hostEvent b).ports = s.ports := by unfold State.hostEvent; split <;> simp
@[simp] theorem State.hostEvent_elm (b : Nat) : (s.hostEvent b).elm = s.elm := by unfold State.hostEvent; split <;> simp
@[simp] theorem State.hostEvent_lane (b : Nat) : (s.hostEvent b).lane = s.lane := by unfold State.hostEvent; split <;> simp
@[simp] theorem State.hostEvent_spokes (b : Nat) : (s.hostEvent b).spokes = s.spokes := by unfold State.hostEvent; split <;> simp
@[simp] theorem State.hostEvent_pwr (b : Nat) : (s.hostEvent b).pwr = s.pwr := by unfold State.hostEvent; split <;> simp
@[simp] theorem State.hostEvent_thm (b : Nat) : (s.hostEvent b).thm = s.thm := by unfold State.hostEvent; split <;> simp
@[simp] theorem State.hostEvent_boot (b : Nat) : (s.hostEvent b).boot = s.boot := by unfold State.hostEvent; split <;> simp
@[simp] theorem State.hostEvent_sys (b : Nat) : (s.hostEvent b).sys = s.sys := by unfold State.hostEvent; split <;> simp
@[simp] theorem State.hostEvent_sec (b : Nat) : (s.hostEvent b).sec = s.sec := by unfold State.hostEvent; split <;> simp
@[simp] theorem State.hostEvent_flash (b : Nat) : (s.hostEvent b).flash = s.flash := by unfold State.hostEvent; split <;> simp
@[simp] theorem State.hostEvent_fab (b : Nat) : (s.hostEvent b).fab = s.fab := by unfold State.hostEvent; split <;> simp
@[simp] theorem State.hostEvent_gt (b : Nat) : (s.hostEvent b).gt = s.gt := by unfold State.hostEvent; split <;> simp
@[simp] theorem State.hostEvent_flt (b : Nat) : (s.hostEvent b).flt = s.flt := by unfold State.hostEvent; split <;> simp
@[simp] theorem State.hostEvent_dict (b : Nat) : (s.hostEvent b).dict = s.dict := by unfold State.hostEvent; split <;> simp
@[simp] theorem State.hostEvent_pending (b : Nat) : (s.hostEvent b).pending = s.pending := by unfold State.hostEvent; split <;> simp

end Sys2Proof.Machine
end

