-- ==== Sys2Proof/Laws/Ops.lean ====
section
/-! SUPPORT. What the accessors read after an update: the stored value at the key, everything else as before; that every memory
operation keeps the canonical form; bytes of numbers. -/

namespace Sys2Proof.Machine

variable (s : State)

/-! ### modDie -/

theorem State.die_modDie (h : Rises s.dies) (i : Nat) (f : DieSt → DieSt) : (s.modDie i f).die i = f (s.die i) :=
  mapGet_mapSet_same _ _ _ _ h

theorem State.die_modDie_ne (i j : Nat) (f : DieSt → DieSt) (h : j ≠ i) : (s.modDie i f).die j = s.die j :=
  mapGet_mapSet_ne _ _ _ _ _ _ h

theorem State.modDie_rises (h : Rises s.dies) (i : Nat) (f : DieSt → DieSt) : Rises (s.modDie i f).dies := rises_mapSet _ _ _ _ h

/-! ### modBank -/

theorem State.bank_modBank (h : Rises s.banks) (i : Nat) (f : BankSt → BankSt) : (s.modBank i f).bank i = f (s.bank i) :=
  mapGet_mapSet_same _ _ _ _ h

theorem State.bank_modBank_ne (i j : Nat) (f : BankSt → BankSt) (h : j ≠ i) : (s.modBank i f).bank j = s.bank j :=
  mapGet_mapSet_ne _ _ _ _ _ _ h

theorem State.modBank_rises (h : Rises s.banks) (i : Nat) (f : BankSt → BankSt) : Rises (s.modBank i f).banks := rises_mapSet _ _ _ _ h

/-! ### modPort -/

theorem State.port_modPort (h : Rises s.ports) (i : Nat) (f : PortSt → PortSt) : (s.modPort i f).port i = f (s.port i) :=
  mapGet_mapSet_same _ _ _ _ h

theorem State.port_modPort_ne (i j : Nat) (f : PortSt → PortSt) (h : j ≠ i) : (s.modPort i f).port j = s.port j :=
  mapGet_mapSet_ne _ _ _ _ _ _ h

theorem State.modPort_rises (h : Rises s.ports) (i : Nat) (f : PortSt → PortSt) : Rises (s.modPort i f).ports := rises_mapSet _ _ _ _ h

/-! ### modLight -/

theorem State.light_modLight (h : Rises s.lights) (i : Nat) (f : LightSt → LightSt) : (s.modLight i f).light i = f (s.light i) :=
  mapGet_mapSet_same _ _ _ _ h

theorem State.light_modLight_ne (i j : Nat) (f : LightSt → LightSt) (h : j ≠ i) : (s.modLight i f).light j = s.light j :=
  mapGet_mapSet_ne _ _ _ _ _ _ h

theorem State.modLight_rises (h : Rises s.lights) (i : Nat) (f : LightSt → LightSt) : Rises (s.modLight i f).lights := rises_mapSet _ _ _ _ h

/-! ### modSpoke -/

theorem State.spoke_modSpoke (h : Rises s.spokes) (i : Nat) (f : SpokeSt → SpokeSt) : (s.modSpoke i f).spoke i = f (s.spoke i) :=
  mapGet_mapSet_same _ _ _ _ h

theorem State.spoke_modSpoke_ne (i j : Nat) (f : SpokeSt → SpokeSt) (h : j ≠ i) : (s.modSpoke i f).spoke j = s.spoke j :=
  mapGet_mapSet_ne _ _ _ _ _ _ h

theorem State.modSpoke_rises (h : Rises s.spokes) (i : Nat) (f : SpokeSt → SpokeSt) : Rises (s.modSpoke i f).spokes := rises_mapSet _ _ _ _ h

/-! ### modGtPort -/

theorem State.gtPort_modGtPort (h : Rises s.gt.ports) (i : Nat) (f : GtPort → GtPort) : (s.modGtPort i f).gtPort i = f (s.gtPort i) :=
  mapGet_mapSet_same _ _ _ _ h

theorem State.gtPort_modGtPort_ne (i j : Nat) (f : GtPort → GtPort) (h : j ≠ i) : (s.modGtPort i f).gtPort j = s.gtPort j :=
  mapGet_mapSet_ne _ _ _ _ _ _ h

theorem State.modGtPort_rises (h : Rises s.gt.ports) (i : Nat) (f : GtPort → GtPort) : Rises (s.modGtPort i f).gt.ports := rises_mapSet _ _ _ _ h

/-! ### Cores -/

theorem State.core_modCore (h : Rises s.cores) (d c : Nat) (f : CoreSt → CoreSt) : (s.modCore d c f).core d c = f (s.core d c) :=
  mapGet_mapSet_same _ _ _ _ h

theorem State.core_modCore_ne (d c i j : Nat) (f : CoreSt → CoreSt) (h : coreKey i j ≠ coreKey d c) :
    (s.modCore d c f).core i j = s.core i j := mapGet_mapSet_ne _ _ _ _ _ _ h

theorem State.modCore_rises (h : Rises s.cores) (d c : Nat) (f : CoreSt → CoreSt) : Rises (s.modCore d c f).cores :=
  rises_mapSet _ _ _ _ h

/-! ### Dictionary objects -/

theorem State.obj_setObj (h : Rises s.dict) (i j v : Nat) : (s.setObj i j v).obj i j = v := mapGet_mapSet_same _ _ _ _ h

theorem State.obj_setObj_ne (i j i' j' v : Nat) (h : objKey i' j' ≠ objKey i j) : (s.setObj i j v).obj i' j' = s.obj i' j' :=
  mapGet_mapSet_ne _ _ _ _ _ _ h

theorem State.setObj_rises (h : Rises s.dict) (i j v : Nat) : Rises (s.setObj i j v).dict := rises_mapSet _ _ _ _ h

/-- An object reads the same in two states with one table of objects. -/
theorem State.obj_congr (t : State) (h : t.dict = s.dict) (i j : Nat) : t.obj i j = s.obj i j := by
  simp [State.obj, h]

/-! ### Tiles and the log -/

theorem State.tile_setTile (h : Rises s.tiles) (d a : Nat) (x : TileInfo) : (s.setTile d a x).tile d a = x :=
  mapGet_mapSet_same _ _ _ _ h

theorem State.tile_setTile_ne (d a e b : Nat) (x : TileInfo) (h : tileKey e b ≠ tileKey d a) :
    (s.setTile d a x).tile e b = s.tile e b := mapGet_mapSet_ne _ _ _ _ _ _ h

theorem State.logAt_setLog (h : Rises s.flt.log) (i : Nat) (e : LogEntry) : (s.setLog i e).logAt i = some e :=
  mapGet_mapSet_same _ _ _ _ h

theorem State.logAt_setLog_ne (i j : Nat) (e : LogEntry) (h : j ≠ i) : (s.setLog i e).logAt j = s.logAt j :=
  mapGet_mapSet_ne _ _ _ _ _ _ h

/-! ### Memory -/

/-- Storing bytes keeps the canonical form. -/
theorem memPut_wf (bs : List Byte) : ∀ (m : List Host.Cell) (k : Nat), Memory.wf m = true → Memory.wf (memPut m k bs) = true := by
  induction bs with
  | nil => intro m k h; exact h
  | cons b bs ih => intro m k h; exact ih _ _ (mapWf_mapSet _ _ _ _ h)

theorem State.putBytes_wf (h : Memory.wf s.mem = true) (d a : Nat) (bs : List Byte) : Memory.wf (s.putBytes d a bs).mem = true :=
  memPut_wf bs _ _ h

theorem mapWfFrom_rises (m : List Host.Cell) : ∀ lo, mapWfFrom (0 : Byte) lo m = true →
    Rises m ∧ ∀ l, lo = some l → ∀ kv ∈ m, l < kv.1 := by
  induction m with
  | nil => intro lo _; exact ⟨List.Pairwise.nil, by simp⟩
  | cons a m ih =>
    obtain ⟨k, v⟩ := a
    intro lo h
    have hm : mapWfFrom (0 : Byte) (some k) m = true := by simp [mapWfFrom] at h; exact h.2
    have h3 := ih (some k) hm
    refine ⟨List.pairwise_cons.mpr ⟨fun kv hkv => h3.2 k rfl kv hkv, h3.1⟩, ?_⟩
    intro l hl kv hkv
    subst hl
    have h4 : l < k := by simp [mapWfFrom] at h; exact h.1.1
    rcases List.mem_cons.mp hkv with e | e
    · subst e; exact h4
    · exact Nat.lt_trans h4 (h3.2 k rfl kv e)

/-- Memory in canonical form rises. -/
theorem wf_rises (m : List Host.Cell) (h : Memory.wf m = true) : Rises m := (mapWfFrom_rises m none h).1

theorem memPut_get (bs : List Byte) : ∀ (m : List Host.Cell) (k j : Nat), Rises m →
    mapGet 0 (memPut m k bs) j = if h : k ≤ j ∧ j < k + bs.length then bs[j - k]'(by omega) else mapGet 0 m j := by
  induction bs with
  | nil => intro m k j _; simp [memPut] <;> omega
  | cons b bs ih =>
    intro m k j h
    simp only [memPut]
    rw [ih _ _ _ (rises_mapSet _ _ _ _ h)]
    by_cases hj : j = k
    · subst hj
      rw [dif_neg (by omega), dif_pos (by simp), mapGet_mapSet_same _ _ _ _ h]
      simp
    · by_cases h2 : k + 1 ≤ j ∧ j < k + 1 + bs.length
      · rw [dif_pos h2, dif_pos (by simp; omega)]
        have e : j - k = (j - (k + 1)) + 1 := by omega
        simp [e]
      · rw [dif_neg h2, dif_neg (by simp; omega), mapGet_mapSet_ne _ _ _ _ _ _ hj]

/-- A byte that is stored reads back; a byte outside those stored reads as before. -/
theorem State.byte_putBytes (h : Rises s.mem) (d a : Nat) (bs : List Byte) (e b : Nat) :
    (s.putBytes d a bs).byte e b =
      if g : memKey d a ≤ memKey e b ∧ memKey e b < memKey d a + bs.length then bs[memKey e b - memKey d a]'(by omega) else s.byte e b :=
  memPut_get bs _ _ _ h

/-! ### Bytes of numbers -/

theorem toBytes_length (n : Nat) : ∀ x, (toBytes n x).length = n := by
  induction n with
  | zero => intro x; rfl
  | succ n ih => intro x; simp [toBytes, ih]

theorem ofBytes_toBytes (n : Nat) : ∀ x, ofBytes (toBytes n x) = x % 256 ^ n := by
  induction n with
  | zero => intro x; simp [toBytes, ofBytes]; omega
  | succ n ih =>
    intro x
    simp only [toBytes, ofBytes, ih]
    have h1 : (BitVec.ofNat 8 (x % 256)).toNat = x % 256 := by simp
    rw [h1, Nat.pow_succ, Nat.mul_comm (256 ^ n) 256, Nat.mod_mul]

end Sys2Proof.Machine
end

