-- ==== Sys2Proof/Laws/Access.lean ====
section
/-! SUPPORT. What an access from outside a core can do (`State.reach`), case by case, and what serving ordered host writes does
where none waits. -/

namespace Sys2Proof.Machine

variable (s : State)

/-- An access that R135 does not hold back takes effect in a core that can be reached. -/
theorem State.reach_core (d c a : Nat) (ag : Agent) (acc : Access) (eff : State) (peek : Bool) (h : Reachable s d c)
    (ho : isDoorbell a ag acc = false ∨ s.hostWriteHeld = false) : s.reach d (some c) a ag acc eff peek = eff := by
  obtain ⟨h1, h2, h3, h4⟩ := h
  have h1' := h1
  simp only [State.dieRuns, Bool.and_eq_true, decide_eq_true_eq] at h1
  have h5 : (s.die d).pstate ≠ 5 := fun h => by simp [h] at h1
  obtain ho | ho := ho <;> simp [State.reach, h1', h1.1, h2, h3, h4, ho] <;> exact fun h => absurd h h5

/-- An access of die memory takes effect where the die runs. -/
theorem State.reach_die (d a : Nat) (ag : Agent) (acc : Access) (eff : State) (peek : Bool) (h : s.dieRuns d = true)
    (ho : isDoorbell a ag acc = false ∨ s.hostWriteHeld = false) : s.reach d none a ag acc eff peek = eff := by
  have h' := h
  simp only [State.dieRuns, Bool.and_eq_true, decide_eq_true_eq] at h
  have h5 : (s.die d).pstate ≠ 5 := fun h5 => by simp [h5] at h
  obtain ho | ho := ho <;> simp [State.reach, h', h.1, ho] <;> exact fun h => absurd h h5

/-- An access of a die that sleeps is held and asks the die to wake (R202). -/
theorem State.reach_asleep (d a : Nat) (c : Option Nat) (ag : Agent) (acc : Access) (eff : State) (peek : Bool)
    (h : s.dieRuns d = false) (he : (s.die d).everActive = true) (h5 : (s.die d).pstate ≠ 5)
    (ho : isDoorbell a ag acc = false ∨ s.hostWriteHeld = false) :
    s.reach d c a ag acc eff peek = (s.holdAct d (.local_ a ag peek acc)).askWake d := by
  obtain ho | ho := ho <;> simp [State.reach, h, he, ho] <;> exact fun h => absurd h h5

/-- A write to a die that has never been Active is discarded (R519). -/
theorem State.reach_never (d a : Nat) (c : Option Nat) (ag : Agent) (bs : List Byte) (eff : State) (peek : Bool)
    (he : (s.die d).everActive = false) (ho : isDoorbell a ag (.write bs) = false ∨ s.hostWriteHeld = false) :
    s.reach d c a ag (.write bs) eff peek = s := by
  obtain ho | ho := ho <;> simp [State.reach, he, ho]

/-- A host write that R135 orders joins the writes that wait while an earlier one has not reached its target. -/
theorem State.reach_ordered (d a : Nat) (c : Option Nat) (ag : Agent) (acc : Access) (eff : State) (peek : Bool)
    (h : isDoorbell a ag acc = true) (hw : s.hostWriteHeld = true) : s.reach d c a ag acc eff peek
      = { s with host := { s.host with ordered := s.host.ordered ++ [(d, .local_ a ag peek acc)] } } := by
  simp [State.reach, h, hw]

/-- Where no host write waits behind another, serving them changes nothing. -/
theorem State.serveOrdered_nil (h : s.host.ordered = []) : s.serveOrdered = s := by
  obtain ⟨⟩ := s
  rename_i x _ _ _
  obtain ⟨⟩ := x
  simp_all [State.serveOrdered]

end Sys2Proof.Machine
end

