-- ==== Sys2Proof/Laws/PerInstr.lean ====
section
/-! SUPPORT. What holds of every command as it is written: for each row of the table, that well-formedness leaves the row in use. -/

namespace Sys2Proof.Laws.Listed

/-- Some command of the same row is well formed: the check shuts no row out. -/
def Statement (i : Instr) : Prop := ∃ j : Instr, j.ctorIdx = i.ctorIdx ∧ WellFormed j = true

theorem dieStateFrame (d : Fin 24) : Statement (.dieStateFrame d) := ⟨.dieStateFrame d, rfl, rfl⟩
theorem spokeStatusFrame (d : Fin 24) (ok : Bool) (wake alarm : Bool) (dieTemp : Int) (stackTemps : List Int) (leave : List Requester) : Statement (.spokeStatusFrame d ok wake alarm dieTemp stackTemps leave) :=
  ⟨.spokeStatusFrame d ok wake alarm dieTemp stackTemps leave, rfl, rfl⟩
theorem spokeLost (d : Fin 24) : Statement (.spokeLost d) := ⟨.spokeLost d, rfl, rfl⟩
theorem faultRecord (src : Fin 25) (site unit : BitVec 8) (cause : BitVec 16) (detail : FaultDetail) : Statement (.faultRecord src site unit cause detail) :=
  ⟨.faultRecord src site unit cause detail, rfl, rfl⟩
theorem mxGemm (die : Fin 16) (core : Fin 32) : Statement (.mxGemm die core) := ⟨.mxGemm die core, rfl, rfl⟩
theorem mxConv (die : Fin 16) (core : Fin 32) : Statement (.mxConv die core) := ⟨.mxConv die core, rfl, rfl⟩
theorem mxMerge (die : Fin 16) (core : Fin 32) : Statement (.mxMerge die core) := ⟨.mxMerge die core, rfl, rfl⟩
theorem mxDrain (die : Fin 16) (core : Fin 32) : Statement (.mxDrain die core) := ⟨.mxDrain die core, rfl, rfl⟩
theorem mxZero (die : Fin 16) (core : Fin 32) : Statement (.mxZero die core) := ⟨.mxZero die core, rfl, rfl⟩
theorem mxElem (die : Fin 16) (core : Fin 32) : Statement (.mxElem die core) := ⟨.mxElem die core, rfl, rfl⟩
theorem mxFlagsClr (die : Fin 16) (core : Fin 32) : Statement (.mxFlagsClr die core) := ⟨.mxFlagsClr die core, rfl, rfl⟩
theorem foldResidueCheck (die : Fin 16) (core : Fin 32) (arr : CmdArray) (row : Fin 1024) (col : Fin 128) (res : Residues) : Statement (.foldResidueCheck die core arr row col res) :=
  ⟨.foldResidueCheck die core arr row col res, rfl, rfl⟩
theorem mxRegisterParityError (die : Fin 16) (core : Fin 32) (arr : CmdArray) (row : Fin 1024) (col : Fin 128) : Statement (.mxRegisterParityError die core arr row col) :=
  ⟨.mxRegisterParityError die core arr row col, rfl, rfl⟩
theorem accWindowRead (die : Fin 16) (core : Fin 32) (off : Fin 0x200000) (len : Fin 17) : Statement (.accWindowRead die core off len) :=
  ⟨.accWindowRead die core 0 1, rfl, rfl⟩
theorem accWindowWrite (die : Fin 16) (core : Fin 32) (off : Fin 0x200000) (data : List Byte) : Statement (.accWindowWrite die core off data) :=
  ⟨.accWindowWrite die core 0 [0], rfl, rfl⟩
theorem accBusy (die : Fin 16) (core : Fin 32) : Statement (.accBusy die core) := ⟨.accBusy die core, rfl, rfl⟩
theorem mxIdleRelease (die : Fin 16) (core : Fin 32) : Statement (.mxIdleRelease die core) := ⟨.mxIdleRelease die core, rfl, rfl⟩
theorem mxFlagsW1c (die : Fin 16) (core : Fin 32) (v : BitVec 32) : Statement (.mxFlagsW1c die core v) := ⟨.mxFlagsW1c die core v, rfl, rfl⟩
theorem mxFaultClear (die : Fin 16) (core : Fin 32) : Statement (.mxFaultClear die core) := ⟨.mxFaultClear die core, rfl, rfl⟩
theorem vxDset (die : Fin 16) (core : Fin 32) : Statement (.vxDset die core) := ⟨.vxDset die core, rfl, rfl⟩
theorem vxLd (die : Fin 16) (core : Fin 32) : Statement (.vxLd die core) := ⟨.vxLd die core, rfl, rfl⟩
theorem vxSt (die : Fin 16) (core : Fin 32) : Statement (.vxSt die core) := ⟨.vxSt die core, rfl, rfl⟩
theorem vxOp (die : Fin 16) (core : Fin 32) : Statement (.vxOp die core) := ⟨.vxOp die core, rfl, rfl⟩
theorem vxCvt (die : Fin 16) (core : Fin 32) : Statement (.vxCvt die core) := ⟨.vxCvt die core, rfl, rfl⟩
theorem vxFn (die : Fin 16) (core : Fin 32) : Statement (.vxFn die core) := ⟨.vxFn die core, rfl, rfl⟩
theorem vxShuf (die : Fin 16) (core : Fin 32) : Statement (.vxShuf die core) := ⟨.vxShuf die core, rfl, rfl⟩
theorem vxSplat (die : Fin 16) (core : Fin 32) : Statement (.vxSplat die core) := ⟨.vxSplat die core, rfl, rfl⟩
theorem vxSred (die : Fin 16) (core : Fin 32) : Statement (.vxSred die core) := ⟨.vxSred die core, rfl, rfl⟩
theorem vxRed (die : Fin 16) (core : Fin 32) : Statement (.vxRed die core) := ⟨.vxRed die core, rfl, rfl⟩
theorem vxLoop (die : Fin 16) (core : Fin 32) : Statement (.vxLoop die core) := ⟨.vxLoop die core, rfl, rfl⟩
theorem vxFlagsClr (die : Fin 16) (core : Fin 32) : Statement (.vxFlagsClr die core) := ⟨.vxFlagsClr die core, rfl, rfl⟩
theorem vxCheckFault (die : Fin 16) (core : Fin 32) (cause : BitVec 8) (lane : Fin 512) (vreg : Fin 16) : Statement (.vxCheckFault die core cause lane vreg) :=
  ⟨.vxCheckFault die core cause lane vreg, rfl, rfl⟩
theorem vxIdleRelease (die : Fin 16) (core : Fin 32) : Statement (.vxIdleRelease die core) := ⟨.vxIdleRelease die core, rfl, rfl⟩
theorem vxFlagsW1c (die : Fin 16) (core : Fin 32) (v : BitVec 32) : Statement (.vxFlagsW1c die core v) := ⟨.vxFlagsW1c die core v, rfl, rfl⟩
theorem vxFaultClear (die : Fin 16) (core : Fin 32) : Statement (.vxFaultClear die core) := ⟨.vxFaultClear die core, rfl, rfl⟩
theorem qTailWrite (die : Fin 16) (core : Fin 32) (eng : Fin 3) (v : BitVec 32) : Statement (.qTailWrite die core eng v) :=
  ⟨.qTailWrite die core eng v, rfl, rfl⟩
theorem commandFetch (die : Fin 16) (core : Fin 32) (eng : Fin 3) : Statement (.commandFetch die core eng) := ⟨.commandFetch die core eng, rfl, rfl⟩
theorem queueConfigWrite (die : Fin 16) (core : Fin 32) (eng : Fin 3) (reg : QCfgReg) (v : BitVec 64) : Statement (.queueConfigWrite die core eng reg v) :=
  ⟨.queueConfigWrite die core eng reg v, rfl, rfl⟩
theorem qCtrlEnable (die : Fin 16) (core : Fin 32) (eng : Fin 3) (on : Bool) : Statement (.qCtrlEnable die core eng on) :=
  ⟨.qCtrlEnable die core eng on, rfl, rfl⟩
theorem qCtrlResume (die : Fin 16) (core : Fin 32) (eng : Fin 3) : Statement (.qCtrlResume die core eng) := ⟨.qCtrlResume die core eng, rfl, rfl⟩
theorem qCtrlDiscard (die : Fin 16) (core : Fin 32) (eng : Fin 3) : Statement (.qCtrlDiscard die core eng) := ⟨.qCtrlDiscard die core eng, rfl, rfl⟩
theorem qCtrlHalt (die : Fin 16) (core : Fin 32) (eng : Fin 3) : Statement (.qCtrlHalt die core eng) := ⟨.qCtrlHalt die core eng, rfl, rfl⟩
theorem commandCompletion (die : Fin 16) (core : Fin 32) (eng : Fin 3) (num : BitVec 64) : Statement (.commandCompletion die core eng num) :=
  ⟨.commandCompletion die core eng num, rfl, rfl⟩
theorem nop (die : Fin 16) (core : Fin 32) (eng : Fin 3) : Statement (.nop die core eng) := ⟨.nop die core eng, rfl, rfl⟩
theorem cntSet (die : Fin 16) (core : Fin 32) (eng : Fin 3) : Statement (.cntSet die core eng) := ⟨.cntSet die core eng, rfl, rfl⟩
theorem cntAdd (die : Fin 16) (core : Fin 32) (eng : Fin 3) : Statement (.cntAdd die core eng) := ⟨.cntAdd die core eng, rfl, rfl⟩
theorem cmpSet (die : Fin 16) (core : Fin 32) (eng : Fin 3) : Statement (.cmpSet die core eng) := ⟨.cmpSet die core eng, rfl, rfl⟩
theorem tqPush (die : Fin 16) (core : Fin 32) (eng : Fin 3) : Statement (.tqPush die core eng) := ⟨.tqPush die core eng, rfl, rfl⟩
theorem awaitGt (die : Fin 16) (core : Fin 32) (eng : Fin 3) : Statement (.awaitGt die core eng) := ⟨.awaitGt die core eng, rfl, rfl⟩
theorem awaitGtFire (die : Fin 16) (core : Fin 32) (eng : Fin 3) (num : BitVec 64) : Statement (.awaitGtFire die core eng num) :=
  ⟨.awaitGtFire die core eng num, rfl, rfl⟩
theorem halt (die : Fin 16) (core : Fin 32) (eng : Fin 3) : Statement (.halt die core eng) := ⟨.halt die core eng, rfl, rfl⟩
theorem sig0 (die : Fin 16) (core : Fin 32) (eng : Fin 3) : Statement (.sig0 die core eng) := ⟨.sig0 die core eng, rfl, rfl⟩
theorem mvCopy (die : Fin 16) (core : Fin 32) : Statement (.mvCopy die core) := ⟨.mvCopy die core, rfl, rfl⟩
theorem mvFill (die : Fin 16) (core : Fin 32) : Statement (.mvFill die core) := ⟨.mvFill die core, rfl, rfl⟩
theorem mvAtomic (die : Fin 16) (core : Fin 32) : Statement (.mvAtomic die core) := ⟨.mvAtomic die core, rfl, rfl⟩
theorem mvInval (die : Fin 16) (core : Fin 32) : Statement (.mvInval die core) := ⟨.mvInval die core, rfl, rfl⟩
theorem mvFence (die : Fin 16) (core : Fin 32) : Statement (.mvFence die core) := ⟨.mvFence die core, rfl, rfl⟩
theorem mvColl (die : Fin 16) (core : Fin 32) : Statement (.mvColl die core) := ⟨.mvColl die core, rfl, rfl⟩
theorem mvClaim (die : Fin 16) (core : Fin 32) : Statement (.mvClaim die core) := ⟨.mvClaim die core, rfl, rfl⟩
theorem mvFaultClear (die : Fin 16) (core : Fin 32) : Statement (.mvFaultClear die core) := ⟨.mvFaultClear die core, rfl, rfl⟩
theorem tqPushWrite (die : Fin 16) (core : Fin 32) (tq : Fin 16) (handle : BitVec 64) : Statement (.tqPushWrite die core tq handle) :=
  ⟨.tqPushWrite die core tq handle, rfl, rfl⟩
theorem tqPopRead (die : Fin 16) (core : Fin 32) (tq : Fin 16) : Statement (.tqPopRead die core tq) := ⟨.tqPopRead die core tq, rfl, rfl⟩
theorem registerWrite (target : RegAddr) (agent : Agent) (data : List Byte) : Statement (.registerWrite target agent data) :=
  ⟨.registerWrite target agent [0], rfl, rfl⟩
theorem tcRun (die : Fin 16) (core : Fin 32) (run : Bool) : Statement (.tcRun die core run) := ⟨.tcRun die core run, rfl, rfl⟩
theorem tcStep (die : Fin 16) (core : Fin 32) : Statement (.tcStep die core) := ⟨.tcStep die core, rfl, rfl⟩
theorem tcDoorbell (die : Fin 16) (core : Fin 32) : Statement (.tcDoorbell die core) := ⟨.tcDoorbell die core, rfl, rfl⟩
theorem tcIrqPendW1c (die : Fin 16) (core : Fin 32) (v : BitVec 32) : Statement (.tcIrqPendW1c die core v) := ⟨.tcIrqPendW1c die core v, rfl, rfl⟩
theorem tcCrcSrc (die : Fin 16) (core : Fin 32) (v : BitVec 32) : Statement (.tcCrcSrc die core v) := ⟨.tcCrcSrc die core v, rfl, rfl⟩
theorem tcCrcDone (die : Fin 16) (core : Fin 32) : Statement (.tcCrcDone die core) := ⟨.tcCrcDone die core, rfl, rfl⟩
theorem tidyCoreInstruction (die : Fin 16) (core : Fin 32) : Statement (.tidyCoreInstruction die core) := ⟨.tidyCoreInstruction die core, rfl, rfl⟩
theorem tcLockstepMismatch (die : Fin 16) (core : Fin 32) : Statement (.tcLockstepMismatch die core) := ⟨.tcLockstepMismatch die core, rfl, rfl⟩
theorem tcNoRetire (die : Fin 16) (core : Fin 32) : Statement (.tcNoRetire die core) := ⟨.tcNoRetire die core, rfl, rfl⟩
theorem syncDeadlock (die : Fin 16) (core : Fin 32) : Statement (.syncDeadlock die core) := ⟨.syncDeadlock die core, rfl, rfl⟩
theorem smRelease (die : Fin 16) (core : Fin 32) : Statement (.smRelease die core) := ⟨.smRelease die core, rfl, rfl⟩
theorem hangWatchdog (die : Fin 16) (core : Fin 32) (eng : Fin 3) (num : BitVec 64) : Statement (.hangWatchdog die core eng num) :=
  ⟨.hangWatchdog die core eng num, rfl, rfl⟩
theorem queueParityError (die : Fin 16) (core : Fin 32) (what : ParitySite) : Statement (.queueParityError die core what) :=
  ⟨.queueParityError die core what, rfl, rfl⟩
theorem tagWrite (die : Fin 16) (core : Fin 32) (off : Fin 0x4000) (data : List Byte) : Statement (.tagWrite die core off data) :=
  ⟨.tagWrite die core off [0], rfl, rfl⟩
theorem verifyingRead (die : Fin 16) (tile : TileRef) (raced : Bool) (ecc : Ecc) : Statement (.verifyingRead die tile raced ecc) :=
  ⟨.verifyingRead die tile raced ecc, rfl, rfl⟩
theorem lsScrub (die : Fin 16) (core : Fin 32) (raced : Bool) (ecc : Ecc) : Statement (.lsScrub die core raced ecc) := ⟨.lsScrub die core raced ecc, rfl, rfl⟩
theorem hbmScrub (die : Fin 16) (raced : Bool) (ecc : Ecc) : Statement (.hbmScrub die raced ecc) := ⟨.hbmScrub die raced ecc, rfl, rfl⟩
theorem hbmRefresh (die : Fin 16) (stack : Fin 4) (chan : Fin 32) (pc : Fin 2) : Statement (.hbmRefresh die stack chan pc) :=
  ⟨.hbmRefresh die stack chan pc, rfl, rfl⟩
theorem hbmSensorSample (die : Fin 16) (stack : Fin 4) (temps : List Int) : Statement (.hbmSensorSample die stack temps) :=
  ⟨.hbmSensorSample die stack [0], rfl, rfl⟩
theorem hbmRowRepair (die : Fin 16) (row : RowRef) : Statement (.hbmRowRepair die row) := ⟨.hbmRowRepair die row, rfl, rfl⟩
theorem hbmLaneRepair (die : Fin 16) (lane : LaneRef) : Statement (.hbmLaneRepair die lane) := ⟨.hbmLaneRepair die lane, rfl, rfl⟩
theorem repairRecordUpdate (rec : Fin 25) (ok : Bool) : Statement (.repairRecordUpdate rec ok) := ⟨.repairRecordUpdate rec ok, rfl, rfl⟩
theorem recordWriteRetry (rec : Fin 25) (ok : Bool) : Statement (.recordWriteRetry rec ok) := ⟨.recordWriteRetry rec ok, rfl, rfl⟩
theorem whistleSend (port : Fin 128) : Statement (.whistleSend port) := ⟨.whistleSend port, rfl, rfl⟩
theorem whistleReceive (port : Fin 128) (w : Whistle) (stamp : BitVec 64) : Statement (.whistleReceive port w stamp) :=
  ⟨.whistleReceive port w stamp, rfl, rfl⟩
theorem linkCalibrationDone (port : Fin 128) : Statement (.linkCalibrationDone port) := ⟨.linkCalibrationDone port, rfl, rfl⟩
theorem gtLossOfLock : Statement (.gtLossOfLock) := ⟨.gtLossOfLock, rfl, rfl⟩
theorem holdoverWaitEnd : Statement (.holdoverWaitEnd) := ⟨.holdoverWaitEnd, rfl, rfl⟩
theorem gtHoldEnd : Statement (.gtHoldEnd) := ⟨.gtHoldEnd, rfl, rfl⟩
theorem refereeTakeover : Statement (.refereeTakeover) := ⟨.refereeTakeover, rfl, rfl⟩
theorem timeFrame : Statement (.timeFrame) := ⟨.timeFrame, rfl, rfl⟩
theorem dieGtResync (die : Fin 16) : Statement (.dieGtResync die) := ⟨.dieGtResync die, rfl, rfl⟩
theorem ppsEdge (widthNs : Nat) : Statement (.ppsEdge widthNs) := ⟨.ppsEdge widthNs, rfl, rfl⟩
theorem tenMhzMonitor (present : Bool) (ppm : Int) : Statement (.tenMhzMonitor present ppm) := ⟨.tenMhzMonitor present ppm, rfl, rfl⟩
theorem gtSet (v : BitVec 64) : Statement (.gtSet v) := ⟨.gtSet v, rfl, rfl⟩
theorem gtSetAtPps (v : BitVec 64) : Statement (.gtSetAtPps v) := ⟨.gtSetAtPps v, rfl, rfl⟩
theorem kickoffArm (die : Fin 16) (e : Fin 64) (top : BitVec 64) : Statement (.kickoffArm die e top) := ⟨.kickoffArm die e top, rfl, rfl⟩
theorem kickoffDisarm (die : Fin 16) (e : Fin 64) (top : BitVec 64) : Statement (.kickoffDisarm die e top) := ⟨.kickoffDisarm die e top, rfl, rfl⟩
theorem kickoffFire (die : Fin 16) (e : Fin 64) : Statement (.kickoffFire die e) := ⟨.kickoffFire die e, rfl, rfl⟩
theorem roundScheduleValidate (die : Fin 16) (rs : Fin 16) (top : BitVec 64) : Statement (.roundScheduleValidate die rs top) :=
  ⟨.roundScheduleValidate die rs top, rfl, rfl⟩
theorem roundScheduleInvalidate (die : Fin 16) (rs : Fin 16) (top : BitVec 64) : Statement (.roundScheduleInvalidate die rs top) :=
  ⟨.roundScheduleInvalidate die rs top, rfl, rfl⟩
theorem slotStart (die : Fin 16) (rs : Fin 16) : Statement (.slotStart die rs) := ⟨.slotStart die rs, rfl, rfl⟩
theorem admissionClose (die : Fin 16) (rs : Fin 16) : Statement (.admissionClose die rs) := ⟨.admissionClose die rs, rfl, rfl⟩
theorem roundScheduleExpire (die : Fin 16) (rs : Fin 16) : Statement (.roundScheduleExpire die rs) := ⟨.roundScheduleExpire die rs, rfl, rfl⟩
theorem codewordReceive (port : Fin 128) (line : Fin 37) (word : BitVec 288) : Statement (.codewordReceive port line word) :=
  ⟨.codewordReceive port line word, rfl, rfl⟩
theorem identityIdleSend (port : Fin 128) (line : Fin 37) : Statement (.identityIdleSend port line) :=
  ⟨.identityIdleSend port line, rfl, rfl⟩
theorem combLock (c : CombRef) (pilot : Bool) : Statement (.combLock c pilot) := ⟨.combLock c pilot, rfl, rfl⟩
theorem elmFeedLost (feed : Fin 2) : Statement (.elmFeedLost feed) := ⟨.elmFeedLost feed, rfl, rfl⟩
theorem elmFeedReturn (feed : Fin 2) : Statement (.elmFeedReturn feed) := ⟨.elmFeedReturn feed, rfl, rfl⟩
theorem lambdaSLost (port : Fin 128) : Statement (.lambdaSLost port) := ⟨.lambdaSLost port, rfl, rfl⟩
theorem lambdaSReturn (port : Fin 128) : Statement (.lambdaSReturn port) := ⟨.lambdaSReturn port, rfl, rfl⟩
theorem transmitRingAssign (bank : Fin 136) (ring : Fin 37) (setting : Nat) (pilot : Fin 37) : Statement (.transmitRingAssign bank ring setting pilot) :=
  ⟨.transmitRingAssign bank ring 0 pilot, rfl, rfl⟩
theorem receiveRingSearch (bank : Fin 136) (ring : Fin 37) (setting : Nat) (confirmed : Bool) : Statement (.receiveRingSearch bank ring setting confirmed) :=
  ⟨.receiveRingSearch bank ring 0 confirmed, rfl, rfl⟩
theorem portTrainTimeout (bank : Fin 136) : Statement (.portTrainTimeout bank) := ⟨.portTrainTimeout bank, rfl, rfl⟩
theorem ringFsrMove (bank : Fin 136) (tx : Bool) (ring : Fin 37) (shift : RingShift) : Statement (.ringFsrMove bank tx ring shift) :=
  ⟨.ringFsrMove bank tx ring ⟨0, 0⟩, rfl, rfl⟩
theorem pilotCheck (bank : Fin 136) (ring : Fin 37) (pilot : Fin 37) : Statement (.pilotCheck bank ring pilot) := ⟨.pilotCheck bank ring pilot, rfl, rfl⟩
theorem ringMislock (bank : Fin 136) (tx : Bool) (ring : Fin 37) : Statement (.ringMislock bank tx ring) := ⟨.ringMislock bank tx ring, rfl, rfl⟩
theorem ringResearchDone (bank : Fin 136) (tx : Bool) (ring : Fin 37) (found : Bool) (setting : Nat) : Statement (.ringResearchDone bank tx ring found setting) :=
  ⟨.ringResearchDone bank tx ring found 0, rfl, rfl⟩
theorem laneSubstitution (port : Fin 128) (tx : Bool) (sub : LaneSpare) : Statement (.laneSubstitution port tx sub) :=
  ⟨.laneSubstitution port tx sub, rfl, rfl⟩
theorem bankSubstitution (fault : PortFault) : Statement (.bankSubstitution fault) := ⟨.bankSubstitution fault, rfl, rfl⟩
theorem spareBankLight (l : Fin 8) (module : BitVec 16) (lport : BitVec 7) : Statement (.spareBankLight l module lport) :=
  ⟨.spareBankLight l module lport, rfl, rfl⟩
theorem combMonitorSample (c : CombRef) (powers : List Int) : Statement (.combMonitorSample c powers) :=
  ⟨.combMonitorSample c (List.replicate 36 0), rfl, rfl⟩
theorem portPause (l : Fin 8) : Statement (.portPause l) := ⟨.portPause l, rfl, rfl⟩
theorem portResume (l : Fin 8) : Statement (.portResume l) := ⟨.portResume l, rfl, rfl⟩
theorem linkPauseNotice (port : Fin 128) (frame : BitVec 256) : Statement (.linkPauseNotice port frame) := ⟨.linkPauseNotice port frame, rfl, rfl⟩
theorem standbyTest (l : Fin 8) : Statement (.standbyTest l) := ⟨.standbyTest l, rfl, rfl⟩
theorem standbyTestEnd (l : Fin 8) (pass : Bool) : Statement (.standbyTestEnd l pass) := ⟨.standbyTestEnd l pass, rfl, rfl⟩
theorem partnerLoss (bank : Fin 136) : Statement (.partnerLoss bank) := ⟨.partnerLoss bank, rfl, rfl⟩
theorem probePulse (bank : Fin 136) : Statement (.probePulse bank) := ⟨.probePulse bank, rfl, rfl⟩
theorem probeAnswer (bank : Fin 136) : Statement (.probeAnswer bank) := ⟨.probeAnswer bank, rfl, rfl⟩
theorem linkFrameReplay (port : Fin 128) (lfseq : BitVec 16) : Statement (.linkFrameReplay port lfseq) := ⟨.linkFrameReplay port lfseq, rfl, rfl⟩
theorem portRetrain (port : Fin 128) : Statement (.portRetrain port) := ⟨.portRetrain port, rfl, rfl⟩
theorem optCommission (v : BitVec 8) : Statement (.optCommission v) := ⟨.optCommission v, rfl, rfl⟩
theorem ringRecordRefresh : Statement .ringRecordRefresh := ⟨.ringRecordRefresh, rfl, rfl⟩
theorem flitReceive (edge : Fin 53) (bundle : Fin 16) (rev : Bool) (flit : BitVec 2048) : Statement (.flitReceive edge bundle rev flit) :=
  ⟨.flitReceive edge bundle rev flit, rfl, rfl⟩
theorem flitNak (edge : Fin 53) (bundle : Fin 16) (rev : Bool) (seq : BitVec 12) : Statement (.flitNak edge bundle rev seq) :=
  ⟨.flitNak edge bundle rev seq, rfl, rfl⟩
theorem bundleRetrain (edge : Fin 53) (bundle : Fin 16) (rev : Bool) : Statement (.bundleRetrain edge bundle rev) := ⟨.bundleRetrain edge bundle rev, rfl, rfl⟩
theorem panelLaneFailed (edge : Fin 53) (dir : BundleDir) (lane : Fin 68) : Statement (.panelLaneFailed edge dir lane) :=
  ⟨.panelLaneFailed edge dir lane, rfl, rfl⟩
theorem bundleHalfWidth (edge : Fin 53) (bundle : Fin 16) : Statement (.bundleHalfWidth edge bundle) := ⟨.bundleHalfWidth edge bundle, rfl, rfl⟩
theorem roleRefill (edge : Fin 53) : Statement (.roleRefill edge) := ⟨.roleRefill edge, rfl, rfl⟩
theorem routeWeightUpdate : Statement (.routeWeightUpdate) := ⟨.routeWeightUpdate, rfl, rfl⟩
theorem detourLoad : Statement (.detourLoad) := ⟨.detourLoad, rfl, rfl⟩
theorem laneTestMode (v : BitVec 8) : Statement (.laneTestMode v) := ⟨.laneTestMode v, rfl, rfl⟩
theorem fabModuleId (v : BitVec 16) : Statement (.fabModuleId v) := ⟨.fabModuleId v, rfl, rfl⟩
theorem linkFrameReceive (port : Fin 128) (pfx : BitVec 64) (pkt : Packet) (crc : BitVec 32) : Statement (.linkFrameReceive port pfx pkt crc) :=
  ⟨.linkFrameReceive port pfx { pkt with lines := 0, payload := [] } crc, rfl, rfl⟩
theorem linkFrameSend (port : Fin 128) : Statement (.linkFrameSend port) := ⟨.linkFrameSend port, rfl, rfl⟩
theorem packetIngress (port : Fin 128) (pkt : Packet) : Statement (.packetIngress port pkt) := ⟨.packetIngress port { pkt with lines := 0, payload := [] }, rfl, rfl⟩
theorem relayHoldExpire (l : Fin 8) : Statement (.relayHoldExpire l) := ⟨.relayHoldExpire l, rfl, rfl⟩
theorem class0FrameReceive (port : Fin 128) (frame : BitVec 256) : Statement (.class0FrameReceive port frame) := ⟨.class0FrameReceive port frame, rfl, rfl⟩
theorem linkStateSend (port : Fin 128) : Statement (.linkStateSend port) := ⟨.linkStateSend port, rfl, rfl⟩
theorem linkStateReceive (port : Fin 128) (frame : BitVec 256) : Statement (.linkStateReceive port frame) := ⟨.linkStateReceive port frame, rfl, rfl⟩
theorem class0Resend (port : Fin 128) (lseq : BitVec 8) : Statement (.class0Resend port lseq) := ⟨.class0Resend port lseq, rfl, rfl⟩
theorem flagAdd (die : Fin 16) (frame : BitVec 256) : Statement (.flagAdd die frame) := ⟨.flagAdd die frame, rfl, rfl⟩
theorem routeEntryWrite (m : BitVec 16) (entry : BitVec 512) : Statement (.routeEntryWrite m entry) := ⟨.routeEntryWrite m entry, rfl, rfl⟩
theorem routeGenerationAdvance : Statement (.routeGenerationAdvance) := ⟨.routeGenerationAdvance, rfl, rfl⟩
theorem reorderContextClose (die : Fin 16) (srcModule : BitVec 16) (srcDie : BitVec 4) (flow : BitVec 8) : Statement (.reorderContextClose die srcModule srcDie flow) :=
  ⟨.reorderContextClose die srcModule srcDie flow, rfl, rfl⟩
theorem reorderBusyResend (die : Fin 16) (txn : BitVec 15) : Statement (.reorderBusyResend die txn) := ⟨.reorderBusyResend die txn, rfl, rfl⟩
theorem fabStall (port : Fin 128) (cls : Fin 4) : Statement (.fabStall port cls) := ⟨.fabStall port cls, rfl, rfl⟩
theorem remoteRequestReceive (die : Fin 16) (pkt : Packet) : Statement (.remoteRequestReceive die pkt) := ⟨.remoteRequestReceive die { pkt with lines := 0, payload := [] }, rfl, rfl⟩
theorem lineOperation (die : Fin 16) (idx : Fin 1024) : Statement (.lineOperation die idx) := ⟨.lineOperation die idx, rfl, rfl⟩
theorem responseReceive (die : Fin 16) (pkt : Packet) : Statement (.responseReceive die pkt) := ⟨.responseReceive die { pkt with lines := 0, payload := [] }, rfl, rfl⟩
theorem ackTimeout (die : Fin 16) (txn : BitVec 15) : Statement (.ackTimeout die txn) := ⟨.ackTimeout die txn, rfl, rfl⟩
theorem mergedResponse (l : Fin 8) (pkt : Packet) : Statement (.mergedResponse l pkt) := ⟨.mergedResponse l { pkt with lines := 0, payload := [] }, rfl, rfl⟩
theorem mergeEntryTimeout (l : Fin 8) (entry : Fin 512) : Statement (.mergeEntryTimeout l entry) := ⟨.mergeEntryTimeout l entry, rfl, rfl⟩
theorem memRlcEnable (v : BitVec 8) : Statement (.memRlcEnable v) := ⟨.memRlcEnable v, rfl, rfl⟩
theorem raceSlotArm (die : Fin 16) (r : Fin 64) (top : BitVec 64) : Statement (.raceSlotArm die r top) := ⟨.raceSlotArm die r top, rfl, rfl⟩
theorem raceSlotDisarm (die : Fin 16) (r : Fin 64) (top : BitVec 64) : Statement (.raceSlotDisarm die r top) := ⟨.raceSlotDisarm die r top, rfl, rfl⟩
theorem groupValidate (die : Fin 16) (g : Fin 256) (top : BitVec 64) : Statement (.groupValidate die g top) := ⟨.groupValidate die g top, rfl, rfl⟩
theorem groupValidationDone (die : Fin 16) (g : Fin 256) : Statement (.groupValidationDone die g) := ⟨.groupValidationDone die g, rfl, rfl⟩
theorem groupEnd (die : Fin 16) (g : Fin 256) (top : BitVec 64) : Statement (.groupEnd die g top) := ⟨.groupEnd die g top, rfl, rfl⟩
theorem huddleFrameReceive (die : Fin 16) (frame : BitVec 256) : Statement (.huddleFrameReceive die frame) := ⟨.huddleFrameReceive die frame, rfl, rfl⟩
theorem verdictReceive (die : Fin 16) (frame : BitVec 256) : Statement (.verdictReceive die frame) := ⟨.verdictReceive die frame, rfl, rfl⟩
theorem verdictAckReceive (die : Fin 16) (frame : BitVec 256) : Statement (.verdictAckReceive die frame) := ⟨.verdictAckReceive die frame, rfl, rfl⟩
theorem verdictResend (die : Fin 16) (g : Fin 256) : Statement (.verdictResend die g) := ⟨.verdictResend die g, rfl, rfl⟩
theorem voteReceive (die : Fin 16) (frame : BitVec 256) : Statement (.voteReceive die frame) := ⟨.voteReceive die frame, rfl, rfl⟩
theorem huddleTimeout (die : Fin 16) (g : Fin 256) : Statement (.huddleTimeout die g) := ⟨.huddleTimeout die g, rfl, rfl⟩
theorem dataPhaseTimeout (die : Fin 16) (g : Fin 256) : Statement (.dataPhaseTimeout die g) := ⟨.dataPhaseTimeout die g, rfl, rfl⟩
theorem collDataReceive (die : Fin 16) (chunk : CollChunk) : Statement (.collDataReceive die chunk) :=
  ⟨.collDataReceive die { chunk with pkt := { chunk.pkt with lines := 0, payload := [] } }, rfl, rfl⟩
theorem collAckReceive (die : Fin 16) (pkt : Packet) : Statement (.collAckReceive die pkt) := ⟨.collAckReceive die { pkt with lines := 0, payload := [] }, rfl, rfl⟩
theorem chunkResend (die : Fin 16) (g : Fin 256) : Statement (.chunkResend die g) := ⟨.chunkResend die g, rfl, rfl⟩
theorem roundStart (die : Fin 16) (g : Fin 256) : Statement (.roundStart die g) := ⟨.roundStart die g, rfl, rfl⟩
theorem verdictRetentionExpire (die : Fin 16) (g : Fin 256) : Statement (.verdictRetentionExpire die g) := ⟨.verdictRetentionExpire die g, rfl, rfl⟩
theorem coreSubstitution (die : Fin 16) (core : Fin 32) : Statement (.coreSubstitution die core) := ⟨.coreSubstitution die core, rfl, rfl⟩
theorem coreSubstitute (v : BitVec 16) : Statement (.coreSubstitute v) := ⟨.coreSubstitute v, rfl, rfl⟩
theorem substitutionDrainEnd (die : Fin 16) : Statement (.substitutionDrainEnd die) := ⟨.substitutionDrainEnd die, rfl, rfl⟩
theorem spareSelfTestDone (die : Fin 16) (pass : Bool) : Statement (.spareSelfTestDone die pass) := ⟨.spareSelfTestDone die pass, rfl, rfl⟩
theorem checkerSelfTest (src : Fin 25) (pass : Bool) : Statement (.checkerSelfTest src pass) := ⟨.checkerSelfTest src pass, rfl, rfl⟩
theorem errorLogEvent (ev : Event) : Statement (.errorLogEvent ev) := ⟨.errorLogEvent ev, rfl, rfl⟩
theorem logHandlingExpire (pos : Fin 256) : Statement (.logHandlingExpire pos) := ⟨.logHandlingExpire pos, rfl, rfl⟩
theorem fltLogAck (v : BitVec 32) : Statement (.fltLogAck v) := ⟨.fltLogAck v, rfl, rfl⟩
theorem fltLogOverflow (v : BitVec 8) : Statement (.fltLogOverflow v) := ⟨.fltLogOverflow v, rfl, rfl⟩
theorem partnerSuspect (m : BitVec 16) : Statement (.partnerSuspect m) := ⟨.partnerSuspect m, rfl, rfl⟩
theorem accuseReceive (frame : BitVec 256) : Statement (.accuseReceive frame) := ⟨.accuseReceive frame, rfl, rfl⟩
theorem rosterSend : Statement (.rosterSend) := ⟨.rosterSend, rfl, rfl⟩
theorem rosterReceive (frame : BitVec 256) : Statement (.rosterReceive frame) := ⟨.rosterReceive frame, rfl, rfl⟩
theorem recordReceive (port : Fin 128) (frame : BitVec 256) : Statement (.recordReceive port frame) := ⟨.recordReceive port frame, rfl, rfl⟩
theorem epochReqReceive (port : Fin 128) (frame : BitVec 256) : Statement (.epochReqReceive port frame) := ⟨.epochReqReceive port frame, rfl, rfl⟩
theorem viewReceive (port : Fin 128) (frame : BitVec 256) : Statement (.viewReceive port frame) := ⟨.viewReceive port frame, rfl, rfl⟩
theorem beaconSend : Statement (.beaconSend) := ⟨.beaconSend, rfl, rfl⟩
theorem beaconReceive (port : Fin 128) (frame : BitVec 256) : Statement (.beaconReceive port frame) := ⟨.beaconReceive port frame, rfl, rfl⟩
theorem isolationFence : Statement (.isolationFence) := ⟨.isolationFence, rfl, rfl⟩
theorem epochOpen : Statement (.epochOpen) := ⟨.epochOpen, rfl, rfl⟩
theorem umpireStartTimeout : Statement (.umpireStartTimeout) := ⟨.umpireStartTimeout, rfl, rfl⟩
theorem joinSend : Statement (.joinSend) := ⟨.joinSend, rfl, rfl⟩
theorem joinReceive (frame : BitVec 256) : Statement (.joinReceive frame) := ⟨.joinReceive frame, rfl, rfl⟩
theorem answerReceive (frame : BitVec 256) : Statement (.answerReceive frame) := ⟨.answerReceive frame, rfl, rfl⟩
theorem withdrawReceive (frame : BitVec 256) : Statement (.withdrawReceive frame) := ⟨.withdrawReceive frame, rfl, rfl⟩
theorem fltSendOff (v : BitVec 16) : Statement (.fltSendOff v) := ⟨.fltSendOff v, rfl, rfl⟩
theorem fltAdmit (v : BitVec 16) : Statement (.fltAdmit v) := ⟨.fltAdmit v, rfl, rfl⟩
theorem fltWithdrawnClear (v : BitVec 16) : Statement (.fltWithdrawnClear v) := ⟨.fltWithdrawnClear v, rfl, rfl⟩
theorem fltWithdrawGo (v : BitVec 8) : Statement (.fltWithdrawGo v) := ⟨.fltWithdrawGo v, rfl, rfl⟩
theorem scoreRecompute : Statement (.scoreRecompute) := ⟨.scoreRecompute, rfl, rfl⟩
theorem withdrawRetry : Statement (.withdrawRetry) := ⟨.withdrawRetry, rfl, rfl⟩
theorem withdrawWaitExpire : Statement (.withdrawWaitExpire) := ⟨.withdrawWaitExpire, rfl, rfl⟩
theorem forcedWithdrawTimeout : Statement (.forcedWithdrawTimeout) := ⟨.forcedWithdrawTimeout, rfl, rfl⟩
theorem stepCommit (die : Fin 16) (n : BitVec 64) : Statement (.stepCommit die n) := ⟨.stepCommit die n, rfl, rfl⟩
theorem stepMirrorDone (die : Fin 16) (ok : Bool) : Statement (.stepMirrorDone die ok) := ⟨.stepMirrorDone die ok, rfl, rfl⟩
theorem inputMonitor (mv : Nat) (w1ms w10us w1s : Nat) (amps : Nat) : Statement (.inputMonitor mv w1ms w10us w1s amps) :=
  ⟨.inputMonitor mv w1ms w10us w1s amps, rfl, rfl⟩
theorem inputClockStep : Statement (.inputClockStep) := ⟨.inputClockStep, rfl, rfl⟩
theorem phaseFailure (rail : Rail) : Statement (.phaseFailure rail) := ⟨.phaseFailure rail, rfl, rfl⟩
theorem railOutOfRegulation (rail : Rail) : Statement (.railOutOfRegulation rail) := ⟨.railOutOfRegulation rail, rfl, rfl⟩
theorem coreClockStep (die : Fin 16) (milliAmps : Nat) : Statement (.coreClockStep die milliAmps) := ⟨.coreClockStep die milliAmps, rfl, rfl⟩
theorem leaveRequest (r : Requester) : Statement (.leaveRequest r) := ⟨.leaveRequest r, rfl, rfl⟩
theorem governorCycle : Statement (.governorCycle) := ⟨.governorCycle, rfl, rfl⟩
theorem leaveRelease (r : Requester) : Statement (.leaveRelease r) := ⟨.leaveRelease r, rfl, rfl⟩
theorem dieIdleEntry (die : Fin 16) : Statement (.dieIdleEntry die) := ⟨.dieIdleEntry die, rfl, rfl⟩
theorem dieIdleExit (die : Fin 16) : Statement (.dieIdleExit die) := ⟨.dieIdleExit die, rfl, rfl⟩
theorem pwrDieSleepReq (v : BitVec 16) : Statement (.pwrDieSleepReq v) := ⟨.pwrDieSleepReq v, rfl, rfl⟩
theorem dieSleepCommand (die : Fin 16) : Statement (.dieSleepCommand die) := ⟨.dieSleepCommand die, rfl, rfl⟩
theorem dieSleepEntryDone (die : Fin 16) : Statement (.dieSleepEntryDone die) := ⟨.dieSleepEntryDone die, rfl, rfl⟩
theorem dieWake (die : Fin 16) (cause : WakeCause) : Statement (.dieWake die cause) := ⟨.dieWake die cause, rfl, rfl⟩
theorem dieWakeDone (die : Fin 16) (saveOk : Bool) : Statement (.dieWakeDone die saveOk) := ⟨.dieWakeDone die saveOk, rfl, rfl⟩
theorem pwrPadRelease (v : BitVec 16) : Statement (.pwrPadRelease v) := ⟨.pwrPadRelease v, rfl, rfl⟩
theorem pwrModuleState (v : BitVec 8) : Statement (.pwrModuleState v) := ⟨.pwrModuleState v, rfl, rfl⟩
theorem moduleStandbyDone : Statement (.moduleStandbyDone) := ⟨.moduleStandbyDone, rfl, rfl⟩
theorem pwrHostWake (v : BitVec 8) : Statement (.pwrHostWake v) := ⟨.pwrHostWake v, rfl, rfl⟩
theorem wakeN (low : Bool) : Statement (.wakeN low) := ⟨.wakeN low, rfl, rfl⟩
theorem thermalSensorSample (part : Fin 89) (temps : List Int) : Statement (.thermalSensorSample part temps) := ⟨.thermalSensorSample part temps, rfl, rfl⟩
theorem throttleEvaluate (die : Fin 16) : Statement (.throttleEvaluate die) := ⟨.throttleEvaluate die, rfl, rfl⟩
theorem thermalShutdown (part : Fin 89) (sensor : BitVec 8) : Statement (.thermalShutdown part sensor) := ⟨.thermalShutdown part sensor, rfl, rfl⟩
theorem tripRecordWrite : Statement (.tripRecordWrite) := ⟨.tripRecordWrite, rfl, rfl⟩
theorem analogueTrip : Statement (.analogueTrip) := ⟨.analogueTrip, rfl, rfl⟩
theorem thmTripClear (v : BitVec 8) : Statement (.thmTripClear v) := ⟨.thmTripClear v, rfl, rfl⟩
theorem coolantSample (inlet outlet : Int) (flow : Nat) (ok : Bool) : Statement (.coolantSample inlet outlet flow ok) := ⟨.coolantSample inlet outlet flow ok, rfl, rfl⟩
theorem heartbeat (c : Ctrl) : Statement (.heartbeat c) := ⟨.heartbeat c, rfl, rfl⟩
theorem ballEvaluate : Statement (.ballEvaluate) := ⟨.ballEvaluate, rfl, rfl⟩
theorem ballClaim (c : Ctrl) : Statement (.ballClaim c) := ⟨.ballClaim c, rfl, rfl⟩
theorem controllerWatchdog (c : Ctrl) : Statement (.controllerWatchdog c) := ⟨.controllerWatchdog c, rfl, rfl⟩
theorem controllerBootDone (c : Ctrl) : Statement (.controllerBootDone c) := ⟨.controllerBootDone c, rfl, rfl⟩
theorem mirrorSyncDone (c : Ctrl) : Statement (.mirrorSyncDone c) := ⟨.mirrorSyncDone c, rfl, rfl⟩
theorem ballUnheldFence : Statement (.ballUnheldFence) := ⟨.ballUnheldFence, rfl, rfl⟩
theorem sysHandover (v : BitVec 8) : Statement (.sysHandover v) := ⟨.sysHandover v, rfl, rfl⟩
theorem sysStore (v : BitVec 32) : Statement (.sysStore v) := ⟨.sysStore v, rfl, rfl⟩
theorem storeCommitDone (ok : Bool) : Statement (.storeCommitDone ok) := ⟨.storeCommitDone ok, rfl, rfl⟩
theorem sysRestore (v : BitVec 32) : Statement (.sysRestore v) := ⟨.sysRestore v, rfl, rfl⟩
theorem servicePortFrame (f : SvcPacket) : Statement (.servicePortFrame f) := ⟨.servicePortFrame f, rfl, rfl⟩
theorem mbDoorbell (v : BitVec 32) : Statement (.mbDoorbell v) := ⟨.mbDoorbell v, rfl, rfl⟩
theorem read (r : MReq) : Statement (.read r) := ⟨.read { r with payload := [] }, rfl, rfl⟩
theorem write (r : MReq) : Statement (.write r) := ⟨.write { r with payload := [] }, rfl, rfl⟩
theorem readSeg (r : MReq) : Statement (.readSeg r) := ⟨.readSeg { r with payload := [] }, rfl, rfl⟩
theorem writeSeg (r : MReq) : Statement (.writeSeg r) := ⟨.writeSeg { r with payload := [] }, rfl, rfl⟩
theorem list (r : MReq) : Statement (.list r) := ⟨.list { r with payload := [] }, rfl, rfl⟩
theorem hello (r : MReq) : Statement (.hello r) := ⟨.hello { r with payload := [] }, rfl, rfl⟩
theorem proveKey (r : MReq) : Statement (.proveKey r) := ⟨.proveKey { r with payload := [] }, rfl, rfl⟩
theorem provePassword (r : MReq) : Statement (.provePassword r) := ⟨.provePassword { r with payload := [] }, rfl, rfl⟩
theorem openLocal (r : MReq) : Statement (.openLocal r) := ⟨.openLocal { r with payload := [] }, rfl, rfl⟩
theorem close (r : MReq) : Statement (.close r) := ⟨.close { r with payload := [] }, rfl, rfl⟩
theorem quote (r : MReq) : Statement (.quote r) := ⟨.quote { r with payload := [] }, rfl, rfl⟩
theorem sessionIdleExpire (sess : Fin 4) : Statement (.sessionIdleExpire sess) := ⟨.sessionIdleExpire sess, rfl, rfl⟩
theorem slotLockoutEnd (slot : CredSlot) : Statement (.slotLockoutEnd slot) := ⟨.slotLockoutEnd slot, rfl, rfl⟩
theorem secCredentialWrite (slot : CredSlot) (field : CredField) (data : List Byte) : Statement (.secCredentialWrite slot field data) :=
  ⟨.secCredentialWrite slot field data, rfl, rfl⟩
theorem bootImage (image : List Byte) : Statement (.bootImage image) := ⟨.bootImage image, rfl, rfl⟩
theorem bootCtrlRestart (v : BitVec 8) : Statement (.bootCtrlRestart v) := ⟨.bootCtrlRestart v, rfl, rfl⟩
theorem bootCommitSvn (v : BitVec 8) : Statement (.bootCommitSvn v) := ⟨.bootCommitSvn v, rfl, rfl⟩
theorem bootRecovery : Statement (.bootRecovery) := ⟨.bootRecovery, rfl, rfl⟩
theorem hostLinkTrain (speed : Fin 7) (width : Fin 17) : Statement (.hostLinkTrain speed width) := ⟨.hostLinkTrain 1 1, rfl, rfl⟩
theorem hostLinkDown : Statement (.hostLinkDown) := ⟨.hostLinkDown, rfl, rfl⟩
theorem functionLevelReset : Statement (.functionLevelReset) := ⟨.functionLevelReset, rfl, rfl⟩
theorem perst (low : Bool) : Statement (.perst low) := ⟨.perst low, rfl, rfl⟩
theorem corePageAccess (die : Fin 16) (core : Fin 32) (off : Fin 0x1000) (acc : Access) : Statement (.corePageAccess die core off acc) :=
  ⟨.corePageAccess die core off (.read 1), rfl, rfl⟩
theorem bar2Access (off : Fin 0x1000000000) (acc : Access) : Statement (.bar2Access off acc) := ⟨.bar2Access off (.read 1), rfl, rfl⟩
theorem hostWindowWrite (w : Fin 4) (v : BitVec 64) : Statement (.hostWindowWrite w v) := ⟨.hostWindowWrite w v, rfl, rfl⟩
theorem hostEventW1c (v : BitVec 32) : Statement (.hostEventW1c v) := ⟨.hostEventW1c v, rfl, rfl⟩
theorem msixUnmask (vec : Fin 256) : Statement (.msixUnmask vec) := ⟨.msixUnmask vec, rfl, rfl⟩
theorem hostCompletion (tag : Nat) (cpl : Cpl) : Statement (.hostCompletion tag cpl) := ⟨.hostCompletion tag cpl, rfl, rfl⟩
theorem hostCplTimeout (tag : Nat) : Statement (.hostCplTimeout tag) := ⟨.hostCplTimeout tag, rfl, rfl⟩
theorem powerApplied : Statement (.powerApplied) := ⟨.powerApplied, rfl, rfl⟩
theorem modResetAssert : Statement (.modResetAssert) := ⟨.modResetAssert, rfl, rfl⟩
theorem modResetRelease : Statement (.modResetRelease) := ⟨.modResetRelease, rfl, rfl⟩
theorem startupStepEnd (r : StepResult) : Statement (.startupStepEnd r) := ⟨.startupStepEnd r, rfl, rfl⟩
theorem gtWaitExpire : Statement (.gtWaitExpire) := ⟨.gtWaitExpire, rfl, rfl⟩
theorem startupStepOverrun : Statement (.startupStepOverrun) := ⟨.startupStepOverrun, rfl, rfl⟩
theorem panelReferenceLost : Statement (.panelReferenceLost) := ⟨.panelReferenceLost, rfl, rfl⟩
theorem upstreamPortLost : Statement (.upstreamPortLost) := ⟨.upstreamPortLost, rfl, rfl⟩
theorem timeIn10mReturn : Statement .timeIn10mReturn := ⟨.timeIn10mReturn, rfl, rfl⟩
theorem elmPreferredReturn (l : Fin 8) : Statement (.elmPreferredReturn l) := ⟨.elmPreferredReturn l, rfl, rfl⟩
theorem panelReferenceReturn : Statement (.panelReferenceReturn) := ⟨.panelReferenceReturn, rfl, rfl⟩
theorem hbmAccess (req : HbmPort) (addr : Fin 0x6000000000) (write : List Byte) (severity : Fin 3) (parity : List (Fin 74)) : Statement (.hbmAccess req addr write severity parity) :=
  ⟨.hbmAccess req 0 [] severity [], rfl, rfl⟩
theorem portRetrainDone (port : Fin 128) (ok : Bool) (badTx badRx : List (Fin 32)) : Statement (.portRetrainDone port ok badTx badRx) :=
  ⟨.portRetrainDone port ok badTx badRx, rfl, rfl⟩
theorem bundleTraining (edge : Fin 53) (bundle : Fin 16) (bad : List (Bool × Fin 68)) : Statement (.bundleTraining edge bundle bad) :=
  ⟨.bundleTraining edge bundle bad, rfl, rfl⟩
theorem laneTestEnd (failing : List PanelLane) : Statement (.laneTestEnd failing) := ⟨.laneTestEnd failing, rfl, rfl⟩

end Sys2Proof.Laws.Listed
end

