-- ==== Sys2Proof/Tests/Base.lean ====
section
/-! SUPPORT. Small states for the tests: a module in service, and ways to place one thing in it. -/

namespace Sys2Proof.Tests

open Sys2Proof.Machine

/-- A module in service at 2 s of module time: start-up done, controller A holds the ball, compute dies 0 and 3 Active. -/
def up : State :=
  { State.reset with
    time := 2 * tickS
    sys := { ball := some .a, last := some .a, a := { st := 4 } }
    dies := [(0, { everActive := true }), (3, { everActive := true })]
    dict := [(objKey 0xB000 1, 12)] }

/-- The module in service with die d changed. -/
def onDie (d : Nat) (f : DieSt → DieSt) : State := up.modDie d f

/-- The module in service with core c of die d changed. -/
def onCore (d c : Nat) (f : CoreSt → CoreSt) : State := up.modCore d c f

/-- The module in service with an object changed. -/
def withObj (i j v : Nat) : State := up.setObj i j v

/-- A local mailbox session of role Owner, at counter 7. -/
def sess7 : Session := { transport := .mailbox, role := 3, method := 3, slot := 0, counter := 7, lastAt := 0 }

/-- The module in service with that session open as session 1. -/
def withSession : State := { up with sys := { up.sys with sessions := [(0, some sess7)] } }

/-- The next request of that session. -/
def req8 (idx : BitVec 16) (sub : BitVec 8) (off : BitVec 32) (more : Bool) (bs : List Byte) : MReq :=
  { transport := .mailbox, session := 1, counter := 8, index := idx, sub := sub, offset := off, more := more, payload := bs }

/-- An opening request. -/
def req0 (bs : List Byte) : MReq :=
  { transport := .mailbox, session := 0, counter := 0, index := 0, sub := 0, offset := 0, more := false, payload := bs }

/-- A start-up step in which nothing fails. -/
def clean : StepResult :=
  { straps := 5, identity := 0, badPrints := [], badRecords := [], configValid := true, stoppedDies := [], failedLights := [], badSlots := [],
    badRows := [], badLanes := [], checkersOk := true }

/-- A command word: its opcode and its other bits. -/
def cmdWord (op rest : Nat) : BitVec 128 := BitVec.ofNat 128 (op * 2 ^ 120 + rest)

/-- The command with a word, number 5. -/
def cmd5 (op rest : Nat) : Cmd := { num := 5, word := cmdWord op rest }

/-- Core 5 of die 3 with a command next in queue e, its engines holding leave, verification off, and the core changed. -/
def ready (e : Nat) (k : Cmd) (f : CoreSt → CoreSt := id) : State :=
  { up with
    dict := [(objKey 0x6810 1, 2), (objKey 0xB000 1, 12)]
    cores := [(coreKey 3 5, f ({ ({ } : CoreSt) with mx := { leave := true }, vx := { leave := true } }.setQ e
      { enable := true, acc := [k], count := 6, head := 6, tail := 6 }))] }

/-- An operand block. -/
def opBlock (fmt nk scale e0 e1 s1 base : Nat) : BitVec 512 :=
  BitVec.ofNat 512 (fmt * 2 ^ 504 + nk * 2 ^ 503 + scale * 2 ^ 448 + e0 * 2 ^ 416 + e1 * 2 ^ 384 + s1 * 2 ^ 320 + base)

/-- Bytes placed in the local store of core 5 of die 3. -/
def store5 (s : State) (off : Nat) (bs : List Byte) : State := s.putBytes 3 (lsAddr 5 off) bs

/-- An operand block decoded; a W96 block of no extent for one that does not decode. -/
def blk (v : BitVec 512) : Block :=
  (blockOf v).getD { elem := .w96, fmt := 9, nk := false, scale := 0, e0 := 0, e1 := 0, e2 := 0, e3 := 0, s1 := 0, s2 := 0, s3 := 0,
                     mstride := 0, wrap := 0, base := 0 }

/-- With verification off, and no tile poisoned and no error mark anywhere, every local store verifies. -/
theorem storeVerifies_off (s : State) (d c : Nat)
    (h : s.badTags = [] ∧ s.badWords = [] ∧ s.badBursts = [] ∧ s.tiles = [] ∧ s.verifyLevel = 2) : StoreVerifies s d c := by
  obtain ⟨h1, h2, h3, h4, h5⟩ := h
  intro t
  simp [State.verify, State.badIn, State.tile, mapGet, h1, h2, h3, h4, h5]

/-- Each number of a list follows from the one before by 64 zero bytes of CRC-32C. -/
def crcSteps : Nat → List Nat → Bool
  | _, [] => true
  | c, x :: xs => decide ((List.replicate 64 (0 : Byte)).foldl crcByte c = x) && crcSteps x xs

theorem crc_steps (xs : List Nat) : ∀ c, crcSteps c xs = true →
    (List.replicate (64 * xs.length) (0 : Byte)).foldl crcByte c = xs.getLast?.getD c := by
  induction xs with
  | nil => intro c _; rfl
  | cons x xs ih =>
    intro c h
    simp only [crcSteps, Bool.and_eq_true, decide_eq_true_eq] at h
    have h2 := ih x h.2
    rw [List.length_cons, show 64 * (xs.length + 1) = 64 + 64 * xs.length by omega, ← List.replicate_append_replicate,
      List.foldl_append, h.1, h2]
    cases xs with
    | nil => rfl
    | cons y ys => simp [List.getLast?_eq_some_getLast]

/-- The CRC of 64, 128, ... zero bytes before its last complement. -/
def crcZeroSteps : List Nat := [
  0xfc371498, 0xf7d89b24, 0x8bca87cf, 0x478d4e6f, 0x3d5a233, 0x4509d0c9, 0xcc289dc7, 0xcf03123f, 0x39b9ac6b, 0x1fd80331,
  0x7793e80c, 0xc5c4c2f9, 0xfc7deb93, 0xd77c4c0, 0xc011635a, 0x11512183, 0x96321f3c, 0xa8448891, 0x5717cf61, 0x72802fed,
  0x8b77850d, 0x6b47581e, 0xb9f00015, 0xa6fd2d2, 0xdd58b5aa, 0xfbd7265a, 0xac5b13c6, 0x5bcb999c, 0x782f93a7, 0x50e61ffc,
  0x7ddd2266, 0x5b767cb0, 0x58238b, 0x22b79a12, 0x7dd69ea, 0x13ca39cb, 0x441defd3, 0xe41fc7cf, 0xfacda96e, 0x4df00a81,
  0xeb5782d0, 0x278b2fa4, 0xcdcf02ca, 0x24571252, 0x25d8d536, 0xd84843ae, 0x3441f00b, 0xdf52be5c, 0xdf1acd0e, 0xf18f24b4,
  0x75ad7b36, 0xa82160e, 0x559746ee, 0x17ab347e, 0xeaa5b713, 0xf76f41ea, 0x74cb944e, 0x81bd34d5, 0xfbee9c85, 0x142ac051,
  0xb705e478, 0x54af813b, 0xa35d99a2, 0x6706be76]

theorem crc_end (bs : List Byte) (c k : Nat) (h : bs.foldl crcByte 0xFFFFFFFF = c) (hk : c ^^^ 0xFFFFFFFF = k) :
    crc32c bs = k := by
  subst h; exact hk

/-- The CRC-32C of a tile of zeros. -/
theorem crc_zeros : crc32c (List.replicate 4096 (0 : Byte)) = 0x98f94189 := by
  have h := crc_steps crcZeroSteps 0xFFFFFFFF (by decide +kernel)
  have e : 64 * crcZeroSteps.length = 4096 := by decide
  have l : crcZeroSteps.getLast?.getD 0xFFFFFFFF = 0x6706be76 := by decide
  rw [e, l] at h
  exact crc_end _ _ _ h (by decide)

/-- A tile of zeros with its CRC in its tag verifies. -/
theorem verify_zeros (d a : Nat) : (up.setTile d a { tag := 0x98f94189, st := .valid }).verify d a 0 = none := by
  have hb : (up.setTile d a { tag := 0x98f94189, st := .valid }).bytes d a 4096 = List.replicate 4096 0 := by
    simp [State.bytes, State.byte, State.setTile, up, State.reset, mapGet, List.map_const']
  have ht : (up.setTile d a { tag := 0x98f94189, st := .valid }).tile d a = { tag := 0x98f94189, st := .valid } := by
    simp [State.tile, State.setTile, up, State.reset, mapGet, mapSet]
  have h1 : (up.setTile d a { tag := 0x98f94189, st := .valid }).badTags = [] := rfl
  have h2 : (up.setTile d a { tag := 0x98f94189, st := .valid }).badIn d a 4096 = false := rfl
  have h3 : (up.setTile d a { tag := 0x98f94189, st := .valid }).races = [] := rfl
  simp only [State.verify, hb, ht, h1, h2, h3, crc_zeros]
  simp

/-- A tensor descriptor of two dimensions, and its fields. -/
def tensor (fmt e0 e1 s1 base : Nat) : BitVec 256 :=
  BitVec.ofNat 256 (fmt * 2 ^ 248 + 2 * 2 ^ 244 + e0 * 2 ^ 176 + e1 * 2 ^ 160 + s1 * 2 ^ 96 + base)

/-- The fields of a descriptor; those of no extent for one that does not decode. -/
def dsc (v : BitVec 256) : Desc :=
  (descOf v).getD { elem := .w96, fmt := 9, dims := 0, pack := false, scale := 0, e0 := 0, e1 := 0, e2 := 0, e3 := 0, s1 := 0,
                    s2 := 0, s3 := 0, base := 0 }

/-- The tidy core of core 5 of die 3 at address 8 with an instruction there, x1 = 7 and x2 = -3. -/
def tidy (v : Nat) (f : TcSt → TcSt := id) : State :=
  (onCore 3 5 (fun x => { x with tc := f { runBit := true, st := .running, pc := 8, x := [(1, 7), (2, 0xFFFFFFFD), (3, 0x10000040)] } })).putBytes
    3 (imemAddr 5 8) (toBytes 4 v)

/-- A response with status `st` to transaction 3, and the write it answers, of command 5 of core 5. -/
def resp3 (st : Nat) : Packet := ({ (default : Packet) with op := 0x12, txn := 3, opx := BitVec.ofNat 64 st }).seal
def txn3 : Txn :=
  { core := 5, num := 5, kind := .write, sent := 9, pkt := { (default : Packet) with op := 0x02, dstModule := 0xFFFF }
    piece := { grp := 0, src := .loc 64, dst := .remote 0 0 128, len := 8, tile := false } }

/-- Move 5 of core 5 of die 3 in execution, waiting for an answer. -/
def run5 (a : Await) : Run := { num := 5, word := cmdWord 0x40 0, awaits := [a] }
def moving (a : Await) (f : DieSt → DieSt := id) : State :=
  (onCore 3 5 (fun x => { x with q2 := { enable := true, run := [run5 a] } })).modDie 3 f

/-- Core 5 of die 3 with a matrix command that owns its first entries and a move that has waited 4,096 cycles for one of them;
further pieces of the move are given. -/
def stuck5 (ps : List Piece) : State :=
  { onCore 3 5 (fun x =>
      { x with
        q0 := { enable := true, run := [{ num := 5, word := cmdWord 0x10 0, owns := [⟨0, 1024, 0, 128⟩] }] }
        q2 := { enable := true, run := [{ num := 9, word := cmdWord 0x40 0, todo := ⟨0, .loc (accAddr 5 0), .loc 0, 16, false⟩ :: ps }] } })
    with time := up.time + 0x100000000000 }

/-- A host read of move 5. -/
def read5 : HostRead :=
  { tag := 9, die := 3, core := 5, num := 5, sent := 0, piece := { grp := 0, src := .host 0, dst := .loc 64, len := 3, tile := false } }

/-- The module in service with bank b changed, and its light die's active comb locked to feed A. -/
def onBank (b : Nat) (f : BankSt → BankSt) : State :=
  (up.modBank b f).modLight (bankLight b) (fun x => { x with st := 1, feed := some 0 })

/-- A bank whose rings are all locked. -/
def locked36 : SMap Ring := (List.range 37).map (fun i => (i, { setting := 7, locked := true }))

/-- A flit whose body bits [1983:32] are v, with good CRC and parity. -/
def flitOf (v : Nat) : BitVec 2048 :=
  let b := v * 2 ^ 32 + crc32c (toBytes 244 v)
  BitVec.ofNat 2048 ((List.range 64).foldl (fun n i =>
    let w := b / 2 ^ (31 * i) % 2 ^ 31
    n + (w + popCount 31 w % 2 * 2 ^ 31) * 2 ^ (32 * i)) 0)

/-- The module in service with bundle b of edge e changed. -/
def onBundle (e b : Nat) (f : BundleSt → BundleSt) : State := up.modBundle e b f

/-- The module in service with ID 12, and its links: bank 81 of port 77 up. -/
def linked : State := (onBank 81 (fun x => { x with st := 3 })).setObj 0x5000 1 12

/-- A packet from die 2 of module 9 to die 3 of module 12, transaction 5, changed and sealed. -/
def pkt9 (f : Packet → Packet) : Packet :=
  (f { (default : Packet) with srcModule := 9, srcDie := 2, dstModule := 12, dstDie := 3, txn := 5, cls := 1 }).seal

/-- The same from die 2 of module 12 itself. -/
def pkt12 (f : Packet → Packet) : Packet := pkt9 (fun k => f { k with srcModule := 12 })

/-- A group entry that is valid: its rank, size and SEQ, its list at 0x1000. -/
def grp (rank size seq : Nat) : BitVec 512 :=
  BitVec.ofNat 512 (field 511 1 + field 480 rank + field 463 size + field 416 44 + field 372 0x1000 + field 224 seq)

/-- Group 7 of die 3 of module 12, its rank r on die 3 - rank + r, and the collective in execution on it. -/
def inGroup (rank size seq : Nat) (c : Option Coll) : State :=
  (linked.modDie 3 (fun x => { x with col := { groups := [(7, grp rank size seq)], active := match c with | some c => [(7, some c)] | none => [] } })).putBytes
    3 0x1000 ((List.range size).flatMap (fun r => toBytes 4 (12 * 65536 + (3 + r - rank) * 4096)))

/-- A barrier on it, issued by command 5 of core 5. -/
def barrier : Coll := { core := 5, num := 5, seq := 9, desc := BitVec.ofNat 256 (field 68 7), sig := 77, since := 0 }

/-- Module 12 in play under epoch 44; modules 12 and 9 are listed as umpires, in an order. -/
def inPlay (l : List Nat) : State :=
  (((((linked.setObj 0x8000 1 2).setObj 0x5000 2 44).setObj 0x8001 1 (l[0]?.getD 0xFFFF)).setObj 0x8001 2 (l[1]?.getD 0xFFFF)).setObj
    0x8001 3 (l[2]?.getD 0xFFFF)).setObj 0x8001 4 0xFFFF

/-- That module under umpire 9, to which port 77 leads. -/
def underNine : State :=
  (({ inPlay [9] with fab := { routes := [(9, BitVec.ofNat 512 (2 ^ 127 + 2 ^ (384 + 77)))] } }).modBundle 40 0 (fun b => { b with
    role := 1, width := 1 })).modBundle 49 0 (fun b => { b with role := 1, width := 1 })

/-- That module with a frame standing at its steward, and what it keeps under the umpire changed. -/
def atSteward (l : List Nat) (f : BitVec 256) (u : UmpSt → UmpSt := id) : State :=
  { (inPlay l).modUmp u with fab := { (inPlay l).fab with frames := [(24, f)] } }

/-- Module 12 as umpire, to whose steward a frame has come from module 9, to which port 77 leads. -/
def asUmpire (f : BitVec 256) (u : UmpSt → UmpSt := id) : State :=
  { atSteward [12, 7] f u with lane := underNine.lane, fab := { underNine.fab with frames := [(24, f)] } }

/-- A routed frame of kind k from module 9 to module 12 with a body. -/
def from9 (k body : Nat) : BitVec 256 := BitVec.ofNat 256 (field 248 k + field 216 12 + field 200 9 + field 128 44 + body)

/-- The module not yet in play, ready, LOCKED, with an object changed. -/
def fresh (l : List Nat) (e : Nat) : State :=
  { ((inPlay l).setObj 0x8000 1 0).setObj 0x5000 2 e with gt := { (inPlay l).gt with st := 1 } }

/-- The address after an address is another. -/
theorem next_address (n : Nat) : (BitVec.ofNat 128 (n + 1)).toNat ≠ n := by
  rw [BitVec.toNat_ofNat]
  omega

/-- Core 5 of die 3 with an open loop, number 4, driven by latched descriptor 2 at its second chunk, that stands at command r, number 5; its
body is 5 and 6. -/
def loop5 (r : Run) (f : CoreSt → CoreSt) : State :=
  { ready 1 { num := 9, word := 0 } (fun x => f { x with
      q1 := { enable := true, run := [{ num := 4, word := cmdWord 0x2A 0, busy := true }, r,
        { num := 6, word := cmdWord 0 0, body := true, waited := false, busy := true }] }
      vx := { x.vx with
        pos := 5
        latched := [(2, some ⟨tensor 1 5 3 32 64, 1, none⟩)]
        loops := [{ loop := 4, first := 5, len := 2, left := 2, drv := some 2, csize := 512, chunk := 1 }] } }) with
    gt := up.gt }

end Sys2Proof.Tests
end

