-- ==== Sys2Proof/Tests/Slice0.lean ====
section
/-! SUPPORT. Tests: well-formedness, worked examples of the spec, and, for each statement, states and operands that meet its
hypotheses. -/

namespace Sys2Proof.Tests

open Sys2Proof.Machine

set_option Elab.async false
set_option synthInstance.maxSize 2000

/-! ### An ill-formed command for each check of WellFormed -/

theorem test_wf_acc_read : WellFormed (.accWindowRead 3 5 0 0) = false ∧ WellFormed (.accWindowRead 3 5 0x1FFFFF 2) = false := by decide
theorem test_wf_acc_write : WellFormed (.accWindowWrite 3 5 0 []) = false
    ∧ WellFormed (.accWindowWrite 3 5 0x1FFFFF [1, 2]) = false := by decide
theorem test_wf_register_write : ∀ t, WellFormed (.registerWrite t .host []) = false := by intro t; rfl
theorem test_wf_tag_write : WellFormed (.tagWrite 3 5 0 (List.replicate 9 0)) = false := by decide
theorem test_wf_hbm_access : ∀ g, WellFormed (.hbmAccess ⟨3, g⟩ 31 [1, 2] 0 []) = false ∧ WellFormed (.hbmAccess ⟨3, g⟩ 0 [] 0 [1, 2, 3]) = false
    ∧ WellFormed (.hbmAccess ⟨3, g⟩ 0 (List.replicate 33 0) 0 []) = false := by intro g; exact ⟨rfl, rfl, rfl⟩
theorem test_wf_hbm_sensor : WellFormed (.hbmSensorSample 3 0 []) = false := by decide
theorem test_wf_ring_settings : WellFormed (.transmitRingAssign 81 0 4200000 1) = false
    ∧ WellFormed (.receiveRingSearch 81 0 4200000 true) = false ∧ WellFormed (.ringFsrMove 81 true 0 ⟨0, 4200000⟩) = false ∧ WellFormed (.ringFsrMove 81 true 0 ⟨4200000, 0⟩) = false
    ∧ WellFormed (.ringResearchDone 81 true 0 true 4200000) = false := by decide
theorem test_wf_comb_monitor : WellFormed (.combMonitorSample ⟨4, true⟩ (List.replicate 37 0)) = false := by decide
theorem test_wf_packets : ∀ k : Packet, k.lines = 33 → WellFormed (.linkFrameReceive 77 0 k 0) = false
    ∧ WellFormed (.packetIngress 77 k) = false ∧ WellFormed (.remoteRequestReceive 3 k) = false
    ∧ WellFormed (.responseReceive 3 k) = false ∧ WellFormed (.mergedResponse 4 k) = false
    ∧ (∀ b, WellFormed (.collDataReceive 3 ⟨k, b⟩) = false) ∧ WellFormed (.collAckReceive 3 k) = false := by
  intro k h
  simp [WellFormed, Packet.wf, h]
theorem test_wf_packet_payload : Packet.wf { (default : Packet) with lines := 2, payload := List.replicate 128 0 } = false := by decide +kernel
theorem test_wf_access : WellFormed (.corePageAccess 3 5 0 (.read 0)) = false ∧ WellFormed (.bar2Access 0 (.read 4097)) = false
    ∧ WellFormed (.bar2Access 0 (.write [])) = false := by decide
theorem test_wf_requests : ∀ r : MReq, r.payload.length = 1025 → WellFormed (.read r) = false ∧ WellFormed (.write r) = false
    ∧ WellFormed (.readSeg r) = false ∧ WellFormed (.writeSeg r) = false ∧ WellFormed (.list r) = false ∧ WellFormed (.hello r) = false
    ∧ WellFormed (.proveKey r) = false ∧ WellFormed (.provePassword r) = false ∧ WellFormed (.openLocal r) = false
    ∧ WellFormed (.close r) = false ∧ WellFormed (.quote r) = false := by
  intro r h
  simp [WellFormed, MReq.wf, h]
theorem test_wf_host_link : WellFormed (.hostLinkTrain 0 16) = false ∧ WellFormed (.hostLinkTrain 6 3) = false
    ∧ WellFormed (.hostLinkTrain 6 16) = true := by decide

/-! ### Worked examples and check values -/

/-- Check value of R176 for the string 123456789. -/
theorem test_crc32c_check : crc32c ((List.range 9).map (fun i => BitVec.ofNat 8 (0x31 + i))) = 0xE3069283 := by decide +kernel

/-- The W96 partial encoded in ch.02: 1,024.375 at WEXP -20 after 8,192 products. -/
theorem test_w96_word : winWord { mant := 8195 * 2 ^ 77, wexp := -20, terms := 0x2000 } = 0x200000EC040060000000000000000000 := by decide

/-- The merge of ch.02: 1,024.375 less 1,021 leaves 27 times 2^77 at WEXP -20, exact. -/
theorem test_w96_merge : ((mergeWin false { mant := 8195 * 2 ^ 77, wexp := -20 } { mant := -1021 * 2 ^ 80, wexp := -20 }).1.mant,
    (mergeWin false { mant := 8195 * 2 ^ 77, wexp := -20 } { mant := -1021 * 2 ^ 80, wexp := -20 }).1.wexp) = (27 * 2 ^ 77, -20) := by
  decide

/-- The header of the worked example of ch.18: WRITE of 0x028A to 0x8000:05 in session 2 with counter 17. -/
theorem test_request_bytes : ((frameBytes 0x11 { transport := .service, session := 2, counter := 17, index := 0x8000, sub := 5, offset := 0, more := false, payload := [0x8A, 2] }
      false false 0 [0x8A, 2]).drop 4).take 22
    = [0, 0, 0, 0, 0, 5, 0, 0x80, 2, 0, 0x11, 0, 0, 0, 0, 2, 0x11, 1, 0x48, 0x4D, 0x8A, 2] := by decide

/-- LOCAL 0x0800_0380_0040 of ch.01 lies in the local store of core 7; 0x0000_1234_5680 in HBM. -/
theorem test_regions : regionCore (regionOf 0x080003800040) = some 7 ∧ regionOf 0x000012345680 = .hbm := by decide

/-! ### Hypotheses of the statements over all steps are met -/

theorem wit_MemoryStaysCanonical : Memory.wf (store5 up 8 [1, 0, 2]).mem = true ∧ ∃ t, step (store5 up 8 [1, 0, 2]) = .next t :=
  ⟨by decide, _, rfl⟩
theorem wit_TablesStayRising : KeysRise withSession ∧ ∃ t, step { withSession with pending := [.fabModuleId 5] } = .next t :=
  ⟨⟨by decide +kernel, by intro kv h; cases h⟩, _, rfl⟩
theorem wit_SessionsStayFour : FourSessions withSession ∧ ∃ t, step { withSession with pending := [.sessionIdleExpire 0] } = .next t :=
  ⟨by decide +kernel, _, rfl⟩
theorem wit_CommandsKeepTheQueue : QueueOk { up with pending := [.umpireStartTimeout] }
    ∧ (∃ t, step { up with pending := [.umpireStartTimeout] } = .next t) ∧ ∃ t, exec .umpireStartTimeout up = .next t :=
  ⟨by intro c h; simp at h; subst h; rfl, ⟨_, rfl⟩, _, rfl⟩
theorem wit_FenceStands : (withObj 0x8000 1 3).fenced = true ∧ (∃ t, exec .epochOpen (withObj 0x8000 1 3) = .next t)
    ∧ up.boot.off = false ∧ Rises up.flash.fixed ∧ mapGet 0 up.flash.fixed (objKey 0x8000 1) = 0 :=
  ⟨by decide +kernel, ⟨_, rfl⟩, by decide, by decide, by decide⟩
theorem wit_StepIdles : up.pending = [] := rfl
theorem wit_MihimelFramesRoundTrip : 0x11 < 256 ∧ (req8 0x8000 5 0 false [0x8A, 2]).payload.length < 2 ^ 16 := by decide
theorem wit_ExactWindowHoldsTheSum : (foldProducts false { } [(false, 5, 3), (true, 7, -60)]).cls = 0
    ∧ (foldProducts false { } [(false, 5, 3), (true, 7, -60)]).trunc = false
    ∧ (foldProducts false { } [(true, 7, -60), (false, 5, 3)]).cls = 0
    ∧ (foldProducts false { } [(true, 7, -60), (false, 5, 3)]).trunc = false
    ∧ (∀ p ∈ [(false, 5, (3 : Int)), (true, 7, -60)], (-512 : Int) ≤ p.2.2) := by decide +kernel
theorem wit_ExactWindow_perm : [(false, 5, (3 : Int)), (true, 7, -60)].Perm [(true, 7, -60), (false, 5, 3)] := List.Perm.swap _ _ _
theorem wit_WindowsFitTheirWord : WinFits { mant := 8195 * 2 ^ 77, wexp := -20, terms := 0x2000 }
    ∧ (foldFinite false { } true 7 (-4)).1.cls = 0 := by decide +kernel

/-! ### Hypotheses of each clause are met -/

theorem wit_SpokesCarryLevels_dieStateFrame :
  let s : State := withObj 0x2002 0 0x8000
  (TablesRise s) := by decide +kernel

theorem wit_SpokesCarryLevels_spokeStatusBad :
  let s : State := up
  (TablesRise s) := by decide +kernel

theorem wit_SpokesCarryLevels_spokeStatusGood :
  let s : State := up.modSpoke 15 (fun x => { x with lost := true })
  (TablesRise s) := by decide +kernel

theorem wit_SpokesCarryLevels_spokeLost :
  let d : Fin 24 := 7
  let s : State := up.modSpoke 7 (fun x => { x with missed := 3 })
  (TablesRise s) ∧ (3 ≤ (s.spoke d).missed) ∧ ((s.spoke d).lost = false) := by decide +kernel

theorem wit_SpokesCarryLevels_faultRecord :
  let src : Fin 25 := 3
  let site : BitVec 8 := 1
  let unit : BitVec 8 := 9
  let cause : BitVec 16 := 2
  let r : Raised := ⟨mkEvent 1 2 3 9 2 0, 0⟩
  let s : State := (up.modSpoke 3 (fun x => { x with alarmGt := some 500 })).raise (mkEvent 1 2 3 9 2 0)
  (r ∈ s.flt.raised) ∧ (r.ev.site = site) ∧ (r.ev.source.toNat = src.val) ∧ (r.ev.unit = unit) ∧ (r.ev.cause = cause) := by decide +kernel

theorem wit_SpokesCarryLevels_faultRecordEntry :
  let src : Fin 25 := 3
  let site : BitVec 8 := 1
  let unit : BitVec 8 := 9
  let cause : BitVec 16 := 2
  let i : Nat := 0
  let e : LogEntry := { word := logWord 1 ⟨mkEvent 1 2 3 9 2 0, 0⟩, at_ := 2 * tickS }
  let s : State := up.setLog 0 { word := logWord 1 ⟨mkEvent 1 2 3 9 2 0, 0⟩, at_ := 2 * tickS }
  (Rises s.flt.log) ∧ (s.flt.raised.any (fun r => eventNames r.ev src site unit cause) = false) ∧ (s.entryOf src site unit cause = some i) ∧ (s.logAt i = some e) := by decide +kernel

theorem wit_SpokesCarryLevels_faultRecordAlone_1 :
  let src : Fin 25 := 3
  let site : BitVec 8 := 1
  let unit : BitVec 8 := 9
  let cause : BitVec 16 := 2
  let late : Bool := false
  let s : State := up.modSpoke 3 (fun x => { x with alarmGt := some 500 })
  (s.flt.raised.any (fun r => eventNames r.ev src site unit cause) = false) ∧ (late = true ∨ s.entryOf src site unit cause = none) := by decide +kernel

theorem wit_SpokesCarryLevels_faultRecordAlone_2 :
  let src : Fin 25 := 24
  let site : BitVec 8 := 13
  let unit : BitVec 8 := 0
  let cause : BitVec 16 := 2
  let late : Bool := true
  let s : State := up
  (s.flt.raised.any (fun r => eventNames r.ev src site unit cause) = false) ∧ (late = true ∨ s.entryOf src site unit cause = none) := by decide +kernel

theorem wit_PowerRailsAndClocks_inputMonitor :
  let mv : Nat := 50000
  let w1ms : Nat := 9000
  let s : State := up
  (TablesRise s) ∧ (50000 ≤ mv) ∧ (mv < 2 ^ 32) ∧ (w1ms < 2 ^ 32) ∧ (s.pwr.brown = false ∨ (mv < 54000 ∨ (s.inStandby = false ∨ s.levelWake = false))) := by decide +kernel

theorem wit_PowerRailsAndClocks_inputBrownOut :
  let mv : Nat := 49999
  let t0 : Nat := 5
  let s : State := { up with pwr := { low := true, lowSince := some 5 } }
  (TablesRise s) ∧ (40000 ≤ mv) ∧ (mv < 50000) ∧ (s.pwr.brown = false) ∧ (s.pwr.lowSince = some t0) ∧ (t0 + 100 * tickUs ≤ s.time) ∧ (s.host.ordered = []) := by decide +kernel

theorem wit_PowerRailsAndClocks_inputGone :
  let mv : Nat := 39999
  (mv < 40000) := by decide +kernel

theorem wit_PowerRailsAndClocks_inputBack :
  let mv : Nat := 54000
  let s : State := { (withObj 0x2000 7 1).setObj 0xB000 1 0x1C with pwr := { brown := true, low := true, wakeLow := true } }
  (TablesRise s) ∧ (54000 ≤ mv) ∧ (s.pwr.brown = true) ∧ (s.inStandby = true) ∧ (s.levelWake = true) := by decide +kernel

theorem wit_PowerRailsAndClocks_inputClockStep :
  let s : State := { up with pwr := { overLimit := true } }
  (TablesRise s) ∧ (s.pwr.overLimit = true) ∧ (s.pwr.capAt + 10 * tickUs ≤ s.time) := by decide +kernel

theorem wit_PowerRailsAndClocks_inputClockRise :
  let t0 : Nat := 5
  let s : State := { up with pwr := { cap := 1500, calmSince := some 5 } }
  (TablesRise s) ∧ (s.pwr.overLimit = false) ∧ (s.pwr.calmSince = some t0) ∧ (t0 + tickMs ≤ s.time) ∧ (s.pwr.capAt + tickMs ≤ s.time) ∧ (s.pwr.cap < 1600) := by decide +kernel

theorem wit_PowerRailsAndClocks_coreClockStep :
  let d : Fin 16 := 3
  let ma : Nat := 520000
  let s : State := up
  (TablesRise s) ∧ (s.dieRuns d = true) ∧ (s.limitMa d ≤ ma) := by decide +kernel

theorem wit_PowerRailsAndClocks_coreClockRise :
  let d : Fin 16 := 3
  let ma : Nat := 9
  let t0 : Nat := 5
  let s : State := onDie 3 (fun x => { x with mhz := 1575, belowSince := some 5 })
  (TablesRise s) ∧ (s.dieRuns d = true) ∧ (ma < s.limitMa d) ∧ (100 * ma < 95 * s.limitMa d) ∧ ((s.die d).belowSince = some t0) ∧ (t0 + tickMs ≤ s.time) ∧ ((s.die d).stepAt + 100 * tickUs ≤ s.time) ∧ ((s.die d).mhz + 25 ≤ s.clockCap) := by decide +kernel

theorem wit_PowerRailsAndClocks_phaseFailure :
  let rail : Rail := .stewardB
  let s : State := { up with pwr := { phases := [(81, 1)] } }
  (TablesRise s) ∧ (mapGet 0 s.pwr.phases (railKey rail) < railPhases (railKey rail)) := by decide +kernel

theorem wit_PowerRailsAndClocks_railOutCore_1 :
  let d : Fin 16 := 15
  let rail : Rail := .core 15
  let s : State := up
  (TablesRise s) ∧ (rail = .core d ∨ rail = .mesh d ∨ rail = .hbm d ∨ rail = .alwaysOn d) := by decide +kernel

theorem wit_PowerRailsAndClocks_railOutCore_2 :
  let d : Fin 16 := 15
  let rail : Rail := .alwaysOn 15
  let s : State := up
  (TablesRise s) ∧ (rail = .core d ∨ rail = .mesh d ∨ rail = .hbm d ∨ rail = .alwaysOn d) := by decide +kernel

theorem wit_PowerRailsAndClocks_railOutLight :
  let l : Fin 8 := 7
  let rail : Rail := .photonics 7
  let s : State := up
  (TablesRise s) ∧ (rail = .light l ∨ rail = .photonics l) := by decide +kernel

theorem wit_PowerRailsAndClocks_railOutSteward :
  let s : State := up
  (TablesRise s) := by decide +kernel

theorem wit_PowerRailsAndClocks_railOutStewardA_1 :
  let s : State := up
  (TablesRise s) ∧ (s.sys.b.st = 0) := by decide +kernel

theorem wit_PowerRailsAndClocks_railOutStewardA_2 :
  let s : State := { up with sys := { up.sys with b := { healthy := false } } }
  (TablesRise s) ∧ (s.sys.b.healthy = false) := by decide +kernel

theorem wit_DiesSleepAndWake_dieIdleEntry :
  let d : Fin 16 := 3
  let s : State := withObj 0x2800 1 1
  (TablesRise s) ∧ (s.dieRuns d = true) ∧ ((s.die d).pstate = 0) ∧ (s.obj 0x2800 1 = 1) ∧ (s.dieQuiet d = true) ∧ (∀ c : Fin 32, (s.core d c).lastBusy + 10 * tickUs ≤ s.time) := by decide +kernel

theorem wit_DiesSleepAndWake_dieIdleExit :
  let d : Fin 16 := 3
  let s : State := onDie 3 (fun x => { x with pstate := 1 })
  (TablesRise s) ∧ ((s.die d).pstate = 1) := by decide +kernel

theorem wit_DiesSleepAndWake_pwrDieSleepReq :
  let s : State := (onDie 3 (fun x => { x with pstate := 2 })).setObj 0x2002 0 8
  (TablesRise s) ∧ (Writable s) := by decide +kernel

theorem wit_DiesSleepAndWake_dieSleepCommand_1 :
  let d : Fin 16 := 3
  let s : State := (withObj 0x2002 0 8).modSpoke 3 (fun x => { x with sleepCmd := true })
  (TablesRise s) ∧ (s.dieRuns d = true) ∧ (s.sleepReq d = true) ∧ ((s.spoke d).sleepCmd = true ∨ (s.spoke d).lost = true) ∧ ((s.die d).retryAt ≤ s.time) ∧ (s.refuser d = 0) := by decide +kernel

theorem wit_DiesSleepAndWake_dieSleepCommand_2 :
  let d : Fin 16 := 3
  let s : State := (withObj 0x2002 0 8).modSpoke 3 (fun x => { x with sleepCmd := true, wake := true })
  (TablesRise s) ∧ (s.dieRuns d = true) ∧ (s.sleepReq d = true) ∧ ((s.spoke d).sleepCmd = true ∨ (s.spoke d).lost = true) ∧ ((s.die d).retryAt ≤ s.time) ∧ (s.refuser d ≠ 0) := by decide +kernel

theorem wit_DiesSleepAndWake_dieSleepEntryDone :
  let d : Fin 16 := 3
  let t0 : Nat := 5
  let s : State := (onDie 3 (fun x => { x with pstate := 2, entryAt := some 5 })).setObj 0x2002 0 8
  (TablesRise s) ∧ ((s.die d).entryAt = some t0) ∧ ((s.die d).pstate = 2) ∧ (s.pwr.entering = 0) ∧ (s.wakeSince d = none) ∧ (t0 + latchTicks ≤ s.time) := by decide +kernel

theorem wit_DiesSleepAndWake_dieSleepAborts :
  let d : Fin 16 := 3
  let t0 : Nat := 5
  let w : Nat := 4
  let s : State := (onDie 3 (fun x => { x with pstate := 2, entryAt := some 5, asked := some 4 })).setObj 0x2002 0 8
  (TablesRise s) ∧ ((s.die d).entryAt = some t0) ∧ ((s.die d).pstate = 2) ∧ (s.pwr.entering = 0) ∧ (s.wakeSince d = some w) ∧ (w < t0 + latchTicks) ∧ ((s.die d).heldActs = []) ∧ (s.host.ordered = []) ∧ (∀ c : Fin 32, (s.core d c).q2.run = []) := by decide +kernel

theorem wit_DiesSleepAndWake_dieWake :
  let d : Fin 16 := 3
  let c : WakeCause := .access
  let s : State := (onDie 3 (fun x => { x with pstate := 3, asked := some 5 })).setObj 0x2002 0 8
  (TablesRise s) ∧ ((s.die d).pstate = 3) ∧ ((s.spoke d).lost = false) ∧ (s.bootStep ≠ 0x1C) ∧ (s.wakeReason d c = true) := by decide +kernel

theorem wit_DiesSleepAndWake_dieWakeSpokeLost :
  let d : Fin 16 := 3
  let s : State := (onDie 3 (fun x => { x with pstate := 3, asked := some 5 })).modSpoke 3 (fun x => { x with lost := true })
  ((s.spoke d).lost = true) := by decide +kernel

theorem wit_DiesSleepAndWake_dieWakeDoneEvent :
  let d : Fin 16 := 3
  let t0 : Nat := 5
  let s : State := onDie 3 (fun x => { x with pstate := 4, wakeAt := some 5 })
  ((s.die d).wakeAt = some t0) ∧ ((s.die d).pstate = 4) ∧ ((s.die d).padsHeld = false) ∧ (t0 + 66 * tickUs ≤ s.time) := by decide +kernel

theorem wit_DiesSleepAndWake_dieWakeDone :
  let d : Fin 16 := 3
  let t0 : Nat := 5
  let s : State := onDie 3 (fun x => { x with pstate := 4, wakeAt := some 5 })
  (TablesRise s) ∧ ((s.die d).wakeAt = some t0) ∧ ((s.die d).pstate = 4) ∧ ((s.die d).padsHeld = false) ∧ (t0 + 66 * tickUs ≤ s.time) ∧ ((s.die d).heldActs = []) ∧ ((s.die d).hbmWait = []) ∧ (s.host.ordered = []) ∧ ((s.die d).substDue = []) ∧ (∀ c : Fin 32, (s.core d c).q2.run = []) := by
  repeat' apply And.intro
  all_goals first | decide +kernel

theorem wit_DiesSleepAndWake_pwrPadRelease :
  let s : State := onDie 3 (fun x => { x with pstate := 4, padsHeld := true, wakeAt := some 5 })
  (TablesRise s) ∧ (Writable s) := by decide +kernel

theorem wit_ModuleStandbyEntersAndEnds_pwrModuleState :
  let v : BitVec 8 := 2
  let s : State := up
  (TablesRise s) ∧ (Writable s) ∧ (v = 1 ∨ v = 2) ∧ (s.bootStep = 12) ∧ (s.pwr.entering = 0) ∧ (s.standbyRefuser = none) := by decide +kernel

theorem wit_ModuleStandbyEntersAndEnds_pwrModuleStateRefused :
  let v : BitVec 8 := 1
  let k : Nat × Nat := (0x12, 16)
  let s : State := { up with pwr := { wakeLow := true } }
  (Writable s) ∧ (v = 1 ∨ v = 2) ∧ (s.bootStep = 12) ∧ (s.pwr.entering = 0) ∧ (s.standbyRefuser = some k) := by decide +kernel

theorem wit_ModuleStandbyEntersAndEnds_moduleStandbyDone :
  let s : State := { up with pwr := { entering := 1 } }
  (TablesRise s) ∧ (s.pwr.entering ≠ 0) ∧ (s.obj 0x2000 8 = 0) ∧ (s.levelWake = false) ∧ (s.pwr.wakeEdge = none) := by decide +kernel

theorem wit_ModuleStandbyEntersAndEnds_moduleStandbyEndsAtOnce :
  let s : State := { up with pwr := { entering := 1, wakeLow := true } }
  (TablesRise s) ∧ (s.pwr.entering ≠ 0) ∧ (s.obj 0x2000 8 = 1 ∨ s.levelWake = true) := by decide +kernel

theorem wit_ModuleStandbyEntersAndEnds_pwrHostWake_1 :
  let s : State := up
  (TablesRise s) ∧ (Writable s) := by decide +kernel

theorem wit_ModuleStandbyEntersAndEnds_pwrHostWake_2 :
  let s : State := withObj 0x2000 7 1
  (TablesRise s) ∧ (Writable s) ∧ (s.obj 0x2000 7 ≠ 0) := by decide +kernel

theorem wit_ModuleStandbyEntersAndEnds_pwrHostWake_3 :
  let s : State := withObj 0x2000 8 1
  (TablesRise s) ∧ (Writable s) ∧ (s.obj 0x2000 7 = 0) := by decide +kernel

theorem wit_ModuleStandbyEntersAndEnds_pwrHostWake_4 :
  let s : State := (withObj 0x2000 7 1).setObj 0xB000 1 0x1C
  (TablesRise s) ∧ (Writable s) ∧ (s.inStandby = true) ∧ (s.pwr.brown = false) := by decide +kernel

theorem wit_ModuleStandbyEntersAndEnds_wakeN_1 :
  let s : State := (withObj 0x2000 7 1).setObj 0xB000 1 0x1C
  (TablesRise s) ∧ (s.inStandby = true) ∧ (s.pwr.brown = false) ∧ (s.obj 0x2000 9 = 0) := by decide +kernel

theorem wit_ModuleStandbyEntersAndEnds_wakeN_2 :
  let s : State := up
  (TablesRise s) ∧ (s.inStandby = false) := by decide +kernel

theorem wit_ModuleStandbyEntersAndEnds_wakeN_3 :
  let s : State := ((withObj 0x2000 7 1).setObj 0x2000 9 1).setObj 0xB000 1 0x1C
  (TablesRise s) ∧ (s.inStandby = true) ∧ (s.pwr.brown = false) ∧ (s.obj 0x2000 9 = 1) ∧ (s.pwr.wakeLow = false) := by decide +kernel

theorem wit_LeaveIsAskedGrantedReleased_leaveRequest :
  let r : Requester := .combStart 7
  let s : State := up
  (TablesRise s) ∧ (s.mayAsk r = true) ∧ (s.pwr.has r = false) ∧ (s.pwr.asks r = false) := by decide +kernel

theorem wit_LeaveIsAskedGrantedReleased_governorHeld :
  let s : State := { up with pwr := { low := true, arrivals := [⟨.combStart 1, 10, 2, 0⟩] } }
  (TablesRise s) ∧ (s.pwr.overLimit = true ∨ s.pwr.low = true) := by decide +kernel

theorem wit_LeaveIsAskedGrantedReleased_governorGrants :
  let r : Requester := .dieWake 3
  let w : Nat := 600
  let q : Nat := 0
  let n : Nat := 0
  let s : State := { up with pwr := { arrivals := [⟨.dieWake 3, 600, 0, 0⟩] } }
  (TablesRise s) ∧ (s.pwr.overLimit = false) ∧ (s.pwr.low = false) ∧ (s.pwr.waiting = []) ∧ (s.pwr.grants = []) ∧ (s.pwr.arrivals = [⟨r, w, q, n⟩]) ∧ (q < 4) ∧ (s.pwr.heldWatts + w ≤ s.obj 0x2000 3) ∧ (w ≤ leaveFloor q) := by decide +kernel

theorem wit_LeaveIsAskedGrantedReleased_leaveRelease :
  let r : Requester := .matrixEngine 3 31
  let s : State := { up with pwr := { held := [⟨.matrixEngine 3 31, 100⟩, ⟨.combStart 0, 10⟩] } }
  (TablesRise s) ∧ (s.pwr.has r = true) := by decide +kernel

theorem wit_ThermalLimitsAct_thermalSensorSample :
  let p : Fin 89 := 88
  let xs : List Int := [990, 1000, 1000]
  let x : Int := 1000
  let i : Nat := 1
  let s : State := up
  (TablesRise s) ∧ (s.thm.failed = []) ∧ (xs.all (fun y => !outOfRange y && decide ((2 * y - median2 xs).natAbs ≤ 300)) = true) ∧ (xs[i]? = some x) ∧ (xs.all (fun y => decide (y ≤ x)) = true) ∧ ((xs.take i).all (fun y => decide (y < x)) = true) ∧ (s.warnAt p ≤ x) ∧ (p.val ∉ s.thm.warn) := by
  repeat' apply And.intro
  all_goals first | (simp [median2, outOfRange, List.mergeSort, List.MergeSort.Internal.splitInTwo]; done) | decide +kernel

theorem wit_ThermalLimitsAct_thermalSensorFails_1 :
  let p : Fin 89 := 79
  let x : Int := 1501
  let s : State := up
  (TablesRise s) ∧ (s.thm.failed = []) ∧ (x < -400 ∨ 1500 < x) ∧ (p.val < 80) := by decide +kernel

theorem wit_ThermalLimitsAct_thermalSensorFails_2 :
  let x : Int := -401
  let s : State := up
  (TablesRise s) ∧ (s.thm.failed = []) ∧ (x < -400 ∨ 1500 < x) := by decide +kernel

theorem wit_ThermalLimitsAct_throttleEvaluate :
  let d : Fin 16 := 3
  let s : State := { up with thm := { hotParts := [3] } }
  (TablesRise s) ∧ ((s.die d).pstate ≠ 5) ∧ ((s.die d).phiAt + tickMs ≤ s.time) ∧ (d.val ∈ s.thm.hotParts) ∧ (s.blind d = false) ∧ (s.thm.cap = false) := by decide +kernel

theorem wit_ThermalLimitsAct_throttleRises :
  let d : Fin 16 := 3
  let s : State := (onDie 3 (fun x => { x with factor := 80 }))
  (TablesRise s) ∧ ((s.die d).pstate ≠ 5) ∧ ((s.die d).phiAt + tickMs ≤ s.time) ∧ (d.val ∉ s.thm.hotParts) ∧ (∀ k : Fin 4, 16 + 4 * d.val + k.val ∉ s.thm.hotParts) ∧ (s.hotOf d = none ∨ (s.hotOf d).any (fun h => decide (h.1 < 950)) = true) ∧ (∀ k : Fin 4, s.hotOf (16 + 4 * d + k) = none ∨ (s.hotOf (16 + 4 * d + k)).any (fun h => decide (h.1 < 900)) = true) ∧ (s.blind d = false) := by decide +kernel

theorem wit_ThermalLimitsAct_throttleBlind :
  let d : Fin 16 := 3
  let s : State := { up with thm := { failed := (List.range 24).map (sensorKey 3) } }
  (TablesRise s) ∧ ((s.die d).pstate ≠ 5) ∧ ((s.die d).phiAt + tickMs ≤ s.time) ∧ (s.blind d = true) := by decide +kernel

theorem wit_ThermalLimitsAct_thermalShutdown :
  let p : Fin 89 := 79
  let sn : BitVec 8 := 15
  let x : Int := 1050
  let s : State := { up with thm := { hot := [(79, some (1050, 15))] } }
  (TablesRise s) ∧ (s.hotOf p = some (x, sn.toNat)) ∧ (s.thm.trip = none) ∧ (shutAt p ≤ x) := by decide +kernel

theorem wit_ThermalLimitsAct_tripRecordWrite :
  let tr : Trip := ⟨7, 79, 15, 1050, 3, false⟩
  let s : State := { up with thm := { trip := some ⟨7, 79, 15, 1050, 3, false⟩ } }
  (s.thm.trip = some tr) ∧ (tr.written = false) := by decide +kernel

theorem wit_ThermalLimitsAct_thmTripClear_1 :
  let s : State := up
  (TablesRise s) ∧ (Writable s) := by decide +kernel

theorem wit_ThermalLimitsAct_thmTripClear_2 :
  let s : State := up
  (TablesRise s) ∧ (Writable s) ∧ (s.thm.trip = none) := by decide +kernel

theorem wit_ThermalLimitsAct_thmTripClear_3 :
  let s : State := { (withObj 0x3000 1 350).setObj 0x3000 3 1200 with thm := { trip := some ⟨7, 79, 15, 1050, 3, true⟩, hot := [(79, some (999, 15))] } }
  (TablesRise s) ∧ (Writable s) ∧ (s.thm.trip ≠ none) ∧ (s.cooled = true) ∧ (s.coolantOk = true) := by decide +kernel

theorem wit_ThermalLimitsAct_coolantSample_1 :
  let f : Nat := 1200
  let s : State := { up with thm := { badSince := some 0 } }
  (TablesRise s) ∧ (f < 2 ^ 32) ∧ (800 ≤ f) ∧ (s.thm.cap = false) ∧ (stood s.thm.badSince tickS s.time = true) ∧ (s.thm.badLogged = false) := by decide +kernel

theorem wit_ThermalLimitsAct_coolantSample_2 :
  let f : Nat := 1200
  let s : State := up
  (TablesRise s) ∧ (f < 2 ^ 32) ∧ (800 ≤ f) ∧ (s.thm.cap = false) := by decide +kernel

theorem wit_ThermalLimitsAct_coolantLowFlow :
  let f : Nat := 799
  let s : State := { up with thm := { lowSince := some 0 } }
  (TablesRise s) ∧ (f < 800) ∧ (s.thm.cap = false) ∧ (stood s.thm.lowSince tickS s.time = true) := by decide +kernel

theorem wit_ThermalLimitsAct_coolantSensorFails :
  let s : State := up
  (s.thm.coolFailed = false) := by decide +kernel

theorem wit_ControllersShareTheBall_heartbeat :
  let c : Ctrl := .a
  let s : State := up
  ((s.ctrl c).healthy = true) ∧ ((s.ctrl c).st ≠ 0) ∧ ((s.ctrl c).st ≠ 5) ∧ ((s.ctrl c).st = 4 → s.sys.ball = some c) := by decide +kernel

theorem wit_ControllersShareTheBall_heartbeatWithoutBall :
  let c : Ctrl := .b
  let s : State := { up with sys := { up.sys with b := { st := 4 } } }
  ((s.ctrl c).healthy = true) ∧ ((s.ctrl c).st = 4) ∧ (s.sys.ball ≠ some c) := by decide +kernel

theorem wit_ControllersShareTheBall_ballKept :
  let c : Ctrl := .a
  let s : State := { up with sys := { up.sys with a := { st := 4, hb := some up.time } } }
  (s.sys.ball = some c) ∧ (s.hbCurrent c = true) ∧ (s.sys.a.claim = false) ∧ (s.sys.b.claim = false) ∧ (s.sys.a.healthy = true) ∧ (s.sys.b.healthy = true) := by decide +kernel

theorem wit_ControllersShareTheBall_ballPasses :
  let c : Ctrl := .a
  let s : State := { up with sys := { up.sys with a := { st := 4 }, b := { st := 3, hb := some up.time } } }
  (TablesRise s) ∧ (s.sys.ball = some c) ∧ (s.sys.last = some c) ∧ (s.hbCurrent c = false) ∧ (s.ballEligible (otherCtrl c) = true) ∧ (s.sys.a.claim = false) ∧ (s.sys.b.claim = false) ∧ (s.sys.a.healthy = true) ∧ (s.sys.b.healthy = true) := by decide +kernel

theorem wit_ControllersShareTheBall_ballUnheld :
  let c : Ctrl := .a
  let s : State := up
  (s.sys.ball = some c) ∧ (s.hbCurrent c = false) ∧ (s.ballEligible (otherCtrl c) = false) ∧ (s.sys.a.claim = false) ∧ (s.sys.b.claim = false) ∧ (s.sys.a.healthy = true) ∧ (s.sys.b.healthy = true) := by decide +kernel

theorem wit_ControllersShareTheBall_ballGranted_1 :
  let c : Ctrl := .a
  let s : State := { up with sys := { a := { st := 3, hb := some up.time }, b := { st := 3, hb := some up.time } } }
  (s.sys.ball = none) ∧ (s.ballEligible c = true) ∧ (s.ballEligible (otherCtrl c) = false ∨ s.sys.last = some c ∨ (s.sys.last = none ∧ c = .a)) ∧ (s.sys.a.claim = false) ∧ (s.sys.b.claim = false) ∧ (s.sys.a.healthy = true) ∧ (s.sys.b.healthy = true) := by decide +kernel

theorem wit_ControllersShareTheBall_ballGranted_2 :
  let c : Ctrl := .b
  let s : State := { up with sys := { last := some .b, a := { st := 3, hb := some up.time }, b := { st := 3, hb := some up.time } } }
  (s.sys.ball = none) ∧ (s.ballEligible c = true) ∧ (s.ballEligible (otherCtrl c) = false ∨ s.sys.last = some c ∨ (s.sys.last = none ∧ c = .a)) ∧ (s.sys.a.claim = false) ∧ (s.sys.b.claim = false) ∧ (s.sys.a.healthy = true) ∧ (s.sys.b.healthy = true) := by decide +kernel

theorem wit_ControllersShareTheBall_ballClaimRefused :
  let c : Ctrl := .b
  let s : State := { up with sys := { up.sys with a := { st := 4, hb := some up.time }, b := { st := 3, claim := true } } }
  (TablesRise s) ∧ (s.sys.ball = some (otherCtrl c)) ∧ (s.hbCurrent (otherCtrl c) = true) ∧ ((s.ctrl c).claim = true) ∧ ((s.ctrl (otherCtrl c)).claim = false) ∧ (s.sys.a.healthy = true) ∧ (s.sys.b.healthy = true) ∧ ((s.ctrl c).st = 3) ∧ (s.obj 0x1020 5 < 1000) ∧ (s.obj 0x1020 4 < 1000) := by
  repeat' apply And.intro
  all_goals first | decide +kernel

theorem wit_ControllersShareTheBall_ballClaim :
  let c : Ctrl := .b
  let s : State := { up with sys := { up.sys with b := { st := 1 } } }
  (1 ≤ (s.ctrl c).st) ∧ ((s.ctrl c).st ≤ 4) := by decide +kernel

theorem wit_ControllersShareTheBall_controllerWatchdog :
  let c : Ctrl := .a
  let s : State := up
  ((s.ctrl c).st ≠ 0) ∧ ((s.ctrl c).st ≠ 5) := by decide +kernel

theorem wit_ControllersShareTheBall_controllerBootDone :
  let c : Ctrl := .b
  let k : Nat := 1
  let s : State := { withObj 0xB100 2 1 with sys := { b := { st := 1 } }, flash := { fwB := { st := 1 } } }
  ((s.ctrl c).st = 1) ∧ (s.bootSlot = some k) ∧ (s.sys.ball = none) := by decide +kernel

theorem wit_ControllersShareTheBall_controllerBootSyncs :
  let c : Ctrl := .b
  let h : Ctrl := .a
  let k : Nat := 1
  let s : State := { withObj 0xB100 2 1 with sys := { up.sys with b := { st := 1 } }, flash := { fwA := { st := 1 }, fwB := { st := 1 } } }
  ((s.ctrl c).st = 1) ∧ (s.bootSlot = some k) ∧ (s.sys.ball = some h) ∧ (h = otherCtrl c) ∧ (imgMirror (s.fw k).image = imgMirror (s.fw (s.ctrl h).slot).image) := by decide +kernel

theorem wit_ControllersShareTheBall_controllerBootFails :
  let c : Ctrl := .b
  let s : State := { up with sys := { up.sys with b := { st := 1, failed := 2 } }, flash := { fwA := { st := 2 }, fwB := { st := 2 } } }
  (TablesRise s) ∧ ((s.ctrl c).st = 1) ∧ (s.bootSlot = none) := by decide +kernel

theorem wit_ControllersShareTheBall_mirrorSyncDone :
  let c : Ctrl := .b
  let s : State := { up with sys := { up.sys with b := { st := 2 } } }
  ((s.ctrl c).st = 2) ∧ (s.sys.ball = some (otherCtrl c)) := by decide +kernel

theorem wit_ControllersShareTheBall_ballUnheldFence :
  let t0 : Nat := 5
  let s : State := { up with sys := { unheld := some 5 } }
  (TablesRise s) ∧ (s.sys.unheld = some t0) ∧ (t0 + tickS ≤ s.time) ∧ (s.sys.fenceDue = false) ∧ (s.driven = true) ∧ (s.fenced = false) := by decide +kernel

theorem wit_ControllersShareTheBall_sysHandover :
  let h : Ctrl := .a
  let s : State := { up with sys := { up.sys with b := { st := 3 } } }
  (TablesRise s) ∧ (Writable s) ∧ (s.sys.ball = some h) ∧ (s.sys.handover = false) ∧ ((s.ctrl (otherCtrl h)).st = 3) ∧ (s.sys.snap = none) := by decide +kernel

theorem wit_ControllersShareTheBall_sysHandoverAfterStore :
  let h : Ctrl := .a
  let s : State := { up with sys := { up.sys with b := { st := 3 }, snap := some [] } }
  (Writable s) ∧ (s.sys.ball = some h) ∧ (s.sys.handover = false) ∧ ((s.ctrl (otherCtrl h)).st = 3) ∧ (s.sys.snap.isSome = true) := by decide +kernel

theorem wit_ControllersShareTheBall_sysHandoverRefused_1 :
  let h : Ctrl := .a
  let s : State := up
  (Writable s) ∧ (s.sys.ball = some h) := by decide +kernel

theorem wit_ControllersShareTheBall_sysHandoverRefused_2 :
  let h : Ctrl := .a
  let s : State := { up with sys := { up.sys with handover := true } }
  (Writable s) ∧ (s.sys.ball = some h) ∧ (s.sys.handover = true) := by decide +kernel

theorem wit_ControllersShareTheBall_sysHandoverRefused_3 :
  let h : Ctrl := .a
  let s : State := up
  (Writable s) ∧ (s.sys.ball = some h) ∧ (s.sys.handover = false) ∧ ((s.ctrl (otherCtrl h)).st ≠ 3) := by decide +kernel

theorem wit_ControllersShareTheBall_sysStore_1 :
  let s : State := up
  (Writable s) := by decide +kernel

theorem wit_ControllersShareTheBall_sysStore_2 :
  let s : State := { up with sys := { up.sys with snap := some [] } }
  (Writable s) ∧ (s.sys.snap.isSome = true) := by decide +kernel

theorem wit_ControllersShareTheBall_sysStore_3 :
  let s : State := up
  (Writable s) ∧ (s.sys.snap = none) ∧ (s.sys.handover = false) := by decide +kernel

theorem wit_ControllersShareTheBall_sysRestore_1 :
  let s : State := up
  (Writable s) := by decide +kernel

theorem wit_ControllersShareTheBall_sysRestore_2 :
  let s : State := { up with sys := { up.sys with snap := some [] } }
  (Writable s) ∧ (s.sys.snap.isSome = true) := by decide +kernel

theorem wit_ControllersShareTheBall_sysRestore_3 :
  let s : State := up
  (Writable s) ∧ (s.sys.snap = none) := by decide +kernel

theorem wit_StartUpSequence_powerApplied :
  let s : State := up
  (TablesRise s) := by decide +kernel

theorem wit_StartUpSequence_modResetAssert :
  let s : State := up
  (TablesRise s) ∧ (s.boot.off = false) ∧ (s.inStandby = false) := by decide +kernel

theorem wit_StartUpSequence_modResetRelease :
  let s : State := { up with boot := { inReset := true } }
  (TablesRise s) ∧ (s.boot.inReset = true) := by decide +kernel

theorem wit_StartUpSequence_step0 :
  let s : State := { State.reset with time := tickS }
  (TablesRise s) ∧ (s.driven = true) ∧ (s.bootStep = 0) ∧ (s.boot.stepAt + 10 * tickMs ≤ s.time) ∧ (s.pwr.low = false) := by decide +kernel

theorem wit_StartUpSequence_stepPlain :
  let r : StepResult := clean
  let s : State := withObj 0xB000 1 3
  (TablesRise s) ∧ (s.driven = true) ∧ (s.bootStep = 3 ∨ s.bootStep = 5 ∧ s.leaveFor 5 = true ∧ r.badRows = [] ∧ r.badLanes = []) := by decide +kernel

theorem wit_StartUpSequence_stepAny_1 :
  let r : StepResult := clean
  let s : State := withObj 0xB000 1 9
  (TablesRise s) ∧ (s.driven = true) ∧ (s.bootStep ≤ 11) ∧ (s.stepDone r s.bootStep = true) := by decide +kernel

theorem wit_StartUpSequence_stepAny_2 :
  let r : StepResult := clean
  let s : State := withObj 0xB000 1 2
  (TablesRise s) ∧ (s.driven = true) ∧ (s.bootStep ≤ 11) ∧ (s.stepDone r s.bootStep = true) ∧ (s.bootStep = 2) := by decide +kernel

theorem wit_StartUpSequence_stepAny_3 :
  let r : StepResult := clean
  let s : State := { withObj 0xB000 1 6 with dies := (List.range 16).map (fun d => (d, { pstate := 5 })) }
  (TablesRise s) ∧ (s.driven = true) ∧ (s.bootStep ≤ 11) ∧ (s.stepDone r s.bootStep = true) ∧ (s.bootStep = 6) := by decide +kernel

theorem wit_StartUpSequence_step2 :
  let s : State := withObj 0xB000 1 2
  (TablesRise s) ∧ (s.driven = true) ∧ (s.bootStep = 2) ∧ (s.thm.trip = none) ∧ (s.boot.refLost = false) := by decide +kernel

theorem wit_StartUpSequence_step4 :
  let s : State := { withObj 0xB000 1 4 with dies := (List.range 16).map (fun d => (d, { pstate := if d = 3 then 3 else 5 })), pwr := { held := [⟨.startTest 3, 50⟩] } }
  (TablesRise s) ∧ (s.driven = true) ∧ (s.bootStep = 4) ∧ (s.leaveFor 4 = true) := by decide +kernel

theorem wit_StartUpSequence_step6 :
  let s : State := { withObj 0xB000 1 6 with dies := (List.range 16).map (fun d => (d, { pstate := if d = 3 ∨ d = 4 then 3 else 5 })), pwr := { held := [⟨.startTest 3, 50⟩, ⟨.startTest 4, 50⟩] } }
  (TablesRise s) ∧ (s.driven = true) ∧ (s.bootStep = 6) ∧ (s.leaveFor 6 = true) := by decide +kernel

theorem wit_StartUpSequence_step7 :
  let s : State := { withObj 0xB000 1 7 with dies := (List.range 16).map (fun d => (d, { pstate := if d = 3 then 3 else 5 })), pwr := { held := (List.range 25).map (fun d => ⟨.startLanes (Fin.ofNat 25 d), 10⟩) } }
  (TablesRise s) ∧ (s.driven = true) ∧ (s.bootStep = 7) ∧ (s.leaveFor 7 = true) := by decide +kernel

theorem wit_StartUpSequence_step8 :
  let r : StepResult := { clean with failedLights := [0, 1, 2, 3, 4, 5, 6, 7] }
  let s : State := withObj 0xB000 1 8
  (TablesRise s) ∧ (s.driven = true) ∧ (s.bootStep = 8) ∧ (s.stepDone r 8 = true) := by decide +kernel

theorem wit_StartUpSequence_step1 :
  let s : State := withObj 0xB000 1 1
  (TablesRise s) ∧ (s.driven = true) ∧ (s.bootStep = 1) ∧ (s.sys.ball ≠ none) := by decide +kernel

theorem wit_StartUpSequence_step2Trip :
  let s : State := { withObj 0xB000 1 2 with thm := { trip := some ⟨7, 79, 15, 1050, 3, true⟩ } }
  (TablesRise s) ∧ (s.driven = true) ∧ (s.bootStep = 2) ∧ (s.thm.trip.isSome = true) := by decide +kernel

theorem wit_StartUpSequence_step11 :
  let s : State := { withObj 0xB000 1 11 with gt := { st := 1 } }
  (TablesRise s) ∧ (s.driven = true) ∧ (s.bootStep = 11) ∧ (s.gt.st = 1) := by decide +kernel

theorem wit_StartUpSequence_gtWaitExpire :
  let s : State := { withObj 0xB000 1 11 with time := 400 * tickS }
  (TablesRise s) ∧ (s.driven = true) ∧ (s.bootStep = 11) ∧ (s.boot.stepAt + s.obj 0xB800 1 * tickMs ≤ s.time) := by decide +kernel

theorem wit_StartUpSequence_overrunRetry :
  let s : State := { withObj 0xB000 1 0 with time := tickS }
  (TablesRise s) ∧ (s.driven = true) ∧ (s.bootStep ≤ 11) ∧ (s.boot.stepAt + 2 * s.stepMax s.bootStep < s.time) ∧ (s.boot.retried = false) := by decide +kernel

theorem wit_StartUpSequence_overrunFailed :
  let s : State := { withObj 0xB000 1 0 with time := tickS, boot := { retried := true } }
  (TablesRise s) ∧ (s.driven = true) ∧ (s.bootStep ≤ 11) ∧ (s.boot.stepAt + 2 * s.stepMax s.bootStep < s.time) ∧ (s.boot.retried = true) := by decide +kernel

theorem wit_StartUpSequence_panelReferenceLost :
  let s : State := up
  (TablesRise s) ∧ (s.driven = true) ∧ (s.boot.refLost = false) ∧ (1 < s.bootStep) := by decide +kernel

theorem wit_StartUpSequence_panelReferenceReturn_1 :
  let s : State := { withObj 0xB000 1 0x1F with boot := { refLost := true, refHold := true } }
  (TablesRise s) ∧ (s.boot.refHold = true) := by decide +kernel

theorem wit_StartUpSequence_panelReferenceReturn_2 :
  let s : State := up
  (TablesRise s) ∧ (s.boot.refHold = false) := by decide +kernel

theorem wit_StartUpSequence_upstreamPortLost :
  let p : Nat := 127
  let s : State := { up with gt := { st := 1, up := some 127 } }
  (s.gt.up = some p) ∧ (s.gt.st = 1) ∧ ((s.gtPort p).at_ + 10 * tickUs < s.time) := by decide +kernel

theorem wit_MihimelRequests_read :
  let r : MReq := req8 0xB000 1 0 false []
  let x : Session := sess7
  let s : State := withSession
  (TablesRise s) ∧ (NextRequest s r x) ∧ (r.payload = []) ∧ (readStatus x.role r.index.toNat r.sub.toNat = rpOk) ∧ ((s.objBytes r.index.toNat r.sub.toNat).length ≤ 1024) := by decide +kernel

theorem wit_MihimelRequests_writeKept :
  let r : MReq := req8 0x2000 3 0 false [0xE8, 0x03]
  let x : Session := sess7
  let o : ObjRow := ⟨0x2000, 3, 3, .u 2, .rw, .operator, 10500, .y⟩
  let s : State := withSession
  (TablesRise s) ∧ (NextRequest s r x) ∧ (2 < s.bootStep) ∧ (objAt r.index.toNat r.sub.toNat = some o) ∧ (o.acc ≠ .ro) ∧ (o.role.code ≤ x.role) ∧ (r.payload.length = objSize o.ty) ∧ (r.payload.length ≤ 1024) ∧ (valueOk o r.sub.toNat (ofBytes r.payload) = true) ∧ ((s.objOp o.idx r.sub.toNat (ofBytes r.payload)).isNone = true) ∧ (s.objBarred o.idx r.sub.toNat = false) ∧ (o.idx ≠ 0x8800 ∧ o.idx ≠ 0x7800 ∧ r.index ≠ 0xB102) := by
  repeat' apply And.intro
  all_goals first | decide +kernel

theorem wit_MihimelRequests_writeRefused :
  let r : MReq := req8 0xB000 1 0 false [12]
  let x : Session := sess7
  let s : State := withSession
  (NextRequest s r x) ∧ (r.payload.length ≤ 1024) ∧ (writeStatus x.role r.index.toNat r.sub.toNat ≠ rpOk) := by decide +kernel

theorem wit_MihimelRequests_readRefused :
  let r : MReq := req8 0x0FFF 1 0 false []
  let x : Session := sess7
  let s : State := withSession
  (NextRequest s r x) ∧ (r.payload = []) ∧ (readStatus x.role r.index.toNat r.sub.toNat ≠ rpOk) := by decide +kernel

theorem wit_MihimelRequests_readSeg :
  let r : MReq := req8 0xB000 1 1 false []
  let x : Session := sess7
  let s : State := withSession
  (TablesRise s) ∧ (NextRequest s r x) ∧ (r.payload = []) ∧ (readStatus x.role r.index.toNat r.sub.toNat = rpOk) := by decide +kernel

theorem wit_MihimelRequests_writeSeg :
  let r : MReq := req8 0xB102 0 0 true (List.replicate 1024 0)
  let x : Session := sess7
  let o : ObjRow := ⟨0xB102, 0, 0, .octets 67108864, .wo, .owner, 0, .n⟩
  let s : State := withSession
  (TablesRise s) ∧ (NextRequest s r x) ∧ (r.more = true) ∧ (r.payload.length = 1024) ∧ (objAt r.index.toNat r.sub.toNat = some o) ∧ (writeStatus x.role r.index.toNat r.sub.toNat = rpOk) ∧ (s.segBusy (r.session.toNat - 1) r.index.toNat r.sub.toNat = false) ∧ (x.seg = none) ∧ (r.offset = 0) ∧ (1024 < objSize o.ty) := by
  repeat' apply And.intro
  all_goals first | decide +kernel

theorem wit_MihimelRequests_list_1 :
  let r : MReq := req8 0xFFFF 0 0 false []
  let x : Session := sess7
  let s : State := withSession
  (NextRequest s r x) ∧ (r.payload = []) := by decide +kernel

theorem wit_MihimelRequests_list_2 :
  let r : MReq := req8 0 0 0 false []
  let x : Session := sess7
  let s : State := withSession
  (NextRequest s r x) ∧ (r.payload = []) := by decide +kernel

theorem wit_MihimelRequests_close :
  let r : MReq := req8 0 0 0 false []
  let x : Session := sess7
  let s : State := withSession
  (TablesRise s) ∧ (NextRequest s r x) ∧ (r.payload = []) := by decide +kernel

theorem wit_MihimelRequests_quote :
  let r : MReq := req8 0 0 0 false (List.replicate 32 7)
  let x : Session := sess7
  let s : State := { withSession with sec := { quoteAt := some (up.time - 10 * tickMs) } }
  (TablesRise s) ∧ (NextRequest s r x) ∧ (r.payload.length = 32) ∧ (s.sec.quoteAt.all (fun q => decide (q + 10 * tickMs ≤ s.time)) = true) := by decide +kernel

theorem wit_MihimelRequests_wrongCounter :
  let r : MReq := { req8 0xB000 1 0 false [] with counter := 9 }
  let x : Session := sess7
  let s : State := withSession
  (Serves s r.transport) ∧ (r.payload = []) ∧ (r.session ≠ 0) ∧ (s.session (r.session.toNat - 1) = some x) ∧ (x.transport = r.transport) ∧ (s.executing r.session = false) ∧ (r.counter ≠ x.counter) ∧ (r.counter ≠ x.counter + 1) := by decide +kernel

theorem wit_MihimelRequests_noSession :
  let r : MReq := { req8 0 0 0 false [] with session := 255 }
  let s : State := withSession
  (Serves s r.transport) ∧ (r.payload = []) ∧ (r.session = 0 ∨ s.session (r.session.toNat - 1) = none) := by decide +kernel

theorem wit_MihimelRequests_sessionIdleExpire :
  let k : Fin 4 := 0
  let x : Session := sess7
  let s : State := { withSession with time := 300 * tickS }
  (TablesRise s) ∧ (s.session k = some x) ∧ (x.lastAt + 300 * tickS ≤ s.time) ∧ (s.executing (BitVec.ofNat 8 (k.val + 1)) = false) := by decide +kernel

theorem wit_SessionsOpenAndCredentials_hello :
  let r : MReq := req0 [1, 0]
  let m : Nat := 1
  let s : State := up
  (Serves s r.transport) ∧ (r.session = 0) ∧ (r.payload.length = 2) ∧ (ofBytes (r.payload.take 1) = m) ∧ (m = 1 ∨ m = 2) := by decide +kernel

theorem wit_SessionsOpenAndCredentials_proveKey :
  let r : MReq := req0 (7 :: List.replicate 64 1)
  let n : Nonce := ⟨5, 1, 7, 0⟩
  let s : State := { withObj 0x9011 8 2 with sec := { nonces := [⟨5, 1, 7, 0⟩] } }
  (TablesRise s) ∧ (Serves s r.transport) ∧ (r.session = 0) ∧ (r.payload.length = 65) ∧ (ofBytes (r.payload.take 1) < 8) ∧ (mapGet 0 s.sec.locked (ofBytes (r.payload.take 1)) = 0) ∧ (s.slotRole 1 (ofBytes (r.payload.take 1)) ≠ 0xFF) ∧ (s.sec.nonces = [n]) ∧ (n.method = 1) ∧ (n.slot = ofBytes (r.payload.take 1)) ∧ (s.time ≤ n.at_ + 10 * tickS) ∧ (s.sys.sessions = []) := by
  repeat' apply And.intro
  all_goals first | decide +kernel

theorem wit_SessionsOpenAndCredentials_provePassword :
  let r : MReq := req0 [3, 65]
  let n : Nonce := ⟨5, 2, 3, 0⟩
  let s : State := { withObj 0x9021 4 1 with sec := { nonces := [⟨5, 2, 3, 0⟩] } }
  (TablesRise s) ∧ (Serves s r.transport) ∧ (r.session = 0) ∧ (2 ≤ r.payload.length) ∧ (r.payload.length ≤ 65) ∧ (ofBytes (r.payload.take 1) < 4) ∧ (mapGet 0 s.sec.locked (8 + ofBytes (r.payload.take 1)) = 0) ∧ (s.slotRole 2 (ofBytes (r.payload.take 1)) ≠ 0xFF) ∧ (s.sec.nonces = [n]) ∧ (n.method = 2) ∧ (n.slot = ofBytes (r.payload.take 1)) ∧ (s.time ≤ n.at_ + 10 * tickS) ∧ (s.sys.sessions = []) := by
  repeat' apply And.intro
  all_goals first | decide +kernel

theorem wit_SessionsOpenAndCredentials_openLocal :
  let r : MReq := req0 []
  let k : Nat := 0
  let s : State := up
  (TablesRise s) ∧ (Serves s r.transport) ∧ (r.transport = .mailbox) ∧ (r.session = 0) ∧ (r.payload = []) ∧ (s.obj 0x9000 5 ≠ 0xFF) ∧ (s.freeSession = some k) := by decide +kernel

theorem wit_SessionsOpenAndCredentials_slotLockoutEnd :
  let n : Fin 4 := 3
  let s : State := { up with sec := { locked := [(11, 1)] } }
  (TablesRise s) ∧ (mapGet 0 s.sec.locked (8 + n) ≠ 0) ∧ (mapGet 0 s.sec.locked (8 + n) ≤ s.time + 1) := by decide +kernel

theorem wit_SessionsOpenAndCredentials_secCredentialWrite :
  let bs : List Byte := List.replicate 32 9
  let s : State := { withSession with sys := { withSession.sys with sessions := [(0, some { sess7 with method := 1, slot := 7 })] } }
  (TablesRise s) ∧ (Writable s) ∧ (bs.length = 32) := by decide +kernel

theorem wit_SessionsOpenAndCredentials_secPasswordWrite :
  let bs : List Byte := List.replicate 80 9
  let s : State := { withSession with sys := { withSession.sys with sessions := [(0, some { sess7 with method := 2, slot := 3 })] } }
  (TablesRise s) ∧ (Writable s) ∧ (bs.length = 80) := by decide +kernel

theorem wit_SessionsOpenAndCredentials_secRoleWrite_1 :
  let v : Byte := 2
  let s : State := up
  (TablesRise s) ∧ (Writable s) ∧ (v.toNat ≤ 3 ∨ v.toNat = 0xFF) := by decide +kernel

theorem wit_SessionsOpenAndCredentials_secRoleWrite_2 :
  let v : Byte := 0xFF
  let s : State := up
  (TablesRise s) ∧ (Writable s) ∧ (v.toNat ≤ 3 ∨ v.toNat = 0xFF) := by decide +kernel

theorem wit_SessionsOpenAndCredentials_secCredentialLength :
  let k : CredSlot := .key 7
  let f : CredField := .secret
  let bs : List Byte := [1]
  let s : State := up
  ((objRow (credObj k f).1 (credObj k f).2).all (fun o => decide (bs.length ≠ objSize o.ty)) = true) ∧ (2 < s.bootStep) := by decide +kernel

theorem wit_SessionsOpenAndCredentials_bootImage :
  let s : State := up
  (Writable s) ∧ (s.sys.a.runs = 0) ∧ (s.sys.b.runs = 0 ∨ s.sys.b.runs = 0xF) := by decide +kernel

theorem wit_SessionsOpenAndCredentials_bootImageToA :
  let s : State := { up with sys := { up.sys with a := { st := 4, slot := 1 } } }
  (Writable s) ∧ (s.sys.a.runs = 1) ∧ (s.sys.b.runs = 1 ∨ s.sys.b.runs = 0xF) := by decide +kernel

theorem wit_SessionsOpenAndCredentials_bootImageBothRun :
  let s : State := { up with sys := { up.sys with a := { st := 4 }, b := { st := 3, slot := 1 } } }
  (Writable s) ∧ (s.sys.a.runs ≠ 0xF) ∧ (s.sys.b.runs ≠ 0xF) ∧ (s.sys.a.runs ≠ s.sys.b.runs) := by decide +kernel

theorem wit_SessionsOpenAndCredentials_bootCtrlRestart :
  let h : Ctrl := .a
  let s : State := { up with sys := { up.sys with b := { st := 3 } } }
  (TablesRise s) ∧ (Writable s) ∧ (s.sys.ball = some h) ∧ ((s.ctrl (otherCtrl h)).st = 3) := by decide +kernel

theorem wit_SessionsOpenAndCredentials_bootCtrlRestartRefused_1 :
  let h : Ctrl := .a
  let v : BitVec 8 := 1
  let s : State := { up with sys := { up.sys with b := { st := 5 } } }
  (Writable s) ∧ (s.sys.ball = some h) ∧ (v = 1 → (s.ctrl (otherCtrl h)).st = 0 ∨ (s.ctrl (otherCtrl h)).st = 5) := by decide +kernel

theorem wit_SessionsOpenAndCredentials_bootCtrlRestartRefused_2 :
  let h : Ctrl := .a
  let v : BitVec 8 := 2
  let s : State := up
  (Writable s) ∧ (s.sys.ball = some h) ∧ (v = 1 → (s.ctrl (otherCtrl h)).st = 0 ∨ (s.ctrl (otherCtrl h)).st = 5) := by decide +kernel

theorem wit_SessionsOpenAndCredentials_bootCommitSvn :
  let h : Ctrl := .a
  let k : Nat := 0
  let s : State := { up with sys := { up.sys with b := { st := 3 } } }
  (Writable s) ∧ (s.sys.ball = some h) ∧ ((s.ctrl h).runs = k) ∧ ((s.ctrl (otherCtrl h)).runs = k) ∧ (k ≠ 0xF) := by decide +kernel

theorem wit_SessionsOpenAndCredentials_bootCommitSvnRefused_1 :
  let h : Ctrl := .a
  let v : BitVec 8 := 1
  let s : State := { up with sys := { up.sys with b := { st := 3, slot := 1 } } }
  (Writable s) ∧ (s.sys.ball = some h) ∧ (v = 1 → (s.ctrl h).runs ≠ (s.ctrl (otherCtrl h)).runs ∨ (s.ctrl h).runs = 0xF) := by decide +kernel

theorem wit_SessionsOpenAndCredentials_bootCommitSvnRefused_2 :
  let h : Ctrl := .a
  let v : BitVec 8 := 0
  let s : State := up
  (Writable s) ∧ (s.sys.ball = some h) ∧ (v = 1 → (s.ctrl h).runs ≠ (s.ctrl (otherCtrl h)).runs ∨ (s.ctrl h).runs = 0xF) := by decide +kernel

theorem wit_SessionsOpenAndCredentials_bootRecovery :
  let s : State := { withObj 0xB000 1 1 with sys := { a := { st := 1 }, b := { st := 5 } }, flash := { fwA := { }, fwB := { st := 2 } } }
  (TablesRise s) ∧ (s.driven = true) ∧ (s.boot.recovery = false) ∧ (s.sys.ball = none) ∧ (s.bootSlot = none) ∧ (s.sys.a.st = 5 ∨ s.sys.a.st = 1) ∧ (s.sys.b.st = 5 ∨ s.sys.b.st = 1) := by decide +kernel

theorem wit_TransportsAndStore_echo :
  let s : State := up
  (Serves s .service) ∧ (s.obj 0x1030 1 = 1) := by decide +kernel

theorem wit_TransportsAndStore_udpRead :
  let bs : List Byte := frameBytes 0x10 { req8 0x2000 3 0 false [] with transport := .service } false false 0 []
  let r : MReq := { req8 0x2000 3 0 false [] with transport := .service }
  let s : State := up
  (Serves s .service) ∧ (s.obj 0x1030 1 = 1) ∧ (parseFrame .service bs = some (0x10, false, r)) ∧ (s.boot.svcPort < 65536) := by decide +kernel

theorem wit_TransportsAndStore_neighbourDiscovery :
  let s : State := up
  (Serves s .service) ∧ (s.obj 0x1030 1 = 1) := by decide +kernel

theorem wit_TransportsAndStore_otherAddress :
  let adr : BitVec 128 := BitVec.ofNat 128 (linkLocal + 1)
  (adr.toNat ≠ linkLocal) := by exact next_address linkLocal

theorem wit_TransportsAndStore_otherFrame :
  let s : State := up
  (Serves s .service) := by decide +kernel

theorem wit_TransportsAndStore_udpBad :
  let bs : List Byte := [1, 2, 3]
  let s : State := up
  (TablesRise s) ∧ (Serves s .service) ∧ (s.boot.svcPort < 65536) ∧ ((parseFrame .service bs).isNone = true) ∧ (s.obj 0x1030 5 < 1000) := by decide +kernel

theorem wit_TransportsAndStore_portOff :
  let s : State := { withObj 0x1030 1 0 with dict := [(objKey 0x1030 1, 0), (objKey 0xB000 1, 12)] }
  (s.obj 0x1030 1 = 0) := by decide +kernel

theorem wit_TransportsAndStore_doorbellRead :
  let r : MReq := req8 0x2000 3 0 false []
  let s : State := { up with host := { req := memPut [] 0 (frameBytes 0x10 (req8 0x2000 3 0 false []) false false 0 []) } }
  (s.driven = true) ∧ (s.host.mbBusy = false) ∧ (parseFrame .mailbox ((List.range 1048).map (fun i => mapGet 0 s.host.req i)) = some (0x10, false, r)) := by decide +kernel

theorem wit_TransportsAndStore_doorbellBad :
  let s : State := up
  (TablesRise s) ∧ (s.driven = true) ∧ (s.host.mbBusy = false) ∧ ((parseFrame .mailbox ((List.range 1048).map (fun i => mapGet 0 s.host.req i))).isNone = true) ∧ (s.obj 0x1030 5 < 1000) := by decide +kernel

theorem wit_TransportsAndStore_storeCommitDone_1 :
  let m : SMap Nat := [(5, 6)]
  let s : State := { up with sys := { up.sys with snap := some [(5, 6)] } }
  (s.sys.snap = some m) ∧ (s.sys.ball ≠ none) ∧ (s.sys.waitStore = none) ∧ (s.sys.handover = false) := by decide +kernel

theorem wit_TransportsAndStore_storeCommitDone_2 :
  let m : SMap Nat := []
  let s : State := { up with sys := { up.sys with snap := some [] } }
  (s.sys.snap = some m) ∧ (s.sys.ball ≠ none) ∧ (s.sys.waitStore = none) ∧ (s.sys.handover = false) := by decide +kernel

theorem wit_TransportsAndStore_storeCommitReply :
  let m : SMap Nat := [(5, 6)]
  let ty : Nat := 0x11
  let r : MReq := req8 0x1010 0 0 false [1]
  let s : State := { withSession with host := { mbBusy := true }, sys := { withSession.sys with snap := some [(5, 6)], waitStore := some (0x11, req8 0x1010 0 0 false [1]) } }
  (s.sys.snap = some m) ∧ (s.sys.ball ≠ none) ∧ (s.sys.waitStore = some (ty, r)) ∧ (s.sys.handover = false) := by decide +kernel

theorem wit_HostLinkAndRegisters_hostLinkTrain_1 :
  let v : Fin 7 := 6
  let w : Fin 17 := 16
  let s : State := up
  (s.endpoint = true) ∧ (s.host.perst = false) ∧ (4 ≤ min v.val (s.obj 0xA000 2)) ∧ (w.val ∈ [1, 2, 4, 8, 16]) ∧ (s.host.up = false) := by decide +kernel

theorem wit_HostLinkAndRegisters_hostLinkTrain_2 :
  let v : Fin 7 := 4
  let w : Fin 17 := 8
  let s : State := { up with host := { up := true, speed := 6, width := 16 } }
  (s.endpoint = true) ∧ (s.host.perst = false) ∧ (4 ≤ min v.val (s.obj 0xA000 2)) ∧ (w.val ∈ [1, 2, 4, 8, 16]) ∧ (s.host.up = true) ∧ (w.val < s.host.width) := by decide +kernel

theorem wit_HostLinkAndRegisters_hostLinkDown :
  let s : State := { withSession with host := { up := true, eventEn := 31, win := [(0, some 0)] } }
  (TablesRise s) ∧ (s.host.up = true) ∧ (s.host.reads = []) ∧ (s.obj 0xA000 5 < 1000) := by decide +kernel

theorem wit_HostLinkAndRegisters_functionLevelReset :
  let s : State := { withSession with host := { up := true, eventEn := 31, win := [(3, some 0)] } }
  (TablesRise s) ∧ (s.endpoint = true) ∧ (s.host.reads = []) := by decide +kernel

theorem wit_HostLinkAndRegisters_perst_1 :
  let s : State := { up with host := { perst := true } }
  (TablesRise s) ∧ (s.host.reads = []) := by decide +kernel

theorem wit_HostLinkAndRegisters_perst_2 :
  let s : State := { withSession with host := { up := true, eventEn := 31 } }
  (TablesRise s) ∧ (s.host.reads = []) := by decide +kernel

theorem wit_HostLinkAndRegisters_corePageRead :
  let d : Fin 16 := 3
  let c : Fin 32 := 31
  let off : Fin 0x1000 := 0x3FC
  let n : Nat := 4
  let s : State := up
  (Reachable s d c) ∧ (s.endpoint = true) ∧ (off.val < 0x400) ∧ (1 ≤ n) ∧ (off.val + n ≤ 0x1000) := by decide +kernel

theorem wit_HostLinkAndRegisters_bar2Disabled :
  let off : Fin 0x1000000000 := 0xFFFFFFFFF
  let s : State := { up with host := { win := [(3, some 0)] } }
  (s.endpoint = true) ∧ (bit (s.window (off.val / 2 ^ 34)) 0 = false) := by decide +kernel

theorem wit_HostLinkAndRegisters_bar2Write :
  let off : Fin 0x1000000000 := 0x400000010
  let d : Nat := 3
  let a : Nat := 0x5C00000010
  let bs : List Byte := [1, 0, 3]
  let s : State := { up with host := { win := [(1, some 0x305C00000001)] } }
  (TablesRise s) ∧ (Memory.wf s.mem = true) ∧ (s.endpoint = true) ∧ (bit (s.window (off.val / 2 ^ 34)) 0 = true) ∧ (bits (s.window (off.val / 2 ^ 34)) 47 44 = d) ∧ (bits (s.window (off.val / 2 ^ 34)) 43 34 * 2 ^ 34 + off.val % 2 ^ 34 = a) ∧ (s.dieRuns d = true) ∧ (regionSpan a bs.length = .hbm) ∧ (s.badWords.any (fun w => decide (16 * w < memKey d a + bs.length) && decide (memKey d a < 16 * w + 16)) = false) ∧ (bs ≠ []) := by
  repeat' apply And.intro
  all_goals first | decide +kernel

theorem wit_HostLinkAndRegisters_hostWindowWrite :
  let s : State := up
  (TablesRise s) ∧ (s.endpoint = true) := by decide +kernel

theorem wit_HostLinkAndRegisters_hostEventW1c :
  let s : State := { up with host := { event := 31 } }
  (s.endpoint = true) := by decide +kernel

theorem wit_HostLinkAndRegisters_msixUnmask_1 :
  let v : Fin 256 := 255
  let s : State := { up with host := { pend := [255] } }
  (s.endpoint = true) ∧ (v.val ∈ s.host.pend) := by decide +kernel

theorem wit_HostLinkAndRegisters_msixUnmask_2 :
  let v : Fin 256 := 0
  let s : State := up
  (s.endpoint = true) ∧ (v.val ∉ s.host.pend) := by decide +kernel

theorem wit_HostLinkAndRegisters_eventEnable :
  let bs : List Byte := [0xFF, 0xFF, 0xFF, 0xFF]
  let s : State := up
  (s.endpoint = true) ∧ (bs.length = 4) := by decide +kernel

theorem wit_HostLinkAndRegisters_commandRegister :
  let bs : List Byte := [4, 0, 0, 0]
  let s : State := up
  (s.configServes = true) ∧ (bs ≠ []) := by decide +kernel

theorem wit_HostLinkAndRegisters_arrivalWrite :
  let d : Fin 16 := 3
  let i : Fin 4096 := 4095
  let o : Fin 0x8000 := 0x7FF8
  let bs : List Byte := [1, 0, 0, 0, 0, 0, 0, 0x80]
  let s : State := up
  (TablesRise s) ∧ (s.dieRuns d = true) ∧ (o.val = 8 * i.val) ∧ (bs.length = 8) ∧ (ofBytes bs ≠ 0) := by decide +kernel

theorem wit_MatrixCommandsRun_mxGemm_1 :
  let d : Fin 16 := 3
  let c : Fin 32 := 5
  let k : Cmd := cmd5 0x10 (1*2^88 + 7*2^72 + 2*2^40 + 2^39)
  let s : State := store5 (store5 (ready 0 (cmd5 0x10 (1*2^88 + 7*2^72 + 2*2^40 + 2^39)) (fun x => { x with ob := [(0, opBlock 6 0 0 3 0 16 0), (1, opBlock 6 1 0 3 2 16 4096)], acc := [(700, { mant := 9, res := 9 })] })) 0 [1, 2, 255, 7]) 4096 [5, 6, 7]
  let r : Run := issuedRun s 3 5 0 k
  let g : Gemm := gemmOf k.word
  let a : Block := ((((s.core 3 5).block 0).map (fun x => useBase x r)).getD (blk 0))
  let b : Block := blk (mapGet 0 (s.core 3 5).ob 1)
  let o : Block := (((s.core 3 5).block g.obc).getD { b with elem := .w96 })
  (Issues s d c 0 0x10 k) ∧ (issuedRun s d c 0 k = r) ∧ (gemmOf k.word = g) ∧ (((s.core d c).block g.oba).map (fun x => useBase x r) = some a) ∧ ((s.core d c).block g.obb = some b) ∧ (((s.core d c).block g.obc).getD { b with elem := .w96 } = o) ∧ (g.fin = true → ((s.core d c).block g.obc).isSome = true) ∧ (gemmOk g a b o = true) ∧ (useFits r (gemmSpan g a) = true) ∧ (∀ j, j < g.members → rowsVerify s d c (member a j) g.m a.e0 = true ∧ stationaryVerifies s d c (member b j) = true) ∧ (g.fin = true → ∀ j, j < g.members → rowsMerge s d c (member o j) g.m (statN b) = true) ∧ (tokensMatch (mkWork s d c r) = true) ∧ (EntriesOk (s.core d c)) := by
  repeat' apply And.intro
  all_goals first | decide +kernel

theorem wit_MatrixCommandsRun_mxGemm_2 :
  let d : Fin 16 := 3
  let c : Fin 32 := 5
  let k : Cmd := cmd5 0x10 (1*2^88 + 2*2^84 + 7*2^72 + 2*2^40 + 2^39 + 2^38 + 2^116 + 3*2^112 + 2^111)
  let s : State := store5 (store5 (ready 0 (cmd5 0x10 (1*2^88 + 2*2^84 + 7*2^72 + 2*2^40 + 2^39 + 2^38 + 2^116 + 3*2^112 + 2^111)) (fun x => { x with ob := [(0, opBlock 6 0 0 3 0 16 0), (1, opBlock 6 1 0 3 2 16 4096), (2, opBlock 1 0 0 2 0 16 8192)], acc := [(896, { mant := 9, res := 9 })], tq := [(3, { slots := [⟨4, 0, some (mkHandle 0 0 2 9 false), false⟩] })] })) 36864 [1, 2, 255, 7]) 4096 [5, 6, 7]
  let r : Run := issuedRun s 3 5 0 k
  let g : Gemm := gemmOf k.word
  let a : Block := ((((s.core 3 5).block 0).map (fun x => useBase x r)).getD (blk 0))
  let b : Block := blk (mapGet 0 (s.core 3 5).ob 1)
  let o : Block := (((s.core 3 5).block g.obc).getD { b with elem := .w96 })
  (Issues s d c 0 0x10 k) ∧ (issuedRun s d c 0 k = r) ∧ (gemmOf k.word = g) ∧ (((s.core d c).block g.oba).map (fun x => useBase x r) = some a) ∧ ((s.core d c).block g.obb = some b) ∧ (((s.core d c).block g.obc).getD { b with elem := .w96 } = o) ∧ (g.fin = true → ((s.core d c).block g.obc).isSome = true) ∧ (gemmOk g a b o = true) ∧ (useFits r (gemmSpan g a) = true) ∧ (∀ j, j < g.members → rowsVerify s d c (member a j) g.m a.e0 = true ∧ stationaryVerifies s d c (member b j) = true) ∧ (g.fin = true → ∀ j, j < g.members → rowsMerge s d c (member o j) g.m (statN b) = true) ∧ (tokensMatch (mkWork s d c r) = true) ∧ (EntriesOk (s.core d c)) := by
  repeat' apply And.intro
  all_goals first | decide +kernel

theorem wit_MatrixCommandsRun_mxGemm_3 :
  let d : Fin 16 := 3
  let c : Fin 32 := 5
  let k : Cmd := cmd5 0x10 (1*2^88 + 2*2^84 + 2^82 + 7*2^72 + 2*2^40 + 2^39 + 2^38 + 2^25)
  let s : State := store5 (store5 (ready 0 (cmd5 0x10 (1*2^88 + 2*2^84 + 2^82 + 7*2^72 + 2*2^40 + 2^39 + 2^38 + 2^25)) (fun x => { x with ob := [(0, opBlock 0x14 0 0x1000 32 0 16 0), (1, opBlock 0x14 1 0x1100 32 2 16 4096), (2, opBlock 2 0 0 2 0 4 8192 + (1#512) <<< 233)] })) 0 [1, 2, 255, 7]) 4096 [5, 6, 7]
  let r : Run := issuedRun s 3 5 0 k
  let g : Gemm := gemmOf k.word
  let a : Block := ((((s.core 3 5).block 0).map (fun x => useBase x r)).getD (blk 0))
  let b : Block := blk (mapGet 0 (s.core 3 5).ob 1)
  let o : Block := (((s.core 3 5).block g.obc).getD { b with elem := .w96 })
  (Issues s d c 0 0x10 k) ∧ (issuedRun s d c 0 k = r) ∧ (gemmOf k.word = g) ∧ (((s.core d c).block g.oba).map (fun x => useBase x r) = some a) ∧ ((s.core d c).block g.obb = some b) ∧ (((s.core d c).block g.obc).getD { b with elem := .w96 } = o) ∧ (g.fin = true → ((s.core d c).block g.obc).isSome = true) ∧ (gemmOk g a b o = true) ∧ (useFits r (gemmSpan g a) = true) ∧ (∀ j, j < g.members → rowsVerify s d c (member a j) g.m a.e0 = true ∧ stationaryVerifies s d c (member b j) = true) ∧ (g.fin = true → ∀ j, j < g.members → rowsMerge s d c (member o j) g.m (statN b) = true) ∧ (tokensMatch (mkWork s d c r) = true) ∧ (EntriesOk (s.core d c)) := by
  repeat' apply And.intro
  all_goals first | decide +kernel

theorem wit_MatrixCommandsRun_mxConv_1 :
  let d : Fin 16 := 3
  let c : Fin 32 := 5
  let k : Cmd := cmd5 0x11 (2^88 + 2*2^84 + 3*2^80 + 2^4)
  let s : State := store5 (store5 (ready 0 (cmd5 0x11 (2^88 + 2*2^84 + 3*2^80 + 2^4)) (fun x => { x with ob := [(0, opBlock 6 0 0 3 1 16 0 + (1#512) <<< 368 + (1#512) <<< 352), (1, opBlock 6 0 0 2 3 16 4096 + (1#512) <<< 368 + (1#512) <<< 352), (2, opBlock 9 0 0 2 1 64 8192 + (1#512) <<< 368 + (1#512) <<< 352), (3, BitVec.ofNat 512 (2^500 + 2^496 + 2^492 + 2^488 + 2^484 + 2^480 + 2^476 + 2^428 + 2*2^412))] })) 0 [1, 2, 255]) 4096 [5, 6, 7]
  let r : Run := issuedRun s 3 5 0 k
  let i : Block := blk (mapGet 0 (s.core 3 5).ob 0)
  let f : Block := blk (mapGet 0 (s.core 3 5).ob 1)
  let o : Block := blk (mapGet 0 (s.core 3 5).ob 2)
  let q : Geom := ((geomOf (mapGet 0 (s.core 3 5).ob 3)).getD ⟨1, 1, 1, 1, 1, 1, 0, 0, 0, 0, 1, 1⟩)
  let j : ConvJob := { k := convOf k.word, q := q, inp := i, fil := f, out := o }
  (Issues s d c 0 0x11 k) ∧ (issuedRun s d c 0 k = r) ∧ (((s.core d c).block (convOf k.word).obi).map (fun x => useBase x r) = some i) ∧ ((s.core d c).block (convOf k.word).obf = some f) ∧ ((s.core d c).block (convOf k.word).obo = some o) ∧ (geomOf (mapGet 0 (s.core d c).ob (convOf k.word).obg) = some q) ∧ ({ k := convOf k.word, q := q, inp := i, fil := f, out := o } = j) ∧ (convOk j = true) ∧ (useFits r (convSpan j) = true) ∧ (convReads s d c j = true) ∧ (convMerges s d c j = true) ∧ (tokensMatch (mkWork s d c r) = true) ∧ (EntriesOk (s.core d c)) := by
  repeat' apply And.intro
  all_goals first | decide +kernel

theorem wit_MatrixCommandsRun_mxConv_2 :
  let d : Fin 16 := 3
  let c : Fin 32 := 5
  let k : Cmd := cmd5 0x11 (2^88 + 2*2^84 + 3*2^80 + 2*2^4)
  let s : State := store5 (store5 (ready 0 (cmd5 0x11 (2^88 + 2*2^84 + 3*2^80 + 2*2^4)) (fun x => { x with ob := [(0, opBlock 3 0 0 4 1 16 0 + (2#512) <<< 368 + (1#512) <<< 352 + (16#512) <<< 288), (1, opBlock 3 0 0 1 2 16 4096 + (1#512) <<< 368 + (2#512) <<< 352 + (32#512) <<< 256 + (64#512) <<< 224), (2, opBlock 1 0 0 2 1 64 8192 + (2#512) <<< 368 + (1#512) <<< 352 + (64#512) <<< 288), (3, BitVec.ofNat 512 (2^500 + 2*2^496 + 2^492 + 2^488 + 2^484 + 2^480 + 2^476 + 2^468 + 2*2^428 + 2*2^412))] })) 0 [0x80, 0x3F, 0, 0x40, 0, 0, 0x80, 0x3F, 1, 1, 1, 1, 1, 1, 1, 1, 0x80, 0x3F]) 4096 [0x80, 0x3F]
  let r : Run := issuedRun s 3 5 0 k
  let i : Block := blk (mapGet 0 (s.core 3 5).ob 0)
  let f : Block := blk (mapGet 0 (s.core 3 5).ob 1)
  let o : Block := blk (mapGet 0 (s.core 3 5).ob 2)
  let q : Geom := ((geomOf (mapGet 0 (s.core 3 5).ob 3)).getD ⟨1, 1, 1, 1, 1, 1, 0, 0, 0, 0, 1, 1⟩)
  let j : ConvJob := { k := convOf k.word, q := q, inp := i, fil := f, out := o }
  (Issues s d c 0 0x11 k) ∧ (issuedRun s d c 0 k = r) ∧ (((s.core d c).block (convOf k.word).obi).map (fun x => useBase x r) = some i) ∧ ((s.core d c).block (convOf k.word).obf = some f) ∧ ((s.core d c).block (convOf k.word).obo = some o) ∧ (geomOf (mapGet 0 (s.core d c).ob (convOf k.word).obg) = some q) ∧ ({ k := convOf k.word, q := q, inp := i, fil := f, out := o } = j) ∧ (convOk j = true) ∧ (useFits r (convSpan j) = true) ∧ (convReads s d c j = true) ∧ (convMerges s d c j = true) ∧ (tokensMatch (mkWork s d c r) = true) ∧ (EntriesOk (s.core d c)) := by
  repeat' apply And.intro
  all_goals first | decide +kernel

theorem wit_MatrixCommandsRun_mxMerge_1 :
  let d : Fin 16 := 3
  let c : Fin 32 := 5
  let k : Cmd := cmd5 0x12 (7*2^82)
  let s : State := store5 (ready 0 (cmd5 0x12 (7*2^82)) (fun x => { x with ob := [(0, opBlock 9 0 0 0 0 2048 0)], acc := [(900, { mant := 9, res := 9 })] })) 64 [5]
  let r : Run := issuedRun s 3 5 0 k
  let b : Block := blk (opBlock 9 0 0 0 0 2048 0)
  (Issues s d c 0 0x12 k) ∧ (issuedRun s d c 0 k = r) ∧ (((s.core d c).block (bits k.word 95 92)).map (fun x => useBase x r) = some b) ∧ (mergeOk b (bits k.word 81 71 + 1) = true) ∧ (useFits r (mergeSpan b (bits k.word 81 71 + 1)) = true) ∧ (rowsVerify s d c (mergeBlock b) (bits k.word 81 71 + 1) 128 = true) ∧ (tokensMatch (mkWork s d c r) = true) ∧ (EntriesOk (s.core d c)) := by decide +kernel

theorem wit_MatrixCommandsRun_mxMerge_2 :
  let d : Fin 16 := 3
  let c : Fin 32 := 5
  let k : Cmd := cmd5 0x12 (1023*2^82 + 2^71 + 2^116 + 3*2^112 + 2^111)
  let s : State := store5 (ready 0 (cmd5 0x12 (1023*2^82 + 2^71 + 2^116 + 3*2^112 + 2^111)) (fun x => { x with ob := [(0, opBlock 9 0 0 0 0 0 0)], tq := [(3, { slots := [⟨4, 0, some (mkHandle 0 0 1 10 false), false⟩] })] })) 43008 [5]
  let r : Run := issuedRun s 3 5 0 k
  let b : Block := blockRebase (blk (opBlock 9 0 0 0 0 0 0)) 40960
  (Issues s d c 0 0x12 k) ∧ (issuedRun s d c 0 k = r) ∧ (((s.core d c).block (bits k.word 95 92)).map (fun x => useBase x r) = some b) ∧ (mergeOk b (bits k.word 81 71 + 1) = true) ∧ (useFits r (mergeSpan b (bits k.word 81 71 + 1)) = true) ∧ (rowsVerify s d c (mergeBlock b) (bits k.word 81 71 + 1) 128 = true) ∧ (tokensMatch (mkWork s d c r) = true) ∧ (EntriesOk (s.core d c)) := by decide +kernel

theorem wit_MatrixCommandsRun_mxDrain_1 :
  let d : Fin 16 := 3
  let c : Fin 32 := 5
  let k : Cmd := cmd5 0x13 (7*2^22 + 2^6)
  let s : State := ready 0 (cmd5 0x13 (7*2^22 + 2^6)) (fun x => { x with ob := [(0, opBlock 1 0 0 5 1 64 0)], acc := [(900, { mant := 9, res := 9 })] })
  let r : Run := issuedRun s 3 5 0 k
  let o : Block := blk (opBlock 1 0 0 5 1 64 0)
  (Issues s d c 0 0x13 k) ∧ (issuedRun s d c 0 k = r) ∧ (((s.core d c).block (bits k.word 10 7)).map (fun x => useBase x r) = some o) ∧ (drainOk (s.core d c) o k.word = true) ∧ (useFits r (rowsSpan o (drainRows k.word) o.e0) = true) ∧ (rowsMerge s d c o (drainRows k.word) o.e0 = true) ∧ (tokensMatch (mkWork s d c r) = true) ∧ (EntriesOk (s.core d c)) := by decide +kernel

theorem wit_MatrixCommandsRun_mxDrain_2 :
  let d : Fin 16 := 3
  let c : Fin 32 := 5
  let k : Cmd := cmd5 0x13 (7*2^22 + 2^5 + 2^11)
  let s : State := ready 0 (cmd5 0x13 (7*2^22 + 2^5 + 2^11)) (fun x => { x with ob := [(0, opBlock 0x14 0 4096 6 1 64 0)], acc := [(900, { mant := 9, res := 9 })] })
  let r : Run := issuedRun s 3 5 0 k
  let o : Block := blk (opBlock 0x14 0 4096 6 1 64 0)
  (Issues s d c 0 0x13 k) ∧ (issuedRun s d c 0 k = r) ∧ (((s.core d c).block (bits k.word 10 7)).map (fun x => useBase x r) = some o) ∧ (drainOk (s.core d c) o k.word = true) ∧ (useFits r (rowsSpan o (drainRows k.word) o.e0) = true) ∧ (rowsMerge s d c o (drainRows k.word) o.e0 = true) ∧ (tokensMatch (mkWork s d c r) = true) ∧ (EntriesOk (s.core d c)) := by decide +kernel

theorem wit_MatrixCommandsRun_mxDrain_3 :
  let d : Fin 16 := 3
  let c : Fin 32 := 5
  let k : Cmd := cmd5 0x13 (7*2^22 + 2^11)
  let s : State := ready 0 (cmd5 0x13 (7*2^22 + 2^11)) (fun x => { x with ob := [(0, opBlock 9 0 0 6 1 128 0)], acc := [(900, { mant := 9, res := 9 })] })
  let r : Run := issuedRun s 3 5 0 k
  let o : Block := blk (opBlock 9 0 0 6 1 128 0)
  (Issues s d c 0 0x13 k) ∧ (issuedRun s d c 0 k = r) ∧ (((s.core d c).block (bits k.word 10 7)).map (fun x => useBase x r) = some o) ∧ (drainOk (s.core d c) o k.word = true) ∧ (useFits r (rowsSpan o (drainRows k.word) o.e0) = true) ∧ (rowsMerge s d c o (drainRows k.word) o.e0 = true) ∧ (tokensMatch (mkWork s d c r) = true) ∧ (EntriesOk (s.core d c)) := by decide +kernel

theorem wit_MatrixCommandsRun_mxZero :
  let d : Fin 16 := 3
  let c : Fin 32 := 5
  let k : Cmd := cmd5 0x14 (7*2^82)
  let s : State := ready 0 (cmd5 0x14 (7*2^82)) (fun x => { x with acc := [(895, { mant := 1, res := 1 }), (900, { mant := 9, res := 9 }), (1024, { mant := 4, res := 4 })] })
  (Issues s d c 0 0x14 k) := by decide +kernel

theorem wit_MatrixCommandsRun_mxElem_1 :
  let d : Fin 16 := 3
  let c : Fin 32 := 5
  let k : Cmd := cmd5 0x15 (1*2^88 + 2*2^80 + 2*2^32)
  let s : State := store5 (store5 (ready 0 (cmd5 0x15 (1*2^88 + 2*2^80 + 2*2^32)) (fun x => { x with ob := [(0, opBlock 1 0 0 4 1 64 0), (1, opBlock 2 0 0 4 1 64 4096), (2, opBlock 3 0 0 4 1 64 8192)] })) 0 [0, 0, 0x80, 0x3F]) 4096 [0x80, 0x3F]
  let r : Run := issuedRun s 3 5 0 k
  let a : Block := blk (mapGet 0 (s.core 3 5).ob 0)
  let b : Block := (((s.core 3 5).block (bits k.word 91 88)).getD noBlock)
  let e : Block := (((s.core 3 5).block (bits k.word 87 84)).getD noBlock)
  let o : Block := blk (mapGet 0 (s.core 3 5).ob 2)
  (Issues s d c 0 0x15 k) ∧ (issuedRun s d c 0 k = r) ∧ (((s.core d c).block (bits k.word 95 92)).map (fun x => useBase x r) = some a) ∧ (((s.core d c).block (bits k.word 91 88)).getD noBlock = b) ∧ (((s.core d c).block (bits k.word 87 84)).getD noBlock = e) ∧ ((s.core d c).block (bits k.word 83 80) = some o) ∧ (elemOk k.word a ((s.core d c).block (bits k.word 91 88)) ((s.core d c).block (bits k.word 87 84)) o = true) ∧ (useFits r (rowsSpan a (ceilDiv (bits k.word 63 32) a.e0) a.e0) = true) ∧ (rowsVerify s d c a (ceilDiv (bits k.word 63 32) a.e0) a.e0 = true) ∧ (elemNeedsB (bits k.word 79 76) = true → if bits k.word 79 76 = 3 then verifies s d c b.base 512 = true else rowsVerify s d c b (ceilDiv (bits k.word 63 32) b.e0) b.e0 = true) ∧ (elemNeedsC (bits k.word 79 76) = true → if bits k.word 79 76 = 3 then verifies s d c e.base 512 = true else rowsVerify s d c e (ceilDiv (bits k.word 63 32) e.e0) e.e0 = true) ∧ (rowsMerge s d c o (ceilDiv (bits k.word 63 32) o.e0) o.e0 = true) ∧ (tokensMatch (mkWork s d c r) = true) := by
  repeat' apply And.intro
  all_goals first | decide +kernel

theorem wit_MatrixCommandsRun_mxElem_2 :
  let d : Fin 16 := 3
  let c : Fin 32 := 5
  let k : Cmd := cmd5 0x15 (1*2^88 + 3*2^84 + 2*2^80 + 3*2^76 + 2*2^32)
  let s : State := store5 (store5 (ready 0 (cmd5 0x15 (1*2^88 + 3*2^84 + 2*2^80 + 3*2^76 + 2*2^32)) (fun x => { x with ob := [(0, opBlock 1 0 0 4 1 64 0), (1, opBlock 1 0 0 4 1 64 4096), (2, opBlock 3 0 0 4 1 64 8192), (3, opBlock 1 0 0 4 1 64 12288)] })) 0 [0, 0, 0x80, 0x3F]) 4096 [0, 0, 0x80, 0x3F]
  let r : Run := issuedRun s 3 5 0 k
  let a : Block := blk (mapGet 0 (s.core 3 5).ob 0)
  let b : Block := (((s.core 3 5).block (bits k.word 91 88)).getD noBlock)
  let e : Block := (((s.core 3 5).block (bits k.word 87 84)).getD noBlock)
  let o : Block := blk (mapGet 0 (s.core 3 5).ob 2)
  (Issues s d c 0 0x15 k) ∧ (issuedRun s d c 0 k = r) ∧ (((s.core d c).block (bits k.word 95 92)).map (fun x => useBase x r) = some a) ∧ (((s.core d c).block (bits k.word 91 88)).getD noBlock = b) ∧ (((s.core d c).block (bits k.word 87 84)).getD noBlock = e) ∧ ((s.core d c).block (bits k.word 83 80) = some o) ∧ (elemOk k.word a ((s.core d c).block (bits k.word 91 88)) ((s.core d c).block (bits k.word 87 84)) o = true) ∧ (useFits r (rowsSpan a (ceilDiv (bits k.word 63 32) a.e0) a.e0) = true) ∧ (rowsVerify s d c a (ceilDiv (bits k.word 63 32) a.e0) a.e0 = true) ∧ (elemNeedsB (bits k.word 79 76) = true → if bits k.word 79 76 = 3 then verifies s d c b.base 512 = true else rowsVerify s d c b (ceilDiv (bits k.word 63 32) b.e0) b.e0 = true) ∧ (elemNeedsC (bits k.word 79 76) = true → if bits k.word 79 76 = 3 then verifies s d c e.base 512 = true else rowsVerify s d c e (ceilDiv (bits k.word 63 32) e.e0) e.e0 = true) ∧ (rowsMerge s d c o (ceilDiv (bits k.word 63 32) o.e0) o.e0 = true) ∧ (tokensMatch (mkWork s d c r) = true) := by
  repeat' apply And.intro
  all_goals first | decide +kernel

theorem wit_MatrixCommandsRun_mxElem_3 :
  let d : Fin 16 := 3
  let c : Fin 32 := 5
  let k : Cmd := cmd5 0x15 (2*2^80 + 6*2^76 + 10*2^32)
  let s : State := store5 (ready 0 (cmd5 0x15 (2*2^80 + 6*2^76 + 10*2^32)) (fun x => { x with ob := [(0, opBlock 1 0 0 4 1 64 0), (2, opBlock 0x10 0 12288 8 1 64 8192)] })) 0 [0, 0, 0x80, 0x3F]
  let r : Run := issuedRun s 3 5 0 k
  let a : Block := blk (mapGet 0 (s.core 3 5).ob 0)
  let b : Block := (((s.core 3 5).block (bits k.word 91 88)).getD noBlock)
  let e : Block := (((s.core 3 5).block (bits k.word 87 84)).getD noBlock)
  let o : Block := blk (mapGet 0 (s.core 3 5).ob 2)
  (Issues s d c 0 0x15 k) ∧ (issuedRun s d c 0 k = r) ∧ (((s.core d c).block (bits k.word 95 92)).map (fun x => useBase x r) = some a) ∧ (((s.core d c).block (bits k.word 91 88)).getD noBlock = b) ∧ (((s.core d c).block (bits k.word 87 84)).getD noBlock = e) ∧ ((s.core d c).block (bits k.word 83 80) = some o) ∧ (elemOk k.word a ((s.core d c).block (bits k.word 91 88)) ((s.core d c).block (bits k.word 87 84)) o = true) ∧ (useFits r (rowsSpan a (ceilDiv (bits k.word 63 32) a.e0) a.e0) = true) ∧ (rowsVerify s d c a (ceilDiv (bits k.word 63 32) a.e0) a.e0 = true) ∧ (elemNeedsB (bits k.word 79 76) = true → if bits k.word 79 76 = 3 then verifies s d c b.base 512 = true else rowsVerify s d c b (ceilDiv (bits k.word 63 32) b.e0) b.e0 = true) ∧ (elemNeedsC (bits k.word 79 76) = true → if bits k.word 79 76 = 3 then verifies s d c e.base 512 = true else rowsVerify s d c e (ceilDiv (bits k.word 63 32) e.e0) e.e0 = true) ∧ (rowsMerge s d c o (ceilDiv (bits k.word 63 32) o.e0) o.e0 = true) ∧ (tokensMatch (mkWork s d c r) = true) := by
  repeat' apply And.intro
  all_goals first | decide +kernel

theorem wit_MatrixCommandsRun_mxFlagsClr :
  let d : Fin 16 := 3
  let c : Fin 32 := 5
  let k : Cmd := cmd5 0x16 0
  let s : State := ready 0 (cmd5 0x16 0) (fun x => { x with mx := { x.mx with flags := 7 } })
  (Issues s d c 0 0x16 k) ∧ ((s.core d c).q0.run = []) := by decide +kernel

theorem wit_MatrixRegistersAndChecks_foldResidueCheckFails :
  let d : Fin 16 := 3
  let c : Fin 32 := 5
  let row : Fin 1024 := 7
  let col : Fin 128 := 4
  let p : BitVec 7 := 8
  let q : BitVec 7 := 9
  let r : Run := { num := 5, word := cmdWord 0x10 0, owns := [⟨0, 1024, 0, 128⟩], tiles := [0, 1] }
  let s : State := onCore 3 5 (fun x => { x with acc := [(900, { mant := 9, res := 9 })], q0 := { enable := true, run := [{ num := 5, word := cmdWord 0x10 0, owns := [⟨0, 1024, 0, 128⟩], tiles := [0, 1] }] } })
  (TablesRise s) ∧ ((s.core d c).mxRunning r.num = some r) ∧ (r.owns.any (fun o => o.has row col) = true) ∧ (p ≠ q) ∧ ((s.core d c).q0.run = [r]) ∧ (bits (s.core d c).mx.fault 63 56 = 0) := by decide +kernel

theorem wit_MatrixRegistersAndChecks_mxRegisterParityError :
  let d : Fin 16 := 3
  let c : Fin 32 := 5
  let r : Run := { num := 5, word := cmdWord 0x10 0, tiles := [9] }
  let s : State := onCore 3 5 (fun x => { x with q0 := { enable := true, run := [{ num := 5, word := cmdWord 0x10 0, tiles := [9] }] } })
  (TablesRise s) ∧ ((s.core d c).q0.run = [r]) ∧ ((s.core d c).mxRunning r.num = some r) ∧ (bits (s.core d c).mx.fault 63 56 = 0) := by decide +kernel

theorem wit_MatrixRegistersAndChecks_accWindowRead :
  let d : Fin 16 := 3
  let c : Fin 32 := 5
  let off : Fin 0x200000 := 14404
  let s : State := onCore 3 5 (fun x => { x with acc := [(900, { mant := 9, res := 9 })] })
  (Reachable s d c) ∧ ((s.core d c).owned (accRow off) (accCol off) = false) ∧ (entryOk ((s.core d c).entry (accRow off) (accCol off)) = true) := by decide +kernel

theorem wit_MatrixRegistersAndChecks_accWindowReadFault :
  let d : Fin 16 := 3
  let c : Fin 32 := 5
  let off : Fin 0x200000 := 14404
  let s : State := onCore 3 5 (fun x => { x with acc := [(900, { mant := 9, res := 8 })] })
  (TablesRise s) ∧ (Reachable s d c) ∧ ((s.core d c).owned (accRow off) (accCol off) = false) ∧ (entryOk ((s.core d c).entry (accRow off) (accCol off)) = false) ∧ (bits (s.core d c).mx.fault 63 56 = 0) := by decide +kernel

theorem wit_MatrixRegistersAndChecks_accWindowReadWaits :
  let d : Fin 16 := 3
  let c : Fin 32 := 5
  let off : Fin 0x200000 := 14404
  let s : State := onCore 3 5 (fun x => { x with q0 := { enable := true, run := [{ num := 5, word := cmdWord 0x10 0, owns := [⟨0, 1024, 0, 128⟩] }] } })
  (TablesRise s) ∧ (Reachable s d c) ∧ ((s.core d c).owned (accRow off) (accCol off) = true) := by decide +kernel

theorem wit_MatrixRegistersAndChecks_accWindowWrite :
  let d : Fin 16 := 3
  let c : Fin 32 := 5
  let off : Fin 0x200000 := 14400
  let data : List Byte := List.replicate 16 1
  let s : State := up
  (TablesRise s) ∧ (CoreRises (s.core d c)) ∧ (Reachable s d c) ∧ ((s.core d c).owned (accRow off) (accCol off) = false) ∧ (off.val % 16 = 0) ∧ (data.length = 16) := by decide +kernel

theorem wit_MatrixRegistersAndChecks_accWindowPartial :
  let d : Fin 16 := 3
  let c : Fin 32 := 5
  let off : Fin 0x200000 := 14400
  let data : List Byte := [1, 2, 3]
  let s : State := up
  (Reachable s d c) ∧ (off.val % 16 ≠ 0 ∨ data.length ≠ 16) := by decide +kernel

theorem wit_MatrixRegistersAndChecks_accWindowWaits :
  let d : Fin 16 := 3
  let c : Fin 32 := 5
  let off : Fin 0x200000 := 14400
  let data : List Byte := List.replicate 16 1
  let s : State := onCore 3 5 (fun x => { x with q0 := { enable := true, run := [{ num := 5, word := cmdWord 0x10 0, owns := [⟨0, 1024, 0, 128⟩] }] } })
  (TablesRise s) ∧ (Reachable s d c) ∧ ((s.core d c).owned (accRow off) (accCol off) = true) ∧ (off.val % 16 = 0) ∧ (data.length = 16) := by decide +kernel

theorem wit_MatrixRegistersAndChecks_accBusy :
  let d : Fin 16 := 3
  let c : Fin 32 := 5
  let w : AccWait := ⟨0, 16, none, 0⟩
  let ws : List AccWait := []
  let s : State := onCore 3 5 (fun x => { x with mx := { x.mx with waiting := [⟨0, 16, none, 0⟩] } })
  (TablesRise s) ∧ (s.host.ordered = []) ∧ ((s.core d c).mx.waiting = w :: ws) ∧ (w.since + s.cycles d 4096 ≤ s.time) := by decide +kernel

theorem wit_MatrixRegistersAndChecks_accBusyEarly :
  let d : Fin 16 := 3
  let c : Fin 32 := 5
  let w : AccWait := ⟨0, 16, none, up.time⟩
  let ws : List AccWait := []
  let s : State := onCore 3 5 (fun x => { x with mx := { x.mx with waiting := [⟨0, 16, none, up.time⟩] } })
  (s.host.ordered = []) ∧ ((s.core d c).mx.waiting = w :: ws) ∧ (s.time < w.since + s.cycles d 4096) := by decide +kernel

theorem wit_MatrixRegistersAndChecks_accBusyOrdered :
  let d : Fin 16 := 3
  let c : Fin 32 := 5
  let w : AccWait := ⟨0, 16, none, 0⟩
  let ws : List AccWait := []
  let s : State := { onCore 3 5 (fun x => { x with mx := { x.mx with waiting := [⟨0, 16, none, 0⟩] } }) with host := { up.host with ordered := [(3, .irq 5 2)] } }
  ((s.core d c).mx.waiting = w :: ws) := by decide +kernel

theorem wit_MatrixRegistersAndChecks_accBusyMove_1 :
  let d : Fin 16 := 3
  let c : Fin 32 := 5
  let m : Nat := 5
  let r : Run := { num := 9, word := cmdWord 0x40 0, todo := [⟨0, .loc (accAddr 5 0), .loc 0, 16, false⟩] }
  let p : Piece := ⟨0, .loc (accAddr 5 0), .loc 0, 16, false⟩
  let s : State := stuck5 []
  (TablesRise s) ∧ ((s.core d c).mx.waiting = []) ∧ (s.accStuck d c = some (m, r, p)) ∧ (s.moveRun d m r.num = some r) ∧ (r.fail = 0) ∧ (r.status = 0) := by decide +kernel

theorem wit_MatrixRegistersAndChecks_accBusyMove_2 :
  let d : Fin 16 := 3
  let c : Fin 32 := 5
  let m : Nat := 5
  let r : Run := { num := 9, word := cmdWord 0x40 0, todo := [⟨0, .loc (accAddr 5 0), .loc 0, 16, false⟩, ⟨1, .loc 64, .loc 0, 16, false⟩] }
  let p : Piece := ⟨0, .loc (accAddr 5 0), .loc 0, 16, false⟩
  let s : State := stuck5 [⟨1, .loc 64, .loc 0, 16, false⟩]
  (TablesRise s) ∧ ((s.core d c).mx.waiting = []) ∧ (s.accStuck d c = some (m, r, p)) ∧ (s.moveRun d m r.num = some r) ∧ (r.fail = 0) ∧ (r.status = 0) := by decide +kernel

theorem wit_MatrixRegistersAndChecks_accBusyNone :
  let d : Fin 16 := 3
  let c : Fin 32 := 5
  let s : State := up
  ((s.core d c).mx.waiting = []) ∧ (s.accStuck d c = none) := by decide +kernel

theorem wit_MatrixRegistersAndChecks_mxIdleRelease :
  let d : Fin 16 := 3
  let c : Fin 32 := 5
  let s : State := { onCore 3 5 (fun x => { x with mx := { x.mx with leave := true } }) with pwr := { held := [⟨.matrixEngine 3 5, 3⟩] } }
  (TablesRise s) ∧ ((s.core d c).mx.leave = true) ∧ ((s.core d c).q0.run = []) ∧ ((s.core d c).mx.lastCmd + s.obj 0x7050 2 * tickUs ≤ s.time) := by decide +kernel

theorem wit_MatrixRegistersAndChecks_mxFlagsW1c :
  let d : Fin 16 := 3
  let c : Fin 32 := 5
  let s : State := onCore 3 5 (fun x => { x with mx := { x.mx with flags := 7 } })
  (TablesRise s) ∧ (Reachable s d c) := by decide +kernel

theorem wit_MatrixRegistersAndChecks_mxFaultClear :
  let d : Fin 16 := 3
  let c : Fin 32 := 5
  let s : State := onCore 3 5 (fun x => { x with mx := { x.mx with fault := 7, faultAddr := 9 } })
  (TablesRise s) ∧ (Reachable s d c) := by decide +kernel

theorem wit_VectorCommandsRun_vxDset_1 :
  let d : Fin 16 := 3
  let c : Fin 32 := 5
  let k : Cmd := cmd5 0x20 (2*2^91)
  let s : State := ready 1 (cmd5 0x20 (2*2^91)) (fun x => { x with vx := { x.vx with table := [(2, tensor 1 4 2 16 64)] } })
  let r : Run := issuedRun s 3 5 1 k
  let v : BitVec 256 := tensor 1 4 2 16 64
  let ds : Desc := dsc (tensor 1 4 2 16 64)
  (Issues s d c 1 0x20 k) ∧ (issuedRun s d c 1 k = r) ∧ ((if cmdUse k.word then (r.popped.map (fun h => descRebase (descClean (mapGet 0 (s.core d c).vx.table (bits k.word 95 91))) (4096 * handleTile h))).getD (descClean (mapGet 0 (s.core d c).vx.table (bits k.word 95 91))) else descClean (mapGet 0 (s.core d c).vx.table (bits k.word 95 91))) = v) ∧ (descOf v = some ds) ∧ (useFits r (descSpan ds) = true) := by decide +kernel

theorem wit_VectorCommandsRun_vxDset_2 :
  let d : Fin 16 := 3
  let c : Fin 32 := 5
  let k : Cmd := cmd5 0x20 (2*2^91 + 2^116 + 3*2^112 + 2^111)
  let s : State := ready 1 (cmd5 0x20 (2*2^91 + 2^116 + 3*2^112 + 2^111)) (fun x => { x with tq := [(3, { slots := [⟨4, 0, some (mkHandle 7 0 2 9 false), false⟩] })], vx := { x.vx with table := [(2, tensor 1 4 2 16 64)] } })
  let r : Run := issuedRun s 3 5 1 k
  let v : BitVec 256 := tensor 1 4 2 16 (9*4096)
  let ds : Desc := dsc (tensor 1 4 2 16 (9*4096))
  (Issues s d c 1 0x20 k) ∧ (issuedRun s d c 1 k = r) ∧ ((if cmdUse k.word then (r.popped.map (fun h => descRebase (descClean (mapGet 0 (s.core d c).vx.table (bits k.word 95 91))) (4096 * handleTile h))).getD (descClean (mapGet 0 (s.core d c).vx.table (bits k.word 95 91))) else descClean (mapGet 0 (s.core d c).vx.table (bits k.word 95 91))) = v) ∧ (descOf v = some ds) ∧ (useFits r (descSpan ds) = true) := by decide +kernel

theorem wit_VectorCommandsRun_vxLd_1 :
  let d : Fin 16 := 3
  let c : Fin 32 := 5
  let k : Cmd := cmd5 0x21 (2*2^91 + 4*2^87)
  let s : State := store5 (ready 1 (cmd5 0x21 (2*2^91 + 4*2^87)) (fun x => { x with vx := { x.vx with regs := [(512 * 4 + 7, 9), (512 * 5 + 7, 8)], latched := [(2, some ⟨tensor 1 4 2 16 64, 1, none⟩)] } })) 64 (List.replicate 40 0x3F)
  let r : Run := issuedRun s 3 5 1 k
  let l : Latched := ⟨tensor 1 4 2 16 64, 1, none⟩
  let ds : Desc := dsc (tensor 1 4 2 16 64)
  let lf : Nat := 0
  let segs : List (Nat × Nat × Nat) := [(1, 0, 4)]
  (Issues s d c 1 0x21 k) ∧ (issuedRun s d c 1 k = r) ∧ ((s.core d c).latched (bits k.word 95 91) = some (l, ds)) ∧ (ldFormat ds.elem (bit k.word 86) (bit k.word 85) = lf) ∧ (l.chunk < descChunks ds (lfElems lf)) ∧ (chunkSegs ds (lfElems lf) l.chunk = segs) ∧ (segs.all (fun g => segVerifies s d c ds g.1 g.2.1 g.2.2) = true) ∧ (tokensMatch { mkWork s d c r with use := latchedUse l } = true) := by decide +kernel

theorem wit_VectorCommandsRun_vxLd_2 :
  let d : Fin 16 := 3
  let c : Fin 32 := 5
  let k : Cmd := cmd5 0x21 (2*2^91 + 4*2^87)
  let s : State := store5 (ready 1 (cmd5 0x21 (2*2^91 + 4*2^87)) (fun x => { x with vx := { x.vx with regs := [(512 * 4 + 7, 9)], latched := [(2, some ⟨tensor 2 4 2 8 64 + (1#256) <<< 243, 0, some (mkHandle 0 0 1 0 false)⟩)] } })) 64 (List.replicate 40 0x3F)
  let r : Run := issuedRun s 3 5 1 k
  let l : Latched := ⟨tensor 2 4 2 8 64 + (1#256) <<< 243, 0, some (mkHandle 0 0 1 0 false)⟩
  let ds : Desc := dsc (tensor 2 4 2 8 64 + (1#256) <<< 243)
  let lf : Nat := 1
  let segs : List (Nat × Nat × Nat) := [(0, 0, 4), (1, 0, 4)]
  (Issues s d c 1 0x21 k) ∧ (issuedRun s d c 1 k = r) ∧ ((s.core d c).latched (bits k.word 95 91) = some (l, ds)) ∧ (ldFormat ds.elem (bit k.word 86) (bit k.word 85) = lf) ∧ (l.chunk < descChunks ds (lfElems lf)) ∧ (chunkSegs ds (lfElems lf) l.chunk = segs) ∧ (segs.all (fun g => segVerifies s d c ds g.1 g.2.1 g.2.2) = true) ∧ (tokensMatch { mkWork s d c r with use := latchedUse l } = true) := by decide +kernel

theorem wit_VectorCommandsRun_vxSt_1 :
  let d : Fin 16 := 3
  let c : Fin 32 := 5
  let k : Cmd := cmd5 0x22 (2*2^91 + 4*2^87)
  let s : State := ready 1 (cmd5 0x22 (2*2^91 + 4*2^87)) (fun x => { x with vx := { x.vx with regs := [(512 * 4 + 7, 9), (512 * 4 + 9, 0x3F800000)], latched := [(2, some ⟨tensor 1 512 2 2048 64, 1, none⟩)] } })
  let r : Run := issuedRun s 3 5 1 k
  let l : Latched := ⟨tensor 1 512 2 2048 64, 1, none⟩
  let ds : Desc := dsc (tensor 1 512 2 2048 64)
  let lf : Nat := 0
  let segs : List (Nat × Nat × Nat) := [(1, 0, 512)]
  (Issues s d c 1 0x22 k) ∧ (issuedRun s d c 1 k = r) ∧ ((s.core d c).latched (bits k.word 95 91) = some (l, ds)) ∧ (bits k.word 86 84 = lf) ∧ (lf ≤ 4) ∧ (bits k.word 82 81 ≠ 3) ∧ (l.chunk < descChunks ds (lfElems lf)) ∧ (chunkSegs ds (lfElems lf) l.chunk = segs) ∧ (segs.all (fun g => segMerges s d c ds g.1 g.2.1 g.2.2) = true) := by decide +kernel

theorem wit_VectorCommandsRun_vxSt_2 :
  let d : Fin 16 := 3
  let c : Fin 32 := 5
  let k : Cmd := cmd5 0x22 (2*2^91 + 4*2^87 + 2^83)
  let s : State := ready 1 (cmd5 0x22 (2*2^91 + 4*2^87 + 2^83)) (fun x => { x with vx := { x.vx with regs := [(512 * 4 + 7, 9), (512 * 4 + 9, 0x3F800000)], latched := [(2, some ⟨tensor 0x10 32 2 64 64 + (0x1000#256) <<< 192, 1, none⟩)] } })
  let r : Run := issuedRun s 3 5 1 k
  let l : Latched := ⟨tensor 0x10 32 2 64 64 + (0x1000#256) <<< 192, 1, none⟩
  let ds : Desc := dsc (tensor 0x10 32 2 64 64 + (0x1000#256) <<< 192)
  let lf : Nat := 0
  let segs : List (Nat × Nat × Nat) := [(1, 0, 32)]
  (Issues s d c 1 0x22 k) ∧ (issuedRun s d c 1 k = r) ∧ ((s.core d c).latched (bits k.word 95 91) = some (l, ds)) ∧ (bits k.word 86 84 = lf) ∧ (lf ≤ 4) ∧ (bits k.word 82 81 ≠ 3) ∧ (l.chunk < descChunks ds (lfElems lf)) ∧ (chunkSegs ds (lfElems lf) l.chunk = segs) ∧ (segs.all (fun g => segMerges s d c ds g.1 g.2.1 g.2.2) = true) := by decide +kernel

theorem wit_VectorCommandsRun_vxOp_1 :
  let d : Fin 16 := 3
  let c : Fin 32 := 5
  let k : Cmd := cmd5 0x23 (4*2^92 + 5*2^85 + 32*2^78 + 3*2^62 + 7)
  let s : State := ready 1 (cmd5 0x23 (4*2^92 + 5*2^85 + 32*2^78 + 3*2^62 + 7)) (fun x => { x with vx := { x.vx with regs := [(512 * 4 + 7, 9), (512 * 5 + 7, 0xFFFFFFFE)] } })
  let r : Run := issuedRun s 3 5 1 k
  (Issues s d c 1 0x23 k) ∧ (issuedRun s d c 1 k = r) ∧ (bits k.word 64 62 ≤ 4) ∧ (opCodeOk (bits k.word 64 62) (bits k.word 70 65) = true) ∧ (bits k.word 91 85 < 16 ∨ bits k.word 91 85 / 32 = 1) ∧ (opUsesB (bits k.word 70 65) = true → bits k.word 84 78 < 16 ∨ bits k.word 84 78 / 32 = 1) ∧ (opUsesC (bits k.word 70 65) = true → bits k.word 77 71 < 16 ∨ bits k.word 77 71 / 32 = 1) := by decide +kernel

theorem wit_VectorCommandsRun_vxOp_2 :
  let d : Fin 16 := 3
  let c : Fin 32 := 5
  let k : Cmd := cmd5 0x23 (4*2^92 + 5*2^85 + 5*2^78 + 2*2^62 + 3)
  let s : State := ready 1 (cmd5 0x23 (4*2^92 + 5*2^85 + 5*2^78 + 2*2^62 + 3)) (fun x => { x with vx := { x.vx with regs := [(512 * 4 + 7, 9), (512 * 5 + 7, 0x3C003C01)] } })
  let r : Run := issuedRun s 3 5 1 k
  (Issues s d c 1 0x23 k) ∧ (issuedRun s d c 1 k = r) ∧ (bits k.word 64 62 ≤ 4) ∧ (opCodeOk (bits k.word 64 62) (bits k.word 70 65) = true) ∧ (bits k.word 91 85 < 16 ∨ bits k.word 91 85 / 32 = 1) ∧ (opUsesB (bits k.word 70 65) = true → bits k.word 84 78 < 16 ∨ bits k.word 84 78 / 32 = 1) ∧ (opUsesC (bits k.word 70 65) = true → bits k.word 77 71 < 16 ∨ bits k.word 77 71 / 32 = 1) := by decide +kernel

theorem wit_VectorCommandsRun_vxCvt_1 :
  let d : Fin 16 := 3
  let c : Fin 32 := 5
  let k : Cmd := cmd5 0x24 (4*2^92 + 5*2^88 + 3*2^82)
  let s : State := ready 1 (cmd5 0x24 (4*2^92 + 5*2^88 + 3*2^82)) (fun x => { x with vx := { x.vx with regs := [(512 * 5 + 7, 0x40400000)] } })
  let r : Run := issuedRun s 3 5 1 k
  (Issues s d c 1 0x24 k) ∧ (issuedRun s d c 1 k = r) ∧ (cvtFormatOk (bits k.word 87 85) = true) ∧ (cvtFormatOk (bits k.word 84 82) = true) ∧ (bits k.word 80 79 ≠ 3) ∧ ((5 ≤ bits k.word 87 85 ∨ 5 ≤ bits k.word 84 82) → scaleOk (bits k.word 31 0) = true) := by decide +kernel

theorem wit_VectorCommandsRun_vxCvt_2 :
  let d : Fin 16 := 3
  let c : Fin 32 := 5
  let k : Cmd := cmd5 0x24 (4*2^92 + 5*2^88 + 5*2^85 + 1*2^82 + 2^78 + 0x3F800000)
  let s : State := ready 1 (cmd5 0x24 (4*2^92 + 5*2^88 + 5*2^85 + 1*2^82 + 2^78 + 0x3F800000)) (fun x => { x with vx := { x.vx with regs := [(512 * 4 + 7, 0x11), (512 * 5 + 7, 0x40)] } })
  let r : Run := issuedRun s 3 5 1 k
  (Issues s d c 1 0x24 k) ∧ (issuedRun s d c 1 k = r) ∧ (cvtFormatOk (bits k.word 87 85) = true) ∧ (cvtFormatOk (bits k.word 84 82) = true) ∧ (bits k.word 80 79 ≠ 3) ∧ ((5 ≤ bits k.word 87 85 ∨ 5 ≤ bits k.word 84 82) → scaleOk (bits k.word 31 0) = true) := by decide +kernel

theorem wit_VectorCommandsRun_vxFn :
  let d : Fin 16 := 3
  let c : Fin 32 := 5
  let k : Cmd := cmd5 0x25 (4*2^92 + 5*2^85)
  let s : State := ready 1 (cmd5 0x25 (4*2^92 + 5*2^85)) (fun x => { x with vx := { x.vx with regs := [(512 * 5 + 7, 0x40400000)] } })
  let r : Run := issuedRun s 3 5 1 k
  let f : FpFmt := fp32
  (Issues s d c 1 0x25 k) ∧ (issuedRun s d c 1 k = r) ∧ (lfFmt (bits k.word 73 71) = some f) ∧ (bits k.word 73 71 ≤ 2) ∧ (bits k.word 77 74 ≤ 9) ∧ (bits k.word 91 85 < 16 ∨ bits k.word 91 85 / 32 = 1) ∧ (bits k.word 77 74 = 1 → bits k.word 84 78 < 16 ∨ bits k.word 84 78 / 32 = 1) := by decide +kernel

theorem wit_VectorCommandsRun_vxShuf_1 :
  let d : Fin 16 := 3
  let c : Fin 32 := 5
  let k : Cmd := cmd5 0x26 (4*2^92 + 4*2^88 + 8*2^76)
  let s : State := ready 1 (cmd5 0x26 (4*2^92 + 4*2^88 + 8*2^76)) (fun x => { x with vx := { x.vx with regs := [(512 * 4 + 7, 9), (512 * 4 + 9, 3)] } })
  let r : Run := issuedRun s 3 5 1 k
  (Issues s d c 1 0x26 k) ∧ (issuedRun s d c 1 k = r) ∧ (bits k.word 75 73 ≤ 4) ∧ (bits k.word 87 86 ≤ 1) ∧ (bits k.word 87 86 = 0 → bits k.word 85 76 ≤ 8) := by decide +kernel

theorem wit_VectorCommandsRun_vxShuf_2 :
  let d : Fin 16 := 3
  let c : Fin 32 := 5
  let k : Cmd := cmd5 0x26 (4*2^92 + 4*2^88 + 2^86 + 3*2^76)
  let s : State := ready 1 (cmd5 0x26 (4*2^92 + 4*2^88 + 2^86 + 3*2^76)) (fun x => { x with vx := { x.vx with regs := [(512 * 4 + 7, 9), (512 * 4 + 9, 3)] } })
  let r : Run := issuedRun s 3 5 1 k
  (Issues s d c 1 0x26 k) ∧ (issuedRun s d c 1 k = r) ∧ (bits k.word 75 73 ≤ 4) ∧ (bits k.word 87 86 ≤ 1) ∧ (bits k.word 87 86 = 0 → bits k.word 85 76 ≤ 8) := by decide +kernel

theorem wit_VectorCommandsRun_vxSplat :
  let d : Fin 16 := 3
  let c : Fin 32 := 5
  let k : Cmd := cmd5 0x27 (4*2^92 + 5*2^88 + 9*2^79 + 3*2^75)
  let s : State := ready 1 (cmd5 0x27 (4*2^92 + 5*2^88 + 9*2^79 + 3*2^75)) (fun x => { x with vx := { x.vx with regs := [(512 * 5 + 7, 9), (512 * 5 + 9, 3)] } })
  let r : Run := issuedRun s 3 5 1 k
  (Issues s d c 1 0x27 k) ∧ (issuedRun s d c 1 k = r) ∧ (1 ≤ bits k.word 78 75) ∧ (bits k.word 78 75 ≤ 9) := by decide +kernel

theorem wit_VectorCommandsRun_vxSred_1 :
  let d : Fin 16 := 3
  let c : Fin 32 := 5
  let k : Cmd := cmd5 0x28 (4*2^92 + 5*2^88 + 3*2^84 + 3*2^79)
  let s : State := ready 1 (cmd5 0x28 (4*2^92 + 5*2^88 + 3*2^84 + 3*2^79)) (fun x => { x with vx := { x.vx with regs := [(512 * 5 + 7, 9), (512 * 5 + 9, 3), (512 * 5 + 10, 0x80000003), (512 * 5 + 11, 0x80000000)] } })
  let r : Run := issuedRun s 3 5 1 k
  (Issues s d c 1 0x28 k) ∧ (issuedRun s d c 1 k = r) ∧ (1 ≤ bits k.word 87 84) ∧ (bits k.word 87 84 ≤ 9) ∧ (bits k.word 83 82 ≠ 3) ∧ (bits k.word 81 79 = 0 ∨ bits k.word 81 79 = 3 ∨ bits k.word 81 79 = 4) := by decide +kernel

theorem wit_VectorCommandsRun_vxSred_2 :
  let d : Fin 16 := 3
  let c : Fin 32 := 5
  let k : Cmd := cmd5 0x28 (4*2^92 + 5*2^88 + 3*2^84 + 2*2^82 + 3*2^79)
  let s : State := ready 1 (cmd5 0x28 (4*2^92 + 5*2^88 + 3*2^84 + 2*2^82 + 3*2^79)) (fun x => { x with vx := { x.vx with regs := [(512 * 5 + 7, 9), (512 * 5 + 9, 3), (512 * 5 + 10, 0x80000003)] } })
  let r : Run := issuedRun s 3 5 1 k
  (Issues s d c 1 0x28 k) ∧ (issuedRun s d c 1 k = r) ∧ (1 ≤ bits k.word 87 84) ∧ (bits k.word 87 84 ≤ 9) ∧ (bits k.word 83 82 ≠ 3) ∧ (bits k.word 81 79 = 0 ∨ bits k.word 81 79 = 3 ∨ bits k.word 81 79 = 4) := by decide +kernel

theorem wit_VectorCommandsRun_vxSred_3 :
  let d : Fin 16 := 3
  let c : Fin 32 := 5
  let k : Cmd := cmd5 0x28 (4*2^92 + 5*2^88 + 3*2^84 + 4*2^79)
  let s : State := ready 1 (cmd5 0x28 (4*2^92 + 5*2^88 + 3*2^84 + 4*2^79)) (fun x => { x with vx := { x.vx with regs := [(512 * 4 + 7, 3), (512 * 5 + 7, 9), (512 * 5 + 9, 3)] } })
  let r : Run := issuedRun s 3 5 1 k
  (Issues s d c 1 0x28 k) ∧ (issuedRun s d c 1 k = r) ∧ (1 ≤ bits k.word 87 84) ∧ (bits k.word 87 84 ≤ 9) ∧ (bits k.word 83 82 ≠ 3) ∧ (bits k.word 81 79 = 0 ∨ bits k.word 81 79 = 3 ∨ bits k.word 81 79 = 4) := by decide +kernel

theorem wit_VectorCommandsRun_vxRed :
  let d : Fin 16 := 3
  let c : Fin 32 := 5
  let k : Cmd := cmd5 0x29 (2*2^91 + 4*2^86)
  let s : State := store5 (ready 1 (cmd5 0x29 (2*2^91 + 4*2^86)) (fun x => { x with vx := { x.vx with latched := [(2, some ⟨tensor 1 2 1 16 4096, 0, none⟩), (4, some ⟨tensor 3 5 2 16 64, 0, none⟩)] } })) 64 [0, 0x3C, 0, 0x3C, 1, 0x3C, 0, 0x3C, 7, 0x30, 9, 9, 9, 9, 9, 9, 0, 0x3C]
  let r : Run := issuedRun s 3 5 1 k
  let lo : Latched := ⟨tensor 1 2 1 16 4096, 0, none⟩
  let l : Latched := ⟨tensor 3 5 2 16 64, 0, none⟩
  let od : Desc := dsc (tensor 1 2 1 16 4096)
  let ds : Desc := dsc (tensor 3 5 2 16 64)
  (Issues s d c 1 0x29 k) ∧ (issuedRun s d c 1 k = r) ∧ ((s.core d c).latched (bits k.word 95 91) = some (lo, od)) ∧ ((s.core d c).latched (bits k.word 90 86) = some (l, ds)) ∧ (bits k.word 85 84 ≠ 3) ∧ (bits k.word 82 81 ≠ 3) ∧ (descRows od = 1) ∧ (od.e0 = descRows ds) ∧ ((List.range (descRows ds)).all (fun row => segVerifies s d c ds row 0 ds.e0) = true) ∧ (tokensMatch { mkWork s d c r with use := latchedUse l } = true) ∧ (segMerges s d c od 0 0 od.e0 = true) := by
  repeat' apply And.intro
  all_goals first | decide +kernel

theorem wit_VectorCommandsRun_vxLoop_1 :
  let d : Fin 16 := 3
  let c : Fin 32 := 5
  let k : Cmd := cmd5 0x2A (1*2^92 + 3*2^70)
  let s : State := ready 1 (cmd5 0x2A (1*2^92 + 3*2^70)) (fun x => { x with q1 := { x.q1 with acc := x.q1.acc.append [⟨6, cmdWord 0 0, false⟩, ⟨7, cmdWord 0 0, false⟩, ⟨8, cmdWord 0 0, false⟩] } })
  let r : Run := issuedRun s 3 5 1 k
  let rest : List Cmd := [⟨6, cmdWord 0 0, false⟩, ⟨7, cmdWord 0 0, false⟩, ⟨8, cmdWord 0 0, false⟩]
  let n : Nat := 3
  let size : Nat := 512
  (Issues s d c 1 0x2A k) ∧ (issuedRun s d c 1 k = r) ∧ ((s.core d c).q1.acc = k :: rest) ∧ (loopB k.word ≤ rest.length) ∧ ((rest.take (loopB k.word)).all (fun b => b.num != k.num) = true) ∧ (nestOk (loopB k.word + 1) 0 ((rest.take (loopB k.word)).map Cmd.word) = true) ∧ ((loopIters (s.core d c) k.word ((rest.take (loopB k.word)).map Cmd.word)).toOption = some (n, size)) := by decide +kernel

theorem wit_VectorCommandsRun_vxLoop_2 :
  let d : Fin 16 := 3
  let c : Fin 32 := 5
  let k : Cmd := cmd5 0x2A (1*2^92 + 2^91 + 2*2^86)
  let s : State := ready 1 (cmd5 0x2A (1*2^92 + 2^91 + 2*2^86)) (fun x => { x with vx := { x.vx with latched := [(2, some ⟨tensor 1 4 2 16 64, 0, none⟩)] }, q1 := { x.q1 with acc := x.q1.acc.append [⟨6, cmdWord 0x2A (2^70), false⟩, ⟨7, cmdWord 0 0, false⟩] } })
  let r : Run := issuedRun s 3 5 1 k
  let rest : List Cmd := [⟨6, cmdWord 0x2A (2^70), false⟩, ⟨7, cmdWord 0 0, false⟩]
  let n : Nat := 2
  let size : Nat := 512
  (Issues s d c 1 0x2A k) ∧ (issuedRun s d c 1 k = r) ∧ ((s.core d c).q1.acc = k :: rest) ∧ (loopB k.word ≤ rest.length) ∧ ((rest.take (loopB k.word)).all (fun b => b.num != k.num) = true) ∧ (nestOk (loopB k.word + 1) 0 ((rest.take (loopB k.word)).map Cmd.word) = true) ∧ ((loopIters (s.core d c) k.word ((rest.take (loopB k.word)).map Cmd.word)).toOption = some (n, size)) := by decide +kernel

theorem wit_VectorCommandsRun_vxFlagsClr :
  let d : Fin 16 := 3
  let c : Fin 32 := 5
  let k : Cmd := cmd5 0x2B 0
  let s : State := ready 1 (cmd5 0x2B 0) (fun x => { x with vx := { x.vx with flags := 7 } })
  (Issues s d c 1 0x2B k) ∧ ((s.core d c).q1.run = []) := by decide +kernel

theorem wit_VectorRegistersAndChecks_vxCheckFault :
  let d : Fin 16 := 3
  let c : Fin 32 := 5
  let cause : BitVec 8 := 4
  let r : Run := { num := 5, word := cmdWord 0x23 0, tiles := [9] }
  let s : State := onCore 3 5 (fun x => { x with q1 := { enable := true, run := [{ num := 5, word := cmdWord 0x23 0, tiles := [9] }] } })
  (TablesRise s) ∧ (cause = 1 ∨ cause = 2 ∨ cause = 4 ∨ cause = 5 ∨ cause = 6) ∧ ((s.core d c).vx.loops = []) ∧ ((s.core d c).q1.run = [r]) ∧ ((s.core d c).vxRunning = some r) ∧ (bits (s.core d c).vx.fault 63 56 = 0) := by decide +kernel

theorem wit_VectorRegistersAndChecks_vxEccCorrected :
  let d : Fin 16 := 3
  let c : Fin 32 := 5
  let s : State := onCore 3 5 (fun x => { x with q1 := { enable := true, run := [{ num := 5, word := cmdWord 0x23 0 }] } })
  (TablesRise s) ∧ ((s.core d c).vxRunning.isSome = true) ∧ (s.obj 0x7060 5 < 1000) := by decide +kernel

theorem wit_VectorRegistersAndChecks_vxCheckFaultLoop :
  let d : Fin 16 := 3
  let c : Fin 32 := 5
  let cause : BitVec 8 := 4
  let lane : Fin 512 := 7
  let r : Run := { num := 5, word := cmdWord 0x23 0, body := true, waited := false, busy := true }
  let s : State := loop5 { num := 5, word := cmdWord 0x23 0, body := true, waited := false, busy := true } id
  (TablesRise s) ∧ (cause = 1 ∨ cause = 2 ∨ cause = 4 ∨ cause = 5 ∨ cause = 6) ∧ ((cause = 1 ∨ cause = 2) → lane.val < (s.core d c).active 3) ∧ ((s.core d c).vx.loops ≠ []) ∧ ((s.core d c).vxRunning = some r) ∧ (r.busy = true) ∧ (((s.core d c).q1.run.map Run.num).Nodup) ∧ (bits (s.core d c).vx.fault 63 56 = 0) := by decide +kernel

theorem wit_VectorRegistersAndChecks_vxIdleRelease :
  let d : Fin 16 := 3
  let c : Fin 32 := 5
  let s : State := { onCore 3 5 (fun x => { x with vx := { x.vx with leave := true } }) with pwr := { held := [⟨.vectorEngine 3 5, 3⟩, ⟨.matrixEngine 3 5, 3⟩] } }
  (TablesRise s) ∧ ((s.core d c).vx.leave = true) ∧ ((s.core d c).q1.run = []) ∧ ((s.core d c).vx.lastCmd + s.obj 0x7060 2 * tickUs ≤ s.time) := by decide +kernel

theorem wit_VectorRegistersAndChecks_vxFlagsW1c :
  let d : Fin 16 := 3
  let c : Fin 32 := 5
  let s : State := onCore 3 5 (fun x => { x with vx := { x.vx with flags := 7 } })
  (TablesRise s) ∧ (Reachable s d c) := by decide +kernel

theorem wit_VectorRegistersAndChecks_vxFaultClear :
  let d : Fin 16 := 3
  let c : Fin 32 := 5
  let s : State := onCore 3 5 (fun x => { x with vx := { x.vx with fault := 7, faultAddr := 9 } })
  (TablesRise s) ∧ (Reachable s d c) := by decide +kernel

theorem wit_VectorCommandsInLoops_loopDset :
  let d : Fin 16 := 3
  let c : Fin 32 := 5
  let r : Run := { num := 5, word := cmdWord 0x20 (2*2^91), body := true, waited := false, busy := true, level := 2 }
  let s : State := loop5 { num := 5, word := cmdWord 0x20 (2*2^91), body := true, waited := false, busy := true, level := 2 } (fun x => { x with vx := { x.vx with table := [(2, tensor 1 4 2 16 64)] } })
  let v : BitVec 256 := tensor 1 4 2 16 64
  let ds : Desc := dsc (tensor 1 4 2 16 64)
  (AtLoop s d c 0x20 r) ∧ (Within (s.core d c)) ∧ ((if cmdUse r.word then ((s.loopTake d c r).2.popped.map (fun h => descRebase (descClean (mapGet 0 (s.core d c).vx.table (bits r.word 95 91))) (4096 * handleTile h))).getD (descClean (mapGet 0 (s.core d c).vx.table (bits r.word 95 91))) else descClean (mapGet 0 (s.core d c).vx.table (bits r.word 95 91))) = v) ∧ (descOf v = some ds) ∧ (useFits (s.loopTake d c r).2 (descSpan ds) = true) := by decide +kernel

theorem wit_VectorCommandsInLoops_loopLd :
  let d : Fin 16 := 3
  let c : Fin 32 := 5
  let r : Run := { num := 5, word := cmdWord 0x21 (2*2^91 + 4*2^87), body := true, waited := false, busy := true, level := 2 }
  let s : State := store5 (loop5 { num := 5, word := cmdWord 0x21 (2*2^91 + 4*2^87), body := true, waited := false, busy := true, level := 2 } (id)) 96 (List.replicate 40 0x3F)
  let l : Latched := ⟨tensor 1 5 3 32 64, 1, none⟩
  let ds : Desc := dsc (tensor 1 5 3 32 64)
  let lf : Nat := 0
  let segs : List (Nat × Nat × Nat) := [(1, 0, 5)]
  (AtLoop s d c 0x21 r) ∧ (Within (s.core d c)) ∧ ((s.core d c).latched (bits r.word 95 91) = some (l, ds)) ∧ (ldFormat ds.elem (bit r.word 86) (bit r.word 85) = lf) ∧ (l.chunk < descChunks ds (lfElems lf)) ∧ (chunkSegs ds (lfElems lf) l.chunk = segs) ∧ (segs.all (fun g => segVerifies s d c ds g.1 g.2.1 g.2.2) = true) ∧ (tokensMatch { mkWork s d c r with use := latchedUse l } = true) := by decide +kernel

theorem wit_VectorCommandsInLoops_loopSt :
  let d : Fin 16 := 3
  let c : Fin 32 := 5
  let r : Run := { num := 5, word := cmdWord 0x22 (2*2^91 + 4*2^87), body := true, waited := false, busy := true, level := 2 }
  let s : State := loop5 { num := 5, word := cmdWord 0x22 (2*2^91 + 4*2^87), body := true, waited := false, busy := true, level := 2 } (id)
  let l : Latched := ⟨tensor 1 5 3 32 64, 1, none⟩
  let ds : Desc := dsc (tensor 1 5 3 32 64)
  let lf : Nat := 0
  let segs : List (Nat × Nat × Nat) := [(1, 0, 5)]
  (AtLoop s d c 0x22 r) ∧ (Within (s.core d c)) ∧ ((s.core d c).latched (bits r.word 95 91) = some (l, ds)) ∧ (bits r.word 86 84 = lf) ∧ (lf ≤ 4) ∧ (bits r.word 82 81 ≠ 3) ∧ (l.chunk < descChunks ds (lfElems lf)) ∧ (chunkSegs ds (lfElems lf) l.chunk = segs) ∧ (segsCount segs = (s.core d c).active lf) := by decide +kernel

theorem wit_VectorCommandsInLoops_loopOp_1 :
  let d : Fin 16 := 3
  let c : Fin 32 := 5
  let r : Run := { num := 5, word := cmdWord 0x23 (4*2^92 + 5*2^85 + 32*2^78 + 3*2^62 + 7), body := true, waited := false, busy := true, level := 2 }
  let s : State := loop5 { num := 5, word := cmdWord 0x23 (4*2^92 + 5*2^85 + 32*2^78 + 3*2^62 + 7), body := true, waited := false, busy := true, level := 2 } (fun x => { x with vx := { x.vx with regs := [(512 * 4 + 3, 9), (512 * 4 + 7, 9), (512 * 5 + 3, 0xFFFFFFFE)] } })
  (AtLoop s d c 0x23 r) ∧ (Within (s.core d c)) ∧ (bits r.word 64 62 ≤ 4) ∧ (opCodeOk (bits r.word 64 62) (bits r.word 70 65) = true) ∧ (sourceOk s d c (bits r.word 91 85) = true) ∧ (opUsesB (bits r.word 70 65) = true → sourceOk s d c (bits r.word 84 78) = true) ∧ (opUsesC (bits r.word 70 65) = true → sourceOk s d c (bits r.word 77 71) = true) := by decide +kernel

theorem wit_VectorCommandsInLoops_loopOp_2 :
  let d : Fin 16 := 3
  let c : Fin 32 := 5
  let r : Run := { num := 5, word := cmdWord 0x23 (4*2^92 + 5*2^85 + 67*2^78 + 0*2^62), body := true, waited := false, busy := true, level := 2 }
  let s : State := store5 (loop5 { num := 5, word := cmdWord 0x23 (4*2^92 + 5*2^85 + 67*2^78 + 0*2^62), body := true, waited := false, busy := true, level := 2 } (fun x => { x with vx := { x.vx with regs := [(512 * 5 + 3, 0x3F800000)], latched := x.vx.latched.append [(3, some ⟨tensor 1 5 1 32 4096, 0, none⟩)] } })) 4096 [0, 0, 0x80, 0x3F]
  (AtLoop s d c 0x23 r) ∧ (Within (s.core d c)) ∧ (bits r.word 64 62 ≤ 4) ∧ (opCodeOk (bits r.word 64 62) (bits r.word 70 65) = true) ∧ (sourceOk s d c (bits r.word 91 85) = true) ∧ (opUsesB (bits r.word 70 65) = true → sourceOk s d c (bits r.word 84 78) = true) ∧ (opUsesC (bits r.word 70 65) = true → sourceOk s d c (bits r.word 77 71) = true) := by decide +kernel

theorem wit_VectorCommandsInLoops_loopCvt :
  let d : Fin 16 := 3
  let c : Fin 32 := 5
  let r : Run := { num := 5, word := cmdWord 0x24 (4*2^92 + 5*2^88 + 3*2^82), body := true, waited := false, busy := true, level := 2 }
  let s : State := loop5 { num := 5, word := cmdWord 0x24 (4*2^92 + 5*2^88 + 3*2^82), body := true, waited := false, busy := true, level := 2 } (fun x => { x with vx := { x.vx with regs := [(512 * 5 + 3, 0x40400000)] } })
  (AtLoop s d c 0x24 r) ∧ (Within (s.core d c)) ∧ (cvtFormatOk (bits r.word 87 85) = true) ∧ (cvtFormatOk (bits r.word 84 82) = true) ∧ (bits r.word 80 79 ≠ 3) ∧ ((5 ≤ bits r.word 87 85 ∨ 5 ≤ bits r.word 84 82) → scaleOk (bits r.word 31 0) = true) := by decide +kernel

theorem wit_VectorCommandsInLoops_loopFn :
  let d : Fin 16 := 3
  let c : Fin 32 := 5
  let r : Run := { num := 5, word := cmdWord 0x25 (4*2^92 + 5*2^85), body := true, waited := false, busy := true, level := 2 }
  let s : State := loop5 { num := 5, word := cmdWord 0x25 (4*2^92 + 5*2^85), body := true, waited := false, busy := true, level := 2 } (fun x => { x with vx := { x.vx with regs := [(512 * 5 + 3, 0x40400000)] } })
  let f : FpFmt := fp32
  (AtLoop s d c 0x25 r) ∧ (Within (s.core d c)) ∧ (lfFmt (bits r.word 73 71) = some f) ∧ (bits r.word 73 71 ≤ 2) ∧ (bits r.word 77 74 ≤ 9) ∧ (sourceOk s d c (bits r.word 91 85) = true) ∧ (bits r.word 77 74 = 1 → sourceOk s d c (bits r.word 84 78) = true) := by decide +kernel

theorem wit_VectorCommandsInLoops_loopShuf :
  let d : Fin 16 := 3
  let c : Fin 32 := 5
  let r : Run := { num := 5, word := cmdWord 0x26 (4*2^92 + 5*2^88 + 1*2^76), body := true, waited := false, busy := true, level := 2 }
  let s : State := loop5 { num := 5, word := cmdWord 0x26 (4*2^92 + 5*2^88 + 1*2^76), body := true, waited := false, busy := true, level := 2 } (fun x => { x with vx := { x.vx with regs := [(512 * 5 + 1, 9), (512 * 5 + 3, 7)] } })
  (AtLoop s d c 0x26 r) ∧ (Within (s.core d c)) ∧ (bits r.word 75 73 ≤ 4) ∧ (bits r.word 87 86 ≤ 1) ∧ (bits r.word 87 86 = 0 → bits r.word 85 76 ≤ 8) := by decide +kernel

theorem wit_VectorCommandsInLoops_loopSplat :
  let d : Fin 16 := 3
  let c : Fin 32 := 5
  let r : Run := { num := 5, word := cmdWord 0x27 (4*2^92 + 5*2^88 + 3*2^79 + 9*2^75), body := true, waited := false, busy := true, level := 2 }
  let s : State := loop5 { num := 5, word := cmdWord 0x27 (4*2^92 + 5*2^88 + 3*2^79 + 9*2^75), body := true, waited := false, busy := true, level := 2 } (fun x => { x with vx := { x.vx with regs := [(512 * 5 + 1, 9), (512 * 5 + 3, 7)] } })
  (AtLoop s d c 0x27 r) ∧ (Within (s.core d c)) ∧ (1 ≤ bits r.word 78 75) ∧ (bits r.word 78 75 ≤ 9) := by decide +kernel

theorem wit_VectorCommandsInLoops_loopSred :
  let d : Fin 16 := 3
  let c : Fin 32 := 5
  let r : Run := { num := 5, word := cmdWord 0x28 (4*2^92 + 5*2^88 + 3*2^84 + 3*2^79), body := true, waited := false, busy := true, level := 2 }
  let s : State := loop5 { num := 5, word := cmdWord 0x28 (4*2^92 + 5*2^88 + 3*2^84 + 3*2^79), body := true, waited := false, busy := true, level := 2 } (fun x => { x with vx := { x.vx with regs := [(512 * 5 + 1, 9), (512 * 5 + 3, 7), (512 * 5 + 5, 100)] } })
  (AtLoop s d c 0x28 r) ∧ (Within (s.core d c)) ∧ (1 ≤ bits r.word 87 84) ∧ (bits r.word 87 84 ≤ 9) ∧ (bits r.word 83 82 ≠ 3) ∧ (bits r.word 81 79 = 0 ∨ bits r.word 81 79 = 3 ∨ bits r.word 81 79 = 4) := by decide +kernel

theorem wit_VectorCommandsInLoops_loopRed :
  let d : Fin 16 := 3
  let c : Fin 32 := 5
  let r : Run := { num := 5, word := cmdWord 0x29 (3*2^91 + 2*2^86), body := true, waited := false, busy := true, level := 2 }
  let s : State := loop5 { num := 5, word := cmdWord 0x29 (3*2^91 + 2*2^86), body := true, waited := false, busy := true, level := 2 } (fun x => { x with vx := { x.vx with latched := x.vx.latched.append [(3, some ⟨tensor 1 3 1 32 4096, 0, none⟩)] } })
  let lo : Latched := ⟨tensor 1 3 1 32 4096, 0, none⟩
  let l : Latched := ⟨tensor 1 5 3 32 64, 1, none⟩
  let od : Desc := dsc (tensor 1 3 1 32 4096)
  let ds : Desc := dsc (tensor 1 5 3 32 64)
  (AtLoop s d c 0x29 r) ∧ (Within (s.core d c)) ∧ ((s.core d c).latched (bits r.word 95 91) = some (lo, od)) ∧ ((s.core d c).latched (bits r.word 90 86) = some (l, ds)) ∧ (bits r.word 85 84 ≠ 3) ∧ (bits r.word 82 81 ≠ 3) ∧ (descRows od = 1) ∧ (od.e0 = descRows ds) ∧ ((List.range (descRows ds)).all (fun row => segVerifies s d c ds row 0 ds.e0) = true) ∧ (tokensMatch { mkWork s d c r with use := latchedUse l } = true) := by
  repeat' apply And.intro
  all_goals first | decide +kernel

theorem wit_VectorCommandsInLoops_loopInner :
  let d : Fin 16 := 3
  let c : Fin 32 := 5
  let r : Run := { num := 5, word := cmdWord 0x2A (2*2^70), body := true, waited := false, busy := true, level := 2 }
  let s : State := loop5 { num := 5, word := cmdWord 0x2A (2*2^70), body := true, waited := false, busy := true, level := 2 } (id)
  let n : Nat := 2
  let size : Nat := 512
  (AtLoop s d c 0x2A r) ∧ ((loopIters (s.core d c) r.word (((s.core d c).q1.run.filter (fun b => decide (r.num.toNat < b.num.toNat) && decide (b.num.toNat ≤ r.num.toNat + loopB r.word))).map Run.word)).toOption = some (n, size)) := by decide +kernel

theorem wit_VectorCommandsInLoops_loopFlagsClr :
  let d : Fin 16 := 3
  let c : Fin 32 := 5
  let r : Run := { num := 5, word := cmdWord 0x2B (0), body := true, waited := false, busy := true, level := 2 }
  let s : State := loop5 { num := 5, word := cmdWord 0x2B (0), body := true, waited := false, busy := true, level := 2 } (fun x => { x with vx := { x.vx with flags := 7 } })
  (AtLoop s d c 0x2B r) ∧ (Within (s.core d c)) := by decide +kernel

theorem wit_VectorCommandsInLoops_loopAgain :
  let d : Fin 16 := 3
  let c : Fin 32 := 5
  let r : Run := { num := 5, word := cmdWord 0x00 (0), body := true, waited := false, busy := true, level := 2 }
  let s : State := loop5 { num := 5, word := cmdWord 0x00 (0), body := true, waited := false, busy := true, level := 2 } (fun x => { x with vx := { x.vx with loops := [{ loop := 4, first := 5, len := 1, left := 2, drv := some 2, csize := 512, chunk := 1 }] } })
  let f : LoopFrame := { loop := 4, first := 5, len := 1, left := 2, drv := some 2, csize := 512, chunk := 1 }
  let fs : List LoopFrame := []
  (AtLoop s d c 0x00 r) ∧ ((s.core d c).vx.loops = f :: fs) ∧ ((s.core d c).vx.pos + 1 = f.first + BitVec.ofNat 64 f.len) ∧ (1 < f.left) := by decide +kernel

theorem wit_VectorCommandsInLoops_loopLast :
  let d : Fin 16 := 3
  let c : Fin 32 := 5
  let r : Run := { num := 5, word := cmdWord 0x00 (0), body := true, waited := false, busy := true, level := 2 }
  let s : State := loop5 { num := 5, word := cmdWord 0x00 (0), body := true, waited := false, busy := true, level := 2 } (fun x => { x with vx := { x.vx with loops := [{ loop := 4, first := 5, len := 1, left := 1, drv := none, csize := 512, chunk := 0 }] } })
  let f : LoopFrame := { loop := 4, first := 5, len := 1, left := 1, drv := none, csize := 512, chunk := 0 }
  (AtLoop s d c 0x00 r) ∧ ((s.core d c).vx.loops = [f]) ∧ ((s.core d c).vx.pos + 1 = f.first + BitVec.ofNat 64 f.len) ∧ (f.left ≤ 1) ∧ ((s.core d c).q1.run.all (fun b => b.status == 0 && b.gath.isEmpty) = true) := by decide +kernel

theorem wit_VectorCommandsInLoops_loopNop :
  let d : Fin 16 := 3
  let c : Fin 32 := 5
  let r : Run := { num := 5, word := cmdWord 0 (2^117 + 2^112), body := true, waited := false, busy := true, level := 2 }
  let s : State := loop5 { num := 5, word := cmdWord 0 (2^117 + 2^112), body := true, waited := false, busy := true, level := 2 } (fun x => { x with cmp := [(5, 0x00200000FFFFFFFF)] })
  (AtLoop s d c 0x00 r) ∧ (Within (s.core d c)) := by decide +kernel

theorem wit_VectorCommandsInLoops_loopCntSet :
  let d : Fin 16 := 3
  let c : Fin 32 := 5
  let r : Run := { num := 5, word := cmdWord 1 (3*2^94 + 7*2^91 + 77), body := true, waited := false, busy := true, level := 2 }
  let s : State := loop5 { num := 5, word := cmdWord 1 (3*2^94 + 7*2^91 + 77), body := true, waited := false, busy := true, level := 2 } (id)
  (AtLoop s d c 0x01 r) ∧ (Within (s.core d c)) := by decide +kernel

theorem wit_VectorCommandsInLoops_loopCntAdd :
  let d : Fin 16 := 3
  let c : Fin 32 := 5
  let r : Run := { num := 5, word := cmdWord 2 (3*2^94 + 7*2^91 + 0xFFFFFFFF), body := true, waited := false, busy := true, level := 2 }
  let s : State := loop5 { num := 5, word := cmdWord 2 (3*2^94 + 7*2^91 + 0xFFFFFFFF), body := true, waited := false, busy := true, level := 2 } (fun x => { x with cnt := [(31, 5)] })
  (AtLoop s d c 0x02 r) ∧ (Within (s.core d c)) := by decide +kernel

theorem wit_VectorCommandsInLoops_loopCmpSet :
  let d : Fin 16 := 3
  let c : Fin 32 := 5
  let r : Run := { num := 5, word := cmdWord 3 (3*2^94 + 0xFFFFFFFFFFFFFFFF), body := true, waited := false, busy := true, level := 2 }
  let s : State := loop5 { num := 5, word := cmdWord 3 (3*2^94 + 0xFFFFFFFFFFFFFFFF), body := true, waited := false, busy := true, level := 2 } (id)
  (AtLoop s d c 0x03 r) ∧ (Within (s.core d c)) := by decide +kernel

theorem wit_VectorCommandsInLoops_loopTqPush :
  let d : Fin 16 := 3
  let c : Fin 32 := 5
  let r : Run := { num := 5, word := cmdWord 4 (15*2^92 + 77), body := true, waited := false, busy := true, level := 2 }
  let s : State := loop5 { num := 5, word := cmdWord 4 (15*2^92 + 77), body := true, waited := false, busy := true, level := 2 } (id)
  (AtLoop s d c 0x04 r) ∧ (Within (s.core d c)) ∧ (handleOk (r.word.setWidth 64) = true) := by decide +kernel

theorem wit_VectorCommandsInLoops_loopAwaitGt :
  let d : Fin 16 := 3
  let c : Fin 32 := 5
  let r : Run := { num := 5, word := cmdWord 5 (2^95 + 1000), body := true, waited := false, busy := true, level := 2 }
  let s : State := { loop5 { num := 5, word := cmdWord 5 (2^95 + 1000), body := true, waited := false, busy := true, level := 2 } (id) with gt := { st := 1, base := 5000, at_ := 2 * tickS } }
  (AtLoop s d c 0x05 r) ∧ (Within (s.core d c)) ∧ (s.awaitLost d r.word = false) ∧ (¬ ((if bit r.word 95 then s.localGt d + r.word.setWidth 64 else r.word.setWidth 64) < s.localGt d)) := by decide +kernel

theorem wit_VectorCommandsInLoops_loopAwaitGtLate :
  let d : Fin 16 := 3
  let c : Fin 32 := 5
  let r : Run := { num := 5, word := cmdWord 5 1000, body := true, waited := false, busy := true, level := 2 }
  let s : State := { loop5 { num := 5, word := cmdWord 5 1000, body := true, waited := false, busy := true, level := 2 } (id) with gt := { st := 1, base := 5000, at_ := 2 * tickS } }
  (AtLoop s d c 0x05 r) ∧ (Within (s.core d c)) ∧ (s.awaitLost d r.word = false) ∧ (awaitLateFail r.word = false) ∧ ((if bit r.word 95 then s.localGt d + r.word.setWidth 64 else r.word.setWidth 64) < s.localGt d) := by decide +kernel

theorem wit_VectorCommandsInLoops_loopHalt :
  let d : Fin 16 := 3
  let c : Fin 32 := 5
  let r : Run := { num := 5, word := cmdWord 7 0, body := true, waited := false, busy := true, level := 2 }
  let s : State := loop5 { num := 5, word := cmdWord 7 0, body := true, waited := false, busy := true, level := 2 } (id)
  (AtLoop s d c 0x07 r) ∧ (Within (s.core d c)) := by decide +kernel

theorem wit_VectorCommandsInLoops_loopSig0 :
  let d : Fin 16 := 3
  let c : Fin 32 := 5
  let r : Run := { num := 5, word := cmdWord 6 (0xFFFF * 2^80 + 2^71 + 2^68 + 5*2^65 + 9), body := true, waited := false, busy := true, level := 2 }
  let s : State := loop5 { num := 5, word := cmdWord 6 (0xFFFF * 2^80 + 2^71 + 2^68 + 5*2^65 + 9), body := true, waited := false, busy := true, level := 2 } (id)
  (AtLoop s d c 0x06 r) ∧ (Within (s.core d c)) ∧ (s.ownModule (bits r.word 95 80) = true) ∧ (s.fenced = false) ∧ (s.moduleId < 2 ^ 16) ∧ (s.epoch < 2 ^ 32) := by decide +kernel

theorem wit_QueueRegistersWork_qTailWrite :
  let d : Fin 16 := 3
  let c : Fin 32 := 5
  let e : Fin 3 := 2
  let v : BitVec 32 := 64
  let s : State := up
  (TablesRise s) ∧ (Reachable s d c) ∧ (s.hostWriteHeld = false) ∧ ((v - ((s.core d c).q e).head).toNat ≤ 2 ^ ((s.core d c).q e).size.toNat ∨ ((s.core d c).q e).halt ≠ none) := by decide +kernel

theorem wit_QueueRegistersWork_qTailOverrun :
  let d : Fin 16 := 3
  let c : Fin 32 := 5
  let e : Fin 3 := 1
  let v : BitVec 32 := 65
  let s : State := up
  (TablesRise s) ∧ (Reachable s d c) ∧ (s.hostWriteHeld = false) ∧ (2 ^ ((s.core d c).q e).size.toNat < (v - ((s.core d c).q e).head).toNat) ∧ (((s.core d c).q e).halt = none) := by decide +kernel

theorem wit_QueueRegistersWork_qTailOrdered :
  let s : State := { up with host := { up.host with ordered := [(0, .irq 0 0)] } }
  (s.hostWriteHeld = true) := by decide +kernel

theorem wit_QueueRegistersWork_queueConfigBase :
  let d : Fin 16 := 3
  let c : Fin 32 := 5
  let e : Fin 3 := 1
  let v : BitVec 64 := 0xF00000000001000
  let s : State := up
  (TablesRise s) ∧ (Reachable s d c) ∧ (ringBaseOk (v.toNat % 2 ^ 44) = true) ∧ (((s.core d c).q e).enable = false) ∧ (((s.core d c).q e).acc = []) ∧ (((s.core d c).q e).run = []) := by decide +kernel

theorem wit_QueueRegistersWork_queueConfigSize :
  let d : Fin 16 := 3
  let c : Fin 32 := 5
  let e : Fin 3 := 1
  let v : BitVec 64 := 16
  let s : State := up
  (TablesRise s) ∧ (Reachable s d c) ∧ (6 ≤ v.toNat % 2 ^ 32) ∧ (v.toNat % 2 ^ 32 ≤ 16) ∧ (((s.core d c).q e).enable = false) ∧ (((s.core d c).q e).acc = []) ∧ (((s.core d c).q e).run = []) := by decide +kernel

theorem wit_QueueRegistersWork_queueConfigCBase :
  let d : Fin 16 := 3
  let c : Fin 32 := 5
  let e : Fin 3 := 1
  let v : BitVec 64 := 0xF00080000001000
  let s : State := up
  (TablesRise s) ∧ (Reachable s d c) ∧ (v.toNat % 4096 = 0) ∧ (regionOf (v.toNat % 2 ^ 44) ≠ .hole) ∧ (((s.core d c).q e).enable = false) ∧ (((s.core d c).q e).acc = []) ∧ (((s.core d c).q e).run = []) := by decide +kernel

theorem wit_QueueRegistersWork_queueConfigCSize :
  let d : Fin 16 := 3
  let c : Fin 32 := 5
  let e : Fin 3 := 1
  let v : BitVec 64 := 16
  let s : State := up
  (TablesRise s) ∧ (Reachable s d c) ∧ (v.toNat % 2 ^ 32 = 0 ∨ 6 ≤ v.toNat % 2 ^ 32) ∧ (v.toNat % 2 ^ 32 ≤ 16) ∧ (((s.core d c).q e).enable = false) ∧ (((s.core d c).q e).acc = []) ∧ (((s.core d c).q e).run = []) := by decide +kernel

theorem wit_QueueRegistersWork_queueConfigIllegal :
  let d : Fin 16 := 3
  let c : Fin 32 := 5
  let reg : QCfgReg := .qSize
  let v : BitVec 64 := 5
  let s : State := up
  (Reachable s d c) ∧ (cfgOk reg (if reg = .qSize ∨ reg = .cSize then v.toNat % 2 ^ 32 else v.toNat) = false) := by decide +kernel

theorem wit_QueueRegistersWork_queueConfigIgnored :
  let d : Fin 16 := 3
  let c : Fin 32 := 5
  let e : Fin 3 := 1
  let s : State := ready 1 (cmd5 0 0)
  (Reachable s d c) ∧ (((s.core d c).q e).enable = true) := by decide +kernel

theorem wit_QueueRegistersWork_qCtrlEnable :
  let d : Fin 16 := 3
  let c : Fin 32 := 5
  let s : State := up
  (TablesRise s) ∧ (Reachable s d c) := by decide +kernel

theorem wit_QueueRegistersWork_qCtrlResume :
  let d : Fin 16 := 3
  let c : Fin 32 := 5
  let e : Fin 3 := 2
  let s : State := onCore 3 5 (fun x => { x with q2 := { halt := some .fault } })
  (TablesRise s) ∧ (Reachable s d c) ∧ (((s.core d c).q e).halt = some .cmd ∨ ((s.core d c).q e).halt = some .req ∨ (((s.core d c).q e).halt = some .fault ∧ (s.core d c).faultCause e = 0)) := by decide +kernel

theorem wit_QueueRegistersWork_qCtrlResumeHeld :
  let d : Fin 16 := 3
  let c : Fin 32 := 5
  let e : Fin 3 := 2
  let s : State := onCore 3 5 (fun x => { x with q2 := { halt := some .fault }, mvFault := 0x100000000000000 })
  (Reachable s d c) ∧ (((s.core d c).q e).halt = none ∨ ((s.core d c).q e).halt = some .sync ∨ (((s.core d c).q e).halt = some .fault ∧ (s.core d c).faultCause e ≠ 0)) ∧ (TablesRise s) := by decide +kernel

theorem wit_QueueRegistersWork_qCtrlDiscard :
  let d : Fin 16 := 3
  let c : Fin 32 := 5
  let e : Fin 3 := 2
  let s : State := onCore 3 5 (fun x => { x with q2 := { acc := [cmd5 0 0], tail := 7 } })
  (TablesRise s) ∧ (Reachable s d c) ∧ (((s.core d c).q e).halt ≠ none ∨ ((s.core d c).q e).enable = false) := by decide +kernel

theorem wit_QueueRegistersWork_qCtrlDiscardRunning :
  let d : Fin 16 := 3
  let c : Fin 32 := 5
  let e : Fin 3 := 2
  let s : State := ready 2 (cmd5 0 0)
  (Reachable s d c) ∧ (((s.core d c).q e).halt = none) ∧ (((s.core d c).q e).enable = true) := by decide +kernel

theorem wit_QueueRegistersWork_qCtrlHalt :
  let d : Fin 16 := 3
  let c : Fin 32 := 5
  let e : Fin 3 := 1
  let s : State := ready 1 (cmd5 0 0)
  (TablesRise s) ∧ (Reachable s d c) ∧ (((s.core d c).q e).halt = none) := by decide +kernel

theorem wit_QueueRegistersWork_qCtrlHaltHalted :
  let d : Fin 16 := 3
  let c : Fin 32 := 5
  let e : Fin 3 := 2
  let s : State := onCore 3 5 (fun x => { x with q2 := { halt := some .fault } })
  (Reachable s d c) ∧ (((s.core d c).q e).halt ≠ none) := by decide +kernel

theorem wit_CommandsFetchAndComplete_commandFetch_1 :
  let d : Fin 16 := 3
  let c : Fin 32 := 5
  let e : Fin 3 := 0
  let s : State := (onCore 3 5 (fun x => { x with q0 := { enable := true, tail := 65, head := 63, base := 0x1000 } })).putBytes 3 (0x1000 + 63 * 16) [1, 2, 3]
  (TablesRise s) ∧ (s.mayFetch d c e = true) ∧ (((s.core d c).q e).overrun = false) ∧ (fetchable (regionSpan (((s.core d c).q e).slotAddr ((s.core d c).q e).head.toNat) 16) = true) ∧ (s.badIn d (((s.core d c).q e).slotAddr ((s.core d c).q e).head.toNat) 16 = false) := by decide +kernel

theorem wit_CommandsFetchAndComplete_commandFetch_2 :
  let d : Fin 16 := 3
  let c : Fin 32 := 5
  let e : Fin 3 := 1
  let s : State := store5 (onCore 3 5 (fun x => { x with q1 := { enable := true, tail := 65, head := 64, base := BitVec.ofNat 64 (lsAddr 5 0x1000) } })) 0x1000 [1, 2, 3]
  (TablesRise s) ∧ (s.mayFetch d c e = true) ∧ (((s.core d c).q e).overrun = false) ∧ (fetchable (regionSpan (((s.core d c).q e).slotAddr ((s.core d c).q e).head.toNat) 16) = true) ∧ (s.badIn d (((s.core d c).q e).slotAddr ((s.core d c).q e).head.toNat) 16 = false) := by decide +kernel

theorem wit_CommandsFetchAndComplete_commandFetchHole :
  let d : Fin 16 := 3
  let c : Fin 32 := 5
  let e : Fin 3 := 0
  let s : State := onCore 3 5 (fun x => { x with q0 := { enable := true, tail := 1, base := 0x7000000000 } })
  (TablesRise s) ∧ (s.mayFetch d c e = true) ∧ (((s.core d c).q e).overrun = false) ∧ (fetchable (regionSpan (((s.core d c).q e).slotAddr ((s.core d c).q e).head.toNat) 16) = false) := by decide +kernel

theorem wit_CommandsFetchAndComplete_commandFetchPoison :
  let d : Fin 16 := 3
  let c : Fin 32 := 5
  let e : Fin 3 := 0
  let s : State := { onCore 3 5 (fun x => { x with q0 := { enable := true, tail := 65, head := 63, base := 0x1000 } }) with badBursts := [memKey 3 (0x1000 + 63 * 16) / 32] }
  (TablesRise s) ∧ (s.mayFetch d c e = true) ∧ (((s.core d c).q e).overrun = false) ∧ (fetchable (regionSpan (((s.core d c).q e).slotAddr ((s.core d c).q e).head.toNat) 16) = true) ∧ (s.badIn d (((s.core d c).q e).slotAddr ((s.core d c).q e).head.toNat) 16 = true) := by decide +kernel

theorem wit_CommandsFetchAndComplete_commandFetchOverrun :
  let d : Fin 16 := 3
  let c : Fin 32 := 5
  let e : Fin 3 := 0
  let s : State := onCore 3 5 (fun x => { x with q0 := { enable := true, tail := 65 } })
  (TablesRise s) ∧ (s.mayFetch d c e = true) ∧ (((s.core d c).q e).overrun = true) := by decide +kernel

theorem wit_CommandsFetchAndComplete_completionOk :
  let d : Fin 16 := 3
  let c : Fin 32 := 5
  let e : Fin 3 := 1
  let num : BitVec 64 := 5
  let r : Run := { num := 5, word := cmdWord 0x23 (2^105 + 2^103 + 3*2^100), flags := 9 }
  let s : State := onCore 3 5 (fun x => { x with q1 := { enable := true, run := [{ num := 5, word := cmdWord 0x23 (2^105 + 2^103 + 3*2^100), flags := 9 }, { num := 6, word := 0 }] } })
  (TablesRise s) ∧ (CoreRises (s.core d c)) ∧ (Completing s d c e num r) ∧ (r.status = 0) ∧ (cmdOp r.word ≠ 0x07) ∧ (cmdIrq r.word = false) ∧ (((s.core d c).q e).cSize = 0) := by decide +kernel

theorem wit_CommandsFetchAndComplete_completionHandle :
  let d : Fin 16 := 3
  let c : Fin 32 := 5
  let e : Fin 3 := 0
  let num : BitVec 64 := 5
  let r : Run := { num := 5, word := cmdWord 0x13 (2^110 + 3*2^106), slot := true, tiles := [4, 6] }
  let s : State := onCore 3 5 (fun x => { x with tq := [(3, { slots := [⟨0, 5, none, false⟩] })], q0 := { enable := true, run := [{ num := 5, word := cmdWord 0x13 (2^110 + 3*2^106), slot := true, tiles := [4, 6] }] } })
  (TablesRise s) ∧ (CoreRises (s.core d c)) ∧ (Completing s d c e num r) ∧ (r.slot = true) ∧ (((s.core d c).q e).cSize = 0) := by decide +kernel

theorem wit_CommandsFetchAndComplete_completionRecord :
  let d : Fin 16 := 3
  let c : Fin 32 := 5
  let e : Fin 3 := 0
  let num : BitVec 64 := 5
  let r : Run := { num := 5, word := cmdWord 0x13 0, flags := 9 }
  let s : State := onCore 3 5 (fun x => { x with q0 := { enable := true, cBase := 0x2000, cSize := 6, cTail := 3, run := [{ num := 5, word := cmdWord 0x13 0, flags := 9 }] } })
  (TablesRise s) ∧ (CoreRises (s.core d c)) ∧ (Completing s d c e num r) ∧ (Memory.wf s.mem = true) ∧ (s.dieRuns d = true) ∧ (((s.core d c).q e).cSize ≠ 0) ∧ (((s.core d c).q e).cTail - ((s.core d c).q e).cHead ≠ BitVec.ofNat 32 (2 ^ ((s.core d c).q e).cSize.toNat)) ∧ (fetchable (regionSpan (((s.core d c).q e).cBase.toNat % 2 ^ 44 + 16 * (((s.core d c).q e).cTail.toNat % 2 ^ ((s.core d c).q e).cSize.toNat)) 16) = true) ∧ ((regionCore (regionSpan (((s.core d c).q e).cBase.toNat % 2 ^ 44 + 16 * (((s.core d c).q e).cTail.toNat % 2 ^ ((s.core d c).q e).cSize.toNat)) 16)).all (fun k => !s.coreOut d k && !s.substituting d k) = true) := by decide +kernel

theorem wit_CommandsFetchAndComplete_completionLost :
  let d : Fin 16 := 3
  let c : Fin 32 := 5
  let e : Fin 3 := 0
  let num : BitVec 64 := 5
  let r : Run := { num := 5, word := cmdWord 0x13 0, flags := 9 }
  let s : State := onCore 3 5 (fun x => { x with q0 := { enable := true, cBase := 0x2000, cSize := 6, cTail := 67, cHead := 3, cLost := 4, run := [{ num := 5, word := cmdWord 0x13 0, flags := 9 }] } })
  (TablesRise s) ∧ (CoreRises (s.core d c)) ∧ (Completing s d c e num r) ∧ (((s.core d c).q e).cSize ≠ 0) ∧ (((s.core d c).q e).cTail - ((s.core d c).q e).cHead = BitVec.ofNat 32 (2 ^ ((s.core d c).q e).cSize.toNat)) := by decide +kernel

theorem wit_CommandsFetchAndComplete_completionIrq :
  let d : Fin 16 := 3
  let c : Fin 32 := 5
  let e : Fin 3 := 2
  let num : BitVec 64 := 5
  let r : Run := { num := 5, word := cmdWord 0x44 (2^118) }
  let s : State := onCore 3 5 (fun x => { x with q2 := { enable := true, irq := 0xC0000007, run := [{ num := 5, word := cmdWord 0x44 (2^118) }] } })
  (TablesRise s) ∧ (CoreRises (s.core d c)) ∧ (Completing s d c e num r) ∧ (r.status = 0) ∧ (cmdOp r.word ≠ 0x07) ∧ (cmdIrq r.word = true) ∧ (((s.core d c).q e).cSize = 0) := by decide +kernel

theorem wit_CommandsFetchAndComplete_completionLevel1 :
  let d : Fin 16 := 3
  let c : Fin 32 := 5
  let e : Fin 2 := 0
  let num : BitVec 64 := 5
  let r : Run := { num := 5, word := cmdWord 0x13 0, tiles := [4], level := 1 }
  let s : State := (onCore 3 5 (fun x => { x with q0 := { enable := true, run := [{ num := 5, word := cmdWord 0x13 0, tiles := [4], level := 1 }] } })).setTile 3 (lsAddr 5 0x4000) { tag := 0x0005000000000000, st := .open }
  (TablesRise s) ∧ (CoreRises (s.core d c)) ∧ ((s.core d c).findRun e num = some r) ∧ (mayComplete ((s.core d c).q e) e r = true) ∧ (((s.core d c).next e).all (fun k => k.num != num) = true) ∧ (e.val = 1 → (s.core d c).vx.loops = []) ∧ (e.val = 0 → (s.core d c).mx.waiting = [] ∧ s.host.ordered = []) ∧ (Quiet s d) ∧ (r.status = 0) ∧ (r.level = 1) ∧ (r.ins.all (fun τ => r.tiles.contains τ || (s.verify d (lsAddr c (4096 * τ)) 1).isNone) = true) ∧ (r.tiles.all (fun τ => decide (τ < 2048)) = true) ∧ (cmdIrq r.word = false) ∧ (((s.core d c).q e).cSize = 0) := by
  repeat' apply And.intro
  all_goals first | decide +kernel

theorem wit_CommandsFetchAndComplete_completionHalts :
  let d : Fin 16 := 3
  let c : Fin 32 := 5
  let e : Fin 3 := 2
  let num : BitVec 64 := 5
  let r : Run := { num := 5, word := cmdWord 0x40 (2^105), status := 7 }
  let s : State := onCore 3 5 (fun x => { x with q2 := { enable := true, run := [{ num := 5, word := cmdWord 0x40 (2^105), status := 7 }] } })
  (TablesRise s) ∧ (CoreRises (s.core d c)) ∧ (Completing s d c e num r) ∧ (r.status ≠ 0) ∧ (((s.core d c).q e).halt = none) ∧ (((s.core d c).q e).cSize = 0) := by decide +kernel

theorem wit_CommonCommandsRun_nop :
  let d : Fin 16 := 3
  let c : Fin 32 := 5
  let e : Fin 3 := 2
  let k : Cmd := cmd5 0 (2^117 + 2^112 + 2^110 + 3*2^106)
  let s : State := ready 2 (cmd5 0 (2^117 + 2^112 + 2^110 + 3*2^106))
  (Issues s d c e 0x00 k) := by decide +kernel

theorem wit_CommonCommandsRun_waitPopsTheHead :
  let d : Fin 16 := 3
  let c : Fin 32 := 5
  let e : Fin 3 := 2
  let k : Cmd := cmd5 0 (2^116 + 3*2^112)
  let h : BitVec 64 := 9
  let s : State := ready 2 (cmd5 0 (2^116 + 3*2^112)) (fun x => { x with tq := [(3, { slots := [⟨4, 0, some 9, false⟩, ⟨4, 0, some 7, false⟩] })] })
  (Issues s d c e 0x00 k) ∧ (cmdWait k.word = 1) ∧ (cmdSigTq k.word = false) ∧ (tqHead ((s.core d c).tileQueue (cmdWsel k.word)) = some h) := by decide +kernel

theorem wit_CommonCommandsRun_waitStepsTheComparator :
  let d : Fin 16 := 3
  let c : Fin 32 := 5
  let e : Fin 3 := 2
  let k : Cmd := cmd5 0 (2^117 + 2^112)
  let s : State := ready 2 (cmd5 0 (2^117 + 2^112)) (fun x => { x with cmp := [(9, 0x00200000FFFFFFFF)] })
  (Issues s d c e 0x00 k) ∧ (cmdWait k.word = 2) := by decide +kernel

theorem wit_CommonCommandsRun_cntSet :
  let d : Fin 16 := 3
  let c : Fin 32 := 5
  let e : Fin 3 := 2
  let k : Cmd := cmd5 1 (3*2^94 + 7*2^91 + 77)
  let s : State := ready 2 (cmd5 1 (3*2^94 + 7*2^91 + 77))
  (Issues s d c e 0x01 k) := by decide +kernel

theorem wit_CommonCommandsRun_cntAdd :
  let d : Fin 16 := 3
  let c : Fin 32 := 5
  let e : Fin 3 := 0
  let k : Cmd := cmd5 2 (7*2^91 + 0xFFFFFFFF)
  let s : State := ready 0 (cmd5 2 (7*2^91 + 0xFFFFFFFF)) (fun x => { x with cnt := [(7, 5)] })
  (Issues s d c e 0x02 k) := by decide +kernel

theorem wit_CommonCommandsRun_cmpSet_1 :
  let d : Fin 16 := 3
  let c : Fin 32 := 5
  let e : Fin 3 := 1
  let k : Cmd := cmd5 3 (3*2^94 + 0xFFFFFFFFFFFFFFFF)
  let s : State := ready 1 (cmd5 3 (3*2^94 + 0xFFFFFFFFFFFFFFFF))
  (Issues s d c e 0x03 k) := by decide +kernel

theorem wit_CommonCommandsRun_cmpSet_2 :
  let d : Fin 16 := 3
  let c : Fin 32 := 5
  let e : Fin 3 := 1
  let k : Cmd := cmd5 3 (3*2^94 + 2^117 + 2^112 + 7)
  let s : State := ready 1 (cmd5 3 (3*2^94 + 2^117 + 2^112 + 7)) (fun x => { x with cmp := [(5, 0x00200000FFFFFFFF)] })
  (Issues s d c e 0x03 k) := by decide +kernel

theorem wit_CommonCommandsRun_tqPush_1 :
  let d : Fin 16 := 3
  let c : Fin 32 := 5
  let e : Fin 3 := 1
  let k : Cmd := cmd5 4 (15*2^92 + 77)
  let s : State := ready 1 (cmd5 4 (15*2^92 + 77))
  (Issues s d c e 0x04 k) ∧ (handleOk (k.word.setWidth 64) = true) := by decide +kernel

theorem wit_CommonCommandsRun_tqPush_2 :
  let d : Fin 16 := 3
  let c : Fin 32 := 5
  let e : Fin 3 := 1
  let k : Cmd := cmd5 4 (15*2^92 + 77 + 2^110 + 15*2^106)
  let s : State := ready 1 (cmd5 4 (15*2^92 + 77 + 2^110 + 15*2^106))
  (Issues s d c e 0x04 k) ∧ (handleOk (k.word.setWidth 64) = true) := by decide +kernel

theorem wit_CommonCommandsRun_tqPushBadHandle :
  let d : Fin 16 := 3
  let c : Fin 32 := 5
  let e : Fin 3 := 1
  let k : Cmd := cmd5 4 (15*2^92 + 5*2^44 + 77)
  let s : State := ready 1 (cmd5 4 (15*2^92 + 5*2^44 + 77))
  (Issues s d c e 0x04 k) ∧ (handleOk (k.word.setWidth 64) = false) := by decide +kernel

theorem wit_CommonCommandsRun_awaitGt :
  let d : Fin 16 := 3
  let c : Fin 32 := 5
  let e : Fin 3 := 2
  let k : Cmd := cmd5 5 (2^95 + 1000)
  let s : State := { ready 2 (cmd5 5 (2^95 + 1000)) with gt := { st := 1, base := 5000, at_ := 2 * tickS } }
  (Issues s d c e 0x05 k) ∧ (s.awaitLost d k.word = false) ∧ (¬ ((if bit k.word 95 then s.localGt d + k.word.setWidth 64 else k.word.setWidth 64) < s.localGt d)) := by decide +kernel

theorem wit_CommonCommandsRun_awaitGtLate :
  let d : Fin 16 := 3
  let c : Fin 32 := 5
  let e : Fin 3 := 2
  let k : Cmd := cmd5 5 1000
  let s : State := { ready 2 (cmd5 5 1000) with gt := { st := 1, base := 5000, at_ := 2 * tickS } }
  (Issues s d c e 0x05 k) ∧ (s.awaitLost d k.word = false) ∧ ((if bit k.word 95 then s.localGt d + k.word.setWidth 64 else k.word.setWidth 64) < s.localGt d) := by decide +kernel

theorem wit_CommonCommandsRun_awaitGtLost :
  let d : Fin 16 := 3
  let c : Fin 32 := 5
  let e : Fin 3 := 2
  let k : Cmd := cmd5 5 1000
  let s : State := ready 2 (cmd5 5 1000)
  (Issues s d c e 0x05 k) ∧ (s.gtState d = 0 ∨ (awaitStrict k.word = true ∧ s.gtValid d = false)) := by decide +kernel

theorem wit_CommonCommandsRun_awaitGtFire :
  let d : Fin 16 := 3
  let c : Fin 32 := 5
  let e : Fin 3 := 2
  let num : BitVec 64 := 5
  let r : Run := { num := 5, word := cmdWord 5 0, target := 900, awaits := [.gt] }
  let s : State := { onCore 3 5 (fun x => { x with q2 := { enable := true, run := [{ num := 5, word := cmdWord 5 0, target := 900, awaits := [.gt] }] } }) with gt := { st := 1, base := 5000, at_ := 2 * tickS } }
  (TablesRise s) ∧ (CoreRises (s.core d c)) ∧ ((s.core d c).findRun e num = some r) ∧ (r.awaits.contains .gt = true) ∧ (s.awaitLost d r.word = false) ∧ (s.gt.hold = none) ∧ (r.target ≤ s.localGt d) ∧ (e.val = 1 → (s.core d c).vx.loops = [] ∨ (s.core d c).vx.pos ≠ num) := by decide +kernel

theorem wit_CommonCommandsRun_awaitGtFireLost :
  let d : Fin 16 := 3
  let c : Fin 32 := 5
  let e : Fin 3 := 2
  let num : BitVec 64 := 5
  let r : Run := { num := 5, word := cmdWord 5 0, target := 900, awaits := [.gt] }
  let s : State := onCore 3 5 (fun x => { x with q2 := { enable := true, run := [{ num := 5, word := cmdWord 5 0, target := 900, awaits := [.gt] }] } })
  (TablesRise s) ∧ (CoreRises (s.core d c)) ∧ ((s.core d c).findRun e num = some r) ∧ (r.awaits.contains .gt = true) ∧ (s.gtState d = 0 ∨ (awaitStrict r.word = true ∧ s.gtValid d = false)) ∧ (e.val = 1 → (s.core d c).vx.loops = [] ∨ (s.core d c).vx.pos ≠ num) := by decide +kernel

theorem wit_CommonCommandsRun_awaitGtFireInLoop :
  let d : Fin 16 := 3
  let c : Fin 32 := 5
  let num : BitVec 64 := 5
  let r : Run := { num := 5, word := cmdWord 5 0, body := true, waited := true, busy := true, target := 900, awaits := [.gt] }
  let s : State := { loop5 { num := 5, word := cmdWord 5 0, body := true, waited := true, busy := true, target := 900, awaits := [.gt] } id with gt := { st := 1, base := 5000, at_ := 2 * tickS } }
  (TablesRise s) ∧ (CoreRises (s.core d c)) ∧ ((s.core d c).findRun 1 num = some r) ∧ (r.awaits.contains .gt = true) ∧ (r.status = 0) ∧ (s.awaitLost d r.word = false) ∧ (s.gt.hold = none) ∧ (r.target ≤ s.localGt d) ∧ ((s.core d c).vx.loops ≠ []) ∧ ((s.core d c).vx.pos = num) ∧ (Within (s.core d c)) := by
  repeat' apply And.intro
  all_goals first | decide +kernel

theorem wit_CommonCommandsRun_halt :
  let d : Fin 16 := 3
  let c : Fin 32 := 5
  let e : Fin 3 := 1
  let k : Cmd := cmd5 7 0
  let s : State := ready 1 (cmd5 7 0)
  (Issues s d c e 0x07 k) := by decide +kernel

theorem wit_CommonCommandsRun_haltCompletes :
  let d : Fin 16 := 3
  let c : Fin 32 := 5
  let e : Fin 3 := 2
  let num : BitVec 64 := 5
  let r : Run := { num := 5, word := cmdWord 7 0 }
  let s : State := onCore 3 5 (fun x => { x with q2 := { enable := true, run := [{ num := 5, word := cmdWord 7 0 }] } })
  (TablesRise s) ∧ (CoreRises (s.core d c)) ∧ (Completing s d c e num r) ∧ (r.status = 0) ∧ (cmdOp r.word = 0x07) ∧ (((s.core d c).q e).halt = none) ∧ (((s.core d c).q e).cSize = 0) := by decide +kernel

theorem wit_CommonCommandsRun_sig0 :
  let d : Fin 16 := 3
  let c : Fin 32 := 5
  let e : Fin 3 := 1
  let k : Cmd := cmd5 6 (0xFFFF * 2^80 + 2^71 + 2^68 + 5*2^65 + 9)
  let s : State := ready 1 (cmd5 6 (0xFFFF * 2^80 + 2^71 + 2^68 + 5*2^65 + 9))
  (Issues s d c e 0x06 k) ∧ (s.ownModule (bits k.word 95 80) = true) ∧ (s.fenced = false) ∧ (s.moduleId < 2 ^ 16) ∧ (s.epoch < 2 ^ 32) := by decide +kernel

theorem wit_CommonCommandsRun_sig0NoId :
  let d : Fin 16 := 3
  let c : Fin 32 := 5
  let e : Fin 3 := 1
  let k : Cmd := cmd5 6 (0x1234 * 2^80 + 2^71 + 2^68 + 5*2^65 + 9)
  let s : State := ready 1 (cmd5 6 (0x1234 * 2^80 + 2^71 + 2^68 + 5*2^65 + 9))
  (Issues s d c e 0x06 k) ∧ (s.ownModule (bits k.word 95 80) = false) ∧ (s.hasId = false) := by decide +kernel

theorem wit_CommonCommandsRun_sig0NoRoute :
  let d : Fin 16 := 3
  let c : Fin 32 := 5
  let e : Fin 3 := 1
  let k : Cmd := cmd5 6 (0x1234 * 2^80 + 2^71 + 2^68 + 5*2^65 + 9)
  let s : State := (ready 1 (cmd5 6 (0x1234 * 2^80 + 2^71 + 2^68 + 5*2^65 + 9))).setObj 0x5000 1 77
  (Issues s d c e 0x06 k) ∧ (s.ownModule (bits k.word 95 80) = false) ∧ (s.hasId = true) ∧ (routeValid (s.routeAt (homeLight d) (bits k.word 95 80)) = false) := by decide +kernel

theorem wit_CommonCommandsRun_sig0Remote :
  let d : Fin 16 := 3
  let c : Fin 32 := 5
  let e : Fin 3 := 1
  let k : Cmd := cmd5 6 (0x1234 * 2^80 + 2^71 + 2^68 + 5*2^65 + 9)
  let s : State := (let z := (ready 1 (cmd5 6 (0x1234 * 2^80 + 2^71 + 2^68 + 5*2^65 + 9))).setObj 0x5000 1 77; { z with fab := { z.fab with routes := [(0x1234, 1 <<< 127)] } })
  (Issues s d c e 0x06 k) ∧ (s.ownModule (bits k.word 95 80) = false) ∧ (s.hasId = true) ∧ (routeValid (s.routeAt (homeLight d) (bits k.word 95 80)) = true) := by decide +kernel

theorem wit_CommonCommandsRun_loopGoesBack :
  let d : Fin 16 := 3
  let c : Fin 32 := 5
  let f : LoopFrame := { loop := 5, first := 6, len := 1, left := 2, drv := none }
  let r : Run := { num := 6, word := 0, body := true, busy := true }
  let n : Nat := 0
  let s : State := onCore 3 5 (fun x => { x with q1 := { enable := true, run := [{ num := 5, word := cmdWord 0x2A 0, busy := true }, { num := 6, word := 0, body := true, busy := true }] }, vx := { x.vx with loops := [{ loop := 5, first := 6, len := 1, left := 2, drv := none }], pos := 6 } })
  (TablesRise s) ∧ (Reachable s d c) ∧ ((s.core d c).vx.loops = [f]) ∧ ((s.core d c).findRun 1 (s.core d c).vx.pos = some r) ∧ (cmdOp r.word = 0x00) ∧ ((s.core d c).q1.enable = true) ∧ ((s.core d c).q1.halt = none) ∧ (r.awaits = []) ∧ (r.status = 0) ∧ (r.waited = true) ∧ ((s.core d c).vx.pos + 1 = f.first + BitVec.ofNat 64 f.len) ∧ (f.left = n + 2) ∧ (f.drv = none) := by
  repeat' apply And.intro
  all_goals first | decide +kernel

theorem wit_TidyCoreRegistersWork_tqPushWrite_1 :
  let d : Fin 16 := 3
  let c : Fin 32 := 5
  let s : State := up
  (TablesRise s) ∧ (CoreRises (s.core d c)) ∧ (Reachable s d c) ∧ (s.hostWriteHeld = false) := by decide +kernel

theorem wit_TidyCoreRegistersWork_tqPushWrite_2 :
  let d : Fin 16 := 3
  let c : Fin 32 := 5
  let s : State := onCore 3 5 (fun x => { x with tq := [(0, { slots := List.replicate 64 ⟨4, 0, some 7, false⟩, lost := 255 })] })
  (TablesRise s) ∧ (CoreRises (s.core d c)) ∧ (Reachable s d c) ∧ (s.hostWriteHeld = false) := by decide +kernel

theorem wit_TidyCoreRegistersWork_tqPopRead_1 :
  let d : Fin 16 := 3
  let c : Fin 32 := 5
  let s : State := up
  (TablesRise s) ∧ (CoreRises (s.core d c)) ∧ (Reachable s d c) := by decide +kernel

theorem wit_TidyCoreRegistersWork_tqPopRead_2 :
  let d : Fin 16 := 3
  let c : Fin 32 := 5
  let s : State := onCore 3 5 (fun x => { x with tq := [(0, { slots := [⟨4, 0, some 7, false⟩, ⟨0, 1, none, false⟩] })] })
  (TablesRise s) ∧ (CoreRises (s.core d c)) ∧ (Reachable s d c) := by decide +kernel

theorem wit_TidyCoreRegistersWork_mvFaultClear :
  let d : Fin 16 := 3
  let c : Fin 32 := 5
  let s : State := onCore 3 5 (fun x => { x with mvFault := 8, mvFaultAddr := 9 })
  (TablesRise s) ∧ (Reachable s d c) := by decide +kernel

theorem wit_TidyCoreRegistersWork_tcRun :
  let d : Fin 16 := 3
  let c : Fin 32 := 5
  let s : State := onCore 3 5 (fun x => { x with tc := { pc := 64 } })
  (TablesRise s) ∧ (Reachable s d c) ∧ ((s.core d c).tc.runBit = false) ∧ ((s.core d c).tc.st ≠ .lockstep) := by decide +kernel

theorem wit_TidyCoreRegistersWork_tcRunStop :
  let d : Fin 16 := 3
  let c : Fin 32 := 5
  let s : State := onCore 3 5 (fun x => { x with tc := { pc := 64, st := .wfi, runBit := true } })
  (TablesRise s) ∧ (Reachable s d c) ∧ ((s.core d c).tc.st ≠ .lockstep) := by decide +kernel

theorem wit_TidyCoreRegistersWork_tcStep :
  let d : Fin 16 := 3
  let c : Fin 32 := 5
  let s : State := up
  (TablesRise s) ∧ (Reachable s d c) := by decide +kernel

theorem wit_TidyCoreRegistersWork_tcDoorbell :
  let d : Fin 16 := 3
  let c : Fin 32 := 5
  let s : State := up
  (TablesRise s) ∧ (Reachable s d c) := by decide +kernel

theorem wit_TidyCoreRegistersWork_tcIrqPendW1c :
  let d : Fin 16 := 3
  let c : Fin 32 := 5
  let s : State := onCore 3 5 (fun x => { x with tc := { irqPend := 0x380 } })
  (TablesRise s) ∧ (Reachable s d c) := by decide +kernel

theorem wit_TidyCoreRegistersWork_tcCrcSrc :
  let d : Fin 16 := 3
  let c : Fin 32 := 5
  let s : State := up
  (TablesRise s) ∧ (Reachable s d c) := by decide +kernel

theorem wit_TidyCoreRegistersWork_tcCrcDone :
  let d : Fin 16 := 3
  let c : Fin 32 := 5
  let q : Nat := 1
  let since : Nat := 9
  let s : State := onCore 3 5 (fun x => { x with tc := { crcBusy := some (1, 9) } })
  (TablesRise s) ∧ ((s.core d c).tc.crcBusy = some (q, since)) ∧ (since + s.cycles d 32 ≤ s.time) ∧ (s.badIn d (lsAddr c (4096 * q)) 4096 = false) := by decide +kernel

theorem wit_TidyCoreRegistersWork_tcLockstepMismatch :
  let d : Fin 16 := 3
  let s : State := onCore 3 5 (fun x => { x with tc := { st := .running } })
  (TablesRise s) ∧ (s.dieRuns d = true) := by decide +kernel

theorem wit_TidyCoreRegistersWork_tcNoRetire :
  let d : Fin 16 := 3
  let c : Fin 32 := 5
  let s : State := onCore 3 5 (fun x => { x with tc := { st := .running } })
  (TablesRise s) ∧ ((s.core d c).tc.st = .running) ∧ ((s.core d c).tc.lastRetire + tickMs ≤ s.time) := by decide +kernel

theorem wit_TidyCoreRegistersWork_syncDeadlock :
  let d : Fin 16 := 3
  let c : Fin 32 := 5
  let s : State := ready 0 (cmd5 0 (2^116))
  (TablesRise s) ∧ (s.syncDead d c = true) := by decide +kernel

theorem wit_TidyCoreRegistersWork_smRelease :
  let d : Fin 16 := 3
  let c : Fin 32 := 5
  let s : State := onCore 3 5 (fun x => { x with sm := { fired := true, runBefore := true }, q1 := { halt := some .sync, beforeSync := some .req } })
  (TablesRise s) ∧ (Reachable s d c) ∧ ((s.core d c).sm.fired = true) := by decide +kernel

theorem wit_TidyCoreRegistersWork_hangWatchdog :
  let d : Fin 16 := 3
  let c : Fin 32 := 5
  let e : Fin 3 := 0
  let num : BitVec 64 := 5
  let r : Run := { num := 5, word := cmdWord 0x10 0, tiles := [7] }
  let s : State := onCore 3 5 (fun x => { x with q0 := { enable := true, run := [{ num := 5, word := cmdWord 0x10 0, tiles := [7] }] } })
  (TablesRise s) ∧ (CoreRises (s.core d c)) ∧ ((s.core d c).findRun e num = some r) ∧ (hangs s.time r = true) ∧ (r.busy = false) ∧ (r.tiles.all (fun τ => decide (τ < 2048)) = true) := by decide +kernel

theorem wit_TidyCoreRegistersWork_hangInLoop :
  let d : Fin 16 := 3
  let c : Fin 32 := 5
  let num : BitVec 64 := 5
  let r : Run := { num := 5, word := cmdWord 0x23 0, body := true, waited := true, busy := true }
  let s : State := loop5 { num := 5, word := cmdWord 0x23 0, body := true, waited := true, busy := true } id
  (TablesRise s) ∧ ((s.core d c).findRun 1 num = some r) ∧ (hangs s.time r = true) ∧ (r.busy = true) := by decide +kernel

theorem wit_TidyCoreRegistersWork_queueParityTileQueue :
  let d : Fin 16 := 3
  let c : Fin 32 := 5
  let s : State := up
  (TablesRise s) ∧ ((s.core d c).q0.halt = none) ∧ ((s.core d c).q1.halt = none) ∧ ((s.core d c).q2.halt = none) := by decide +kernel

theorem wit_TidyCoreRegistersWork_queueParityCounter :
  let d : Fin 16 := 3
  let c : Fin 32 := 5
  let s : State := up
  (TablesRise s) ∧ ((s.core d c).q0.halt = none) ∧ ((s.core d c).q1.halt = none) ∧ ((s.core d c).q2.halt = none) := by decide +kernel

theorem wit_TidyCoreRegistersWork_queueParityComparator :
  let d : Fin 16 := 3
  let c : Fin 32 := 5
  let s : State := up
  (TablesRise s) ∧ ((s.core d c).q0.halt = none) ∧ ((s.core d c).q1.halt = none) ∧ ((s.core d c).q2.halt = none) := by decide +kernel

theorem wit_TidyCoreRegistersWork_queueParityCommand :
  let s : State := ready 0 (cmd5 0 0)
  (TablesRise s) := by decide +kernel

theorem wit_TidyCoreRegistersWork_queueParityRing :
  let d : Fin 16 := 3
  let c : Fin 32 := 5
  let e : Fin 3 := 2
  let s : State := up
  (TablesRise s) ∧ (((s.core d c).q e).halt = none) := by decide +kernel

theorem wit_TidyCoreRegistersWork_queueParityMove :
  let d : Fin 16 := 3
  let c : Fin 32 := 5
  let num : BitVec 64 := 5
  let r : Run := { num := 5, word := cmdWord 0x40 0 }
  let s : State := onCore 3 5 (fun x => { x with q2 := { enable := true, run := [{ num := 5, word := cmdWord 0x40 0 }] } })
  (TablesRise s) ∧ (CoreRises (s.core d c)) ∧ ((s.core d c).findRun 2 num = some r) ∧ (r.status = 0) ∧ (bits (s.core d c).mvFault 63 56 = 0) := by decide +kernel

theorem wit_TidyCoreRunsRv32_tidyAdd_1 :
  let d : Fin 16 := 3
  let c : Fin 32 := 5
  let v : BitVec 32 := BitVec.ofNat 32 (encR 0 2 1 0 5 0x33)
  let s : State := tidy (encR 0 2 1 0 5 0x33)
  (TidyFetches s d c v) ∧ (bits v 6 0 = 0x33) ∧ (bits v 14 12 = 0) ∧ (bits v 31 25 = 0) := by decide +kernel

theorem wit_TidyCoreRunsRv32_tidyAdd_2 :
  let d : Fin 16 := 3
  let c : Fin 32 := 5
  let v : BitVec 32 := BitVec.ofNat 32 (encR 0 2 1 0 0 0x33)
  let s : State := tidy (encR 0 2 1 0 0 0x33)
  (TidyFetches s d c v) ∧ (bits v 6 0 = 0x33) ∧ (bits v 14 12 = 0) ∧ (bits v 31 25 = 0) := by decide +kernel

theorem wit_TidyCoreRunsRv32_tidyOps :
  let d : Fin 16 := 3
  let c : Fin 32 := 5
  let v : BitVec 32 := BitVec.ofNat 32 (encR 0 2 1 3 5 0x33)
  let s : State := tidy (encR 0 2 1 3 5 0x33)
  (TidyFetches s d c v) ∧ (bits v 6 0 = 0x33) ∧ (bits v 31 25 = 0) := by decide +kernel

theorem wit_TidyCoreRunsRv32_tidySubSra :
  let d : Fin 16 := 3
  let c : Fin 32 := 5
  let v : BitVec 32 := BitVec.ofNat 32 (encR 0x20 2 1 0 5 0x33)
  let s : State := tidy (encR 0x20 2 1 0 5 0x33)
  (TidyFetches s d c v) ∧ (bits v 6 0 = 0x33) ∧ (bits v 31 25 = 0x20) ∧ (bits v 14 12 = 0 ∨ bits v 14 12 = 5) := by decide +kernel

theorem wit_TidyCoreRunsRv32_tidyMul_1 :
  let d : Fin 16 := 3
  let c : Fin 32 := 5
  let v : BitVec 32 := BitVec.ofNat 32 (encR 1 2 1 2 5 0x33)
  let s : State := tidy (encR 1 2 1 2 5 0x33)
  (TidyFetches s d c v) ∧ (bits v 6 0 = 0x33) ∧ (bits v 31 25 = 1) := by decide +kernel

theorem wit_TidyCoreRunsRv32_tidyMul_2 :
  let d : Fin 16 := 3
  let c : Fin 32 := 5
  let v : BitVec 32 := BitVec.ofNat 32 (encR 1 2 1 6 5 0x33)
  let s : State := tidy (encR 1 2 1 6 5 0x33)
  (TidyFetches s d c v) ∧ (bits v 6 0 = 0x33) ∧ (bits v 31 25 = 1) := by decide +kernel

theorem wit_TidyCoreRunsRv32_tidyDivByZero :
  let d : Fin 16 := 3
  let c : Fin 32 := 5
  let v : BitVec 32 := BitVec.ofNat 32 (encR 1 9 1 4 5 0x33)
  let s : State := tidy (encR 1 9 1 4 5 0x33)
  (TidyFetches s d c v) ∧ (bits v 6 0 = 0x33) ∧ (bits v 31 25 = 1) ∧ (bits v 14 12 = 4) ∧ (((s.core d c).tc.reg (bits v 24 20)) = 0) := by decide +kernel

theorem wit_TidyCoreRunsRv32_tidyImmediate :
  let d : Fin 16 := 3
  let c : Fin 32 := 5
  let v : BitVec 32 := BitVec.ofNat 32 (encI 4095 1 0 1 0x13)
  let s : State := tidy (encI 4095 1 0 1 0x13)
  (TidyFetches s d c v) ∧ (bits v 6 0 = 0x13) ∧ (bits v 14 12 ≠ 1) ∧ (bits v 14 12 ≠ 5) := by decide +kernel

theorem wit_TidyCoreRunsRv32_tidyShiftImmediate :
  let d : Fin 16 := 3
  let c : Fin 32 := 5
  let v : BitVec 32 := BitVec.ofNat 32 (encI 0x403 1 5 1 0x13)
  let s : State := tidy (encI 0x403 1 5 1 0x13)
  (TidyFetches s d c v) ∧ (bits v 6 0 = 0x13) ∧ (bits v 14 12 = 1 ∨ bits v 14 12 = 5) ∧ (bits v 31 25 = 0 ∨ (bits v 14 12 = 5 ∧ bits v 31 25 = 0x20)) := by decide +kernel

theorem wit_TidyCoreRunsRv32_tidyLui :
  let d : Fin 16 := 3
  let c : Fin 32 := 5
  let v : BitVec 32 := BitVec.ofNat 32 (0x123450B7)
  let s : State := tidy (0x123450B7)
  (TidyFetches s d c v) ∧ (bits v 6 0 = 0x37) := by decide +kernel

theorem wit_TidyCoreRunsRv32_tidyAuipc :
  let d : Fin 16 := 3
  let c : Fin 32 := 5
  let v : BitVec 32 := BitVec.ofNat 32 (0x12345097)
  let s : State := tidy (0x12345097)
  (TidyFetches s d c v) ∧ (bits v 6 0 = 0x17) := by decide +kernel

theorem wit_TidyCoreRunsRv32_tidyJal :
  let d : Fin 16 := 3
  let c : Fin 32 := 5
  let v : BitVec 32 := BitVec.ofNat 32 (0x008000EF)
  let s : State := tidy (0x008000EF)
  (TidyFetches s d c v) ∧ (bits v 6 0 = 0x6F) := by decide +kernel

theorem wit_TidyCoreRunsRv32_tidyJalr :
  let d : Fin 16 := 3
  let c : Fin 32 := 5
  let v : BitVec 32 := BitVec.ofNat 32 (encI 3 1 0 1 0x67)
  let s : State := tidy (encI 3 1 0 1 0x67)
  (TidyFetches s d c v) ∧ (bits v 6 0 = 0x67) ∧ (bits v 14 12 = 0) := by decide +kernel

theorem wit_TidyCoreRunsRv32_tidyBranchEqual :
  let d : Fin 16 := 3
  let c : Fin 32 := 5
  let v : BitVec 32 := BitVec.ofNat 32 (encB 8188 0 0)
  let s : State := tidy (encB 8188 0 0)
  (TidyFetches s d c v) ∧ (bits v 6 0 = 0x63) ∧ (bits v 14 12 ≤ 1) ∧ ((bits v 14 12 = 0) = (((s.core d c).tc.reg (bits v 19 15)) = ((s.core d c).tc.reg (bits v 24 20)))) := by decide +kernel

theorem wit_TidyCoreRunsRv32_tidyBranchFallsThrough :
  let d : Fin 16 := 3
  let c : Fin 32 := 5
  let v : BitVec 32 := BitVec.ofNat 32 (field 20 2 + encB 8188 1 0)
  let s : State := tidy (field 20 2 + encB 8188 1 0)
  (TidyFetches s d c v) ∧ (bits v 6 0 = 0x63) ∧ (bits v 14 12 ≤ 1) ∧ ((bits v 14 12 = 0) = (((s.core d c).tc.reg (bits v 19 15)) ≠ ((s.core d c).tc.reg (bits v 24 20)))) := by decide +kernel

theorem wit_TidyCoreRunsRv32_tidyLoadWord :
  let d : Fin 16 := 3
  let c : Fin 32 := 5
  let v : BitVec 32 := BitVec.ofNat 32 (encI 4 3 2 5 0x03)
  let s : State := tidy (encI 4 3 2 5 0x03)
  (TidyFetches s d c v) ∧ (bits v 6 0 = 0x03) ∧ (bits v 14 12 = 2) ∧ (0x10000000 ≤ (((s.core d c).tc.reg (bits v 19 15)) + (BitVec.ofInt 32 (signed 12 (bits v 31 20)))).toNat) ∧ ((((s.core d c).tc.reg (bits v 19 15)) + (BitVec.ofInt 32 (signed 12 (bits v 31 20)))).toNat + 4 ≤ 0x10800000) ∧ (s.badIn d (lsAddr c ((((s.core d c).tc.reg (bits v 19 15)) + (BitVec.ofInt 32 (signed 12 (bits v 31 20)))).toNat - 0x10000000)) 4 = false) := by decide +kernel

theorem wit_TidyCoreRunsRv32_tidyStoreWord :
  let d : Fin 16 := 3
  let c : Fin 32 := 5
  let v : BitVec 32 := BitVec.ofNat 32 (encS 4 2 3 2)
  let s : State := tidy (encS 4 2 3 2)
  (TidyFetches s d c v) ∧ (Memory.wf s.mem = true) ∧ (bits v 6 0 = 0x23) ∧ (bits v 14 12 = 2) ∧ (0x10000000 ≤ (((s.core d c).tc.reg (bits v 19 15)) + BitVec.ofInt 32 (signed 12 (bits v 31 25 * 32 + bits v 11 7))).toNat) ∧ ((((s.core d c).tc.reg (bits v 19 15)) + BitVec.ofInt 32 (signed 12 (bits v 31 25 * 32 + bits v 11 7))).toNat + 4 ≤ 0x10800000) ∧ (s.badWords = []) := by decide +kernel

theorem wit_TidyCoreRunsRv32_tidyEcall :
  let d : Fin 16 := 3
  let c : Fin 32 := 5
  let v : BitVec 32 := BitVec.ofNat 32 (0x73)
  let s : State := tidy (0x73)
  (TidyFetches s d c v) ∧ (v = 0x00000073) := by decide +kernel

theorem wit_TidyCoreRunsRv32_tidyUndefinedTraps :
  let d : Fin 16 := 3
  let c : Fin 32 := 5
  let v : BitVec 32 := BitVec.ofNat 32 (0x7F)
  let s : State := tidy (0x7F) (fun t => { t with mtvec := 64 })
  (TidyFetches s d c v) ∧ (bits v 6 0 = 0x7F) := by decide +kernel

theorem wit_TidyCoreRunsRv32_tidyMret :
  let d : Fin 16 := 3
  let c : Fin 32 := 5
  let v : BitVec 32 := BitVec.ofNat 32 (0x30200073)
  let s : State := tidy (0x30200073) (fun t => { t with mepc := 64, mpie := true })
  (TidyFetches s d c v) ∧ (v = 0x30200073) := by decide +kernel

theorem wit_TidyCoreRunsRv32_tidyWfi :
  let d : Fin 16 := 3
  let c : Fin 32 := 5
  let v : BitVec 32 := BitVec.ofNat 32 (0x10500073)
  let s : State := tidy (0x10500073)
  (TidyFetches s d c v) ∧ (v = 0x10500073) := by decide +kernel

theorem wit_TidyCoreRunsRv32_tidyClockOff :
  let d : Fin 16 := 1
  let s : State := up
  (s.dieClocked d = false) := by decide +kernel

theorem wit_TidyCoreRunsRv32_tidyTakesTheInterrupt :
  let d : Fin 16 := 3
  let c : Fin 32 := 5
  let s : State := tidy 0x13 (fun t => { t with mie := true, meie := true, mtvec := 0x50000, irqPend := 0x80, irqEn := 0x80 })
  (TablesRise s) ∧ (CoreRises (s.core d c)) ∧ (s.dieClocked d = true) ∧ (s.coreOut d c = false) ∧ (s.substituting d c = false) ∧ ((s.core d c).tc.st = .running) ∧ ((s.core d c).tc.mie = true) ∧ ((s.core d c).tc.meie = true) ∧ (s.tcExtIrq d c = true) ∧ (0x40000 ≤ (s.core d c).tc.mtvec.toNat) ∧ ((s.core d c).tc.mtvec.toNat < 0x10000000) := by
  repeat' apply And.intro
  all_goals first | decide +kernel

theorem wit_MoveCommandsRun_mvCopyLocal :
  let d : Fin 16 := 3
  let c : Fin 32 := 5
  let k : Cmd := cmd5 0x40 (2*2^75 + 0x10*2^32)
  let a : Nat := 0x1FF0
  let b : Nat := 0x8FF0
  let n : Nat := 40
  let s : State := (ready 2 (cmd5 0x40 (2*2^75 + 0x10*2^32)) (fun x => { x with td := [(0, BitVec.ofNat 256 (0xFFFF300000001FE0 * 2^192 + 0xFFFF300000008FF0 * 2^128 + 40 * 2^96 + 2^16))] })).putBytes 3 0x1FF0 (List.replicate 40 9)
  (Issues s d c 2 0x40 k) ∧ (TablesRise s) ∧ (Memory.wf s.mem = true) ∧ (NoBadData s) ∧ (cmdUse k.word = false) ∧ (bits k.word 76 75 = 2) ∧ (bit k.word 74 = false) ∧ (bit k.word 89 = false) ∧ (tdRows (s.td d c (bits k.word 95 90)) = 1) ∧ (tdTile (s.td d c (bits k.word 95 90)) = false) ∧ (tdSrcHost (s.td d c (bits k.word 95 90)) = false) ∧ (tdDstHost (s.td d c (bits k.word 95 90)) = false) ∧ (tdLen (s.td d c (bits k.word 95 90)) = n) ∧ (0 < n) ∧ (s.placeOf d ((tdSrc (s.td d c (bits k.word 95 90)) + bits k.word 63 32) % 2 ^ 64) = .loc a) ∧ (s.placeOf d ((tdDst (s.td d c (bits k.word 95 90)) + bits k.word 31 0) % 2 ^ 64) = .loc b) ∧ (a + n ≤ 0x6000000000) ∧ (b + n ≤ 0x6000000000) ∧ (a + n ≤ b ∨ b + n ≤ a) := by
  repeat' apply And.intro
  all_goals first | decide +kernel

theorem wit_MoveCommandsRun_mvCopyRemote :
  let d : Fin 16 := 3
  let c : Fin 32 := 5
  let k : Cmd := cmd5 0x40 (2*2^75 + 0x10*2^32)
  let a : Nat := 0x1FF0
  let b : Nat := 0x8FD0
  let n : Nat := 40
  let m : Nat := 0xFFFF
  let h : Nat := 0
  let x : Nat := 0
  let s : State := (ready 2 (cmd5 0x40 (2*2^75 + 0x10*2^32)) (fun x => { x with td := [(0, BitVec.ofNat 256 (0xFFFF300000001FE0 * 2^192 + 0xFFFF000000008FD0 * 2^128 + 40 * 2^96 + 2^16))] })).putBytes 3 0x1FF0 (List.replicate 40 9)
  (Issues s d c 2 0x40 k) ∧ (TablesRise s) ∧ (DieRises (s.die d)) ∧ (NoBadData s) ∧ (cmdUse k.word = false) ∧ (bits k.word 76 75 = 2) ∧ (bit k.word 74 = false) ∧ (bit k.word 89 = false) ∧ (tdRows (s.td d c (bits k.word 95 90)) = 1) ∧ (tdTile (s.td d c (bits k.word 95 90)) = false) ∧ (tdSrcHost (s.td d c (bits k.word 95 90)) = false) ∧ (tdDstHost (s.td d c (bits k.word 95 90)) = false) ∧ (tdLen (s.td d c (bits k.word 95 90)) = n) ∧ (0 < n) ∧ (s.placeOf d ((tdSrc (s.td d c (bits k.word 95 90)) + bits k.word 63 32) % 2 ^ 64) = .loc a) ∧ (s.placeOf d ((tdDst (s.td d c (bits k.word 95 90)) + bits k.word 31 0) % 2 ^ 64) = .remote m h b) ∧ (s.ownModule m = true ∨ (s.hasId = true ∧ routeValid (s.route m) = true)) ∧ (a + n ≤ 0x6000000000) ∧ (b % 4096 + n ≤ 4096) ∧ (s.freeTxn d = some x) := by
  repeat' apply And.intro
  all_goals first | decide +kernel

theorem wit_MoveCommandsRun_mvCopyHost :
  let d : Fin 16 := 3
  let c : Fin 32 := 5
  let k : Cmd := cmd5 0x40 (2*2^75 + 0x10*2^32)
  let a : Nat := 0x1FF0
  let b : Nat := 0x8FD0
  let n : Nat := 40
  let s : State := (let z := (ready 2 (cmd5 0x40 (2*2^75 + 0x10*2^32)) (fun x => { x with td := [(0, BitVec.ofNat 256 (0xFFFF300000001FE0 * 2^192 + 0x8FD0 * 2^128 + 40 * 2^96 + 2^16 + 2^14))] })).putBytes 3 0x1FF0 (List.replicate 40 9); { z with host := { z.host with up := true, busMaster := true } })
  (Issues s d c 2 0x40 k) ∧ (NoBadData s) ∧ (cmdUse k.word = false) ∧ (bits k.word 76 75 = 2) ∧ (bit k.word 74 = false) ∧ (bit k.word 89 = false) ∧ (tdRows (s.td d c (bits k.word 95 90)) = 1) ∧ (tdTile (s.td d c (bits k.word 95 90)) = false) ∧ (tdSrcHost (s.td d c (bits k.word 95 90)) = false) ∧ (tdDstHost (s.td d c (bits k.word 95 90)) = true) ∧ (tdLen (s.td d c (bits k.word 95 90)) = n) ∧ (0 < n) ∧ (s.placeOf d ((tdSrc (s.td d c (bits k.word 95 90)) + bits k.word 63 32) % 2 ^ 64) = .loc a) ∧ (tdDst (s.td d c (bits k.word 95 90)) + bits k.word 31 0 = b) ∧ (b < 2 ^ 64) ∧ (inMemory s d a n = true) ∧ (b % 4096 + n ≤ 4096) ∧ (s.hostReached = true) := by
  repeat' apply And.intro
  all_goals first | decide +kernel

theorem wit_MoveCommandsRun_mvCopyRead :
  let d : Fin 16 := 3
  let c : Fin 32 := 5
  let k : Cmd := cmd5 0x40 (2*2^75 + 0x10*2^32)
  let a : Nat := 0x1FF0
  let b : Nat := 0x8FD0
  let n : Nat := 40
  let m : Nat := 0xFFFF
  let h : Nat := 0
  let x : Nat := 0
  let s : State := ready 2 (cmd5 0x40 (2*2^75 + 0x10*2^32)) (fun x => { x with td := [(0, BitVec.ofNat 256 (0xFFFF000000001FE0 * 2^192 + 0xFFFF300000008FD0 * 2^128 + 40 * 2^96 + 2^16))] })
  (Issues s d c 2 0x40 k) ∧ (TablesRise s) ∧ (DieRises (s.die d)) ∧ (cmdUse k.word = false) ∧ (bits k.word 76 75 = 2) ∧ (bit k.word 74 = false) ∧ (bit k.word 89 = false) ∧ (tdRows (s.td d c (bits k.word 95 90)) = 1) ∧ (tdTile (s.td d c (bits k.word 95 90)) = false) ∧ (tdSrcHost (s.td d c (bits k.word 95 90)) = false) ∧ (tdDstHost (s.td d c (bits k.word 95 90)) = false) ∧ (tdLen (s.td d c (bits k.word 95 90)) = n) ∧ (0 < n) ∧ (s.placeOf d ((tdSrc (s.td d c (bits k.word 95 90)) + bits k.word 63 32) % 2 ^ 64) = .remote m h a) ∧ (s.placeOf d ((tdDst (s.td d c (bits k.word 95 90)) + bits k.word 31 0) % 2 ^ 64) = .loc b) ∧ (s.ownModule m = true) ∧ ((tdDst (s.td d c (bits k.word 95 90)) + bits k.word 31 0) % 4096 + n ≤ 4096) ∧ (a % 128 + n ≤ 4096) ∧ (s.freeTxn d = some x) := by
  repeat' apply And.intro
  all_goals first | decide +kernel

theorem wit_MoveCommandsRun_mvCopy_1 :
  let d : Fin 16 := 3
  let c : Fin 32 := 5
  let k : Cmd := cmd5 0x40 (2*2^75 + 0x10*2^32 + 2^89 + 2^74 + 7*2^77)
  let s : State := (ready 2 (cmd5 0x40 (2*2^75 + 0x10*2^32 + 2^89 + 2^74 + 7*2^77)) (fun x => { x with td := [(0, BitVec.ofNat 256 (0xFFFF300000001FE0 * 2^192 + 0xFFFF300000008FF0 * 2^128 + 40 * 2^96 + 64 * 2^64 + 64 * 2^32 + 2*2^16))] })).putBytes 3 0x1FF0 (List.replicate 140 9)
  let r : Run := issuedRun s 3 5 2 k
  let ps : List Piece := movePieces (s.copySpec 3 5 r)
  (Issues s d c 2 0x40 k) ∧ (TablesRise s) ∧ (Memory.wf s.mem = true) ∧ (NoBadData s) ∧ (bit k.word 74 = true → s.freeFlow d ≠ none) ∧ (issuedRun s d c 2 k = r) ∧ (movePieces (s.copySpec d c r) = ps) ∧ (copyBad k.word (s.td d c (bits k.word 95 90)) false = false) ∧ (r.useTiles.all (fun h => !(if bit k.word 73 then useShort h (bits k.word 31 0) (tdLen (s.td d c (bits k.word 95 90))) (tdRows (s.td d c (bits k.word 95 90))) (tdDStride (s.td d c (bits k.word 95 90))) else useShort h (bits k.word 63 32) (tdLen (s.td d c (bits k.word 95 90))) (tdRows (s.td d c (bits k.word 95 90))) (tdSStride (s.td d c (bits k.word 95 90))))) = true) ∧ (s.fabricStatus ps = 0) ∧ (ps.all (pieceOk s d c r) = true) := by
  repeat' apply And.intro
  all_goals first | decide +kernel

theorem wit_MoveCommandsRun_mvCopy_2 :
  let d : Fin 16 := 3
  let c : Fin 32 := 5
  let k : Cmd := cmd5 0x40 (1*2^75 + 2^73 + 2^111 + 2^116 + 3*2^112)
  let s : State := (ready 2 (cmd5 0x40 (1*2^75 + 2^73 + 2^111 + 2^116 + 3*2^112)) (fun x => { x with td := [(0, BitVec.ofNat 256 (0xFFFF300000002000 * 2^192 + 0xFFFF300000008FF0 * 2^128 + 4096 * 2^96 + 2^16 + 2^13))], tq := [(3, { slots := [⟨4, 0, some (mkHandle 0 0 1 1 false), false⟩] })] })).putBytes 3 0x2000 (List.replicate 40 9)
  let r : Run := issuedRun s 3 5 2 k
  let ps : List Piece := movePieces (s.copySpec 3 5 r)
  (Issues s d c 2 0x40 k) ∧ (TablesRise s) ∧ (Memory.wf s.mem = true) ∧ (NoBadData s) ∧ (bit k.word 74 = true → s.freeFlow d ≠ none) ∧ (issuedRun s d c 2 k = r) ∧ (movePieces (s.copySpec d c r) = ps) ∧ (copyBad k.word (s.td d c (bits k.word 95 90)) false = false) ∧ (r.useTiles.all (fun h => !(if bit k.word 73 then useShort h (bits k.word 31 0) (tdLen (s.td d c (bits k.word 95 90))) (tdRows (s.td d c (bits k.word 95 90))) (tdDStride (s.td d c (bits k.word 95 90))) else useShort h (bits k.word 63 32) (tdLen (s.td d c (bits k.word 95 90))) (tdRows (s.td d c (bits k.word 95 90))) (tdSStride (s.td d c (bits k.word 95 90))))) = true) ∧ (s.fabricStatus ps = 0) ∧ (ps.all (pieceOk s d c r) = true) := by
  repeat' apply And.intro
  all_goals first | decide +kernel

theorem wit_MoveCommandsRun_mvFill :
  let d : Fin 16 := 3
  let c : Fin 32 := 5
  let k : Cmd := cmd5 0x41 0x0102030405060708
  let b : Nat := 0x8FF3
  let n : Nat := 40
  let s : State := ready 2 (cmd5 0x41 0x0102030405060708) (fun x => { x with td := [(0, BitVec.ofNat 256 (0xFFFF300000008FF3 * 2^128 + 40 * 2^96 + 2^16))] })
  (Issues s d c 2 0x41 k) ∧ (TablesRise s) ∧ (Memory.wf s.mem = true) ∧ (NoBadData s) ∧ (tdRows (s.td d c (bits k.word 95 90)) = 1) ∧ (tdTile (s.td d c (bits k.word 95 90)) = false) ∧ (tdDstHost (s.td d c (bits k.word 95 90)) = false) ∧ (tdLen (s.td d c (bits k.word 95 90)) = n) ∧ (0 < n) ∧ (s.placeOf d (tdDst (s.td d c (bits k.word 95 90)) % 2 ^ 64) = .loc b) ∧ (b + n ≤ 0x6000000000) := by
  repeat' apply And.intro
  all_goals first | decide +kernel

theorem wit_MoveCommandsRun_mvFillForms_1 :
  let d : Fin 16 := 3
  let c : Fin 32 := 5
  let k : Cmd := cmd5 0x41 0x0102030405060708
  let s : State := ready 2 (cmd5 0x41 0x0102030405060708) (fun x => { x with td := [(0, BitVec.ofNat 256 (0xFFFF300000008FF3 * 2^128 + 40 * 2^96 + 50*2^32 + 3 * 2^16))] })
  let r : Run := issuedRun s 3 5 2 k
  let ps : List Piece := movePieces (s.fillSpec 3 5 r)
  (Issues s d c 2 0x41 k) ∧ (TablesRise s) ∧ (Memory.wf s.mem = true) ∧ (NoBadData s) ∧ (issuedRun s d c 2 k = r) ∧ (movePieces (s.fillSpec d c r) = ps) ∧ (copyBad k.word (s.td d c (bits k.word 95 90)) true = false) ∧ (s.fabricStatus ps = 0) ∧ (ps.all (pieceOk s d c r) = true) := by decide +kernel

theorem wit_MoveCommandsRun_mvFillForms_2 :
  let d : Fin 16 := 3
  let c : Fin 32 := 5
  let k : Cmd := cmd5 0x41 0x0102030405060708
  let s : State := ready 2 (cmd5 0x41 0x0102030405060708) (fun x => { x with td := [(0, BitVec.ofNat 256 (0xFFFF000000008000 * 2^128 + 4096 * 2^96 + 2^16 + 2^13))] })
  let r : Run := issuedRun s 3 5 2 k
  let ps : List Piece := movePieces (s.fillSpec 3 5 r)
  (Issues s d c 2 0x41 k) ∧ (TablesRise s) ∧ (Memory.wf s.mem = true) ∧ (NoBadData s) ∧ (issuedRun s d c 2 k = r) ∧ (movePieces (s.fillSpec d c r) = ps) ∧ (copyBad k.word (s.td d c (bits k.word 95 90)) true = false) ∧ (s.fabricStatus ps = 0) ∧ (ps.all (pieceOk s d c r) = true) := by decide +kernel

theorem wit_MoveCommandsRun_mvAtomic :
  let d : Fin 16 := 3
  let c : Fin 32 := 5
  let k : Cmd := cmd5 0x42 (2*2^92 + 8*2^63 + 24*2^40)
  let a : Nat := 0x8FF8
  let s : State := (store5 (ready 2 (cmd5 0x42 (2*2^92 + 8*2^63 + 24*2^40)) (fun x => { x with td := [(0, BitVec.ofNat 256 (0xFFFF300000008FF8 * 2^128))] })) 8 [7, 0, 0, 0, 0, 0, 0, 0, 5]).putBytes 3 0x8FF8 [7]
  (Issues s d c 2 0x42 k) ∧ (TablesRise s) ∧ (s.coreOut d c = false) ∧ (s.substituting d c = false) ∧ (Memory.wf s.mem = true) ∧ (NoBadData s) ∧ (s.freeTxn d ≠ none) ∧ (bits k.word 95 92 ≤ 7) ∧ (bits k.word 85 63 % 8 = 0) ∧ (bits k.word 62 40 % 8 = 0) ∧ (bits k.word 85 63 + (if bits k.word 95 92 = 2 then 16 else 8) ≤ lsBytes) ∧ (s.dstPlace d c (bits k.word 91 86) (bits k.word 31 0) = .loc a) ∧ (a % 8 = 0) ∧ (inMemory s d a 8 = true) ∧ (a + 8 ≤ lsAddr c (bits k.word 62 40) ∨ lsAddr c (bits k.word 62 40) + 8 ≤ a) := by
  repeat' apply And.intro
  all_goals first | decide +kernel

theorem wit_MoveCommandsRun_mvAtomicRemote :
  let d : Fin 16 := 3
  let c : Fin 32 := 5
  let k : Cmd := cmd5 0x42 (2*2^92 + 8*2^63 + 24*2^40)
  let a : Nat := 0x8FF8
  let m : Nat := 0xFFFF
  let h : Nat := 0
  let x : Nat := 0
  let s : State := store5 (ready 2 (cmd5 0x42 (2*2^92 + 8*2^63 + 24*2^40)) (fun x => { x with td := [(0, BitVec.ofNat 256 (0xFFFF000000008FF8 * 2^128))] })) 8 [7, 0, 0, 0, 0, 0, 0, 0, 5]
  (Issues s d c 2 0x42 k) ∧ (TablesRise s) ∧ (DieRises (s.die d)) ∧ (s.coreOut d c = false) ∧ (s.substituting d c = false) ∧ (NoBadData s) ∧ (s.freeTxn d = some x) ∧ (bits k.word 95 92 ≤ 7) ∧ (bits k.word 85 63 % 8 = 0) ∧ (bits k.word 62 40 % 8 = 0) ∧ (bits k.word 85 63 + (if bits k.word 95 92 = 2 then 16 else 8) ≤ lsBytes) ∧ (s.dstPlace d c (bits k.word 91 86) (bits k.word 31 0) = .remote m h a) ∧ (s.ownModule m = true ∨ (s.hasId = true ∧ routeValid (s.route m) = true)) ∧ (a % 8 = 0) := by
  repeat' apply And.intro
  all_goals first | decide +kernel

theorem wit_MoveCommandsRun_mvAtomicMisaligned :
  let d : Fin 16 := 3
  let c : Fin 32 := 5
  let k : Cmd := cmd5 0x42 (2*2^92 + 8*2^63 + 24*2^40)
  let a : Nat := 0x8FFC
  let s : State := ready 2 (cmd5 0x42 (2*2^92 + 8*2^63 + 24*2^40)) (fun x => { x with td := [(0, BitVec.ofNat 256 (0xFFFF300000008FFC * 2^128))] })
  (Issues s d c 2 0x42 k) ∧ (s.freeTxn d ≠ none) ∧ (s.atomicWaits d c = false) ∧ (bits k.word 95 92 ≤ 7) ∧ (bits k.word 85 63 % 8 = 0) ∧ (bits k.word 62 40 % 8 = 0) ∧ (s.dstPlace d c (bits k.word 91 86) (bits k.word 31 0) = .loc a) ∧ (a % 8 ≠ 0) := by decide +kernel

theorem wit_MoveCommandsRun_mvInvalAll :
  let d : Fin 16 := 3
  let c : Fin 32 := 5
  let k : Cmd := cmd5 0x43 0
  let s : State := (ready 2 (cmd5 0x43 0)).modDie 3 (fun x => { x with rlc := [(16, some ⟨1, 2, 3, []⟩)] })
  (Issues s d c 2 0x43 k) ∧ (TablesRise s) ∧ (bits k.word 31 0 = 0) := by decide +kernel

theorem wit_MoveCommandsRun_mvInvalRange :
  let d : Fin 16 := 3
  let c : Fin 32 := 5
  let k : Cmd := cmd5 0x43 1
  let m : Nat := 1
  let h : Nat := 2
  let a : Nat := 384
  let s : State := (ready 2 (cmd5 0x43 1) (fun x => { x with td := [(0, BitVec.ofNat 256 (0x0001200000000180 * 2^128))] })).modDie 3 (fun x => { x with rlc := [(16, some ⟨1, 2, 3, []⟩), (17, some ⟨1, 2, 4, []⟩)] })
  (Issues s d c 2 0x43 k) ∧ (TablesRise s) ∧ (bits k.word 31 0 ≠ 0) ∧ (s.dstPlace d c (bits k.word 95 90) (bits k.word 63 32) = .remote m h a) := by decide +kernel

theorem wit_MoveCommandsRun_mvInvalOwn :
  let d : Fin 16 := 3
  let c : Fin 32 := 5
  let k : Cmd := cmd5 0x43 1
  let a : Nat := 384
  let s : State := ready 2 (cmd5 0x43 1) (fun x => { x with td := [(0, BitVec.ofNat 256 (0xFFFF300000000180 * 2^128))] })
  (Issues s d c 2 0x43 k) ∧ (bits k.word 31 0 ≠ 0) ∧ (s.dstPlace d c (bits k.word 95 90) (bits k.word 63 32) = .loc a) := by decide +kernel

theorem wit_MoveCommandsRun_mvFence :
  let d : Fin 16 := 3
  let c : Fin 32 := 5
  let k : Cmd := cmd5 0x44 0
  let s : State := ready 2 (cmd5 0x44 0)
  (Issues s d c 2 0x44 k) := by decide +kernel

theorem wit_MoveCommandsRun_mvClaim :
  let d : Fin 16 := 3
  let c : Fin 32 := 5
  let k : Cmd := cmd5 0x46 0
  let a : Nat := 384
  let r : Fin 64 := 7
  let s : State := (ready 2 (cmd5 0x46 0) (fun x => { x with td := [(0, BitVec.ofNat 256 (0xFFFF300000000180 * 2^128))] })).modDie 3 (fun x => { x with race := [(7, BitVec.ofNat 256 (2^255 + 384 * 2^84 + 128 * 2^52))] })
  (Issues s d c 2 0x46 k) ∧ (TablesRise s) ∧ (DieRises (s.die d)) ∧ (s.freeTxn d ≠ none) ∧ (s.dstPlace d c (bits k.word 95 90) (bits k.word 31 0) = .loc a) ∧ (raceArmed (s.race d r) = true) ∧ (raceClaimed (s.race d r) = false) ∧ (raceBase (s.race d r) = a) ∧ (∀ j : Fin 64, j < r → ¬ (raceArmed (s.race d j) = true ∧ raceBase (s.race d j) = a)) ∧ (s.moduleId < 2 ^ 16) := by
  repeat' apply And.intro
  all_goals first | decide +kernel

theorem wit_MoveCommandsRun_mvClaimTaken :
  let d : Fin 16 := 3
  let c : Fin 32 := 5
  let k : Cmd := cmd5 0x46 0
  let a : Nat := 384
  let r : Fin 64 := 7
  let s : State := (ready 2 (cmd5 0x46 0) (fun x => { x with td := [(0, BitVec.ofNat 256 (0xFFFF300000000180 * 2^128))] })).modDie 3 (fun x => { x with race := [(7, BitVec.ofNat 256 (2^255 + 2^254 + 384 * 2^84 + 128 * 2^52))] })
  (Issues s d c 2 0x46 k) ∧ (TablesRise s) ∧ (s.freeTxn d ≠ none) ∧ (s.dstPlace d c (bits k.word 95 90) (bits k.word 31 0) = .loc a) ∧ (raceArmed (s.race d r) = true) ∧ (raceClaimed (s.race d r) = true) ∧ (raceBase (s.race d r) = a) ∧ (raceModule (s.race d r) ≠ s.moduleId ∨ raceDie (s.race d r) ≠ d.val) ∧ (∀ j : Fin 64, j < r → ¬ (raceArmed (s.race d j) = true ∧ raceBase (s.race d j) = a)) := by decide +kernel

theorem wit_MoveCommandsRun_mvClaimAgain :
  let d : Fin 16 := 3
  let c : Fin 32 := 5
  let k : Cmd := cmd5 0x46 0
  let a : Nat := 384
  let r : Fin 64 := 7
  let s : State := (ready 2 (cmd5 0x46 0) (fun x => { x with td := [(0, BitVec.ofNat 256 (0xFFFF300000000180 * 2^128))] })).modDie 3 (fun x => { x with race := [(7, BitVec.ofNat 256 (2^255 + 2^254 + 384 * 2^84 + 128 * 2^52 + 3 * 2^228 + 0xFFFF * 2^232))] })
  (Issues s d c 2 0x46 k) ∧ (s.freeTxn d ≠ none) ∧ (s.dstPlace d c (bits k.word 95 90) (bits k.word 31 0) = .loc a) ∧ (raceArmed (s.race d r) = true) ∧ (raceClaimed (s.race d r) = true) ∧ (raceBase (s.race d r) = a) ∧ (raceModule (s.race d r) = s.moduleId) ∧ (raceDie (s.race d r) = d.val) ∧ (∀ j : Fin 64, j < r → ¬ (raceArmed (s.race d j) = true ∧ raceBase (s.race d j) = a)) := by decide +kernel

theorem wit_MoveCommandsRun_mvClaimNoSlot :
  let d : Fin 16 := 3
  let c : Fin 32 := 5
  let k : Cmd := cmd5 0x46 0
  let a : Nat := 384
  let s : State := ready 2 (cmd5 0x46 0) (fun x => { x with td := [(0, BitVec.ofNat 256 (0xFFFF300000000180 * 2^128))] })
  (Issues s d c 2 0x46 k) ∧ (s.freeTxn d ≠ none) ∧ (s.dstPlace d c (bits k.word 95 90) (bits k.word 31 0) = .loc a) ∧ (∀ j : Fin 64, ¬ (raceArmed (s.race d j) = true ∧ raceBase (s.race d j) = a)) := by decide +kernel

theorem wit_MoveCommandsRun_mvClaimRemote :
  let d : Fin 16 := 3
  let c : Fin 32 := 5
  let k : Cmd := cmd5 0x46 0
  let a : Nat := 384
  let m : Nat := 0xFFFF
  let h : Nat := 0
  let x : Nat := 0
  let s : State := ready 2 (cmd5 0x46 0) (fun x => { x with td := [(0, BitVec.ofNat 256 (0xFFFF000000000180 * 2^128))] })
  (Issues s d c 2 0x46 k) ∧ (TablesRise s) ∧ (DieRises (s.die d)) ∧ (s.freeTxn d = some x) ∧ (s.dstPlace d c (bits k.word 95 90) (bits k.word 31 0) = .remote m h a) ∧ (s.ownModule m = true ∨ (s.hasId = true ∧ routeValid (s.route m) = true)) := by decide +kernel

theorem wit_MovesAreAnswered_slotStart :
  let d : Fin 16 := 3
  let i : Fin 16 := 2
  let c : Fin 32 := 5
  let r : Run := { num := 5, word := cmdWord 0x40 0, bound := some (2, 0), opened := false, awaits := [.txn 3] }
  let s : State := { (onCore 3 5 (fun x => { x with q2 := { enable := true, run := [{ num := 5, word := cmdWord 0x40 0, bound := some (2, 0), opened := false, awaits := [.txn 3] }] } })).modDie 3 (fun x => { x with rs := [(2, BitVec.ofNat 256 (2^255))] }) with gt := { st := 1, base := 5000, at_ := 2 * tickS } }
  (TablesRise s) ∧ (s.boundMoves d i = [(c.val, r)]) ∧ ((s.core d c).findRun 2 r.num = some r) ∧ (r.todo = []) ∧ (r.fail = 0) ∧ (rsValid (s.rs d i) = true) ∧ (s.gtRuns d = true) ∧ (s.slotOpen d r.bound = true) := by decide +kernel

theorem wit_MovesAreAnswered_admissionClose :
  let d : Fin 16 := 3
  let i : Fin 16 := 2
  let c : Fin 32 := 5
  let r : Run := { num := 5, word := cmdWord 0x40 0, bound := some (2, 0), opened := false, cls := 1, todo := [{ grp := 0, src := .loc 64, dst := .loc 128, len := 8, tile := false }] }
  let p : Piece := { grp := 0, src := .loc 64, dst := .loc 128, len := 8, tile := false }
  let a : Nat := 64
  let b : Nat := 128
  let n : Nat := 0
  let s : State := { (onCore 3 5 (fun x => { x with q2 := { enable := true, run := [{ num := 5, word := cmdWord 0x40 0, bound := some (2, 0), opened := false, cls := 1, todo := [{ grp := 0, src := .loc 64, dst := .loc 128, len := 8, tile := false }] }] } })).modDie 3 (fun x => { x with rs := [(2, BitVec.ofNat 256 (2^255 + 9))] }) with gt := { st := 1, base := 5000000, at_ := 2 * tickS } }
  (TablesRise s) ∧ (DieRises (s.die d)) ∧ (Memory.wf s.mem = true) ∧ (NoBadData s) ∧ (s.dieRuns d = true) ∧ (s.boundMoves d i = [(c.val, r)]) ∧ ((s.core d c).q2.run = [r]) ∧ (r.todo = [p]) ∧ (r.status = 0) ∧ (r.arr = none) ∧ (r.fail = 0) ∧ (r.bound = some (i.val, n)) ∧ (p.src = .loc a) ∧ (p.dst = .loc b) ∧ (p.tile = false) ∧ (0 < p.len) ∧ (a + p.len ≤ 0x6000000000) ∧ (b + p.len ≤ 0x6000000000) ∧ (s.gtRuns d = true) ∧ (rsSlotClose (s.rs d i) n ≤ (s.localGt d).toNat) := by
  repeat' apply And.intro
  all_goals first | decide +kernel

theorem wit_MovesAreAnswered_relayHoldExpire :
  let l : Fin 8 := 7
  let h : Held := { light := 7, pkt := { (default : Packet) with dstModule := 9 }, since := 0, own := false }
  let s : State := { up with fab := { held := [{ light := 7, pkt := { (default : Packet) with dstModule := 9 }, since := 0, own := false }] } }
  (Rises s.dict) ∧ (s.retryHeld.fab.held = [h]) ∧ (s.retryHeld.obj 0x5000 0x0A + 1 < 2 ^ 32) ∧ (h.own = false) ∧ (h.light = l.val) ∧ (h.since + 100 * tickUs ≤ s.time) := by decide +kernel

theorem wit_MovesAreAnswered_relayHoldKept :
  let s : State := up
  (s.fab.held = []) := by decide +kernel

theorem wit_MovesAreAnswered_reorderBusyResend :
  let d : Fin 16 := 3
  let n : BitVec 15 := 3
  let x : Txn := { txn3 with busyAt := some 7 }
  let b : Nat := 7
  let s : State := moving (.txn 3) (fun x => { x with txns := [(3, some { txn3 with busyAt := some 7 })] })
  (TablesRise s) ∧ (DieRises (s.die d)) ∧ (s.txn d n.toNat = some x) ∧ (x.busyAt = some b) ∧ (x.abandoned = false) ∧ (b + 2 * tickUs ≤ s.time) ∧ ((s.die d).txns = [(n.toNat, some x)]) := by decide +kernel

theorem wit_MovesAreAnswered_responseReceiveOk :
  let d : Fin 16 := 3
  let k : Packet := resp3 0
  let x : Txn := txn3
  let c : Fin 32 := 5
  let r : Run := run5 (.txn 3)
  let s : State := { moving (.txn 3) (fun x => { x with txns := [(3, some txn3)] }) with fab := { inner := [(3, resp3 0)] } }
  (TablesRise s) ∧ (DieRises (s.die d)) ∧ (Quiet s d) ∧ (s.dieRuns d = true) ∧ (s.fab.inner.contains (d.val, k) = true) ∧ (opResponse k.op.toNat = true) ∧ (k.hchk = k.check) ∧ (s.txn d k.txn.toNat = some x) ∧ (x.abandoned = false) ∧ (answers k x = true) ∧ (respStatus k = 0) ∧ (x.kind = .write) ∧ (x.core = c.val) ∧ ((s.core d c).findRun 2 x.num = some r) ∧ (isLoc x.piece.dst = false) ∧ (r.fail = 0) := by
  repeat' apply And.intro
  all_goals first | decide +kernel

theorem wit_MovesAreAnswered_responseReceiveBad :
  let d : Fin 16 := 3
  let k : Packet := resp3 0x49
  let x : Txn := txn3
  let c : Fin 32 := 5
  let r : Run := run5 (.txn 3)
  let s : State := { moving (.txn 3) (fun x => { x with txns := [(3, some txn3)] }) with fab := { inner := [(3, resp3 0x49)] } }
  (TablesRise s) ∧ (DieRises (s.die d)) ∧ (Quiet s d) ∧ (s.dieRuns d = true) ∧ (s.fab.inner.contains (d.val, k) = true) ∧ (opResponse k.op.toNat = true) ∧ (k.hchk = k.check) ∧ (s.txn d k.txn.toNat = some x) ∧ (x.abandoned = false) ∧ (answers k x = true) ∧ (respStatus k ≠ 0) ∧ (respStatus k ≠ 0x4E) ∧ (x.kind ≠ .mirror) ∧ (x.core = c.val) ∧ ((s.core d c).findRun 2 x.num = some r) ∧ (r.awaits = [.txn k.txn]) ∧ (r.fail = 0) ∧ (r.status = 0) := by
  repeat' apply And.intro
  all_goals first | decide +kernel

theorem wit_MovesAreAnswered_responseReceiveRead :
  let d : Fin 16 := 3
  let k : Packet := (let z := { resp3 0 with op := 0x11, lines := 1, payload := (List.range 128).map (BitVec.ofNat 8) }; { z with hchk := z.check })
  let x : Txn := { txn3 with kind := .read, pkt := { txn3.pkt with op := 1 }, piece := { grp := 0, src := .remote 0xFFFF 0 0x1FF8, dst := .loc 64, len := 8, tile := false } }
  let c : Fin 32 := 5
  let r : Run := run5 (.txn 3)
  let m : Nat := 0xFFFF
  let h : Nat := 0
  let a : Nat := 0x1FF8
  let b : Nat := 64
  let s : State := { moving (.txn 3) (fun y => { y with txns := [(3, some x)] }) with fab := { inner := [(3, k)] } }
  (TablesRise s) ∧ (DieRises (s.die d)) ∧ (Quiet s d) ∧ (s.dieRuns d = true) ∧ (s.fab.inner.contains (d.val, k) = true) ∧ (opResponse k.op.toNat = true) ∧ (k.hchk = k.check) ∧ (s.txn d k.txn.toNat = some x) ∧ (x.abandoned = false) ∧ (answers k x = true) ∧ (respStatus k = 0) ∧ (Memory.wf s.mem = true) ∧ (NoBadData s) ∧ (x.kind = .read) ∧ (x.core = c.val) ∧ (x.fill = []) ∧ (k.tile = false) ∧ ((s.core d c).findRun 2 x.num = some r) ∧ (x.piece.src = .remote m h a) ∧ (x.piece.dst = .loc b) ∧ (inMemory s d b x.piece.len = true) ∧ (0 < x.piece.len) ∧ (a % 128 + x.piece.len ≤ k.payload.length) ∧ (r.arr = none) ∧ (r.status = 0) ∧ (r.fail = 0) := by
  repeat' apply And.intro
  all_goals first | decide +kernel

theorem wit_MovesAreAnswered_responseReceiveAtomic :
  let d : Fin 16 := 3
  let k : Packet := (let z := { resp3 0 with op := 0x14, lines := 1, payload := (List.range 128).map (BitVec.ofNat 8) }; { z with hchk := z.check })
  let x : Txn := { txn3 with kind := .atomic 24, pkt := { txn3.pkt with op := 4 } }
  let c : Fin 32 := 5
  let r : Run := run5 (.txn 3)
  let res : Nat := 24
  let s : State := { moving (.txn 3) (fun y => { y with txns := [(3, some x)] }) with fab := { inner := [(3, k)] } }
  (TablesRise s) ∧ (DieRises (s.die d)) ∧ (Quiet s d) ∧ (s.dieRuns d = true) ∧ (s.fab.inner.contains (d.val, k) = true) ∧ (opResponse k.op.toNat = true) ∧ (k.hchk = k.check) ∧ (s.txn d k.txn.toNat = some x) ∧ (x.abandoned = false) ∧ (answers k x = true) ∧ (respStatus k = 0) ∧ (Memory.wf s.mem = true) ∧ (NoBadData s) ∧ (x.kind = .atomic res) ∧ (x.core = c.val) ∧ ((s.core d c).findRun 2 x.num = some r) ∧ (isLoc x.piece.dst = false) ∧ (res + 8 ≤ lsBytes) ∧ (8 ≤ k.payload.length) ∧ (r.fail = 0) := by
  repeat' apply And.intro
  all_goals first | decide +kernel

theorem wit_MovesAreAnswered_responseReceiveBusy :
  let d : Fin 16 := 3
  let k : Packet := resp3 0x4E
  let x : Txn := txn3
  let s : State := { moving (.txn 3) (fun x => { x with txns := [(3, some txn3)] }) with fab := { inner := [(3, resp3 0x4E)] } }
  (TablesRise s) ∧ (DieRises (s.die d)) ∧ (Quiet s d) ∧ (s.dieRuns d = true) ∧ (s.fab.inner.contains (d.val, k) = true) ∧ (opResponse k.op.toNat = true) ∧ (k.hchk = k.check) ∧ (s.txn d k.txn.toNat = some x) ∧ (x.abandoned = false) ∧ (answers k x = true) ∧ (respStatus k = 0x4E) := by
  repeat' apply And.intro
  all_goals first | decide +kernel

theorem wit_MovesAreAnswered_ackTimeout :
  let d : Fin 16 := 3
  let n : BitVec 15 := 3
  let x : Txn := txn3
  let c : Fin 32 := 5
  let r : Run := run5 (.txn 3)
  let s : State := moving (.txn 3) (fun x => { x with txns := [(3, some txn3)] })
  (TablesRise s) ∧ (DieRises (s.die d)) ∧ (Quiet s d) ∧ (s.txn d n.toNat = some x) ∧ (x.abandoned = false) ∧ (x.kind ≠ .mirror) ∧ (x.core = c.val) ∧ ((s.core d c).findRun 2 x.num = some r) ∧ (x.sent + s.ackTicks ≤ s.time) ∧ (r.awaits = [.txn n]) ∧ (r.fail = 0) ∧ (r.status = 0) := by
  repeat' apply And.intro
  all_goals first | decide +kernel

theorem wit_MovesAreAnswered_hostCompletionData :
  let g : Nat := 9
  let bs : List Byte := [1, 2, 3]
  let h : HostRead := read5
  let d : Fin 16 := 3
  let c : Fin 32 := 5
  let r : Run := run5 (.hostRead 9)
  let b : Nat := 64
  let s : State := { moving (.hostRead 9) with host := { reads := [read5], up := true } }
  (TablesRise s) ∧ (Memory.wf s.mem = true) ∧ (NoBadData s) ∧ (Quiet s d) ∧ (s.dieRuns d = true) ∧ (s.host.reads.find? (fun y => y.tag == g) = some h) ∧ (h.die = d.val) ∧ (h.core = c.val) ∧ ((s.core d c).findRun 2 h.num = some r) ∧ (bs.length = h.piece.len) ∧ (h.piece.tile = false) ∧ (h.piece.dst = .loc b) ∧ (0 < bs.length) ∧ (inMemory s d b bs.length = true) ∧ (r.arr = none) ∧ (r.status = 0) ∧ (r.fail = 0) := by
  repeat' apply And.intro
  all_goals first | decide +kernel

theorem wit_MovesAreAnswered_hostCompletionFails :
  let g : Nat := 9
  let cpl : Cpl := .ur
  let h : HostRead := read5
  let d : Fin 16 := 3
  let c : Fin 32 := 5
  let r : Run := run5 (.hostRead 9)
  let s : State := { moving (.hostRead 9) with host := { reads := [read5], up := true } }
  (TablesRise s) ∧ (Quiet s d) ∧ (s.host.reads.find? (fun y => y.tag == g) = some h) ∧ (h.die = d.val) ∧ (h.core = c.val) ∧ ((s.core d c).findRun 2 h.num = some r) ∧ (isData cpl = false) ∧ (r.awaits = [.hostRead g]) ∧ (r.fail = 0) ∧ (r.status = 0) := by
  repeat' apply And.intro
  all_goals first | decide +kernel

theorem wit_MovesAreAnswered_hostCplTimeout :
  let g : Nat := 9
  let h : HostRead := read5
  let d : Fin 16 := 3
  let c : Fin 32 := 5
  let r : Run := run5 (.hostRead 9)
  let s : State := { moving (.hostRead 9) with host := { reads := [read5], up := true } }
  (TablesRise s) ∧ (Quiet s d) ∧ (s.host.reads.find? (fun y => y.tag == g) = some h) ∧ (h.die = d.val) ∧ (h.core = c.val) ∧ ((s.core d c).findRun 2 h.num = some r) ∧ (h.sent + s.obj 0xA800 1 * tickMs ≤ s.time) ∧ (r.awaits = [.hostRead g]) ∧ (r.fail = 0) ∧ (r.status = 0) := by
  repeat' apply And.intro
  all_goals first | decide +kernel

theorem wit_TagsVerifyAndScrub_tagWrite :
  let d : Fin 16 := 3
  let c : Fin 32 := 5
  let off : Fin 0x4000 := 0x3FF8
  let bs : List Byte := [1, 2, 3, 4, 0x77, 0xFF, 5, 6]
  let s : State := up
  (Rises s.tiles) ∧ (Reachable s d c) ∧ (off.val % 8 = 0) ∧ (bs.length = 8) := by decide +kernel

theorem wit_TagsVerifyAndScrub_tagWriteDiscarded_1 :
  let d : Fin 16 := 3
  let c : Fin 32 := 5
  let off : Fin 0x4000 := 4
  let bs : List Byte := [1, 2, 3, 4, 0x77, 0xFF, 5, 6]
  let s : State := up
  (Reachable s d c) ∧ (off.val % 8 ≠ 0 ∨ bs.length ≠ 8) := by decide +kernel

theorem wit_TagsVerifyAndScrub_tagWriteDiscarded_2 :
  let d : Fin 16 := 3
  let c : Fin 32 := 5
  let off : Fin 0x4000 := 8
  let bs : List Byte := [1]
  let s : State := up
  (Reachable s d c) ∧ (off.val % 8 ≠ 0 ∨ bs.length ≠ 8) := by decide +kernel

theorem wit_TagsVerifyAndScrub_verifyingReadClean :
  let d : Fin 16 := 3
  let c : Fin 32 := 5
  let τ : Fin 2048 := 2047
  let s : State := up
  (s.dieRuns d = true) ∧ ((s.core d c).consumer 0 τ.val = none) ∧ ((s.core d c).consumer 1 τ.val = none) := by decide +kernel

theorem wit_TagsVerifyAndScrub_verifyingReadUncorrectable :
  let d : Fin 16 := 3
  let c : Fin 32 := 5
  let τ : Fin 2048 := 9
  let r : Run := { num := 5, word := cmdWord 0x10 0, ins := [9] }
  let s : State := onCore 3 5 (fun x => { x with q0 := { enable := true, run := [{ num := 5, word := cmdWord 0x10 0, ins := [9] }] } })
  (TablesRise s) ∧ (s.dieRuns d = true) ∧ (CoreRises (s.core d c)) ∧ ((s.core d c).consumer 0 τ = some r) ∧ (r.tiles = []) ∧ (s.badTags = []) ∧ (r.level ≠ 1) ∧ (bits (s.core d c).mx.fault 63 56 = 0) := by decide +kernel

theorem wit_TagsVerifyAndScrub_verifyingReadVector :
  let d : Fin 16 := 3
  let c : Fin 32 := 5
  let τ : Fin 2048 := 9
  let r : Run := { num := 5, word := cmdWord 0x30 0, ins := [9] }
  let s : State := onCore 3 5 (fun x => { x with q1 := { enable := true, run := [{ num := 5, word := cmdWord 0x30 0, ins := [9] }] } })
  (TablesRise s) ∧ (s.dieRuns d = true) ∧ (CoreRises (s.core d c)) ∧ ((s.core d c).consumer 0 τ = none) ∧ ((s.core d c).consumer 1 τ = some r) ∧ ((s.core d c).vx.loops = []) ∧ (r.tiles = []) ∧ (s.badTags = []) ∧ (r.level ≠ 1) ∧ (bits (s.core d c).vx.fault 63 56 = 0) := by
  repeat' apply And.intro
  all_goals first | decide +kernel

theorem wit_TagsVerifyAndScrub_verifyingReadRaced :
  let d : Fin 16 := 3
  let c : Fin 32 := 5
  let τ : Fin 2048 := 9
  let r : Run := { num := 5, word := cmdWord 0x10 0, ins := [9] }
  let s : State := onCore 3 5 (fun x => { x with q0 := { enable := true, run := [{ num := 5, word := cmdWord 0x10 0, ins := [9] }] } })
  (TablesRise s) ∧ (s.dieRuns d = true) ∧ (CoreRises (s.core d c)) ∧ ((s.core d c).consumer 0 τ = some r) ∧ (r.level = 0) ∧ (r.tiles = []) ∧ (bits (s.core d c).mx.fault 63 56 = 0) := by decide +kernel

theorem wit_TagsVerifyAndScrub_verifyingReadUnused :
  let d : Fin 16 := 3
  let c : Fin 32 := 5
  let τ : Fin 2048 := 9
  let s : State := up
  (s.dieRuns d = true) ∧ ((s.core d c).consumer 0 τ.val = none) ∧ ((s.core d c).consumer 1 τ.val = none) := by decide +kernel

theorem wit_TagsVerifyAndScrub_verifyingReadTag :
  let d : Fin 16 := 3
  let c : Fin 32 := 5
  let τ : Fin 2048 := 9
  let s : State := up
  (s.dieRuns d = true) ∧ ((s.core d c).consumer 0 τ.val = none) ∧ ((s.core d c).consumer 1 τ.val = none) := by decide +kernel

theorem wit_TagsVerifyAndScrub_verifyingReadHbmUncorrectable :
  let d : Fin 16 := 3
  let s : State := up
  (TablesRise s) ∧ (s.dieRuns d = true) ∧ (s.obj 0x6020 2 + 1 < 2 ^ 32) := by decide +kernel

theorem wit_TagsVerifyAndScrub_verifyingReadHbmCorrected :
  let d : Fin 16 := 3
  let s : State := up
  (TablesRise s) ∧ (DieRises (s.die d)) ∧ (s.dieRuns d = true) ∧ (s.obj 0x6020 1 + 1 < 2 ^ 32) := by decide +kernel

theorem wit_TagsVerifyAndScrub_verifyingReadAsleep :
  let d : Fin 16 := 4
  let s : State := up
  (s.dieRuns d = false) := by decide +kernel

theorem wit_TagsVerifyAndScrub_lsScrubClean :
  let d : Fin 16 := 3
  let c : Fin 32 := 5
  let n : Fin 2048 := 7
  let s : State := up.setTile 3 (lsAddr 5 (4096 * 7)) { tag := 0x98F94189, st := .valid }
  (TablesRise s) ∧ (s.dieRuns d = true) ∧ (s.coreOut d c = false) ∧ ((s.core d c).scrubAt + s.scrubPace (4 * tickUs) ≤ s.time) ∧ (s.nextValid (tileKey d (lsAddr c 0) + (s.core d c).scrub) (tileKey d (lsAddr c 0) + 2048) = some (tileKey d (lsAddr c 0) + n.val)) ∧ (s.verify d (lsAddr c (4096 * n.val)) 0 = none) := by
  repeat' apply And.intro
  all_goals first | exact verify_zeros _ _ | decide +kernel

theorem wit_TagsVerifyAndScrub_lsScrubFindsBad :
  let d : Fin 16 := 3
  let c : Fin 32 := 5
  let n : Fin 2048 := 7
  let s : State := up.setTile 3 (lsAddr 5 (4096 * 7)) { tag := 5, st := .valid }
  (TablesRise s) ∧ (s.dieRuns d = true) ∧ (s.coreOut d c = false) ∧ (s.badTags = []) ∧ ((s.core d c).scrubAt + s.scrubPace (4 * tickUs) ≤ s.time) ∧ (s.nextValid (tileKey d (lsAddr c 0) + (s.core d c).scrub) (tileKey d (lsAddr c 0) + 2048) = some (tileKey d (lsAddr c 0) + n.val)) ∧ (s.obj 0x6010 4 + 1 < 2 ^ 32) ∧ ((s.tile d (lsAddr c (4096 * n.val))).st = .valid) := by decide +kernel

theorem wit_TagsVerifyAndScrub_lsScrubPassEnds :
  let d : Fin 16 := 3
  let c : Fin 32 := 5
  let s : State := onCore 3 5 (fun x => { x with scrub := 9 })
  (TablesRise s) ∧ (s.dieRuns d = true) ∧ (s.coreOut d c = false) ∧ ((s.core d c).scrubAt + s.scrubPace (4 * tickUs) ≤ s.time) ∧ (s.nextValid (tileKey d (lsAddr c 0)) (tileKey d (lsAddr c 0) + 2048) = none) ∧ (s.nextValid (tileKey d (lsAddr c 0) + (s.core d c).scrub) (tileKey d (lsAddr c 0) + 2048) = none) := by decide +kernel

theorem wit_TagsVerifyAndScrub_lsScrubNotDue :
  let d : Fin 16 := 3
  let c : Fin 32 := 5
  let s : State := onCore 3 5 (fun x => { x with scrubAt := 2 * tickS })
  (s.time < (s.core d c).scrubAt + s.scrubPace (4 * tickUs)) := by decide +kernel

theorem wit_TagsVerifyAndScrub_hbmScrubClean :
  let d : Fin 16 := 3
  let n : Fin 0x6000000 := 5
  let s : State := up.setTile 3 (4096 * 5) { tag := 0x98F94189, st := .valid }
  (TablesRise s) ∧ (s.dieRuns d = true) ∧ ((s.die d).scrubAt + s.scrubPace (4096 * tickUs / 10) ≤ s.time) ∧ (s.nextValid (tileKey d 0 + (s.die d).scrub) (tileKey d 0 + 0x6000000) = some (tileKey d 0 + n.val)) ∧ (s.hbmBusy d = false ∨ s.scrubDue d + 100 * tickUs ≤ s.time) ∧ (s.verify d (4096 * n.val) 0 = none) := by
  repeat' apply And.intro
  all_goals first | exact verify_zeros _ _ | decide +kernel

theorem wit_TagsVerifyAndScrub_hbmScrubWaits :
  let d : Fin 16 := 3
  let s : State := onDie 3 (fun x => { x with hbmWait := [⟨.host, 64, [], 0, []⟩], scrubAt := 2 * tickS })
  (s.hbmBusy d = true) ∧ (s.time < s.scrubDue d + 100 * tickUs) := by decide +kernel

theorem wit_TagsVerifyAndScrub_hbmScrubFindsBad :
  let d : Fin 16 := 3
  let n : Fin 0x6000000 := 5
  let s : State := up.setTile 3 (4096 * 5) { tag := 0x98F94189, st := .valid }
  (TablesRise s) ∧ (s.dieRuns d = true) ∧ (s.badTags = []) ∧ ((s.die d).scrubAt + s.scrubPace (4096 * tickUs / 10) ≤ s.time) ∧ (s.hbmBusy d = false) ∧ (s.nextValid (tileKey d 0 + (s.die d).scrub) (tileKey d 0 + 0x6000000) = some (tileKey d 0 + n.val)) ∧ ((s.tile d (4096 * n.val)).st = .valid) ∧ (s.obj 0x6010 4 + 1 < 2 ^ 32) := by decide +kernel

theorem wit_TagsVerifyAndScrub_hbmScrubNotDue :
  let d : Fin 16 := 3
  let s : State := onDie 3 (fun x => { x with scrubAt := 2 * tickS })
  (s.time < (s.die d).scrubAt + s.scrubPace (4096 * tickUs / 10)) := by decide +kernel

theorem wit_HbmAccessRefreshRepair_hbmAccessWrite :
  let d : Fin 16 := 3
  let a : Fin 0x6000000000 := 0x5FFFFFFFE0
  let bs : List Byte := [1, 2, 3, 4, 5, 6, 7, 8, 9, 10, 11, 12, 13, 14, 15, 16, 17, 18, 19, 20, 21, 22, 23, 24, 25, 26, 27, 28, 29, 30, 31, 32]
  let p : List (Fin 74) := [7]
  let s : State := { up with badBursts := [memKey 3 0x5FFFFFFFE0 / 32] }
  (Memory.wf s.mem = true) ∧ (TablesRise s) ∧ (s.dieRuns d = true) ∧ ((s.die d).hbmWait = []) ∧ (bs.length = 32) ∧ (a.val % 32 = 0) ∧ (p.length ≤ 1) := by decide +kernel

theorem wit_HbmAccessRefreshRepair_hbmAccessPart :
  let d : Fin 16 := 3
  let a : Fin 0x6000000000 := 0x5FFFFFFFE8
  let bs : List Byte := [1, 2, 3]
  let p : List (Fin 74) := []
  let s : State := up
  (Memory.wf s.mem = true) ∧ (TablesRise s) ∧ (s.dieRuns d = true) ∧ ((s.die d).hbmWait = []) ∧ (0 < bs.length) ∧ (a.val % 32 + bs.length < 33) ∧ (bs.length < 32) ∧ (p.length ≤ 1) := by decide +kernel

theorem wit_HbmAccessRefreshRepair_hbmAccessRead :
  let d : Fin 16 := 3
  let p : List (Fin 74) := []
  let s : State := onDie 3 (fun x => { x with scrubAt := 2 * tickS })
  (TablesRise s) ∧ (s.dieRuns d = true) ∧ ((s.die d).hbmWait = []) ∧ (s.time < s.scrubDue d + 100 * tickUs) ∧ (p.length ≤ 1) := by decide +kernel

theorem wit_HbmAccessRefreshRepair_hbmAccessCorrected :
  let d : Fin 16 := 3
  let s : State := onDie 3 (fun x => { x with scrubAt := 2 * tickS, rowErrs := [((hbmDecode 0x123456780).key, [5])] })
  (DieRises (s.die d)) ∧ (TablesRise s) ∧ (s.dieRuns d = true) ∧ ((s.die d).hbmWait = []) ∧ (s.time < s.scrubDue d + 100 * tickUs) ∧ (s.obj 0x6020 1 + 1 < 2 ^ 32) := by decide +kernel

theorem wit_HbmAccessRefreshRepair_hbmAccessUncorrectable :
  let d : Fin 16 := 3
  let s : State := onDie 3 (fun x => { x with scrubAt := 2 * tickS })
  (TablesRise s) ∧ (s.dieRuns d = true) ∧ ((s.die d).hbmWait = []) ∧ (s.time < s.scrubDue d + 100 * tickUs) ∧ (s.obj 0x6020 2 + 1 < 2 ^ 32) := by decide +kernel

theorem wit_HbmAccessRefreshRepair_hbmAccessPoisons :
  let d : Fin 16 := 3
  let s : State := onDie 3 (fun x => { x with scrubAt := 2 * tickS })
  (TablesRise s) ∧ (s.dieRuns d = true) ∧ ((s.die d).hbmWait = []) ∧ (s.time < s.scrubDue d + 100 * tickUs) ∧ (s.obj 0x6020 3 + 2 < 2 ^ 32) := by decide +kernel

theorem wit_HbmAccessRefreshRepair_hbmAccessAsleep :
  let d : Fin 16 := 3
  let s : State := onDie 3 (fun x => { x with everActive := true, pstate := 3 })
  (Rises s.dies) ∧ (s.dieRuns d = false) ∧ ((s.die d).everActive = true) ∧ ((s.die d).pstate ≠ 5) := by decide +kernel

theorem wit_HbmAccessRefreshRepair_hbmAccessNoRails :
  let d : Fin 16 := 3
  let s : State := onDie 3 (fun x => { x with everActive := true, pstate := 5 })
  ((s.die d).everActive = false ∨ (s.die d).pstate = 5) := by decide +kernel

theorem wit_HbmAccessRefreshRepair_hbmRefresh :
  let d : Fin 16 := 3
  let st : Fin 4 := 3
  let ch : Fin 32 := 31
  let pc : Fin 2 := 1
  let s : State := onDie 3 (fun x => { x with refresh := [(255, (63, 9))] })
  (Rises s.dies) ∧ (DieRises (s.die d)) ∧ (s.dieRuns d = true) ∧ (15625 ≤ (s.time - (mapGet (0, 0) (s.die d).refresh (st.val + 4 * ch.val + 128 * pc.val)).2) * s.band d st) := by decide +kernel

theorem wit_HbmAccessRefreshRepair_hbmSensorSample :
  let d : Fin 16 := 3
  let s : State := up
  (Rises s.dies) ∧ (DieRises (s.die d)) ∧ (Rises s.dict) ∧ (s.dieRuns d = true) := by decide +kernel

theorem wit_HbmAccessRefreshRepair_hbmRowRepair :
  let d : Fin 16 := 3
  let r : RowRef := { stack := 3, chan := 31, pc := 1, sid := 3, bg := 3, ba := 3, row := 24575 }
  let s : State := (onDie 3 (fun x => { x with rowBad := [rowRefKey { stack := 3, chan := 31, pc := 1, sid := 3, bg := 3, ba := 3, row := 24575 }] })).setObj 0x6820 2 1
  (TablesRise s) ∧ (DieRises (s.die d)) ∧ (s.dieRuns d = true) ∧ (s.obj 0x6820 2 = 1) ∧ ((s.die d).rowBad.contains (rowRefKey r) = true ∨ s.obj 0x6820 1 ≤ ((mapGet [] (s.die d).rowErrs (rowRefKey r)).filter (fun τ => decide (s.time < τ + 86400 * tickS))).length) ∧ (0 < (s.die d).spareRows (rowRefKey r / 24576)) := by decide +kernel

theorem wit_HbmAccessRefreshRepair_hbmRowRepairNotDue :
  let d : Fin 16 := 3
  let r : RowRef := { stack := 3, chan := 31, pc := 1, sid := 3, bg := 3, ba := 3, row := 24575 }
  let s : State := up.setObj 0x6820 1 4
  ((s.die d).rowBad = []) ∧ ((mapGet [] (s.die d).rowErrs (rowRefKey r)).length < s.obj 0x6820 1) := by decide +kernel

theorem wit_HbmAccessRefreshRepair_hbmLaneRepair_1 :
  let d : Fin 16 := 3
  let l : LaneRef := { stack := 3, chan := 31, lane := 73 }
  let s : State := (onDie 3 (fun x => { x with laneErrs := [(laneKey 3 31 73, List.replicate 16 (2 * tickS))] })).setObj 0x6820 2 1
  (TablesRise s) ∧ (DieRises (s.die d)) ∧ (s.dieRuns d = true) ∧ (s.obj 0x6820 2 = 1 ∨ (s.die d).spareFor (laneKey l.stack l.chan l.lane) = 0) ∧ (16 ≤ ((mapGet [] (s.die d).laneErrs (laneKey l.stack l.chan l.lane)).filter (fun τ => decide (s.time < τ + tickS))).length) := by decide +kernel

theorem wit_HbmAccessRefreshRepair_hbmLaneRepair_2 :
  let d : Fin 16 := 3
  let l : LaneRef := { stack := 3, chan := 31, lane := 73 }
  let s : State := onDie 3 (fun x => { x with lanes := [laneKey 3 31 1, laneKey 3 31 2], laneErrs := [(laneKey 3 31 73, List.replicate 16 (2 * tickS))] })
  (TablesRise s) ∧ (DieRises (s.die d)) ∧ (s.dieRuns d = true) ∧ (s.obj 0x6820 2 = 1 ∨ (s.die d).spareFor (laneKey l.stack l.chan l.lane) = 0) ∧ (16 ≤ ((mapGet [] (s.die d).laneErrs (laneKey l.stack l.chan l.lane)).filter (fun τ => decide (s.time < τ + tickS))).length) := by decide +kernel

theorem wit_RepairRecordsWritten_repairRecordUpdate :
  let n : Fin 25 := 3
  let s : State := onDie 3 (fun x => { x with retired := [7] })
  (Rises s.flash.recs) ∧ (s.sys.ball ≠ none) ∧ ((mapGet { } s.flash.recs n.val).best ≠ some (s.recBody n.val false)) := by decide +kernel

theorem wit_RepairRecordsWritten_repairRecordUpdateFails :
  let n : Fin 25 := 3
  let s : State := onDie 3 (fun x => { x with retired := [7] })
  (Rises s.flash.recs) ∧ (s.sys.ball ≠ none) ∧ ((mapGet { } s.flash.recs n.val).best ≠ some (s.recBody n.val false)) := by decide +kernel

theorem wit_RepairRecordsWritten_recordWriteRetry :
  let n : Fin 25 := 3
  let τ : Nat := 10
  let s : State := { up with flash := { up.flash with recs := [(3, { retryAt := some 10 })] } }
  (Rises s.flash.recs) ∧ (s.sys.ball ≠ none) ∧ ((mapGet { } s.flash.recs n.val).retryAt = some τ) ∧ (τ ≤ s.time) := by decide +kernel

theorem wit_RepairRecordsWritten_recordWriteNotDue :
  let n : Fin 25 := 3
  let τ : Nat := 3 * tickS
  let s : State := { up with flash := { up.flash with recs := [(3, { retryAt := some (3 * tickS) })] } }
  ((mapGet { } s.flash.recs n.val).retryAt = some τ) ∧ (s.time < τ) := by decide +kernel

theorem wit_WhistlesAndCalibration_whistleSend :
  let p : Fin 128 := 77
  let s : State := ({ up with gt := { st := 1, hops := 3 } }.modBank (up.bankOf 77) (fun x => { x with st := 3 }))
  (s.linkUp p = true) ∧ (s.fenced = false) ∧ (s.portSt p ≠ 6 ∨ (s.port p).onL0 = false) ∧ (s.gtNow < 2 ^ 64) ∧ (s.moduleId < 2 ^ 16) ∧ (s.epoch < 2 ^ 32) := by decide +kernel

theorem wit_WhistlesAndCalibration_whistleSendSilent_1 :
  let p : Fin 128 := 77
  let s : State := up
  (s.linkUp p = false ∨ s.fenced = true ∨ (s.portSt p = 6 ∧ (s.port p).onL0 = true)) := by decide +kernel

theorem wit_WhistlesAndCalibration_whistleSendSilent_2 :
  let p : Fin 128 := 77
  let s : State := ({ up with gt := { st := 1, hops := 3 } }.modBank (up.bankOf 77) (fun x => { x with st := 3 })).setObj 0x8000 1 3
  (s.linkUp p = false ∨ s.fenced = true ∨ (s.portSt p = 6 ∧ (s.port p).onL0 = true)) := by decide +kernel

theorem wit_WhistlesAndCalibration_whistleReceiveUpstream :
  let p : Fin 128 := 77
  let f : BitVec 256 := BitVec.ofNat 256 (field 248 1 + field 244 1 + field 242 1 + field 224 4 + field 208 9 + field 192 8 + field 128 5000)
  let st : BitVec 64 := 7000
  let l0 : Bool := false
  let s : State := ({ up with gt := { st := 1, up := some 77, hops := 5, ref := 9, ports := [(77, { cal := true })] } }.modBank (up.bankOf 77) (fun x => { x with st := 3 }))
  let x : GtPort := ((s.gtPort 77).hear f 7000 s.time false)
  (Rises s.gt.ports) ∧ (s.linkUp p = true) ∧ (bits f 255 248 = 1) ∧ (bits f 31 0 = s.epoch) ∧ (mapGet 0 s.flt.ump.suspects (bits f 207 192) = 0) ∧ (s.gt.referee = false) ∧ (s.gt.st = 1) ∧ (s.gt.up = some p.val) ∧ (s.gt.waiting = false) ∧ (s.gt.notBefore ≤ s.time) ∧ ((s.gtPort p).cal = true) ∧ (bit f 242 = true) ∧ (bits f 247 244 = 1) ∧ (bits f 231 224 < 63) ∧ ((s.gtPort p).hear f st s.time l0 = x) ∧ ((((x.ttx.toNat : Int) + (if (s.port p).onL0 = true then x.delay0 else x.delayS)).toNat : Int) - s.gtNow ≤ 512) := by
  repeat' apply And.intro
  all_goals first | decide +kernel

theorem wit_WhistlesAndCalibration_whistleReceiveCounts :
  let p : Fin 128 := 77
  let f : BitVec 256 := BitVec.ofNat 256 (field 248 1 + field 244 2 + field 224 4 + field 208 9 + field 192 8 + field 128 5000 + field 64 100 + field 32 60)
  let s : State := ({ up with gt := { waiting := true, ports := [(77, { nS := 255, delayS := 4 })] } }.modBank (up.bankOf 77) (fun x => { x with st := 3 }))
  (Rises s.gt.ports) ∧ (s.linkUp p = true) ∧ (bits f 255 248 = 1) ∧ (bits f 31 0 = s.epoch) ∧ (mapGet 0 s.flt.ump.suspects (bits f 207 192) = 0) ∧ (s.gt.referee = false) ∧ (s.gt.st ≠ 1) ∧ (s.gt.waiting = true) ∧ ((s.gtPort p).cal = false) ∧ ((s.gtPort p).nS < 256) ∧ (bits f 247 244 ≠ 1) ∧ (bits f 127 64 ≠ 0 ∨ bits f 63 32 ≠ 0) := by
  repeat' apply And.intro
  all_goals first | decide +kernel

theorem wit_WhistlesAndCalibration_whistleReceiveCountsL0 :
  let p : Fin 128 := 77
  let f : BitVec 256 := BitVec.ofNat 256 (field 248 1 + field 244 2 + field 224 4 + field 208 9 + field 192 8 + field 128 5000 + field 64 100 + field 32 60)
  let s : State := ({ up with gt := { waiting := true, ports := [(77, { nS := 256, n0 := 255, delay0 := 4 })] } }.modBank (up.bankOf 77) (fun x => { x with st := 3 }))
  (Rises s.gt.ports) ∧ (s.linkUp p = true) ∧ (bits f 255 248 = 1) ∧ (bits f 31 0 = s.epoch) ∧ (mapGet 0 s.flt.ump.suspects (bits f 207 192) = 0) ∧ (s.gt.referee = false) ∧ (s.gt.st ≠ 1) ∧ (s.gt.waiting = true) ∧ ((s.gtPort p).cal = false) ∧ ((s.gtPort p).n0 < 256) ∧ (bits f 247 244 ≠ 1) ∧ (bits f 127 64 ≠ 0 ∨ bits f 63 32 ≠ 0) := by
  repeat' apply And.intro
  all_goals first | decide +kernel

theorem wit_WhistlesAndCalibration_whistleReceiveLocks :
  let p : Fin 128 := 77
  let f : BitVec 256 := BitVec.ofNat 256 (field 248 1 + field 244 1 + field 242 1 + field 224 4 + field 208 9 + field 192 8 + field 128 5000)
  let st : BitVec 64 := 7000
  let l0 : Bool := false
  let s : State := ({ up with gt := { st := 0, hops := 5, ref := 9, ports := [(77, { cal := true, delayS := 30 })] } }.modBank (up.bankOf 77) (fun x => { x with st := 3 }))
  let x : GtPort := ((s.gtPort 77).hear f 7000 s.time false)
  (s.linkUp p = true) ∧ (bits f 255 248 = 1) ∧ (bits f 31 0 = s.epoch) ∧ (mapGet 0 s.flt.ump.suspects (bits f 207 192) = 0) ∧ (s.gt.referee = false) ∧ (s.gt.st = 0) ∧ (s.gt.hold = none) ∧ (s.gt.waiting = false) ∧ (s.gt.notBefore ≤ s.time) ∧ (s.gt.ports = [(p.val, s.gtPort p)]) ∧ ((s.gtPort p).cal = true) ∧ (bit f 242 = true) ∧ (bits f 247 244 = 1) ∧ (bits f 231 224 < 63) ∧ (NoTargets s) ∧ ((s.gtPort p).hear f st s.time l0 = x) := by
  repeat' apply And.intro
  all_goals first | decide +kernel

theorem wit_WhistlesAndCalibration_linkCalibrationDone :
  let p : Fin 128 := 77
  let s : State := ({ up with gt := { ports := [(77, { nS := 256, n0 := 256, delayS := -1000, delay0 := 512 })] } }.modBank (up.bankOf 77) (fun x => { x with st := 3 }))
  (Rises s.gt.ports) ∧ (s.linkUp p = true) ∧ ((s.gtPort p).cal = false) ∧ ((s.gtPort p).nS = 256) ∧ ((s.gtPort p).n0 = 256) := by decide +kernel

theorem wit_GameTimeLockAndLoss_gtLossOfLock :
  let s : State := { up with gt := { st := 1, up := some 3, ppm := -7, lastStamp := tickS } }
  (Rises s.dict) ∧ (s.gt.st = 1) ∧ (s.gt.referee = false) ∧ (s.gt.lastStamp + 10 * tickUs ≤ s.time) ∧ (NoTargets s) ∧ (Unbound s) ∧ (s.obj 0x5100 7 + 1 < 2 ^ 32) := by decide +kernel

theorem wit_GameTimeLockAndLoss_gtLossCancelsStrict :
  let d : Fin 16 := 3
  let e : Fin 64 := 63
  let w : BitVec 256 := BitVec.ofNat 256 (field 255 1 + field 254 1 + field 64 9999)
  let s : State := { (onDie 3 (fun x => { x with ko := [(63, BitVec.ofNat 256 (field 255 1 + field 254 1 + field 64 9999))] })) with gt := { st := 1, up := some 3, ppm := -7, lastStamp := tickS } }
  (TablesRise s) ∧ (s.gt.st = 1) ∧ (s.gt.referee = false) ∧ (s.gt.lastStamp + 10 * tickUs ≤ s.time) ∧ (s.awaiting = []) ∧ (Unbound s) ∧ ((s.die d).ko = [(e.val, w)]) ∧ (koArmed w = true) ∧ (koStrict w = true) := by decide +kernel

theorem wit_GameTimeLockAndLoss_gtLossReleasesStrict :
  let d : Fin 16 := 3
  let c : Fin 32 := 5
  let r : Run := { num := 5, word := cmdWord 0x40 0, bound := some (2, 4), opened := false, awaits := [.txn 3] }
  let i : Nat := 2
  let n : Nat := 4
  let s : State := { (onCore 3 5 (fun x => { x with q2 := { enable := true, run := [{ num := 5, word := cmdWord 0x40 0, bound := some (2, 4), opened := false, awaits := [.txn 3] }] } })).modDie 3 (fun x => { x with rs := [(2, BitVec.ofNat 256 (2^255 + 2^254))] }) with gt := { st := 1, up := some 3, lastStamp := tickS } }
  (TablesRise s) ∧ (s.gt.st = 1) ∧ (s.gt.referee = false) ∧ (s.gt.lastStamp + 10 * tickUs ≤ s.time) ∧ (NoTargets s) ∧ (∀ k : Fin 16, Quiet s k.val) ∧ ((s.core d c).q2.run = [r]) ∧ (r.bound = some (i, n)) ∧ (rsStrict (s.rs d i) = true) := by decide +kernel

theorem wit_GameTimeLockAndLoss_gtLossOfLockNot :
  let s : State := up
  (s.gt.st ≠ 1 ∨ s.gt.referee = true ∨ s.time < s.gt.lastStamp + 10 * tickUs) := by decide +kernel

theorem wit_GameTimeLockAndLoss_holdoverWaitEnd :
  let s : State := { up with gt := { st := 2, waiting := true, since := tickS } }
  (s.gt.st = 2) ∧ (s.gt.waiting = true) ∧ (s.gt.since + 20 * tickUs ≤ s.time) := by decide +kernel

theorem wit_GameTimeLockAndLoss_gtHoldEnd :
  let τ : Nat := tickS
  let s : State := { up with gt := { st := 2, hold := some tickS, base := 77777 } }
  (s.gt.hold = some τ) ∧ (τ ≤ s.time) ∧ (NoTargets s) := by decide +kernel

theorem wit_GameTimeLockAndLoss_gtHoldEndFiresLate :
  let τ : Nat := tickS
  let d : Fin 16 := 3
  let e : Fin 64 := 63
  let w : BitVec 256 := BitVec.ofNat 256 (field 255 1 + field 248 3 + field 222 7 + field 128 12345 + field 64 999)
  let s : State := { (onDie 3 (fun x => { x with ko := [(63, BitVec.ofNat 256 (field 255 1 + field 248 3 + field 222 7 + field 128 12345 + field 64 999))] })) with gt := { st := 2, hold := some tickS, base := 77777 } }
  (TablesRise s) ∧ (DieRises (s.die d)) ∧ (s.gt.hold = some τ) ∧ (τ ≤ s.time) ∧ (s.awaiting = []) ∧ (∀ k : Fin 16, k ≠ d → (s.die k.val).ko = []) ∧ ((s.die d).ko = [(e.val, w)]) ∧ ((s.die d).gtResync = false) ∧ (koArmed w = true) ∧ (koAction w = 3) ∧ (koPeriodic w = false) ∧ (koLateSkip w = false) ∧ (s.gt.frac < 1000000) ∧ (koTarget w + 128 ≤ s.gt.base) ∧ (s.gt.base < 2 ^ 64) := by
  repeat' apply And.intro
  all_goals first | decide +kernel

theorem wit_GameTimeLockAndLoss_refereeTakeover :
  let s : State := ({ up with gt := { st := 2, since := 5, base := 77, ppm := 9 } }.setObj 0x5101 1 4).setObj 0x5000 1 12
  (s.gt.st = 2 ∨ (s.gt.st = 0 ∧ (s.obj 0xB000 1 = 11 ∨ s.obj 0xB000 1 = 12))) ∧ (s.gt.referee = false) ∧ (NoTargets s) ∧ (s.obj 0x5101 1 < 255) ∧ ((if s.gt.st = 0 then max s.gt.lastLocked s.gt.since else s.gt.lastLocked) + (s.obj 0x5900 1 + 20 * s.obj 0x5101 1) * tickUs ≤ s.time) := by decide +kernel

theorem wit_GameTimeLockAndLoss_dieGtResync :
  let d : Fin 16 := 15
  let s : State := onDie 15 (fun x => { x with everActive := true, gtResync := true })
  (Rises s.dies) ∧ (s.dieRuns d = true) ∧ ((s.die d).gtResync = true) ∧ ((s.die d).ko = []) := by decide +kernel

theorem wit_GameTimeLockAndLoss_dieGtResyncNot :
  let d : Fin 16 := 3
  let s : State := up
  (s.dieRuns d = false ∨ (s.die d).gtResync = false) := by decide +kernel

theorem wit_GameTimeLockAndLoss_ppsEdgeSets :
  let v : BitVec 64 := 20000000000
  let s : State := { up with gt := { st := 1, referee := true, base := 77, ppsSet := some 20000000000 } }
  (s.gt.referee = true) ∧ (s.gt.ppsSet = some v) ∧ (s.gtNow ≤ v.toNat * 256 + s.gtNow % 256) ∧ (NoTargets s) := by decide +kernel

theorem wit_GameTimeLockAndLoss_ppsEdgeSlews :
  let n : Nat := 1000
  let s : State := ({ up with gt := { st := 1, referee := true, base := 77, ppsBad := 2 } }).setObj 0x5101 2 1
  (s.gt.referee = true) ∧ (s.gt.ppsSet = none) ∧ (s.obj 0x5101 2 = 1) ∧ (1000 ≤ n) ∧ (n ≤ 500000000) ∧ (((nearestSecond s.gtNow : Int) - s.gtNow).natAbs ≤ 256000) := by decide +kernel

theorem wit_GameTimeLockAndLoss_ppsEdgeCounts :
  let n : Nat := 500000000
  let s : State := ({ up with gt := { st := 1, referee := true, base := 256001, ppsBad := 1, ppm := 8 } }).setObj 0x5101 2 1
  (s.gt.referee = true) ∧ (s.gt.ppsSet = none) ∧ (s.obj 0x5101 2 = 1) ∧ (1000 ≤ n) ∧ (n ≤ 500000000) ∧ (256000 < ((nearestSecond s.gtNow : Int) - s.gtNow).natAbs) ∧ (s.gt.ppsBad < 2) := by decide +kernel

theorem wit_GameTimeLockAndLoss_ppsEdgeSteps :
  let n : Nat := 500000000
  let s : State := ({ up with gt := { st := 1, referee := true, base := 200000000000, ppsBad := 2, ppm := 8 } }).setObj 0x5101 2 1
  (s.gt.referee = true) ∧ (s.gt.st ≠ 0) ∧ (s.gt.ppsSet = none) ∧ (s.obj 0x5101 2 = 1) ∧ (1000 ≤ n) ∧ (n ≤ 500000000) ∧ (256000 < (nearestSecond s.gtNow : Int) - s.gtNow) ∧ (s.gt.ppsBad = 2) ∧ (NoTargets s) := by decide +kernel

theorem wit_GameTimeLockAndLoss_ppsEdgeHolds :
  let n : Nat := 500000000
  let s : State := ({ up with gt := { st := 1, referee := true, base := 256001, ppsBad := 2, ppm := 8 } }).setObj 0x5101 2 1
  (s.gt.referee = true) ∧ (s.gt.st ≠ 0) ∧ (s.gt.ppsSet = none) ∧ (s.obj 0x5101 2 = 1) ∧ (1000 ≤ n) ∧ (n ≤ 500000000) ∧ ((nearestSecond s.gtNow : Int) - s.gtNow < -256000) ∧ (s.gt.ppsBad = 2) ∧ (NoTargets s) ∧ (Unbound s) := by
  repeat' apply And.intro
  all_goals first | decide +kernel

theorem wit_GameTimeLockAndLoss_ppsEdgeIgnored :
  let n : Nat := 999
  let s : State := ({ up with gt := { st := 1, referee := true } }).setObj 0x5101 2 1
  (s.gt.referee = false ∨ (s.gt.ppsSet = none ∧ (s.obj 0x5101 2 ≠ 1 ∨ n < 1000 ∨ 500000000 < n))) := by decide +kernel

theorem wit_GameTimeLockAndLoss_tenMhzMonitorLocks :
  let v : Int := -10
  let s : State := ({ up with gt := { st := 1, referee := true, base := 77 } }).setObj 0x5101 2 1
  (s.gt.referee = true) ∧ (s.obj 0x5101 2 = 1) ∧ (-10 ≤ v) ∧ (v ≤ 10) := by decide +kernel

theorem wit_GameTimeLockAndLoss_tenMhzMonitorLost :
  let b : Bool := true
  let v : Int := 11
  let s : State := ({ up with gt := { st := 1, referee := true, base := 77, tenMhz := true } }).setObj 0x5101 2 1
  (s.gt.referee = true) ∧ (s.obj 0x5101 2 = 1) ∧ (b = false ∨ 10 < v ∨ v < -10) := by decide +kernel

theorem wit_GameTimeLockAndLoss_timeIn10mReturn :
  let s : State := ({ up with gt := { st := 1, referee := true, base := 77 } }).setObj 0x5101 2 1
  (s.gt.referee = true) ∧ (s.obj 0x5101 2 = 1) := by decide +kernel

theorem wit_GameTimeLockAndLoss_timeIn10mReturnIgnored :
  let s : State := up
  (s.gt.referee = false ∨ s.obj 0x5101 2 ≠ 1) := by decide +kernel

theorem wit_GameTimeLockAndLoss_tenMhzMonitorIgnored :
  let s : State := up
  (s.gt.referee = false ∨ s.obj 0x5101 2 ≠ 1) := by decide +kernel

theorem wit_GameTimeLockAndLoss_gtSet :
  let v : BitVec 64 := 20000000000
  let s : State := { up with gt := { st := 1, referee := true, base := 77 } }
  (Writable s) ∧ (s.gt.referee = true) ∧ (s.gtNow ≤ v.toNat * 256 + s.gtNow % 256) ∧ (v.toNat < 2 ^ 56) ∧ (NoTargets s) := by decide +kernel

theorem wit_GameTimeLockAndLoss_gtSetRefused_1 :
  let v : BitVec 64 := 5
  let s : State := { up with gt := { st := 1, referee := true, base := 77 } }
  (Writable s) ∧ (s.gt.referee = false ∨ v.toNat * 256 + s.gtNow % 256 < s.gtNow ∨ 2 ^ 56 ≤ v.toNat) := by decide +kernel

theorem wit_GameTimeLockAndLoss_gtSetRefused_2 :
  let v : BitVec 64 := 20000000000
  let s : State := { up with gt := { st := 1, base := 77 } }
  (Writable s) ∧ (s.gt.referee = false ∨ v.toNat * 256 + s.gtNow % 256 < s.gtNow ∨ 2 ^ 56 ≤ v.toNat) := by decide +kernel

theorem wit_GameTimeLockAndLoss_gtSetAtPps :
  let v : BitVec 64 := 20000000000
  let s : State := { up with gt := { st := 1, referee := true, base := 77 } }
  (Writable s) ∧ (s.gt.referee = true) ∧ (v.toNat < 2 ^ 56) ∧ (s.gtNow ≤ v.toNat * 256 + s.gtNow % 256) := by decide +kernel

theorem wit_GameTimeLockAndLoss_gtSetAtPpsRefused :
  let v : BitVec 64 := 5
  let s : State := { up with gt := { st := 1, referee := true, base := 77777 } }
  (Writable s) ∧ (s.gt.referee = false ∨ v.toNat * 256 + s.gtNow % 256 < s.gtNow ∨ 2 ^ 56 ≤ v.toNat) := by decide +kernel

theorem wit_KickoffsAndRounds_kickoffArm :
  let d : Fin 16 := 3
  let e : Fin 64 := 63
  let top : BitVec 64 := BitVec.ofNat 64 (field 63 1 + field 56 3 + field 30 7)
  let w : BitVec 256 := putBits (putBits (BitVec.ofNat 256 (field 64 999999999999999)) 255 196 (bits (BitVec.ofNat 64 (field 63 1 + field 56 3 + field 30 7)) 63 4)) 221 196 0
  let s : State := { (onDie 3 (fun x => { x with ko := [(63, BitVec.ofNat 256 (field 64 999999999999999))] })) with gt := { st := 1 } }
  (TablesRise s) ∧ (DieRises (s.die d)) ∧ (koArmed (s.ko d e) = false) ∧ (w = putBits (putBits (s.ko d e) 255 196 (bits top 63 4)) 221 196 0) ∧ (bit top 63 = true) ∧ (koAction w ≤ 3) ∧ (¬ (koPeriodic w = true ∧ koPeriod w < 100)) ∧ (koAction w ≤ 2 → s.coreOut d (koCore w) = false) ∧ (koStrict w = true → s.gtState d ≠ 2) ∧ (s.gtState d = 0 ∨ s.gt.hold ≠ none ∨ (s.localGt d).toNat ≤ koTarget w) := by
  repeat' apply And.intro
  all_goals first | decide +kernel

theorem wit_KickoffsAndRounds_kickoffArmRefused :
  let d : Fin 16 := 3
  let e : Fin 64 := 63
  let top : BitVec 64 := BitVec.ofNat 64 (field 63 1 + field 56 4)
  let w : BitVec 256 := putBits (putBits (BitVec.ofNat 256 (field 64 999999999999999)) 255 196 (bits (BitVec.ofNat 64 (field 63 1 + field 56 4)) 63 4)) 221 196 0
  let s : State := { (onDie 3 (fun x => { x with ko := [(63, BitVec.ofNat 256 (field 64 999999999999999))] })) with gt := { st := 1 } }
  (TablesRise s) ∧ (DieRises (s.die d)) ∧ (koArmed (s.ko d e) = false) ∧ (w = putBits (putBits (s.ko d e) 255 196 (bits top 63 4)) 221 196 0) ∧ (bit top 63 = true) ∧ (4 ≤ koAction w ∨ (koPeriodic w = true ∧ koPeriod w < 100) ∨ (koAction w ≤ 2 ∧ s.coreOut d (koCore w) = true)) := by decide +kernel

theorem wit_KickoffsAndRounds_kickoffArmStrictLost :
  let d : Fin 16 := 3
  let e : Fin 64 := 63
  let top : BitVec 64 := BitVec.ofNat 64 (field 63 1 + field 62 1 + field 56 3 + field 30 7)
  let w : BitVec 256 := putBits (putBits (BitVec.ofNat 256 (field 64 999999999999999)) 255 196 (bits (BitVec.ofNat 64 (field 63 1 + field 62 1 + field 56 3 + field 30 7)) 63 4)) 221 196 0
  let s : State := { (onDie 3 (fun x => { x with ko := [(63, BitVec.ofNat 256 (field 64 999999999999999))] })) with gt := { st := 2 } }
  (TablesRise s) ∧ (DieRises (s.die d)) ∧ (koArmed (s.ko d e) = false) ∧ (w = putBits (putBits (s.ko d e) 255 196 (bits top 63 4)) 221 196 0) ∧ (bit top 63 = true) ∧ (koAction w ≤ 3) ∧ (¬ (koPeriodic w = true ∧ koPeriod w < 100)) ∧ (koAction w ≤ 2 → s.coreOut d (koCore w) = false) ∧ (koStrict w = true) ∧ (s.gtState d = 2) := by
  repeat' apply And.intro
  all_goals first | decide +kernel

theorem wit_KickoffsAndRounds_kickoffArmLateSkipped :
  let d : Fin 16 := 3
  let e : Fin 64 := 63
  let top : BitVec 64 := BitVec.ofNat 64 (field 63 1 + field 61 1 + field 56 3 + field 30 7)
  let w : BitVec 256 := putBits (putBits (BitVec.ofNat 256 (field 64 9 + field 128 77)) 255 196 (bits (BitVec.ofNat 64 (field 63 1 + field 61 1 + field 56 3 + field 30 7)) 63 4)) 221 196 0
  let s : State := { (onDie 3 (fun x => { x with ko := [(63, BitVec.ofNat 256 (field 64 9 + field 128 77))] })) with gt := { st := 1, base := 5000 } }
  (TablesRise s) ∧ (DieRises (s.die d)) ∧ (koArmed (s.ko d e) = false) ∧ (w = putBits (putBits (s.ko d e) 255 196 (bits top 63 4)) 221 196 0) ∧ (bit top 63 = true) ∧ (koAction w ≤ 3) ∧ (¬ (koPeriodic w = true ∧ koPeriod w < 100)) ∧ (koAction w ≤ 2 → s.coreOut d (koCore w) = false) ∧ (koPeriodic w = false) ∧ (koLateSkip w = true) ∧ (s.gtState d = 1) ∧ (s.gt.hold = none) ∧ (koTarget w < (s.localGt d).toNat) ∧ (s.obj 0x5100 8 + 1 < 2 ^ 32) := by
  repeat' apply And.intro
  all_goals first | decide +kernel

theorem wit_KickoffsAndRounds_kickoffArmArmed :
  let d : Fin 16 := 3
  let e : Fin 64 := 63
  let top : BitVec 64 := BitVec.ofNat 64 (field 63 1 + field 56 4)
  let s : State := { (onDie 3 (fun x => { x with ko := [(63, BitVec.ofNat 256 (field 255 1))] })) with gt := { st := 1 } }
  (koArmed (s.ko d e) = true) ∧ (bit top 63 = true) := by decide +kernel

theorem wit_KickoffsAndRounds_kickoffArmLate :
  let d : Fin 16 := 3
  let e : Fin 64 := 63
  let top : BitVec 64 := BitVec.ofNat 64 (field 63 1 + field 56 3 + field 30 7)
  let w : BitVec 256 := putBits (putBits (BitVec.ofNat 256 (field 64 9 + field 128 77)) 255 196 (bits (BitVec.ofNat 64 (field 63 1 + field 56 3 + field 30 7)) 63 4)) 221 196 0
  let s : State := { (onDie 3 (fun x => { x with ko := [(63, BitVec.ofNat 256 (field 64 9 + field 128 77))] })) with gt := { st := 1 } }
  (TablesRise s) ∧ (DieRises (s.die d)) ∧ (koArmed (s.ko d e) = false) ∧ (w = putBits (putBits (s.ko d e) 255 196 (bits top 63 4)) 221 196 0) ∧ (bit top 63 = true) ∧ (koAction w = 3) ∧ (koPeriodic w = false) ∧ (koLateSkip w = false) ∧ (s.gtState d = 1) ∧ (s.gt.hold = none) ∧ (koTarget w < (s.localGt d).toNat) ∧ (s.obj 0x5100 8 + 1 < 2 ^ 32) := by
  repeat' apply And.intro
  all_goals first | decide +kernel

theorem wit_KickoffsAndRounds_kickoffDisarm :
  let d : Fin 16 := 3
  let e : Fin 64 := 63
  let top : BitVec 64 := 0
  let s : State := { (onDie 3 (fun x => { x with ko := [(63, BitVec.ofNat 256 (field 255 1 + field 64 999999999999999))] })) with gt := { st := 1 } }
  (TablesRise s) ∧ (DieRises (s.die d)) ∧ (bit top 63 = false) ∧ (koArmed (s.ko d e) = false ∨ s.gtState d = 0 ∨ s.gt.hold ≠ none ∨ (s.localGt d).toNat < koTarget (s.ko d e)) := by decide +kernel

theorem wit_KickoffsAndRounds_kickoffFire :
  let d : Fin 16 := 3
  let e : Fin 64 := 63
  let s : State := { (onDie 3 (fun x => { x with ko := [(63, BitVec.ofNat 256 (field 255 1 + field 248 3 + field 222 4095 + field 128 12345 + field 64 999 + 2))] })) with gt := { st := 1 } }
  (TablesRise s) ∧ (DieRises (s.die d)) ∧ (s.gtRuns d = true) ∧ ((s.koDue d (s.localGt d).toNat).head? = some e.val) ∧ (koAction (s.ko d e) = 3) ∧ (koPeriodic (s.ko d e) = false) ∧ (bits (s.ko d e) 15 0 < 0xFFFF) := by decide +kernel

theorem wit_KickoffsAndRounds_kickoffFireCounter :
  let d : Fin 16 := 3
  let e : Fin 64 := 63
  let c : Fin 32 := 5
  let s : State := { (onDie 3 (fun x => { x with ko := [(63, BitVec.ofNat 256 (field 255 1 + field 248 0 + field 243 5 + field 241 2 + field 238 7 + field 128 12345 + field 64 999 + 2))] })) with gt := { st := 1, base := 5000 } }
  (TablesRise s) ∧ (DieRises (s.die d)) ∧ (s.gtRuns d = true) ∧ ((s.koDue d (s.localGt d).toNat).head? = some e.val) ∧ (koPeriodic (s.ko d e) = false) ∧ (koAction (s.ko d e) = 0) ∧ (koCore (s.ko d e) = c.val) ∧ (s.coreOut d c = false) ∧ (s.substituting d c = false) := by decide +kernel

theorem wit_KickoffsAndRounds_kickoffFirePush :
  let d : Fin 16 := 3
  let e : Fin 64 := 63
  let c : Fin 32 := 5
  let s : State := { (onDie 3 (fun x => { x with ko := [(63, BitVec.ofNat 256 (field 255 1 + field 248 1 + field 243 5 + field 234 9 + field 128 12345 + field 64 999 + 2))] })) with gt := { st := 1, base := 5000 } }
  (TablesRise s) ∧ (DieRises (s.die d)) ∧ (s.gtRuns d = true) ∧ ((s.koDue d (s.localGt d).toNat).head? = some e.val) ∧ (koPeriodic (s.ko d e) = false) ∧ (koAction (s.ko d e) = 1) ∧ (koCore (s.ko d e) = c.val) ∧ (s.coreOut d c = false) ∧ (s.substituting d c = false) ∧ (((s.core d c).tileQueue (bits (s.ko d e) 237 234)).slots.length < 64) := by
  repeat' apply And.intro
  all_goals first | decide +kernel

theorem wit_KickoffsAndRounds_kickoffFireIrq :
  let d : Fin 16 := 3
  let e : Fin 64 := 63
  let c : Fin 32 := 5
  let s : State := { (onDie 3 (fun x => { x with ko := [(63, BitVec.ofNat 256 (field 255 1 + field 248 2 + field 243 5 + field 234 9 + field 128 12345 + field 64 999 + 2))] })) with gt := { st := 1, base := 5000 } }
  (TablesRise s) ∧ (DieRises (s.die d)) ∧ (s.gtRuns d = true) ∧ ((s.koDue d (s.localGt d).toNat).head? = some e.val) ∧ (koPeriodic (s.ko d e) = false) ∧ (koAction (s.ko d e) = 2) ∧ (koCore (s.ko d e) = c.val) ∧ (s.coreOut d c = false) ∧ (s.substituting d c = false) := by decide +kernel

theorem wit_KickoffsAndRounds_kickoffFirePeriodic :
  let d : Fin 16 := 3
  let e : Fin 64 := 63
  let s : State := { (onDie 3 (fun x => { x with ko := [(63, BitVec.ofNat 256 (field 255 1 + field 252 1 + field 248 3 + field 222 4095 + field 128 12345 + field 64 999 + field 32 100))] })) with gt := { st := 1, base := 500000 } }
  (TablesRise s) ∧ (DieRises (s.die d)) ∧ (s.gtRuns d = true) ∧ ((s.koDue d (s.localGt d).toNat).head? = some e.val) ∧ (koPeriodic (s.ko d e) = true) ∧ (koCount (s.ko d e) = 0) ∧ (koAction (s.ko d e) = 3) ∧ (100 ≤ koPeriod (s.ko d e)) ∧ ((s.localGt d).toNat + 256 * koPeriod (s.ko d e) < 2 ^ 64) := by decide +kernel

theorem wit_KickoffsAndRounds_kickoffNotDue :
  let d : Fin 16 := 3
  let e : Fin 64 := 63
  let s : State := up
  ((s.localGt d).toNat < koTarget (s.ko d e) ∨ koArmed (s.ko d e) = false ∨ s.gtRuns d = false) := by decide +kernel

theorem wit_KickoffsAndRounds_roundScheduleValidate :
  let d : Fin 16 := 3
  let i : Fin 16 := 15
  let top : BitVec 64 := BitVec.ofNat 64 (field 63 1 + field 32 4 + 200)
  let w : BitVec 256 := putBits (putBits (up.rs 3 15) 255 192 (field 63 1 + field 32 4 + 200)) 253 240 0
  let s : State := up
  (Rises s.dies) ∧ (DieRises (s.die d)) ∧ (w = putBits (putBits (s.rs d i) 255 192 top.toNat) 253 240 0) ∧ (bit top 63 = true) ∧ (rsValid (s.rs d i) = false) ∧ (1 ≤ rsSlots w) ∧ (200 ≤ rsSlotNs w) ∧ (rsGuard w + 100 ≤ rsSlotNs w) ∧ (∀ j : Fin 16, j ≠ i → rsValid (s.rs d j.val) = true → rsMask (s.rs d j.val) &&& rsMask w = 0) := by decide +kernel

theorem wit_KickoffsAndRounds_roundScheduleRefused :
  let d : Fin 16 := 3
  let i : Fin 16 := 15
  let top : BitVec 64 := BitVec.ofNat 64 (field 63 1 + field 32 4 + 199)
  let s : State := up
  (bit top 63 = true) ∧ (rsSlotNs (putBits (putBits (s.rs d i) 255 192 top.toNat) 253 240 0) < 200 ∨ rsValid (s.rs d i) = true ∨ rsSlots (putBits (putBits (s.rs d i) 255 192 top.toNat) 253 240 0) = 0 ∨ rsSlotNs (putBits (putBits (s.rs d i) 255 192 top.toNat) 253 240 0) < rsGuard (s.rs d i) + 100 ∨ ((List.range 16).any (fun j => j != i.val && rsValid (s.rs d j) && (rsMask (s.rs d j) &&& rsMask (s.rs d i)) != 0)) = true) := by decide +kernel

theorem wit_KickoffsAndRounds_roundScheduleInvalidate :
  let d : Fin 16 := 3
  let top : BitVec 64 := 4
  let s : State := onDie 3 (fun x => { x with rs := [(15, BitVec.ofNat 256 (field 255 1))] })
  (Rises s.dies) ∧ (DieRises (s.die d)) ∧ (bit top 63 = false) := by decide +kernel

theorem wit_KickoffsAndRounds_roundScheduleExpire :
  let d : Fin 16 := 3
  let i : Fin 16 := 15
  let s : State := { (onDie 3 (fun x => { x with rs := [(15, BitVec.ofNat 256 (field 255 1 + field 224 4 + field 192 200 + field 64 100 + field 32 9))] })) with gt := { st := 1 } }
  (Rises s.dies) ∧ (DieRises (s.die d)) ∧ (rsValid (s.rs d i) = true) ∧ (rsPeriods (s.rs d i) ≠ 0) ∧ (s.gtRuns d = true) ∧ (rsStart (s.rs d i) + rsPeriods (s.rs d i) * rsSlots (s.rs d i) * (256 * rsSlotNs (s.rs d i)) ≤ (s.localGt d).toNat) := by decide +kernel

theorem wit_CombsAndFeeds_combLock :
  let l : Fin 8 := 7
  let s : State := { up with pwr := { held := [{ req := .combStart 7, watts := 60 }] } }
  (Rises s.lights) ∧ (Rises s.dict) ∧ (s.pwr.has (.combStart l) = true) ∧ ((s.light l).st = 0 ∨ (s.light l).st = 4) := by decide +kernel

theorem wit_CombsAndFeeds_combLockWithoutLeave :
  let l : Fin 8 := 7
  let s : State := up
  (s.pwr.has (.combStart l) = false) := by decide +kernel

theorem wit_CombsAndFeeds_combLockedAlready :
  let l : Fin 8 := 4
  let s : State := onBank 81 id
  (1 ≤ (s.light l).st) ∧ ((s.light l).st ≤ 3) := by decide +kernel

theorem wit_CombsAndFeeds_combStandbyLock :
  let l : Fin 8 := 4
  let s : State := { ((onBank 81 id).modLight 4 (fun x => { x with st := 3, change := some { todo := [77] } })) with pwr := { held := [{ req := .combStart 4, watts := 60 }] } }
  (Rises s.lights) ∧ (Rises s.dict) ∧ (s.pwr.has (.combStart l) = true) ∧ ((s.light l).change ≠ none ∨ (s.light l).testing = true) := by decide +kernel

theorem wit_CombsAndFeeds_combStandbyRefused :
  let l : Fin 8 := 4
  let s : State := { ((onBank 81 id).modLight 4 (fun x => { x with st := 3, change := some { todo := [77] } })) with pwr := { held := [{ req := .combStart 4, watts := 60 }] } }
  (Rises s.lights) ∧ (Rises s.dict) ∧ (s.pwr.has (.combStart l) = true) ∧ ((s.light l).change ≠ none ∨ (s.light l).testing = true) := by decide +kernel

theorem wit_CombsAndFeeds_combStandbyTakesOver :
  let l : Fin 8 := 4
  let s : State := { (up.setObj 0xB000 1 8) with pwr := { held := [{ req := .combStart 4, watts := 60 }] } }
  (Rises s.lights) ∧ (Rises s.dict) ∧ (s.pwr.has (.combStart l) = true) ∧ (s.bootStep = 8) ∧ ((s.light l).st = 0) ∧ ((s.light l).standby = true) ∧ ((s.light l).change = none) ∧ ((s.light l).testing = false) := by decide +kernel

theorem wit_CombsAndFeeds_combStandbyUncalled :
  let l : Fin 8 := 4
  let pilot : Bool := true
  let s : State := { up with pwr := { held := [{ req := .combStart 4, watts := 60 }] } }
  ((s.light l).change = none) ∧ ((s.light l).testing = false) ∧ (pilot = false ∨ s.bootStep ≠ 8 ∨ (s.light l).st ≠ 0 ∨ (s.light l).standby = false) := by decide +kernel

theorem wit_CombsAndFeeds_elmFeedLost :
  let feed : Fin 2 := 0
  let s : State := onBank 81 id
  (Rises s.lights) ∧ (s.elm.present feed = true) := by decide +kernel

theorem wit_CombsAndFeeds_elmFeedReturn :
  let feed : Fin 2 := 1
  let s : State := { (onBank 81 id) with elm := { lostB := true } }
  (Rises s.lights) ∧ (s.elm.present feed = false) := by decide +kernel

theorem wit_CombsAndFeeds_elmFeedLostAlready :
  let feed : Fin 2 := 1
  let s : State := { up with elm := { lostB := true } }
  (s.elm.present feed = false) := by decide +kernel

theorem wit_CombsAndFeeds_elmFeedThere :
  let feed : Fin 2 := 1
  let s : State := up
  (s.elm.present feed = true) := by decide +kernel

theorem wit_CombsAndFeeds_elmPreferredReturn :
  let l : Fin 8 := 4
  let s : State := { ((onBank 81 id).modLight 4 (fun x => { x with feed := some 1 })) with elm := { backA := some tickS } }
  (Rises s.lights) ∧ (s.elm.present (s.obj 0x4100 2) = true) ∧ ((if s.obj 0x4100 2 = 0 then s.elm.backA else s.elm.backB).all (fun τ => decide (τ + 10 * tickMs ≤ s.time)) = true) ∧ ((s.light l).st ≠ 0) := by decide +kernel

theorem wit_CombsAndFeeds_elmPreferredNotYet :
  let τ : Nat := 2 * tickS
  let s : State := { ((onBank 81 id).modLight 4 (fun x => { x with feed := some 1 })) with elm := { backA := some (2 * tickS) } }
  (s.elm.present (s.obj 0x4100 2) = false ∨ (if s.obj 0x4100 2 = 0 then s.elm.backA else s.elm.backB) = some τ) ∧ (s.elm.present (s.obj 0x4100 2) = true → s.time < τ + 10 * tickMs) := by decide +kernel

theorem wit_CombsAndFeeds_lambdaSLost :
  let s : State := up
  (Rises s.ports) := by decide +kernel

theorem wit_CombsAndFeeds_lambdaSReturn :
  let p : Fin 128 := 77
  let s : State := (onBank 81 (fun x => { x with st := 3, tx := [(36, { locked := true })], rx := [(36, { locked := true, since := 2 * tickS - 10 * tickMs })] })).modPort 77 (fun x => { x with onL0 := true, l0At := tickS })
  (Rises s.ports) ∧ (s.pickFeed ≠ none) ∧ ((s.bank (s.bankOf p)).lamWorks = true) ∧ ((s.light (p.val / 16)).feedSince + 10 * tickMs ≤ s.time) ∧ (((s.bank (s.bankOf p)).ring true 36).since + 10 * tickMs ≤ s.time) ∧ (((s.bank (s.bankOf p)).ring false 36).since + 10 * tickMs ≤ s.time) ∧ ((s.port p).l0At + 10 * tickMs ≤ s.time) := by decide +kernel

theorem wit_CombsAndFeeds_lambdaSReturnNotYet :
  let p : Fin 128 := 77
  let s : State := up.modPort 77 (fun x => { x with onL0 := true, l0At := 2 * tickS })
  (s.pickFeed = none ∨ (s.bank (s.bankOf p)).lamWorks = false ∨ s.time < (s.port p).l0At + 10 * tickMs) := by decide +kernel

theorem wit_CombsAndFeeds_combMonitorSample :
  let l : Fin 8 := 4
  let vs : List Int := (-500 : Int) :: List.replicate 35 10
  let s : State := up.modLight 4 (fun x => { x with st := 1, feed := some 0, fades := [-100], advised := true, refs := (List.range 36).map (fun i => (i, some 10)) })
  let x : LightSt := (s.light 4).measure 0 vs
  let fade : Int := meanInt (([meanInt ((-510 : Int) :: List.replicate 35 0), -100]).take 8)
  (Rises s.lights) ∧ (x = (s.light l).measure (s.light l).active vs) ∧ (s.lit (17 * l.val) = true) ∧ (vs.length = 36) ∧ ((s.light l).unmeasured (s.light l).active = false ∨ (s.light l).record = true) ∧ (fade = meanInt ((meanInt (x.fadesOf vs) :: (s.light l).fades).take 8)) ∧ (signed 32 (s.obj 0x4100 4) < fade) ∧ (-300 < fade) ∧ (fade = -58) := by decide +kernel

theorem wit_CombsAndFeeds_combMonitorAdvises :
  let l : Fin 8 := 4
  let vs : List Int := List.replicate 36 (-200)
  let s : State := (up.modLight 4 (fun x => { x with st := 1, feed := some 0, fades := [-200], refs := (List.range 36).map (fun i => (i, some 10)) }))
  let x : LightSt := (s.light 4).measure 0 vs
  let fade : Int := -205
  (Rises s.lights) ∧ (x = (s.light l).measure (s.light l).active vs) ∧ (s.lit (17 * l.val) = true) ∧ (vs.length = 36) ∧ ((s.light l).unmeasured (s.light l).active = false ∨ (s.light l).record = true) ∧ (fade = meanInt ((meanInt (x.fadesOf vs) :: (s.light l).fades).take 8)) ∧ (fade ≤ signed 32 (s.obj 0x4100 4)) ∧ (-300 < fade) ∧ ((s.light l).advised = false) := by decide +kernel

theorem wit_CombsAndFeeds_combMonitorFades_1 :
  let l : Fin 8 := 4
  let vs : List Int := List.replicate 36 (-290)
  let s : State := up.modLight 4 (fun x => { x with st := 1, feed := some 0, fades := [-400], refs := (List.range 36).map (fun i => (i, some 10)) , advised := true, standbyOn := some 7})
  let x : LightSt := (s.light 4).measure 0 vs
  let fade : Int := -350
  (Rises s.lights) ∧ (x = (s.light l).measure (s.light l).active vs) ∧ (s.lit (17 * l.val) = true) ∧ (vs.length = 36) ∧ ((s.light l).unmeasured (s.light l).active = false ∨ (s.light l).record = true) ∧ (fade = meanInt ((meanInt (x.fadesOf vs) :: (s.light l).fades).take 8)) ∧ (fade ≤ -300) ∧ ((s.light l).advised = true) ∧ ((s.light l).crossed = false) ∧ ((s.light l).change = none) ∧ ((s.light l).standby = true) := by
  repeat' apply And.intro
  all_goals first | decide +kernel

theorem wit_CombsAndFeeds_combMonitorFades_2 :
  let l : Fin 8 := 4
  let vs : List Int := List.replicate 36 (-990)
  let s : State := up.modLight 4 (fun x => { x with st := 1, feed := some 0, refs := (List.range 36).map (fun i => (i, some 10)) , advised := true})
  let x : LightSt := (s.light 4).measure 0 vs
  let fade : Int := -1000
  (Rises s.lights) ∧ (x = (s.light l).measure (s.light l).active vs) ∧ (s.lit (17 * l.val) = true) ∧ (vs.length = 36) ∧ ((s.light l).unmeasured (s.light l).active = false ∨ (s.light l).record = true) ∧ (fade = meanInt ((meanInt (x.fadesOf vs) :: (s.light l).fades).take 8)) ∧ (fade ≤ -300) ∧ ((s.light l).advised = true) ∧ ((s.light l).crossed = false) ∧ ((s.light l).change = none) ∧ ((s.light l).standby = true) := by
  repeat' apply And.intro
  all_goals first | decide +kernel

theorem wit_CombsAndFeeds_combMonitorNoStandby :
  let l : Fin 8 := 4
  let vs : List Int := List.replicate 36 (-290)
  let s : State := up.modLight 4 (fun x => { x with st := 1, feed := some 0, fades := [-400], refs := (List.range 36).map (fun i => (i, some 10)) , advised := true, standby := false})
  let x : LightSt := (s.light 4).measure 0 vs
  let fade : Int := -350
  (Rises s.lights) ∧ (x = (s.light l).measure (s.light l).active vs) ∧ (s.lit (17 * l.val) = true) ∧ (vs.length = 36) ∧ ((s.light l).unmeasured (s.light l).active = false ∨ (s.light l).record = true) ∧ (fade = meanInt ((meanInt (x.fadesOf vs) :: (s.light l).fades).take 8)) ∧ (fade ≤ -300) ∧ (-450 < fade) ∧ ((s.light l).advised = true) ∧ ((s.light l).crossed = false) ∧ ((s.light l).change = none) ∧ ((s.light l).standby = false) := by
  repeat' apply And.intro
  all_goals first | decide +kernel

theorem wit_CombsAndFeeds_combMonitorLightGone :
  let l : Fin 8 := 4
  let vs : List Int := List.replicate 36 (-590)
  let s : State := (onBank 81 (fun x => { x with st := 3, tx := locked36, rx := locked36 })).modLight 4 (fun x => { x with refs := (List.range 36).map (fun i => (i, some 10)) , advised := true, crossed := true, standby := false})
  let x : LightSt := (s.light 4).measure 0 vs
  let fade : Int := -600
  (Rises s.lights) ∧ (Rises s.banks) ∧ (x = (s.light l).measure (s.light l).active vs) ∧ (s.lit (17 * l.val) = true) ∧ (vs.length = 36) ∧ ((s.light l).unmeasured (s.light l).active = false ∨ (s.light l).record = true) ∧ (fade = meanInt ((meanInt (x.fadesOf vs) :: (s.light l).fades).take 8)) ∧ (fade ≤ -450) ∧ ((s.light l).advised = true) ∧ ((s.light l).crossed = true) ∧ ((s.light l).change = none) ∧ ((s.light l).standby = false) := by
  repeat' apply And.intro
  all_goals first | decide +kernel

theorem wit_CombsAndFeeds_combMonitorFirst :
  let l : Fin 8 := 4
  let vs : List Int := List.replicate 36 (-590)
  let s : State := (onBank 81 id).setObj 0x4100 4 0xFFFFFF6A
  (Rises s.lights) ∧ (Rises (s.light l).refs) ∧ (Rises (s.light l).firsts) ∧ (s.lit (17 * l.val) = true) ∧ (vs.length = 36) ∧ ((s.light l).unmeasured (s.light l).active = true) ∧ ((s.light l).record = false) ∧ ((s.light l).fades = []) ∧ (signed 32 (s.obj 0x4100 4) < 0) := by decide +kernel

theorem wit_CombsAndFeeds_combMonitorStandby :
  let l : Fin 8 := 4
  let vs : List Int := List.replicate 36 (-590)
  let s : State := (onBank 81 id).modLight 4 (fun x => { x with standbyOn := some 5 })
  (Rises s.lights) ∧ (vs.length = 36) ∧ ((s.light l).standbyOn ≠ none) := by decide +kernel

theorem wit_CombsAndFeeds_combMonitorDark :
  let l : Fin 8 := 4
  let standby : Bool := true
  let s : State := up
  ((if standby = true then (s.light l).standbyOn = none else s.lit (17 * l.val) = false)) := by decide +kernel

theorem wit_CombsAndFeeds_portPause :
  let l : Fin 8 := 4
  let p : Fin 128 := 77
  let c : Changeover := { todo := [77, 78], standbyLocked := true, at_ := tickS }
  let rest : List Nat := [78]
  let s : State := (onBank 81 (fun x => { x with st := 3, tx := locked36 })).modLight 4 (fun x => { x with st := 3, change := some { todo := [77, 78], standbyLocked := true, at_ := tickS } })
  (Rises s.lights) ∧ (Rises s.banks) ∧ (BankRises (s.bank (s.bankOf p))) ∧ ((s.light l).change = some c) ∧ (c.standbyLocked = true) ∧ (c.now = none) ∧ (c.at_ = 0 ∨ c.at_ + 10 * tickUs ≤ s.time) ∧ (c.todo = p.val :: rest) ∧ (3 ≤ (s.bank (s.bankOf p)).st) ∧ ((s.bank (s.bankOf p)).st ≤ 6) ∧ ((s.bank (s.bankOf p)).searching = false) := by
  repeat' apply And.intro
  all_goals first | decide +kernel

theorem wit_CombsAndFeeds_portPauseNotYet_1 :
  let l : Fin 8 := 4
  let s : State := (onBank 81 (fun x => { x with st := 3 })).modLight 4 (fun x => { x with st := 3, change := some { todo := [77] } })
  ((s.light l).change.all (fun c => !c.standbyLocked || c.now.isSome || (c.at_ != 0 && decide (s.time < c.at_ + 10 * tickUs))) = true) := by decide +kernel

theorem wit_CombsAndFeeds_portPauseNotYet_2 :
  let l : Fin 8 := 4
  let s : State := (onBank 81 (fun x => { x with st := 3 })).modLight 4 (fun x => { x with st := 3, change := some { todo := [77], standbyLocked := true, at_ := 2 * tickS } })
  ((s.light l).change.all (fun c => !c.standbyLocked || c.now.isSome || (c.at_ != 0 && decide (s.time < c.at_ + 10 * tickUs))) = true) := by decide +kernel

theorem wit_CombsAndFeeds_portPauseSkips :
  let l : Fin 8 := 4
  let p : Fin 128 := 77
  let c : Changeover := { todo := [77], standbyLocked := true }
  let s : State := (onBank 81 (fun x => { x with st := 1 })).modLight 4 (fun x => { x with st := 3, change := some { todo := [77], standbyLocked := true } })
  (TablesRise s) ∧ ((s.light l).change = some c) ∧ (c.standbyLocked = true) ∧ (c.now = none) ∧ (c.at_ = 0 ∨ c.at_ + 10 * tickUs ≤ s.time) ∧ (c.todo = [p.val]) ∧ (s.portSt p ≤ 2 ∨ s.portSt p = 7) ∧ (s.obj 0x4100 9 + 1 < 2 ^ 16) := by decide +kernel

theorem wit_CombsAndFeeds_portPauseSearching :
  let l : Fin 8 := 4
  let p : Fin 128 := 77
  let c : Changeover := { todo := [77], standbyLocked := true }
  let s : State := (onBank 81 (fun x => { x with st := 3, rx := [(7, { searching := true })] })).modLight 4 (fun x => { x with st := 3, change := some { todo := [77], standbyLocked := true } })
  (Rises s.lights) ∧ ((s.light l).change = some c) ∧ (c.standbyLocked = true) ∧ (c.now = none) ∧ (c.at_ = 0 ∨ c.at_ + 10 * tickUs ≤ s.time) ∧ (c.todo = [p.val]) ∧ (3 ≤ (s.bank (s.bankOf p)).st) ∧ ((s.bank (s.bankOf p)).st ≤ 6) ∧ ((s.bank (s.bankOf p)).searching = true) := by decide +kernel

theorem wit_CombsAndFeeds_portResume :
  let l : Fin 8 := 4
  let p : Fin 128 := 77
  let c : Changeover := { todo := [78], now := some 77, standbyLocked := true }
  let s : State := (onBank 81 (fun x => { x with st := 6, before := 3, tx := locked36 })).modLight 4 (fun x => { x with st := 3, change := some { todo := [78], now := some 77, standbyLocked := true } })
  (Rises s.lights) ∧ (Rises s.banks) ∧ ((s.light l).change = some c) ∧ (c.now = some p.val) ∧ (c.todo ≠ []) ∧ (s.portSt p = 6) := by decide +kernel

theorem wit_CombsAndFeeds_portResumeLast :
  let l : Fin 8 := 4
  let p : Fin 128 := 77
  let c : Changeover := { todo := [], now := some 77, standbyLocked := true }
  let s : State := (onBank 81 (fun x => { x with st := 6, before := 3 })).modLight 4 (fun x => { x with st := 3, change := some { todo := [], now := some 77, standbyLocked := true } })
  (TablesRise s) ∧ ((s.light l).change = some c) ∧ (c.now = some p.val) ∧ (c.todo = []) ∧ (s.portSt p = 6) ∧ (s.obj 0x4100 9 + 1 < 2 ^ 16) := by decide +kernel

theorem wit_CombsAndFeeds_portResumeUnpaused :
  let l : Fin 8 := 4
  let s : State := (onBank 81 (fun x => { x with st := 3 })).modLight 4 (fun x => { x with st := 3, change := some { todo := [77] } })
  ((s.light l).change.all (fun c => c.now.isNone) = true) := by decide +kernel

theorem wit_CombsAndFeeds_linkPauseNotice :
  let p : Fin 128 := 77
  let f : BitVec 256 := BitVec.ofNat 256 (field 248 3 + field 192 25000)
  let s : State := onBank 81 (fun x => { x with st := 3 })
  (Rises s.ports) ∧ (bits f 255 248 = 3) ∧ (s.linkUp p = true) := by decide +kernel

theorem wit_CombsAndFeeds_linkPauseNoticeElse :
  let p : Fin 128 := 77
  let f : BitVec 256 := BitVec.ofNat 256 (field 248 3 + field 192 25000)
  let s : State := up
  (bits f 255 248 ≠ 3 ∨ s.linkUp p = false) := by decide +kernel

theorem wit_CombsAndFeeds_standbyTest :
  let l : Fin 8 := 4
  let s : State := { (onBank 81 id) with time := 8 * 86400 * tickS }
  (Rises s.lights) ∧ ((s.light l).standby = true) ∧ ((s.light l).change = none) ∧ ((s.light l).testing = false) ∧ ((s.light l).st = 1 ∨ (s.light l).st = 2) ∧ ((s.light l).lastTest + s.obj 0x4900 3 * 86400 * tickS ≤ s.time) := by decide +kernel

theorem wit_CombsAndFeeds_standbyTestNotYet :
  let l : Fin 8 := 4
  let s : State := (onBank 81 id).modLight 4 (fun x => { x with standby := false })
  ((s.light l).standby = false ∨ (s.light l).change ≠ none ∨ (s.light l).testing = true ∨ s.time < (s.light l).lastTest + s.obj 0x4900 3 * 86400 * tickS) := by decide +kernel

theorem wit_CombsAndFeeds_standbyTestEnd :
  let l : Fin 8 := 4
  let τ : Nat := 9
  let s : State := { (onBank 81 id).modLight 4 (fun x => { x with testing := true, standbyOn := some 9 }) with time := 20 * tickS }
  (Rises s.lights) ∧ ((s.light l).standbyOn = some τ) ∧ ((s.light l).testing = true) ∧ (τ + 10 * tickS ≤ s.time) := by decide +kernel

theorem wit_CombsAndFeeds_standbyTestFails :
  let l : Fin 8 := 4
  let τ : Nat := 9
  let s : State := { (onBank 81 id).modLight 4 (fun x => { x with testing := true, standbyOn := some 9 }) with time := 20 * tickS }
  (TablesRise s) ∧ ((s.light l).standbyOn = some τ) ∧ ((s.light l).testing = true) ∧ (τ + 10 * tickS ≤ s.time) := by decide +kernel

theorem wit_CombsAndFeeds_standbyTestNoLock :
  let l : Fin 8 := 4
  let s : State := { (onBank 81 id).modLight 4 (fun x => { x with testing := true }) with pwr := { held := [{ req := .combStart 4, watts := 60 }] } }
  (TablesRise s) ∧ ((s.light l).standbyOn = none) ∧ ((s.light l).testing = true) ∧ (s.pwr.has (.combStart l) = true) := by decide +kernel

theorem wit_CombsAndFeeds_standbyTestRuns :
  let l : Fin 8 := 4
  let s : State := (onBank 81 id).modLight 4 (fun x => { x with testing := true, standbyOn := some tickS })
  ((s.light l).testing = false ∨ (s.light l).standbyOn.any (fun τ => decide (s.time < τ + 10 * tickS)) = true) := by decide +kernel

theorem wit_RingsAndLanes_transmitRingAssign_1 :
  let b : Fin 136 := 81
  let i : Fin 37 := 2
  let v : Nat := 4200000
  let s : State := onBank 81 (fun x => { x with tx := [(0, { locked := true }), (1, { fails := 2 }), (2, { setting := 4200000 })] })
  (Rises s.banks) ∧ (Rises s.dict) ∧ (BankRises (s.bank b)) ∧ (s.lit b = true) ∧ (((s.bank b).ring true i).locked = false) ∧ (∀ j : Fin 37, j < i → ((s.bank b).ring true j.val).locked = true ∨ 0 < ((s.bank b).ring true j.val).fails) ∧ (v ≤ 4200000) ∧ (v = ((s.bank b).ring true i).setting ∨ s.sweeps b = true) := by decide +kernel

theorem wit_RingsAndLanes_transmitRingAssign_2 :
  let b : Fin 136 := 81
  let i : Fin 37 := 0
  let v : Nat := 4200000
  let s : State := { (onBank 81 id) with pwr := { held := [{ req := .ringSweep 4, watts := 5 }] } }
  (Rises s.banks) ∧ (Rises s.dict) ∧ (BankRises (s.bank b)) ∧ (s.lit b = true) ∧ (((s.bank b).ring true i).locked = false) ∧ (∀ j : Fin 37, j < i → ((s.bank b).ring true j.val).locked = true ∨ 0 < ((s.bank b).ring true j.val).fails) ∧ (v ≤ 4200000) ∧ (v = ((s.bank b).ring true i).setting ∨ s.sweeps b = true) := by decide +kernel

theorem wit_RingsAndLanes_transmitRingWrongPilot :
  let b : Fin 136 := 81
  let i : Fin 37 := 2
  let k : Fin 37 := 3
  let v : Nat := 4200000
  let s : State := onBank 81 (fun x => { x with tx := [(0, { locked := true }), (1, { locked := true }), (2, { setting := 4200000 })] })
  (Rises s.banks) ∧ (Rises s.dict) ∧ (BankRises (s.bank b)) ∧ (s.lit b = true) ∧ (((s.bank b).ring true i).locked = false) ∧ (∀ j : Fin 37, j < i → ((s.bank b).ring true j.val).locked = true ∨ 0 < ((s.bank b).ring true j.val).fails) ∧ (v ≤ 4200000) ∧ (v = ((s.bank b).ring true i).setting ∨ s.sweeps b = true) ∧ (k ≠ i) := by decide +kernel

theorem wit_RingsAndLanes_transmitRingAsks :
  let b : Fin 136 := 81
  let i : Fin 37 := 0
  let v : Nat := 4200000
  let s : State := onBank 81 id
  (s.lit b = true) ∧ (((s.bank b).ring true i).locked = false) ∧ (∀ j : Fin 37, j < i → ((s.bank b).ring true j.val).locked = true ∨ 0 < ((s.bank b).ring true j.val).fails) ∧ (v ≤ 4200000) ∧ (v ≠ ((s.bank b).ring true i).setting) ∧ (s.sweeps b = false) := by decide +kernel

theorem wit_RingsAndLanes_transmitRingNot :
  let b : Fin 136 := 81
  let i : Fin 37 := 2
  let j : Fin 37 := 1
  let s : State := onBank 81 id
  (s.lit b = false ∨ ((s.bank b).ring true i).locked = true ∨ (j < i ∧ (s.bank b).ring true j = { })) := by decide +kernel

theorem wit_RingsAndLanes_receiveRingSearch_1 :
  let b : Fin 136 := 81
  let i : Fin 37 := 31
  let v : Nat := 4200000
  let s : State := { (onBank 81 (fun x => { x with st := 2, tx := locked36, rx := locked36.take 31 })) with pwr := { held := [{ req := .ringSweep 4, watts := 5 }] } }
  (Rises s.banks) ∧ (Rises s.dict) ∧ (BankRises (s.bank b)) ∧ ((s.bank b).st = 2) ∧ (((s.bank b).ring false i).locked = false) ∧ (v ≤ 4200000) ∧ (((s.bank b).ring false i).near v = true ∨ s.sweeps b = true) := by decide +kernel

theorem wit_RingsAndLanes_receiveRingSearch_2 :
  let b : Fin 136 := 81
  let i : Fin 37 := 36
  let v : Nat := 420000
  let s : State := onBank 81 (fun x => { x with st := 2, tx := locked36 })
  (Rises s.banks) ∧ (Rises s.dict) ∧ (BankRises (s.bank b)) ∧ ((s.bank b).st = 2) ∧ (((s.bank b).ring false i).locked = false) ∧ (v ≤ 4200000) ∧ (((s.bank b).ring false i).near v = true ∨ s.sweeps b = true) := by decide +kernel

theorem wit_RingsAndLanes_receiveRingSearchFails_1 :
  let b : Fin 136 := 81
  let i : Fin 37 := 31
  let v : Nat := 4
  let s : State := onBank 81 (fun x => { x with st := 2, before := 3, rx := [(31, { fails := 1 })] })
  (Rises s.banks) ∧ (Rises s.dict) ∧ (BankRises (s.bank b)) ∧ ((s.bank b).st = 2) ∧ ((s.bank b).before ≠ 0) ∧ (((s.bank b).ring false i).locked = false) ∧ (v ≤ 4200000) ∧ (((s.bank b).ring false i).near v = true ∨ s.sweeps b = true) := by decide +kernel

theorem wit_RingsAndLanes_receiveRingSearchFails_2 :
  let b : Fin 136 := 81
  let i : Fin 37 := 36
  let v : Nat := 4
  let s : State := onBank 81 (fun x => { x with st := 2, before := 3 })
  (Rises s.banks) ∧ (Rises s.dict) ∧ (BankRises (s.bank b)) ∧ ((s.bank b).st = 2) ∧ ((s.bank b).before ≠ 0) ∧ (((s.bank b).ring false i).locked = false) ∧ (v ≤ 4200000) ∧ (((s.bank b).ring false i).near v = true ∨ s.sweeps b = true) := by decide +kernel

theorem wit_RingsAndLanes_receiveRingSearchTrains :
  let b : Fin 136 := 81
  let i : Fin 37 := 31
  let n : Nat := 31
  let v : Nat := 4
  let s : State := onBank 81 (fun x => { x with st := 2, tx := locked36, rx := (locked36.take 31).append [(31, { fails := 1 })] })
  (Rises s.banks) ∧ (Rises s.dict) ∧ (BankRises (s.bank b)) ∧ ((s.bank b).st = 2) ∧ ((s.bank b).before = 0) ∧ (((s.bank b).ring false i).locked = false) ∧ (v ≤ 4200000) ∧ (((s.bank b).ring false i).near v = true ∨ s.sweeps b = true) ∧ ((s.bank b).laneOf false i = some n) ∧ (1 ≤ ((s.bank b).ring false i).fails) := by
  repeat' apply And.intro
  all_goals first | decide +kernel

theorem wit_RingsAndLanes_receiveRingAsks :
  let b : Fin 136 := 81
  let i : Fin 37 := 36
  let v : Nat := 420001
  let s : State := onBank 81 (fun x => { x with st := 2 })
  ((s.bank b).st = 2) ∧ (((s.bank b).ring false i).locked = false) ∧ (v ≤ 4200000) ∧ (((s.bank b).ring false i).near v = false) ∧ (s.sweeps b = false) := by decide +kernel

theorem wit_RingsAndLanes_receiveRingNot :
  let b : Fin 136 := 81
  let i : Fin 37 := 36
  let s : State := onBank 81 (fun x => { x with st := 1 })
  ((s.bank b).st ≠ 2 ∨ ((s.bank b).ring false i).locked = true) := by decide +kernel

theorem wit_RingsAndLanes_portTrainTimeout :
  let b : Fin 136 := 81
  let s : State := { (onBank 81 (fun x => { x with st := 2 })) with time := 61 * tickS }
  (Rises s.banks) ∧ ((s.bank b).st = 2) ∧ ((s.bank b).since + 60 * tickS ≤ s.time) := by decide +kernel

theorem wit_RingsAndLanes_portTrainOn :
  let b : Fin 136 := 81
  let s : State := onBank 81 (fun x => { x with st := 2 })
  ((s.bank b).st ≠ 2 ∨ s.time < (s.bank b).since + 60 * tickS) := by decide +kernel

theorem wit_RingsAndLanes_ringFsrMove_1 :
  let b : Fin 136 := 81
  let tx : Bool := true
  let i : Fin 37 := 3
  let at_ : Nat := 200000
  let v : Nat := 4200000
  let s : State := onBank 81 (fun x => { x with st := 3, tx := locked36 })
  (Rises s.banks) ∧ (Rises s.ports) ∧ (BankRises (s.bank b)) ∧ (((s.bank b).ring tx i).locked = true) ∧ (at_ ≤ 210000 ∨ 3990000 ≤ at_) ∧ (v = at_ + 4000000 ∨ v + 4000000 = at_) ∧ (v ≤ 4200000) := by decide +kernel

theorem wit_RingsAndLanes_ringFsrMove_2 :
  let b : Fin 136 := 81
  let tx : Bool := false
  let i : Fin 37 := 36
  let at_ : Nat := 4000000
  let v : Nat := 0
  let s : State := onBank 81 (fun x => { x with st := 3, rx := locked36 })
  (Rises s.banks) ∧ (Rises s.ports) ∧ (BankRises (s.bank b)) ∧ (((s.bank b).ring tx i).locked = true) ∧ (at_ ≤ 210000 ∨ 3990000 ≤ at_) ∧ (v = at_ + 4000000 ∨ v + 4000000 = at_) ∧ (v ≤ 4200000) := by decide +kernel

theorem wit_RingsAndLanes_ringFsrStays :
  let b : Fin 136 := 81
  let tx : Bool := true
  let i : Fin 37 := 3
  let at_ : Nat := 210001
  let v : Nat := 4100000
  let s : State := onBank 81 (fun x => { x with st := 3, tx := locked36 })
  (((s.bank b).ring tx i).locked = false ∨ (210000 < at_ ∧ at_ < 3990000) ∨ (v ≠ at_ + 4000000 ∧ v + 4000000 ≠ at_)) := by decide +kernel

theorem wit_RingsAndLanes_pilotCheck :
  let b : Fin 136 := 81
  let i : Fin 37 := 3
  let s : State := onBank 81 (fun x => { x with st := 3, tx := locked36 })
  (Rises s.banks) ∧ (BankRises (s.bank b)) ∧ (((s.bank b).ring true i).locked = true) := by decide +kernel

theorem wit_RingsAndLanes_pilotCheckUnlocked :
  let b : Fin 136 := 81
  let i : Fin 37 := 3
  let s : State := onBank 81 id
  (((s.bank b).ring true i).locked = false) := by decide +kernel

theorem wit_RingsAndLanes_ringMislock_1 :
  let b : Fin 136 := 81
  let tx : Bool := true
  let i : Fin 37 := 3
  let s : State := onBank 81 (fun x => { x with st := 3, tx := [(3, { locked := true, wrong := 2 })] })
  (TablesRise s) ∧ (BankRises (s.bank b)) ∧ (((s.bank b).ring tx i).locked = true) ∧ ((if tx = true then 2 ≤ ((s.bank b).ring true i).wrong else 1 ≤ ((s.bank b).ring false i).wrong ∨ ((s.bank b).idleKey i).any (fun n => decide (mapGet 0 (s.bank b).idle n + 589824 * tickNs ≤ s.time)) = true)) ∧ (s.obj 0x4100 7 + 1 < 2 ^ 32) := by decide +kernel

theorem wit_RingsAndLanes_ringMislock_2 :
  let b : Fin 136 := 81
  let tx : Bool := false
  let i : Fin 37 := 36
  let s : State := onBank 81 (fun x => { x with st := 3, rx := locked36, idle := [(32, tickS)] })
  (TablesRise s) ∧ (BankRises (s.bank b)) ∧ (((s.bank b).ring tx i).locked = true) ∧ ((if tx = true then 2 ≤ ((s.bank b).ring true i).wrong else 1 ≤ ((s.bank b).ring false i).wrong ∨ ((s.bank b).idleKey i).any (fun n => decide (mapGet 0 (s.bank b).idle n + 589824 * tickNs ≤ s.time)) = true)) ∧ (s.obj 0x4100 7 + 1 < 2 ^ 32) := by decide +kernel

theorem wit_RingsAndLanes_ringRight :
  let b : Fin 136 := 81
  let tx : Bool := false
  let i : Fin 37 := 36
  let s : State := onBank 81 (fun x => { x with st := 3, rx := locked36, idle := [(32, 2 * tickS)] })
  (((s.bank b).ring tx i).locked = false ∨ (((s.bank b).ring tx i).wrong = 0 ∧ ((s.bank b).idleKey i).all (fun n => decide (s.time < mapGet 0 (s.bank b).idle n + 589824 * tickNs)) = true)) := by decide +kernel

theorem wit_RingsAndLanes_ringResearchFound :
  let b : Fin 136 := 81
  let tx : Bool := false
  let i : Fin 37 := 3
  let v : Nat := 420007
  let s : State := { (onBank 81 (fun x => { x with st := 4, rxOut := [3], rx := [(3, { setting := 7, searching := true })] })) with pwr := { held := [{ req := .ringSweep 4, watts := 5 }] } }
  (Rises s.banks) ∧ (Rises s.dict) ∧ (BankRises (s.bank b)) ∧ (((s.bank b).ring tx i).searching = true) ∧ (s.sweeps b = true) ∧ (v ≤ ((s.bank b).ring tx i).setting + 420000) ∧ (((s.bank b).ring tx i).setting ≤ v + 420000) := by decide +kernel

theorem wit_RingsAndLanes_ringResearchFails_1 :
  let b : Fin 136 := 81
  let tx : Bool := false
  let found : Bool := false
  let i : Fin 37 := 3
  let v : Nat := 420007
  let s : State := { (onBank 81 (fun x => { x with st := 4, rxOut := [3], rx := [(3, { setting := 7, fails := 1, searching := true })] })) with pwr := { held := [{ req := .ringSweep 4, watts := 5 }] } }
  (Rises s.banks) ∧ (Rises s.dict) ∧ (BankRises (s.bank b)) ∧ (((s.bank b).ring tx i).searching = true) ∧ (s.sweeps b = true) ∧ (found = false ∨ ((s.bank b).ring tx i).near v = false) := by decide +kernel

theorem wit_RingsAndLanes_ringResearchFails_2 :
  let b : Fin 136 := 81
  let tx : Bool := true
  let found : Bool := true
  let i : Fin 37 := 3
  let v : Nat := 420008
  let s : State := { (onBank 81 (fun x => { x with st := 4, tx := [(3, { setting := 7, searching := true })] })) with pwr := { held := [{ req := .ringSweep 4, watts := 5 }] } }
  (Rises s.banks) ∧ (Rises s.dict) ∧ (BankRises (s.bank b)) ∧ (((s.bank b).ring tx i).searching = true) ∧ (s.sweeps b = true) ∧ (found = false ∨ ((s.bank b).ring tx i).near v = false) := by decide +kernel

theorem wit_RingsAndLanes_ringResearchAsks :
  let b : Fin 136 := 81
  let tx : Bool := true
  let i : Fin 37 := 3
  let s : State := onBank 81 (fun x => { x with st := 4, tx := [(3, { setting := 7, searching := true })] })
  (((s.bank b).ring tx i).searching = true) ∧ (s.sweeps b = false) := by decide +kernel

theorem wit_RingsAndLanes_ringNotSearched :
  let b : Fin 136 := 81
  let tx : Bool := true
  let i : Fin 37 := 3
  let s : State := up
  (((s.bank b).ring tx i).searching = false) := by decide +kernel

theorem wit_RingsAndLanes_laneSubstitution_1 :
  let p : Fin 128 := 77
  let tx : Bool := true
  let n : Fin 32 := 31
  let agreed : Option (Fin 4) := none
  let x : Nat := 33
  let s : State := onBank 81 (fun x => { x with st := 4, txOut := [31], txSpare := [32], tx := [(31, { fails := 2 })] })
  (TablesRise s) ∧ (BankRises (s.bank (s.bankOf p))) ∧ (agreed = none → s.lineFailed (s.bankOf p) tx ((s.bank (s.bankOf p)).lineOf tx n) = true) ∧ (s.freeLine (s.bankOf p) tx agreed = some x) ∧ (s.obj 0x4100 8 + 1 < 2 ^ 32) := by decide +kernel

theorem wit_RingsAndLanes_laneSubstitution_2 :
  let p : Fin 128 := 77
  let tx : Bool := false
  let n : Fin 32 := 31
  let agreed : Option (Fin 4) := some 3
  let x : Nat := 35
  let s : State := onBank 81 (fun x => { x with st := 3 })
  (TablesRise s) ∧ (BankRises (s.bank (s.bankOf p))) ∧ (agreed = none → s.lineFailed (s.bankOf p) tx ((s.bank (s.bankOf p)).lineOf tx n) = true) ∧ (s.freeLine (s.bankOf p) tx agreed = some x) ∧ (s.obj 0x4100 8 + 1 < 2 ^ 32) := by decide +kernel

theorem wit_RingsAndLanes_laneWithoutSpare :
  let p : Fin 128 := 77
  let tx : Bool := true
  let n : Fin 32 := 31
  let s : State := onBank 81 (fun x => { x with st := 3, txSpare := [32, 33, 34, 35], tx := [(31, { fails := 2 })] })
  (Rises s.banks) ∧ (s.lineFailed (s.bankOf p) tx ((s.bank (s.bankOf p)).lineOf tx n) = true) ∧ (s.freeLine (s.bankOf p) tx none = none) := by decide +kernel

theorem wit_RingsAndLanes_laneStands :
  let p : Fin 128 := 77
  let tx : Bool := true
  let n : Fin 32 := 31
  let agreed : Option (Fin 4) := some 0
  let s : State := onBank 81 (fun x => { x with st := 3, txSpare := [32] })
  ((if agreed = none then s.lineFailed (s.bankOf p) tx ((s.bank (s.bankOf p)).lineOf tx n) = false else s.freeLine (s.bankOf p) tx agreed = none)) := by decide +kernel

theorem wit_RingsAndLanes_bankSubstitution :
  let p : Fin 128 := 77
  let s : State := onBank 81 (fun x => { x with st := 3, failed := [tickS, 2 * tickS, 2 * tickS] })
  (TablesRise s) ∧ (s.bankFailed (s.bankOf p) = true) ∧ (s.bankOf p ≠ spareBank (bankLight (s.bankOf p))) ∧ (s.spareFree (bankLight (s.bankOf p)) = true) := by decide +kernel

theorem wit_RingsAndLanes_bankWithoutSpare_1 :
  let p : Fin 128 := 77
  let beyond : Bool := false
  let s : State := (onBank 81 (fun x => { x with st := 3, failed := [tickS, 2 * tickS, 2 * tickS] })).modBank 84 (fun x => { x with st := 7 })
  (Rises s.banks) ∧ (s.bankFailed (s.bankOf p) = true) ∧ (beyond = true ∨ s.spareFree (bankLight (s.bankOf p)) = false ∨ s.bankOf p = spareBank (bankLight (s.bankOf p))) := by decide +kernel

theorem wit_RingsAndLanes_bankWithoutSpare_2 :
  let p : Fin 128 := 77
  let beyond : Bool := true
  let s : State := onBank 81 (fun x => { x with st := 3, tx := locked36, rx := locked36, rxOut := List.range 9 })
  (Rises s.banks) ∧ (s.bankFailed (s.bankOf p) = true) ∧ (beyond = true ∨ s.spareFree (bankLight (s.bankOf p)) = false ∨ s.bankOf p = spareBank (bankLight (s.bankOf p))) := by decide +kernel

theorem wit_RingsAndLanes_bankStands :
  let p : Fin 128 := 77
  let s : State := onBank 81 (fun x => { x with st := 3, failed := [tickS, 2 * tickS] })
  (s.bankFailed (s.bankOf p) = false) := by decide +kernel

theorem wit_RingsAndLanes_spareBankLight :
  let l : Fin 8 := 4
  let m : BitVec 16 := 9
  let q : BitVec 7 := 100
  let p : Fin 128 := 77
  let s : State := onBank 81 (fun x => { x with st := 7, partner := some (9, 100) })
  (TablesRise s) ∧ (s.spareFree l = true) ∧ (s.lit (spareBank l) = true) ∧ (s.lostTo l m q = some p.val) := by decide +kernel

theorem wit_RingsAndLanes_spareBankStranger :
  let l : Fin 8 := 4
  let m : BitVec 16 := 9
  let q : BitVec 7 := 101
  let s : State := onBank 81 (fun x => { x with st := 7, partner := some (9, 100) })
  (Rises s.banks) ∧ (s.spareFree l = true) ∧ (s.lit (spareBank l) = true) ∧ (s.lostTo l m q = none) := by decide +kernel

theorem wit_RingsAndLanes_spareBankTaken :
  let l : Fin 8 := 4
  let s : State := up
  (s.spareFree l = false ∨ s.lit (spareBank l) = false) := by decide +kernel

theorem wit_LinksTrainAndRetrain_codewordReceiveIdle :
  let p : Fin 128 := 77
  let line : Fin 37 := 36
  let n : Nat := 32
  let w : BitVec 288 := BitVec.ofNat 288 ((bchEncode (idlePayload 9 100 0 63 3)).toNat ^^^ 0x3FFFF)
  let s : State := onBank 81 (fun x => { x with st := 3 })
  (Rises s.banks) ∧ (2 ≤ (s.bank (s.bankOf p)).st) ∧ ((s.bank (s.bankOf p)).st < 7) ∧ (bchRem (w.toNat ^^^ kindMask 1) = 0) ∧ (line.val ≠ 0) ∧ (bchRem w.toNat ≠ 0) ∧ (idleOk (idlePart w) = true) ∧ ((s.bank (s.bankOf p)).idleKey line = some n) ∧ (bits (idlePart w) 246 242 = n % 32) ∧ (bits (idlePart w) 241 236 = (if line.val = 36 then 63 else line.val)) := by
  repeat' apply And.intro
  all_goals first | decide +kernel

theorem wit_LinksTrainAndRetrain_codewordReceiveWrongIdle :
  let p : Fin 128 := 77
  let line : Fin 37 := 5
  let n : Nat := 5
  let w : BitVec 288 := BitVec.ofNat 288 ((bchEncode (idlePayload 9 100 6 5 3)).toNat ^^^ 0x3FFFF)
  let s : State := onBank 81 (fun x => { x with st := 3, rx := locked36 })
  (Rises s.banks) ∧ (BankRises (s.bank (s.bankOf p))) ∧ (2 ≤ (s.bank (s.bankOf p)).st) ∧ ((s.bank (s.bankOf p)).st < 7) ∧ (bchRem (w.toNat ^^^ kindMask 1) = 0) ∧ (line.val ≠ 0) ∧ (bchRem w.toNat ≠ 0) ∧ (idleOk (idlePart w) = true) ∧ ((s.bank (s.bankOf p)).idleKey line = some n) ∧ (bits (idlePart w) 246 242 ≠ n % 32 ∨ bits (idlePart w) 241 236 ≠ (if line.val = 36 then 63 else line.val)) := by
  repeat' apply And.intro
  all_goals first | decide +kernel

theorem wit_LinksTrainAndRetrain_codewordReceiveFrame_1 :
  let p : Fin 128 := 77
  let n : Nat := 0
  let w : BitVec 288 := bchEncode (framePayload (BitVec.ofNat 256 (field 248 3 + field 192 25000)))
  let f : BitVec 256 := BitVec.ofNat 256 (field 248 3 + field 192 25000)
  let s : State := onBank 81 (fun x => { x with st := 3 })
  (Rises s.ports) ∧ (Rises s.dict) ∧ (3 ≤ (s.bank (s.bankOf p)).st) ∧ ((s.bank (s.bankOf p)).st ≤ 6) ∧ (bchDecode w 0 = some (n, framePayload f)) ∧ (n = 0 ∨ (n = 1 ∧ bchRem (w.toNat ^^^ kindMask 1) ≠ 0)) ∧ (bits f 255 248 = 3) ∧ (s.obj 0x4100 0x0B + 1 < 2 ^ 32) := by decide +kernel

theorem wit_LinksTrainAndRetrain_codewordReceiveFrame_2 :
  let p : Fin 128 := 77
  let n : Nat := 1
  let w : BitVec 288 := BitVec.ofNat 288 ((bchEncode (framePayload (BitVec.ofNat 256 (field 248 3 + field 192 25000)))).toNat ^^^ 2 ^ 3)
  let f : BitVec 256 := BitVec.ofNat 256 (field 248 3 + field 192 25000)
  let s : State := onBank 81 (fun x => { x with st := 3 })
  (Rises s.ports) ∧ (Rises s.dict) ∧ (3 ≤ (s.bank (s.bankOf p)).st) ∧ ((s.bank (s.bankOf p)).st ≤ 6) ∧ (bchDecode w 0 = some (n, framePayload f)) ∧ (n = 0 ∨ (n = 1 ∧ bchRem (w.toNat ^^^ kindMask 1) ≠ 0)) ∧ (bits f 255 248 = 3) ∧ (s.obj 0x4100 0x0B + 1 < 2 ^ 32) := by decide +kernel

theorem wit_LinksTrainAndRetrain_codewordReceiveBadFrame :
  let p : Fin 128 := 77
  let w : BitVec 288 := bchEncode 12345
  let s : State := onBank 81 (fun x => { x with st := 3 })
  (Rises s.dict) ∧ (2 ≤ (s.bank (s.bankOf p)).st) ∧ ((s.bank (s.bankOf p)).st < 7) ∧ (bchRem w.toNat = 0) ∧ (w.toNat / 2 ^ 18 % 2 ^ 14 ≠ crc14 (BitVec.ofNat 256 (w.toNat / 2 ^ 32))) ∧ (s.obj 0x4100 0x0C + 1 < 2 ^ 32) := by decide +kernel

theorem wit_LinksTrainAndRetrain_codewordReceiveData :
  let p : Fin 128 := 77
  let line : Fin 36 := 31
  let n : Fin 32 := 31
  let m : Nat := 0
  let w : BitVec 288 := bchEncode 12345
  let s : State := onBank 81 (fun x => { x with st := 3, deskew := [(31, [5])] })
  (TablesRise s) ∧ (BankRises (s.bank (s.bankOf p))) ∧ (2 ≤ (s.bank (s.bankOf p)).st) ∧ ((s.bank (s.bankOf p)).st < 7) ∧ ((s.bank (s.bankOf p)).laneOf false line.val = some n.val) ∧ (bchRem w.toNat = 0) ∧ (m < 32) ∧ (m ≠ n.val) ∧ ((s.bank (s.bankOf p)).rxOut.contains m = false) ∧ (mapGet [] (s.bank (s.bankOf p)).deskew m = []) ∧ ((mapGet [] (s.bank (s.bankOf p)).deskew n.val).length < 64) := by
  repeat' apply And.intro
  all_goals first | decide +kernel

theorem wit_LinksTrainAndRetrain_codewordReceiveDark :
  let p : Fin 128 := 77
  let s : State := up
  ((s.bank (s.bankOf p)).st < 2 ∨ (s.bank (s.bankOf p)).st = 7) := by decide +kernel

theorem wit_LinksTrainAndRetrain_identityIdleSend :
  let p : Fin 128 := 77
  let n : Fin 37 := 35
  let s : State := onBank 81 (fun x => { x with st := 2, dark := false })
  ((s.bank (s.bankOf p)).dark = false) ∧ (2 ≤ (s.bank (s.bankOf p)).st) ∧ ((s.bank (s.bankOf p)).st ≤ 6) ∧ (n.val ≠ 36 → (s.bank (s.bankOf p)).st = 2 ∨ ((s.bank (s.bankOf p)).st ≤ 4 ∧ ((s.bank (s.bankOf p)).laneOf true n).isSome = true)) := by decide +kernel

theorem wit_LinksTrainAndRetrain_identityIdleNot :
  let p : Fin 128 := 77
  let n : Fin 37 := 3
  let s : State := onBank 81 (fun x => { x with st := 6, dark := false })
  ((s.bank (s.bankOf p)).dark = true ∨ (s.bank (s.bankOf p)).st < 2 ∨ 6 < (s.bank (s.bankOf p)).st ∨ (n.val ≠ 36 ∧ 5 ≤ (s.bank (s.bankOf p)).st)) := by decide +kernel

theorem wit_LinksTrainAndRetrain_partnerLoss :
  let b : Fin 136 := 81
  let s : State := onBank 81 (fun x => { x with st := 3, dark := false, rx := locked36 })
  (TablesRise s) ∧ (2 ≤ (s.bank b).st) ∧ ((s.bank b).st < 7) ∧ (s.obj 0x4100 0x0A + 1 < 2 ^ 32) := by decide +kernel

theorem wit_LinksTrainAndRetrain_partnerGone :
  let b : Fin 136 := 81
  let s : State := up
  ((s.bank b).st < 2 ∨ (s.bank b).st = 7) := by decide +kernel

theorem wit_LinksTrainAndRetrain_probePulse :
  let b : Fin 136 := 81
  let s : State := onBank 81 (fun x => { x with st := 1, pulse := 5 })
  (Rises s.banks) ∧ ((s.bank b).st = 1) ∧ (s.lit b = true) ∧ ((s.bank b).pulse = 0 ∨ (s.bank b).pulse - 1 + 500 * tickMs ≤ s.time) := by decide +kernel

theorem wit_LinksTrainAndRetrain_probePulseNotYet :
  let b : Fin 136 := 81
  let s : State := onBank 81 (fun x => { x with st := 1, pulse := 2 * tickS })
  ((s.bank b).st ≠ 1 ∨ s.lit b = false ∨ (1 ≤ (s.bank b).pulse ∧ s.time + 1 < (s.bank b).pulse + 500 * tickMs)) := by decide +kernel

theorem wit_LinksTrainAndRetrain_probeAnswer :
  let b : Fin 136 := 81
  let s : State := onBank 81 (fun x => { x with st := 1, pulse := 5 })
  (Rises s.banks) ∧ (Rises s.ports) ∧ (Rises s.gt.ports) ∧ ((s.bank b).st = 1) ∧ (s.lit b = true) := by decide +kernel

theorem wit_LinksTrainAndRetrain_probeAnswerElse :
  let b : Fin 136 := 81
  let s : State := onBank 81 (fun x => { x with st := 2 })
  ((s.bank b).st ≠ 1 ∨ s.lit b = false) := by decide +kernel

theorem wit_LinksTrainAndRetrain_linkFrameReplay :
  let p : Fin 128 := 77
  let q : BitVec 16 := 0xFFFF
  let later : List Sent := [{ seq := 0xFFFF, pkt := default }, { seq := 0, pkt := default }]
  let s : State := up.modPort 77 (fun x => { x with nakIn := some 0xFFFF, retry := [{ seq := 0xFFFE, pkt := default }, { seq := 0xFFFF, pkt := default }, { seq := 0, pkt := default }] })
  (TablesRise s) ∧ ((s.port p).nakIn = some q) ∧ ((s.port p).retry.any (fun f => f.seq == q) = true) ∧ (later = (s.port p).retry.filter (fun f => decide ((f.seq - q).toNat < 0x8000))) ∧ (s.obj 0x4100 0x0D + later.length < 2 ^ 32) := by decide +kernel

theorem wit_LinksTrainAndRetrain_linkFrameNoReplay :
  let p : Fin 128 := 77
  let q : BitVec 16 := 0xFFFF
  let s : State := up
  ((s.port p).nakIn ≠ some q ∨ (s.port p).retry.any (fun f => f.seq == q) = false) := by decide +kernel

theorem wit_LinksTrainAndRetrain_portRetrain :
  let p : Fin 128 := 77
  let s : State := (onBank 81 (fun x => { x with st := 4 })).modPort 77 (fun x => { x with replays := 8 })
  (Rises s.banks) ∧ (Rises s.ports) ∧ (s.portSt p = 3 ∨ s.portSt p = 4) ∧ (8 ≤ (s.port p).replays) := by decide +kernel

theorem wit_LinksTrainAndRetrain_portRetrainNotYet :
  let p : Fin 128 := 77
  let s : State := (onBank 81 (fun x => { x with st := 4 })).modPort 77 (fun x => { x with replays := 7 })
  ((s.portSt p ≠ 3 ∧ s.portSt p ≠ 4) ∨ (s.port p).replays < 8) := by decide +kernel

theorem wit_LinksTrainAndRetrain_portRetrainDone :
  let p : Fin 128 := 77
  let s : State := (onBank 81 (fun x => { x with st := 2, before := 4, rxOut := [3] })).modPort 77 (fun x => { x with replays := 8 })
  (Rises s.banks) ∧ (Rises s.ports) ∧ (s.portSt p = 2) ∧ ((s.bank (s.bankOf p)).before ≠ 0) := by decide +kernel

theorem wit_LinksTrainAndRetrain_portRetrainDropsLanes :
  let p : Fin 128 := 77
  let s : State := (onBank 81 (fun x => { x with st := 2, before := 4, rxOut := [3], tx := locked36, rx := locked36 })).modPort 77 (fun x => { x with replays := 8 })
  (Rises s.banks) ∧ (Rises s.ports) ∧ (BankRises (s.bank (s.bankOf p))) ∧ (s.portSt p = 2) ∧ ((s.bank (s.bankOf p)).before ≠ 0) ∧ ((s.bank (s.bankOf p)).txLine = []) ∧ ((s.bank (s.bankOf p)).rxLine = []) := by decide +kernel

theorem wit_LinksTrainAndRetrain_portRetrainFails :
  let p : Fin 128 := 77
  let s : State := (onBank 81 (fun x => { x with st := 2, before := 4, failed := [5, 2 * tickS] })).modPort 77 (fun x => { x with replays := 8 })
  (Rises s.banks) ∧ (s.portSt p = 2) ∧ ((s.bank (s.bankOf p)).before ≠ 0) := by decide +kernel

theorem wit_LinksTrainAndRetrain_portNotInRetrain :
  let p : Fin 128 := 77
  let s : State := onBank 81 (fun x => { x with st := 2 })
  (s.portSt p ≠ 2 ∨ (s.bank (s.bankOf p)).before = 0) := by decide +kernel

theorem wit_LinksTrainAndRetrain_optCommission :
  let s : State := { up with lights := (List.range 8).map (fun i => (i, { st := 1, powers := [(35, some (-5))] })) }
  (KeysRise s) ∧ (Writable s) ∧ (∀ l : Fin 8, (s.light l.val).st = 1) ∧ (∀ p : Fin 128, s.portSt p.val = 3 ∨ s.portSt p.val = 0 ∨ s.portSt p.val = 1 ∨ s.portSt p.val = 7) := by decide +kernel

theorem wit_LinksTrainAndRetrain_optCommissionRefused :
  let v : BitVec 8 := 1
  let s : State := up
  (Writable s) ∧ (v ≠ 1 ∨ (∃ l : Fin 8, (s.light l.val).st ≠ 1) ∨ ∃ p : Fin 128, s.portSt p.val ≠ 0 ∧ s.portSt p.val ≠ 1 ∧ s.portSt p.val ≠ 3 ∧ s.portSt p.val ≠ 7) := by decide +kernel

theorem wit_LinksTrainAndRetrain_ringRecordRefresh_1 :
  let s : State := { (onBank 81 (fun x => { x with st := 3, tx := locked36 })) with time := 86400 * tickS, lights := [(4, { st := 1, record := true })] }
  (Rises s.flash.recs) ∧ (s.elm.refreshAt + 86400 * tickS ≤ s.time) ∧ (s.sys.ball ≠ none) := by decide +kernel

theorem wit_LinksTrainAndRetrain_ringRecordRefresh_2 :
  let s : State := { up with time := 86400 * tickS, lights := [(3, { st := 1, record := true })] }
  (Rises s.flash.recs) ∧ (s.elm.refreshAt + 86400 * tickS ≤ s.time) ∧ (s.sys.ball ≠ none) := by decide +kernel

theorem wit_LinksTrainAndRetrain_ringRecordNotDue :
  let s : State := up
  (s.time < s.elm.refreshAt + 86400 * tickS ∨ s.sys.ball = none) := by decide +kernel

theorem wit_FlitsAndBundles_flitReceive :
  let e : Fin 53 := 0
  let b : Fin 16 := 15
  let rev : Bool := false
  let f : BitVec 2048 := flitOf (2 ^ 24 + 4 * 2 ^ 12 + 9 + 77 * 2 ^ 40)
  let s : State := onBundle 0 15 (fun x => { x with width := 1, role := 3, fwd := { got := 3 }, rev := { sent := 20, retry := [⟨8, 1, 0⟩, ⟨9, 1, 0⟩, ⟨10, 1, 0⟩] } })
  (Rises s.lane.bundles) ∧ (s.bundleWorks e b = true) ∧ (b.val < bundlesOf e) ∧ (parityFails f = []) ∧ (flitCrcOk (flitBody f) = true) ∧ (fbType (flitBody f) = 1 ∨ (fbType (flitBody f) = 2 ∧ (s.bundle e b).role = 1)) ∧ (fbSeq (flitBody f) = ((s.bundle e b).dir rev).got + 1) := by decide +kernel

theorem wit_FlitsAndBundles_flitReceiveAgain :
  let e : Fin 53 := 0
  let b : Fin 16 := 15
  let rev : Bool := true
  let f : BitVec 2048 := flitOf (2 ^ 24 + 3 * 2 ^ 12 + 9 + 77 * 2 ^ 40)
  let s : State := onBundle 0 15 (fun x => { x with width := 1, role := 3, rev := { got := 3 } })
  (Rises s.lane.bundles) ∧ (s.bundleWorks e b = true) ∧ (b.val < bundlesOf e) ∧ (parityFails f = []) ∧ (flitCrcOk (flitBody f) = true) ∧ (fbType (flitBody f) = 1) ∧ (fbSeq (flitBody f) = ((s.bundle e b).dir rev).got) := by decide +kernel

theorem wit_FlitsAndBundles_flitReceiveBad_1 :
  let e : Fin 53 := 0
  let b : Fin 16 := 15
  let f : BitVec 2048 := flitOf (2 ^ 24 + 4 * 2 ^ 12 + 9 + 77 * 2 ^ 40) ^^^ 4
  let s : State := onBundle 0 15 (fun x => { x with width := 1, role := 3, fwd := { got := 3 }, rev := { sent := 20, retry := [⟨8, 1, 0⟩, ⟨9, 1, 0⟩, ⟨10, 1, 0⟩] } })
  (Rises s.lane.bundles) ∧ (s.bundleWorks e b = true) ∧ (b.val < bundlesOf e) ∧ (parityFails f ≠ [] ∨ flitCrcOk (flitBody f) = false) := by decide +kernel

theorem wit_FlitsAndBundles_flitReceiveBad_2 :
  let e : Fin 53 := 0
  let b : Fin 16 := 15
  let f : BitVec 2048 := flitOf (2 ^ 24 + 4 * 2 ^ 12 + 9 + 77 * 2 ^ 40) ^^^ 3
  let s : State := onBundle 0 15 (fun x => { x with width := 1, role := 3, fwd := { got := 3 } })
  (Rises s.lane.bundles) ∧ (s.bundleWorks e b = true) ∧ (b.val < bundlesOf e) ∧ (parityFails f ≠ [] ∨ flitCrcOk (flitBody f) = false) := by decide +kernel

theorem wit_FlitsAndBundles_flitReceiveParity_1 :
  let e : Fin 53 := 0
  let b : Fin 16 := 15
  let rev : Bool := false
  let i : Fin 64 := 63
  let n : Nat := 67
  let f : BitVec 2048 := flitOf (2 ^ 24 + 4 * 2 ^ 12 + 9 + 77 * 2 ^ 40) ^^^ BitVec.ofNat 2048 (2 ^ 2047)
  let s : State := onBundle 0 15 (fun x => { x with width := 1, role := 3, fwd := { got := 3, errs := [(67, [5, 2 * tickS])], lanes := { bad := [65], map := [(63, 68)] } } })
  (Rises s.lane.bundles) ∧ (Rises ((s.bundle e b).dir rev).errs) ∧ (s.bundleWorks e b = true) ∧ (b.val < bundlesOf e) ∧ (parityFails f = [i.val]) ∧ (n = ((s.bundle e b).dir rev).lanes.physOf (if (s.bundle e b).width = 1 then i.val else i.val % 32 + 32 * ((s.bundle e b).width - 2))) := by decide +kernel

theorem wit_FlitsAndBundles_flitReceiveParity_2 :
  let e : Fin 53 := 0
  let b : Fin 16 := 15
  let rev : Bool := false
  let i : Fin 64 := 33
  let n : Nat := 35
  let f : BitVec 2048 := flitOf (2 ^ 24 + 4 * 2 ^ 12 + 9 + 77 * 2 ^ 40) ^^^ BitVec.ofNat 2048 (2 ^ 1060)
  let s : State := onBundle 0 15 (fun x => { x with width := 3, role := 3, fwd := { got := 3 } })
  (Rises s.lane.bundles) ∧ (Rises ((s.bundle e b).dir rev).errs) ∧ (s.bundleWorks e b = true) ∧ (b.val < bundlesOf e) ∧ (parityFails f = [i.val]) ∧ (n = ((s.bundle e b).dir rev).lanes.physOf (if (s.bundle e b).width = 1 then i.val else i.val % 32 + 32 * ((s.bundle e b).width - 2))) := by decide +kernel

theorem wit_FlitsAndBundles_flitReceiveGap :
  let e : Fin 53 := 0
  let b : Fin 16 := 15
  let rev : Bool := false
  let k : Nat := 1
  let f : BitVec 2048 := flitOf (2 ^ 24 + 5 * 2 ^ 12 + 9 + 77 * 2 ^ 40)
  let s : State := onBundle 0 15 (fun x => { x with width := 1, role := 3, fwd := { got := 3 } })
  (Rises s.lane.bundles) ∧ (s.bundleWorks e b = true) ∧ (b.val < bundlesOf e) ∧ (parityFails f = []) ∧ (flitCrcOk (flitBody f) = true) ∧ (fbType (flitBody f) = 1) ∧ (1 ≤ k) ∧ (k < 2048) ∧ (fbSeq (flitBody f) = ((s.bundle e b).dir rev).got + 1 + BitVec.ofNat 12 k) := by decide +kernel

theorem wit_FlitsAndBundles_flitReceiveRetrain :
  let e : Fin 53 := 0
  let b : Fin 16 := 15
  let f : BitVec 2048 := flitOf (4 * 2 ^ 24 + 5 * 2 ^ 12 + 9)
  let s : State := onBundle 0 15 (fun x => { x with width := 1, role := 3, fwd := { got := 3 } })
  (Rises s.lane.bundles) ∧ (s.bundleWorks e b = true) ∧ (b.val < bundlesOf e) ∧ (parityFails f = []) ∧ (flitCrcOk (flitBody f) = true) ∧ (fbType (flitBody f) = 4) := by decide +kernel

theorem wit_FlitsAndBundles_flitReceiveNothing_1 :
  let e : Fin 53 := 0
  let b : Fin 16 := 15
  let f : BitVec 2048 := flitOf (2 * 2 ^ 24 + 4 * 2 ^ 12 + 9)
  let s : State := onBundle 0 15 (fun x => { x with width := 1, role := 3, fwd := { got := 3 } })
  (s.bundleWorks e b = false ∨ bundlesOf e ≤ b.val ∨ (parityFails f = [] ∧ flitCrcOk (flitBody f) = true ∧ fbType (flitBody f) = 2 ∧ (s.bundle e b).role ≠ 1)) := by decide +kernel

theorem wit_FlitsAndBundles_flitReceiveNothing_2 :
  let e : Fin 53 := 30
  let b : Fin 16 := 12
  let f : BitVec 2048 := flitOf (2 * 2 ^ 24 + 4 * 2 ^ 12 + 9)
  let s : State := up
  (s.bundleWorks e b = false ∨ bundlesOf e ≤ b.val ∨ (parityFails f = [] ∧ flitCrcOk (flitBody f) = true ∧ fbType (flitBody f) = 2 ∧ (s.bundle e b).role ≠ 1)) := by decide +kernel

theorem wit_FlitsAndBundles_flitNak :
  let e : Fin 53 := 0
  let b : Fin 16 := 15
  let rev : Bool := false
  let q : BitVec 12 := 4095
  let fs : List Flit := [⟨4095, 1, 7⟩, ⟨0, 2, 8⟩]
  let s : State := onBundle 0 15 (fun x => { x with width := 2, role := 3, fwd := { got := 3, sent := 0, retry := [⟨4094, 1, 6⟩, ⟨4095, 1, 7⟩, ⟨0, 2, 8⟩] } })
  (TablesRise s) ∧ (s.bundleWorks e b = true) ∧ (b.val < bundlesOf e) ∧ (fs = ((s.bundle e b).dir rev).retry.filter (fun f => seqUpTo q f.seq)) ∧ (fs ≠ []) ∧ (s.obj 0x5200 4 + fs.length < 2 ^ 32) := by decide +kernel

theorem wit_FlitsAndBundles_flitNakNothing :
  let e : Fin 53 := 0
  let b : Fin 16 := 15
  let rev : Bool := false
  let s : State := up
  (s.bundleWorks e b = false ∨ bundlesOf e ≤ b.val ∨ ((s.bundle e b).dir rev).retry = []) := by decide +kernel

theorem wit_FlitsAndBundles_bundleTraining_1 :
  let e : Fin 53 := 2
  let b : Fin 16 := 15
  let s : State := onDie 2 (fun x => { x with everActive := true })
  (TablesRise s) ∧ ((s.bundle e b).width = 0) ∧ (b.val < bundlesOf e) ∧ (s.canTrain (edgeEnds e).1 = true) ∧ (s.canTrain (edgeEnds e).2 = true) ∧ (7 ≤ s.bootStep) ∧ (s.bootStep ≤ 12) ∧ (s.bootStep = 7 → ∀ k ∈ [(edgeEnds e).1, (edgeEnds e).2], s.pwr.has (.startLanes (Fin.ofNat 25 k)) = true) ∧ (s.fab.stuck = []) := by decide +kernel

theorem wit_FlitsAndBundles_bundleTraining_2 :
  let e : Fin 53 := 2
  let b : Fin 16 := 15
  let s : State := onDie 2 (fun x => { x with everActive := true })
  (TablesRise s) ∧ ((s.bundle e b).width = 0) ∧ (b.val < bundlesOf e) ∧ (s.canTrain (edgeEnds e).1 = true) ∧ (s.canTrain (edgeEnds e).2 = true) ∧ (7 ≤ s.bootStep) ∧ (s.bootStep ≤ 12) ∧ (s.bootStep = 7 → ∀ k ∈ [(edgeEnds e).1, (edgeEnds e).2], s.pwr.has (.startLanes (Fin.ofNat 25 k)) = true) ∧ (s.fab.stuck = []) := by decide +kernel

theorem wit_FlitsAndBundles_bundleTrainingNot :
  let e : Fin 53 := 2
  let b : Fin 16 := 15
  let s : State := onDie 2 (fun x => { x with pstate := 4 })
  ((s.bundle e b).width ≠ 0 ∨ bundlesOf e ≤ b.val ∨ s.bootStep < 7 ∨ s.canTrain (edgeEnds e).1 = false ∨ s.canTrain (edgeEnds e).2 = false) := by decide +kernel

theorem wit_FlitsAndBundles_bundleRetrain :
  let e : Fin 53 := 0
  let b : Fin 16 := 15
  let rev : Bool := false
  let s : State := onBundle 0 15 (fun x => { x with width := 2, role := 3, fwd := { replays := 8 } })
  (Rises s.lane.bundles) ∧ (s.bundleWorks e b = true) ∧ (8 ≤ ((s.bundle e b).dir rev).replays) := by decide +kernel

theorem wit_FlitsAndBundles_bundleRetrainNot :
  let e : Fin 53 := 0
  let b : Fin 16 := 15
  let rev : Bool := false
  let s : State := onBundle 0 15 (fun x => { x with width := 2, role := 3, fwd := { replays := 7 } })
  (s.bundleWorks e b = false ∨ ((s.bundle e b).dir rev).replays < 8) := by decide +kernel

theorem wit_FlitsAndBundles_panelLaneFailed :
  let e : Fin 53 := 0
  let b : Fin 16 := 15
  let rev : Bool := false
  let n : Fin 68 := 65
  let s : State := onBundle 0 15 (fun x => { x with width := 1, last := 1, role := 3, fwd := { errs := [(65, [1, 2, 3, 4, 5, 6, 7, 8])] } })
  (TablesRise s) ∧ ((s.bundle e b).width = 1 ∨ (s.bundle e b).width = 2 + n.val / 34) ∧ (8 ≤ (mapGet [] ((s.bundle e b).dir rev).errs n.val).length) ∧ (Rises ((s.bundle e b).dir rev).errs) ∧ (((s.bundle e b).dir rev).lanes.bad.contains n.val = false) ∧ (32 < ((s.bundle e b).dir rev).lanes.goodIn (n.val / 34)) ∧ ((s.bundle e b).last ≠ 0) ∧ (s.obj 0x5200 1 + 1 < 2 ^ 32) := by decide +kernel

theorem wit_FlitsAndBundles_panelLaneNoSpare :
  let e : Fin 53 := 0
  let b : Fin 16 := 15
  let rev : Bool := false
  let n : Fin 68 := 65
  let s : State := onBundle 0 15 (fun x => { x with width := 3, last := 3, role := 3, fwd := { errs := [(65, [1, 2, 3, 4, 5, 6, 7, 8])], lanes := { bad := [66, 67] } } })
  (TablesRise s) ∧ ((s.bundle e b).width = 1 ∨ (s.bundle e b).width = 2 + n.val / 34) ∧ (8 ≤ (mapGet [] ((s.bundle e b).dir rev).errs n.val).length) ∧ (((s.bundle e b).dir rev).lanes.bad.contains n.val = false) ∧ (((s.bundle e b).dir rev).lanes.goodIn (n.val / 34) = 32) := by decide +kernel

theorem wit_FlitsAndBundles_panelLaneGood :
  let e : Fin 53 := 0
  let b : Fin 16 := 15
  let rev : Bool := false
  let n : Fin 68 := 65
  let s : State := up
  (s.bundleWorks e b = false ∨ (mapGet [] ((s.bundle e b).dir rev).errs n.val).length < 8) := by decide +kernel

theorem wit_FlitsAndBundles_bundleHalfWidth_1 :
  let e : Fin 53 := 0
  let b : Fin 16 := 15
  let w : Nat := 2
  let s : State := onBundle 0 15 (fun x => { x with width := 1, last := 1, role := 3, fwd := { lanes := { bad := [35, 36, 67] } } })
  (TablesRise s) ∧ ((s.bundle e b).widest = w) ∧ (w = 2 ∨ w = 3) ∧ ((s.bundle e b).width = 1 ∨ (s.bundle e b).width = 5 - w) ∧ ((s.bundle e b).last = (s.bundle e b).width) ∧ (s.obj 0x5200 2 + 1 < 2 ^ 32) := by decide +kernel

theorem wit_FlitsAndBundles_bundleHalfWidth_2 :
  let e : Fin 53 := 0
  let b : Fin 16 := 15
  let w : Nat := 3
  let s : State := onBundle 0 15 (fun x => { x with width := 2, last := 2, role := 3, fwd := { lanes := { bad := [0, 1, 2] } } })
  (TablesRise s) ∧ ((s.bundle e b).widest = w) ∧ (w = 2 ∨ w = 3) ∧ ((s.bundle e b).width = 1 ∨ (s.bundle e b).width = 5 - w) ∧ ((s.bundle e b).last = (s.bundle e b).width) ∧ (s.obj 0x5200 2 + 1 < 2 ^ 32) := by decide +kernel

theorem wit_FlitsAndBundles_bundleDisabled :
  let e : Fin 53 := 0
  let b : Fin 16 := 15
  let s : State := onBundle 0 15 (fun x => { x with width := 3, last := 3, role := 3, fwd := { retry := [⟨8, 1, 0⟩], lanes := { bad := [0, 1, 2, 40, 41, 42] } } })
  (TablesRise s) ∧ (s.bundleWorks e b = true) ∧ ((s.bundle e b).widest = 4) ∧ ((s.bundle e b).last = (s.bundle e b).width) ∧ (∀ k : Fin 16, k ≠ b → (s.bundle e k).role ≠ (s.bundle e b).role ∨ s.bundleWorks e k = false) := by decide +kernel

theorem wit_FlitsAndBundles_bundleDisabledHandsOver :
  let e : Fin 53 := 0
  let b : Fin 16 := 15
  let c : Fin 16 := 3
  let f : Flit := ⟨8, 1, 77⟩
  let s : State := (onBundle 0 15 (fun x => { x with width := 3, last := 3, role := 3, fwd := { retry := [⟨8, 1, 77⟩], lanes := { bad := [0, 1, 2, 40, 41, 42] } } })).modBundle 0 3 (fun x => { x with width := 1, role := 3, fwd := { sent := 4095 } })
  (TablesRise s) ∧ (s.bundleWorks e b = true) ∧ ((s.bundle e b).widest = 4) ∧ (b.val < bundlesOf e) ∧ (c.val < bundlesOf e) ∧ (c ≠ b) ∧ (s.bundleWorks e c = true) ∧ ((s.bundle e c).role = (s.bundle e b).role) ∧ (∀ k : Fin 16, k ≠ b → k ≠ c → (s.bundle e k).role ≠ (s.bundle e b).role) ∧ ((s.bundle e b).fwd.retry = [f]) ∧ ((s.bundle e b).rev.retry = []) ∧ ((s.bundle e c).fwd.retry.length < 256) ∧ (s.obj 0x5200 4 + 1 < 2 ^ 32) := by
  repeat' apply And.intro
  all_goals first | decide +kernel

theorem wit_FlitsAndBundles_bundleWidthStands :
  let e : Fin 53 := 0
  let b : Fin 16 := 15
  let s : State := onBundle 0 15 (fun x => { x with width := 1, role := 3, fwd := { lanes := { bad := [35, 36] } } })
  (s.bundleWorks e b = false ∨ (32 ≤ (s.bundle e b).goodIn 0 ∧ 32 ≤ (s.bundle e b).goodIn 1)) := by decide +kernel

theorem wit_FlitsAndBundles_roleRefill :
  let e : Fin 53 := 30
  let b : Fin 16 := 4
  let s : State := ((onBundle 30 3 (fun x => { x with width := 4, role := 1 })).modBundle 30 4 (fun x => { x with width := 1, role := 3 })).modBundle 30 5 (fun x => { x with width := 1, role := 3 })
  (Rises s.lane.bundles) ∧ (s.roleLost e 1 = true) ∧ (s.firstOf e 3 = some b.val) ∧ (∀ k : Fin 16, (s.bundle e k).width = 4 → (s.bundle e k).fwd.retry = [] ∧ (s.bundle e k).rev.retry = []) := by decide +kernel

theorem wit_FlitsAndBundles_roleRefillFabric :
  let e : Fin 53 := 0
  let b : Fin 16 := 2
  let c : Fin 16 := 0
  let s : State := ((onBundle 0 0 (fun x => { x with width := 1, role := 1 })).modBundle 0 2 (fun x => { x with width := 1, role := 2 })).modBundle 0 5 (fun x => { x with width := 4, role := 3 })
  (Rises s.lane.bundles) ∧ ((s.bundle e c).role = 1) ∧ ((s.bundle e c).width ≠ 4) ∧ (c.val < bundlesOf e) ∧ (s.roleLost e 3 = true) ∧ (s.firstOf e 2 = some b.val) ∧ (∀ k : Fin 16, (s.bundle e k).width = 4 → (s.bundle e k).fwd.retry = [] ∧ (s.bundle e k).rev.retry = []) := by decide +kernel

theorem wit_FlitsAndBundles_roleRefillNone :
  let e : Fin 53 := 30
  let b : Fin 16 := 3
  let c : Fin 16 := 4
  let s : State := (onBundle 30 3 (fun x => { x with width := 1, role := 1 })).modBundle 30 4 (fun x => { x with width := 1, role := 3 })
  ((s.bundle e b).role = 1) ∧ ((s.bundle e b).width ≠ 4) ∧ (b.val < bundlesOf e) ∧ ((s.bundle e c).role = 3) ∧ ((s.bundle e c).width ≠ 4) ∧ (c.val < bundlesOf e) ∧ (∀ k : Fin 16, (s.bundle e k).width = 4 → (s.bundle e k).fwd.retry = [] ∧ (s.bundle e k).rev.retry = []) := by decide +kernel

theorem wit_LaneMapsAndTests_routeWeightUpdate :
  let s : State := (onBank 81 (fun x => { x with st := 4, txOut := [3] })).modBundle 33 2 (fun x => { x with width := 2 })
  (s.fab.held = []) := by decide +kernel

theorem wit_LaneMapsAndTests_detourLoad :
  let s : State := onBundle 0 0 (fun x => { x with width := 1 })
  (∀ e : Fin 40, s.edgeLost e.val = false) ∧ (∀ e : Fin 13, s.edgeLost (40 + e.val) = false) ∧ (s.fab.stuck = []) := by decide +kernel

theorem wit_LaneMapsAndTests_detourLost :
  let e : Fin 40 := 1
  let s : State := { up with lane := { bundles := (List.range 16).map (fun i => (16 + i, { width := 4 })) } }
  (s.edgeLost e = true) ∧ (∀ k : Fin 53, k.val ≠ e.val → s.edgeLost k.val = false) ∧ (s.lane.detours.contains e.val = false) ∧ (s.fab.stuck = []) := by decide +kernel

theorem wit_LaneMapsAndTests_detourRing :
  let a : Fin 13 := 0
  let b : Fin 13 := 12
  let s : State := { up with lane := { bundles := [(640, { width := 4 }), (832, { width := 4 })] } }
  (a < b) ∧ (s.edgeLost (40 + a.val) = true) ∧ (s.edgeLost (40 + b.val) = true) ∧ (∀ k : Fin 40, s.edgeLost k.val = false) ∧ (s.lane.ringDown = false) ∧ (s.fab.stuck = []) := by decide +kernel

theorem wit_LaneMapsAndTests_laneTestMode :
  let v : BitVec 8 := 2
  let s : State := up.setObj 0xB000 1 9
  (TablesRise s) ∧ (Writable s) ∧ (s.bootStep ≠ 12) ∧ (s.queuesOff = true) ∧ (∀ b : Fin 136, (s.bank b.val).st = 0) ∧ (v = 1 ∨ v = 2) := by decide +kernel

theorem wit_LaneMapsAndTests_laneTestRefused_1 :
  let v : BitVec 8 := 2
  let s : State := up
  (Writable s) ∧ (s.bootStep = 12 ∨ s.queuesOff = false ∨ (s.bank 0).st ≠ 0 ∨ 2 < v.toNat) ∧ (v ≠ 0) := by decide +kernel

theorem wit_LaneMapsAndTests_laneTestRefused_2 :
  let v : BitVec 8 := 3
  let s : State := up
  (Writable s) ∧ (s.bootStep = 12 ∨ s.queuesOff = false ∨ (s.bank 0).st ≠ 0 ∨ 2 < v.toNat) ∧ (v ≠ 0) := by decide +kernel

theorem wit_LaneMapsAndTests_laneTestLeave :
  let s : State := { up with lane := { bundles := [(640, { width := 4 }), (832, { width := 1 })], test := 2 } }
  (TablesRise s) ∧ (Writable s) ∧ (s.lane.test ≠ 0) := by decide +kernel

theorem wit_LaneMapsAndTests_laneTestEnd :
  let s : State := { (onBundle 0 0 (fun x => { x with width := 1 })) with lane := { (onBundle 0 0 (fun x => { x with width := 1 })).lane with test := 2, testAt := tickS } }
  (TablesRise s) ∧ (s.lane.test ≠ 0) ∧ (s.lane.testAt + tickS ≤ s.time) := by decide +kernel

theorem wit_LaneMapsAndTests_laneTestRuns :
  let s : State := up
  (s.lane.test = 0 ∨ s.time < s.lane.testAt + tickS) := by decide +kernel

theorem wit_LinkFramesCarryPackets_linkFrameReceive :
  let p : Fin 128 := 77
  let x : BitVec 64 := framePrefix 0 6 true (pkt9 id)
  let k : Packet := pkt9 id
  let s : State := linked.modPort 77 (fun x => { x with retry := [{ seq := 6, pkt := pkt9 id }, { seq := 7, pkt := pkt9 id }] })
  (Rises s.ports) ∧ (s.portSt p = 3 ∨ s.portSt p = 4 ∨ s.portSt p = 6) ∧ (bits x 23 16 = k.len32) ∧ (bits x 63 48 = ((s.port p).lfGot + 1).toNat) ∧ (s.fenced = false) ∧ (occupancy (s.port p) k.cls.toNat + k.size ≤ 262144) := by decide +kernel

theorem wit_LinkFramesCarryPackets_linkFrameReceiveBad :
  let p : Fin 128 := 77
  let x : BitVec 64 := framePrefix 0 6 true (pkt9 id)
  let k : Packet := pkt9 id
  let c : BitVec 32 := frameCrc (framePrefix 0 6 true (pkt9 id)) (pkt9 id) ^^^ 8
  let s : State := linked
  (Rises s.ports) ∧ (s.portSt p = 3 ∨ s.portSt p = 4 ∨ s.portSt p = 6) ∧ (c ≠ frameCrc x k ∨ bits x 23 16 ≠ k.len32) := by decide +kernel

theorem wit_LinkFramesCarryPackets_linkFrameReceiveGap :
  let p : Fin 128 := 77
  let x : BitVec 64 := framePrefix 1 6 true (pkt9 id)
  let k : Packet := pkt9 id
  let n : Nat := 1
  let s : State := linked
  (Rises s.ports) ∧ (s.portSt p = 3 ∨ s.portSt p = 4 ∨ s.portSt p = 6) ∧ (bits x 23 16 = k.len32) ∧ (1 ≤ n) ∧ (n < 0x8000) ∧ (BitVec.ofNat 16 (bits x 63 48) = (s.port p).lfGot + 1 + BitVec.ofNat 16 n) := by decide +kernel

theorem wit_LinkFramesCarryPackets_linkFrameReceiveAgain :
  let p : Fin 128 := 77
  let x : BitVec 64 := framePrefix 0xFFFF 6 true (pkt9 id)
  let k : Packet := pkt9 id
  let s : State := linked
  (Rises s.ports) ∧ (s.portSt p = 3 ∨ s.portSt p = 4 ∨ s.portSt p = 6) ∧ (bits x 23 16 = k.len32) ∧ (BitVec.ofNat 16 (bits x 63 48) = (s.port p).lfGot) := by decide +kernel

theorem wit_LinkFramesCarryPackets_linkFrameReceiveFull :
  let p : Fin 128 := 77
  let x : BitVec 64 := framePrefix 0 6 true (pkt9 id)
  let k : Packet := pkt9 id
  let s : State := linked.modPort 77 (fun x => { x with ingress := [pkt9 (fun k => { k with payload := List.replicate 262144 0 })] })
  (TablesRise s) ∧ (s.portSt p = 3 ∨ s.portSt p = 4 ∨ s.portSt p = 6) ∧ (bits x 23 16 = k.len32) ∧ (bits x 63 48 = ((s.port p).lfGot + 1).toNat) ∧ (s.fenced = false) ∧ (262144 < occupancy (s.port p) k.cls.toNat + k.size) ∧ (s.obj 0x5000 0x0B + 1 < 2 ^ 32) := by decide +kernel

theorem wit_LinkFramesCarryPackets_linkFrameReceiveFenced :
  let p : Fin 128 := 77
  let x : BitVec 64 := framePrefix 0 6 true (pkt9 id)
  let k : Packet := pkt9 id
  let s : State := linked.setObj 0x8000 1 3
  (TablesRise s) ∧ (s.portSt p = 3 ∨ s.portSt p = 4 ∨ s.portSt p = 6) ∧ (bits x 23 16 = k.len32) ∧ (bits x 63 48 = ((s.port p).lfGot + 1).toNat) ∧ (s.fenced = true) ∧ (s.obj 0x5000 7 + 1 < 2 ^ 32) := by decide +kernel

theorem wit_LinkFramesCarryPackets_linkFrameReceiveDark :
  let p : Fin 128 := 78
  let s : State := linked
  (s.portSt p ≠ 3) ∧ (s.portSt p ≠ 4) ∧ (s.portSt p ≠ 6) := by decide +kernel

theorem wit_LinkFramesCarryPackets_linkFrameSendReplay :
  let p : Fin 128 := 77
  let f : Sent := { seq := 6, pkt := pkt9 id }
  let fs : List Sent := [{ seq := 7, pkt := pkt9 id }]
  let s : State := linked.modPort 77 (fun x => { x with nak := true, lfGot := 44, resend := [{ seq := 6, pkt := pkt9 id }, { seq := 7, pkt := pkt9 id }] })
  let x : BitVec 64 := framePrefix 6 44 true (pkt9 id)
  let b : Bits := ({ } : Bits).addBytes (linkBytes (framePrefix 6 44 true (pkt9 id)) (pkt9 id))
  (Rises s.ports) ∧ (s.portSt p = 3 ∨ s.portSt p = 4) ∧ ((s.port p).resend = f :: fs) ∧ (x = framePrefix f.seq (s.port p).lfGot (s.port p).nak f.pkt) ∧ (b = (if fs = [] ∧ (s.port p).voq = [] then ((s.port p).txBits.addBytes (linkBytes x f.pkt)).fill else (s.port p).txBits.addBytes (linkBytes x f.pkt))) := by decide +kernel

theorem wit_LinkFramesCarryPackets_linkFrameSend :
  let p : Fin 128 := 77
  let k : Packet := pkt9 id
  let s : State := linked.modPort 77 (fun x => { x with nak := true, lfGot := 44, voq := [pkt9 id] })
  let x : BitVec 64 := framePrefix 0 44 true (pkt9 id)
  let b : Bits := (({ } : Bits).addBytes (linkBytes (framePrefix 0 44 true (pkt9 id)) (pkt9 id))).fill
  (Rises s.ports) ∧ (s.portSt p = 3 ∨ s.portSt p = 4) ∧ (s.fenced = false) ∧ ((s.port p).resend = []) ∧ ((s.port p).voq = [k]) ∧ (k.cls ≠ 0) ∧ (s.xoff p k.cls.toNat = false) ∧ (retryBytes (s.port p) + frameSize k ≤ 262144) ∧ (x = framePrefix (s.port p).lfNext (s.port p).lfGot (s.port p).nak k) ∧ (b = ((s.port p).txBits.addBytes (linkBytes x k)).fill) := by
  repeat' apply And.intro
  all_goals first | decide +kernel

theorem wit_LinkFramesCarryPackets_linkFrameSendClass3 :
  let p : Fin 128 := 77
  let j : Packet := pkt9 id
  let k : Packet := pkt9 (fun k => { k with cls := 3 })
  let s : State := linked.modPort 77 (fun x => { x with voq := [pkt9 id, pkt9 (fun k => { k with cls := 3 })] })
  (Rises s.ports) ∧ (s.portSt p = 3 ∨ s.portSt p = 4) ∧ (s.fenced = false) ∧ ((s.port p).resend = []) ∧ ((s.port p).voq = [j, k]) ∧ (j.cls ≠ 3) ∧ (k.cls = 3) ∧ (s.xoff p 3 = false) ∧ ((s.port p).win = []) ∧ (retryBytes (s.port p) + frameSize k ≤ 262144) := by
  repeat' apply And.intro
  all_goals first | decide +kernel

theorem wit_LinkFramesCarryPackets_linkFrameSendNothing :
  let p : Fin 128 := 77
  let s : State := linked
  ((s.portSt p ≠ 3 ∧ s.portSt p ≠ 4) ∨ ((s.port p).resend = [] ∧ (s.fenced = true ∨ (s.port p).voq = []))) := by decide +kernel

theorem wit_LinkFramesCarryPackets_linkStateSend :
  let p : Fin 128 := 77
  let s : State := linked.modPort 77 (fun x => { x with nak := true, lfGot := 44, xoffOut := 5 })
  (Rises s.ports) ∧ (s.linkUp p = true) ∧ ((s.port p).lsDue = true ∨ ((s.port p).lfGot ≠ (s.port p).ackSent ∧ (s.port p).lsAt + 250 * tickNs ≤ s.time) ∨ (s.port p).lsAt + tickUs ≤ s.time) := by decide +kernel

theorem wit_LinkFramesCarryPackets_linkStateSays :
  let p : Fin 128 := 77
  let s : State := linked.modPort 77 (fun x => { x with nak := true, lfGot := 44, xoffOut := 5, lsDue := true })
  let f : BitVec 256 := BitVec.ofNat 256 (field 248 2 + field 244 3 + field 240 5 + field 224 44 + field 223 1 + field 200 12 + field 192 255)
  (s.linkUp p = true) ∧ ((s.port p).lsDue = true) ∧ ((s.port p).missing = []) ∧ (f = BitVec.ofNat 256 (field 248 2 + field 244 (s.portSt p) + field 240 (s.port p).xoffOut.toNat + field 224 (s.port p).lfGot.toNat + field 223 (s.port p).nak.toNat + field 200 s.moduleId + field 192 ((s.port p).lseqNext - 1).toNat + s.epoch)) := by decide +kernel

theorem wit_LinkFramesCarryPackets_linkStateNotDue :
  let p : Fin 128 := 77
  let s : State := linked.modPort 77 (fun x => { x with lsAt := 2 * tickS })
  (s.linkUp p = false ∨ ((s.port p).lsDue = false ∧ (s.port p).lfGot = (s.port p).ackSent ∧ s.time < (s.port p).lsAt + tickUs)) := by decide +kernel

theorem wit_LinkFramesCarryPackets_linkStateReceive :
  let p : Fin 128 := 77
  let f : BitVec 256 := BitVec.ofNat 256 (field 248 2 + field 240 9 + field 224 6 + field 223 1 + field 192 1 + field 184 254 + field 180 3)
  let s : State := linked.modPort 77 (fun x => { x with retry := [{ seq := 6, pkt := pkt9 id }, { seq := 7, pkt := pkt9 id }] })
  let gap : Nat := 2
  (Rises s.ports) ∧ (s.linkUp p = true) ∧ (bits f 255 248 = 2) ∧ (s.fab.held = []) ∧ ((s.port p).wait0 = []) ∧ (gap = (BitVec.ofNat 8 (bits f 199 192) + 1 - (s.port p).lseqWant).toNat) := by decide +kernel

theorem wit_LinkFramesCarryPackets_linkStateStarts :
  let p : Fin 128 := 77
  let f : BitVec 256 := BitVec.ofNat 256 (field 248 2 + field 192 255)
  let g : BitVec 256 := flagFrame 12 0 9 3 5 true 0 0 4095 77
  let s : State := linked.modPort 77 (fun x => { x with xoffIn := 1, wait0 := [(flagFrame 12 0 9 3 5 true 0 0 4095 77, none)], lseqNext := 255 })
  (Rises s.ports) ∧ (s.linkUp p = true) ∧ (bits f 255 248 = 2) ∧ (bit f 240 = false) ∧ (s.fab.held = []) ∧ ((s.port p).wait0 = [(g, none)]) ∧ ((s.port p).own0 = 0) ∧ ((s.port p).start0 = 0) := by decide +kernel

theorem wit_LinkFramesCarryPackets_linkStateElse :
  let p : Fin 128 := 77
  let f : BitVec 256 := BitVec.ofNat 256 (field 248 2)
  let s : State := up
  (s.linkUp p = false ∨ bits f 255 248 ≠ 2) := by decide +kernel

theorem wit_LinkFramesCarryPackets_class0Resend :
  let p : Fin 128 := 77
  let n : BitVec 8 := 255
  let f : BitVec 256 := BitVec.ofNat 256 (field 248 4 + field 240 255)
  let s : State := linked.modPort 77 (fun x => { x with ask := [255], sent0 := [BitVec.ofNat 256 (field 248 4 + field 240 255)] })
  (TablesRise s) ∧ ((s.port p).ask.contains n = true) ∧ ((s.port p).sent0.find? (fun f => fLseq f == n.toNat) = some f) ∧ (s.obj 0x5000 0x0E + 1 < 2 ^ 32) := by decide +kernel

theorem wit_LinkFramesCarryPackets_class0Lost :
  let p : Fin 128 := 77
  let n : BitVec 8 := 255
  let s : State := linked.modPort 77 (fun x => { x with ask := [255] })
  (TablesRise s) ∧ ((s.port p).ask.contains n = true) ∧ ((s.port p).sent0.find? (fun f => fLseq f == n.toNat) = none) ∧ (s.obj 0x5000 0x0F + 1 < 2 ^ 32) := by decide +kernel

theorem wit_LinkFramesCarryPackets_class0Unasked :
  let p : Fin 128 := 77
  let n : BitVec 8 := 255
  let s : State := linked
  ((s.port p).ask.contains n = false) := by decide +kernel

theorem wit_LinkFramesCarryPackets_fabStall :
  let p : Fin 128 := 77
  let c : Fin 4 := 3
  let s : State := linked.modPort 77 (fun x => { x with xoffIn := 8, xoffSince := [(3, 9)] })
  (TablesRise s) ∧ (Rises (s.port p).xoffSince) ∧ (s.xoff p c = true) ∧ (mapGet 0 (s.port p).xoffSince c.val ≠ 0) ∧ (mapGet 0 (s.port p).xoffSince c.val - 1 + tickMs ≤ s.time) ∧ (s.obj 0x5000 0x0C + 1 < 2 ^ 32) := by decide +kernel

theorem wit_LinkFramesCarryPackets_fabFlows :
  let p : Fin 128 := 77
  let c : Fin 4 := 3
  let s : State := linked
  (s.xoff p c = false ∨ mapGet 0 (s.port p).xoffSince c.val = 0 ∨ s.time < mapGet 0 (s.port p).xoffSince c.val - 1 + tickMs) := by decide +kernel

theorem wit_RoutesAndPackets_fabModuleId :
  let v : BitVec 16 := 0xFFFE
  let s : State := up
  (Rises s.dict) ∧ (Writable s) ∧ (s.queuesOff = true) ∧ (v ≠ 0xFFFF) := by decide +kernel

theorem wit_RoutesAndPackets_fabModuleIdRefused_1 :
  let v : BitVec 16 := 0xFFFF
  let s : State := up
  (Writable s) ∧ (v = 0xFFFF ∨ s.queuesOff = false) := by decide +kernel

theorem wit_RoutesAndPackets_fabModuleIdRefused_2 :
  let v : BitVec 16 := 5
  let s : State := onCore 3 5 (fun x => { x with q1 := { enable := true } })
  (Writable s) ∧ (v = 0xFFFF ∨ s.queuesOff = false) := by decide +kernel

theorem wit_RoutesAndPackets_routeEntryWrite :
  let s : State := up
  (Rises s.fab.routes) ∧ (s.fab.held = []) := by decide +kernel

theorem wit_RoutesAndPackets_routeGenerationAdvance :
  let s : State := { up with fab := { genDue := true, old := [(3, (9, 8))] } }
  (Rises s.dict) ∧ (s.fab.genDue = true) := by decide +kernel

theorem wit_RoutesAndPackets_routeGenerationStands :
  let s : State := up
  (s.fab.genDue = false) := by decide +kernel

theorem wit_RoutesAndPackets_packetDelivered :
  let p : Fin 128 := 77
  let k : Packet := pkt9 (fun k => { k with op := 2 })
  let s : State := linked.modPort 77 (fun x => { x with ingress := [pkt9 (fun k => { k with op := 2 }), pkt9 id] })
  (Rises s.ports) ∧ ((s.port p).ingress.find? (fun j => j.cls == k.cls) = some k) ∧ (s.homeFull k = false) ∧ (s.fenced = false) ∧ (k.op ≠ 0x40) ∧ (k.hchk = k.check) ∧ (s.staleEpoch k.epoch.toNat = false) ∧ (s.hasId = true) ∧ (k.dstModule.toNat = s.moduleId) ∧ (opDefined k.op.toNat = true) ∧ (Joined s (16 + p.val / 16) (innerKey k)) := by
  repeat' apply And.intro
  all_goals first | decide +kernel

theorem wit_RoutesAndPackets_packetCutOff :
  let p : Fin 128 := 77
  let k : Packet := pkt9 (fun k => { k with op := 2 })
  let s : State := { (linked.modPort 77 (fun x => { x with ingress := [pkt9 (fun k => { k with op := 2 }), pkt9 id] })) with lane := { bundles := (List.range 28).map (fun i => (512 + i, { width := 4 })) } }
  (Rises s.ports) ∧ ((s.port p).ingress.find? (fun j => j.cls == k.cls) = some k) ∧ (s.homeFull k = false) ∧ (s.fenced = false) ∧ (k.op ≠ 0x40) ∧ (k.hchk = k.check) ∧ (s.staleEpoch k.epoch.toNat = false) ∧ (s.hasId = true) ∧ (k.dstModule.toNat = s.moduleId) ∧ (opDefined k.op.toNat = true) ∧ (¬ Joined s (16 + p.val / 16) (innerKey k)) := by
  repeat' apply And.intro
  all_goals first | decide +kernel

theorem wit_RoutesAndPackets_packetUnknown :
  let p : Fin 128 := 77
  let k : Packet := pkt9 (fun k => { k with op := 0x30 })
  let s : State := linked.modPort 77 (fun x => { x with ingress := [pkt9 (fun k => { k with op := 0x30 })] })
  (Rises s.ports) ∧ ((s.port p).ingress.find? (fun j => j.cls == k.cls) = some k) ∧ (s.homeFull k = false) ∧ (s.fenced = false) ∧ (k.op ≠ 0x40) ∧ (k.hchk = k.check) ∧ (s.staleEpoch k.epoch.toNat = false) ∧ (s.hasId = true) ∧ (k.dstModule.toNat = s.moduleId) ∧ (opDefined k.op.toNat = false) := by
  repeat' apply And.intro
  all_goals first | decide +kernel

theorem wit_RoutesAndPackets_packetSpoilt :
  let p : Fin 128 := 77
  let k : Packet := { pkt9 id with opx := 5 }
  let s : State := linked.modPort 77 (fun x => { x with ingress := [{ pkt9 id with opx := 5 }] })
  (TablesRise s) ∧ ((s.port p).ingress.find? (fun j => j.cls == k.cls) = some k) ∧ (s.homeFull k = false) ∧ (s.fenced = false) ∧ (k.op ≠ 0x40) ∧ (k.hchk ≠ k.check) ∧ (s.obj 0x5000 8 + 1 < 2 ^ 32) := by decide +kernel

theorem wit_RoutesAndPackets_packetLinkMessage :
  let p : Fin 128 := 77
  let k : Packet := pkt9 (fun k => { k with op := 0x40 })
  let s : State := linked.modPort 77 (fun x => { x with ingress := [pkt9 (fun k => { k with op := 0x40 })] })
  (Rises s.ports) ∧ ((s.port p).ingress.find? (fun j => j.cls == k.cls) = some k) ∧ (s.homeFull k = false) ∧ (s.fenced = false) ∧ (k.op = 0x40) := by decide +kernel

theorem wit_RoutesAndPackets_packetWaits :
  let p : Fin 128 := 77
  let k : Packet := pkt9 id
  let s : State := linked
  ((s.port p).ingress.find? (fun j => j.cls == k.cls) ≠ some k ∨ s.homeFull k = true) := by decide +kernel

theorem wit_RoutesAndPackets_packetDiscarded :
  let p : Fin 128 := 77
  let k : Packet := pkt9 (fun k => { k with op := 2, epoch := 6 })
  let s : State := (linked.modPort 77 (fun x => { x with ingress := [pkt9 (fun k => { k with op := 2, epoch := 6 })] })).setObj 0x5000 2 7
  (TablesRise s) ∧ ((s.port p).ingress.find? (fun j => j.cls == k.cls) = some k) ∧ (s.homeFull k = false) ∧ (s.fenced = true ∨ (k.op ≠ 0x40 ∧ k.hchk = k.check ∧ s.staleEpoch k.epoch.toNat = true)) ∧ (s.obj 0x5000 7 + 1 < 2 ^ 32) := by decide +kernel

theorem wit_RoutesAndPackets_packetHopLimit :
  let p : Fin 128 := 77
  let k : Packet := pkt9 (fun k => { k with op := 2, dstModule := 44, hops := 15 })
  let s : State := (linked.modPort 77 (fun x => { x with ingress := [pkt9 (fun k => { k with op := 2, dstModule := 44, hops := 15 })] }))
  (TablesRise s) ∧ ((s.port p).ingress.find? (fun j => j.cls == k.cls) = some k) ∧ (Rises (s.light (p.val / 16)).hopLog) ∧ (s.homeFull k = false) ∧ (s.fenced = false) ∧ (k.op ≠ 0x40) ∧ (k.hchk = k.check) ∧ (s.staleEpoch k.epoch.toNat = false) ∧ (k.dstModule.toNat ≠ s.moduleId) ∧ (s.obj 0x5000 5 < k.hops.toNat + 1) ∧ (s.obj 0x5000 9 + 1 < 2 ^ 32) := by
  repeat' apply And.intro
  all_goals first | decide +kernel

theorem wit_RoutesAndPackets_packetHeld :
  let p : Fin 128 := 77
  let k : Packet := pkt9 (fun k => { k with op := 2, dstModule := 44, hops := 2 })
  let s : State := (linked.modPort 77 (fun x => { x with ingress := [pkt9 (fun k => { k with op := 2, dstModule := 44, hops := 2 })] })).setObj 0x5000 5 8
  (TablesRise s) ∧ ((s.port p).ingress = [k]) ∧ (s.homeFull k = false) ∧ (s.fenced = false) ∧ (k.op ≠ 0x40) ∧ (k.hchk = k.check) ∧ (s.staleEpoch k.epoch.toNat = false) ∧ (k.dstModule.toNat ≠ s.moduleId) ∧ (k.hops.toNat + 1 ≤ s.obj 0x5000 5) ∧ (k.hops.toNat < 15) ∧ (routeValid (s.route k.dstModule.toNat) = false) ∧ (s.fab.old = []) := by
  repeat' apply And.intro
  all_goals first | decide +kernel

theorem wit_RoutesAndPackets_packetRelayed :
  let p : Fin 128 := 78
  let q : Fin 128 := 77
  let k : Packet := pkt9 (fun k => { k with op := 2, dstModule := 44, hops := 2 })
  let s : State := ((({ linked with fab := { routes := [(44, BitVec.ofNat 512 (field 127 1 + field 461 1))] } }).modPort 78 (fun x => { x with ingress := [pkt9 (fun k => { k with op := 2, dstModule := 44, hops := 2 })] })).setObj 0x5000 5 8).setObj 0x6830 2 0
  (TablesRise s) ∧ ((s.port p).ingress = [k]) ∧ (q ≠ p) ∧ (q.val / 16 = p.val / 16) ∧ (s.homeFull k = false) ∧ (s.fenced = false) ∧ (k.op ≠ 0x40) ∧ (k.hchk = k.check) ∧ (s.staleEpoch k.epoch.toNat = false) ∧ (k.dstModule.toNat ≠ s.moduleId) ∧ (k.hops.toNat + 1 ≤ s.obj 0x5000 5) ∧ (k.hops.toNat < 15) ∧ (s.usable (p.val / 16) (s.routeAt (p.val / 16) k.dstModule.toNat) k.cls.toNat = [q.val]) ∧ (s.xoff q k.cls.toNat = false) ∧ (s.obj 0x6830 2 = 0) ∧ (s.obj 0x5000 0x12 + 1 < 2 ^ 32) := by
  repeat' apply And.intro
  all_goals first | decide +kernel

theorem wit_RoutesAndPackets_class0FrameDelivered :
  let p : Fin 128 := 77
  let f : BitVec 256 := flagFrame 9 0 12 3 5 true 0 0 4095 77
  let s : State := linked
  (Rises s.ports) ∧ (s.linkUp p = true) ∧ (kindRouted (fKind f) = true) ∧ (s.held0 p + 32 ≤ 65536) ∧ (fLseq f = (s.port p).lseqWant.toNat) ∧ (s.fenced = false) ∧ (s.staleEpoch (fEpoch f) = false) ∧ (s.hasId = true) ∧ (fDst f = s.moduleId) := by decide +kernel

theorem wit_RoutesAndPackets_class0FrameMissing :
  let p : Fin 128 := 77
  let n : Nat := 2
  let f : BitVec 256 := putBits (flagFrame 9 0 12 3 5 true 0 0 4095 77) 247 240 2
  let s : State := linked
  (Rises s.ports) ∧ (s.linkUp p = true) ∧ (kindRouted (fKind f) = true) ∧ (s.held0 p + 32 ≤ 65536) ∧ (1 ≤ n) ∧ (n < 128) ∧ (BitVec.ofNat 8 (fLseq f) = (s.port p).lseqWant + BitVec.ofNat 8 n) ∧ (s.fenced = false) ∧ (s.staleEpoch (fEpoch f) = false) ∧ (s.hasId = true) ∧ (fDst f = s.moduleId) := by
  repeat' apply And.intro
  all_goals first | decide +kernel

theorem wit_RoutesAndPackets_class0FrameAgain :
  let p : Fin 128 := 77
  let f : BitVec 256 := putBits (flagFrame 9 0 12 3 5 true 0 0 4095 77) 247 240 255
  let s : State := linked
  (kindRouted (fKind f) = true) ∧ (s.held0 p + 32 ≤ 65536) ∧ (128 ≤ (BitVec.ofNat 8 (fLseq f) - (s.port p).lseqWant).toNat) ∧ ((s.port p).missing.contains (BitVec.ofNat 8 (fLseq f)) = false) := by decide +kernel

theorem wit_RoutesAndPackets_class0FrameStale :
  let p : Fin 128 := 77
  let f : BitVec 256 := flagFrame 9 0 12 3 5 true 0 0 4095 77
  let s : State := linked.setObj 0x8000 1 3
  (TablesRise s) ∧ (s.linkUp p = true) ∧ (kindRouted (fKind f) = true) ∧ (s.held0 p + 32 ≤ 65536) ∧ (fLseq f = (s.port p).lseqWant.toNat) ∧ (s.fenced = true ∨ s.staleEpoch (fEpoch f) = true) ∧ (s.obj 0x5000 7 + 1 < 2 ^ 32) := by decide +kernel

theorem wit_RoutesAndPackets_class0FramePause :
  let p : Fin 128 := 77
  let f : BitVec 256 := BitVec.ofNat 256 (field 248 3 + field 192 25000)
  let s : State := linked
  (Rises s.ports) ∧ (s.linkUp p = true) ∧ (fKind f = 3) := by decide +kernel

theorem wit_RoutesAndPackets_class0FrameDark :
  let p : Fin 128 := 78
  let s : State := linked
  (s.linkUp p = false) := by decide +kernel

theorem wit_RoutesAndPackets_class0FrameReserved :
  let p : Fin 128 := 77
  let f : BitVec 256 := BitVec.ofNat 256 (field 248 0xFF)
  let s : State := linked
  (Rises s.dict) ∧ (s.linkUp p = true) ∧ (kindRouted (fKind f) = false) ∧ (kindLink (fKind f) = false) ∧ (s.obj 0x5000 0x11 + 1 < 2 ^ 32) := by decide +kernel

theorem wit_RoutesAndPackets_flagAddArrival :
  let d : Fin 16 := 3
  let f : BitVec 256 := flagFrame 9 0 12 3 5 true 0 0 4095 0xFFFFFFFF
  let s : State := { (onDie 3 (fun x => { x with arrival := [(4095, 0xFFFFFFFF00000001)] })) with fab := { frames := [(3, flagFrame 9 0 12 3 5 true 0 0 4095 0xFFFFFFFF)] } }
  (Rises s.dies) ∧ (Rises s.cores) ∧ (DieRises (s.die d)) ∧ (fKind f = 4) ∧ (s.fab.frames.contains (d.val, f) = true) ∧ (s.dieRuns d = true) ∧ (bit f 190 = true) := by decide +kernel

theorem wit_RoutesAndPackets_flagAddCounter :
  let d : Fin 16 := 3
  let f : BitVec 256 := flagFrame 9 0 12 3 5 false 2 7 0 0xFFFFFFFF
  let s : State := { (onCore 3 5 (fun x => x.setCounter 2 7 9)) with fab := { frames := [(3, flagFrame 9 0 12 3 5 false 2 7 0 0xFFFFFFFF)] } }
  (Rises s.cores) ∧ (CoreRises (s.core d (bits f 195 191))) ∧ (fKind f = 4) ∧ (s.fab.frames.contains (d.val, f) = true) ∧ (Reachable s d (bits f 195 191)) ∧ (bit f 190 = false) ∧ (bits f 189 188 < 3) := by decide +kernel

theorem wit_RoutesAndPackets_flagWaits :
  let d : Fin 16 := 3
  let f : BitVec 256 := flagFrame 9 0 12 3 5 false 2 7 0 5
  let s : State := { (onDie 3 (fun x => { x with pstate := 3 })) with fab := { frames := [(3, flagFrame 9 0 12 3 5 false 2 7 0 5)] } }
  (Rises s.dies) ∧ (fKind f = 4) ∧ (s.fab.frames.contains (d.val, f) = true) ∧ (s.dieRuns d = false) := by decide +kernel

theorem wit_RoutesAndPackets_flagNotThere :
  let d : Fin 16 := 3
  let f : BitVec 256 := flagFrame 9 0 12 3 5 false 2 7 0 5
  let s : State := up
  (fKind f ≠ 4 ∨ s.fab.frames.contains (d.val, f) = false) := by decide +kernel

theorem wit_RemoteMemoryAtHome_remoteRequestReceive :
  let d : Fin 16 := 3
  let k : Packet := pkt9 (fun k => { k with op := 1, lines := 2, addr := 0x2000 })
  let s : State := { linked with fab := { inner := [(3, pkt9 (fun k => { k with op := 1, lines := 2, addr := 0x2000 }))] } }
  (Rises s.dies) ∧ (s.fab.inner.contains (d.val, k) = true) ∧ (opRequest k.op.toNat = true) ∧ (s.dieRuns d = true) ∧ ((s.die d).lineq.length + (reqLines k).length ≤ 1024) ∧ (k.hchk = k.check) ∧ (k.ord = false) ∧ (s.reqStatus d k = 0) ∧ (reqLines k ≠ []) := by decide +kernel

theorem wit_RemoteMemoryAtHome_remoteRequestOrdered :
  let d : Fin 16 := 3
  let k : Packet := pkt9 (fun k => { k with op := 2, lines := 2, addr := 0x2000, ord := true, first := true })
  let s : State := { linked with fab := { inner := [(3, pkt9 (fun k => { k with op := 2, lines := 2, addr := 0x2000, ord := true, first := true }))] } }
  (Rises s.dies) ∧ (s.fab.inner.contains (d.val, k) = true) ∧ (opRequest k.op.toNat = true) ∧ (s.dieRuns d = true) ∧ ((s.die d).lineq.length + (reqLines k).length ≤ 1024) ∧ (k.hchk = k.check) ∧ (k.ord = true) ∧ (k.first = true) ∧ ((s.die d).reorder = []) ∧ (s.reqStatus d k = 0) ∧ (reqLines k ≠ []) := by
  repeat' apply And.intro
  all_goals first | decide +kernel

theorem wit_RemoteMemoryAtHome_remoteRequestNoContext :
  let d : Fin 16 := 3
  let k : Packet := pkt12 (fun k => { k with op := 2, lines := 1, addr := 0x2000, ord := true })
  let s : State := { linked with fab := { inner := [(3, pkt12 (fun k => { k with op := 2, lines := 1, addr := 0x2000, ord := true }))] } }
  (TablesRise s) ∧ (s.fab.inner = [(d.val, k)]) ∧ (k.op = 2) ∧ (s.dieRuns d = true) ∧ ((s.die d).lineq.length + (reqLines k).length ≤ 1024) ∧ (k.hchk = k.check) ∧ (k.ord = true) ∧ (k.first = false) ∧ ((s.die d).reorder = []) ∧ (s.fenced = false) ∧ (s.ownModule k.srcModule.toNat = true) ∧ (Joined s d k.srcDie.toNat) ∧ (s.obj 0x5000 0x0D + 1 < 2 ^ 32) := by
  repeat' apply And.intro
  all_goals first | decide +kernel

theorem wit_RemoteMemoryAtHome_remoteRequestSpoilt :
  let d : Fin 16 := 3
  let k : Packet := { pkt9 (fun k => { k with op := 2, lines := 1 }) with addr := 0x2000 }
  let s : State := { linked with fab := { inner := [(3, { pkt9 (fun k => { k with op := 2, lines := 1 }) with addr := 0x2000 })] } }
  (TablesRise s) ∧ (s.fab.inner.contains (d.val, k) = true) ∧ (opRequest k.op.toNat = true) ∧ (s.dieRuns d = true) ∧ ((s.die d).lineq.length + (reqLines k).length ≤ 1024) ∧ (k.hchk ≠ k.check) ∧ (s.obj 0x5000 8 + 1 < 2 ^ 32) := by decide +kernel

theorem wit_RemoteMemoryAtHome_remoteRequestAsleep :
  let d : Fin 16 := 3
  let k : Packet := pkt9 (fun k => { k with op := 1, lines := 2, addr := 0x2000 })
  let s : State := { (linked.modDie 3 (fun x => { x with pstate := 3 })) with fab := { inner := [(3, pkt9 (fun k => { k with op := 1, lines := 2, addr := 0x2000 }))] } }
  (Rises s.dies) ∧ (s.fab.inner.contains (d.val, k) = true) ∧ (opRequest k.op.toNat = true) ∧ (s.dieRuns d = false) := by decide +kernel

theorem wit_RemoteMemoryAtHome_remoteRequestStands :
  let d : Fin 16 := 3
  let k : Packet := pkt9 (fun k => { k with op := 1, lines := 2, addr := 0x2000 })
  let s : State := linked
  (s.fab.inner.contains (d.val, k) = false ∨ opRequest k.op.toNat = false ∨ (s.dieRuns d = true ∧ 1024 < (s.die d).lineq.length + (reqLines k).length)) := by decide +kernel

theorem wit_RemoteMemoryAtHome_remoteRequestRefused :
  let d : Fin 16 := 3
  let k : Packet := pkt12 (fun k => { k with op := 1, lines := 1, addr := 0x080300000000 })
  let s : State := { linked with fab := { inner := [(3, pkt12 (fun k => { k with op := 1, lines := 1, addr := 0x080300000000 }))] } }
  (Rises s.dies) ∧ (s.fab.inner = [(d.val, k)]) ∧ (k.op = 1) ∧ (s.dieRuns d = true) ∧ ((s.die d).lineq.length + (reqLines k).length ≤ 1024) ∧ (k.hchk = k.check) ∧ (k.ord = false) ∧ (wantTile k = false) ∧ (s.reqStatus d k = 0x0A) ∧ (Joined s d k.srcDie.toNat) ∧ (s.fenced = false) ∧ (s.ownModule k.srcModule.toNat = true) := by
  repeat' apply And.intro
  all_goals first | decide +kernel

theorem wit_RemoteMemoryAtHome_lineOperationRead :
  let d : Fin 16 := 3
  let h : HomeOp := { id := 7, pkt := pkt12 (fun k => { k with op := 1, lines := 1, addr := 0x2000 }), todo := [64] }
  let line : Nat := 64
  let s : State := (linked.modDie 3 (fun x => { x with lineq := [(7, 64)], home := [{ id := 7, pkt := pkt12 (fun k => { k with op := 1, lines := 1, addr := 0x2000 }), todo := [64] }] })).putBytes 3 0x2000 [1, 2, 3]
  (Rises s.dies) ∧ (NoBadData s) ∧ (s.dieRuns d = true) ∧ ((s.die d).lineq = [(h.id, line)]) ∧ ((s.die d).home = [h]) ∧ (mapGet 0 (s.die d).lineAt line = 0) ∧ (regionOf (128 * line) = .hbm) ∧ (h.todo = [line]) ∧ (h.got = []) ∧ (h.st = 0) ∧ (h.pkt.op = 1) ∧ (h.pkt.ord = false) ∧ (wantTile h.pkt = false) ∧ (Joined s d (h.pkt.srcDie.toNat)) ∧ (s.fenced = false) ∧ (s.ownModule h.pkt.srcModule.toNat = true) := by
  repeat' apply And.intro
  all_goals first | decide +kernel

theorem wit_RemoteMemoryAtHome_lineOperationWrite :
  let d : Fin 16 := 3
  let h : HomeOp := { id := 7, pkt := pkt12 (fun k => { k with op := 2, lines := 1, addr := 0x2004, opx := 6, payload := [0, 0, 0, 0, 9, 8, 7] }), todo := [64] }
  let line : Nat := 64
  let a : Nat := 0x2004
  let bs : List Byte := [9, 8, 7]
  let s : State := (linked.modDie 3 (fun x => { x with lineq := [(7, 64)], home := [{ id := 7, pkt := pkt12 (fun k => { k with op := 2, lines := 1, addr := 0x2004, opx := 6, payload := [0, 0, 0, 0, 9, 8, 7] }), todo := [64] }] })).putBytes 3 0x2000 [1, 2, 3, 4, 5, 6, 7, 8]
  (TablesRise s) ∧ (Memory.wf s.mem = true) ∧ (NoBadData s) ∧ (s.dieRuns d = true) ∧ ((s.die d).lineq = [(h.id, line)]) ∧ ((s.die d).home = [h]) ∧ (mapGet 0 (s.die d).lineAt line = 0) ∧ (regionOf (128 * line) = .hbm) ∧ (regionOf a = .hbm) ∧ (lineWrite h.pkt line = (a, bs)) ∧ (bs.length ≤ 128) ∧ (a % 128 + bs.length ≤ 128) ∧ (s.guardOf d (128 * line) = none) ∧ (h.todo = [line]) ∧ (h.st = 0) ∧ (h.pkt.op = 2) ∧ (h.pkt.ord = false) ∧ (h.pkt.tile = false) ∧ (Joined s d (h.pkt.srcDie.toNat)) ∧ (s.fenced = false) ∧ (s.ownModule h.pkt.srcModule.toNat = true) := by
  repeat' apply And.intro
  all_goals first | decide +kernel

theorem wit_RemoteMemoryAtHome_lineOperationAtomic :
  let d : Fin 16 := 3
  let h : HomeOp := { id := 7, pkt := pkt12 (fun k => { k with op := 4, lines := 1, addr := 0x2008, opx := 4, payload := [0, 0, 0, 0, 9, 8, 7, 6] }), todo := [64] }
  let line : Nat := 64
  let s : State := (linked.modDie 3 (fun x => { x with lineq := [(7, 64)], home := [{ id := 7, pkt := pkt12 (fun k => { k with op := 4, lines := 1, addr := 0x2008, opx := 4, payload := [0, 0, 0, 0, 9, 8, 7, 6] }), todo := [64] }] })).putBytes 3 0x2008 [1, 2, 3, 4, 5, 6, 7, 8]
  (TablesRise s) ∧ (Memory.wf s.mem = true) ∧ (NoBadData s) ∧ (s.dieRuns d = true) ∧ ((s.die d).lineq = [(h.id, line)]) ∧ ((s.die d).home = [h]) ∧ (mapGet 0 (s.die d).lineAt line = 0) ∧ (regionOf (128 * line) = .hbm) ∧ (regionOf h.pkt.addr.toNat = .hbm) ∧ (h.pkt.addr.toNat % 8 = 0) ∧ (s.guardOf d (128 * line) = none) ∧ (h.todo = [line]) ∧ (h.st = 0) ∧ (h.pkt.op = 4) ∧ (h.pkt.ord = false) ∧ (h.pkt.tile = false) ∧ (Joined s d (h.pkt.srcDie.toNat)) ∧ (s.fenced = false) ∧ (s.ownModule h.pkt.srcModule.toNat = true) := by
  repeat' apply And.intro
  all_goals first | decide +kernel

theorem wit_RemoteMemoryAtHome_lineOperationClaim_1 :
  let d : Fin 16 := 3
  let r : Fin 64 := 63
  let h : HomeOp := { id := 7, pkt := pkt12 (fun k => { k with op := 5, lines := 1, addr := 0x2000 }), todo := [64] }
  let line : Nat := 64
  let s : State := linked.modDie 3 (fun x => { x with race := [(63, BitVec.ofNat 256 (field 255 1 + field 84 0x2000 + field 52 256))], lineq := [(7, 64)], home := [{ id := 7, pkt := pkt12 (fun k => { k with op := 5, lines := 1, addr := 0x2000 }), todo := [64] }] })
  (TablesRise s) ∧ (DieRises (s.die d)) ∧ (s.dieRuns d = true) ∧ ((s.die d).lineq = [(h.id, line)]) ∧ ((s.die d).home = [h]) ∧ (mapGet 0 (s.die d).lineAt line = 0) ∧ (regionOf (128 * line) = .hbm) ∧ (h.todo = [line]) ∧ (h.st = 0) ∧ (h.pkt.op = 5) ∧ (h.pkt.ord = false) ∧ (h.pkt.tile = false) ∧ ((List.range 64).find? (fun r => raceArmed (s.race d r) && raceBase (s.race d r) == h.pkt.addr.toNat) = some r.val) ∧ (Joined s d h.pkt.srcDie.toNat) ∧ (s.fenced = false) ∧ (s.ownModule h.pkt.srcModule.toNat = true) ∧ (s.obj 0x6030 0x0A + 1 < 2 ^ 32) := by
  repeat' apply And.intro
  all_goals first | decide +kernel

theorem wit_RemoteMemoryAtHome_lineOperationClaim_2 :
  let d : Fin 16 := 3
  let r : Fin 64 := 63
  let h : HomeOp := { id := 7, pkt := pkt12 (fun k => { k with op := 5, lines := 1, addr := 0x2000 }), todo := [64] }
  let line : Nat := 64
  let s : State := linked.modDie 3 (fun x => { x with race := [(63, BitVec.ofNat 256 (field 254 3 + field 232 77 + field 84 0x2000 + field 52 256))], lineq := [(7, 64)], home := [{ id := 7, pkt := pkt12 (fun k => { k with op := 5, lines := 1, addr := 0x2000 }), todo := [64] }] })
  (TablesRise s) ∧ (DieRises (s.die d)) ∧ (s.dieRuns d = true) ∧ ((s.die d).lineq = [(h.id, line)]) ∧ ((s.die d).home = [h]) ∧ (mapGet 0 (s.die d).lineAt line = 0) ∧ (regionOf (128 * line) = .hbm) ∧ (h.todo = [line]) ∧ (h.st = 0) ∧ (h.pkt.op = 5) ∧ (h.pkt.ord = false) ∧ (h.pkt.tile = false) ∧ ((List.range 64).find? (fun r => raceArmed (s.race d r) && raceBase (s.race d r) == h.pkt.addr.toNat) = some r.val) ∧ (Joined s d h.pkt.srcDie.toNat) ∧ (s.fenced = false) ∧ (s.ownModule h.pkt.srcModule.toNat = true) ∧ (s.obj 0x6030 0x0A + 1 < 2 ^ 32) := by
  repeat' apply And.intro
  all_goals first | decide +kernel

theorem wit_RemoteMemoryAtHome_lineOperationGuarded :
  let d : Fin 16 := 3
  let r : Fin 64 := 63
  let h : HomeOp := { id := 7, pkt := pkt12 (fun k => { k with op := 2, lines := 1, addr := 0x2000 }), todo := [64] }
  let line : Nat := 64
  let s : State := linked.modDie 3 (fun x => { x with race := [(63, BitVec.ofNat 256 (field 255 1 + field 84 0x2000 + field 52 256))], lineq := [(7, 64)], home := [{ id := 7, pkt := pkt12 (fun k => { k with op := 2, lines := 1, addr := 0x2000 }), todo := [64] }] })
  (TablesRise s) ∧ (DieRises (s.die d)) ∧ (s.dieRuns d = true) ∧ ((s.die d).lineq = [(h.id, line)]) ∧ ((s.die d).home = [h]) ∧ (mapGet 0 (s.die d).lineAt line = 0) ∧ (regionOf (128 * line) = .hbm) ∧ (h.todo = [line]) ∧ (h.st = 0) ∧ (h.pkt.op = 2 ∨ h.pkt.op = 4) ∧ (h.pkt.ord = false) ∧ (h.pkt.tile = false) ∧ (s.guardOf d (128 * line) = some r.val) ∧ (¬ (raceClaimed (s.race d r) = true ∧ raceModule (s.race d r) = h.pkt.srcModule.toNat ∧ raceDie (s.race d r) = h.pkt.srcDie.toNat)) ∧ (Joined s d h.pkt.srcDie.toNat) ∧ (s.fenced = false) ∧ (s.ownModule h.pkt.srcModule.toNat = true) ∧ (s.obj 0x6030 9 + 1 < 2 ^ 32) := by
  repeat' apply And.intro
  all_goals first | decide +kernel

theorem wit_RemoteMemoryAtHome_lineOperationNotYet_1 :
  let d : Fin 16 := 3
  let i : Fin 1024 := 0
  let s : State := linked.modDie 3 (fun x => { x with lineq := [(7, 64)], lineAt := [(64, 2 * tickS)] })
  ((s.die d).lineq[i.val]?.all (fun x => !s.dieRuns d || (mapGet 0 (s.die d).lineAt x.2 != 0 && decide (s.time < mapGet 0 (s.die d).lineAt x.2 - 1 + 640))) = true) := by decide +kernel

theorem wit_RemoteMemoryAtHome_lineOperationNotYet_2 :
  let d : Fin 16 := 3
  let i : Fin 1024 := 1023
  let s : State := linked
  ((s.die d).lineq[i.val]?.all (fun x => !s.dieRuns d || (mapGet 0 (s.die d).lineAt x.2 != 0 && decide (s.time < mapGet 0 (s.die d).lineAt x.2 - 1 + 640))) = true) := by decide +kernel

theorem wit_RemoteMemoryAtHome_reorderContextClose :
  let d : Fin 16 := 3
  let m : BitVec 16 := 9
  let k : BitVec 4 := 2
  let f : BitVec 8 := 255
  let r : Reorder := { m := 9, d := 2, flow := 255, last := 5 }
  let s : State := onDie 3 (fun x => { x with reorder := [{ m := 9, d := 2, flow := 255, last := 5 }] })
  (Rises s.dies) ∧ ((s.die d).reorder = [r]) ∧ (r.m = m) ∧ (r.d = k) ∧ (r.flow = f) ∧ (r.last + 10 * tickUs ≤ s.time) := by decide +kernel

theorem wit_RemoteMemoryAtHome_reorderContextOpen :
  let d : Fin 16 := 3
  let s : State := onDie 3 (fun x => { x with reorder := [{ m := 9, d := 2, flow := 255, last := 2 * tickS }] })
  (Rises s.dies) ∧ (∀ r ∈ (s.die d).reorder, s.time < r.last + 10 * tickUs) := by decide +kernel

theorem wit_RemoteMemoryAtHome_mergedResponse :
  let l : Fin 8 := 4
  let k : Packet := pkt9 (fun k => { k with op := 0x19, txn := 44, payload := [7] })
  let o : MergeOrig := { op := 1, m := 12, d := 3, txn := 9, add := 0 }
  let e : MergeEntry := { origs := [{ op := 1, m := 12, d := 3, txn := 9, add := 0 }], since := 5 }
  let s : State := { (linked.modLight 4 (fun x => { x with merge := [(44, some { origs := [{ op := 1, m := 12, d := 3, txn := 9, add := 0 }], since := 5 })] })) with fab := { inner := [(20, pkt9 (fun k => { k with op := 0x19, txn := 44, payload := [7] }))] } }
  (Rises s.lights) ∧ (Rises (s.light l).merge) ∧ (s.fab.inner = [(16 + l.val, k)]) ∧ (mapGet none (s.light l).merge k.txn.toNat = some e) ∧ (e.origs = [o]) ∧ (o.op = 1 ∨ o.op = 2) ∧ (Joined s (16 + l.val) o.d.toNat) ∧ (s.fenced = false) ∧ (s.ownModule o.m.toNat = true) := by decide +kernel

theorem wit_RemoteMemoryAtHome_mergedResponseAdds :
  let l : Fin 8 := 4
  let k : Packet := pkt9 (fun k => { k with op := 0x1C, txn := 44, payload := List.replicate 8 0xFF })
  let a : MergeOrig := { op := 4, m := 12, d := 3, txn := 9, add := 5 }
  let b : MergeOrig := { op := 4, m := 12, d := 2, txn := 8, add := 6 }
  let e : MergeEntry := { origs := [{ op := 4, m := 12, d := 3, txn := 9, add := 5 }, { op := 4, m := 12, d := 2, txn := 8, add := 6 }], since := 5 }
  let s : State := { (linked.modLight 4 (fun x => { x with merge := [(44, some { origs := [{ op := 4, m := 12, d := 3, txn := 9, add := 5 }, { op := 4, m := 12, d := 2, txn := 8, add := 6 }], since := 5 })] })) with fab := { inner := [(20, pkt9 (fun k => { k with op := 0x1C, txn := 44, payload := List.replicate 8 0xFF }))] } }
  (Rises s.lights) ∧ (Rises (s.light l).merge) ∧ (s.fab.inner = [(16 + l.val, k)]) ∧ (mapGet none (s.light l).merge k.txn.toNat = some e) ∧ (e.origs = [a, b]) ∧ (a.op = 4) ∧ (b.op = 4) ∧ (8 ≤ k.payload.length) ∧ (Joined s (16 + l.val) a.d.toNat) ∧ (Joined s (16 + l.val) b.d.toNat) ∧ (s.fenced = false) ∧ (s.ownModule a.m.toNat = true) ∧ (s.ownModule b.m.toNat = true) := by
  repeat' apply And.intro
  all_goals first | decide +kernel

theorem wit_RemoteMemoryAtHome_mergedResponseLate :
  let l : Fin 8 := 4
  let k : Packet := pkt9 (fun k => { k with op := 0x19, txn := 44, payload := [7] })
  let s : State := { linked with fab := { inner := [(20, pkt9 (fun k => { k with op := 0x19, txn := 44, payload := [7] }))] } }
  (TablesRise s) ∧ (s.fab.inner.contains (16 + l.val, k) = true) ∧ (mapGet none (s.light l).merge k.txn.toNat = none) ∧ (s.obj 0x6030 5 + 1 < 2 ^ 32) := by decide +kernel

theorem wit_RemoteMemoryAtHome_mergedResponseNotThere :
  let l : Fin 8 := 4
  let k : Packet := pkt9 (fun k => { k with op := 0x19 })
  let s : State := linked
  (s.fab.inner.contains (16 + l.val, k) = false) := by decide +kernel

theorem wit_RemoteMemoryAtHome_mergeEntryTimeout :
  let l : Fin 8 := 4
  let n : Fin 512 := 44
  let e : MergeEntry := { origs := [], since := 5 }
  let s : State := (linked.modLight 4 (fun x => { x with merge := [(44, some { origs := [], since := 5 })] }))
  (Rises s.lights) ∧ (Rises (s.light l).merge) ∧ (mapGet none (s.light l).merge n.val = some e) ∧ (e.since + s.ackTicks ≤ s.time) := by decide +kernel

theorem wit_RemoteMemoryAtHome_mergeEntryStands :
  let l : Fin 8 := 4
  let n : Fin 512 := 44
  let s : State := linked
  ((mapGet none (s.light l).merge n.val).all (fun e => decide (s.time < e.since + s.ackTicks)) = true) := by decide +kernel

theorem wit_RemoteMemoryAtHome_memRlcEnable :
  let v : BitVec 8 := 1
  let s : State := onDie 3 (fun x => { x with rlc := [(4, some { m := 9, d := 2, line := 7, data := [] })] })
  (TablesRise s) ∧ (∀ d : Fin 16, DieRises (s.die d.val)) ∧ (Writable s) ∧ (v.toNat ≤ 1) := by decide +kernel

theorem wit_RemoteMemoryAtHome_memRlcEnableRefused :
  let v : BitVec 8 := 2
  let s : State := up
  (Writable s) ∧ (1 < v.toNat) := by decide +kernel

theorem wit_RemoteMemoryAtHome_raceSlotArm :
  let d : Fin 16 := 3
  let r : Fin 64 := 63
  let top : BitVec 64 := BitVec.ofNat 64 (2 ^ 63)
  let s : State := onDie 3 (fun x => { x with race := [(63, BitVec.ofNat 256 (field 84 0x2000 + field 52 256 + field 192 7))] })
  (Rises s.dies) ∧ (Rises (s.die d).race) ∧ (bit top 63 = true) ∧ (s.raceBad d r (raceTop (s.race d r) top) = false) := by decide +kernel

theorem wit_RemoteMemoryAtHome_raceSlotRefused :
  let d : Fin 16 := 3
  let r : Fin 64 := 63
  let top : BitVec 64 := BitVec.ofNat 64 (2 ^ 63)
  let s : State := onDie 3 (fun x => { x with race := [(63, BitVec.ofNat 256 (field 84 0x2001 + field 52 256))] })
  (Rises s.dies) ∧ (Rises (s.die d).race) ∧ (bit top 63 = true) ∧ (raceLen (s.race d r) = 0 ∨ raceLen (s.race d r) % 128 ≠ 0 ∨ raceBase (s.race d r) % 128 ≠ 0 ∨ remoteRange (raceBase (s.race d r)) (raceLen (s.race d r)) = false ∨ (s.die d).race.any (fun kv => kv.1 != r.val && raceArmed kv.2 && decide (raceBase (s.race d r) < raceBase kv.2 + raceLen kv.2) && decide (raceBase kv.2 < raceBase (s.race d r) + raceLen (s.race d r))) = true) := by decide +kernel

theorem wit_RemoteMemoryAtHome_raceSlotDisarm :
  let d : Fin 16 := 3
  let top : BitVec 64 := 0
  let s : State := onDie 3 (fun x => { x with race := [(63, BitVec.ofNat 256 (field 255 1 + field 84 0x2000 + field 52 256))] })
  (Rises s.dies) ∧ (Rises (s.die d).race) ∧ (bit top 63 = false) := by decide +kernel

theorem wit_RemoteMemoryAtHome_raceSlotArmElse :
  let top : BitVec 64 := 0
  (bit top 63 = false) := by decide +kernel

theorem wit_RemoteMemoryAtHome_raceSlotDisarmElse :
  let top : BitVec 64 := BitVec.ofNat 64 (2 ^ 63)
  (bit top 63 = true) := by decide +kernel

theorem wit_GroupsValidateAndEnd_groupValidate :
  let d : Fin 16 := 3
  let g : Fin 256 := 255
  let top : BitVec 64 := BitVec.ofNat 64 (field 63 1 + field 32 1 + field 15 2)
  let s : State := up
  (Rises s.dies) ∧ (DieRises (s.die d)) ∧ (bit top 63 = true) ∧ (gValid (s.group d g) = false) := by decide +kernel

theorem wit_GroupsValidateAndEnd_groupValidateRunning :
  let d : Fin 16 := 3
  let g : Fin 256 := 7
  let top : BitVec 64 := BitVec.ofNat 64 (field 62 3)
  let s : State := inGroup 1 2 9 none
  (Rises s.dies) ∧ (Rises (s.die d).col.groups) ∧ (bit top 63 = true) ∧ (gValid (s.group d g) = true) := by decide +kernel

theorem wit_GroupsValidateAndEnd_groupValidateNot :
  let top : BitVec 64 := 5
  (bit top 63 = false) := by decide +kernel

theorem wit_GroupsValidateAndEnd_groupValidationDone :
  let d : Fin 16 := 3
  let g : Fin 256 := 7
  let w : BitVec 512 := putBit (grp 1 2 9) 511 false
  let s : State := (inGroup 1 2 9 none).modCol 3 (fun c => { c with groups := [(7, putBit (grp 1 2 9) 511 false)], validating := [(7, 5)] })
  (Rises s.dies) ∧ (DieRises (s.die d)) ∧ (mapGet 0 (s.die d).col.validating g.val ≠ 0) ∧ (w = s.group d g) ∧ (bit w 510 = false) ∧ (s.groupBad d w = false) := by decide +kernel

theorem wit_GroupsValidateAndEnd_groupValidationReforms :
  let d : Fin 16 := 3
  let g : Fin 256 := 7
  let w : BitVec 512 := putBit (putBit (grp 1 2 9) 511 false) 510 true
  let keep : List Nat := [12 * 65536 + 3 * 4096]
  let r : Nat := 0
  let s : State := { (((inGroup 1 2 9 none).modCol 3 (fun c => { c with groups := [(7, putBit (putBit (grp 1 2 9) 511 false) 510 true)], validating := [(7, 5)] })).putBytes 3 0x1000 ([40 * 65536, 12 * 65536 + 3 * 4096].flatMap (toBytes 4))) with flt := { out := [40] } }
  (TablesRise s) ∧ (Memory.wf s.mem = true) ∧ (DieRises (s.die d)) ∧ (mapGet 0 (s.die d).col.validating g.val ≠ 0) ∧ (w = s.group d g) ∧ (bit w 510 = true) ∧ (s.flt.out.contains s.moduleId = false) ∧ (s.hasId = true) ∧ (1 ≤ gSize w) ∧ (gSize w ≤ 65536) ∧ (listInHbm w = true) ∧ (keep = (s.members d w).filter (fun e => !s.flt.out.contains (memberModule e))) ∧ (keep.findIdx? (fun e => memberModule e * 16 + memberDie e == s.moduleId * 16 + d.val) = some r) ∧ (noTwice (keep.map (fun e => memberModule e * 16 + memberDie e)) = true) := by
  repeat' apply And.intro
  all_goals first | decide +kernel

theorem wit_GroupsValidateAndEnd_groupValidationRefused :
  let d : Fin 16 := 3
  let g : Fin 256 := 7
  let s : State := (inGroup 1 2 9 none).modCol 3 (fun c => { c with groups := [(7, putBit (grp 2 2 9) 511 false)], validating := [(7, 5)] })
  (Rises s.dies) ∧ (DieRises (s.die d)) ∧ (mapGet 0 (s.die d).col.validating g.val ≠ 0) ∧ (bit (s.group d g) 510 = false ∨ s.flt.out.contains s.moduleId = true) ∧ (s.groupBad d (s.group d g) = true ∨ (bit (s.group d g) 510 = true ∧ s.flt.out.contains s.moduleId = true)) := by decide +kernel

theorem wit_GroupsValidateAndEnd_groupValidationIdle :
  let d : Fin 16 := 3
  let g : Fin 256 := 7
  let s : State := inGroup 1 2 9 none
  (mapGet 0 (s.die d).col.validating g.val = 0) := by decide +kernel

theorem wit_GroupsValidateAndEnd_groupEnd :
  let d : Fin 16 := 3
  let g : Fin 256 := 7
  let top : BitVec 64 := 0
  let s : State := (inGroup 1 2 9 none).modCol 3 (fun c => { c with buf := [pkt9 (fun k => { k with flow := 7 })] })
  (Rises s.dies) ∧ (DieRises (s.die d)) ∧ (bit top 63 = false) ∧ (gValid (s.group d g) = true) ∧ (gPhase (s.group d g) = 0) := by decide +kernel

theorem wit_GroupsValidateAndEnd_groupEndRunning :
  let d : Fin 16 := 3
  let g : Fin 256 := 7
  let top : BitVec 64 := 0
  let s : State := (inGroup 1 2 9 none).modCol 3 (fun c => { c with groups := [(7, putBits (grp 1 2 9) 508 507 2)] })
  (bit top 63 = false) ∧ (gValid (s.group d g) = true) ∧ (gPhase (s.group d g) ≠ 0) := by decide +kernel

theorem wit_GroupsValidateAndEnd_groupEndIdle :
  let d : Fin 16 := 3
  let g : Fin 256 := 7
  let top : BitVec 64 := BitVec.ofNat 64 (field 32 1 + field 15 2)
  let s : State := (inGroup 1 2 9 none).modCol 3 (fun c => { c with groups := [(7, putBit (grp 1 2 9) 511 false)], validating := [(7, 5)] })
  (Rises s.dies) ∧ (DieRises (s.die d)) ∧ (bit top 63 = false) ∧ (gValid (s.group d g) = false) := by decide +kernel

theorem wit_GroupsValidateAndEnd_groupEndNot :
  let top : BitVec 64 := BitVec.ofNat 64 (field 63 1)
  (bit top 63 = true) := by decide +kernel

theorem wit_GroupsValidateAndEnd_verdictAckReceive :
  let d : Fin 16 := 3
  let f : BitVec 256 := collFrame 0x25 12 3 4 7 9 0 + (12#256) <<< 200
  let s : State := { ((inGroup 1 3 9 none).modCol 3 (fun c => { c with verdicts := [{ g := 7, seq := 9, stage := 1, status := 0, tgo := 5, m := 12, d := 4, at_ := 5 }, { g := 7, seq := 9, stage := 1, status := 0, tgo := 5, m := 12, d := 5, at_ := 5 }] })) with fab := { frames := [(3, collFrame 0x25 12 3 4 7 9 0 + (12#256) <<< 200)] } }
  (Rises s.dies) ∧ (fKind f = 0x25) ∧ (s.fab.frames.contains (d.val, f) = true) ∧ (s.dieRuns d = true) := by decide +kernel

theorem wit_GroupsValidateAndEnd_verdictAckAsleep :
  let d : Fin 16 := 3
  let f : BitVec 256 := collFrame 0x25 12 3 4 7 9 0
  let s : State := { onDie 3 (fun x => { x with pstate := 3 }) with fab := { frames := [(3, collFrame 0x25 12 3 4 7 9 0)] } }
  (Rises s.dies) ∧ (fKind f = 0x25) ∧ (s.fab.frames.contains (d.val, f) = true) ∧ (s.dieRuns d = false) := by decide +kernel

theorem wit_GroupsValidateAndEnd_verdictAckElsewhere :
  let d : Fin 16 := 3
  let f : BitVec 256 := collFrame 0x25 12 3 4 7 9 0
  let s : State := inGroup 1 2 9 none
  (fKind f ≠ 0x25 ∨ s.fab.frames.contains (d.val, f) = false) := by decide +kernel

theorem wit_GroupsValidateAndEnd_verdictResend :
  let d : Fin 16 := 3
  let g : Fin 256 := 7
  let due : List VerdictOut := [{ g := 7, seq := 9, stage := 1, status := 0, tgo := 5, m := 12, d := 4, at_ := 5 }]
  let s : State := (inGroup 1 3 9 none).modCol 3 (fun c => { c with verdicts := [{ g := 7, seq := 9, stage := 1, status := 0, tgo := 5, m := 12, d := 4, at_ := 5 }] })
  (Rises s.dies) ∧ (s.fenced = false) ∧ (due = (s.die d).col.verdicts.filter (fun v => v.g == g.val && decide (v.at_ + 2 * tickUs ≤ s.time))) ∧ (due.all (fun v => decide (v.status < 256) && decide (v.stage < 4) && decide (v.m < 65536) && decide (v.d < 16) && s.ownModule v.m) = true) := by decide +kernel

theorem wit_GroupsValidateAndEnd_verdictRetentionExpire :
  let s : State := (inGroup 1 3 9 none).modCol 3 (fun c => { c with kept := [{ g := 7, seq := 8, status := 0, at_ := 5 }, { g := 7, seq := 9, status := 0, at_ := 5 }] })
  (Rises s.dies) := by decide +kernel

theorem wit_CollectivesRun_mvCollAlone :
  let d : Fin 16 := 3
  let c : Fin 32 := 5
  let k : Cmd := cmd5 0x45 (7 * 2 ^ 88)
  let g : Fin 256 := 7
  let s : State := { (ready 2 (cmd5 0x45 (7 * 2 ^ 88)) (fun x => { x with td := [(0, BitVec.ofNat 256 (field 68 7))] })) with dies := (inGroup 0 1 9 none).dies }
  (Issues s d c 2 0x45 k) ∧ (TablesRise s) ∧ (DieRises (s.die d)) ∧ (g.val = bits k.word 95 88) ∧ (s.coll d g = none) ∧ (gValid (s.group d g) = true) ∧ (gPhase (s.group d g) = 0) ∧ (gSize (s.group d g) = 1) ∧ (gRank (s.group d g) = 0) ∧ (cOp (s.td d c (bits k.word 87 82)) = 7) ∧ (s.collCause d (s.collJob d g (s.td d c (bits k.word 87 82))) = 0) ∧ ((s.die d).col.kept = []) ∧ ((s.die d).col.early = []) ∧ ((s.die d).col.buf = []) ∧ (s.flt.out = []) ∧ (s.obj 0x5300 4 + 1 < 2 ^ 32) := by
  repeat' apply And.intro
  all_goals first | decide +kernel

theorem wit_CollectivesRun_mvCollRefused :
  let d : Fin 16 := 3
  let c : Fin 32 := 5
  let k : Cmd := cmd5 0x45 (7 * 2 ^ 88)
  let s : State := ready 2 (cmd5 0x45 (7 * 2 ^ 88))
  (Issues s d c 2 0x45 k) ∧ (s.coll d (bits k.word 95 88) = none) ∧ (gValid (s.group d (bits k.word 95 88)) = false) := by decide +kernel

theorem wit_CollectivesRun_mvCollWaiting :
  let d : Fin 16 := 3
  let c : Fin 32 := 5
  let s : State := { (ready 2 (cmd5 0x45 (7 * 2 ^ 88))) with dies := (inGroup 0 2 9 (some barrier)).dies }
  (s.collWaits d c = true) := by decide +kernel

theorem wit_CollectivesRun_mvCollKept :
  let d : Fin 16 := 3
  let c : Fin 32 := 5
  let k : Cmd := cmd5 0x45 (7 * 2 ^ 88)
  let g : Fin 256 := 7
  let v : Kept := { g := 7, seq := 9, status := 0x61, at_ := 5 }
  let s : State := ({ (ready 2 (cmd5 0x45 (7 * 2 ^ 88)) (fun x => { x with td := [(0, BitVec.ofNat 256 (field 68 7))] })) with dies := (inGroup 0 1 9 none).dies, mem := (inGroup 0 1 9 none).mem }).modCol 3 (fun c => { c with kept := [{ g := 7, seq := 9, status := 0x61, at_ := 5 }] })
  (Issues s d c 2 0x45 k) ∧ (TablesRise s) ∧ (DieRises (s.die d)) ∧ (g.val = bits k.word 95 88) ∧ (s.coll d g = none) ∧ (gValid (s.group d g) = true) ∧ (s.keptVerdict d g (gSeq (s.group d g)).toNat = some v) ∧ (v.status < 256) ∧ (s.collCause d (s.collJob d g (s.td d c (bits k.word 87 82))) = 0) := by decide +kernel

theorem wit_CollectivesRun_mvCollRoot :
  let d : Fin 16 := 3
  let c : Fin 32 := 5
  let k : Cmd := cmd5 0x45 (7 * 2 ^ 88)
  let g : Fin 256 := 7
  let s : State := ({ (ready 2 (cmd5 0x45 (7 * 2 ^ 88)) (fun x => { x with td := [(0, BitVec.ofNat 256 (field 68 7))] })) with dies := (inGroup 0 2 9 none).dies, mem := (inGroup 0 2 9 none).mem }).setObj 0x5000 1 12
  (Issues s d c 2 0x45 k) ∧ (TablesRise s) ∧ (DieRises (s.die d)) ∧ (g.val = bits k.word 95 88) ∧ (s.coll d g = none) ∧ (gValid (s.group d g) = true) ∧ ((s.die d).col.kept = []) ∧ ((s.die d).col.early = []) ∧ (s.treeKidsOf d g ≠ []) := by decide +kernel

theorem wit_CollectivesRun_mvCollHuddles :
  let d : Fin 16 := 3
  let c : Fin 32 := 5
  let k : Cmd := cmd5 0x45 (7 * 2 ^ 88)
  let g : Fin 256 := 7
  let p : Nat := 0
  let s : State := ({ (ready 2 (cmd5 0x45 (7 * 2 ^ 88)) (fun x => { x with td := [(0, BitVec.ofNat 256 (field 68 7))] })) with dies := (inGroup 1 2 9 none).dies, mem := (inGroup 1 2 9 none).mem }).setObj 0x5000 1 12
  (Issues s d c 2 0x45 k) ∧ (TablesRise s) ∧ (DieRises (s.die d)) ∧ (g.val = bits k.word 95 88) ∧ (s.coll d g = none) ∧ (gValid (s.group d g) = true) ∧ ((s.die d).col.kept = []) ∧ ((s.die d).col.early = []) ∧ (s.flt.out = []) ∧ (s.fenced = false) ∧ (s.treeUpOf d g = some p) ∧ (s.treeKidsOf d g = []) ∧ (s.ownModule (memberModule (s.member d (s.group d g) p)) = true) := by
  repeat' apply And.intro
  all_goals first | decide +kernel

theorem wit_CollectivesRun_huddleFrameReceive :
  let d : Fin 16 := 3
  let f : BitVec 256 := collFrame 0x20 12 3 4 7 9 0 + (12#256) <<< 200
  let c : Coll := barrier
  let s : State := { (inGroup 0 2 9 (some barrier)) with fab := { frames := [(3, collFrame 0x20 12 3 4 7 9 0 + (12#256) <<< 200)] } }
  (Rises s.dies) ∧ (DieRises (s.die d)) ∧ (0x20 ≤ fKind f ∧ fKind f ≤ 0x22) ∧ (s.fab.frames.contains (d.val, f) = true) ∧ (s.dieRuns d = true) ∧ (s.coll d (cfGroup f) = some c) ∧ (c.phase = 1) ∧ (c.up = false) ∧ (c.broken = false) ∧ (seqPast (cfSeq f) c.seq.toNat = false) ∧ ((s.treeKidsOf d (cfGroup f)).any (fun k => !((s.huddleOf d (cfGroup f) (c.frames ++ [f]) k 0x20).isSome && (s.huddleOf d (cfGroup f) (c.frames ++ [f]) k 0x21).isSome && (s.huddleOf d (cfGroup f) (c.frames ++ [f]) k 0x22).isSome) && !c.votes.any (fun v => v.rank == k)) = true) := by
  repeat' apply And.intro
  all_goals first | decide +kernel

theorem wit_CollectivesRun_huddleFrameForwards :
  let d : Fin 16 := 3
  let f : BitVec 256 := collFrame 0x22 12 3 4 7 9 0 + (12#256) <<< 200
  let fa : BitVec 256 := collFrame 0x20 12 3 4 7 9 (field 57 (bits barrier.desc 127 57)) + (12#256) <<< 200
  let fb : BitVec 256 := collFrame 0x21 12 3 4 7 9 (field 64 77) + (12#256) <<< 200
  let fc : BitVec 256 := collFrame 0x22 12 3 4 7 9 0 + (12#256) <<< 200
  let c : Coll := { barrier with frames := [collFrame 0x20 12 3 4 7 9 (field 57 (bits barrier.desc 127 57)) + (12#256) <<< 200, collFrame 0x21 12 3 4 7 9 (field 64 77) + (12#256) <<< 200] }
  let k : Nat := 3
  let p : Nat := 0
  let s : State := { (inGroup 2 4 9 (some { barrier with frames := [collFrame 0x20 12 3 4 7 9 (field 57 (bits barrier.desc 127 57)) + (12#256) <<< 200, collFrame 0x21 12 3 4 7 9 (field 64 77) + (12#256) <<< 200] })) with fab := { frames := [(3, collFrame 0x22 12 3 4 7 9 0 + (12#256) <<< 200)] } }
  (TablesRise s) ∧ (DieRises (s.die d)) ∧ (0x20 ≤ fKind f ∧ fKind f ≤ 0x22) ∧ (s.fab.frames.contains (d.val, f) = true) ∧ (s.dieRuns d = true) ∧ (s.fenced = false) ∧ (s.coll d (cfGroup f) = some c) ∧ (c.phase = 1) ∧ (c.up = false) ∧ (c.broken = false) ∧ (c.votes = []) ∧ (seqPast (cfSeq f) c.seq.toNat = false) ∧ (s.treeKidsOf d (cfGroup f) = [k]) ∧ (s.huddleOf d (cfGroup f) (c.frames ++ [f]) k 0x20 = some fa) ∧ (s.huddleOf d (cfGroup f) (c.frames ++ [f]) k 0x21 = some fb) ∧ (s.huddleOf d (cfGroup f) (c.frames ++ [f]) k 0x22 = some fc) ∧ (s.treeUpOf d (cfGroup f) = some p) ∧ (s.ownModule (memberModule (s.member d (s.group d (cfGroup f)) p)) = true) := by
  repeat' apply And.intro
  all_goals first | decide +kernel

theorem wit_CollectivesRun_huddleFrameGo :
  let d : Fin 16 := 3
  let f : BitVec 256 := collFrame 0x22 12 3 4 7 9 0 + (12#256) <<< 200
  let fa : BitVec 256 := collFrame 0x20 12 3 4 7 9 (field 57 (bits barrier.desc 127 57)) + (12#256) <<< 200
  let fb : BitVec 256 := collFrame 0x21 12 3 4 7 9 (field 64 77) + (12#256) <<< 200
  let fc : BitVec 256 := collFrame 0x22 12 3 4 7 9 0 + (12#256) <<< 200
  let c : Coll := { barrier with frames := [collFrame 0x20 12 3 4 7 9 (field 57 (bits barrier.desc 127 57)) + (12#256) <<< 200, collFrame 0x21 12 3 4 7 9 (field 64 77) + (12#256) <<< 200] }
  let k : Nat := 1
  let s : State := { (inGroup 0 2 9 (some { barrier with frames := [collFrame 0x20 12 3 4 7 9 (field 57 (bits barrier.desc 127 57)) + (12#256) <<< 200, collFrame 0x21 12 3 4 7 9 (field 64 77) + (12#256) <<< 200] })) with fab := { frames := [(3, collFrame 0x22 12 3 4 7 9 0 + (12#256) <<< 200)] } }
  (TablesRise s) ∧ (DieRises (s.die d)) ∧ (0x20 ≤ fKind f ∧ fKind f ≤ 0x22) ∧ (s.fab.frames.contains (d.val, f) = true) ∧ (s.dieRuns d = true) ∧ (s.fenced = false) ∧ (s.coll d (cfGroup f) = some c) ∧ (c.phase = 1) ∧ (c.up = false) ∧ (c.broken = false) ∧ (c.votes = []) ∧ (seqPast (cfSeq f) c.seq.toNat = false) ∧ (s.treeKidsOf d (cfGroup f) = [k]) ∧ (s.huddleOf d (cfGroup f) (c.frames ++ [f]) k 0x20 = some fa) ∧ (s.huddleOf d (cfGroup f) (c.frames ++ [f]) k 0x21 = some fb) ∧ (s.huddleOf d (cfGroup f) (c.frames ++ [f]) k 0x22 = some fc) ∧ (s.treeUpOf d (cfGroup f) = none) ∧ (s.ownModule (memberModule (s.member d (s.group d (cfGroup f)) k)) = true) ∧ (c.differs (gDigest (s.group d (cfGroup f))) fa fb = false) ∧ (c.cause = 0) ∧ (bit fa 23 = false) ∧ (bit fa 22 = false) ∧ (s.groupBroken d (cfGroup f) = false) ∧ ((c.balance + BitVec.ofNat 64 (bits fc 63 0)) = 0) ∧ (cOp c.desc = 7) ∧ (c.flight = []) ∧ (c.outcome = 0) ∧ (c.voted = false) := by
  repeat' apply And.intro
  all_goals first | decide +kernel

theorem wit_CollectivesRun_huddleFrameEnds :
  let d : Fin 16 := 3
  let f : BitVec 256 := collFrame 0x22 12 3 4 7 9 0 + 5 + (12#256) <<< 200
  let fa : BitVec 256 := collFrame 0x20 12 3 4 7 9 (field 57 (bits barrier.desc 127 57)) + (12#256) <<< 200
  let fb : BitVec 256 := collFrame 0x21 12 3 4 7 9 (field 64 77) + (12#256) <<< 200
  let fc : BitVec 256 := collFrame 0x22 12 3 4 7 9 0 + 5 + (12#256) <<< 200
  let c : Coll := { barrier with frames := [collFrame 0x20 12 3 4 7 9 (field 57 (bits barrier.desc 127 57)) + (12#256) <<< 200, collFrame 0x21 12 3 4 7 9 (field 64 77) + (12#256) <<< 200] }
  let k : Nat := 1
  let st : Nat := 0x60
  let s : State := { (inGroup 0 2 9 (some { barrier with frames := [collFrame 0x20 12 3 4 7 9 (field 57 (bits barrier.desc 127 57)) + (12#256) <<< 200, collFrame 0x21 12 3 4 7 9 (field 64 77) + (12#256) <<< 200] })) with fab := { frames := [(3, collFrame 0x22 12 3 4 7 9 0 + 5 + (12#256) <<< 200)] } }
  (TablesRise s) ∧ (DieRises (s.die d)) ∧ (0x20 ≤ fKind f ∧ fKind f ≤ 0x22) ∧ (s.fab.frames.contains (d.val, f) = true) ∧ (s.dieRuns d = true) ∧ (s.fenced = false) ∧ (s.coll d (cfGroup f) = some c) ∧ (c.phase = 1) ∧ (c.up = false) ∧ (c.broken = false) ∧ (c.votes = []) ∧ (seqPast (cfSeq f) c.seq.toNat = false) ∧ (s.treeKidsOf d (cfGroup f) = [k]) ∧ (s.huddleOf d (cfGroup f) (c.frames ++ [f]) k 0x20 = some fa) ∧ (s.huddleOf d (cfGroup f) (c.frames ++ [f]) k 0x21 = some fb) ∧ (s.huddleOf d (cfGroup f) (c.frames ++ [f]) k 0x22 = some fc) ∧ (s.treeUpOf d (cfGroup f) = none) ∧ (s.ownModule (memberModule (s.member d (s.group d (cfGroup f)) k)) = true) ∧ (st = huddleVerdict (s.groupBroken d (cfGroup f) || bit fa 22) (c.differs (gDigest (s.group d (cfGroup f))) fa fb || c.cause != 0) (bit fa 23) (c.balance + BitVec.ofNat 64 (bits fc 63 0))) ∧ (st ≠ 0) := by
  repeat' apply And.intro
  all_goals first | decide +kernel

theorem wit_CollectivesRun_huddleFrameEarly :
  let d : Fin 16 := 3
  let f : BitVec 256 := collFrame 0x20 12 3 4 7 9 (field 57 (bits barrier.desc 127 57))
  let s : State := { (inGroup 0 2 9 none) with fab := { frames := [(3, collFrame 0x20 12 3 4 7 9 (field 57 (bits barrier.desc 127 57)))] } }
  (Rises s.dies) ∧ (0x20 ≤ fKind f ∧ fKind f ≤ 0x22) ∧ (s.fab.frames.contains (d.val, f) = true) ∧ (s.dieRuns d = true) ∧ (s.coll d (cfGroup f) = none) ∧ (gValid (s.group d (cfGroup f)) = false ∨ seqPast (cfSeq f) (gSeq (s.group d (cfGroup f))).toNat = false) := by decide +kernel

theorem wit_CollectivesRun_huddleFramePast :
  let d : Fin 16 := 3
  let f : BitVec 256 := collFrame 0x20 12 3 4 7 9 (field 57 (bits barrier.desc 127 57))
  let s : State := { (inGroup 0 2 10 none) with fab := { frames := [(3, collFrame 0x20 12 3 4 7 9 (field 57 (bits barrier.desc 127 57)))] } }
  (0x20 ≤ fKind f ∧ fKind f ≤ 0x22) ∧ (s.fab.frames.contains (d.val, f) = true) ∧ (s.dieRuns d = true) ∧ (s.coll d (cfGroup f) = none) ∧ (gValid (s.group d (cfGroup f)) = true) ∧ (seqPast (cfSeq f) (gSeq (s.group d (cfGroup f))).toNat = true) := by decide +kernel

theorem wit_CollectivesRun_huddleFrameReceiveElsewhere :
  let d : Fin 16 := 3
  let f : BitVec 256 := collFrame 0x20 12 3 4 7 9 0
  let s : State := inGroup 0 2 9 (some barrier)
  ((fKind f < 0x20 ∨ 0x22 < fKind f) ∨ s.fab.frames.contains (d.val, f) = false) := by decide +kernel

theorem wit_CollectivesRun_huddleFrameReceiveAsleep :
  let d : Fin 16 := 3
  let f : BitVec 256 := collFrame 0x21 12 3 4 7 9 0
  let s : State := { onDie 3 (fun x => { x with pstate := 3 }) with fab := { frames := [(3, collFrame 0x21 12 3 4 7 9 0)] } }
  (Rises s.dies) ∧ ((0x20 ≤ fKind f ∧ fKind f ≤ 0x22)) ∧ (s.fab.frames.contains (d.val, f) = true) ∧ (s.dieRuns d = false) := by decide +kernel

theorem wit_CollectivesRun_verdictReceive :
  let d : Fin 16 := 3
  let f : BitVec 256 := collFrame 0x24 12 3 2 7 9 (field 120 0x62 + field 118 1) + (12#256) <<< 200
  let c : Coll := barrier
  let st : Nat := 0x62
  let sub : Nat := 7
  let s : State := { (inGroup 1 2 9 (some barrier)) with fab := { frames := [(3, collFrame 0x24 12 3 2 7 9 (field 120 0x62 + field 118 1) + (12#256) <<< 200)] } }
  (TablesRise s) ∧ (DieRises (s.die d)) ∧ (fKind f = 0x24) ∧ (s.fab.frames.contains (d.val, f) = true) ∧ (s.dieRuns d = true) ∧ (s.fenced = false) ∧ (s.ownModule (fSrc f) = true) ∧ (s.coll d (cfGroup f) = some c) ∧ (cfSeq f = c.seq.toNat % 65536) ∧ (bits f 127 120 = st) ∧ ((st, sub) ∈ [(0x60, 5), (0x64, 6), (0x62, 7), (0x63, 7), (0x61, 8)]) ∧ (s.treeKidsOf d (cfGroup f) = []) ∧ (s.obj 0x5300 4 + 1 < 2 ^ 32) ∧ (s.obj 0x5300 sub + 1 < 2 ^ 32) := by
  repeat' apply And.intro
  all_goals first | decide +kernel

theorem wit_CollectivesRun_verdictReceiveOk :
  let d : Fin 16 := 3
  let f : BitVec 256 := collFrame 0x24 12 3 2 7 9 (field 118 2) + (12#256) <<< 200
  let c : Coll := { barrier with phase := 3, voted := true }
  let s : State := { (inGroup 1 2 9 (some { barrier with phase := 3, voted := true })) with fab := { frames := [(3, collFrame 0x24 12 3 2 7 9 (field 118 2) + (12#256) <<< 200)] } }
  (TablesRise s) ∧ (DieRises (s.die d)) ∧ (fKind f = 0x24) ∧ (s.fab.frames.contains (d.val, f) = true) ∧ (s.dieRuns d = true) ∧ (s.fenced = false) ∧ (s.ownModule (fSrc f) = true) ∧ (s.coll d (cfGroup f) = some c) ∧ (cfSeq f = c.seq.toNat % 65536) ∧ (bits f 127 120 = 0) ∧ (bits f 119 118 = 2) ∧ (s.treeKidsOf d (cfGroup f) = []) ∧ (s.obj 0x5300 4 + 1 < 2 ^ 32) := by
  repeat' apply And.intro
  all_goals first | decide +kernel

theorem wit_CollectivesRun_verdictReceiveGo :
  let d : Fin 16 := 3
  let f : BitVec 256 := collFrame 0x24 12 3 2 7 9 (field 118 1 + 777) + (12#256) <<< 200
  let c : Coll := barrier
  let p : Nat := 0
  let s : State := { (inGroup 1 2 9 (some barrier)) with fab := { frames := [(3, collFrame 0x24 12 3 2 7 9 (field 118 1 + 777) + (12#256) <<< 200)] } }
  (TablesRise s) ∧ (DieRises (s.die d)) ∧ (fKind f = 0x24) ∧ (s.fab.frames.contains (d.val, f) = true) ∧ (s.dieRuns d = true) ∧ (s.fenced = false) ∧ (s.ownModule (fSrc f) = true) ∧ (s.coll d (cfGroup f) = some c) ∧ (cfSeq f = c.seq.toNat % 65536) ∧ (bits f 127 120 = 0) ∧ (bits f 119 118 = 1) ∧ (c.phase = 1) ∧ (c.broken = false) ∧ (c.voted = false) ∧ (c.outcome = 0) ∧ (c.flight = []) ∧ (c.votes = []) ∧ (cOp c.desc = 7) ∧ (s.treeKidsOf d (cfGroup f) = []) ∧ (s.treeUpOf d (cfGroup f) = some p) ∧ (s.ownModule (memberModule (s.member d (s.group d (cfGroup f)) p)) = true) := by
  repeat' apply And.intro
  all_goals first | decide +kernel

theorem wit_CollectivesRun_verdictReceiveKept :
  let d : Fin 16 := 3
  let f : BitVec 256 := collFrame 0x24 12 3 2 7 9 (field 120 0x61 + field 118 1) + (12#256) <<< 200
  let s : State := { (inGroup 1 2 9 none) with fab := { frames := [(3, collFrame 0x24 12 3 2 7 9 (field 120 0x61 + field 118 1) + (12#256) <<< 200)] } }
  (TablesRise s) ∧ (DieRises (s.die d)) ∧ (fKind f = 0x24) ∧ (s.fab.frames.contains (d.val, f) = true) ∧ (s.dieRuns d = true) ∧ (s.fenced = false) ∧ (s.ownModule (fSrc f) = true) ∧ (s.coll d (cfGroup f) = none) ∧ (gValid (s.group d (cfGroup f)) = true) ∧ (cfSeq f = (gSeq (s.group d (cfGroup f))).toNat % 65536) ∧ (bits f 127 120 ≠ 0 ∨ bits f 119 118 ≠ 1) ∧ (s.keptVerdict d (cfGroup f) (gSeq (s.group d (cfGroup f))).toNat = none) ∧ (s.treeKidsOf d (cfGroup f) = []) := by
  repeat' apply And.intro
  all_goals first | decide +kernel

theorem wit_CollectivesRun_verdictReceiveAgain :
  let d : Fin 16 := 3
  let f : BitVec 256 := collFrame 0x24 12 3 2 7 9 0 + (12#256) <<< 200
  let s : State := { (inGroup 1 2 10 none) with fab := { frames := [(3, collFrame 0x24 12 3 2 7 9 0 + (12#256) <<< 200)] } }
  (TablesRise s) ∧ (DieRises (s.die d)) ∧ (fKind f = 0x24) ∧ (s.fab.frames.contains (d.val, f) = true) ∧ (s.dieRuns d = true) ∧ (s.fenced = false) ∧ (s.ownModule (fSrc f) = true) ∧ ((s.coll d (cfGroup f)).any (fun c => cfSeq f != c.seq.toNat % 65536 || (bits f 119 118 == 1 && bits f 127 120 == 0 && c.phase != 1)) = true ∨ (s.coll d (cfGroup f) = none ∧ (gValid (s.group d (cfGroup f)) = false ∨ cfSeq f ≠ (gSeq (s.group d (cfGroup f))).toNat % 65536))) := by decide +kernel

theorem wit_CollectivesRun_verdictReceiveElsewhere :
  let d : Fin 16 := 3
  let f : BitVec 256 := collFrame 0x20 12 3 4 7 9 0
  let s : State := inGroup 0 2 9 (some barrier)
  (fKind f ≠ 0x24 ∨ s.fab.frames.contains (d.val, f) = false) := by decide +kernel

theorem wit_CollectivesRun_verdictReceiveAsleep :
  let d : Fin 16 := 3
  let f : BitVec 256 := collFrame 0x24 12 3 4 7 9 0
  let s : State := { onDie 3 (fun x => { x with pstate := 3 }) with fab := { frames := [(3, collFrame 0x24 12 3 4 7 9 0)] } }
  (Rises s.dies) ∧ (fKind f = 0x24) ∧ (s.fab.frames.contains (d.val, f) = true) ∧ (s.dieRuns d = false) := by decide +kernel

theorem wit_CollectivesRun_voteReceiveKept :
  let d : Fin 16 := 3
  let f : BitVec 256 := collFrame 0x23 12 3 4 7 9 0 + (12#256) <<< 200
  let k : Kept := { g := 7, seq := 9, status := 0x63, at_ := 5 }
  let s : State := { ((inGroup 0 2 10 none).modCol 3 (fun c => { c with kept := [{ g := 7, seq := 9, status := 0x63, at_ := 5 }] })) with fab := { frames := [(3, collFrame 0x23 12 3 4 7 9 0 + (12#256) <<< 200)] } }
  (fKind f = 0x23) ∧ (s.fab.frames.contains (d.val, f) = true) ∧ (s.dieRuns d = true) ∧ (s.fenced = false) ∧ (s.ownModule (fSrc f) = true) ∧ (s.coll d (cfGroup f) = none) ∧ (s.keptVerdict d (cfGroup f) (cfSeq f) = some k) ∧ (k.status < 256) := by decide +kernel

theorem wit_CollectivesRun_voteReceiveCounted :
  let d : Fin 16 := 3
  let f : BitVec 256 := collFrame 0x23 12 3 4 7 9 (field 120 0x64) + (12#256) <<< 200
  let c : Coll := { barrier with phase := 2 }
  let r : Nat := 1
  let s : State := { (inGroup 0 2 9 (some { barrier with phase := 2 })) with fab := { frames := [(3, collFrame 0x23 12 3 4 7 9 (field 120 0x64) + (12#256) <<< 200)] } }
  (Rises s.dies) ∧ (DieRises (s.die d)) ∧ (fKind f = 0x23) ∧ (s.fab.frames.contains (d.val, f) = true) ∧ (s.dieRuns d = true) ∧ (s.coll d (cfGroup f) = some c) ∧ (cfSeq f = c.seq.toNat % 65536) ∧ (s.senderRank d (cfGroup f) f = some r) ∧ ((c.phase = 2 ∧ c.broken = false) ∨ (c.phase = 3 ∧ (s.treeKidsOf d (cfGroup f)).any (fun k => !s.kidVoted d (cfGroup f) { c with votes := c.votes.filter (fun x => x.rank != r) ++ [{ rank := r, status := bits f 127 120, held := bit f 119, broken := bit f 118 }] } k) = true)) := by decide +kernel

theorem wit_CollectivesRun_voteReceiveForwards :
  let d : Fin 16 := 3
  let f : BitVec 256 := collFrame 0x23 12 3 4 7 9 (field 120 0x64) + (12#256) <<< 200
  let c : Coll := { barrier with phase := 3 }
  let r : Nat := 3
  let p : Nat := 0
  let s : State := { (inGroup 2 4 9 (some { barrier with phase := 3 })) with fab := { frames := [(3, collFrame 0x23 12 3 4 7 9 (field 120 0x64) + (12#256) <<< 200)] } }
  (TablesRise s) ∧ (DieRises (s.die d)) ∧ (fKind f = 0x23) ∧ (s.fab.frames.contains (d.val, f) = true) ∧ (s.dieRuns d = true) ∧ (s.fenced = false) ∧ (s.coll d (cfGroup f) = some c) ∧ (cfSeq f = c.seq.toNat % 65536) ∧ (s.senderRank d (cfGroup f) f = some r) ∧ (c.phase = 3) ∧ (c.broken = false) ∧ (c.voted = false) ∧ (c.votes = []) ∧ (c.outcome < 256) ∧ (bit f 119 = false) ∧ (s.treeKidsOf d (cfGroup f) = [r]) ∧ (s.treeUpOf d (cfGroup f) = some p) ∧ (s.ownModule (memberModule (s.member d (s.group d (cfGroup f)) p)) = true) := by
  repeat' apply And.intro
  all_goals first | decide +kernel

theorem wit_CollectivesRun_voteReceiveEnds :
  let d : Fin 16 := 3
  let f : BitVec 256 := collFrame 0x23 12 3 4 7 9 (field 120 0x64) + (12#256) <<< 200
  let c : Coll := { barrier with phase := 3 }
  let r : Nat := 1
  let st : Nat := 0x64
  let s : State := { (inGroup 0 2 9 (some { barrier with phase := 3 })) with fab := { frames := [(3, collFrame 0x23 12 3 4 7 9 (field 120 0x64) + (12#256) <<< 200)] } }
  (TablesRise s) ∧ (DieRises (s.die d)) ∧ (fKind f = 0x23) ∧ (s.fab.frames.contains (d.val, f) = true) ∧ (s.dieRuns d = true) ∧ (s.fenced = false) ∧ (s.coll d (cfGroup f) = some c) ∧ (cfSeq f = c.seq.toNat % 65536) ∧ (s.senderRank d (cfGroup f) f = some r) ∧ (c.phase = 3) ∧ (c.broken = false) ∧ (c.voted = false) ∧ (c.votes = []) ∧ (c.outcome < 256) ∧ (bit f 119 = false) ∧ (s.treeKidsOf d (cfGroup f) = [r]) ∧ (s.treeUpOf d (cfGroup f) = none) ∧ (s.ownModule (memberModule (s.member d (s.group d (cfGroup f)) r)) = true) ∧ (st = (if bit f 118 then 0x61 else worst c.outcome (bits f 127 120))) := by
  repeat' apply And.intro
  all_goals first | decide +kernel

theorem wit_CollectivesRun_voteReceiveEarly :
  let d : Fin 16 := 3
  let f : BitVec 256 := collFrame 0x23 12 3 4 7 9 0 + (12#256) <<< 200
  let s : State := { (inGroup 0 2 9 none) with fab := { frames := [(3, collFrame 0x23 12 3 4 7 9 0 + (12#256) <<< 200)] } }
  (TablesRise s) ∧ (DieRises (s.die d)) ∧ (fKind f = 0x23) ∧ (s.fab.frames.contains (d.val, f) = true) ∧ (s.dieRuns d = true) ∧ (s.coll d (cfGroup f) = none) ∧ (s.keptVerdict d (cfGroup f) (cfSeq f) = none) ∧ (gValid (s.group d (cfGroup f)) = true) ∧ (seqPast (cfSeq f) (gSeq (s.group d (cfGroup f))).toNat = false) := by decide +kernel

theorem wit_CollectivesRun_voteReceivePast :
  let d : Fin 16 := 3
  let f : BitVec 256 := collFrame 0x23 12 3 4 7 9 0 + (12#256) <<< 200
  let s : State := { (inGroup 0 2 10 none) with fab := { frames := [(3, collFrame 0x23 12 3 4 7 9 0 + (12#256) <<< 200)] } }
  (TablesRise s) ∧ (DieRises (s.die d)) ∧ (fKind f = 0x23) ∧ (s.fab.frames.contains (d.val, f) = true) ∧ (s.dieRuns d = true) ∧ (s.coll d (cfGroup f) = none) ∧ (s.keptVerdict d (cfGroup f) (cfSeq f) = none) ∧ (gValid (s.group d (cfGroup f)) = false ∨ seqPast (cfSeq f) (gSeq (s.group d (cfGroup f))).toNat = true) := by decide +kernel

theorem wit_CollectivesRun_voteReceiveElsewhere :
  let d : Fin 16 := 3
  let f : BitVec 256 := collFrame 0x20 12 3 4 7 9 0
  let s : State := inGroup 0 2 9 (some barrier)
  (fKind f ≠ 0x23 ∨ s.fab.frames.contains (d.val, f) = false) := by decide +kernel

theorem wit_CollectivesRun_voteReceiveAsleep :
  let d : Fin 16 := 3
  let f : BitVec 256 := collFrame 0x23 12 3 4 7 9 0
  let s : State := { onDie 3 (fun x => { x with pstate := 3 }) with fab := { frames := [(3, collFrame 0x23 12 3 4 7 9 0)] } }
  (Rises s.dies) ∧ (fKind f = 0x23) ∧ (s.fab.frames.contains (d.val, f) = true) ∧ (s.dieRuns d = false) := by decide +kernel

theorem wit_CollectivesRun_huddleTimeout :
  let d : Fin 16 := 3
  let g : Fin 256 := 7
  let c : Coll := barrier
  let k : Nat := 1
  let s : State := inGroup 0 2 9 (some barrier)
  (TablesRise s) ∧ (DieRises (s.die d)) ∧ (s.coll d g = some c) ∧ (c.phase = 1) ∧ (c.up = false) ∧ (c.broken = false) ∧ (c.cause = 0) ∧ (c.balance = 0) ∧ (c.frames = []) ∧ (c.votes = []) ∧ (s.groupBroken d g = false) ∧ (c.since + s.collT d g ≤ s.time) ∧ (s.treeUpOf d g = none) ∧ (s.treeKidsOf d g = [k]) ∧ (s.fenced = false) ∧ (s.ownModule (memberModule (s.member d (s.group d g) k)) = true) ∧ (s.obj 0x5300 4 + 1 < 2 ^ 32) ∧ (s.obj 0x5300 7 + 1 < 2 ^ 32) := by
  repeat' apply And.intro
  all_goals first | decide +kernel

theorem wit_CollectivesRun_huddleTimeoutForwards :
  let d : Fin 16 := 3
  let g : Fin 256 := 7
  let c : Coll := barrier
  let p : Nat := 0
  let s : State := inGroup 1 4 9 (some barrier)
  (TablesRise s) ∧ (DieRises (s.die d)) ∧ (s.coll d g = some c) ∧ (c.phase = 1) ∧ (c.up = false) ∧ (c.broken = false) ∧ (c.frames = []) ∧ (c.votes = []) ∧ (c.since + s.collT d g ≤ s.time) ∧ (s.treeUpOf d g = some p) ∧ (s.fenced = false) ∧ (s.ownModule (memberModule (s.member d (s.group d g) p)) = true) := by
  repeat' apply And.intro
  all_goals first | decide +kernel

theorem wit_CollectivesRun_huddleTimeoutBroken :
  let d : Fin 16 := 3
  let g : Fin 256 := 7
  let c : Coll := { barrier with broken := true }
  let p : Nat := 0
  let s : State := inGroup 1 4 9 (some { barrier with broken := true })
  (TablesRise s) ∧ (DieRises (s.die d)) ∧ (s.coll d g = some c) ∧ (c.phase = 1) ∧ (c.broken = true) ∧ (c.voted = false) ∧ (c.votes = []) ∧ (c.since + s.collT d g ≤ s.time) ∧ (s.treeUpOf d g = some p) ∧ (s.fenced = false) ∧ (s.ownModule (memberModule (s.member d (s.group d g) p)) = true) := by
  repeat' apply And.intro
  all_goals first | decide +kernel

theorem wit_CollectivesRun_huddleTimeoutNot :
  let d : Fin 16 := 3
  let g : Fin 256 := 7
  let s : State := inGroup 1 4 9 (some { barrier with up := true })
  ((s.coll d g).all (fun c => c.phase != 1 || decide (s.time < c.since + s.collT d g) || (c.up && !c.broken) || (c.broken && c.voted)) = true) := by decide +kernel

theorem wit_CollectivesRun_dataPhaseTimeout :
  let d : Fin 16 := 3
  let g : Fin 256 := 7
  let c : Coll := { barrier with phase := 2 }
  let p : Nat := 0
  let s : State := inGroup 1 2 9 (some { barrier with phase := 2 })
  (TablesRise s) ∧ (DieRises (s.die d)) ∧ (s.coll d g = some c) ∧ (c.phase = 2) ∧ (c.broken = false) ∧ (c.voted = false) ∧ (c.outcome < 256) ∧ (c.votes = []) ∧ (c.since + s.collT d g ≤ s.time) ∧ (s.treeUpOf d g = some p) ∧ (s.treeKidsOf d g = []) ∧ (s.fenced = false) ∧ (s.ownModule (memberModule (s.member d (s.group d g) p)) = true) := by
  repeat' apply And.intro
  all_goals first | decide +kernel

theorem wit_CollectivesRun_dataPhaseTimeoutWaits :
  let d : Fin 16 := 3
  let g : Fin 256 := 7
  let c : Coll := { barrier with phase := 2 }
  let s : State := inGroup 0 2 9 (some { barrier with phase := 2 })
  (TablesRise s) ∧ (DieRises (s.die d)) ∧ (s.coll d g = some c) ∧ (c.phase = 2) ∧ (c.since + s.collT d g ≤ s.time) ∧ ((s.treeKidsOf d g).any (fun k => !s.kidVoted d g c k) = true) := by decide +kernel

theorem wit_CollectivesRun_dataPhaseTimeoutNot :
  let d : Fin 16 := 3
  let g : Fin 256 := 7
  let s : State := inGroup 1 4 9 (some barrier)
  ((s.coll d g).all (fun c => c.phase != 2 || decide (s.time < c.since + s.collT d g)) = true) := by decide +kernel

theorem wit_CollectivesRun_collDataReceive :
  let d : Fin 16 := 3
  let k : Packet := pkt12 (fun k => { k with op := 0x20, flow := 7, pseq := 9, payload := [1, 2, 3] })
  let s : State := { (inGroup 1 2 9 none) with fab := { inner := [(3, pkt12 (fun k => { k with op := 0x20, flow := 7, pseq := 9, payload := [1, 2, 3] }))] } }
  (TablesRise s) ∧ (DieRises (s.die d)) ∧ (s.fab.inner.contains (d.val, k) = true) ∧ (k.op = 0x20) ∧ (s.dieRuns d = true) ∧ (k.hchk = k.check) ∧ (s.fenced = false) ∧ (s.ownModule k.srcModule.toNat = true) ∧ (Joined s d k.srcDie.toNat) ∧ ((s.coll d k.flow.toNat = none ∧ gValid (s.group d k.flow.toNat) = true ∧ (k.pseq.toNat + 4096 - (gSeq (s.group d k.flow.toNat)).toNat % 4096) % 4096 < 2048) ∨ (s.coll d k.flow.toNat).any (fun c => c.owns k.flow.toNat k && c.phase == 1 && !c.broken && !c.residue && !c.got.contains (chunkStep k, k.addr.toNat)) = true) ∧ ((s.die d).col.buf.any (fun b => b.flow == k.flow && b.pseq == k.pseq && chunkStep b == chunkStep k && b.addr == k.addr) = false) ∧ ((s.die d).col.staged + k.payload.length ≤ 4194304) := by
  repeat' apply And.intro
  all_goals first | decide +kernel

theorem wit_CollectivesRun_collDataAgain :
  let d : Fin 16 := 3
  let k : Packet := pkt12 (fun k => { k with op := 0x20, flow := 7, pseq := 9, payload := [1, 2, 3] })
  let s : State := { (inGroup 1 2 9 (some { barrier with phase := 3 })) with fab := { inner := [(3, pkt12 (fun k => { k with op := 0x20, flow := 7, pseq := 9, payload := [1, 2, 3] }))] } }
  (TablesRise s) ∧ (DieRises (s.die d)) ∧ (s.fab.inner.contains (d.val, k) = true) ∧ (k.op = 0x20) ∧ (s.dieRuns d = true) ∧ (k.hchk = k.check) ∧ (s.fenced = false) ∧ (s.ownModule k.srcModule.toNat = true) ∧ (Joined s d k.srcDie.toNat) ∧ ((s.coll d k.flow.toNat = none ∧ gValid (s.group d k.flow.toNat) = true ∧ ((s.die d).col.buf.any (fun b => b.flow == k.flow && b.pseq == k.pseq && chunkStep b == chunkStep k && b.addr == k.addr) = true ∨ 2048 ≤ (k.pseq.toNat + 4096 - (gSeq (s.group d k.flow.toNat)).toNat % 4096) % 4096)) ∨ (s.coll d k.flow.toNat).any (fun c => c.owns k.flow.toNat k && !c.residue && (c.phase == 3 || c.broken || (s.die d).col.buf.any (fun b => b.flow == k.flow && b.pseq == k.pseq && chunkStep b == chunkStep k && b.addr == k.addr) || c.got.contains (chunkStep k, k.addr.toNat))) = true) := by
  repeat' apply And.intro
  all_goals first | decide +kernel

theorem wit_CollectivesRun_collDataNoRoom :
  let d : Fin 16 := 3
  let k : Packet := pkt12 (fun k => { k with op := 0x20, flow := 7, pseq := 9, payload := [1, 2, 3] })
  let s : State := { linked with fab := { inner := [(3, pkt12 (fun k => { k with op := 0x20, flow := 7, pseq := 9, payload := [1, 2, 3] }))] } }
  (TablesRise s) ∧ (DieRises (s.die d)) ∧ (s.fab.inner.contains (d.val, k) = true) ∧ (k.op = 0x20) ∧ (s.dieRuns d = true) ∧ (k.hchk = k.check) ∧ (s.coll d k.flow.toNat = none) ∧ (gValid (s.group d k.flow.toNat) = false ∨ ((s.die d).col.buf.any (fun b => b.flow == k.flow && b.pseq == k.pseq && chunkStep b == chunkStep k && b.addr == k.addr) = false ∧ (k.pseq.toNat + 4096 - (gSeq (s.group d k.flow.toNat)).toNat % 4096) % 4096 < 2048 ∧ 4194304 < (s.die d).col.staged + k.payload.length)) := by decide +kernel

theorem wit_CollectivesRun_collDataHeader :
  let d : Fin 16 := 3
  let k : Packet := { pkt12 (fun k => { k with op := 0x20, flow := 7, pseq := 9, payload := [1, 2, 3] }) with hchk := 1 }
  let s : State := { linked with fab := { inner := [(3, { pkt12 (fun k => { k with op := 0x20, flow := 7, pseq := 9, payload := [1, 2, 3] }) with hchk := 1 })] } }
  (TablesRise s) ∧ (s.fab.inner.contains (d.val, k) = true) ∧ (k.op = 0x20) ∧ (s.dieRuns d = true) ∧ (k.hchk ≠ k.check) ∧ (s.obj 0x5000 8 + 1 < 2 ^ 32) := by decide +kernel

theorem wit_CollectivesRun_collDataElsewhere :
  let d : Fin 16 := 3
  let k : Packet := pkt12 (fun k => { k with op := 0x20, flow := 7, pseq := 9, payload := [1, 2, 3] })
  let s : State := linked
  (k.op ≠ 0x20 ∨ s.fab.inner.contains (d.val, k) = false) := by decide +kernel

theorem wit_CollectivesRun_collDataAsleep :
  let d : Fin 16 := 3
  let k : Packet := pkt12 (fun k => { k with op := 0x20, flow := 7, pseq := 9, payload := [1, 2, 3] })
  let s : State := { onDie 3 (fun x => { x with pstate := 3 }) with fab := { inner := [(3, pkt12 (fun k => { k with op := 0x20, flow := 7, pseq := 9, payload := [1, 2, 3] }))] } }
  (Rises s.dies) ∧ (s.fab.inner.contains (d.val, k) = true) ∧ (k.op = 0x20) ∧ (s.dieRuns d = false) := by decide +kernel

theorem wit_CollectivesRun_collDataLands :
  let d : Fin 16 := 3
  let k : Packet := pkt12 (fun k => { k with op := 0x20, lines := 1, flow := 7, pseq := 9, opx := BitVec.ofNat 64 (field 32 (crc32c (List.replicate 32 9)) + field 24 31), payload := List.replicate 32 9 })
  let c : Coll := { barrier with phase := 2, desc := BitVec.ofNat 256 (field 192 0xFFFF300000002000 + field 128 0xFFFF300000008000 + field 88 8 + field 68 4 + field 63 1 + field 59 0), flight := [{ pkt := pkt9 (fun k => { k with dstModule := 9, dstDie := 2 }), at_ := 5 }] }
  let x : Chunk := { hop := { step := 0, peer := 0, kind := 1, lo := 0, n := 32 }, off := 0, len := 32 }
  let a : Nat := 0x8000
  let s : State := { (inGroup 1 2 9 (some { barrier with phase := 2, desc := BitVec.ofNat 256 (field 192 0xFFFF300000002000 + field 128 0xFFFF300000008000 + field 88 8 + field 68 4 + field 63 1 + field 59 0), flight := [{ pkt := pkt9 (fun k => { k with dstModule := 9, dstDie := 2 }), at_ := 5 }] })) with fab := { inner := [(3, pkt12 (fun k => { k with op := 0x20, lines := 1, flow := 7, pseq := 9, opx := BitVec.ofNat 64 (field 32 (crc32c (List.replicate 32 9)) + field 24 31), payload := List.replicate 32 9 }))] } }
  (TablesRise s) ∧ (DieRises (s.die d)) ∧ (s.fab.inner.contains (d.val, k) = true) ∧ (k.op = 0x20) ∧ (s.dieRuns d = true) ∧ (k.hchk = k.check) ∧ (s.fenced = false) ∧ (s.ownModule k.srcModule.toNat = true) ∧ (Joined s d k.srcDie.toNat) ∧ (s.coll d k.flow.toNat = some c) ∧ (c.owns k.flow.toNat k = true) ∧ (c.phase = 2) ∧ (c.broken = false) ∧ (c.flight ≠ []) ∧ ((s.die d).col.buf = []) ∧ (k.payload.length ≤ 4194304) ∧ (c.got.contains (chunkStep k, k.addr.toNat) = false) ∧ ((s.collJob d k.flow.toNat c.desc).chunkOf k = some x) ∧ (((s.collJob d k.flow.toNat c.desc).plan.1.flatMap (s.collJob d k.flow.toNat c.desc).chunks).all (fun y => c.put.contains (y.hop.step, y.off)) = true) ∧ (chunkPoison k = false) ∧ (chunkGood k = true) ∧ ((chunkBytes k).length = x.len) ∧ (x.hop.kind = 1) ∧ (cTiled c.desc = false) ∧ (s.ownAddr d (cDst c.desc) = some a) ∧ (inMemory s d (a + x.hop.lo + x.off) x.len = true) := by
  repeat' apply And.intro
  all_goals first | decide +kernel

theorem wit_CollectivesRun_collDataAdds :
  let d : Fin 16 := 3
  let k : Packet := pkt12 (fun k => { k with op := 0x20, lines := 1, flow := 7, pseq := 9, opx := BitVec.ofNat 64 (field 32 (crc32c (List.replicate 16 64)) + field 24 15), payload := List.replicate 16 64 })
  let residue : Bool := false
  let c : Coll := { barrier with phase := 2, desc := BitVec.ofNat 256 (field 192 0xFFFF300000002000 + field 128 0xFFFF300000008000 + field 88 4 + field 68 1 + field 63 1 + field 59 0), flight := [{ pkt := pkt9 (fun k => { k with dstModule := 9, dstDie := 2 }), at_ := 5 }], put := [(0, 0)] }
  let x : Chunk := { hop := { step := 0, peer := 1, kind := 0, lo := 0, n := 4, last := true }, off := 0, len := 16 }
  let a : Nat := 0x2000
  let b : Nat := 0x8000
  let lo : Nat := 0
  let n : Nat := 4
  let s : State := { (inGroup 0 2 9 (some { barrier with phase := 2, desc := BitVec.ofNat 256 (field 192 0xFFFF300000002000 + field 128 0xFFFF300000008000 + field 88 4 + field 68 1 + field 63 1 + field 59 0), flight := [{ pkt := pkt9 (fun k => { k with dstModule := 9, dstDie := 2 }), at_ := 5 }], put := [(0, 0)] })) with fab := { inner := [(3, pkt12 (fun k => { k with op := 0x20, lines := 1, flow := 7, pseq := 9, opx := BitVec.ofNat 64 (field 32 (crc32c (List.replicate 16 64)) + field 24 15), payload := List.replicate 16 64 }))] } }
  (TablesRise s) ∧ (DieRises (s.die d)) ∧ (s.fab.inner.contains (d.val, k) = true) ∧ (k.op = 0x20) ∧ (s.dieRuns d = true) ∧ (k.hchk = k.check) ∧ (s.fenced = false) ∧ (s.ownModule k.srcModule.toNat = true) ∧ (Joined s d k.srcDie.toNat) ∧ (s.coll d k.flow.toNat = some c) ∧ (c.owns k.flow.toNat k = true) ∧ (c.phase = 2) ∧ (c.broken = false) ∧ (c.flight ≠ []) ∧ ((s.die d).col.buf = []) ∧ (k.payload.length ≤ 4194304) ∧ (c.got.contains (chunkStep k, k.addr.toNat) = false) ∧ ((s.collJob d k.flow.toNat c.desc).chunkOf k = some x) ∧ (((s.collJob d k.flow.toNat c.desc).plan.1.flatMap (s.collJob d k.flow.toNat c.desc).chunks).all (fun y => c.put.contains (y.hop.step, y.off)) = true) ∧ (chunkPoison k = false) ∧ (chunkGood k = true) ∧ ((chunkBytes k).length = x.len) ∧ (NoBadData s) ∧ (residue = false) ∧ (x.hop.kind = 0) ∧ (x.hop.last = true) ∧ (x.hop.lo + x.off / (s.collJob d k.flow.toNat c.desc).bc = lo) ∧ (x.len / (s.collJob d k.flow.toNat c.desc).bc = n) ∧ ((List.range n).all (fun i => ((s.collJob d k.flow.toNat c.desc).lastAdd x.hop.step (lo + i)).isNone) = true) ∧ (c.isBad 0 ((s.collJob d k.flow.toNat c.desc).span x).1 ((s.collJob d k.flow.toNat c.desc).span x).2 = false) ∧ (cTiled c.desc = false) ∧ (s.ownAddr d (cSrc c.desc) = some a) ∧ (s.ownAddr d (cDst c.desc) = some b) ∧ (inMemory s d (b + (s.collJob d k.flow.toNat c.desc).elemAt lo) ((s.collJob d k.flow.toNat c.desc).b * n) = true) := by
  repeat' apply And.intro
  all_goals first | decide +kernel

theorem wit_CollectivesRun_collDataBad :
  let d : Fin 16 := 3
  let k : Packet := pkt12 (fun k => { k with op := 0x20, lines := 1, flow := 7, pseq := 9, opx := BitVec.ofNat 64 (field 32 (crc32c (List.replicate 16 64)) + field 24 15), payload := List.replicate 16 64 })
  let residue : Bool := true
  let c : Coll := { barrier with phase := 2, desc := BitVec.ofNat 256 (field 192 0xFFFF300000002000 + field 128 0xFFFF300000008000 + field 88 4 + field 68 1 + field 63 1 + field 59 0), flight := [{ pkt := pkt9 (fun k => { k with dstModule := 9, dstDie := 2 }), at_ := 5 }], put := [(0, 0)] }
  let x : Chunk := { hop := { step := 0, peer := 1, kind := 0, lo := 0, n := 4, last := true }, off := 0, len := 16 }
  let s : State := { (inGroup 0 2 9 (some { barrier with phase := 2, desc := BitVec.ofNat 256 (field 192 0xFFFF300000002000 + field 128 0xFFFF300000008000 + field 88 4 + field 68 1 + field 63 1 + field 59 0), flight := [{ pkt := pkt9 (fun k => { k with dstModule := 9, dstDie := 2 }), at_ := 5 }], put := [(0, 0)] })) with fab := { inner := [(3, pkt12 (fun k => { k with op := 0x20, lines := 1, flow := 7, pseq := 9, opx := BitVec.ofNat 64 (field 32 (crc32c (List.replicate 16 64)) + field 24 15), payload := List.replicate 16 64 }))] } }
  (TablesRise s) ∧ (DieRises (s.die d)) ∧ (s.fab.inner.contains (d.val, k) = true) ∧ (k.op = 0x20) ∧ (s.dieRuns d = true) ∧ (k.hchk = k.check) ∧ (s.fenced = false) ∧ (s.ownModule k.srcModule.toNat = true) ∧ (Joined s d k.srcDie.toNat) ∧ (s.coll d k.flow.toNat = some c) ∧ (c.owns k.flow.toNat k = true) ∧ (c.phase = 2) ∧ (c.broken = false) ∧ (c.flight ≠ []) ∧ ((s.die d).col.buf = []) ∧ (k.payload.length ≤ 4194304) ∧ (c.got.contains (chunkStep k, k.addr.toNat) = false) ∧ ((s.collJob d k.flow.toNat c.desc).chunkOf k = some x) ∧ (((s.collJob d k.flow.toNat c.desc).plan.1.flatMap (s.collJob d k.flow.toNat c.desc).chunks).all (fun y => c.put.contains (y.hop.step, y.off)) = true) ∧ ((chunkPoison k = true ∨ chunkGood k = false ∨ (chunkBytes k).length ≠ x.len) ∨ (x.hop.kind = 0 ∧ residue = true ∧ NoBadData s ∧ cTiled c.desc = false)) := by
  repeat' apply And.intro
  all_goals first | decide +kernel

theorem wit_CollectivesRun_collAckReceive :
  let d : Fin 16 := 3
  let k : Packet := pkt9 (fun k => { k with op := 0x21, flow := 7, pseq := 9 })
  let c : Coll := { barrier with phase := 3, flight := [{ pkt := pkt9 (fun k => { k with dstModule := 9, dstDie := 2 }), at_ := 5 }] }
  let s : State := { (inGroup 1 2 9 (some { barrier with phase := 3, flight := [{ pkt := pkt9 (fun k => { k with dstModule := 9, dstDie := 2 }), at_ := 5 }] })) with fab := { inner := [(3, pkt9 (fun k => { k with op := 0x21, flow := 7, pseq := 9 }))] } }
  (Rises s.dies) ∧ (DieRises (s.die d)) ∧ (s.fab.inner.contains (d.val, k) = true) ∧ (k.op = 0x21) ∧ (s.dieRuns d = true) ∧ (k.hchk = k.check) ∧ (s.coll d k.flow.toNat = some c) ∧ (k.pseq.toNat = c.seq.toNat % 4096) ∧ (c.phase ≠ 2 ∨ c.flight.filter (fun f => !(chunkStep f.pkt == chunkStep k && f.pkt.addr == k.addr && f.pkt.dstModule == k.srcModule && f.pkt.dstDie == k.srcDie)) ≠ []) := by decide +kernel

theorem wit_CollectivesRun_collAckEnds :
  let d : Fin 16 := 3
  let k : Packet := pkt9 (fun k => { k with op := 0x21, flow := 7, pseq := 9 })
  let c : Coll := { barrier with phase := 2, flight := [{ pkt := pkt9 (fun k => { k with dstModule := 9, dstDie := 2 }), at_ := 5 }] }
  let s : State := { (inGroup 0 2 9 (some { barrier with phase := 2, flight := [{ pkt := pkt9 (fun k => { k with dstModule := 9, dstDie := 2 }), at_ := 5 }] })) with fab := { inner := [(3, pkt9 (fun k => { k with op := 0x21, flow := 7, pseq := 9 }))] } }
  (TablesRise s) ∧ (DieRises (s.die d)) ∧ (s.fab.inner.contains (d.val, k) = true) ∧ (k.op = 0x21) ∧ (s.dieRuns d = true) ∧ (k.hchk = k.check) ∧ (s.coll d k.flow.toNat = some c) ∧ (c.owns k.flow.toNat k = true) ∧ (c.phase = 2) ∧ (c.broken = false) ∧ (c.flight.all (fun f => chunkStep f.pkt == chunkStep k && f.pkt.addr == k.addr && f.pkt.dstModule == k.srcModule && f.pkt.dstDie == k.srcDie) = true) ∧ (((s.collJob d k.flow.toNat c.desc).plan.1.flatMap (s.collJob d k.flow.toNat c.desc).chunks).all (fun y => c.put.contains (y.hop.step, y.off)) = true) ∧ (((s.collJob d k.flow.toNat c.desc).plan.2.flatMap (s.collJob d k.flow.toNat c.desc).chunks).all (fun y => c.got.contains (y.hop.step, y.off)) = true) ∧ (cTiled c.desc = false) ∧ ((s.treeKidsOf d k.flow.toNat).any (fun i => !s.kidVoted d k.flow.toNat c i) = true) := by
  repeat' apply And.intro
  all_goals first | decide +kernel

theorem wit_CollectivesRun_collAckPast :
  let d : Fin 16 := 3
  let k : Packet := pkt9 (fun k => { k with op := 0x21, flow := 7, pseq := 9 })
  let s : State := { (inGroup 1 2 9 none) with fab := { inner := [(3, pkt9 (fun k => { k with op := 0x21, flow := 7, pseq := 9 }))] } }
  (s.fab.inner.contains (d.val, k) = true) ∧ (k.op = 0x21) ∧ (s.dieRuns d = true) ∧ (k.hchk = k.check) ∧ ((s.coll d k.flow.toNat).any (fun c => c.owns k.flow.toNat k) = false) := by decide +kernel

theorem wit_CollectivesRun_collAckElsewhere :
  let d : Fin 16 := 3
  let k : Packet := pkt9 (fun k => { k with op := 0x21, flow := 7, pseq := 9 })
  let s : State := linked
  (k.op ≠ 0x21 ∨ s.fab.inner.contains (d.val, k) = false) := by decide +kernel

theorem wit_CollectivesRun_collAckAsleep :
  let d : Fin 16 := 3
  let k : Packet := pkt9 (fun k => { k with op := 0x21, flow := 7, pseq := 9 })
  let s : State := { onDie 3 (fun x => { x with pstate := 3 }) with fab := { inner := [(3, pkt9 (fun k => { k with op := 0x21, flow := 7, pseq := 9 }))] } }
  (Rises s.dies) ∧ (s.fab.inner.contains (d.val, k) = true) ∧ (k.op = 0x21) ∧ (s.dieRuns d = false) := by decide +kernel

theorem wit_CollectivesRun_collAckHeader :
  let d : Fin 16 := 3
  let k : Packet := { pkt9 (fun k => { k with op := 0x21, flow := 7, pseq := 9 }) with hchk := 1 }
  let s : State := { linked with fab := { inner := [(3, { pkt9 (fun k => { k with op := 0x21, flow := 7, pseq := 9 }) with hchk := 1 })] } }
  (Rises s.dict) ∧ (s.fab.inner.contains (d.val, k) = true) ∧ (k.op = 0x21) ∧ (s.dieRuns d = true) ∧ (k.hchk ≠ k.check) ∧ (s.obj 0x5000 8 + 1 < 2 ^ 32) := by decide +kernel

theorem wit_CollectivesRun_chunkResend :
  let d : Fin 16 := 3
  let g : Fin 256 := 7
  let c : Coll := { barrier with phase := 2, flight := [{ pkt := pkt12 (fun k => { k with op := 0x20, flow := 7 }), at_ := 5 }] }
  let due : List ColSent := [{ pkt := pkt12 (fun k => { k with op := 0x20, flow := 7 }), at_ := 5 }]
  let s : State := inGroup 1 2 9 (some { barrier with phase := 2, flight := [{ pkt := pkt12 (fun k => { k with op := 0x20, flow := 7 }), at_ := 5 }] })
  (Rises s.dies) ∧ (DieRises (s.die d)) ∧ (s.coll d g = some c) ∧ (2 ≤ c.phase) ∧ (due = c.flight.filter (fun f => decide (f.at_ + s.obj 0x5B00 1 * tickUs ≤ s.time))) ∧ (s.fenced = false) ∧ (due.all (fun f => s.ownModule f.pkt.dstModule.toNat && f.pkt.op == 0x20 && (s.packetPath d f.pkt.dstDie.toNat).any (fun p => !s.pathShut p)) = true) := by decide +kernel

theorem wit_CollectivesRun_chunkResendNot :
  let d : Fin 16 := 3
  let g : Fin 256 := 7
  let s : State := inGroup 1 2 9 (some barrier)
  ((s.coll d g).all (fun c => decide (c.phase < 2)) = true) := by decide +kernel

theorem wit_CollectivesRun_roundStartLate :
  let d : Fin 16 := 3
  let g : Fin 256 := 7
  let c : Coll := { barrier with phase := 2, desc := BitVec.ofNat 256 (field 88 8 + field 63 1 + field 59 2), rounds := 1, put := [(0, 0)] }
  let e : BitVec 256 := BitVec.ofNat 256 (field 255 1 + field 224 4 + field 192 400) ^^^ rsReset
  let s : State := { ((inGroup 1 2 9 (some { barrier with phase := 2, desc := BitVec.ofNat 256 (field 88 8 + field 63 1 + field 59 2), rounds := 1, put := [(0, 0)] })).modDie 3 (fun x => { x with rs := [(0, BitVec.ofNat 256 (field 255 1 + field 224 4 + field 192 400))] })) with gt := { st := 1 } }
  (TablesRise s) ∧ (DieRises (s.die d)) ∧ (s.coll d g = some c) ∧ (c.phase = 2) ∧ (cAlgo c.desc = 2) ∧ (c.rounds = 1) ∧ (s.gtRuns d = true) ∧ (e = s.rs d (cRs c.desc)) ∧ (rsSlotStart e ((s.collJob d g c.desc).roundSlot e c.tgo.toNat (s.obj 0x5300 3) c.rounds) ≤ (s.localGt d).toNat) ∧ ((s.die d).col.buf = []) ∧ (((s.collJob d g c.desc).plan.1.flatMap (s.collJob d g c.desc).chunks).all (fun x => c.put.contains (x.hop.step, x.off) || !(s.collJob d g c.desc).ready c.got x) = true) ∧ (((s.collJob d g c.desc).plan.1.filter (fun h => h.step == 1)).any (fun h => ((s.collJob d g c.desc).chunks h).any (fun x => !(s.collJob d g c.desc).ready c.got x && !c.put.contains (x.hop.step, x.off))) = true) ∧ (s.obj 0x5100 9 + 1 < 2 ^ 32) := by
  repeat' apply And.intro
  all_goals first | decide +kernel

theorem wit_CollectivesRun_roundStartSends :
  let d : Fin 16 := 3
  let g : Fin 256 := 7
  let c : Coll := { barrier with phase := 2, desc := BitVec.ofNat 256 (field 192 0xFFFF300000002000 + field 128 0xFFFF300000008000 + field 88 8 + field 68 5 + field 63 1 + field 59 2) }
  let x : Chunk := { hop := { step := 0, peer := 0, kind := 2, lo := 0, n := 32 }, off := 0, len := 32 }
  let a : Nat := 0x2000
  let s : State := { ((inGroup 1 2 9 (some { barrier with phase := 2, desc := BitVec.ofNat 256 (field 192 0xFFFF300000002000 + field 128 0xFFFF300000008000 + field 88 8 + field 68 5 + field 63 1 + field 59 2) })).modDie 3 (fun x => { x with rs := [(0, BitVec.ofNat 256 (field 255 1 + field 224 4 + field 192 400))] })) with gt := { st := 1 } }
  (TablesRise s) ∧ (DieRises (s.die d)) ∧ (s.coll d g = some c) ∧ (c.phase = 2) ∧ (c.broken = false) ∧ (cAlgo c.desc = 2) ∧ (cTiled c.desc = false) ∧ (NoBadData s) ∧ (s.gtRuns d = true) ∧ (rsSlotStart (s.rs d (cRs c.desc)) ((s.collJob d g c.desc).roundSlot (s.rs d (cRs c.desc)) c.tgo.toNat (s.obj 0x5300 3) c.rounds) ≤ (s.localGt d).toNat) ∧ ((s.die d).col.buf = []) ∧ ((s.collJob d g c.desc).plan.1.flatMap (s.collJob d g c.desc).chunks = [x]) ∧ (x.hop.kind = 2) ∧ (x.hop.step = c.rounds) ∧ (c.put = []) ∧ (c.flight = []) ∧ (s.ownAddr d (cSrc c.desc) = some a) ∧ (s.fenced = false) ∧ (s.ownModule (memberModule (s.member d (s.group d g) x.hop.peer)) = true) ∧ (Joined s d (memberDie (s.member d (s.group d g) x.hop.peer))) := by
  repeat' apply And.intro
  all_goals first | decide +kernel

theorem wit_CollectivesRun_roundStartNot :
  let d : Fin 16 := 3
  let g : Fin 256 := 7
  let s : State := inGroup 1 2 9 (some { barrier with phase := 2 })
  ((s.coll d g).all (fun c => c.phase != 2 || cAlgo c.desc != 2 || !s.gtRuns d || (s.collJob d g c.desc).plan.1.all (fun h => decide (h.step < c.rounds)) || decide ((s.localGt d).toNat < rsSlotStart (s.rs d (cRs c.desc)) ((s.collJob d g c.desc).roundSlot (s.rs d (cRs c.desc)) c.tgo.toNat (s.obj 0x5300 3) c.rounds))) = true) := by decide +kernel

theorem wit_CoresAreSubstituted_coreSubstitution :
  let d : Fin 16 := 3
  let c : Fin 32 := 5
  let slot : Nat := 5
  let rest : List Nat := [9]
  let s : State := (onCore 3 5 (fun x => { x with q1 := { enable := true, halt := some .fault } })).modDie 3 (fun x => { x with substDue := [5, 9] })
  (TablesRise s) ∧ (s.dieRuns d = true) ∧ ((s.die d).subst = none) ∧ ((s.die d).substDue = c.val :: rest) ∧ (s.flt.ump.forced = none) ∧ (s.slotOf d c = some slot) ∧ (s.spares d ≠ []) := by decide +kernel

theorem wit_CoresAreSubstituted_coreSubstitutionOut :
  let d : Fin 16 := 3
  let c : Fin 32 := 5
  let rest : List Nat := [9]
  let s : State := onDie 3 (fun x => { x with substDue := [5, 9], coreMap := [(5, 37)] })
  (Rises s.dies) ∧ (s.dieRuns d = true) ∧ ((s.die d).subst = none) ∧ ((s.die d).substDue = c.val :: rest) ∧ (s.flt.ump.forced = none) ∧ (s.slotOf d c = none) := by decide +kernel

theorem wit_CoresAreSubstituted_coreSubstitutionStands :
  let d : Fin 16 := 3
  let c : Fin 32 := 5
  let s : State := onDie 3 (fun x => { x with substDue := [9, 5] })
  (s.dieRuns d = false ∨ (s.die d).subst.isSome = true ∨ (s.die d).substDue.head? ≠ some c.val ∨ s.flt.ump.forced.isSome = true) := by decide +kernel

theorem wit_CoresAreSubstituted_coreSubstitutionNone :
  let d : Fin 16 := 3
  let c : Fin 32 := 5
  let slot : Nat := 5
  let rest : List Nat := [9]
  let s : State := up.modDie 3 (fun x => { x with substDue := [5, 9], retired := [32, 33, 34, 35] })
  (TablesRise s) ∧ (s.dieRuns d = true) ∧ ((s.die d).subst = none) ∧ ((s.die d).substDue = c.val :: rest) ∧ ((s.die d).heldActs = []) ∧ (Quiet s d) ∧ (s.host.ordered = []) ∧ (Memory.wf s.mem = true) ∧ (s.flt.ump.forced = none) ∧ (s.slotOf d c = some slot) ∧ (s.spares d = []) := by
  repeat' apply And.intro
  all_goals first | decide +kernel

theorem wit_CoresAreSubstituted_coreSubstitute :
  let v : BitVec 16 := 0x305
  let s : State := onDie 3 (fun x => { x with substDue := [9] })
  (Rises s.dies) ∧ (Writable s) ∧ (v.toNat / 256 < 16) ∧ (v.toNat % 256 < 32) ∧ (s.coreOut (v.toNat / 256) (v.toNat % 256) = false) ∧ (s.spares (v.toNat / 256) ≠ []) ∧ (s.substituting (v.toNat / 256) (v.toNat % 256) = false) ∧ ((s.die (v.toNat / 256)).substDue.contains (v.toNat % 256) = false) := by decide +kernel

theorem wit_CoresAreSubstituted_coreSubstituteAgain :
  let v : BitVec 16 := 0x305
  let s : State := onDie 3 (fun x => { x with substDue := [5] })
  (Writable s) ∧ (v.toNat / 256 < 16) ∧ (v.toNat % 256 < 32) ∧ (s.coreOut (v.toNat / 256) (v.toNat % 256) = false) ∧ (s.spares (v.toNat / 256) ≠ []) ∧ (s.substituting (v.toNat / 256) (v.toNat % 256) = true ∨ (s.die (v.toNat / 256)).substDue.contains (v.toNat % 256) = true) := by decide +kernel

theorem wit_CoresAreSubstituted_coreSubstituteEarly_1 :
  let s : State := withObj 0xB000 1 2
  (s.sys.ball = none ∨ s.obj 0xB000 1 ≤ 2) := by decide +kernel

theorem wit_CoresAreSubstituted_coreSubstituteEarly_2 :
  let s : State := { up with sys := { } }
  (s.sys.ball = none ∨ s.obj 0xB000 1 ≤ 2) := by decide +kernel

theorem wit_CoresAreSubstituted_coreSubstituteRange_1 :
  let v : BitVec 16 := 0x320
  let s : State := up
  (Writable s) ∧ (16 ≤ v.toNat / 256 ∨ 32 ≤ v.toNat % 256) := by decide +kernel

theorem wit_CoresAreSubstituted_coreSubstituteRange_2 :
  let v : BitVec 16 := 0x1005
  let s : State := up
  (Writable s) ∧ (16 ≤ v.toNat / 256 ∨ 32 ≤ v.toNat % 256) := by decide +kernel

theorem wit_CoresAreSubstituted_coreSubstituteState_1 :
  let v : BitVec 16 := 0x305
  let s : State := onDie 3 (fun x => { x with coreMap := [(5, 37)] })
  (Writable s) ∧ (v.toNat / 256 < 16) ∧ (v.toNat % 256 < 32) ∧ (s.coreOut (v.toNat / 256) (v.toNat % 256) = true ∨ s.spares (v.toNat / 256) = []) := by decide +kernel

theorem wit_CoresAreSubstituted_coreSubstituteState_2 :
  let v : BitVec 16 := 0x305
  let s : State := onDie 3 (fun x => { x with retired := [32, 33, 34, 35] })
  (Writable s) ∧ (v.toNat / 256 < 16) ∧ (v.toNat % 256 < 32) ∧ (s.coreOut (v.toNat / 256) (v.toNat % 256) = true ∨ s.spares (v.toNat / 256) = []) := by decide +kernel

theorem wit_CoresAreSubstituted_substitutionDrainEnd :
  let d : Fin 16 := 3
  let x : Subst := { core := 5, slot := 5, spare := 35, since := 7 }
  let s : State := onDie 3 (fun x => { x with subst := some { core := 5, slot := 5, spare := 35, since := 7 } })
  (Rises s.dies) ∧ ((s.die d).subst = some x) ∧ (x.drained = false) ∧ (s.flt.ump.forced = none) ∧ ((s.core d x.core).running = []) ∧ (s.pwr.has (.spareSlot d) = false) ∧ (s.pwr.asks (.spareSlot d) = false) := by decide +kernel

theorem wit_CoresAreSubstituted_substitutionDrainWaits :
  let d : Fin 16 := 3
  let s : State := onDie 3 (fun x => { x with subst := some { core := 5, slot := 5, spare := 35, drained := true, since := 7 } })
  (s.flt.ump.forced.isSome = true ∨ (s.die d).subst.all (fun x => x.drained || (!(s.core d x.core).running.isEmpty && decide (s.time < x.since + 100 * tickUs))) = true) := by decide +kernel

theorem wit_CoresAreSubstituted_substitutionDrainAbort :
  let d : Fin 16 := 3
  let x : Subst := { core := 5, slot := 5, spare := 35, since := 7 }
  let s : State := (onCore 3 5 (fun x => { x with q2 := { cBase := BitVec.ofNat 64 (lsAddr 5 0), run := [run5 (.hostRead 9)] } })).modDie 3 (fun x => { x with subst := some { core := 5, slot := 5, spare := 35, since := 7 } })
  (TablesRise s) ∧ ((s.die d).subst = some x) ∧ (x.drained = false) ∧ (s.flt.ump.forced = none) ∧ (x.core < 32) ∧ (x.since + 100 * tickUs ≤ s.time) ∧ ((s.core d x.core).running ≠ []) ∧ ((s.core d x.core).running.all (fun y => s.ownRing d x.core y.1) = true) ∧ ((s.die d).col.active = []) ∧ ((s.die d).txns = []) ∧ (s.pwr.has (.spareSlot d) = false) ∧ (s.pwr.asks (.spareSlot d) = false) := by
  repeat' apply And.intro
  all_goals first | decide +kernel

theorem wit_CoresAreSubstituted_substitutionDrainRecord :
  let d : Fin 16 := 3
  let x : Subst := { core := 5, slot := 5, spare := 35, since := 7 }
  let e : Fin 3 := 2
  let r : Run := run5 (.hostRead 9)
  let s : State := (onCore 3 5 (fun x => { x with q2 := { cBase := 0x2000, cSize := 6, run := [run5 (.hostRead 9)] } })).modDie 3 (fun x => { x with subst := some { core := 5, slot := 5, spare := 35, since := 7 } })
  (TablesRise s) ∧ (Memory.wf s.mem = true) ∧ ((s.die d).subst = some x) ∧ (x.drained = false) ∧ (s.flt.ump.forced = none) ∧ (x.core < 32) ∧ (x.since + 100 * tickUs ≤ s.time) ∧ ((s.core d x.core).running = [(e.val, r)]) ∧ (s.ownRing d x.core e = false) ∧ (((s.core d x.core).q e).cSize ≠ 0) ∧ (((s.core d x.core).q e).cTail - ((s.core d x.core).q e).cHead ≠ BitVec.ofNat 32 (2 ^ ((s.core d x.core).q e).cSize.toNat)) ∧ (inHbm (((s.core d x.core).q e).cBase.toNat % 2 ^ 44 + 16 * (((s.core d x.core).q e).cTail.toNat % 2 ^ ((s.core d x.core).q e).cSize.toNat) + 15) = true) ∧ ((s.die d).col.active = []) ∧ ((s.die d).txns = []) := by
  repeat' apply And.intro
  all_goals first | decide +kernel

theorem wit_CoresAreSubstituted_spareSelfTestDone :
  let d : Fin 16 := 3
  let x : Subst := { core := 5, slot := 5, spare := 35, drained := true, leave := true, since := 7 }
  let s : State := (onCore 3 5 (fun x => { x with tc := { pc := 8 } })).modDie 3 (fun x => { x with subst := some { core := 5, slot := 5, spare := 35, drained := true, leave := true, since := 7 } })
  (TablesRise s) ∧ (Memory.wf s.mem = true) ∧ ((s.die d).subst = some x) ∧ (x.drained = true) ∧ (x.leave = true) ∧ (s.flt.ump.forced = none) ∧ (x.core < 32) ∧ (x.spare < 36) ∧ (Rises (s.die d).coreMap) ∧ ((s.die d).heldActs = []) ∧ (Quiet s d) ∧ (s.host.ordered = []) ∧ (s.obj 0x7000 1 + 1 < 2 ^ 32) := by
  repeat' apply And.intro
  all_goals first | decide +kernel

theorem wit_CoresAreSubstituted_spareSelfTestStands :
  let d : Fin 16 := 3
  let s : State := onDie 3 (fun x => { x with subst := some { core := 5, slot := 5, spare := 35, drained := true, since := 7 } })
  (s.flt.ump.forced.isSome = true ∨ (s.die d).subst.all (fun x => !x.drained || !x.leave) = true) := by decide +kernel

theorem wit_CoresAreSubstituted_spareSelfTestFailed :
  let d : Fin 16 := 3
  let x : Subst := { core := 5, slot := 5, spare := 35, drained := true, leave := true, since := 7 }
  let s : State := onDie 3 (fun x => { x with subst := some { core := 5, slot := 5, spare := 35, drained := true, leave := true, since := 7 } })
  (Rises s.dies) ∧ (Rises s.dict) ∧ ((s.die d).subst = some x) ∧ (x.drained = true) ∧ (x.leave = true) ∧ (s.flt.ump.forced = none) ∧ ((s.spares d).any (· != x.spare) = true) := by decide +kernel

theorem wit_CoresAreSubstituted_spareSelfTestLast :
  let d : Fin 16 := 3
  let x : Subst := { core := 5, slot := 5, spare := 35, drained := true, leave := true, since := 7 }
  let s : State := onDie 3 (fun x => { x with retired := [32, 33, 34], subst := some { core := 5, slot := 5, spare := 35, drained := true, leave := true, since := 7 } })
  (TablesRise s) ∧ ((s.die d).subst = some x) ∧ (x.drained = true) ∧ (x.leave = true) ∧ (s.flt.ump.forced = none) ∧ (x.core < 32) ∧ ((s.die d).heldActs = []) ∧ (Quiet s d) ∧ (s.host.ordered = []) ∧ ((s.spares d).all (· == x.spare) = true) := by
  repeat' apply And.intro
  all_goals first | decide +kernel

theorem wit_FaultsAreLogged_errorLogEvent :
  let ev : Event := mkEvent 0x19 sevDegraded 3 5 3 9
  let gt : Nat := 512
  let i : Fin 256 := 1
  let g : Nat := 300
  let s : State := { (up.modSpoke 3 (fun x => { x with alarmGt := some 300 })) with flt := { up.flt with raised := [⟨mkEvent 0x19 sevDegraded 3 5 3 9, 512⟩], log := [(0, some { word := 0, at_ := 0 })] } }
  (Rises s.flt.log) ∧ (Rises s.dict) ∧ (s.sys.ball ≠ none) ∧ (Rises s.spokes) ∧ (s.flt.raised.find? (fun r => r.ev == ev) = some ⟨ev, gt⟩) ∧ (g = (if 24 ≤ ev.source.toNat ∨ ev.soft = true ∨ ev.site = 0x13 then gt else (s.spoke ev.source.toNat).alarmGt.getD gt)) ∧ (ev.sev.toNat ≠ sevUnmasked) ∧ (((List.range 256).all (fun j => ((s.logAt j).map (fun e => e.open_ s.time && sameEntry e.word ev)).getD false == false)) = true) ∧ ((s.logAt i = none ∧ (List.range i).all (fun j => (s.logAt j).isSome) = true) ∨ ((List.range 256).all (fun j => (s.logAt j).isSome) = true ∧ s.oldest (fun e => !e.open_ s.time) = some i.val)) ∧ (s.obj 0x8010 ev.site.toNat + 1 < 2 ^ 32) := by
  repeat' apply And.intro
  all_goals first | decide +kernel

theorem wit_FaultsAreLogged_errorLogCoalesce :
  let ev : Event := mkEvent 0x19 sevDegraded 3 5 3 9
  let gt : Nat := 512
  let i : Fin 256 := 1
  let e : LogEntry := { word := logWord 8 ⟨mkEvent 0x19 sevDegraded 3 5 3 8, 256⟩, at_ := 2 * tickS - 5 }
  let g : Nat := 512
  let s : State := { up with flt := { up.flt with raised := [⟨mkEvent 0x19 sevDegraded 3 5 3 9, 512⟩], log := [(1, some { word := logWord 8 ⟨mkEvent 0x19 sevDegraded 3 5 3 8, 256⟩, at_ := 2 * tickS - 5 })] } }
  (Rises s.flt.log) ∧ (Rises s.dict) ∧ (s.sys.ball ≠ none) ∧ (Rises s.spokes) ∧ (s.flt.raised.find? (fun r => r.ev == ev) = some ⟨ev, gt⟩) ∧ (g = (if 24 ≤ ev.source.toNat ∨ ev.soft = true ∨ ev.site = 0x13 then gt else (s.spoke ev.source.toNat).alarmGt.getD gt)) ∧ (ev.sev.toNat ≠ sevUnmasked) ∧ (s.logAt i = some e) ∧ (e.open_ s.time = true) ∧ (sameEntry e.word ev = true) ∧ (((List.range i).all (fun j => ((s.logAt j).map (fun e => e.open_ s.time && sameEntry e.word ev)).getD false == false)) = true) ∧ (s.obj 0x8010 ev.site.toNat + 1 < 2 ^ 32) := by
  repeat' apply And.intro
  all_goals first | decide +kernel

theorem wit_FaultsAreLogged_errorLogDrop :
  let ev : Event := mkEvent 0x19 sevDegraded 3 5 3 9
  let gt : Nat := 512
  let s : State := { up with flt := { up.flt with raised := [⟨mkEvent 0x19 sevDegraded 3 5 3 9, 512⟩], log := (List.range 256).map (fun i => (i, some { word := 0, at_ := 2 * tickS - 5 })) } }
  (Rises s.flt.log) ∧ (Rises s.dict) ∧ (s.sys.ball ≠ none) ∧ (Rises s.spokes) ∧ (s.flt.raised.find? (fun r => r.ev == ev) = some ⟨ev, gt⟩) ∧ (ev.sev.toNat < sevUnmasked) ∧ (s.flt.log.map (·.1) = List.range 256) ∧ ((s.flt.log.all (fun kv => (kv.2.map (fun e => e.open_ s.time && !(sameEntry e.word ev))).getD false)) = true) ∧ (s.obj 0x8010 ev.site.toNat + 1 < 2 ^ 32) ∧ (s.obj 0x8000 0x0C + 1 < 2 ^ 32) := by
  repeat' apply And.intro
  all_goals first | decide +kernel

theorem wit_FaultsAreLogged_errorLogDisplaces :
  let ev : Event := mkEvent 0x0E sevFatal 24 0xFF 3 9
  let gt : Nat := 512
  let i : Fin 256 := 1
  let s : State := { up with flt := { up.flt with raised := [⟨mkEvent 0x0E sevFatal 24 0xFF 3 9, 512⟩], log := (List.range 256).map (fun i => (i, some { word := BitVec.ofNat 256 (field 220 4 + field 224 i), at_ := 2 * tickS - 5 })) } }
  (Rises s.flt.log) ∧ (Rises s.dict) ∧ (s.sys.ball ≠ none) ∧ (s.flt.raised.find? (fun r => r.ev == ev) = some ⟨ev, gt⟩) ∧ (sevUnmasked < ev.sev.toNat) ∧ (24 ≤ ev.source.toNat ∨ ev.soft = true ∨ ev.site = 0x13) ∧ (s.flt.log.map (·.1) = List.range 256) ∧ ((s.flt.log.all (fun kv => (kv.2.map (fun e => e.open_ s.time && !(sameEntry e.word ev) && decide (4 ≤ leSev e.word) && decide (leSev e.word ≤ ev.sev.toNat))).getD false)) = true) ∧ (s.flt.log.any (fun kv => (kv.2.map (fun e => leSev e.word == 4)).getD false) = true) ∧ (s.oldest (fun e => leSev e.word == 4) = some i.val) ∧ (s.obj 0x8010 ev.site.toNat + 1 < 2 ^ 32) := by
  repeat' apply And.intro
  all_goals first | decide +kernel

theorem wit_FaultsAreLogged_errorLogStands :
  let ev : Event := mkEvent 0x19 sevDegraded 3 5 3 9
  let s : State := up
  (s.sys.ball = none ∨ s.flt.raised.any (fun r => r.ev == ev) = false) := by decide +kernel

theorem wit_FaultsAreLogged_errorLogUnmasked :
  let ev : Event := mkEvent 0x16 sevUnmasked 24 0xFF 0 0
  let gt : Nat := 512
  let s : State := { withObj 0x8000 1 2 with flt := { raised := [⟨mkEvent 0x16 sevUnmasked 24 0xFF 0 0, 512⟩] } }
  (s.sys.ball ≠ none) ∧ (s.flt.raised.find? (fun r => r.ev == ev) = some ⟨ev, gt⟩) ∧ (ev.sev.toNat = sevUnmasked) ∧ (s.memberState = 2) ∧ (Rises s.dict) := by decide +kernel

theorem wit_FaultsAreLogged_errorLogUnmaskedLater :
  let ev : Event := mkEvent 0x16 sevUnmasked 24 0xFF 0 0
  let gt : Nat := 512
  let s : State := { up with flt := { raised := [⟨mkEvent 0x16 sevUnmasked 24 0xFF 0 0, 512⟩] } }
  (s.sys.ball ≠ none) ∧ (s.flt.raised.find? (fun r => r.ev == ev) = some ⟨ev, gt⟩) ∧ (ev.sev.toNat = sevUnmasked) ∧ (s.memberState ≤ 1) ∧ (Rises s.dict) := by decide +kernel

theorem wit_FaultsAreLogged_logHandlingExpire :
  let i : Fin 256 := 255
  let e : LogEntry := { word := 4, at_ := 5 }
  let s : State := { up with flt := { up.flt with log := [(255, some { word := 4, at_ := 5 })] } }
  (Rises s.flt.log) ∧ (s.logAt i = some e) ∧ (e.handling = true) ∧ (e.at_ + tickS ≤ s.time) := by decide +kernel

theorem wit_FaultsAreLogged_logHandlingStands :
  let i : Fin 256 := 255
  let s : State := { up with flt := { up.flt with log := [(255, some { word := 4, at_ := 2 * tickS - 5 })] } }
  ((s.logAt i).all (fun e => !e.handling || decide (s.time < e.at_ + tickS)) = true) := by decide +kernel

theorem wit_FaultsAreLogged_fltLogAck :
  let s : State := { up with flt := { up.flt with log := [(1, some { word := logWord 8 ⟨mkEvent 0x19 sevDegraded 3 5 3 8, 256⟩, at_ := 5 }), (2, some { word := logWord 9 ⟨mkEvent 0x19 sevDegraded 3 5 3 8, 256⟩, at_ := 5 })] } }
  (Rises s.flt.log) ∧ (Writable s) := by decide +kernel

theorem wit_FaultsAreLogged_fltLogOverflow :
  let s : State := withObj 0x8000 0x0B 1
  (Rises s.dict) ∧ (Writable s) := by decide +kernel

theorem wit_FaultsAreLogged_fltLogOverflowRefused :
  let v : BitVec 8 := 1
  let s : State := withObj 0x8000 0x0B 1
  (Writable s) ∧ (v ≠ 0) := by decide +kernel

theorem wit_FaultsAreLogged_fltLogEarly :
  let s : State := withObj 0xB000 1 2
  (s.sys.ball = none ∨ s.obj 0xB000 1 ≤ 2) := by decide +kernel

theorem wit_FaultsAreLogged_fltLogOverflowEarly :
  let s : State := withObj 0xB000 1 2
  (s.sys.ball = none ∨ s.obj 0xB000 1 ≤ 2) := by decide +kernel

theorem wit_ViewChangesByRecord_partnerSuspect :
  let m : BitVec 16 := 9
  let s : State := (inPlay [12]).modGtPort 77 (fun x => { x with seen := true, at_ := 5, pmod := 9 })
  (Rises s.flt.ump.suspects) ∧ (s.memberState = 2) ∧ (s.suspects m.toNat = true) ∧ (mapGet 0 s.flt.ump.suspects m.toNat = 0 ∨ mapGet 0 s.flt.ump.suspects m.toNat - 1 + 10 * tickUs ≤ s.time) ∧ (s.umpireNow = s.moduleId) ∧ (s.backupNow = 0xFFFF) ∧ (s.moduleId < 0xFFFF) ∧ (s.epoch < 2 ^ 32) := by decide +kernel

theorem wit_ViewChangesByRecord_partnerSuspectAway :
  let m : BitVec 16 := 8
  let p : Nat := 77
  let s : State := underNine.modGtPort 76 (fun x => { x with seen := true, at_ := 5, pmod := 8 })
  (Rises s.flt.ump.suspects) ∧ (s.memberState = 2) ∧ (s.suspects m.toNat = true) ∧ (mapGet 0 s.flt.ump.suspects m.toNat = 0 ∨ mapGet 0 s.flt.ump.suspects m.toNat - 1 + 10 * tickUs ≤ s.time) ∧ (Routes s 0 0 s.umpireNow p) ∧ (s.backupNow = 0xFFFF) ∧ (s.umpireNow < 0xFFFF) ∧ (s.moduleId < 0x10000) ∧ (s.epoch < 2 ^ 32) := by decide +kernel

theorem wit_ViewChangesByRecord_partnerSuspectNone :
  let m : BitVec 16 := 9
  let s : State := (inPlay [12]).modGtPort 77 (fun x => { x with seen := true, at_ := 2 * tickS - 5, pmod := 9 })
  (s.memberState ≠ 2 ∨ s.suspects m.toNat = false ∨ (mapGet 0 s.flt.ump.suspects m.toNat ≠ 0 ∧ s.time < mapGet 0 s.flt.ump.suspects m.toNat - 1 + 10 * tickUs)) := by decide +kernel

theorem wit_ViewChangesByRecord_accuseReceive :
  let f : BitVec 256 := from9 0x10 (field 112 8)
  let s : State := atSteward [12, 9] (from9 0x10 (field 112 8))
  (fKind f = 0x10) ∧ (s.fab.frames.contains (24, f) = true) ∧ (s.isUmpire = true) ∧ (bits f 127 112 ≠ s.moduleId) ∧ (s.flt.out.contains (bits f 127 112) = false) ∧ (bit f 111 = false) ∧ ((s.accusers (bits f 127 112)).length + 1 < s.quorum (bits f 127 112)) := by decide +kernel

theorem wit_ViewChangesByRecord_accuseCleared :
  let f : BitVec 256 := from9 0x10 (field 112 8 + field 111 1)
  let s : State := atSteward [12, 9] (from9 0x10 (field 112 8 + field 111 1)) (fun u => { u with accused := [(9, 8, 3), (7, 8, 3)] })
  (fKind f = 0x10) ∧ (s.fab.frames.contains (24, f) = true) ∧ (s.isUmpire = true) ∧ (bits f 127 112 ≠ s.moduleId) ∧ (s.flt.out.contains (bits f 127 112) = false) ∧ (bit f 111 = true) ∧ ((s.accusers (bits f 127 112)).length < s.quorum (bits f 127 112)) := by decide +kernel

theorem wit_ViewChangesByRecord_accuseQuorum :
  let f : BitVec 256 := from9 0x10 (field 112 8)
  let s : State := atSteward [12, 9] (from9 0x10 (field 112 8)) (fun u => { u with accused := [(6, 8, 2 * tickS - 5), (7, 8, 2 * tickS - 6)], joined := [(6, 1), (7, 1), (9, 1)] })
  (TablesRise s) ∧ (NoGroups s) ∧ (IdsFit s) ∧ (fKind f = 0x10) ∧ (s.fab.frames.contains (24, f) = true) ∧ (s.isUmpire = true) ∧ (bits f 127 112 ≠ s.moduleId) ∧ (s.flt.out.contains (bits f 127 112) = false) ∧ (bit f 111 = false) ∧ (s.inPlay (fSrc f) = true) ∧ (s.quorum (bits f 127 112) ≤ ((s.accusers (bits f 127 112)).filter (· != fSrc f)).length + 1) := by
  repeat' apply And.intro
  all_goals first | decide +kernel

theorem wit_ViewChangesByRecord_accuseTakeover :
  let f : BitVec 256 := from9 0x10 (field 112 6)
  let s : State := atSteward [6, 12] (from9 0x10 (field 112 6)) (fun u => { u with accused := [(5, 6, 2 * tickS - 5), (7, 6, 2 * tickS - 6)] })
  (TablesRise s) ∧ (NoGroups s) ∧ (IdsFit s) ∧ (fKind f = 0x10) ∧ (s.fab.frames.contains (24, f) = true) ∧ (s.isUmpire = false) ∧ (s.isBackup = true) ∧ (bits f 127 112 = s.umpireNow) ∧ (bit f 111 = false) ∧ (s.epoch < 2 ^ 32) ∧ (s.flt.out.contains (fSrc f) = false) ∧ (s.quorum s.umpireNow ≤ ((s.accusers s.umpireNow).filter (· != fSrc f)).length + 1) := by
  repeat' apply And.intro
  all_goals first | decide +kernel

theorem wit_ViewChangesByRecord_accuseNotMine :
  let f : BitVec 256 := from9 0x10 (field 112 8)
  let s : State := atSteward [9, 12] (from9 0x10 (field 112 8))
  (fKind f = 0x10) ∧ (s.fab.frames.contains (24, f) = true) ∧ (s.flt.out.contains (bits f 127 112) = true ∨ ((s.isUmpire = false ∨ bits f 127 112 = s.moduleId) ∧ (s.isBackup = false ∨ bits f 127 112 ≠ s.umpireNow))) := by decide +kernel

theorem wit_ViewChangesByRecord_accuseElse :
  let f : BitVec 256 := from9 0x10 8
  let s : State := inPlay [12, 9]
  (fKind f ≠ 0x10 ∨ s.fab.frames.contains (24, f) = false) := by decide +kernel

theorem wit_ViewChangesByRecord_rosterSend :
  let s : State := (inPlay [12]).modGtPort 77 (fun x => { x with seen := true, at_ := 2 * tickS - 5, pmod := 9 })
  (s.memberState = 2) ∧ (s.flt.ump.rosterDue = true ∨ s.flt.ump.rosterLast ≠ (s.activePartners.length, s.obj 0x8000 6) ∨ s.flt.ump.rosterAt + tickMs ≤ s.time) ∧ (s.umpireNow = s.moduleId) ∧ (s.backupNow = 0xFFFF) ∧ (s.moduleId < 0xFFFF) ∧ (s.epoch < 2 ^ 32) ∧ (s.obj 0x8000 6 < 0x10000) := by decide +kernel

theorem wit_ViewChangesByRecord_rosterSendAway :
  let p : Nat := 77
  let s : State := underNine
  (s.memberState = 2) ∧ (s.flt.ump.rosterDue = true ∨ s.flt.ump.rosterLast ≠ (s.activePartners.length, s.obj 0x8000 6) ∨ s.flt.ump.rosterAt + tickMs ≤ s.time) ∧ (Routes s 0 0 s.umpireNow p) ∧ (s.backupNow = 0xFFFF) ∧ (s.umpireNow < 0xFFFF) ∧ (s.moduleId < 0x10000) ∧ (s.epoch < 2 ^ 32) ∧ (s.obj 0x8000 6 < 0x10000) := by decide +kernel

theorem wit_ViewChangesByRecord_rosterSendStands :
  let s : State := (inPlay [12]).modUmp (fun u => { u with rosterLast := (0, 0), rosterAt := 2 * tickS - 5 })
  (s.memberState ≠ 2 ∨ (s.flt.ump.rosterDue = false ∧ s.flt.ump.rosterLast = (s.activePartners.length, s.obj 0x8000 6) ∧ s.time < s.flt.ump.rosterAt + tickMs)) := by decide +kernel

theorem wit_ViewChangesByRecord_rosterReceive :
  let f : BitVec 256 := from9 0x11 (field 120 6 + field 104 2)
  let s : State := atSteward [12, 9] (from9 0x11 (field 120 6 + field 104 2))
  (Rises s.flt.ump.rosters) ∧ (fKind f = 0x11) ∧ (s.fab.frames.contains (24, f) = true) ∧ (s.isUmpire = true ∨ s.isBackup = true) ∧ ((s.accusers (fSrc f)).length < max 3 (bits f 127 120 / 2 + 1) ∨ s.flt.out.contains (fSrc f) = true ∨ fSrc f = s.moduleId ∨ (s.isUmpire = false ∧ fSrc f ≠ s.umpireNow)) := by decide +kernel

theorem wit_ViewChangesByRecord_rosterQuorum :
  let f : BitVec 256 := from9 0x11 (field 120 4)
  let s : State := atSteward [12, 9] (from9 0x11 (field 120 4)) (fun u => { u with accused := [(5, 9, 2 * tickS - 5), (6, 9, 2 * tickS - 5), (7, 9, 2 * tickS - 6)], joined := [(5, 1), (6, 1), (7, 1), (9, 1)], rosters := [(9, (9, 0))] })
  (TablesRise s) ∧ (NoGroups s) ∧ (IdsFit s) ∧ (Rises s.flt.ump.rosters) ∧ (fKind f = 0x11) ∧ (s.fab.frames.contains (24, f) = true) ∧ (s.isUmpire = true) ∧ (fSrc f ≠ s.moduleId) ∧ (s.flt.out.contains (fSrc f) = false) ∧ (max 3 (bits f 127 120 / 2 + 1) ≤ (s.accusers (fSrc f)).length) := by
  repeat' apply And.intro
  all_goals first | decide +kernel

theorem wit_ViewChangesByRecord_rosterOther :
  let f : BitVec 256 := from9 0x11 8
  let s : State := atSteward [9, 6] (from9 0x11 8)
  (fKind f = 0x11) ∧ (s.fab.frames.contains (24, f) = true) ∧ (s.isUmpire = false) ∧ (s.isBackup = false) := by decide +kernel

theorem wit_ViewChangesByRecord_rosterElse :
  let f : BitVec 256 := from9 0x11 8
  let s : State := inPlay [12, 9]
  (fKind f ≠ 0x11 ∨ s.fab.frames.contains (24, f) = false) := by decide +kernel

theorem wit_ViewChangesByRecord_recordReceive :
  let p : Fin 128 := 77
  let f : BitVec 256 := BitVec.ofNat 256 (field 248 0x12 + field 216 45 + field 212 1 + field 208 1 + field 192 8 + field 176 9 + field 160 12 + field 32 (inPlay [9, 12]).umpireDigest)
  let s : State := inPlay [9, 12]
  (TablesRise s) ∧ (NoGroups s) ∧ (s.linkUp p = true) ∧ (s.fenced = false) ∧ (fKind f = 0x12) ∧ (recDigest f = s.umpireDigest) ∧ (recBase f = 0) ∧ (recEpoch f = (s.epoch + 1) % 2 ^ 32) ∧ (recUmpire f = s.umpireNow) ∧ (s.umpireNow ≠ 0xFFFF) ∧ (recSubject f ≠ s.moduleId) ∧ (s.flt.ump.early = []) := by
  repeat' apply And.intro
  all_goals first | decide +kernel

theorem wit_ViewChangesByRecord_recordTakeover :
  let p : Fin 128 := 77
  let f : BitVec 256 := BitVec.ofNat 256 (field 248 0x12 + field 216 300 + field 212 1 + field 208 1 + field 192 6 + field 176 9 + field 160 12 + field 32 (inPlay [6, 9, 12]).umpireDigest + 44)
  let s : State := inPlay [6, 9, 12]
  (TablesRise s) ∧ (NoGroups s) ∧ (s.linkUp p = true) ∧ (s.fenced = false) ∧ (fKind f = 0x12) ∧ (recDigest f = s.umpireDigest) ∧ (recBase f ≠ 0) ∧ (recEpoch f = (recBase f + 256) % 2 ^ 32) ∧ (laterEpoch (recBase f) s.epoch = false) ∧ (laterEpoch (recEpoch f) s.epoch = true) ∧ ((s.voidAbove (recBase f)).takeoverOk f = true) ∧ (recSubject f ≠ s.moduleId) ∧ (s.flt.ump.early = []) := by
  repeat' apply And.intro
  all_goals first | decide +kernel

theorem wit_ViewChangesByRecord_recordNamesOwn :
  let p : Fin 128 := 77
  let f : BitVec 256 := BitVec.ofNat 256 (field 248 0x12 + field 216 45 + field 212 1 + field 208 4 + field 192 12 + field 176 9 + field 160 0xFFFF + field 32 (inPlay [9, 12]).umpireDigest)
  let s : State := inPlay [9, 12]
  (TablesRise s) ∧ (NoGroups s) ∧ (NoCollective s) ∧ (s.linkUp p = true) ∧ (s.memberState = 2) ∧ (fKind f = 0x12) ∧ (recDigest f = s.umpireDigest) ∧ (recBase f = 0) ∧ (recEpoch f = (s.epoch + 1) % 2 ^ 32) ∧ (recUmpire f = s.umpireNow) ∧ (s.umpireNow ≠ 0xFFFF) ∧ (recOut f = true) ∧ (recSubject f = s.moduleId) ∧ (s.hasId = true) ∧ (s.flt.ump.early = []) := by
  repeat' apply And.intro
  all_goals first | decide +kernel

theorem wit_ViewChangesByRecord_recordHeld :
  let p : Fin 128 := 77
  let f : BitVec 256 := BitVec.ofNat 256 (field 248 0x12 + field 216 46 + field 212 1 + field 208 4 + field 192 8 + field 176 9 + field 160 0xFFFF + field 32 (inPlay [9, 12]).umpireDigest)
  let s : State := inPlay [9, 12]
  (s.linkUp p = true) ∧ (s.fenced = false) ∧ (fKind f = 0x12) ∧ (recDigest f = s.umpireDigest) ∧ (recBase f = 0) ∧ (laterEpoch (recEpoch f) ((s.epoch + 1) % 2 ^ 32) = true) ∧ (s.flt.ump.early.contains f = false) := by decide +kernel

theorem wit_ViewChangesByRecord_recordStands :
  let p : Fin 128 := 77
  let f : BitVec 256 := BitVec.ofNat 256 (field 248 0x12 + field 216 44 + field 212 1 + field 208 4 + field 192 8 + field 176 9 + field 160 0xFFFF + field 32 (inPlay [9, 12]).umpireDigest)
  let s : State := inPlay [9, 12]
  (fKind f ≠ 0x12 ∨ s.linkUp p = false ∨ (recDigest f = s.umpireDigest ∧ recBase f = 0 ∧ recEpoch f ≠ (s.epoch + 1) % 2 ^ 32 ∧ (laterEpoch (recEpoch f) ((s.epoch + 1) % 2 ^ 32) = false ∨ s.flt.ump.early.contains f = true))) := by decide +kernel

theorem wit_ViewChangesByRecord_recordDigest :
  let p : Fin 128 := 77
  let f : BitVec 256 := BitVec.ofNat 256 (field 248 0x12 + field 216 45 + field 32 7)
  let s : State := inPlay [9, 12]
  (s.linkUp p = true) ∧ (fKind f = 0x12) ∧ (recDigest f ≠ s.umpireDigest) := by decide +kernel

theorem wit_ViewChangesByRecord_epochReqReceive :
  let p : Fin 128 := 77
  let f : BitVec 256 := BitVec.ofNat 256 (field 248 0x17 + field 216 43)
  let s : State := (inPlay [9, 12]).modUmp (fun u => { u with records := [(inPlay [9, 12]).record true 1 8 44 0, (inPlay [9, 12]).record true 1 7 43 0, (inPlay [9, 12]).record true 1 6 42 0] })
  (s.linkUp p = true) ∧ (s.fenced = false) ∧ (fKind f = 0x17) ∧ (bits f 247 216 ≠ 0) ∧ (laterEpoch (bits f 247 216) s.epoch = false) ∧ (s.flt.ump.records.any (fun r => !laterEpoch (recEpoch r) (bits f 247 216)) = true) := by decide +kernel

theorem wit_ViewChangesByRecord_epochReqWhole :
  let p : Fin 128 := 77
  let f : BitVec 256 := BitVec.ofNat 256 (field 248 0x17)
  let s : State := { inPlay [9, 12] with flt := { (inPlay [9, 12]).flt with out := [8, 65534] } }
  (s.linkUp p = true) ∧ (s.fenced = false) ∧ (fKind f = 0x17) ∧ (bits f 247 216 = 0 ∨ (laterEpoch (bits f 247 216) s.epoch = false ∧ s.flt.ump.records.all (fun r => laterEpoch (recEpoch r) (bits f 247 216)) = true)) := by decide +kernel

theorem wit_ViewChangesByRecord_epochReqNone :
  let p : Fin 128 := 77
  let f : BitVec 256 := BitVec.ofNat 256 (field 248 0x17 + field 216 45)
  let s : State := inPlay [9, 12]
  (fKind f ≠ 0x17 ∨ s.linkUp p = false ∨ s.fenced = true ∨ (bits f 247 216 ≠ 0 ∧ laterEpoch (bits f 247 216) s.epoch = true)) := by decide +kernel

theorem wit_ViewChangesByRecord_viewReceive :
  let p : Fin 128 := 77
  let f : BitVec 256 := BitVec.ofNat 256 (field 248 0x18 + field 216 46 + field 207 327 + 8)
  let s : State := (inPlay [9, 12]).modUmp (fun u => { u with viewEpoch := 46, chunks := [(3, some 1)] })
  (Rises s.flt.ump.chunks) ∧ (s.linkUp p = true) ∧ (fKind f = 0x18) ∧ (laterEpoch (bits f 247 216) s.epoch = true ∨ (s.flt.ump.viewHeld = false ∧ s.memberState = 1)) ∧ (bits f 247 216 ≠ 0) ∧ (bits f 215 207 < 328) ∧ (s.flt.ump.viewEpoch = bits f 247 216) ∧ ((List.range 328).any (fun i => i != bits f 215 207 && (mapGet none s.flt.ump.chunks i).isNone) = true) := by decide +kernel

theorem wit_ViewChangesByRecord_viewReceiveAnew :
  let p : Fin 128 := 77
  let f : BitVec 256 := BitVec.ofNat 256 (field 248 0x18 + field 216 46 + field 207 327 + 8)
  let s : State := (inPlay [9, 12]).modUmp (fun u => { u with viewEpoch := 45, chunks := [(3, some 1)] })
  (s.linkUp p = true) ∧ (fKind f = 0x18) ∧ (laterEpoch (bits f 247 216) s.epoch = true ∨ (s.flt.ump.viewHeld = false ∧ s.memberState = 1)) ∧ (bits f 247 216 ≠ 0) ∧ (bits f 215 207 < 328) ∧ (s.flt.ump.viewEpoch ≠ bits f 247 216) := by decide +kernel

theorem wit_ViewChangesByRecord_viewReceiveUnwanted :
  let p : Fin 128 := 77
  let f : BitVec 256 := BitVec.ofNat 256 (field 248 0x18 + field 216 43 + field 207 3)
  let s : State := inPlay [9, 12]
  (fKind f ≠ 0x18 ∨ s.linkUp p = false ∨ bits f 247 216 = 0 ∨ 328 ≤ bits f 215 207 ∨ (laterEpoch (bits f 247 216) s.epoch = false ∧ (s.flt.ump.viewHeld = true ∨ s.memberState ≠ 1))) := by decide +kernel

theorem wit_ViewChangesByRecord_viewReceiveLast :
  let p : Fin 128 := 77
  let f : BitVec 256 := BitVec.ofNat 256 (field 248 0x18 + field 216 46 + field 207 327 + 8)
  let s : State := ((inPlay [9, 12]).setObj 0x8000 1 1).modUmp (fun u => { u with viewEpoch := 46, chunks := (List.range 327).map (fun i => (i, some (BitVec.ofNat 200 (i / 100)))) })
  (TablesRise s) ∧ (NoGroups s) ∧ (Rises s.flt.ump.chunks) ∧ (s.linkUp p = true) ∧ (fKind f = 0x18) ∧ (laterEpoch (bits f 247 216) s.epoch = true) ∧ (bits f 247 216 ≠ 0) ∧ (bits f 215 207 < 328) ∧ (s.flt.ump.viewEpoch = bits f 247 216) ∧ (s.flt.ump.chunks.map (·.1) = (List.range 328).filter (· != bits f 215 207)) ∧ (s.flt.ump.chunks.all (fun kv => kv.2.isSome) = true) ∧ (s.memberState ≠ 2) ∧ (s.flt.ump.early = []) := by
  repeat' apply And.intro
  all_goals first | decide +kernel

theorem wit_ViewChangesByRecord_viewReceiveFences :
  let p : Fin 128 := 77
  let f : BitVec 256 := BitVec.ofNat 256 (field 248 0x18 + field 216 46 + field 207 0 + field 12 1)
  let out : List Nat := [12]
  let s : State := (inPlay [9, 12]).modUmp (fun u => { u with viewEpoch := 46, chunks := (List.range 327).map (fun i => (i + 1, some 0)) })
  (TablesRise s) ∧ (NoGroups s) ∧ (NoCollective s) ∧ (Rises s.flt.ump.chunks) ∧ (s.linkUp p = true) ∧ (fKind f = 0x18) ∧ (laterEpoch (bits f 247 216) s.epoch = true) ∧ (bits f 247 216 ≠ 0) ∧ (bits f 215 207 < 328) ∧ (s.flt.ump.viewEpoch = bits f 247 216) ∧ (s.flt.ump.chunks.map (·.1) = (List.range 328).filter (· != bits f 215 207)) ∧ (s.flt.ump.chunks.all (fun kv => kv.2.isSome) = true) ∧ (s.memberState = 2) ∧ (out = chunksOut (mapSet none s.flt.ump.chunks (bits f 215 207) (some (BitVec.ofNat 200 (bits f 199 0))))) ∧ (out.contains s.moduleId = true) := by
  repeat' apply And.intro
  all_goals first | decide +kernel

theorem wit_ViewChangesByRecord_beaconSend :
  let s : State := inPlay [12, 9]
  (s.isUmpire = true) ∧ (s.flt.ump.beaconAt + 10 * tickUs ≤ s.time) := by decide +kernel

theorem wit_ViewChangesByRecord_beaconSendStands :
  let s : State := inPlay [9, 12]
  (s.isUmpire = false ∨ s.time < s.flt.ump.beaconAt + 10 * tickUs) := by decide +kernel

theorem wit_ViewChangesByRecord_beaconReceive :
  let p : Fin 128 := 77
  let f : BitVec 256 := BitVec.ofNat 256 (field 248 0x13 + field 216 44 + field 200 9 + field 168 1 + field 104 (inPlay [9, 12]).umpireDigest)
  let s : State := (inPlay [9, 12]).modUmp (fun u => { u with beacon := some 0xFFFFFFFF })
  (s.linkUp p = true) ∧ (s.fenced = false) ∧ (fKind f = 0x13) ∧ (bits f 167 104 = s.umpireDigest) ∧ ((s.flt.ump.beacon.map (fun b => decide (0 < (BitVec.ofNat 32 (bits f 199 168) - b).toInt))).getD true = true) := by decide +kernel

theorem wit_ViewChangesByRecord_beaconReceiveFenced :
  let p : Fin 128 := 77
  let f : BitVec 256 := BitVec.ofNat 256 (field 248 0x13 + field 216 44 + field 200 9 + field 168 1 + field 104 (inPlay [9, 12]).umpireDigest)
  let s : State := (inPlay [9, 12]).setObj 0x8000 1 3
  (s.linkUp p = true) ∧ (s.fenced = true) ∧ (fKind f = 0x13) ∧ (bits f 167 104 = s.umpireDigest) ∧ ((s.flt.ump.beacon.map (fun b => decide (0 < (BitVec.ofNat 32 (bits f 199 168) - b).toInt))).getD true = true) := by decide +kernel

theorem wit_ViewChangesByRecord_beaconDigest :
  let p : Fin 128 := 77
  let f : BitVec 256 := BitVec.ofNat 256 (field 248 0x13 + field 216 44 + field 104 7)
  let s : State := inPlay [9, 12]
  (s.linkUp p = true) ∧ (fKind f = 0x13) ∧ (bits f 167 104 ≠ s.umpireDigest) := by decide +kernel

theorem wit_ViewChangesByRecord_beaconElse :
  let p : Fin 128 := 77
  let f : BitVec 256 := 5
  let s : State := inPlay [9, 12]
  (fKind f ≠ 0x13 ∨ s.linkUp p = false) := by decide +kernel

theorem wit_ViewChangesByRecord_beaconRepeat :
  let f : BitVec 256 := BitVec.ofNat 256 (field 248 0x13 + field 216 44 + field 200 9 + field 168 7 + field 104 (inPlay [9, 12]).umpireDigest)
  let b : BitVec 32 := 7
  let s : State := (inPlay [9, 12]).modUmp (fun u => { u with beacon := some 7 })
  (fKind f = 0x13) ∧ (bits f 167 104 = s.umpireDigest) ∧ (s.flt.ump.beacon = some b) ∧ ((BitVec.ofNat 32 (bits f 199 168) - b).toInt ≤ 0) := by decide +kernel

theorem wit_ViewChangesByRecord_isolationFence :
  let s : State := inPlay [9, 12]
  (TablesRise s) ∧ (NoCollective s) ∧ (s.memberState = 2) ∧ ((s.isUmpire = false ∧ s.flt.ump.beaconAt + s.obj 0x8800 1 * tickUs ≤ s.time) ∨ (s.isUmpire = true ∧ s.alone (s.obj 0x8800 1 * tickUs) = true)) := by decide +kernel

theorem wit_ViewChangesByRecord_isolationWait :
  let s : State := (inPlay [9, 12]).modUmp (fun u => { u with beaconAt := 2 * tickS - 5 })
  (s.memberState ≠ 2 ∨ (s.isUmpire = false ∧ s.time < s.flt.ump.beaconAt + s.obj 0x8800 1 * tickUs) ∨ (s.isUmpire = true ∧ (s.activePartners ≠ [] ∨ s.time < s.flt.ump.umpireAt + s.obj 0x8800 1 * tickUs))) := by decide +kernel

theorem wit_ViewChangesByRecord_epochOpen :
  let rest : List Nat := [9]
  let s : State := fresh [12, 9] 0
  (TablesRise s) ∧ (NoGroups s) ∧ (s.mayJoin = true) ∧ (s.memberState ≤ 1) ∧ (s.epoch = 0) ∧ (s.umpireList = s.moduleId :: rest) ∧ (s.flt.ump.forceDue = false) := by decide +kernel

theorem wit_ViewChangesByRecord_epochOpenForced :
  let rest : List Nat := [9]
  let s : State := (fresh [12, 9] 0).modUmp (fun u => { u with forceDue := true })
  (TablesRise s) ∧ (NoGroups s) ∧ (s.mayJoin = true) ∧ (s.memberState ≤ 1) ∧ (s.epoch = 0) ∧ (s.umpireList = s.moduleId :: rest) ∧ (s.flt.ump.forceDue = true) ∧ (s.moduleId ≠ 0xFFFF) := by decide +kernel

theorem wit_ViewChangesByRecord_epochOpenStands :
  let s : State := fresh [9, 12] 0
  (s.mayJoin = false ∨ 1 < s.memberState ∨ s.epoch ≠ 0 ∨ s.umpireList.head? ≠ some s.moduleId) := by decide +kernel

theorem wit_ViewChangesByRecord_umpireStartTimeout :
  let first : Nat := 9
  let rest : List Nat := []
  let s : State := fresh [9, 12] 0
  (TablesRise s) ∧ (NoGroups s) ∧ (s.mayJoin = true) ∧ (s.memberState ≤ 1) ∧ (s.epoch = 0) ∧ (s.flt.ump.beacon = none) ∧ (s.flt.ump.readyAt + tickS ≤ s.time) ∧ (s.umpireList = first :: s.moduleId :: rest) ∧ (first ≠ s.moduleId) ∧ (s.flt.ump.forceDue = false) := by
  repeat' apply And.intro
  all_goals first | decide +kernel

theorem wit_ViewChangesByRecord_umpireStartStands :
  let s : State := fresh [12, 9] 0
  (s.mayJoin = false ∨ 1 < s.memberState ∨ s.epoch ≠ 0 ∨ s.flt.ump.beacon.isSome = true ∨ s.time < s.flt.ump.readyAt + tickS ∨ s.umpireList[1]? ≠ some s.moduleId) := by decide +kernel

theorem wit_ModulesJoinAndWithdraw_joinSendView :
  let p : Nat := 77
  let ps : List Nat := []
  let s : State := fresh [9, 12] 0
  (Rises s.dict) ∧ (s.mayJoin = true) ∧ (s.memberState ≤ 1) ∧ (s.flt.ump.joinDone = false) ∧ (s.flt.ump.viewHeld = false) ∧ ((s.flt.ump.joinAt.map (fun t => decide (t + 100 * tickUs ≤ s.time))).getD true = true) ∧ (s.openPorts = p :: ps) := by decide +kernel

theorem wit_ModulesJoinAndWithdraw_joinSend :
  let s : State := (fresh [12] 44).modUmp (fun u => { u with viewHeld := true })
  (Rises s.dict) ∧ (s.mayJoin = true) ∧ (s.memberState ≤ 1) ∧ (s.flt.ump.joinDone = false) ∧ (s.flt.ump.viewHeld = true) ∧ ((s.flt.ump.joinAt.map (fun t => decide (t + 100 * tickUs ≤ s.time))).getD true = true) ∧ (s.umpireNow = s.moduleId) ∧ (s.backupNow = 0xFFFF) ∧ (s.moduleId < 0xFFFF) ∧ (s.epoch < 2 ^ 32) ∧ (s.obj 0x8000 6 < 0x10000) := by
  repeat' apply And.intro
  all_goals first | decide +kernel

theorem wit_ModulesJoinAndWithdraw_joinSendAway :
  let p : Nat := 77
  let s : State := { (underNine.setObj 0x8000 1 1).modUmp (fun u => { u with viewHeld := true }) with gt := { underNine.gt with st := 1 } }
  (Rises s.dict) ∧ (s.mayJoin = true) ∧ (s.memberState ≤ 1) ∧ (s.flt.ump.joinDone = false) ∧ (s.flt.ump.viewHeld = true) ∧ ((s.flt.ump.joinAt.map (fun t => decide (t + 100 * tickUs ≤ s.time))).getD true = true) ∧ (s.backupNow = 0xFFFF) ∧ (Routes s 0 0 s.umpireNow p) ∧ (s.umpireNow < 0xFFFF) ∧ (s.moduleId < 0x10000) ∧ (s.epoch < 2 ^ 32) ∧ (s.obj 0x8000 6 < 0x10000) := by
  repeat' apply And.intro
  all_goals first | decide +kernel

theorem wit_ModulesJoinAndWithdraw_joinSendWaits :
  let s : State := (fresh [12] 44).modUmp (fun u => { u with joinDone := true })
  (Rises s.dict) ∧ (s.mayJoin = true) ∧ (s.memberState ≤ 1) ∧ (s.flt.ump.joinDone = true ∨ (s.flt.ump.joinAt.map (fun t => decide (t + 100 * tickUs ≤ s.time))).getD true = false ∨ (s.flt.ump.viewHeld = false ∧ s.openPorts = []) ∨ (s.flt.ump.viewHeld = true ∧ s.umpireNow = 0xFFFF)) := by decide +kernel

theorem wit_ModulesJoinAndWithdraw_joinSendStands :
  let s : State := inPlay [12]
  (s.mayJoin = false ∨ 1 < s.memberState) := by decide +kernel

theorem wit_ModulesJoinAndWithdraw_joinGranted :
  let f : BitVec 256 := from9 0x15 (field 112 2 + field 40 (inPlay [12, 7]).umpireDigest) ^^^ BitVec.ofNat 256 (field 200 5)
  let s : State := atSteward [12, 7] (from9 0x15 (field 112 2 + field 40 (inPlay [12, 7]).umpireDigest) ^^^ BitVec.ofNat 256 (field 200 5))
  (Rises s.flt.ump.joined) ∧ (fKind f = 0x15) ∧ (s.fab.frames.contains (24, f) = true) ∧ (s.isUmpire = true) ∧ (bits f 103 40 = s.umpireDigest) ∧ (s.flt.out.contains (fSrc f) = false) ∧ (s.inPlay (fSrc f) = false) ∧ (fSrc f = s.moduleId) ∧ (s.epoch < 2 ^ 32) := by decide +kernel

theorem wit_ModulesJoinAndWithdraw_joinGrantedAway :
  let f : BitVec 256 := from9 0x15 (field 112 2 + field 40 (inPlay [12, 7]).umpireDigest)
  let p : Nat := 77
  let s : State := asUmpire (from9 0x15 (field 112 2 + field 40 (inPlay [12, 7]).umpireDigest)) id
  (Rises s.flt.ump.joined) ∧ (Rises s.flt.ump.heldJoins) ∧ (Rises s.flt.ump.withdrawn) ∧ (fKind f = 0x15) ∧ (s.fab.frames.contains (24, f) = true) ∧ (s.isUmpire = true) ∧ (Routes s 0 0 (fSrc f) p) ∧ (fSrc f < 0xFFFF) ∧ (s.moduleId < 0x10000) ∧ (s.epoch < 2 ^ 32) ∧ (bits f 103 40 = s.umpireDigest) ∧ (s.flt.out.contains (fSrc f) = false) ∧ (s.inPlay (fSrc f) = false) := by
  repeat' apply And.intro
  all_goals first | decide +kernel

theorem wit_ModulesJoinAndWithdraw_joinHeld :
  let f : BitVec 256 := from9 0x15 (field 112 2 + field 40 (inPlay [12, 7]).umpireDigest)
  let s : State := { atSteward [12, 7] (from9 0x15 (field 112 2 + field 40 (inPlay [12, 7]).umpireDigest)) with flt := { (inPlay [12, 7]).flt with out := [9] } }
  (Rises s.flt.ump.heldJoins) ∧ (fKind f = 0x15) ∧ (s.fab.frames.contains (24, f) = true) ∧ (s.isUmpire = true) ∧ (bits f 103 40 = s.umpireDigest) ∧ (s.flt.out.contains (fSrc f) = true) ∧ (fSrc f ≠ 0xFFFF) := by decide +kernel

theorem wit_ModulesJoinAndWithdraw_joinHeldAway :
  let f : BitVec 256 := from9 0x15 (field 112 2 + field 40 (inPlay [12, 7]).umpireDigest)
  let p : Nat := 77
  let s : State := { asUmpire (from9 0x15 (field 112 2 + field 40 (inPlay [12, 7]).umpireDigest)) id with flt := { (asUmpire (from9 0x15 (field 112 2 + field 40 (inPlay [12, 7]).umpireDigest)) id).flt with out := [9] } }
  (Rises s.flt.ump.joined) ∧ (Rises s.flt.ump.heldJoins) ∧ (Rises s.flt.ump.withdrawn) ∧ (fKind f = 0x15) ∧ (s.fab.frames.contains (24, f) = true) ∧ (s.isUmpire = true) ∧ (Routes s 0 0 (fSrc f) p) ∧ (fSrc f < 0xFFFF) ∧ (s.moduleId < 0x10000) ∧ (s.epoch < 2 ^ 32) ∧ (bits f 103 40 = s.umpireDigest) ∧ (s.flt.out.contains (fSrc f) = true) := by
  repeat' apply And.intro
  all_goals first | decide +kernel

theorem wit_ModulesJoinAndWithdraw_joinAgain :
  let f : BitVec 256 := from9 0x15 (field 112 2 + field 40 (inPlay [12, 7]).umpireDigest)
  let p : Nat := 77
  let s : State := asUmpire (from9 0x15 (field 112 2 + field 40 (inPlay [12, 7]).umpireDigest)) (fun u => { u with joined := [(9, 1)] })
  (KeysRise s) ∧ (NoGroups s) ∧ (IdsFit s) ∧ (Rises s.flt.ump.heldJoins) ∧ (fKind f = 0x15) ∧ (s.fab.frames.contains (24, f) = true) ∧ (s.isUmpire = true) ∧ (Routes s 0 0 (fSrc f) p) ∧ (fSrc f < 0xFFFF) ∧ (s.moduleId < 0x10000) ∧ (s.epoch < 2 ^ 32) ∧ (bits f 103 40 = s.umpireDigest) ∧ (s.inPlay (fSrc f) = true) ∧ (fSrc f ≠ s.moduleId) := by
  repeat' apply And.intro
  all_goals first | decide +kernel

theorem wit_ModulesJoinAndWithdraw_joinRefused :
  let f : BitVec 256 := from9 0x15 (field 112 2) ^^^ BitVec.ofNat 256 (field 200 5)
  let s : State := atSteward [12, 7] (from9 0x15 (field 112 2) ^^^ BitVec.ofNat 256 (field 200 5))
  (fKind f = 0x15) ∧ (s.fab.frames.contains (24, f) = true) ∧ (s.isUmpire = true) ∧ (bits f 103 40 ≠ s.umpireDigest) ∧ (fSrc f = s.moduleId) ∧ (s.epoch < 2 ^ 32) := by decide +kernel

theorem wit_ModulesJoinAndWithdraw_joinRefusedAway :
  let f : BitVec 256 := from9 0x15 (field 112 2)
  let p : Nat := 77
  let s : State := asUmpire (from9 0x15 (field 112 2)) id
  (Rises s.flt.ump.joined) ∧ (Rises s.flt.ump.heldJoins) ∧ (Rises s.flt.ump.withdrawn) ∧ (fKind f = 0x15) ∧ (s.fab.frames.contains (24, f) = true) ∧ (s.isUmpire = true) ∧ (Routes s 0 0 (fSrc f) p) ∧ (fSrc f < 0xFFFF) ∧ (s.moduleId < 0x10000) ∧ (s.epoch < 2 ^ 32) ∧ (bits f 103 40 ≠ s.umpireDigest) := by
  repeat' apply And.intro
  all_goals first | decide +kernel

theorem wit_ModulesJoinAndWithdraw_joinElse :
  let f : BitVec 256 := from9 0x15 8
  let s : State := inPlay [12, 9]
  (fKind f ≠ 0x15 ∨ s.fab.frames.contains (24, f) = false) := by decide +kernel

theorem wit_ModulesJoinAndWithdraw_joinOther :
  let f : BitVec 256 := from9 0x15 8
  let s : State := atSteward [7, 12] (from9 0x15 8)
  (fKind f = 0x15) ∧ (s.fab.frames.contains (24, f) = true) ∧ (s.isUmpire = false) := by decide +kernel

theorem wit_ModulesJoinAndWithdraw_answerJoin :
  let f : BitVec 256 := from9 0x16 (field 120 0x15)
  let s : State := (atSteward [9, 7] (from9 0x16 (field 120 0x15))).setObj 0x8000 1 1
  (Rises s.dict) ∧ (fKind f = 0x16) ∧ (s.fab.frames.contains (24, f) = true) ∧ (fSrc f = s.umpireNow) ∧ (bits f 127 120 = 0x15) ∧ (bits f 119 112 = 0) ∧ (s.memberState = 1) ∧ (s.flt.ump.forceDue = false) := by decide +kernel

theorem wit_ModulesJoinAndWithdraw_answerJoinForced :
  let f : BitVec 256 := from9 0x16 (field 120 0x15)
  let s : State := ((atSteward [9, 7] (from9 0x16 (field 120 0x15))).setObj 0x8000 1 1).modUmp (fun u => { u with forceDue := true })
  (Rises s.dict) ∧ (fKind f = 0x16) ∧ (s.fab.frames.contains (24, f) = true) ∧ (fSrc f = s.umpireNow) ∧ (bits f 127 120 = 0x15) ∧ (bits f 119 112 = 0) ∧ (s.memberState = 1) ∧ (s.flt.ump.forceDue = true) := by decide +kernel

theorem wit_ModulesJoinAndWithdraw_answerJoinHeld :
  let f : BitVec 256 := from9 0x16 (field 120 0x15 + field 112 2)
  let s : State := (atSteward [9, 7] (from9 0x16 (field 120 0x15 + field 112 2))).setObj 0x8000 1 1
  (fKind f = 0x16) ∧ (s.fab.frames.contains (24, f) = true) ∧ (fSrc f = s.umpireNow) ∧ (bits f 127 120 = 0x15) ∧ (bits f 119 112 ≠ 0) ∧ (s.memberState = 1) := by decide +kernel

theorem wit_ModulesJoinAndWithdraw_answerWithdraw_1 :
  let f : BitVec 256 := from9 0x16 (field 120 0x14)
  let s : State := atSteward [9, 7] (from9 0x16 (field 120 0x14))
  (TablesRise s) ∧ (fKind f = 0x16) ∧ (s.fab.frames.contains (24, f) = true) ∧ (fSrc f = s.umpireNow) ∧ (bits f 127 120 = 0x14) ∧ (bits f 119 112 ≤ 1) ∧ (s.memberState = 2) ∧ (s.flt.ump.forced = none) ∧ (s.obj 0x8000 3 ≠ 2) := by decide +kernel

theorem wit_ModulesJoinAndWithdraw_answerWithdraw_2 :
  let f : BitVec 256 := from9 0x16 (field 120 0x14 + field 112 1)
  let s : State := atSteward [9, 7] (from9 0x16 (field 120 0x14 + field 112 1))
  (TablesRise s) ∧ (fKind f = 0x16) ∧ (s.fab.frames.contains (24, f) = true) ∧ (fSrc f = s.umpireNow) ∧ (bits f 127 120 = 0x14) ∧ (bits f 119 112 ≤ 1) ∧ (s.memberState = 2) ∧ (s.flt.ump.forced = none) ∧ (s.obj 0x8000 3 ≠ 2) := by decide +kernel

theorem wit_ModulesJoinAndWithdraw_answerForced :
  let f : BitVec 256 := from9 0x16 (field 120 0x14)
  let s : State := (atSteward [9, 7] (from9 0x16 (field 120 0x14))).modUmp (fun u => { u with forced := some 0 })
  (fKind f = 0x16) ∧ (s.fab.frames.contains (24, f) = true) ∧ (fSrc f = s.umpireNow) ∧ (bits f 127 120 = 0x14) ∧ (s.memberState = 2) ∧ (s.flt.ump.forced.isSome = true) := by decide +kernel

theorem wit_ModulesJoinAndWithdraw_answerWithdrawKept :
  let f : BitVec 256 := from9 0x16 (field 120 0x14 + field 112 2)
  let s : State := atSteward [9, 7] (from9 0x16 (field 120 0x14 + field 112 2))
  (fKind f = 0x16) ∧ (s.fab.frames.contains (24, f) = true) ∧ (fSrc f = s.umpireNow) ∧ (bits f 127 120 = 0x14) ∧ (s.memberState = 2) ∧ (s.flt.ump.forced = none) ∧ (s.obj 0x8000 3 = 2 ∨ 1 < bits f 119 112) := by decide +kernel

theorem wit_ModulesJoinAndWithdraw_answerElse :
  let f : BitVec 256 := from9 0x16 8
  let s : State := inPlay [12, 9]
  (fKind f ≠ 0x16 ∨ s.fab.frames.contains (24, f) = false) := by decide +kernel

theorem wit_ModulesJoinAndWithdraw_answerOther :
  let f : BitVec 256 := from9 0x16 8
  let s : State := atSteward [7, 12] (from9 0x16 8)
  (fKind f = 0x16) ∧ (s.fab.frames.contains (24, f) = true) ∧ (fSrc f ≠ s.umpireNow ∨ ((bits f 127 120 ≠ 0x15 ∨ s.memberState ≠ 1) ∧ (bits f 127 120 ≠ 0x14 ∨ s.memberState ≠ 2))) := by decide +kernel

theorem wit_ModulesJoinAndWithdraw_withdrawGranted :
  let f : BitVec 256 := from9 0x14 (field 96 2) ^^^ BitVec.ofNat 256 (field 200 5)
  let s : State := atSteward [12, 7] (from9 0x14 (field 96 2) ^^^ BitVec.ofNat 256 (field 200 5))
  (Rises s.flt.ump.withdrawn) ∧ (fKind f = 0x14) ∧ (s.fab.frames.contains (24, f) = true) ∧ (s.isUmpire = true) ∧ (s.flt.out.contains (fSrc f) = false) ∧ (bit f 127 = false) ∧ (mapGet 0 s.flt.ump.withdrawn (fSrc f) = 0) ∧ (s.regionOut (bits f 111 96) < s.regionCap (bits f 111 96)) ∧ (fSrc f = s.moduleId) ∧ (s.epoch < 2 ^ 32) := by
  repeat' apply And.intro
  all_goals first | decide +kernel

theorem wit_ModulesJoinAndWithdraw_withdrawGrantedAway :
  let f : BitVec 256 := from9 0x14 (field 96 2)
  let p : Nat := 77
  let s : State := asUmpire (from9 0x14 (field 96 2)) id
  (Rises s.flt.ump.joined) ∧ (Rises s.flt.ump.heldJoins) ∧ (Rises s.flt.ump.withdrawn) ∧ (fKind f = 0x14) ∧ (s.fab.frames.contains (24, f) = true) ∧ (s.isUmpire = true) ∧ (Routes s 0 0 (fSrc f) p) ∧ (fSrc f < 0xFFFF) ∧ (s.moduleId < 0x10000) ∧ (s.epoch < 2 ^ 32) ∧ (s.flt.out.contains (fSrc f) = false) ∧ (bit f 127 = false) ∧ ((mapGet 0 s.flt.ump.withdrawn (fSrc f) = 0 ∧ s.regionOut (bits f 111 96) < s.regionCap (bits f 111 96)) ∨ (mapGet 0 s.flt.ump.withdrawn (fSrc f) ≠ 0 ∧ bit f 126 = false)) := by
  repeat' apply And.intro
  all_goals first | decide +kernel

theorem wit_ModulesJoinAndWithdraw_withdrawDegrade :
  let f : BitVec 256 := from9 0x14 (field 96 2) ^^^ BitVec.ofNat 256 (field 200 5)
  let s : State := atSteward [12, 7] (from9 0x14 (field 96 2) ^^^ BitVec.ofNat 256 (field 200 5)) (fun u => { u with withdrawn := [(8, 3)] })
  (fKind f = 0x14) ∧ (s.fab.frames.contains (24, f) = true) ∧ (s.isUmpire = true) ∧ (s.flt.out.contains (fSrc f) = false) ∧ (bit f 127 = false) ∧ (mapGet 0 s.flt.ump.withdrawn (fSrc f) = 0) ∧ (s.regionCap (bits f 111 96) ≤ s.regionOut (bits f 111 96)) ∧ (fSrc f = s.moduleId) ∧ (s.epoch < 2 ^ 32) := by decide +kernel

theorem wit_ModulesJoinAndWithdraw_withdrawDegradeAway :
  let f : BitVec 256 := from9 0x14 (field 96 2)
  let p : Nat := 77
  let s : State := asUmpire (from9 0x14 (field 96 2)) (fun u => { u with withdrawn := [(8, 3)] })
  (Rises s.flt.ump.joined) ∧ (Rises s.flt.ump.heldJoins) ∧ (Rises s.flt.ump.withdrawn) ∧ (fKind f = 0x14) ∧ (s.fab.frames.contains (24, f) = true) ∧ (s.isUmpire = true) ∧ (Routes s 0 0 (fSrc f) p) ∧ (fSrc f < 0xFFFF) ∧ (s.moduleId < 0x10000) ∧ (s.epoch < 2 ^ 32) ∧ (s.flt.out.contains (fSrc f) = false) ∧ (bit f 127 = false) ∧ (mapGet 0 s.flt.ump.withdrawn (fSrc f) = 0) ∧ (s.regionCap (bits f 111 96) ≤ s.regionOut (bits f 111 96)) := by
  repeat' apply And.intro
  all_goals first | decide +kernel

theorem wit_ModulesJoinAndWithdraw_withdrawGo :
  let f : BitVec 256 := from9 0x14 (field 126 1)
  let s : State := atSteward [12, 9] (from9 0x14 (field 126 1)) (fun u => { u with withdrawn := [(9, 1)] })
  (TablesRise s) ∧ (NoGroups s) ∧ (IdsFit s) ∧ (fKind f = 0x14) ∧ (s.fab.frames.contains (24, f) = true) ∧ (s.isUmpire = true) ∧ (s.flt.out.contains (fSrc f) = false) ∧ (fSrc f ≠ s.moduleId) ∧ (bit f 127 = false) ∧ (bit f 126 = true) ∧ (mapGet 0 s.flt.ump.withdrawn (fSrc f) ≠ 0) := by
  repeat' apply And.intro
  all_goals first | decide +kernel

theorem wit_ModulesJoinAndWithdraw_withdrawForce :
  let f : BitVec 256 := from9 0x14 (field 127 1 + field 96 2)
  let s : State := atSteward [12, 9] (from9 0x14 (field 127 1 + field 96 2))
  (TablesRise s) ∧ (NoGroups s) ∧ (Rises s.flt.ump.withdrawn) ∧ (IdsFit s) ∧ (fKind f = 0x14) ∧ (s.fab.frames.contains (24, f) = true) ∧ (s.isUmpire = true) ∧ (s.flt.out.contains (fSrc f) = false) ∧ (fSrc f ≠ s.moduleId) ∧ (bit f 127 = true) := by
  repeat' apply And.intro
  all_goals first | decide +kernel

theorem wit_ModulesJoinAndWithdraw_withdrawElse :
  let f : BitVec 256 := from9 0x14 8
  let s : State := inPlay [12, 9]
  (fKind f ≠ 0x14 ∨ s.fab.frames.contains (24, f) = false) := by decide +kernel

theorem wit_ModulesJoinAndWithdraw_withdrawOther :
  let f : BitVec 256 := from9 0x14 8
  let s : State := atSteward [7, 12] (from9 0x14 8)
  (fKind f = 0x14) ∧ (s.fab.frames.contains (24, f) = true) ∧ (s.isUmpire = false ∨ s.flt.out.contains (fSrc f) = true) := by decide +kernel

theorem wit_ModulesJoinAndWithdraw_fltSendOff :
  let v : BitVec 16 := 9
  let s : State := inPlay [12, 9]
  (TablesRise s) ∧ (NoGroups s) ∧ (IdsFit s) ∧ (Writable s) ∧ (s.isUmpire = true) ∧ (s.flt.out.contains v.toNat = false) ∧ (v ≠ 0xFFFF) ∧ (v.toNat ≠ s.moduleId) := by decide +kernel

theorem wit_ModulesJoinAndWithdraw_fltSendOffRefused :
  let v : BitVec 16 := 9
  let s : State := inPlay [9, 12]
  (Writable s) ∧ (s.isUmpire = false ∨ s.flt.out.contains v.toNat = true) := by decide +kernel

theorem wit_ModulesJoinAndWithdraw_fltSendOffRange :
  let v : BitVec 16 := 0xFFFF
  let s : State := inPlay [12, 9]
  (Writable s) ∧ (s.isUmpire = true) ∧ (s.flt.out.contains v.toNat = false) ∧ (v = 0xFFFF) := by decide +kernel

theorem wit_ModulesJoinAndWithdraw_fltAdmit :
  let v : BitVec 16 := 9
  let s : State := { (inPlay [12, 9]).modUmp (fun u => { u with heldJoins := [(9, 3)] }) with flt := { ((inPlay [12, 9]).modUmp (fun u => { u with heldJoins := [(9, 3)] })).flt with out := [9] } }
  (TablesRise s) ∧ (NoGroups s) ∧ (IdsFit s) ∧ (Writable s) ∧ (Rises s.flt.ump.joined) ∧ (Rises s.flt.ump.heldJoins) ∧ (s.isUmpire = true) ∧ (v ≠ 0xFFFF) ∧ (mapGet 0 s.flt.ump.heldJoins v.toNat ≠ 0) := by decide +kernel

theorem wit_ModulesJoinAndWithdraw_fltAdmitAll :
  let s : State := inPlay [12, 9]
  (Writable s) ∧ (s.isUmpire = true) ∧ (s.flt.ump.heldJoins = []) := by decide +kernel

theorem wit_ModulesJoinAndWithdraw_fltAdmitEach :
  let a : Nat := 8
  let b : Nat := 9
  let s : State := { (inPlay [12, 9]) with flt := { ((inPlay [12, 9]).modUmp (fun u => { u with heldJoins := [(8, 2), (9, 3)] })).flt with out := [8, 9] } }
  (TablesRise s) ∧ (NoGroups s) ∧ (IdsFit s) ∧ (Writable s) ∧ (Rises s.flt.ump.joined) ∧ (s.isUmpire = true) ∧ (s.flt.ump.heldJoins.map (·.1) = [a, b]) ∧ (Rises s.flt.ump.heldJoins) ∧ (mapGet 0 s.flt.ump.heldJoins a ≠ 0) ∧ (mapGet 0 s.flt.ump.heldJoins b ≠ 0) := by
  repeat' apply And.intro
  all_goals first | decide +kernel

theorem wit_ModulesJoinAndWithdraw_fltAdmitRefused_1 :
  let v : BitVec 16 := 9
  let s : State := inPlay [9, 12]
  (Writable s) ∧ (s.isUmpire = false ∨ (v ≠ 0xFFFF ∧ mapGet 0 s.flt.ump.heldJoins v.toNat = 0)) := by decide +kernel

theorem wit_ModulesJoinAndWithdraw_fltAdmitRefused_2 :
  let v : BitVec 16 := 9
  let s : State := inPlay [12, 9]
  (Writable s) ∧ (s.isUmpire = false ∨ (v ≠ 0xFFFF ∧ mapGet 0 s.flt.ump.heldJoins v.toNat = 0)) := by decide +kernel

theorem wit_ModulesJoinAndWithdraw_fltWithdrawnClear :
  let s : State := (inPlay [12, 9]).modUmp (fun u => { u with withdrawn := [(8, 1), (9, 1)] })
  (Rises s.flt.ump.withdrawn) ∧ (Writable s) ∧ (s.isUmpire = true) := by decide +kernel

theorem wit_ModulesJoinAndWithdraw_fltWithdrawnClearRefused :
  let s : State := inPlay [9, 12]
  (Writable s) ∧ (s.isUmpire = false) := by decide +kernel

theorem wit_ModulesJoinAndWithdraw_fltWithdrawGo :
  let s : State := (inPlay [12, 9]).setObj 0x8000 3 2
  (Writable s) ∧ (s.obj 0x8000 3 = 2) ∧ (s.memberState = 2) ∧ (s.flt.ump.goSent = false) ∧ (s.umpireNow = s.moduleId) ∧ (s.moduleId < 0xFFFF) ∧ (s.epoch < 2 ^ 32) ∧ (s.obj 0x8000 6 < 0x10000) := by decide +kernel

theorem wit_ModulesJoinAndWithdraw_fltWithdrawGoAway :
  let p : Nat := 77
  let s : State := underNine.setObj 0x8000 3 2
  (Writable s) ∧ (s.obj 0x8000 3 = 2) ∧ (s.memberState = 2) ∧ (s.flt.ump.goSent = false) ∧ (Routes s 0 0 s.umpireNow p) ∧ (s.umpireNow < 0xFFFF) ∧ (s.moduleId < 0x10000) ∧ (s.epoch < 2 ^ 32) ∧ (s.obj 0x8000 6 < 0x10000) := by decide +kernel

theorem wit_ModulesJoinAndWithdraw_fltWithdrawGoAgain :
  let s : State := ((inPlay [12, 9]).setObj 0x8000 3 2).modUmp (fun u => { u with goSent := true })
  (Writable s) ∧ (s.obj 0x8000 3 = 2) ∧ (s.memberState = 2) ∧ (s.flt.ump.goSent = true) := by decide +kernel

theorem wit_ModulesJoinAndWithdraw_fltWithdrawGoRefused_1 :
  let v : BitVec 8 := 1
  let s : State := inPlay [12, 9]
  (Writable s) ∧ (v ≠ 1 ∨ s.obj 0x8000 3 ≠ 2 ∨ s.memberState ≠ 2) := by decide +kernel

theorem wit_ModulesJoinAndWithdraw_fltWithdrawGoRefused_2 :
  let v : BitVec 8 := 0
  let s : State := inPlay [12, 9]
  (Writable s) ∧ (v ≠ 1 ∨ s.obj 0x8000 3 ≠ 2 ∨ s.memberState ≠ 2) := by decide +kernel

theorem wit_ModulesJoinAndWithdraw_scoreRecompute :
  let s : State := (inPlay [12, 9]).setObj 0x8000 5 0
  (Rises s.dict) ∧ ((s.obj 0x8000 3 = 0 ∧ (s.memberState ≠ 2 ∨ s.obj 0x8000 5 ≤ 1000 - s.penalty)) ∨ 2 ≤ s.obj 0x8000 3 ∨ (s.obj 0x8000 3 = 1 ∧ (1000 - s.penalty < s.obj 0x8000 5 + 50 ∨ s.time < s.flt.calmSince.getD s.time + 60 * tickS))) := by decide +kernel

theorem wit_ModulesJoinAndWithdraw_scoreLow :
  let s : State := (inPlay [12, 9]).setObj 0x8000 5 1001
  (Rises s.dict) ∧ (s.memberState = 2) ∧ (s.obj 0x8000 3 = 0) ∧ (1000 - s.penalty < s.obj 0x8000 5) ∧ (s.umpireNow = s.moduleId) ∧ (s.moduleId < 0xFFFF) ∧ (s.epoch < 2 ^ 32) ∧ (s.obj 0x8000 6 < 0x10000) := by decide +kernel

theorem wit_ModulesJoinAndWithdraw_scoreLowAway :
  let p : Nat := 77
  let s : State := underNine.setObj 0x8000 5 1001
  (s.memberState = 2) ∧ (s.obj 0x8000 3 = 0) ∧ (1000 - s.penalty < s.obj 0x8000 5) ∧ (Routes s 0 0 s.umpireNow p) ∧ (s.umpireNow < 0xFFFF) ∧ (s.moduleId < 0x10000) ∧ (s.epoch < 2 ^ 32) ∧ (s.obj 0x8000 6 < 0x10000) := by decide +kernel

theorem wit_ModulesJoinAndWithdraw_scoreCalm :
  let c : Nat := 0
  let s : State := { ((inPlay [12, 9]).setObj 0x8000 5 0).setObj 0x8000 3 1 with time := 61 * tickS, flt := { (inPlay [12, 9]).flt with calmSince := some 0, svc := true } }
  (Rises s.dict) ∧ (s.obj 0x8000 3 = 1) ∧ (s.obj 0x8000 5 + 50 ≤ 1000 - s.penalty) ∧ (s.flt.calmSince = some c) ∧ (c + 60 * tickS ≤ s.time) := by decide +kernel

theorem wit_ModulesJoinAndWithdraw_withdrawRetry :
  let s : State := { (((inPlay [12, 9]).setObj 0x8000 5 800).setObj 0x8000 4 700).setObj 0x8000 3 1 with time := 11 * tickS }
  (s.obj 0x8000 3 = 1) ∧ (s.memberState = 2) ∧ (s.obj 0x8000 4 < s.obj 0x8000 5) ∧ (s.flt.ump.askedAt + 10 * tickS ≤ s.time) ∧ (s.umpireNow = s.moduleId) ∧ (s.moduleId < 0xFFFF) ∧ (s.epoch < 2 ^ 32) ∧ (s.obj 0x8000 6 < 0x10000) := by decide +kernel

theorem wit_ModulesJoinAndWithdraw_withdrawRetryAway :
  let p : Nat := 77
  let s : State := { (((underNine).setObj 0x8000 5 800).setObj 0x8000 4 700).setObj 0x8000 3 1 with time := 11 * tickS }
  (s.obj 0x8000 3 = 1) ∧ (s.memberState = 2) ∧ (s.obj 0x8000 4 < s.obj 0x8000 5) ∧ (s.flt.ump.askedAt + 10 * tickS ≤ s.time) ∧ (Routes s 0 0 s.umpireNow p) ∧ (s.umpireNow < 0xFFFF) ∧ (s.moduleId < 0x10000) ∧ (s.epoch < 2 ^ 32) ∧ (s.obj 0x8000 6 < 0x10000) := by decide +kernel

theorem wit_ModulesJoinAndWithdraw_withdrawRetryStands :
  let s : State := inPlay [12, 9]
  (s.obj 0x8000 3 ≠ 1 ∨ s.memberState ≠ 2 ∨ s.obj 0x8000 5 ≤ s.obj 0x8000 4 ∨ s.time < s.flt.ump.askedAt + 10 * tickS) := by decide +kernel

theorem wit_ModulesJoinAndWithdraw_withdrawWaitExpire :
  let c : Nat := 0
  let s : State := { ((inPlay [12, 9]).setObj 0x8000 3 2).modUmp (fun u => { u with goWait := some 0 }) with time := 100000 * tickS }
  (s.flt.ump.goWait = some c) ∧ (s.obj 0x8000 3 = 2) ∧ (s.memberState = 2) ∧ (s.flt.ump.goSent = false) ∧ (c + s.obj 0x8800 3 * tickS ≤ s.time) ∧ (s.umpireNow = s.moduleId) ∧ (s.moduleId < 0xFFFF) ∧ (s.epoch < 2 ^ 32) ∧ (s.obj 0x8000 6 < 0x10000) := by decide +kernel

theorem wit_ModulesJoinAndWithdraw_withdrawWaitAway :
  let p : Nat := 77
  let c : Nat := 0
  let s : State := { ((underNine).setObj 0x8000 3 2).modUmp (fun u => { u with goWait := some 0 }) with time := 100000 * tickS }
  (s.flt.ump.goWait = some c) ∧ (s.obj 0x8000 3 = 2) ∧ (s.memberState = 2) ∧ (s.flt.ump.goSent = false) ∧ (c + s.obj 0x8800 3 * tickS ≤ s.time) ∧ (Routes s 0 0 s.umpireNow p) ∧ (s.umpireNow < 0xFFFF) ∧ (s.moduleId < 0x10000) ∧ (s.epoch < 2 ^ 32) ∧ (s.obj 0x8000 6 < 0x10000) := by
  repeat' apply And.intro
  all_goals first | decide +kernel

theorem wit_ModulesJoinAndWithdraw_withdrawWaitStands :
  let s : State := inPlay [12, 9]
  (s.flt.ump.goWait.all (fun c => s.obj 0x8000 3 != 2 || s.memberState != 2 || s.flt.ump.goSent || decide (s.time < c + s.obj 0x8800 3 * tickS)) = true) := by decide +kernel

theorem wit_ModulesJoinAndWithdraw_forcedWithdrawTimeout :
  let c : Nat := 0
  let s : State := (inPlay [12, 9]).modUmp (fun u => { u with forced := some 0 })
  (TablesRise s) ∧ (NoCollective s) ∧ (s.flt.ump.forced = some c) ∧ (c + tickMs ≤ s.time) ∧ (s.memberState ≠ 3) := by decide +kernel

theorem wit_ModulesJoinAndWithdraw_forcedWithdrawStands :
  let s : State := inPlay [12, 9]
  (s.flt.ump.forced.all (fun c => decide (s.time < c + tickMs)) = true) := by decide +kernel

theorem wit_ModulesJoinAndWithdraw_forcedWithdrawFenced :
  let c : Nat := 0
  let s : State := ((inPlay [12, 9]).setObj 0x8000 1 3).modUmp (fun u => { u with forced := some 0 })
  (s.flt.ump.forced = some c) ∧ (c + tickMs ≤ s.time) ∧ (s.memberState = 3) := by decide +kernel

theorem wit_StepsCommitAndMirror_stepCommitOff :
  let d : Fin 16 := 3
  let s : State := up
  (s.dieRuns d = true) ∧ (s.obj 0x8200 1 = 0) := by decide +kernel

theorem wit_StepsCommitAndMirror_stepCommitAsleep :
  let d : Fin 16 := 3
  let s : State := onDie 3 (fun x => { x with pstate := 3 })
  (Rises s.dies) ∧ ((s.die d).everActive = true) ∧ (s.dieRuns d = false) ∧ ((s.die d).pstate ≠ 5) := by decide +kernel

theorem wit_StepsCommitAndMirror_stepCommitStopped :
  let d : Fin 16 := 3
  let s : State := onDie 3 (fun x => { x with everActive := false })
  ((s.die d).everActive = false ∨ (s.die d).pstate = 5) := by decide +kernel

theorem wit_StepsCommitAndMirror_stepCommitWrong :
  let d : Fin 16 := 3
  let n : BitVec 64 := 6
  let s : State := (onDie 3 (fun x => { x with step := { any := true, last := 6 } })).setObj 0x8200 1 1
  (s.dieRuns d = true) ∧ (s.obj 0x8200 1 = 1) ∧ ((s.die d).step.any = true) ∧ (n ≠ (s.die d).step.last + 1) := by decide +kernel

theorem wit_StepsCommitAndMirror_stepCommitWait :
  let d : Fin 16 := 3
  let n : BitVec 64 := 7
  let m : BitVec 64 := 6
  let s : State := (onDie 3 (fun x => { x with step := { any := true, last := 6, busy := some 6 } })).setObj 0x8200 1 1
  (Rises s.dies) ∧ (s.dieRuns d = true) ∧ (s.obj 0x8200 1 = 1) ∧ ((s.die d).step.any = true) ∧ (n = (s.die d).step.last + 1) ∧ ((s.die d).step.busy = some m) := by decide +kernel

theorem wit_StepsCommitAndMirror_stepCommit :
  let d : Fin 16 := 3
  let n : BitVec 64 := 7
  let s : State := (((onDie 3 (fun x => { x with step := { any := true, last := 6 } })).setObj 0x8200 1 1).setObj 0x8200 2 4).setObj 0x8200 4 8192
  (Rises s.dies) ∧ (s.dieRuns d = true) ∧ (s.obj 0x8200 1 = 1) ∧ ((s.die d).step.any = true → n = (s.die d).step.last + 1) ∧ ((s.die d).step.busy = none) ∧ (4096 ≤ s.obj 0x8200 4) ∧ (s.buddyIn = false) := by decide +kernel

theorem wit_StepsCommitAndMirror_stepCommitSend :
  let d : Fin 16 := 3
  let n : BitVec 64 := 7
  let m : Fin 32768 := 0
  let s : State := { (((((linked.modDie 3 (fun x => { x with step := { any := true, last := 6, base := 0x1000, mirror := 0x8000 } })).setObj 0x8200 1 1).setObj 0x8200 2 4).setObj 0x8200 3 9).setObj 0x8200 4 4096) with fab := { linked.fab with routes := [(9, BitVec.ofNat 512 (field 127 1 + field 461 1))] } }
  (TablesRise s) ∧ (Rises (s.die d).txns) ∧ (s.dieRuns d = true) ∧ (s.obj 0x8200 1 = 1) ∧ ((s.die d).step.any = true → n = (s.die d).step.last + 1) ∧ ((s.die d).step.busy = none) ∧ (s.obj 0x8200 2 ≠ 0) ∧ (s.obj 0x8200 4 = 4096) ∧ (s.buddyIn = true) ∧ (s.freeTxn d = some m.val) ∧ ((s.die d).step.base.toNat + n.toNat % s.obj 0x8200 2 * 4096 + 4096 ≤ 2 ^ 44) ∧ ((s.die d).step.mirror.toNat + n.toNat % s.obj 0x8200 2 * 4096 + 4096 ≤ 2 ^ 44) ∧ (s.obj 0x8200 3 < 0x10000) := by
  repeat' apply And.intro
  all_goals first | decide +kernel

theorem wit_StepsCommitAndMirror_stepMirrorDone :
  let d : Fin 16 := 3
  let n : BitVec 64 := 6
  let s : State := onDie 3 (fun x => { x with step := { any := true, last := 6, busy := some 6, buddyLost := true } })
  (Rises s.dies) ∧ ((s.die d).step.busy = some n) ∧ ((s.die d).step.failed = false) ∧ ((s.die d).step.wait = none) ∧ (s.mirrorOpen d = false) := by decide +kernel

theorem wit_StepsCommitAndMirror_stepMirrorFailed :
  let d : Fin 16 := 3
  let n : BitVec 64 := 6
  let s : State := onDie 3 (fun x => { x with step := { any := true, last := 6, busy := some 6, failed := true } })
  (Rises s.dies) ∧ ((s.die d).step.busy = some n) ∧ ((s.die d).step.failed = true) ∧ ((s.die d).step.wait = none) ∧ (s.mirrorOpen d = false) := by decide +kernel

theorem wit_StepsCommitAndMirror_stepMirrorStands :
  let d : Fin 16 := 3
  let ok : Bool := true
  let s : State := onDie 3 (fun x => { x with step := { any := true, last := 6, busy := some 6, failed := true } })
  ((s.die d).step.busy = none ∨ s.mirrorOpen d = true ∨ ok = (s.die d).step.failed) := by decide +kernel

theorem wit_StepsCommitAndMirror_stepMirrorNext :
  let d : Fin 16 := 3
  let n : BitVec 64 := 6
  let m : BitVec 64 := 7
  let s : State := ((onDie 3 (fun x => { x with step := { any := true, last := 6, busy := some 6, wait := some 7 } })).setObj 0x8200 2 4).setObj 0x8200 4 8192
  (Rises s.dies) ∧ ((s.die d).step.busy = some n) ∧ ((s.die d).step.failed = false) ∧ ((s.die d).step.wait = some m) ∧ (s.mirrorOpen d = false) ∧ (s.buddyIn = false) ∧ (4096 ≤ s.obj 0x8200 4) := by decide +kernel

theorem wit_FailuresLockSlots_keyFailure :
  let r : MReq := req0 (7 :: List.replicate 64 1)
  let s : State := withObj 0x9011 8 2
  (TablesRise s) ∧ (Rises s.sec.fails) ∧ (Serves s r.transport) ∧ (r.session = 0) ∧ (r.payload.length = 65) ∧ (ofBytes (r.payload.take 1) < 8) ∧ (mapGet 0 s.sec.locked (ofBytes (r.payload.take 1)) = 0) ∧ (s.slotRole 1 (ofBytes (r.payload.take 1)) = 0xFF ∨ (s.sec.nonces.filter (fun n => n.method == 1 && n.slot == ofBytes (r.payload.take 1) && decide (s.time ≤ n.at_ + 10 * tickS))).all (fun n => !(Config.edVerify (toBytes 32 (s.slotSecret 1 (ofBytes (r.payload.take 1)))) (proveMessage n r.transport) (r.payload.drop 1))) = true) ∧ (((mapGet [] s.sec.fails (ofBytes (r.payload.take 1))).filter (fun x => decide (s.time < x + 60 * tickS))).length < 4) ∧ (s.obj 0x9000 4 + 1 < 2 ^ 32) := by
  repeat' apply And.intro
  all_goals first | decide +kernel

theorem wit_FailuresLockSlots_keyFifthFailure :
  let r : MReq := req0 (7 :: List.replicate 64 1)
  let s : State := { withObj 0x9011 8 2 with sec := { fails := [(7, [1, 2, 3, 4])] } }
  (TablesRise s) ∧ (Rises s.sec.fails) ∧ (Serves s r.transport) ∧ (r.session = 0) ∧ (r.payload.length = 65) ∧ (ofBytes (r.payload.take 1) < 8) ∧ (mapGet 0 s.sec.locked (ofBytes (r.payload.take 1)) = 0) ∧ (s.slotRole 1 (ofBytes (r.payload.take 1)) = 0xFF ∨ (s.sec.nonces.filter (fun n => n.method == 1 && n.slot == ofBytes (r.payload.take 1) && decide (s.time ≤ n.at_ + 10 * tickS))).all (fun n => !(Config.edVerify (toBytes 32 (s.slotSecret 1 (ofBytes (r.payload.take 1)))) (proveMessage n r.transport) (r.payload.drop 1))) = true) ∧ (4 ≤ ((mapGet [] s.sec.fails (ofBytes (r.payload.take 1))).filter (fun x => decide (s.time < x + 60 * tickS))).length) ∧ (s.obj 0x9000 4 + 1 < 2 ^ 32) := by
  repeat' apply And.intro
  all_goals first | decide +kernel

theorem wit_FailuresLockSlots_keyLocked :
  let r : MReq := req0 (7 :: List.replicate 64 1)
  let s : State := { withObj 0x9011 8 2 with sec := { locked := [(7, 61 * tickS)] } }
  (Serves s r.transport) ∧ (r.session = 0) ∧ (r.payload.length = 65) ∧ (ofBytes (r.payload.take 1) < 8) ∧ (mapGet 0 s.sec.locked (ofBytes (r.payload.take 1)) ≠ 0) := by decide +kernel

theorem wit_FailuresLockSlots_passwordFailure_1 :
  let r : MReq := req0 [3, 65]
  let s : State := { withObj 0x9021 4 1 with sec := { fails := [(11, [1, 2, 3, 4])] } }
  (TablesRise s) ∧ (Rises s.sec.fails) ∧ (Serves s r.transport) ∧ (r.session = 0) ∧ (2 ≤ r.payload.length) ∧ (r.payload.length ≤ 65) ∧ (ofBytes (r.payload.take 1) < 4) ∧ (mapGet 0 s.sec.locked (8 + ofBytes (r.payload.take 1)) = 0) ∧ (s.slotRole 2 (ofBytes (r.payload.take 1)) = 0xFF ∨ (s.sec.nonces.all (fun n => n.method != 2 || n.slot != ofBytes (r.payload.take 1) || decide (n.at_ + 10 * tickS < s.time)) = true ∨ Config.sha512 ((toBytes 80 (s.slotSecret 2 (ofBytes (r.payload.take 1)))).take 16 ++ r.payload.drop 1) ≠ (toBytes 80 (s.slotSecret 2 (ofBytes (r.payload.take 1)))).drop 16)) ∧ (s.obj 0x9000 4 + 1 < 2 ^ 32) := by
  repeat' apply And.intro
  all_goals first | decide +kernel

theorem wit_FailuresLockSlots_passwordFailure_2 :
  let r : MReq := req0 [3, 65]
  let s : State := { withObj 0x9021 4 1 with sec := { fails := [(11, [1, 2, 4])] } }
  (TablesRise s) ∧ (Rises s.sec.fails) ∧ (Serves s r.transport) ∧ (r.session = 0) ∧ (2 ≤ r.payload.length) ∧ (r.payload.length ≤ 65) ∧ (ofBytes (r.payload.take 1) < 4) ∧ (mapGet 0 s.sec.locked (8 + ofBytes (r.payload.take 1)) = 0) ∧ (s.slotRole 2 (ofBytes (r.payload.take 1)) = 0xFF ∨ (s.sec.nonces.all (fun n => n.method != 2 || n.slot != ofBytes (r.payload.take 1) || decide (n.at_ + 10 * tickS < s.time)) = true ∨ Config.sha512 ((toBytes 80 (s.slotSecret 2 (ofBytes (r.payload.take 1)))).take 16 ++ r.payload.drop 1) ≠ (toBytes 80 (s.slotSecret 2 (ofBytes (r.payload.take 1)))).drop 16)) ∧ (s.obj 0x9000 4 + 1 < 2 ^ 32) := by
  repeat' apply And.intro
  all_goals first | decide +kernel

theorem wit_FailuresLockSlots_slotOpensAgain :
  let n : Fin 8 := 7
  let s : State := { up with sec := { locked := [(7, 9)] } }
  (Rises s.sec.locked) ∧ (mapGet 0 s.sec.locked (n.val) ≠ 0) ∧ (mapGet 0 s.sec.locked (n.val) ≤ s.time + 1) := by decide +kernel

theorem wit_LocalSessionsTakeTheMailboxRole_localOpens :
  let r : MReq := req0 []
  let k : Nat := 0
  let s : State := up
  (Rises s.sys.sessions) ∧ (Serves s .mailbox) ∧ (r.transport = .mailbox) ∧ (r.session = 0) ∧ (r.payload = []) ∧ (s.obj 0x9000 5 ≠ 0xFF) ∧ (s.freeSession = some k) := by decide +kernel

theorem wit_LocalSessionsTakeTheMailboxRole_localBarred :
  let r : MReq := req0 []
  let s : State := withObj 0x9000 5 0xFF
  (Serves s .mailbox) ∧ (r.transport = .mailbox) ∧ (r.session = 0) ∧ (r.payload = []) ∧ (s.obj 0x9000 5 = 0xFF) := by decide +kernel

theorem wit_LocalSessionsTakeTheMailboxRole_localOnService :
  let r : MReq := { req0 [] with transport := .service }
  let s : State := up
  (Serves s .service) ∧ (r.transport = .service) ∧ (r.session = 0) ∧ (r.payload = []) := by decide +kernel

theorem wit_LocalSessionsTakeTheMailboxRole_localDefault :
  let r : MReq := req0 []
  let s : State := up
  (Serves s .mailbox) ∧ (r.transport = .mailbox) ∧ (r.session = 0) ∧ (r.payload = []) ∧ (mapGet (objDefault 0x9000 5) s.dict (objKey 0x9000 5) = objDefault 0x9000 5) ∧ (Rises s.sys.sessions) ∧ (s.sys.sessions = []) := by decide +kernel

theorem wit_RolesDecideAccess_roleRead :
  let r : MReq := req8 0x9000 5 0 false []
  let x : Machine.Session := sess7
  let o : ObjRow := (objAt 0x9000 5).getD { idx := 0, lo := 0, hi := 0, ty := .bool, acc := .ro, role := .owner, dflt := 0, saved := .n }
  let s : State := withSession
  (Rises s.sys.sessions) ∧ (NextRequest s r x) ∧ (r.payload = []) ∧ (objAt r.index.toNat r.sub.toNat = some o) ∧ (objSize o.ty ≤ 1024) ∧ (o.acc = .rw ∨ (o.acc = .ro ∧ o.role.code ≤ x.role)) := by decide +kernel

theorem wit_RolesDecideAccess_roleReadRefused_1 :
  let r : MReq := req8 0x1010 1 0 false []
  let x : Machine.Session := sess7
  let o : ObjRow := (objAt 0x1010 1).getD { idx := 0, lo := 0, hi := 0, ty := .bool, acc := .ro, role := .owner, dflt := 0, saved := .n }
  let s : State := withSession
  (Rises s.sys.sessions) ∧ (NextRequest s r x) ∧ (r.payload = []) ∧ (objAt r.index.toNat r.sub.toNat = some o) ∧ (o.acc = .wo ∨ (o.acc = .ro ∧ x.role < o.role.code)) := by decide +kernel

theorem wit_RolesDecideAccess_roleReadRefused_2 :
  let r : MReq := req8 0x2800 0 0 false []
  let x : Machine.Session := { sess7 with role := 1 }
  let o : ObjRow := (objAt 0x2800 0).getD { idx := 0, lo := 0, hi := 0, ty := .bool, acc := .ro, role := .owner, dflt := 0, saved := .n }
  let s : State := { up with sys := { up.sys with sessions := [(0, some { sess7 with role := 1 })] } }
  (Rises s.sys.sessions) ∧ (NextRequest s r x) ∧ (r.payload = []) ∧ (objAt r.index.toNat r.sub.toNat = some o) ∧ (o.acc = .wo ∨ (o.acc = .ro ∧ x.role < o.role.code)) := by decide +kernel

theorem wit_RolesDecideAccess_roleWriteRefused :
  let r : MReq := req8 0x9000 5 0 false [1]
  let x : Machine.Session := { sess7 with role := 2 }
  let o : ObjRow := (objAt 0x9000 5).getD { idx := 0, lo := 0, hi := 0, ty := .bool, acc := .ro, role := .owner, dflt := 0, saved := .n }
  let s : State := { up with sys := { up.sys with sessions := [(0, some { sess7 with role := 2 })] } }
  (Rises s.sys.sessions) ∧ (NextRequest s r x) ∧ (r.payload.length ≤ 1024) ∧ (objAt r.index.toNat r.sub.toNat = some o) ∧ (o.acc ≠ .ro) ∧ (x.role < o.role.code) := by decide +kernel

theorem wit_RolesDecideAccess_roleWrite :
  let r : MReq := req8 0x9000 5 0 false [1]
  let x : Machine.Session := sess7
  let o : ObjRow := (objAt 0x9000 5).getD { idx := 0, lo := 0, hi := 0, ty := .bool, acc := .ro, role := .owner, dflt := 0, saved := .n }
  let s : State := withSession
  (Rises s.sys.sessions) ∧ (NextRequest s r x) ∧ (r.payload.length = objSize o.ty) ∧ (r.payload.length ≤ 1024) ∧ (objAt r.index.toNat r.sub.toNat = some o) ∧ (o.acc ≠ .ro) ∧ (o.role.code ≤ x.role) ∧ (r.index ≠ 0x1010) ∧ (r.index ≠ 0x1800) ∧ (r.index ≠ 0xB102) := by
  repeat' apply And.intro
  all_goals first | decide +kernel

end Sys2Proof.Tests
end

section
/-! PROOF. A request executed in its session (R481, R489): what it leaves as it is, the reply it sends, and the statuses that access
checks and the rules of the objects answer. -/

namespace Sys2Proof.Machine

variable (s t u v : State) (r : MReq) (x : Session) (o : ObjRow)

/-! ### What the traffic of a session leaves as it is -/

/-- State t with its sessions, host interface and output as they are in s. -/
def State.asBefore : State := { t with sys := { t.sys with sessions := s.sys.sessions }, host := s.host, out := s.out }

/-- Nothing of s but its sessions, its host interface and its output differs in t. -/
def OnlyTraffic : Prop := s.asBefore t = s

variable {s t u v}

theorem OnlyTraffic.trans (h : OnlyTraffic s t) (g : OnlyTraffic t u) : OnlyTraffic s u :=
  (congrArg s.asBefore g).trans h

theorem OnlyTraffic.dict_eq (h : OnlyTraffic s t) : t.dict = s.dict :=
  show (s.asBefore t).dict = s.dict from congrArg State.dict (show s.asBefore t = s from h)

variable (s)

theorem State.setSession_onlyTraffic (k : Nat) : OnlyTraffic s (s.setSession k x) := rfl

theorem State.emit_onlyTraffic (e : Emission) : OnlyTraffic s (s.emit e) := rfl

theorem State.raiseVec_onlyTraffic (n : Nat) : OnlyTraffic s (s.raiseVec n) := by
  unfold State.raiseVec
  split
  · exact s.emit_onlyTraffic _
  · rfl

/-- A reply in the buffer of the mailbox (R491). -/
def State.replyBuffered (bs : List Byte) : State :=
  { s with host := { s.host with rep := memPut [] 0 bs, mbLen := bs.length, mbReady := true, mbBusy := false } }

theorem State.mhSend_mailbox (bs : List Byte) :
    s.mhSend .mailbox bs = ((s.replyBuffered bs).emit (.mihimel .mailbox bs)).raiseVec 1 := rfl

theorem State.mhSend_onlyTraffic (tr : Transport) (bs : List Byte) : OnlyTraffic s (s.mhSend tr bs) := by
  cases tr with
  | service => exact s.emit_onlyTraffic _
  | mailbox =>
    rw [s.mhSend_mailbox]
    have h : OnlyTraffic s ((s.replyBuffered bs).emit (.mihimel .mailbox bs)) := rfl
    exact h.trans (State.raiseVec_onlyTraffic _ 1)

theorem State.mhReply_onlyTraffic (ty st : Nat) (bs : List Byte) (more : Bool) : OnlyTraffic s (s.mhReply ty r st bs more) := by
  unfold State.mhReply
  refine OnlyTraffic.trans ?_ (State.mhSend_onlyTraffic _ _ _)
  split
  · split
    · exact s.setSession_onlyTraffic _ _
    · rfl
  · rfl

/-! ### The frame that a reply sends -/

/-- A vector raised adds at most a message of its own to the output. -/
theorem State.raiseVec_out (n : Nat) : ∃ l, (s.raiseVec n).out = s.out ++ l := by
  unfold State.raiseVec
  split
  · exact ⟨_, rfl⟩
  · exact ⟨[], (List.append_nil _).symm⟩

theorem State.mhSend_sends (tr : Transport) (bs : List Byte) : .mihimel tr bs ∈ (s.mhSend tr bs).out.drop s.out.length := by
  cases tr with
  | service => simp [State.mhSend, State.emit]
  | mailbox =>
    obtain ⟨l, hl⟩ := ((s.replyBuffered bs).emit (.mihimel .mailbox bs)).raiseVec_out 1
    rw [s.mhSend_mailbox, hl]
    simp [State.emit, State.replyBuffered]

theorem State.mhReply_sends (ty st : Nat) (bs : List Byte) (more : Bool) :
    .mihimel r.transport (frameBytes ty r true more st bs) ∈ (s.mhReply ty r st bs more).out.drop s.out.length := by
  have sends (w : State) (hw : w.out = s.out) :
      .mihimel r.transport (frameBytes ty r true more st bs)
        ∈ (w.mhSend r.transport (frameBytes ty r true more st bs)).out.drop s.out.length :=
    hw ▸ w.mhSend_sends _ _
  unfold State.mhReply
  apply sends
  split
  · split <;> rfl
  · rfl

/-! ### A request taken by its session (R489) -/

/-- The session once it has taken a request that is no segment of a write. -/
def Session.taking (now : Nat) : Session := { x with counter := r.counter, lastAt := now, reply := [], seg := none }

/-- The state in which a request is judged: in the mailbox it has ended the last reply. -/
def State.arrived : State :=
  if r.transport = .mailbox then { s with host := { s.host with mbReady := false, mbUnheld := false } } else s

/-- The state in which the next request of session x is executed. -/
def State.taken : State := (s.arrived r).setSession (r.session.toNat - 1) (x.taking r s.time)

theorem State.arrived_cases : s.arrived r = s ∨ s.arrived r = { s with host := { s.host with mbReady := false, mbUnheld := false } } := by
  unfold State.arrived
  split
  · exact .inr rfl
  · exact .inl rfl

theorem State.taken_onlyTraffic : OnlyTraffic s (s.taken r x) := by
  refine OnlyTraffic.trans ?_ (State.setSession_onlyTraffic _ _ _)
  obtain h | h := s.arrived_cases r <;> rw [h] <;> rfl

@[simp] theorem State.taken_out : (s.taken r x).out = s.out := by
  obtain h | h := s.arrived_cases r <;> simp [State.taken, State.setSession, h]

theorem State.sessionRequest_next (ty : Nat) (h0 : r.session ≠ 0) (hx : s.session (r.session.toNat - 1) = some x)
    (ht : x.transport = r.transport) (he : s.executing r.session = false) (hc : r.counter = x.counter + 1) :
    s.sessionRequest ty r = s.execute ty (r.session.toNat - 1) x r := by
  have hne : ¬ (r.counter = x.counter ∧ x.reply ≠ []) := fun h => by bv_omega
  simp only [State.sessionRequest, if_neg h0, hx, ht, he, if_neg hne, if_pos hc, ne_eq, not_true_eq_false, if_false,
    Bool.false_eq_true]

/-- The next request of a session is executed in it. -/
theorem State.request_next (ty : Nat) (h : NextRequest s r x) (hp : payloadOk ty r.payload.length = true) (hty : 4 < ty) :
    s.request ty false r = (s.arrived r).execute ty (r.session.toNat - 1) x r := by
  obtain ⟨⟨hd, hs, hrec, hsvc, hmb⟩, h0, hx, ht, he, hc⟩ := h
  have hop : ¬ ty ≤ 4 := by omega
  cases htr : r.transport with
  | service =>
    rw [← State.sessionRequest_next (s.arrived r) r x ty h0 (by simpa [State.arrived, htr] using hx) ht
      (by simpa [State.arrived, htr] using he) hc]
    simp [State.request, State.arrived, htr, hd, hs, hrec, hsvc htr, hp, hop]
  | mailbox =>
    rw [← State.sessionRequest_next (s.arrived r) r x ty h0 (by simpa [State.arrived, htr, State.session] using hx) ht
      (by simpa [State.arrived, htr, State.executing] using he) hc]
    simp [State.request, State.arrived, htr, hd, hs, hrec, hmb htr, hp, hop]

theorem State.arrived_time : (s.arrived r).time = s.time := by
  obtain h | h := s.arrived_cases r <;> rw [h]

/-- The next READ of a session. -/
theorem State.exec_read_next (h : NextRequest s r x) (hp : r.payload = []) :
    exec (.read r) s = .next ((s.taken r x).doRead (x.taking r s.time) r) := by
  change Host.Outcome.next (s.request 0x10 false r) = _
  rw [s.request_next r x 0x10 h (by simp [hp, payloadOk]) (by decide)]
  simp [State.execute, State.taken, Session.taking, s.arrived_time]

/-- The next WRITE of a session. -/
theorem State.exec_write_next (h : NextRequest s r x) (hp : r.payload.length ≤ 1024) :
    exec (.write r) s = .next ((s.taken r x).doWrite (x.taking r s.time) r) := by
  change Host.Outcome.next (s.request 0x11 false r) = _
  rw [s.request_next r x 0x11 h (by simp [hp, payloadOk]) (by decide)]
  simp [State.execute, State.taken, Session.taking, s.arrived_time]

/-- A reply to a request that has been taken: its frame leaves, and only the traffic has changed. -/
theorem State.taken_mhReply (ty st : Nat) (bs : List Byte) (more : Bool) :
    .mihimel r.transport (frameBytes ty r true more st bs) ∈ ((s.taken r x).mhReply ty r st bs more).out.drop s.out.length
      ∧ OnlyTraffic s ((s.taken r x).mhReply ty r st bs more) :=
  ⟨s.taken_out r x ▸ (s.taken r x).mhReply_sends r ty st bs more,
    (s.taken_onlyTraffic r x).trans ((s.taken r x).mhReply_onlyTraffic r ty st bs more)⟩

/-! ### Access checks (R481) -/

variable {o} {idx sub : Nat}

theorem idx_of_objRow (h : objRow idx sub = some o) : o.idx = idx := by
  have hf := List.find?_some h
  simp only [Bool.and_eq_true, beq_iff_eq] at hf
  exact hf.1.1

/-- An index with an object has rows. -/
theorem idxRows_ne_nil (h : objAt idx sub = some o) : idxRows idx ≠ [] := by
  unfold objAt at h
  cases hr : objRow idx sub with
  | some p =>
    exact List.ne_nil_of_mem (List.mem_filter.mpr ⟨List.mem_of_find?_eq_some hr, by simp [idx_of_objRow hr]⟩)
  | none =>
    intro he
    simp [hr, he] at h

/-- A READ of an RW object is allowed to every role, and of an RO object to the roles from the object's Role up. -/
theorem readStatus_ok {role : Nat} (h : objAt idx sub = some o) (ha : o.acc = .rw ∨ (o.acc = .ro ∧ o.role.code ≤ role)) :
    readStatus role idx sub = rpOk := by
  obtain ha | ⟨ha, hr⟩ := ha
  · simp [readStatus, idxRows_ne_nil h, h, ha]
  · simp [readStatus, idxRows_ne_nil h, h, ha, Nat.not_lt.mpr hr]

theorem readStatus_refused {role : Nat} (h : objAt idx sub = some o) (ha : o.acc = .wo ∨ (o.acc = .ro ∧ role < o.role.code)) :
    readStatus role idx sub = if o.acc = .wo then rpWriteOnly else rpRole := by
  obtain ha | ⟨ha, hr⟩ := ha
  · simp [readStatus, idxRows_ne_nil h, h, ha]
  · simp [readStatus, idxRows_ne_nil h, h, ha, hr]

theorem writeStatus_ok {role : Nat} (h : objAt idx sub = some o) (ha : o.acc ≠ .ro) (hr : o.role.code ≤ role) :
    writeStatus role idx sub = rpOk := by
  simp [writeStatus, idxRows_ne_nil h, h, ha, Nat.not_lt.mpr hr]

theorem writeStatus_role {role : Nat} (h : objAt idx sub = some o) (ha : o.acc ≠ .ro) (hr : role < o.role.code) :
    writeStatus role idx sub = rpRole := by
  simp [writeStatus, idxRows_ne_nil h, h, ha, hr]

theorem State.doRead_refused (h : readStatus x.role r.index.toNat r.sub.toNat ≠ rpOk) :
    s.doRead x r = s.mhReply 0x10 r (readStatus x.role r.index.toNat r.sub.toNat) [] r.more := by
  simp [State.doRead, h]

theorem State.doRead_ok (h : readStatus x.role r.index.toNat r.sub.toNat = rpOk)
    (hl : (s.objBytes r.index.toNat r.sub.toNat).length ≤ 1024) :
    s.doRead x r = s.mhReply 0x10 r rpOk (s.objBytes r.index.toNat r.sub.toNat) r.more := by
  simp [State.doRead, h, Nat.not_lt.mpr hl]

theorem State.doWrite_refused (h : writeStatus x.role r.index.toNat r.sub.toNat ≠ rpOk) :
    s.doWrite x r = s.mhReply 0x11 r (writeStatus x.role r.index.toNat r.sub.toNat) [] r.more := by
  simp [State.doWrite, h]

/-! ### Values that a taken request leaves as they are -/

theorem State.objBytes_length (h : objAt idx sub = some o) : (s.objBytes idx sub).length = objSize o.ty := by
  simp [State.objBytes, h, toBytes_length]

/-- What the dictionary shows of session k: whether it is open, and its word in SEC.SESSION. -/
def State.sessionShown (k : Nat) : Option Nat := (s.session k).map sessionWord

/-- SEC.SESSION of a session does not show what a request changes in it. -/
theorem sessionWord_taking (now : Nat) : sessionWord (x.taking r now) = sessionWord x := rfl

theorem State.sessionShown_setSession (hr : Rises s.sys.sessions) {k : Nat} {y : Session} (hx : s.session k = some x)
    (hy : sessionWord y = sessionWord x) (j : Nat) : (s.setSession k y).sessionShown j = s.sessionShown j := by
  by_cases hj : j = k
  · subst hj
    have : (s.setSession j y).session j = some y := mapGet_mapSet_same _ _ _ _ hr
    simp [State.sessionShown, this, hx, hy]
  · exact congrArg (Option.map sessionWord) (mapGet_mapSet_ne _ _ _ _ _ _ hj)

/-- Nothing of s differs in t but what no object shows: the host interface but for the speed and width of the link, and the
sessions but for what the dictionary shows of them. -/
def ShowsAlike (s t : State) : Prop :=
  ∃ (h : HostSt) (m : SMap (Option Session)), t = { s with host := h, sys := { s.sys with sessions := m } }
    ∧ h.speed = s.host.speed ∧ h.width = s.host.width ∧ ∀ k, t.sessionShown k = s.sessionShown k

variable {s}

theorem ShowsAlike.objCalc0_eq (h : ShowsAlike s t) : t.objCalc0 idx sub = s.objCalc0 idx sub := by
  obtain ⟨h, m, rfl, -, -, hm⟩ := h
  have ho : (fun k => (State.session { s with host := h, sys := { s.sys with sessions := m } } k).isSome)
      = fun k => (s.session k).isSome :=
    funext fun k => by simpa [State.sessionShown] using congrArg Option.isSome (hm k)
  unfold State.objCalc0
  rw [ho]
  rfl

theorem ShowsAlike.objCalc1_eq (h : ShowsAlike s t) : t.objCalc1 idx sub = s.objCalc1 idx sub := by
  obtain ⟨h, m, rfl, -⟩ := h
  rfl

/-- SEC.SESSION reads what the dictionary shows of the session. -/
theorem State.objCalc2_session (s : State) (h : sub ≠ 0) : s.objCalc2 0x9030 sub = some ((s.sessionShown (sub - 1)).getD 0) := by
  simp only [State.objCalc2, State.sessionShown]
  cases s.session (sub - 1) <;> simp [h]

/-- HOST.LINK reads the speed and width of the link. -/
theorem State.objCalc2_link (s : State) : s.objCalc2 0xA000 1 = some (256 * s.host.speed + s.host.width) := rfl

theorem ShowsAlike.objCalc2_eq (h : ShowsAlike s t) : t.objCalc2 idx sub = s.objCalc2 idx sub := by
  obtain ⟨h, m, rfl, hs, hw, hm⟩ := h
  by_cases h9 : idx = 0x9030 ∧ sub ≠ 0
  · obtain ⟨rfl, hsub⟩ := h9
    rw [State.objCalc2_session _ hsub, State.objCalc2_session _ hsub, hm]
  · by_cases hA : idx = 0xA000 ∧ sub = 1
    · obtain ⟨rfl, rfl⟩ := hA
      rw [State.objCalc2_link, State.objCalc2_link, hs, hw]
    · simp only [State.objCalc2, if_neg h9, if_neg hA]
      rfl

theorem ShowsAlike.obj_eq (h : ShowsAlike s t) (i j : Nat) : t.obj i j = s.obj i j := by
  obtain ⟨-, -, rfl, -⟩ := h
  rfl

theorem ShowsAlike.objVal_eq (h : ShowsAlike s t) : t.objVal idx sub = s.objVal idx sub := by
  have hb : t.bootStep = s.bootStep := h.obj_eq 0xB000 1
  simp only [State.objVal, hb, h.obj_eq, h.objCalc0_eq, h.objCalc1_eq, h.objCalc2_eq]

theorem ShowsAlike.objBytes_eq (h : ShowsAlike s t) : t.objBytes idx sub = s.objBytes idx sub := by
  simp only [State.objBytes, h.objVal_eq]

variable (s) in
/-- A request that its session has taken shows in no object. -/
theorem State.taken_showsAlike (hr : Rises s.sys.sessions) (hx : s.session (r.session.toNat - 1) = some x) :
    ShowsAlike s (s.taken r x) := by
  have hw := sessionWord_taking r x s.time
  unfold State.taken
  obtain h | h := s.arrived_cases r <;> rw [h]
  · exact ⟨s.host, _, rfl, rfl, rfl, s.sessionShown_setSession x hr hx hw⟩
  · exact ⟨{ s.host with mbReady := false, mbUnheld := false }, _, rfl, rfl, rfl, State.sessionShown_setSession _ x hr hx hw⟩

/-! ### What the rules of the objects answer to a write (R482) -/

/-- The statuses that an object's own rules give a write: none of them is an access check's. -/
def ruleStatuses : List Nat := [rpOk, rpRange, rpState, rpBusy]

@[simp] theorem rpOk_mem_ruleStatuses : rpOk ∈ ruleStatuses := by decide
@[simp] theorem rpRange_mem_ruleStatuses : rpRange ∈ ruleStatuses := by decide
@[simp] theorem rpState_mem_ruleStatuses : rpState ∈ ruleStatuses := by decide
@[simp] theorem rpBusy_mem_ruleStatuses : rpBusy ∈ ruleStatuses := by decide

/-- A branch of a write's rule answers a status of the object's own rules where both its sides do. -/
@[simp] theorem ite_mem_ruleStatuses {c : Prop} [Decidable c] {p q : Nat × State} :
    (if c then p else q).1 ∈ ruleStatuses ↔ (c → p.1 ∈ ruleStatuses) ∧ (¬ c → q.1 ∈ ruleStatuses) := by
  by_cases h : c <;> simp [h]

theorem ne_rpRole_of_rule {n : Nat} (h : n ∈ ruleStatuses) : n ≠ rpRole := fun e => absurd (e ▸ h) (by decide)

theorem ne_rpReadOnly_of_rule {n : Nat} (h : n ∈ ruleStatuses) : n ≠ rpReadOnly := fun e => absurd (e ▸ h) (by decide)

section Rules

variable (s : State) (n : Nat)

theorem State.sysStore_rule : (s.sysStore n).1 ∈ ruleStatuses := by simp [State.sysStore]

theorem State.sysRestore_rule : (s.sysRestore n).1 ∈ ruleStatuses := by simp [State.sysRestore]

theorem State.sysHandover_rule : (s.sysHandover n).1 ∈ ruleStatuses := by
  cases h : s.sys.ball <;> simp [State.sysHandover, h]

theorem State.moduleState_rule : (s.moduleState n).1 ∈ ruleStatuses := by
  cases h : s.standbyRefuser <;> simp [State.moduleState, h]

theorem State.hostWake_rule : (s.hostWake n).1 ∈ ruleStatuses := by simp [State.hostWake]

theorem State.tripClear_rule : (s.tripClear n).1 ∈ ruleStatuses := by simp [State.tripClear]

theorem State.commission_rule : (s.commission n).1 ∈ ruleStatuses := by simp [State.commission]

theorem State.setModuleId_rule : (s.setModuleId n).1 ∈ ruleStatuses := by simp [State.setModuleId]

theorem State.gtSetAtPps_rule : (s.gtSetAtPps n).1 ∈ ruleStatuses := by simp [State.gtSetAtPps]

theorem State.gtSet_rule : (s.gtSet n).1 ∈ ruleStatuses := by simp [State.gtSet]

theorem State.testMode_rule : (s.testMode n).1 ∈ ruleStatuses := by simp [State.testMode]

theorem State.rlcEnable_rule : (s.rlcEnable n).1 ∈ ruleStatuses := by simp [State.rlcEnable]

theorem State.coreSubstitute_rule : (s.coreSubstitute n).1 ∈ ruleStatuses := by simp [State.coreSubstitute]

theorem State.withdrawGo_rule : (s.withdrawGo n).1 ∈ ruleStatuses := by simp [State.withdrawGo]

theorem State.logOverflow_rule : (s.logOverflow n).1 ∈ ruleStatuses := by simp [State.logOverflow]

theorem State.sendOff_rule : (s.sendOff n).1 ∈ ruleStatuses := by simp [State.sendOff]

theorem State.fltAdmit_rule : (s.fltAdmit n).1 ∈ ruleStatuses := by simp [State.fltAdmit]

theorem State.withdrawnClear_rule : (s.withdrawnClear n).1 ∈ ruleStatuses := by simp [State.withdrawnClear]

theorem State.commitSvn_rule : (s.commitSvn n).1 ∈ ruleStatuses := by
  cases h : s.sys.ball <;> simp [State.commitSvn, h]

theorem State.ctrlRestart_rule : (s.ctrlRestart n).1 ∈ ruleStatuses := by
  cases h : s.sys.ball <;> simp [State.ctrlRestart, h]

theorem State.objKeep_rule (idx sub : Nat) : (s.objKeep idx sub n).1 ∈ ruleStatuses := by
  simp [State.objKeep]

end Rules

/-- An answer whose status, where there is one, is of the object's own rules. -/
def RuleAnswer (a : Option (Nat × State)) : Prop := ∀ p ∈ a, p.1 ∈ ruleStatuses

theorem RuleAnswer.ite {c : Prop} [Decidable c] {p : Nat × State} {a : Option (Nat × State)} (hp : p.1 ∈ ruleStatuses)
    (ha : RuleAnswer a) : RuleAnswer (if c then some p else a) := by
  split
  · intro q hq
    cases hq
    exact hp
  · exact ha

theorem State.objOp_rule (s : State) (idx sub n : Nat) : RuleAnswer (s.objOp idx sub n) := by
  unfold State.objOp
  refine .ite (s.sysStore_rule n) <| .ite (s.sysRestore_rule n) <| .ite (s.sysHandover_rule n) <| .ite (s.moduleState_rule n) <|
    .ite (s.hostWake_rule n) <| .ite rpOk_mem_ruleStatuses <| .ite rpOk_mem_ruleStatuses <| .ite rpOk_mem_ruleStatuses <|
    .ite (s.tripClear_rule n) <| .ite rpOk_mem_ruleStatuses <| .ite (s.commission_rule n) <| .ite (s.setModuleId_rule n) <|
    .ite rpOk_mem_ruleStatuses <| .ite rpOk_mem_ruleStatuses <| .ite (s.gtSetAtPps_rule n) <| .ite (s.gtSet_rule n) <|
    .ite (s.testMode_rule n) <| .ite (s.rlcEnable_rule n) <| .ite (s.coreSubstitute_rule n) <| .ite (s.withdrawGo_rule n) <|
    .ite rpOk_mem_ruleStatuses <| .ite (s.logOverflow_rule n) <| .ite (s.sendOff_rule n) <| .ite (s.fltAdmit_rule n) <|
    .ite (s.withdrawnClear_rule n) <| .ite rpOk_mem_ruleStatuses <| .ite (s.commitSvn_rule n) <| .ite (s.ctrlRestart_rule n) ?_
  exact fun p hp => nomatch hp

/-- A value that passes the access checks is judged by the rules of the object alone. -/
theorem State.objWrite_rule (s : State) (o : ObjRow) (sub n : Nat) : (s.objWrite o sub n).1 ∈ ruleStatuses := by
  have hjudged : ((s.objOp o.idx sub n).getD (s.objKeep o.idx sub n)).1 ∈ ruleStatuses := by
    cases h : s.objOp o.idx sub n with
    | some p => exact s.objOp_rule o.idx sub n p h
    | none => exact s.objKeep_rule n o.idx sub
  unfold State.objWrite
  exact ite_mem_ruleStatuses.mpr ⟨fun _ => rpState_mem_ruleStatuses, fun _ =>
    ite_mem_ruleStatuses.mpr ⟨fun _ => rpRange_mem_ruleStatuses, fun _ => hjudged⟩⟩

/-! ### A WRITE that passes the access checks -/

/-- The status of a write of a whole value is that of the object's write. -/
theorem State.writeValue_status (s : State) (sess : Nat) {bs : List Byte} (h : objAt idx sub = some o) (hi : idx ≠ 0xB102)
    (hl : bs.length = objSize o.ty) : (s.writeValue sess idx sub bs).1 = (s.objWrite o sub (ofBytes bs)).1 := by
  simp only [State.writeValue, h, if_neg hi, hl, ne_eq, not_true_eq_false, if_false]
  split <;> rfl

/-- The reply to a write of any object but SYS.STORE and SYS.HANDOVER follows at once. -/
theorem State.writeReply_now (p : Nat × State) (ty : Nat) (hs : idx ≠ 0x1010) (hh : idx ≠ 0x1800) :
    State.writeReply p ty idx r = p.2.mhReply ty r p.1 [] r.more := by
  simp [State.writeReply, hs, hh]

theorem State.doWrite_ok (s : State) (h : writeStatus x.role r.index.toNat r.sub.toNat = rpOk) (hi : r.index.toNat ≠ 0xB102) :
    s.doWrite x r = State.writeReply (s.writeValue r.session.toNat r.index.toNat r.sub.toNat r.payload) 0x11 r.index.toNat r := by
  simp [State.doWrite, h, hi]

/-- A WRITE that passes the access checks is answered with the status of the object's write. -/
theorem State.doWrite_judged (s : State) (hst : writeStatus x.role r.index.toNat r.sub.toNat = rpOk)
    (h : objAt r.index.toNat r.sub.toNat = some o) (hl : r.payload.length = objSize o.ty)
    (hs : r.index ≠ 0x1010) (hh : r.index ≠ 0x1800) (hi : r.index ≠ 0xB102) :
    s.doWrite x r = (s.writeValue r.session.toNat r.index.toNat r.sub.toNat r.payload).2.mhReply 0x11 r
      (s.objWrite o r.sub.toNat (ofBytes r.payload)).1 [] r.more := by
  have toNat_ne {c : BitVec 16} (hc : r.index ≠ c) : r.index.toNat ≠ c.toNat := fun e => hc (BitVec.eq_of_toNat_eq e)
  rw [s.doWrite_ok r x hst (toNat_ne hi), State.writeReply_now _ _ _ (toNat_ne hs) (toNat_ne hh),
    s.writeValue_status _ h (toNat_ne hi) hl]

/-! ### R481 -/

/-- Settles O48: the request is taken by its session (`exec_read_next`, `exec_write_next`), the access checks decide its status, and
the reply leaves nothing else changed; a write that passes them answers a status of the object's own rules (`objWrite_rule`). -/
theorem rolesDecideAccess : Obligations.RolesDecideAccess := by
  refine ⟨fun r x o s hrise hn hp ho hsz ha => ?_, fun r x o s hrise hn hp ho ha => ?_, fun r x o s hrise hn hp ho ha hr => ?_,
    fun r x o s hrise hn hsz hp ho ha hr h1010 h1800 hB102 => ?_⟩
  · have ⟨_, _, hx, _⟩ := hn
    have hb : (s.taken r x).objBytes r.index.toNat r.sub.toNat = s.objBytes r.index.toNat r.sub.toNat :=
      (s.taken_showsAlike r x hrise hx).objBytes_eq
    have hl : ((s.taken r x).objBytes r.index.toNat r.sub.toNat).length ≤ 1024 := (State.objBytes_length _ ho).symm ▸ hsz
    have hst : readStatus (x.taking r s.time).role r.index.toNat r.sub.toNat = rpOk := readStatus_ok ho ha
    refine ⟨_, s.exec_read_next r x hn hp, ?_⟩
    rw [State.doRead_ok _ _ _ hst hl, hb]
    exact s.taken_mhReply r x 0x10 _ _ _
  · have hst : readStatus (x.taking r s.time).role r.index.toNat r.sub.toNat = if o.acc = .wo then rpWriteOnly else rpRole :=
      readStatus_refused ho ha
    have hne : readStatus (x.taking r s.time).role r.index.toNat r.sub.toNat ≠ rpOk := by
      rw [hst]
      split <;> decide
    refine ⟨_, s.exec_read_next r x hn hp, ?_⟩
    rw [State.doRead_refused _ _ _ hne, hst]
    exact s.taken_mhReply r x 0x10 _ _ _
  · have hst : writeStatus (x.taking r s.time).role r.index.toNat r.sub.toNat = rpRole := writeStatus_role ho ha hr
    refine ⟨_, s.exec_write_next r x hn hp, ?_⟩
    rw [State.doWrite_refused _ _ _ (hst ▸ by decide), hst]
    exact s.taken_mhReply r x 0x11 _ _ _
  · have hst : writeStatus (x.taking r s.time).role r.index.toNat r.sub.toNat = rpOk := writeStatus_ok ho ha hr
    have hrule := (s.taken r x).objWrite_rule o r.sub.toNat (ofBytes r.payload)
    exact ⟨_, s.exec_write_next r x hn hp, s.taken r x, _, _, (s.taken_onlyTraffic r x).dict_eq, rfl, ne_rpRole_of_rule hrule,
      ne_rpReadOnly_of_rule hrule, (s.taken r x).doWrite_judged r _ hst ho hsz h1010 h1800 hB102⟩

end Sys2Proof.Machine
end

section
/-! PROOF. Opening a session with OPEN_LOCAL (R507): how an opening request arrives, when it is refused, and the session that it
opens. -/

namespace Sys2Proof.Machine

variable (s : State) (r : MReq)

/-! ### What sending a reply leaves as it is -/

/-- Sending a reply changes the host interface and the output alone. -/
theorem State.mhSend_eq (tr : Transport) (bs : List Byte) : ∃ h l, s.mhSend tr bs = { s with host := h, out := l } := by
  cases tr with
  | service => exact ⟨_, _, rfl⟩
  | mailbox =>
    rw [s.mhSend_mailbox]
    unfold State.raiseVec
    split <;> exact ⟨_, _, rfl⟩

@[simp] theorem State.mhSend_sys (tr : Transport) (bs : List Byte) : (s.mhSend tr bs).sys = s.sys := by
  obtain ⟨_, _, h⟩ := s.mhSend_eq tr bs
  rw [h]

@[simp] theorem State.mhSend_session (tr : Transport) (bs : List Byte) (k : Nat) : (s.mhSend tr bs).session k = s.session k := by
  simp [State.session]

theorem State.session_setSession (h : Rises s.sys.sessions) (k : Nat) (x : Session) : (s.setSession k x).session k = some x :=
  mapGet_mapSet_same _ _ _ _ h

theorem State.session_setSession_ne (k j : Nat) (x : Session) (h : j ≠ k) : (s.setSession k x).session j = s.session j :=
  mapGet_mapSet_ne _ _ _ _ _ _ h

/-! ### A request that has arrived -/

/-- A request that arrives changes the host interface alone. -/
theorem State.arrived_eq : ∃ h, s.arrived r = { s with host := h } := by
  obtain h | h := s.arrived_cases r
  · exact ⟨s.host, h⟩
  · exact ⟨_, h⟩

@[simp] theorem State.arrived_out : (s.arrived r).out = s.out := by
  obtain ⟨_, h⟩ := s.arrived_eq r
  rw [h]

@[simp] theorem State.arrived_sys : (s.arrived r).sys = s.sys := by
  obtain ⟨_, h⟩ := s.arrived_eq r
  rw [h]

@[simp] theorem State.arrived_dict : (s.arrived r).dict = s.dict := by
  obtain ⟨_, h⟩ := s.arrived_eq r
  rw [h]

@[simp] theorem State.arrived_session (k : Nat) : (s.arrived r).session k = s.session k := by
  simp [State.session]

@[simp] theorem State.arrived_freeSession : (s.arrived r).freeSession = s.freeSession := by
  simp [State.freeSession]

@[simp] theorem State.arrived_obj (i j : Nat) : (s.arrived r).obj i j = s.obj i j :=
  s.obj_congr _ (s.arrived_dict r) i j

/-- Over the service port a request arrives without any change. -/
theorem State.arrived_service (h : r.transport = .service) : s.arrived r = s := by
  simp [State.arrived, h]

/-- A reply to a request at its arrival changes the host interface and the output alone. -/
theorem State.arrived_mhSend_frame (tr : Transport) (bs : List Byte) :
    { (s.arrived r).mhSend tr bs with host := s.host, out := s.out } = s := by
  obtain ⟨_, harr⟩ := s.arrived_eq r
  obtain ⟨_, _, hsent⟩ := (s.arrived r).mhSend_eq tr bs
  rw [hsent, harr]

/-! ### An opening request (R502, R507) -/

/-- A request to open a session, in a good frame for session 0, is judged by the rules of opening. -/
theorem State.request_opening (ty : Nat) (h : Serves s r.transport) (h0 : r.session = 0)
    (hp : payloadOk ty r.payload.length = true) (hty : ty ≤ 4) : s.request ty false r = (s.arrived r).opening ty r := by
  obtain ⟨hd, hs, hrec, hsvc, hmb⟩ := h
  cases htr : r.transport with
  | service => simp [State.request, State.arrived, htr, hd, hs, hrec, hsvc htr, hp, hty, h0]
  | mailbox => simp [State.request, State.arrived, htr, hd, hs, hrec, hmb htr, hp, hty, h0]

/-- OPEN_LOCAL is judged by the rules of opening. -/
theorem State.exec_openLocal (h : Serves s r.transport) (h0 : r.session = 0) (hp : r.payload = []) :
    exec (.openLocal r) s = .next ((s.arrived r).opening 0x04 r) := by
  change Host.Outcome.next (s.request 0x04 false r) = _
  rw [s.request_opening r 0x04 h h0 (by simp [hp, payloadOk]) (by decide)]

/-- OPEN_LOCAL is refused with AUTH on the service port and while SEC.MAILBOX_ROLE holds 0xFF. -/
theorem State.opening_local_refused (h : r.transport = .service ∨ s.obj 0x9000 5 = 0xFF) :
    s.opening 0x04 r = s.refuse 0x04 r rpAuth := by
  simp [State.opening, h]

/-- OPEN_LOCAL in the mailbox opens a session with the role SEC.MAILBOX_ROLE unless that holds 0xFF. -/
theorem State.opening_local_opens (ht : r.transport = .mailbox) (ho : s.obj 0x9000 5 ≠ 0xFF) :
    s.opening 0x04 r = s.openSession 0x04 r (s.obj 0x9000 5) 3 0 := by
  simp [State.opening, ht, ho]

/-- The session that OPEN_LOCAL opens. -/
def State.localSession : Session :=
  { transport := .mailbox, role := s.obj 0x9000 5, method := 3, slot := 0, lastAt := s.time }

/-- The reply of OPEN_LOCAL that has opened session k. -/
def State.localReply (k : Nat) : List Byte :=
  frameBytes 0x04 r true r.more rpOk (toBytes 1 (k + 1) ++ toBytes 1 (s.obj 0x9000 5))

/-- The state in which OPEN_LOCAL has opened session k and not yet replied. -/
def State.localOpened (k : Nat) : State := (s.arrived r).setSession k s.localSession

theorem State.localOpened_onlyTraffic (k : Nat) : OnlyTraffic s (s.localOpened r k) := by
  have harr : OnlyTraffic s (s.arrived r) := by
    obtain ⟨_, h⟩ := s.arrived_eq r
    rw [h]
    rfl
  exact harr.trans ((s.arrived r).setSession_onlyTraffic _ k)

@[simp] theorem State.localOpened_out (k : Nat) : (s.localOpened r k).out = s.out := s.arrived_out r

theorem State.localOpened_session (h : Rises s.sys.sessions) (k : Nat) :
    (s.localOpened r k).session k = some s.localSession :=
  (s.arrived r).session_setSession (by rwa [s.arrived_sys]) k _

theorem State.localOpened_session_ne (k j : Nat) (h : j ≠ k) : (s.localOpened r k).session j = s.session j :=
  ((s.arrived r).session_setSession_ne k j _ h).trans (s.arrived_session r j)

/-- OPEN_LOCAL in the mailbox opens the lowest free session and replies with its number and role. -/
theorem State.exec_openLocal_opens {k : Nat} (h : Serves s .mailbox) (ht : r.transport = .mailbox) (h0 : r.session = 0)
    (hp : r.payload = []) (ho : s.obj 0x9000 5 ≠ 0xFF) (hk : s.freeSession = some k) :
    exec (.openLocal r) s = .next ((s.localOpened r k).mhSend .mailbox (s.localReply r k)) := by
  rw [s.exec_openLocal r (ht ▸ h) h0 hp, State.opening_local_opens _ r ht (by simpa using ho)]
  simp [State.openSession, State.localOpened, State.localReply, State.localSession, hk, ht, s.arrived_time]

theorem State.exec_openLocal_refused (h : Serves s r.transport) (h0 : r.session = 0) (hp : r.payload = [])
    (hr : r.transport = .service ∨ s.obj 0x9000 5 = 0xFF) :
    exec (.openLocal r) s
      = .next ((s.arrived r).mhSend r.transport (frameBytes 0x04 r true r.more rpAuth [])) := by
  rw [s.exec_openLocal r h h0 hp, State.opening_local_refused _ r (by simpa using hr)]
  rfl

/-- With no session open, the lowest free session is number 0 of the table. -/
theorem State.freeSession_of_none_open (h : s.sys.sessions = []) : s.freeSession = some 0 := by
  simp [State.freeSession, State.session, h, mapGet_nil, List.range_succ]

/-- SEC.MAILBOX_ROLE is Owner by default (object 0x9000:05). -/
theorem objDefault_mailboxRole : objDefault 0x9000 5 = 3 := by decide

/-! ### R507 -/

/-- Settles O47: OPEN_LOCAL is judged by the rules of opening (`exec_openLocal`), which in the mailbox open the lowest free session
with the role SEC.MAILBOX_ROLE (`exec_openLocal_opens`) and else refuse with AUTH (`exec_openLocal_refused`); the reply leaves
every session as it is. -/
theorem localSessionsTakeTheMailboxRole : Obligations.LocalSessionsTakeTheMailboxRole := by
  refine ⟨fun r k s hrise h ht h0 hp ho hk => ?_, fun r s h ht h0 hp ho => ?_, fun r s h ht h0 hp => ?_,
    fun r s h ht h0 hp hdef hrise hnone => ?_⟩
  · have hsends := (s.localOpened r k).mhSend_sends .mailbox (s.localReply r k)
    rw [s.localOpened_out] at hsends
    refine ⟨_, s.exec_openLocal_opens r h ht h0 hp ho hk, ?_, hsends, fun j hj => ?_, ?_⟩
    · rw [State.mhSend_session, s.localOpened_session r hrise]
      rfl
    · rw [State.mhSend_session, s.localOpened_session_ne r k j hj]
    · exact (s.localOpened_onlyTraffic r k).trans (State.mhSend_onlyTraffic _ _ _)
  · have hsends := (s.arrived r).mhSend_sends .mailbox (frameBytes 0x04 r true r.more rpAuth [])
    rw [s.arrived_out] at hsends
    refine ⟨_, s.exec_openLocal_refused r (ht ▸ h) h0 hp (.inr ho), ?_, s.arrived_mhSend_frame r _ _⟩
    rwa [ht]
  · refine ⟨_, s.exec_openLocal_refused r (ht ▸ h) h0 hp (.inl ht), ?_⟩
    rw [s.arrived_service r ht, ht]
    rfl
  · have hrole : s.obj 0x9000 5 = 3 := hdef.trans objDefault_mailboxRole
    refine ⟨_, s.exec_openLocal_opens r h ht h0 hp (by simp [hrole]) (s.freeSession_of_none_open hnone), ?_⟩
    rw [State.mhSend_session, s.localOpened_session r hrise]
    exact congrArg some hrole

end Sys2Proof.Machine
end
